-- ==== Sys2Proof/Word.lean ====
section
/-! DEFINITION. The words of the 8D and their plainest arithmetic: 32-bit register words, two's-complement
readings of a field, clamping and saturation, exact integer square root and power-of-two helpers. -/

namespace Sys2Proof

/-- A register word (chapter "Fenale 8D at a glance", Conventions: all registers are 32 bits wide). -/
abbrev Word := BitVec 32

/-- A byte of a memory, a frame or an image. -/
abbrev Byte := BitVec 8

/-- The value of a Boolean as a one-bit field. -/
def b2n (b : Bool) : Nat := if b then 1 else 0

/-- Bit `i` of a field value. -/
def bit (v i : Nat) : Bool := v / 2 ^ i % 2 == 1

/-- Bits `[lo+w-1:lo]` of a word. -/
def bitsOf (v lo w : Nat) : Nat := v / 2 ^ lo % 2 ^ w

/-- `v` with bit `i` set or cleared. -/
def setBit (v i : Nat) (b : Bool) : Nat :=
  if bit v i = b then v else if b then v + 2 ^ i else v - 2 ^ i

/-- `v` with its bits `[lo+w-1:lo]` replaced by the low `w` bits of `x`. -/
def setBits (v lo w x : Nat) : Nat := v - bitsOf v lo w * 2 ^ lo + x % 2 ^ w * 2 ^ lo

/-- Two's-complement reading of a `w`-bit field. -/
def sgn (w v : Nat) : Int := if v % 2 ^ w < 2 ^ (w - 1) then (v % 2 ^ w : Nat) else ((v % 2 ^ w : Nat) : Int) - (2 ^ w : Nat)

/-- The `w`-bit two's-complement pattern of an integer (wrapping). -/
def uns (w : Nat) (i : Int) : Nat := (i % (2 ^ w : Nat)).toNat

/-- Nearest value of `lo..hi`. -/
def clampI (lo hi x : Int) : Int := if x < lo then lo else if x > hi then hi else x

/-- Nearest value of `lo..hi`. -/
def clampN (lo hi x : Nat) : Nat := if x < lo then lo else if x > hi then hi else x

/-- An integer saturated into an unsigned field of `w` bits. -/
def satU (w : Nat) (i : Int) : Nat := (clampI 0 (2 ^ w - 1 : Nat) i).toNat

/-- An integer saturated into a signed field of `w` bits, as the field's pattern. -/
def satS (w : Nat) (i : Int) : Nat := uns w (clampI (-(2 ^ (w - 1) : Nat)) ((2 ^ (w - 1) : Nat) - 1) i)

/-- Add one to a saturating counter of `w` bits. -/
def satInc (w v : Nat) : Nat := if v + 1 < 2 ^ w then v + 1 else 2 ^ w - 1

/-- Absolute value. -/
def absI (x : Int) : Int := if x < 0 then -x else x

/-- Largest of two integers. -/
def maxI (a b : Int) : Int := if a < b then b else a

/-- Smallest of two integers. -/
def minI (a b : Int) : Int := if a < b then a else b

/-- One step of the bitwise square root: `r` is the root so far, bit `k` is tried. -/
def isqrtBit (n : Nat) : Nat → Nat → Nat
  | 0, r => if (r + 1) * (r + 1) ≤ n then r + 1 else r
  | k + 1, r =>
    let r' := r + 2 ^ (k + 1)
    isqrtBit n k (if r' * r' ≤ n then r' else r)

/-- Exact integer square root, the largest `r` with `r * r ≤ n`, for `n < 2 ^ 256`. -/
def isqrt (n : Nat) : Nat := isqrtBit n 127 0

/-- Number of set bits among the low `w` bits. -/
def popcount : Nat → Nat → Nat
  | 0, _ => 0
  | w + 1, v => v % 2 + popcount w (v / 2)

/-- The `i`th element, or a default. -/
def nth {α : Type} (l : List α) (i : Nat) (dflt : α) : α := (l[i]?).getD dflt

/-- The list with the function applied at index `i`. -/
def modNth {α : Type} (f : α → α) : List α → Nat → List α
  | [], _ => []
  | x :: xs, 0 => f x :: xs
  | x :: xs, i + 1 => x :: modNth f xs i

/-- Little-endian bytes of a number, `n` of them. -/
def leBytes : Nat → Nat → List Nat
  | 0, _ => []
  | n + 1, v => v % 256 :: leBytes n (v / 256)

/-- The number whose little-endian bytes are given. -/
def ofLe : List Nat → Nat
  | [] => 0
  | b :: bs => b % 256 + 256 * ofLe bs

/-- Big-endian bytes of a number, `n` of them. -/
def beBytes (n v : Nat) : List Nat := (leBytes n v).reverse

/-- The number whose big-endian bytes are given. -/
def ofBe (l : List Nat) : Nat := ofLe l.reverse

end Sys2Proof
end

