-- ==== Sys2Proof/Config.lean ====
section
/-! DEFINITION. What an implementation of the 8D fixes and the manual leaves open: constants without a body, so
that no proof can see a value of one. Each is named in a row of the assumption log. -/

namespace Sys2Proof

/-- FREE VALUE. Whether an inexact quotient `n / d` computed at place `site` comes out one unit above its floor: the
manual states the formula and not the rounding (assumption log 3). -/
opaque Config.roundUp (site : Nat) (n d : Int) : Bool

/-- FREE VALUE number `k` of kind `site`: a value the manual leaves open after which the 8D goes on. The step reads and
advances the counter `k` in State (assumption log 4). -/
opaque Config.free (site k : Nat) : Nat

/-- FREE VALUE. What a forme op leaves on the stack for operand values whose result the manual does not state (a shift
by the operand's width or more, the quotient of the most negative integer by minus one): a function of the op, the
type and the operands (assumption log 5). -/
opaque Config.opFree (op ty : Nat) (a b : Nat) : Nat

/-- FREE VALUE. The field value at place `site` when the exact result `v` lies outside the field's format and the manual
states no saturation there, or has no value at all (assumption log 5). -/
opaque Config.outOfRange (site : Nat) (v : Int) : Nat

/-- FREE VALUE. The tolerance, in 10 mV, of the phase-voltage check of a step axis: the manual applies the check to steps and
gives the STEP pages no tolerance register (assumption log 16). -/
opaque Config.stepVphTol (step : Nat) : Nat

/-- SHA-384 (FIPS 180-4) of a byte string, as the standard defines it; the manual names the standard and does not
restate it, so the model leaves the function uninterpreted (assumption log 6). -/
opaque Config.sha384 (msg : List Nat) : List Nat

/-- ECDSA P-384 verification (FIPS 186-5): public key, digest, signature (assumption log 6). -/
opaque Config.ecdsaVerify (key digest sig : List Nat) : Bool

/-- AES-CMAC (SP 800-38B) of a message under a 128-bit key (assumption log 6). -/
opaque Config.aesCmac (key : Nat) (msg : List Nat) : Nat

/-- CRC-32 of IEC 61375-2-3 over a process-data header, `headerFcs` (assumption log 6). -/
opaque Config.trdpFcs (header : List Nat) : Nat

/-- The `PG_REV` value of a unit code ("per unit" in the manual; assumption log 7). -/
opaque Config.pgRev (unit : Nat) : Nat

/-- Content of the boot ROM, which the manual places in the map and does not list (assumption log 7). -/
opaque Config.bootRom (addr : Nat) : Nat

/-- Field number `field` of a 64-byte Platen configuration record: the manual gives the record's content and its
closing CRC-32C and leaves the byte layout to the Walper toolchain (assumption log 8). -/
opaque Config.recField (bytes : List Nat) (field : Nat) : Nat

/-- Offset within its instance of pin `pin` of a device block of code `type`: the manual names the pins and leaves the layout of
an instance to the Walper toolchain (assumption log 34). -/
opaque Config.pinOfs (type pin : Nat) : Nat

/-- Bytes of that pin (assumption log 34). -/
opaque Config.pinLen (type pin : Nat) : Nat

end Sys2Proof
end

