-- ==== Sys2Proof/Machine/Cells.lean ====
section
/-! DEFINITION. Register fields as the manual's register tables give them, and the sparse store that holds their
values. A field is named by the byte offset of its register in the page and its lowest bit; a store lists, by rising
key, the fields that differ from their reset value. -/

namespace Sys2Proof.Machine

/-- Access codes of a register field (R12). -/
inductive Acc where
  | ro | rw | w1c | wo | rwp | rws
  deriving DecidableEq, Repr

/-- The range a register table states for a field: none, an unsigned interval or a signed one. -/
inductive Rng where
  | any
  | u (lo hi : Nat)
  | s (lo hi : Int)
  deriving DecidableEq, Repr

/-- One register field, or an array of `n` like fields `stride` bytes apart. -/
structure Fld where
  off : Nat
  lo : Nat
  w : Nat
  acc : Acc
  rst : Nat
  n : Nat := 1
  stride : Nat := 4
  rng : Rng := .any
  deriving DecidableEq, Repr

/-- A field by access code, offset, lowest bit, width and reset value. -/
def fld (acc : Acc) (off lo w rst : Nat) : Fld := { off, lo, w, acc, rst }

/-- The field with an unsigned range. -/
def Fld.rngU (f : Fld) (lo hi : Nat) : Fld := { f with rng := .u lo hi }

/-- The field with a signed range. -/
def Fld.rngS (f : Fld) (lo hi : Int) : Fld := { f with rng := .s lo hi }

/-- The array of `n` such fields, `stride` bytes apart. -/
def Fld.arr (f : Fld) (n stride : Nat) : Fld := { f with n := n, stride := stride }

/-- Element `i` of a field array. -/
def Fld.at (f : Fld) (i : Nat) : Fld := { f with off := f.off + f.stride * i, n := 1 }

/-- The store's key of a field on a page. -/
def Fld.key (f : Fld) (pg : Nat) : Nat := (pg * 1024 + f.off / 4) * 32 + f.lo

/-- A sparse store: (key, value) pairs with keys strictly rising; an unlisted key reads as its default. -/
abbrev Cells := List (Nat × Nat)

/-- The value of a key, `dflt` when unlisted. -/
def Cells.get : Cells → Nat → Nat → Nat
  | [], _, dflt => dflt
  | (k, v) :: c, key, dflt => if k = key then v else Cells.get c key dflt

/-- Insert a key that the store does not hold, before the first greater key. -/
def Cells.ins : Cells → Nat → Nat → Cells
  | [], key, v => [(key, v)]
  | (k, x) :: c, key, v => if key < k then (key, v) :: (k, x) :: c else (k, x) :: Cells.ins c key v

/-- Set a key; the default's entry is not kept. -/
def Cells.put (c : Cells) (key v dflt : Nat) : Cells :=
  let r := c.filter fun e => e.1 != key
  if v = dflt then r else Cells.ins r key v

/-- Keys strictly rise: the store's canonical form. -/
def Cells.sorted : Cells → Bool
  | [] => true
  | [_] => true
  | a :: b :: c => decide (a.1 < b.1) && Cells.sorted (b :: c)

/-- The nearest value of a field's range to the value written (the range rule of each page: R61, R118, R188, R221,
R263, R292, R367, R414, R445, R474, R500, R528, R560, R593), as the field's pattern. -/
def Fld.clamp (f : Fld) (v : Nat) : Nat :=
  match f.rng with
  | .any => v % 2 ^ f.w
  | .u lo hi => clampN lo hi (v % 2 ^ f.w)
  | .s lo hi => uns f.w (clampI lo hi (sgn f.w v))

end Sys2Proof.Machine
end

