-- ==== Sys2Proof/Machine/StNet.lean ====
section
/-! DEFINITION. The data plane beyond its registers as plain data: the three CAN controllers (R447 to R458), the leaf
bus (R459 to R472), the Ethernet switch (R475 to R478), PTP (R479 to R481), the telegram engine (R482 to R491), the
rings (R492 to R494), the Neltan window (R495 to R497) and the host port (R498, R499). -/

namespace Sys2Proof.Machine

/-- A bus object of a CAN controller (table "Bus-object descriptor"). -/
structure CanObj where
  num : Nat
  brs : Bool := false
  fdf : Bool := false
  xtd : Bool := false
  id : Nat := 0
  tx : Bool := false
  dlc : Nat := 0
  iofs : Nat := 0
  mask : Nat := 0
  deriving DecidableEq, Repr, Inhabited

/-- A CAN frame: its identifier word's fields, error state indicator, remote frame, recessive res bit (R447), data length
code and data, how many MOTCLK counts it lasts on the bus from its start-of-frame bit, and the error that ends its reception,
coded as `PSR.LEC`, whether in the data phase, and whether the bit after the error flag is dominant (R449). -/
structure CanFrame where
  brs : Bool := false
  fdf : Bool := false
  xtd : Bool := false
  id : Nat := 0
  esi : Bool := false
  rtr : Bool := false
  res : Bool := false
  dlc : Nat := 0
  data : List Nat := []
  len : Nat := 0
  err : Nat := 0
  errData : Bool := false
  errDom : Bool := false
  errMore : Nat := 0
  deriving DecidableEq, Repr, Inhabited

/-- A CAN controller. `st` is the `PSR.STATE` code; masks have one bit per object; `sof` is the frame whose start-of-frame
bit is driven: an object's number, 64 for the frame record at `ringAt`; `txKind` is 0 for a requested or ring frame, 1 for one of an exclusive and 2 for one of
an arbitrating cell; `noRetry` says that its cancel was refused, `tried` that the frame of an arbitrating
cell has been tried in its slot, `ovrDone` that the frame under way has been counted over its slot (R463); `coll` lists (object, time) of the bit errors of R458;
`pxInt` says that the integration in progress follows a protocol exception, `ack` that the latest frame received was
acknowledged (R449). -/
structure CanX where
  objs : List CanObj := []
  st : Nat := 0
  tec : Nat := 0
  rec_ : Nat := 0
  status : List Nat := List.replicate 64 0
  rxNew : Nat := 0
  rxOvr : Nat := 0
  pend : Nat := 0
  sof : Option Nat := none
  frame : CanFrame := {}
  ringAt : Nat := 0
  txKind : Nat := 0
  noRetry : Bool := false
  tried : Bool := false
  ovrDone : Bool := false
  pxInt : Bool := false
  ack : Bool := false
  prevReq : Nat := 0
  prevCan : Nat := 0
  coll : List (Nat × Nat) := []
  boTimes : List Nat := []
  boLatched : Bool := false
  boAt : Nat := 0
  boReset : Bool := false
  boRec : Bool := false
  deriving DecidableEq, Repr

/-- A doorway station of the leaf bus: its state code (R468), consecutive missed checks, whether the check of the slot in
progress has been met, how often it has been dropped. -/
structure StnX where
  st : Nat := 0
  miss : Nat := 0
  met : Bool := false
  drops : Nat := 0
  deriving DecidableEq, Repr

/-- The leaf bus (R459 to R471): time-triggered operation, row, slot in progress, the latest slot begun, whether the slot in
progress discards its cell's frame (R470), the reference of the basic cycle, the count of cycles without one, a matrix applied
at the latest boundary and one armed for the next (R466), stations. Times are MOTCLK counts; `base` is where slot 0 begins. -/
structure LeafBusX where
  tt : Bool := false
  row : Nat := 0
  slot : Option Nat := none
  last : Nat := 0
  disc : Bool := false
  base : Nat := 0
  bnd : Nat := 0
  refSent : Bool := false
  missRun : Nat := 0
  refFail : Bool := false
  refMiss : Bool := false
  newMat : Bool := false
  startMot : Nat := 0
  newDrop : Nat := 0
  stn : List StnX := List.replicate 16 {}
  deriving DecidableEq, Repr

/-- An Ethernet frame as a switch port carries it: addresses, VLAN tag when present, Ethertype and payload bytes. -/
structure EthFrame where
  dst : Nat := 0
  src : Nat := 0
  tag : Option (Nat × Nat) := none
  etype : Nat := 0
  data : List Nat := []
  deriving DecidableEq, Repr, Inhabited

/-- A frame in an egress queue: port 1 or 2, queue 0 to 3, or 4 for a PTP event frame; `at_` is the MOTCLK time of its
ingress and `tc` says that the transparent clock corrects it (R480). -/
structure EgressEnt where
  port : Nat
  queue : Nat
  frame : EthFrame
  at_ : Nat := 0
  tc : Bool := false
  deriving DecidableEq, Repr

/-- A learned source address: address, port and the MOTCLK time of learning (R476). -/
structure MacEnt where
  mac : Nat
  port : Nat
  at_ : Nat
  deriving DecidableEq, Repr

/-- The switch: learned addresses, frames queued for P1 and P2 in order of arrival, whether VIO1 is present (R570), and until when, in
MOTCLK counts, the line of P1 and of P2 carries a frame. -/
structure EthX where
  mac : List MacEnt := []
  q : List EgressEnt := []
  vio1 : Bool := true
  busy1 : Nat := 0
  busy2 : Nat := 0
  deriving DecidableEq, Repr

/-- A foreign master as its latest Announce message describes it (R479): the port it came by, the message's source port identity,
the grandmaster's data set and steps removed, and until when, in MOTCLK counts, it counts. -/
structure Announce where
  port : Nat
  sender : Nat
  prio1 : Nat
  cls : Nat
  acc : Nat
  var : Nat
  prio2 : Nat
  gm : Nat
  steps : Nat
  until_ : Nat := 0
  deriving DecidableEq, Repr

/-- The PTP unit (R479 to R481): state code, grandmaster, run of Syncs within 1 µs, time of the latest Sync and its announced
interval, start of holdover, the step that waits for the boundary, delay requests sent, mean path delay and foreign masters. -/
structure PtpX where
  st : Nat := 0
  gm : Nat := 0
  lockN : Nat := 0
  lastSync : Option Nat := none
  interval : Nat := 0
  holdAt : Option Nat := none
  lostRep : Bool := false
  stepBy : Option Int := none
  reqN : Nat := 0
  mpd : Int := 0
  masters : List Announce := []
  deriving DecidableEq, Repr

/-- A publisher descriptor (table "Publisher descriptor"). -/
structure PubD where
  comid : Nat
  dstIp : Nat := 0
  pcp : Nat := 0
  vid : Nat := 0
  iofs : Nat := 0
  dlen : Nat := 0
  cyc : Nat := 1
  phase : Nat := 0
  ports : Nat := 0
  en : Bool := true
  deriving DecidableEq, Repr, Inhabited

/-- A subscriber descriptor (table "Subscriber descriptor"). -/
structure SubD where
  comid : Nat
  srcIp : Nat := 0
  dlen : Nat := 0
  topoChk : Bool := false
  tob : Bool := false
  iofs : Nat := 0
  tmo : Nat := 1
  en : Bool := true
  deriving DecidableEq, Repr, Inhabited

/-- What the engine keeps of a publisher: whether its descriptor is used (R488), its next sequence number, and whether
it is due and not yet sent in the program cycle in progress. -/
structure PubX where
  d : PubD
  ok : Bool := true
  seq : Nat := 0
  due : Bool := false
  deriving DecidableEq, Repr

/-- What the engine keeps of a subscriber: validity, latest accepted sequence number, DT of its reception, whether one
was accepted since the previous freeze, and whether the present episode of silence has been reported. -/
structure SubX where
  d : SubD
  ok : Bool := true
  valid : Bool := false
  lastSeq : Option Nat := none
  rxDt : Option Nat := none
  new : Bool := false
  tmoRep : Bool := false
  deriving DecidableEq, Repr

/-- The telegram engine and the orientation it delivers (R482 to R491); `run` says that it sends the due telegrams of the program cycle
in progress. -/
structure TrdpX where
  pubs : List PubX := []
  subs : List SubX := []
  bnd : Nat := 0
  run : Bool := false
  oriVal : Nat := 0
  oriN : Nat := 0
  delivered : Option Nat := none
  deriving DecidableEq, Repr

/-- A received or published process-data telegram: source address, header fields and payload (table "Process-data
header"), and how many MOTCLK counts it lasts from its start-of-frame. `fcsOk` says whether headerFcs matches. -/
structure Telegram where
  srcIp : Nat := 0
  seq : Nat := 0
  ver : Nat := 256
  msgType : Nat := 20580
  comId : Nat := 0
  etbTopo : Nat := 0
  opTopo : Nat := 0
  dlen : Nat := 0
  fcsOk : Bool := true
  data : List Nat := []
  len : Nat := 0
  deriving DecidableEq, Repr, Inhabited

/-- A session of the Neltan window (R495, R496). `ok` says that a request has been accepted since OPEN. -/
structure NelSess where
  num : Nat
  trans : Nat
  slot : Nat
  key : Nat
  seq : Nat := 0
  tag : Nat := 0
  resp : List Nat := []
  fails : Nat := 0
  total : Nat := 0
  lastAt : Nat := 0
  deriving DecidableEq, Repr

/-- The Neltan window: open sessions, the next session number, tag failures of OPEN as (transport, time), transports
blocked as (transport, end), and the latest response sent. -/
structure NelX where
  sess : List NelSess := []
  next : Nat := 1
  fails : List (Nat × Nat) := []
  block : List (Nat × Nat) := []
  resp : List Nat := []
  deriving DecidableEq, Repr

/-- The host port: what the next status byte reports (R499), when the latest write frame ended (R585), and the bytes of
the latest response. -/
structure HpiX where
  exec : Bool := false
  rej : Bool := false
  ref : Bool := false
  lastEnd : Option Nat := none
  resp : List Nat := []
  deriving DecidableEq, Repr

/-- What leaves the 8D on its buses: the latest frame sent by each CAN controller, the latest frame sent at each Ethernet
port, the latest value read by a source, and the latest telegram published. -/
structure OutX where
  can : List CanFrame := List.replicate 3 {}
  eth : List EthFrame := List.replicate 3 {}
  read : Nat := 0
  tele : Option Telegram := none
  deriving DecidableEq, Repr

/-- The data plane and its ways out together. -/
structure NetX where
  can : Vector CanX 3 := Vector.replicate 3 {}
  lb : LeafBusX := {}
  eth : EthX := {}
  ptp : PtpX := {}
  trdp : TrdpX := {}
  nel : NelX := {}
  hpi : HpiX := {}
  out : OutX := {}
  deriving DecidableEq, Repr

end Sys2Proof.Machine
end

