-- ==== Sys2Proof/Machine/StLeaf.lean ====
section
/-! DEFINITION. The state of a leaf axis that its registers do not show: the drive engine (R60 to R117), the profile
generator, queue and ligature logic (R118 to R156) and the leaf sequencer (R230 to R263), as plain data. -/

namespace Sys2Proof.Machine

/-- A set-point: position in µm, speed in µm/s, acceleration in µm/s², each in units of 1/65,536 (R89). -/
structure SetPt where
  p : Int := 0
  v : Int := 0
  a : Int := 0
  deriving DecidableEq, Repr

/-- One phase of a plan: its number 1 to 7 (R127), its jerk in µm/s³ and its duration in ps. -/
structure Phase where
  tag : Nat
  jerk : Int
  dur : Nat
  deriving DecidableEq, Repr

/-- The limits a move is planned under, in µm/s, µm/s² and µm/s³ (R122), with the approach zone in µm (R125). -/
structure Limits where
  v : Nat := 0
  a : Nat := 0
  d : Nat := 0
  j : Nat := 0
  zone : Nat := 0
  zoneV : Nat := 0
  cap : Bool := false
  deriving DecidableEq, Repr

/-- A plan in continuous time: its start, its phases, where it ends, how many servo boundaries have passed, and the limits
it was made under for increasing and for decreasing position. -/
structure Plan where
  start : SetPt := {}
  phases : List Phase := []
  target : Int := 0
  elapsed : Nat := 0
  set : Nat := 0
  ovs : Bool := false
  limO : Limits := {}
  limC : Limits := {}
  deriving DecidableEq, Repr

/-- One value per phase U, V, W of a leaf axis, or per half-bridge A1, A2, B1, B2 of a step axis. -/
structure Tri where
  u : Nat := 0
  v : Nat := 0
  w : Nat := 0
  x : Nat := 0
  deriving DecidableEq, Repr

/-- The steps of the page's STARTING state (R108). -/
inductive StartStep where
  | none | wait | precharge | cal
  deriving DecidableEq, Repr

/-- An offset calibration in progress (R109): periods averaged, sums and extremes of the codes of three channels. -/
structure CalX where
  on : Bool := false
  n : Nat := 0
  sum : Tri := {}
  mn : Tri := {}
  mx : Tri := {}
  bad : Bool := false
  deriving DecidableEq, Repr

/-- Sums over the PWM periods of the program cycle in progress (R104, R105). -/
structure AvgX where
  n : Nat := 0
  id : Int := 0
  iq : Int := 0
  vq : Int := 0
  we : Int := 0
  whole : Bool := false
  deriving DecidableEq, Repr

/-- What the diagnostic counters of a drive have reached before `DIAG` shows it (R117). -/
structure DiagX where
  vlim : Nat := 0
  stale : Nat := 0
  occbc : Nat := 0
  deriving DecidableEq, Repr

/-- The drive engine of a leaf axis. `diag`, `ofsU` to `ofsW`, `srvEp` and `srvIq` are the values that the registers at 0x094 to
0x0BC show from the end of the next current-loop computation on (R117). `mode` is the drive mode code; `latch` and `cond` hold one bit per drive fault
cause: latched, and condition present (R106). `lowAge` and `highAge` tell for how many counts at the latest valley the command of each
low and high side had been on, from which a turn-on edge at a valley has its dead time (R65). -/
structure DrvX where
  mode : Nat := 0
  modeReq : Option Nat := none
  cmp : Tri := {}
  cmpNext : Tri := {}
  lowAge : Tri := {}
  highAge : Tri := {}
  xd : Int := 0
  xq : Int := 0
  xv : Int := 0
  iqNext : Int := 0
  iqUse : Int := 0
  latch : Nat := 0
  cond : Nat := 0
  cut : Bool := false
  nOc : Nat := 0
  nIsum : Nat := 0
  nVph : Nat := 0
  nShadow : Nat := 0
  residue : Bool := false
  vlim : Bool := false
  regen : Bool := false
  pltDis : Bool := false
  step : StartStep := .none
  startRep : Bool := false
  pre : Nat := 0
  parkPend : Nat := 0
  cal : CalX := {}
  avg : AvgX := {}
  diag : DiagX := {}
  ofsU : Int := 0
  ofsV : Int := 0
  ofsW : Int := 0
  srvEp : Int := 0
  srvIq : Int := 0
  deriving DecidableEq, Repr

/-- One entry of the set-point queue (R136), in µm, µm/s, µm/s². -/
structure SpqEnt where
  p : Int
  v : Int
  a : Int
  deriving DecidableEq, Repr

/-- A move request waiting for a servo boundary: target in µm, set, and whether the sequencer issued it. -/
structure MoveReq where
  tgt : Int
  set : Nat
  seq : Bool
  deriving DecidableEq, Repr

/-- The profile functions of a leaf axis. `stopKind` is the path in force, 0 none to 3 hard stop; `stopReq` the path
requested for the next servo boundary. `still`, `refused`, `keCap` and `ligPend` are what `PRF_STAT` shows from the next servo
boundary on (R153). -/
structure PrfX where
  sp : SetPt := {}
  prev : SetPt := {}
  src : Nat := 0
  plan : Option Plan := none
  stopKind : Nat := 0
  stopReq : Nat := 0
  stopOwn : Bool := false
  stopPlan : Option Plan := none
  kept : Option MoveReq := none
  req : Option MoveReq := none
  queue : List SpqEnt := []
  ext : Bool := false
  und : Nat := 0
  undStop : Bool := false
  spqP : Nat := 0
  spqV : Nat := 0
  stand : Nat := 0
  zeroN : Nat := 0
  keo : Nat := 0
  keDone : Bool := false
  limO : Bool := false
  limC : Bool := false
  capO : Bool := false
  capC : Bool := false
  still : Bool := false
  refused : Bool := false
  keCap : Bool := false
  ligPend : Bool := false
  deriving DecidableEq, Repr

/-- The ligature of leaves L2k and L2k+1, kept with the even leaf (R140 to R144). -/
structure LigX where
  formed : Bool := false
  odd : Bool := false
  ofs : Int := 0
  sync : Nat := 0
  deriving DecidableEq, Repr

/-- The states of the leaf sequencer, in the order of their codes (R231). -/
inductive LeafState where
  | unref | learn | closedLocked | unlocking | opening | open_ | closing | reversing | obstructed | locking
  | isolated | emerg | fault
  deriving DecidableEq, Repr

/-- Commands of `SEQ_CMD` in the order in which one is latched (R240). -/
inductive SeqCmd where
  | close | ack | refrun | learn | open_
  deriving DecidableEq, Repr

/-- The movement being recorded (R262, R501): sequence number, when and where it began, kind, direction, and what the slug
accumulates over it. Residuals are in 1/65,536 of 0.1 N; `trace` and `trunc` are the slug's flags; `hand` is set for a movement
in drive mode OFF; `fric` the learned friction per bin as it began. -/
structure MoveRec where
  seq : Nat
  kind : Nat
  opening : Bool := true
  dt0 : Nat := 0
  mot0 : Nat := 0
  p0 : Int := 0
  imp : Nat := 0
  stopSeen : Bool := false
  learn : Bool := false
  vPeak : Nat := 0
  fPeak : Option Int := none
  rN : Nat := 0
  rSum : Int := 0
  rSq : Nat := 0
  rMax : Int := 0
  rBin : Nat := 0
  det : Nat := 0
  detKind : Nat := 0
  detPos : Int := 0
  unlkT : Nat := 0
  vfMin : Nat := 65535
  vbMin : Nat := 65535
  iPeak : Nat := 0
  deg : Bool := false
  trace : Bool := false
  fric : List Nat := []
  deriving DecidableEq, Repr

/-- The sequencer of a leaf. Times are MOTCLK counts; a timer's `X` bit says that its expiry has been taken. `revWait`, `revUp` and
`revRun` follow a reversal: awaited after the stop, opening, issued and not ended. `relLost` and `isoRose` hold the edges of a
release and of isolation until a row takes them; `refused` is the REFUSED bit of the latest command; `hardLock` is the hold of a hard
stop and `hardFault` says that it came with a fault event or an emergency (R148); `haltSeen`: the leaf has met the safe halt in force
as a fault event. -/
structure SeqX where
  st : LeafState := .unref
  inited : Bool := false
  cmd : Option SeqCmd := none
  refused : Bool := false
  fault : Option Nat := none
  det : Bool := false
  stopEnded : Bool := false
  moveEnded : Bool := false
  go : Bool := false
  partnerStop : Bool := false
  tunlk : Option Nat := none
  tunlkX : Bool := false
  tlock : Option Nat := none
  tlockX : Bool := false
  trecl : Option Nat := none
  treclX : Bool := false
  warn : Option Nat := none
  closePend : Bool := false
  reclosePend : Bool := false
  recloseRun : Bool := false
  reclC : Nat := 0
  revWait : Bool := false
  revUp : Bool := false
  revRun : Bool := false
  waitStep : Bool := false
  hardLock : Bool := false
  hardFault : Bool := false
  haltSeen : Bool := false
  reason : Nat := 0
  susp : Nat := 0
  slowN : Nat := 0
  closed : Bool := false
  openSw : Bool := false
  locked : Bool := false
  emerg : Bool := false
  isol : Bool := false
  isoRose : Bool := false
  rel : Bool := false
  relLost : Bool := false
  deriving DecidableEq, Repr

/-- The learn and reference run of a leaf (R251 to R256) and the switch transition histories (R237, R238): the times of the latest
transitions of the closed, open-end and lock switches in `histC`, `histO` and `histL`, their levels in `pC`, `pO` and `pL`. The
active and staged soft limits from before the run are kept for an abort (R255). -/
structure LearnX where
  kind : Bool := false
  phase : Nat := 0
  press : Option Nat := none
  pressX : Bool := false
  stallN : Nat := 0
  stallX : Bool := false
  capC : Bool := false
  capO : Bool := false
  stopping : Bool := false
  stroke : Int := 0
  softMin : Nat := 0
  softMax : Nat := 0
  stagedMin : Nat := 0
  stagedMax : Nat := 0
  refWait : Bool := false
  abort : Bool := false
  chat : Bool := false
  histC : List Nat := []
  histO : List Nat := []
  histL : List Nat := []
  pC : Bool := false
  pO : Bool := false
  pL : Bool := false
  deriving DecidableEq, Repr

/-- What the sequencer and the record engine keep of movements (R262): the open movement, slugs that wait to be handed over,
oldest first, the unlock and lock times, the position from which a hand movement is measured, and whether the drive was OFF
at the latest servo boundary. -/
structure RecX where
  mv : Option MoveRec := none
  ended : List (List Nat) := []
  off : Bool := false
  unlkAt : Nat := 0
  lockAt : Nat := 0
  unlkT : Nat := 0
  lockT : Nat := 0
  offP : Int := 0
  deriving DecidableEq, Repr

/-- A leaf axis beyond its registers. -/
structure LeafX where
  drv : DrvX := {}
  prf : PrfX := {}
  lig : LigX := {}
  seq : SeqX := {}
  lrn : LearnX := {}
  mov : RecX := {}
  deriving DecidableEq, Repr

end Sys2Proof.Machine
end

