-- ==== Sys2Proof/Machine/StPlant.lean ====
section
/-! DEFINITION. The forme's run-time state (R387 to R414) and the field dies (R14 to R17, R415 to R446) beyond their
registers, as plain data. -/

namespace Sys2Proof.Machine

/-- Where a task of the forme stands: not started, running, ended at its final RET, or aborted (R391, R395). -/
inductive TaskSt where
  | idle | running | ended | aborted
  deriving DecidableEq, Repr

/-- A call frame: the block that called and the code word to return to. -/
structure CallFrame where
  blk : Nat
  ret : Nat
  deriving DecidableEq, Repr

/-- A task of the forme: its state, the block and code word it stands at, its operand stack of raw 64-bit entries (top
first) and its call frames. -/
structure TaskX where
  st : TaskSt := .idle
  blk : Nat := 0
  pc : Nat := 0
  stack : List Nat := []
  frames : List CallFrame := []
  startMot : Nat := 0
  deriving DecidableEq, Repr

/-- The tasks, with the codes of `TRAPINFO.TASK`. -/
inductive TaskId where
  | main | msync | error | init
  deriving DecidableEq, Repr

/-- An item of the image map: which image, what kind of unit it serves (0 telegram, 1 CAN object data, 2 CAN status or
transmit control, with `sub` 1 the leaf-bus status, 4 TRDP status, 6 record status), the unit's number, offset, length, safe
rule and safe value. -/
structure ImgItem where
  out : Bool
  kind : Nat
  idx : Nat
  sub : Nat := 0
  ofs : Nat
  len : Nat
  rule : Nat := 0
  const : List Nat := []
  deriving DecidableEq, Repr, Inhabited

/-- One force entry: 0 idle, 1 active, 2 refused, 3 dropped, with the tag it was resolved for (R412). -/
structure ForceX where
  st : Nat := 0
  tag : Nat := 0
  deriving DecidableEq, Repr

/-- The forme's run-time state: forme state code, half, instance region, tasks, task faults, banks. `mainBnd` is the boundary
that opened the cycle of the main task in progress, `mainStart` when its error or main task began, `mainEnd` when it ended, `closeMot`
the boundary that closed its cycle before it ended (R400).
`inFill` and `outWork` number the input bank being filled and the output bank being written; `evWords` the latched and enabled
events of the data-plane pages at the latest input freeze, as (page, bits) (R51); `noMs` stands where the next motion-sync task is
left out after a switch, `outSafe` whether the data plane sends safe values since the latest boundary (R381). -/
structure FormeX where
  st : Nat := 0
  half : Nat := 0
  region : Nat := 0
  factory : Bool := false
  main : TaskX := {}
  msync : TaskX := {}
  error : TaskX := {}
  init : TaskX := {}
  mainDue : Bool := false
  msDue : Bool := false
  noMs : Bool := false
  reasons : Nat := 0
  dropMask : Nat := 0
  errTrap : Bool := false
  mainBnd : Nat := 0
  mainStart : Nat := 0
  mainEnd : Option Nat := none
  bndMot : Nat := 0
  closeMot : Option Nat := none
  inFill : Nat := 0
  outWork : Nat := 0
  commits : Bool := false
  everOut : Bool := false
  outSafe : Bool := false
  overrun : Bool := false
  map : List ImgItem := []
  mapHash : Nat := 0
  maint : Bool := false
  force : List ForceX := List.replicate 32 {}
  evWords : List (Nat × Nat) := []
  deriving DecidableEq, Repr

/-- The online change in preparation (R407 to R410): state code, the half prepared, the carried tags as (old offset, new
offset, length) with the tag's identity, and whether a switch is requested. -/
structure OlcX where
  st : Nat := 0
  half : Nat := 0
  carried : List (Nat × Nat × Nat × Nat) := []
  switchReq : Bool := false
  deriving DecidableEq, Repr

/-- Samples of one leaf axis carried by a field-link frame: ADC codes and mean phase voltages in 10 mV. -/
structure LeafSamp where
  adc : Tri := {}
  vph : Tri := {}
  deriving DecidableEq, Repr

/-- Samples of one step axis carried by a field-link frame: the ADC codes of both windings, half-bridge voltages. -/
structure StepSamp where
  a : Nat := 8192
  b : Nat := 8192
  vph : Tri := {}
  deriving DecidableEq, Repr

/-- What a field-link frame reports besides debounced inputs and output states: analogue samples and diagnostics of its
die (table "Die-to-die paths"). `bst` has three bits per leaf for the bootstraps above V_BSTUV; `doBad` and `doLow` the
outputs whose readback disagrees and those that carry less than 5 mA. -/
structure DieSamp where
  leaf : List LeafSamp := []
  step : List StepSamp := []
  raw : Nat := 0
  vbr : Nat := 0
  vfld : Nat := 2400
  tj : Nat := 250
  vgd : Bool := true
  bst : Nat := 4095
  lsI : List Nat := []
  lsTj : List Nat := []
  doTj : List Nat := []
  doBad : Nat := 0
  doLow : Nat := 0
  deriving DecidableEq, Repr

/-- How a load switch runs (R428). -/
inductive LsRun where
  | off | inrush | on
  deriving DecidableEq, Repr

/-- One load switch (R428 to R435): how it runs, trips, the end of its pause, since when a retry is due, times of turn-on and of
entering ON, the three latches, whether the thermal latch interrupted a pause, fuse heat θ in 2⁻²⁴, and what waits for the next
switch tick (R428, R433). Times are MOTCLK counts. -/
structure LsX where
  run : LsRun := .off
  tries : Nat := 0
  pauseEnd : Option Nat := none
  dueAt : Option Nat := none
  onAt : Nat := 0
  sinceOn : Nat := 0
  inrushEnd : Nat := 0
  oc : Bool := false
  fuse : Bool := false
  th : Bool := false
  thPause : Bool := false
  theta : Nat := 0
  pend : Nat := 0
  deriving DecidableEq, Repr

/-- The configuration a field die holds: the words last received over the link (R442). `ls` holds the words of the
`LS_CFGc` registers, `maps` those of the valid mappings of this die, 0 where there is none, `deb` the debounce time of each local input in µs. -/
structure DieCfg where
  doCfg : Nat := 0
  doShed : Nat := 0
  ls : List Nat := List.replicate 6 1049866
  vpf : Nat := 140
  pullt : Nat := 20
  holdd : Nat := 100
  maps : List Nat := []
  deb : List Nat := List.replicate 16 1000 ++ List.replicate 16 2000
  deriving DecidableEq, Repr

/-- The commands a field die last received: output values, whether the safe values apply and whether a commit has taken place
(R421, R422), pages in service (R424), shedding level (R439), lock commands (R436). -/
structure DieCmd where
  dov : Nat := 0
  lsv : Nat := 0
  safe : Bool := true
  held : Bool := false
  doEn : Bool := false
  lsEn : Bool := false
  lvl : Nat := 0
  lk : Nat := 0
  deriving DecidableEq, Repr

/-- What a field die tells the core die with its next frame (R372): the events `evs` of a page and, with `rep`, a report, whose C2
condition stands with `c2`. -/
structure Tell where
  page : Nat
  cls : Nat := 0
  code : Nat := 0
  inst : Nat := 0
  rep : Bool := true
  c2 : Bool := false
  evs : List Nat := []
  deriving DecidableEq, Repr

/-- A field die: power, link supervision in both directions, samples of the last good frame, inputs and outputs. `unrel` stands
from FLDLOST until the release (R17, R444); `applied` and `lsApplied` are the values of the latest output commit. `downSeq` and `upSeq` are the sequence counts of
the frames of the PWM period, core to die and die to core, `coreExp` and `dieExp` the counts the receivers expect (R14). `goodAt` and `dieGoodAt`
are since when the core die and the die have had good frames (R444), `tells` what the next frame tells (R372). -/
structure DieX where
  alive : Bool := true
  lost : Nat := 0
  lostRep : Bool := false
  unrel : Bool := false
  dieLost : Nat := 0
  dieGot : Bool := false
  standalone : Bool := false
  limpIn : Bool := false
  goodAt : Option Nat := none
  fresh : Bool := false
  samp : DieSamp := {}
  vown : Nat := 2400
  deb : Nat := 0
  cfg : DieCfg := {}
  cmd : DieCmd := {}
  applied : Nat := 0
  lsApplied : Nat := 0
  on : Nat := 0
  oc : Nat := 0
  th : Nat := 0
  rb : Nat := 0
  openL : Nat := 0
  ls : List LsX := List.replicate 6 {}
  lsShed : Nat := 0
  lastRetry : Option Nat := none
  downSeq : Nat := 0
  upSeq : Nat := 0
  coreExp : Option Nat := none
  dieExp : Option Nat := none
  dieGoodAt : Option Nat := none
  tells : List Tell := []
  deriving DecidableEq, Repr

/-- A field die's test-pulse outputs and lock channels: bits per local channel. `tpoSlot` is one more than the millisecond of the
latest dark pulse of a channel (R305). -/
structure DieY where
  tpoOn : Nat := 15
  tpoSc : Nat := 0
  tpoRb : Nat := 0
  tpoRbN : List Nat := List.replicate 4 0
  tpoDark : Nat := 0
  tpoSlot : List Nat := List.replicate 4 0
  lkCmd : Nat := 0
  lkHs : Nat := 0
  lkPull : Nat := 0
  lkOc : Nat := 0
  lkTest : Nat := 0
  lkPullEnd : List Nat := List.replicate 4 0
  lkEn : Nat := 0
  deriving DecidableEq, Repr

/-- VFLD supervision (R438 to R441): levels, when the shedding level last fell and when WARN was set; `since` holds since when VMIN has
been below VWARN, above VWARN + 0.5 V, below VLOW, above VLOW + 0.5 V and below VPF. Times are MOTCLK counts. -/
structure VfldX where
  warn : Bool := false
  low : Bool := false
  pf : Bool := false
  lvl : Nat := 0
  at_ : Nat := 0
  warnAt : Nat := 0
  since : List (Option Nat) := List.replicate 5 none
  deriving DecidableEq, Repr

end Sys2Proof.Machine
end

