-- ==== Sys2Proof/Syntax.lean ====
section
/-! DEFINITION. The commands of the 8D: one constructor per row of spec/opcode_table.json, with the operands that say
who acts on what and what the outside world brings with it. -/

namespace Sys2Proof

/-- A 32-bit operand. -/
abbrev W32 := BitVec 32

/-- A 16-bit operand. -/
abbrev W16 := BitVec 16

/-- Leaf axes L0 to L7. -/
abbrev LeafNo := Fin 8

/-- Step axes K0 to K3. -/
abbrev StepNo := Fin 4

/-- Axes with a drive engine or a feedback page: 0 to 7 the leaves, 8 to 11 the steps. -/
abbrev AxisNo := Fin 12

/-- Field dies FA and FB. -/
abbrev DieNo := Fin 2

/-- The sources of register access (R12, R26 to R28, R402): the runtime outside and in safe context, the Service cores
S0 and S1, the host port, the Neltan window and the debug port. -/
inductive Src where
  | runtime | runtimeSafe | svc0 | svc1 | host | neltan | debug
  deriving DecidableEq, Repr

/-- The four readings of one scan of the seal switches: both strobes on, SEALTPA only, SEALTPB only, both off (R321). -/
structure SealFour where
  both : W16 := 0
  onlyA : W16 := 0
  onlyB : W16 := 0
  off : W16 := 0
  deriving DecidableEq, Repr

/-- The detection flags that the proof-pass sequencer sees (R355): the lane that VA and VB report odd, NOMAJ in each, the lanes that
the delay registers exclude, the checker, the lane that the fold voter reports, and the pair comparator. -/
structure ProofFlags where
  va : BitVec 3 := 0
  vb : BitVec 3 := 0
  nomaj : BitVec 2 := 0
  excl : BitVec 3 := 0
  vchk : Bool := false
  foldOdd : BitVec 3 := 0
  pair : Bool := false
  deriving DecidableEq, Repr

/-- What start-up meets outside the core die (R546): PLL lock, the flags that a proof step raised
where a fault of the hardware made them other than its injections do, the two seal scans' readings, the lines that
the field dies read back wrong in the bring-up of R327 (bits 0 to 7 bridge-disable, 8 to 15 lock enable), the relays whose mirror did
not follow its coil there, and the PLTCLK frequency measured. -/
structure PowerGoodEnv where
  pll : Bool := true
  proofSeen : List (Fin 11 × ProofFlags) := []
  scan1 : SealFour := {}
  scan2 : SealFour := {}
  lineBad : W16 := 0
  mirBad : BitVec 4 := 0
  pltKhz : W16 := 16000
  deriving DecidableEq, Repr

/-- What the scrubber or an access finds in a memory (R42, R43): which memory, the word's address or number, and whether
the error cannot be corrected. -/
inductive EccSite where
  | bootRom | forme | galley | record | packet | service
  | kerning (leaf : LeafNo)
  | coeff (axis : AxisNo)
  | lane (n : Fin 3)
  | svcCore (n : Fin 2)
  deriving DecidableEq, Repr

/-- One finding of the scrubber. -/
structure EccHit where
  site : EccSite
  word : W32
  double : Bool
  deriving DecidableEq, Repr

/-- Switches of an axis whose chatter is watched: closed, open end and lock of a leaf; retracted and extended of a
step (R237, R281). -/
inductive SwitchNo where
  | closed | openEnd | lock | retracted | extended
  deriving DecidableEq, Repr

/-- Inputs of the Platen die and of the two-channel comparison: an SI, a train line or a mirror contact. -/
inductive SafeIn where
  | si (n : Fin 16) | tli (n : Fin 4) | mir (n : Fin 4)
  deriving DecidableEq, Repr

/-- The kinds of a voted transaction (R333). -/
inductive PresKind where
  | read | write | intAck | fold
  deriving DecidableEq, Repr

/-- One lane's presentation of a transaction (R333): kind, address, byte enables and data. -/
structure LanePres where
  kind : PresKind
  addr : W32
  be : BitVec 4 := 15
  data : W32 := 0
  deriving DecidableEq, Repr

/-- A word in a delay-register stage (R338): four bytes with a parity bit above each, in a true rail and a complement rail. -/
structure RailWord where
  t : BitVec 36
  c : BitVec 36
  deriving DecidableEq, Repr

/-- The results whose residue modulo 7 a core checks (R340). -/
inductive ArithOp where
  | add | sub | mul | shl | shr | div
  deriving DecidableEq, Repr

/-- A result with its operands (R340), before it is narrowed; `rem` is what a shift right or a division leaves. -/
structure ArithCheck where
  op : ArithOp
  a : W32
  b : W32
  r : Int
  rem : W32 := 0
  deriving DecidableEq, Repr

/-- A transaction at the voters: what each lane presents (`none`: nothing within 8 cycles of its due cycle), the words in the stages
of the delay registers of C1 and C2 (R338), the results whose residues the lanes checked (R340), lanes with an uncorrectable array
error (R341), and whether the two voters differ (R336). -/
structure VoteEnv where
  p0 : Option LanePres
  p1 : Option LanePres
  p2 : Option LanePres
  st1 : List RailWord := []
  st2 : List RailWord := []
  arith : List (Fin 3 × ArithCheck) := []
  ecc : BitVec 3 := 0
  vchk : Bool := false
  safeCtx : Bool := false
  deriving DecidableEq, Repr

/-- Where a debugger writes (R365). -/
inductive DbgTarget where
  | general (n : Fin 32) | control (n : W16) | scratch (n : W32) | bus (addr : W32)
  deriving DecidableEq, Repr

/-- What the Service pair detects (R357, R358): the transactions of S0 and S1 at the comparator, the words in S1's delay register, a
result with its residue, an uncorrectable error of a core-local array or of the service memory. -/
inductive SvcFault where
  | mismatch (p0 p1 : LanePres) | delay (stages : List RailWord) | residue (a : ArithCheck) | ecc | memory
  deriving DecidableEq, Repr

/-- A report to the fault manager (R370): page, cause, class and instance. -/
structure Report where
  page : BitVec 8
  cause : BitVec 12
  cls : Fin 4
  inst : BitVec 8
  deriving DecidableEq, Repr

/-- A field input: a general input or a safety input, with the die that reads it. -/
inductive FieldIn where
  | di (n : Fin 32) | si (n : Fin 16) | tli (n : Fin 4) | mir (n : Fin 4)
  deriving DecidableEq, Repr

/-- What ISO 11898-1 counts beyond the error itself (R449): whether the passive error flag met a dominant bit, whether a stuff error
fell on a recessive stuff bit of the arbitration field, and how often 8 more counts fell due in the error and overload flags (bit errors
in an active flag, dominant bits that go on). -/
structure TxErr where
  flagDom : Bool := false
  arb : Bool := false
  more : Nat := 0
  deriving DecidableEq, Repr

/-- How a CAN transmission attempt ends (R454, R456): sent, arbitration lost, or an error with its code as `PSR.LEC` names
it, whether it fell in the data phase, and whether in the DLC or data field (R458). -/
inductive CanEnd where
  | sent | lost | error (code : Fin 7) (dataPhase inData : Bool) (w : TxErr)
  deriving DecidableEq, Repr

/-- The two field-link frames of a die in one PWM period (R14, R15): the bits that the lane flips in the die's frame (`rx`) and in
the core's (`tx`), bits 19:16 in the sequence count and 15:0 in the CRC, what the die samples, and the currents of its lock
channels in mA as (high side, low side). -/
structure LinkFrame where
  rx : BitVec 20 := 0
  tx : BitVec 20 := 0
  samp : Machine.DieSamp := {}
  lkI : List (Nat × Nat) := []
  deriving DecidableEq, Repr

/-- What the engines, pre-drivers and comparators see around an axis valley: in the period that ends, axes with a residue mismatch
(R101), and the phases whose two gate-line commands are both on for more than 8 ns (R67), bit 4 × axis + phase; in the period that
begins, the MOTCLK count after the valley at which the current of winding w of step k reaches its bold-face reference (R273), 13
bits from bit 26 × k + 13 × w, 8,000 and more for never. -/
structure PwmEnv where
  residue : BitVec 12 := 0
  xcmd : BitVec 48 := 0
  chop : BitVec 104 := BitVec.allOnes 104
  deriving DecidableEq, Repr

/-- A PTP Sync as it has been received (R479 to R481): port, grandmaster, origin timestamp in ns and correction in 1/65,536 ns
(of the Sync and its Follow_Up), how many ns ago its start-of-frame delimiter stood at the port, the four timestamps of a delay
exchange completed since the Sync before, in the order of travel, the announced interval, and whether the port is SLAVE rather
than UNCALIBRATED. -/
structure SyncEnv where
  port : Fin 2
  gm : BitVec 64
  origin : BitVec 64
  corr : Int := 0
  ageNs : Nat := 0
  delay : Option (Nat × Nat × Nat × Nat) := none
  intervalNs : Nat := 1000000000
  slave : Bool := true
  deriving DecidableEq, Repr

/-- What the drain-source monitor of a MOSFET reads (R74): which side, the voltage across it in mV and the MOTCLK counts since its gate was
commanded on. -/
structure VdsReading where
  high : Bool
  mv : Nat
  t : Nat
  deriving DecidableEq, Repr

/-- What a channel's comparator meets (R96): the axis and the current in mA. -/
structure OverCurrent where
  axis : AxisNo
  ma : Nat
  deriving DecidableEq, Repr

/-- The A and B lines at two successive samples (R196): bit 0 is A, bit 1 is B. -/
structure LineSamples where
  s0 : BitVec 2
  s1 : BitVec 2
  deriving DecidableEq, Repr

/-- The Hall lines (W, V, U) as they stand at the pins, and for how many 0.1 µs each of them has stood so (R197). -/
structure HallLines where
  lines : BitVec 3
  tu : Nat
  tv : Nat
  tw : Nat
  deriving DecidableEq, Repr

/-- The Z line of an axis at two successive samples (R196, R211). -/
structure IndexSamples where
  axis : AxisNo
  z0 : Bool
  z1 : Bool
  deriving DecidableEq, Repr

/-- What an SSI transfer brings (R198): the level of the data line before the first clock and the bits, the first received highest. -/
structure SsiWord where
  high : Bool
  bits : BitVec 41
  deriving DecidableEq, Repr

/-- An edge of a step line, and the level of the direction line (R276). -/
structure StepLine where
  rise : Bool
  dir : Bool
  deriving DecidableEq, Repr

/-- What a scan of the seal reads with the strobes on (R321): the word with both strobes, with strobe A alone, with B alone. -/
structure SealRead where
  both : W16
  onlyA : W16
  onlyB : W16
  deriving DecidableEq, Repr

/-- A level at a field input and for how many µs it has stood (R416). -/
structure HeldLevel where
  level : Bool
  us : W32
  deriving DecidableEq, Repr

/-- A Neltan request as it arrives (table "Neltan message"): header fields, data words and tag; `trans` is the transport
(0 TRDP message data, 1 SDO of CAN1). -/
structure NelReq where
  trans : Fin 2
  session : W16 := 0
  seq : W32 := 0
  addr : W32 := 0
  data : List W32 := []
  count : Nat := 0
  tag : BitVec 128 := 0
  deriving DecidableEq, Repr

/-- Every command of the table: first the rows with operands, then those without, each part in the table's order. -/
inductive Instr where
  | powerGood (e : PowerGoodEnv)
  | supplyLoss (which : Fin 5)
  | fieldDieReset (die : DieNo)
  | fieldDiePowerUp (die : DieNo)
  | pltclkOutOfWindow (khz : W16)
  | pwmPeriodStart (e : PwmEnv)
  | fieldLinkFrame (die : DieNo) (f : LinkFrame)
  | fieldLinkLossDie (die : DieNo)
  | fieldLinkLossCore (die : DieNo)
  | scrub (hits : List EccHit)
  | registerWrite (src : Src) (addr : W32) (size : Fin 5) (val : W32)
  | sysDtLoRead (src : Src)
  | evSetWrite (src : Src) (page : BitVec 8) (val : W32)
  | shCtrlCommit (src : Src) (page : BitVec 8) (cpsel : BitVec 4)
  | shCtrlAbort (src : Src) (page : BitVec 8)
  | leafRestCommit (leaf : LeafNo)
  | bridgeDisableAssert (leaf : LeafNo)
  | bootstrapUv (axis : AxisNo) (phase : Fin 4)
  | vgdUv (die : DieNo)
  | vdsTrip (axis : AxisNo) (e : VdsReading) (phase : Fin 4)
  | overcurrentTrip (c : OverCurrent)
  | oclatch (axis : AxisNo)
  | vbruv (axis : AxisNo)
  | vbrov (axis : AxisNo)
  | isum (leaf : LeafNo)
  | vph (axis : AxisNo)
  | shadow (leaf : LeafNo)
  | oshadow (leaf : LeafNo)
  | pageStartWaitEnd (axis : AxisNo)
  | startingTimeout (axis : AxisNo)
  | bootstrapPrechargeEnd (axis : AxisNo)
  | calibrationEnd (axis : AxisNo)
  | drvCtrlCal (src : Src) (leaf : LeafNo)
  | stepDrvCtrlCal (src : Src) (step : StepNo)
  | drvCtrlClrlatch (src : Src) (axis : AxisNo)
  | drvCtrlClrcnt (src : Src) (axis : AxisNo)
  | moveCmdGo (src : Src) (leaf : LeafNo) (set : Fin 4)
  | moveCmdStop (src : Src) (leaf : LeafNo)
  | moveCmdQstop (src : Src) (leaf : LeafNo)
  | moveCmdHstop (src : Src) (leaf : LeafNo)
  | spqAPush (src : Src) (leaf : LeafNo) (a : W32)
  | spqUnderrun (leaf : LeafNo)
  | ligatureForm (pair : Fin 4)
  | syncerr (pair : Fin 4)
  | keover (leaf : LeafNo)
  | standstill (axis : AxisNo)
  | stopto (leaf : LeafNo)
  | limitSwitch (leaf : LeafNo) (openEnd : Bool)
  | tstale (leaf : LeafNo)
  | ktUpdate (leaf : LeafNo)
  | forceDetection (leaf : LeafNo)
  | stallDetection (leaf : LeafNo)
  | stiffnessDetection (leaf : LeafNo)
  | edgeDetection (leaf : LeafNo)
  | obsCtrlRebase (src : Src) (leaf : LeafNo)
  | obsCtrlClrdet (src : Src) (leaf : LeafNo)
  | encoderEdge (axis : AxisNo) (e : LineSamples)
  | hallEdge (leaf : LeafNo) (code : HallLines)
  | hallInvalid (leaf : LeafNo) (code : BitVec 3)
  | indexEdge (e : IndexSamples)
  | ssiTransferEnd (leaf : LeafNo) (e : SsiWord)
  | ssiFault (leaf : LeafNo)
  | xchk (leaf : LeafNo)
  | slip (leaf : LeafNo)
  | posCtrlSetref (src : Src) (axis : AxisNo)
  | posCtrlClrflt (src : Src) (axis : AxisNo)
  | posCtrlClrcnt (src : Src) (axis : AxisNo)
  | posStartingDone (axis : AxisNo)
  | seqCmdOpen (src : Src) (leaf : LeafNo)
  | seqCmdClose (src : Src) (leaf : LeafNo)
  | seqCmdLearn (src : Src) (leaf : LeafNo)
  | seqCmdRefrun (src : Src) (leaf : LeafNo)
  | seqCmdAck (src : Src) (leaf : LeafNo)
  | seqCmdClrsusp (src : Src) (leaf : LeafNo)
  | tunlkExpiry (leaf : LeafNo)
  | tlockExpiry (leaf : LeafNo)
  | twarnEnd (leaf : LeafNo)
  | treclExpiry (leaf : LeafNo)
  | referencePressEnd (leaf : LeafNo)
  | learnStall (leaf : LeafNo)
  | switchChatter (axis : AxisNo) (sw : SwitchNo)
  | stpCmdExtend (src : Src) (step : StepNo)
  | stpCmdRetract (src : Src) (step : StepNo)
  | stpCmdInhibit (src : Src) (step : StepNo)
  | stpCmdUninh (src : Src) (step : StepNo)
  | stpCmdHome (src : Src) (step : StepNo)
  | stpCmdAck (src : Src) (step : StepNo)
  | stpCmdStop (src : Src) (step : StepNo)
  | stpCmdQstop (src : Src) (step : StepNo)
  | stpCmdHstop (src : Src) (step : StepNo)
  | stpCmdClrsusp (src : Src) (step : StepNo)
  | stepInputEdge (step : StepNo) (e : StepLine) (gapNs : Nat) (widthNs : Nat)
  | holdDelayEnd (step : StepNo)
  | openw (step : StepNo) (winding : Bool)
  | retractDemandRelease (step : StepNo)
  | qFrameReceive (good : Bool)
  | pFrameStatus (good : Bool)
  | pFrameConfig (idx : Fin 8) (bytes : List Byte)
  | pFrameTest (code : Fin 4) (arg : Fin 8)
  | platenInputAccept (i : SafeIn) (level : Bool)
  | platenHallChange (leaf : LeafNo) (code : BitVec 3)
  | platenRecordCrcCheck (corrupt : Bool)
  | platenComparatorCheck (pass : Bool)
  | darkPulse (tpo : Fin 8) (falls : W16)
  | discrepancy (i : SafeIn)
  | loopCloseDelay (left : Bool) (platen : Bool)
  | mirrorCheck (relay : Fin 4)
  | coilReadback (relay : Fin 4) (on : Bool)
  | safeCtrlTclr (src : Src)
  | safeCtrlDclr (src : Src)
  | safeCtrlMclr (src : Src)
  | safeCtrlGclr (src : Src) (lmask : BitVec 8)
  | safeCtrlHtreq (src : Src) (lmask : BitVec 8)
  | lockSwitchTest (leaf : LeafNo) (high : Bool)
  | lockTestPulseEnd (leaf : LeafNo) (milliamps : W16)
  | holdingTestStart (leaf : LeafNo)
  | holdingTestEnd (leaf : LeafNo)
  | sealScan (word : SealRead) (off : W16)
  | tripletTransaction (v : VoteEnv)
  | resyncTransfer (crcOk : Bool) (time10ns : W16)
  | bistEnd (pass : Bool) (timeUs : W16)
  | servicePairFault (f : SvcFault) (core : Fin 2)
  | serviceWatchdog (core : Fin 2)
  | svcKick (src : Src) (val : BitVec 2)
  | dtsetCtrlSet (src : Src)
  | debuggerWrite (service : Bool) (t : DbgTarget) (val : W32)
  | faultReport (rs : List Report)
  | fltAck (src : Src) (val : W32)
  | opLdi (ty : Fin 16) (arg : BitVec 20)
  | opLdk (ty : Fin 16) (lo hi : W32)
  | opLdv (ty : Fin 16) (arg : BitVec 20)
  | opStv (ty : Fin 16) (arg : BitVec 20)
  | opLdin (ty : Fin 16) (arg : BitVec 20)
  | opStout (ty : Fin 16) (arg : BitVec 20)
  | opLdx (ty : Fin 16) (arg : BitVec 20) (n : W32)
  | opStx (ty : Fin 16) (arg : BitVec 20) (n : W32)
  | opAdd (ty : Fin 16)
  | opSub (ty : Fin 16)
  | opMul (ty : Fin 16)
  | opDiv (ty : Fin 16)
  | opMod (ty : Fin 16)
  | opNeg (ty : Fin 16)
  | opAbs (ty : Fin 16)
  | opAnd (ty : Fin 16)
  | opOr (ty : Fin 16)
  | opXor (ty : Fin 16)
  | opNot (ty : Fin 16)
  | opShl (ty : Fin 16)
  | opShr (ty : Fin 16)
  | opEq (ty : Fin 16)
  | opNe (ty : Fin 16)
  | opLt (ty : Fin 16)
  | opLe (ty : Fin 16)
  | opGt (ty : Fin 16)
  | opGe (ty : Fin 16)
  | opCvt (ty from_ : Fin 16)
  | opJmp (arg : BitVec 20)
  | opJz (arg : BitVec 20)
  | opJnz (arg : BitVec 20)
  | opCall (block : BitVec 20)
  | opTrap (code : BitVec 20)
  | olcPrep (half : Fin 2)
  | taskCtrlClrcnt (src : Src)
  | fieldInputChange (i : FieldIn) (level : HeldLevel)
  | tpoOvercurrent (tpo : Fin 8)
  | tpoClr (src : Src) (die : DieNo) (mask : BitVec 4)
  | doOverload (ch : Fin 16) (thermal : Bool)
  | doClr (src : Src) (die : DieNo) (mask : BitVec 8)
  | doReadback (ch : Fin 16)
  | doOpenLoad (ch : Fin 16)
  | switchTick (die : DieNo)
  | lsInrushEnd (die : DieNo) (ch : Fin 6)
  | lsHardShort (die : DieNo) (ch : Fin 6)
  | lsOvercurrentTrip (die : DieNo) (ch : Fin 6)
  | lsPauseEnd (die : DieNo) (ch : Fin 6)
  | lsRetry (die : DieNo) (ch : Fin 6)
  | lsTryReset (die : DieNo) (ch : Fin 6)
  | lsFuseUpdate (die : DieNo) (ch : Fin 6) (milliamps : W16)
  | lsThermalLatch (die : DieNo) (ch : Fin 6)
  | lsClrClr (src : Src) (die : DieNo) (mask : BitVec 6)
  | lsClrClrth (src : Src) (die : DieNo) (mask : BitVec 6)
  | lockPullInEnd (leaf : LeafNo)
  | lkoc (leaf : LeafNo)
  | lkClr (src : Src) (die : DieNo) (mask : BitVec 4)
  | vfldPfSet (vhold : W16)
  | limpInput (active : Bool)
  | fioCtrlRelease (src : Src) (die : DieNo)
  | canFrameReceived (ctl : Fin 3) (f : Machine.CanFrame)
  | canTxComplete (ctl : Fin 3) (e : CanEnd)
  | frameRecordCancel (ctl : Fin 3) (addr : W32)
  | busOff (ctl : Fin 3)
  | busOffRecoveryStart (ctl : Fin 3)
  | busOffRecoveryEnd (ctl : Fin 3)
  | canIntegrationEnd (ctl : Fin 3)
  | referenceMessage (e : CanEnd)
  | slotStart (slot : Fin 32)
  | slotEnd (slot : Fin 32)
  | stnwait (stn : Fin 16)
  | ethFrameReceived (port : Fin 2) (f : Machine.EthFrame) (err : Bool)
  | ethLinkChange (port : Fin 2) (speed : Fin 3)
  | addressAging (mac : BitVec 48)
  | ptpSync (e : SyncEnv)
  | telegramReceived (t : Machine.Telegram)
  | ringIndexAdvance (ring : Fin 32) (producer : Bool) (item : List Byte)
  | neltanOpen (r : NelReq)
  | neltanRead (r : NelReq)
  | neltanWrite (r : NelReq)
  | neltanStatus (r : NelReq)
  | neltanClose (r : NelReq)
  | neltanSessionTimeout (session : W16)
  | neltanOpenBlockEnd (transport : Fin 2)
  | hpiRead (addr : W32) (words : Fin 64)
  | hpiWrite (addr : W32) (words : Fin 64) (data : List W32) (crc : W16)
  | slugHandoff (axis : AxisNo)
  | traceSample (leaf : LeafNo)
  | slugPageWrite (vhold : W16)
  | nandOperationComplete (ok : Bool) (answers : Bool) (vhold : W16)
  | recordMemoryRun (vhold : W16)
  | recCtrlFormat (vhold : W16)
  | recordReadRequest (uncorr : Bool)
  | folioWrite (vhold : W16)
  | holdupRetry (vhold : W16)
  | kerningRecordSave (leaf : LeafNo) (vhold : W16)
  | fwCodePageFetch (page : W32)
  | settingsWrite (src : Src) (addr : W32) (erase : Bool) (data : List Byte)
  | cfgCtrlSwitch (src : Src)
  | deferredPageApply (leaf : LeafNo)
  | cfgCtrlCancel (src : Src)
  | cfgCtrlRstreq (src : Src)
  | cfgCtrlConfirm (src : Src)
  | verCtrlGo (src : Src) (kind : Fin 8) (slot copy half : Bool)
  | secCtrlPolinst (src : Src)
  | secCtrlRollfwd (src : Src)
  | secCtrlUnlock (src : Src)
  | nkeyctrlWr (src : Src) (slot : Fin 4)
  | tapSamplePreload (cells : List Byte)
  | registerRead (src : Src) (addr : W32) (size : Fin 5)
  | debugResume (service : Bool) (retired : W32) (step : Bool)
  | darkPulseEnd (tpo : Fin 8) (high : Bool)
  | settingsOperationComplete (ok : Bool) (vhold : W16)
  | gridStart
  | ready
  | startUpSupervisor
  | porstN
  | vio1Loss
  | keepAliveLoss
  | keepAliveSecond
  | pllLoss
  | coreReferenceLoss
  | servoPeriodBoundary
  | programCycleBoundary
  | orientationApply
  | qFrameSend
  | orimis
  | pFrameRun
  | pFrameRestart
  | pFrameHalt
  | xlink
  | pFrameLoss
  | vpltValid
  | vpltLow
  | xdec
  | pcrbad
  | proofDue
  | proofStart
  | prooflate
  | servicePairRestartDone
  | tripletDebugHalt
  | serviceDebugHalt
  | automaticReset
  | motionSyncTaskStart
  | msovr
  | mainTaskStart
  | overrun
  | opNop
  | opDup
  | opDrop
  | opSwap
  | opRet
  | olcReady
  | olcSwitch
  | olcCancel
  | vfldWarnSet
  | vfldWarnClear
  | vfldLowSet
  | vfldLowClear
  | vfldPfClear
  | shedStep
  | reffail
  | ptpSyncTimeout
  | ptplost
  | telegramPublish
  | traceCopy
  | slugPageFlush
  | holddef
  | quietReset
  | verificationDone
  | tapBypass
  | tapIdcode
  | tapExtest
  | tapClamp
  | tapHighz
  | delayReq
  | stateEncodingCheck
  | operatingTimeMinute
  deriving DecidableEq, Repr

end Sys2Proof
end

