-- ==== Sys2Proof/Decode.lean ====
section
/-! DEFINITION. Commands as words. The 8D is a block: its table of commands gives no row any bits, so no word spells a
command. -/

namespace Sys2Proof

/-- The command that `nbits` bits `w` spell by the table: none, since no row of the table has bits (assumption log 35). -/
def decodeTableWord (_nbits _w : Nat) : Option Instr := none

end Sys2Proof
end

