-- ==== Sys2Proof/Machine/Crc.lean ====
section
/-! DEFINITION. The cyclic redundancy checks of frames, records and images: CRC-32C (R342) and CRC-16 with polynomial
0x1021 (R14, R294). -/

namespace Sys2Proof.Machine

/-- `n` shift steps of a reflected CRC-32 with the reversed polynomial 0x82F6_3B78. -/
def crc32Steps : Nat → Nat → Nat
  | 0, c => c
  | n + 1, c => crc32Steps n (if c % 2 = 1 then (c / 2) ^^^ 0x82F63B78 else c / 2)

/-- CRC-32C of a byte string that begins with one whose CRC-32C is `c`. -/
def crc32cOn (c : Nat) (l : List Nat) : Nat :=
  (l.foldl (fun c b => crc32Steps 8 (c ^^^ (b % 256))) (c ^^^ 0xFFFFFFFF)) ^^^ 0xFFFFFFFF

/-- CRC-32C of a byte string: polynomial 0x1EDC_6F41, bits least significant first, initial value and final XOR of ones
(R342). -/
def crc32c (l : List Nat) : Nat :=
  (l.foldl (fun c b => crc32Steps 8 (c ^^^ (b % 256))) 0xFFFFFFFF) ^^^ 0xFFFFFFFF

/-- `n` shift steps of CRC-16 with polynomial 0x1021. -/
def crc16Steps : Nat → Nat → Nat
  | 0, c => c
  | n + 1, c => crc16Steps n (if 32768 ≤ c then ((2 * c) % 65536) ^^^ 0x1021 else (2 * c) % 65536)

/-- CRC-16 of a byte string, polynomial 0x1021, most significant bit first. The initial value 0xFFFF is that of R498; beside R14, which
gives none, it is the model's choice (assumption log 69). -/
def crc16 (l : List Nat) : Nat := l.foldl (fun c b => crc16Steps 8 (c ^^^ (b % 256 * 256))) 0xFFFF

end Sys2Proof.Machine
end

