-- ==== Sys2Proof/Machine/EventMap.lean ====
section
/-! DEFINITION. The event bits and the fault causes of every page, from the event tables and the fault-cause tables of
the manual. -/

namespace Sys2Proof.Machine

/-- A fault cause: bits 11:0 of its entry and its class C0 to C3 (R370). -/
structure Cause where
  code : Nat
  cls : Nat
  deriving DecidableEq, Repr

/-- SYS event 0: An access reaches an absent page (R6, R7) -/
def Ev.SYS.NOUNIT : Nat := 0

/-- SYS event 1: A narrow, unaligned or unmapped access (R10, R41) -/
def Ev.SYS.BADACC : Nat := 1

/-- SYS event 2: A write is refused under R12, R27, R28 or R45 -/
def Ev.SYS.WLOCK : Nat := 2

/-- SYS event 3: An RWP write is ignored under R54 -/
def Ev.SYS.SHBUSY : Nat := 3

/-- SYS event 4: DT is stepped (R38) -/
def Ev.SYS.DTSTEP : Nat := 4

/-- SYS event 5: SYS.DT_STAT.SRC changes -/
def Ev.SYS.DTSRC : Nat := 5

/-- CLK event 0: PLTCLK is found outside f_PLTMON (R31) -/
def Ev.CLK.PLTRANGE : Nat := 0

/-- CLK event 1: The Platen die reports the core reference outside f_REFMON (R32) -/
def Ev.CLK.REFLOSS : Nat := 1

/-- CLK event 2: A new program-cycle length takes effect (R36) -/
def Ev.CLK.CYCLEN : Nat := 2

/-- LEAF event 0: Cycle-by-cycle overcurrent cut (R96) -/
def Ev.LEAF.OCCBC : Nat := 0

/-- LEAF event 1: Overcurrent latched (R97) -/
def Ev.LEAF.OCLATCH : Nat := 1

/-- LEAF event 2: Drain-source monitor tripped (R74) -/
def Ev.LEAF.VDS : Nat := 2

/-- LEAF event 3: Both commands of a phase on (R67) -/
def Ev.LEAF.XCMD : Nat := 3

/-- LEAF event 4: Bootstrap undervoltage (R72) -/
def Ev.LEAF.BSTUV : Nat := 4

/-- LEAF event 5: Gate supply undervoltage (R73) -/
def Ev.LEAF.VGDUV : Nat := 5

/-- LEAF event 6: Bridge supply undervoltage (R99) -/
def Ev.LEAF.VBRUV : Nat := 6

/-- LEAF event 7: Bridge supply overvoltage (R100) -/
def Ev.LEAF.VBROV : Nat := 7

/-- LEAF event 8: Regeneration clamp active (R88) -/
def Ev.LEAF.REGEN : Nat := 8

/-- LEAF event 9: A period with stale samples (R80) -/
def Ev.LEAF.SAMPLE : Nat := 9

/-- LEAF event 10: Current-sum check failed (R102) -/
def Ev.LEAF.ISUM : Nat := 10

/-- LEAF event 11: Phase-voltage check failed (R103) -/
def Ev.LEAF.VPH : Nat := 11

/-- LEAF event 12: Residue mismatch (R101) -/
def Ev.LEAF.RESIDUE : Nat := 12

/-- LEAF event 13: Shadow-estimate fault (R105) -/
def Ev.LEAF.SHADOW : Nat := 13

/-- LEAF event 14: Calibration ended; result in CALST -/
def Ev.LEAF.CAL : Nat := 14

/-- LEAF event 15: Platen bridge-disable asserted (R69) -/
def Ev.LEAF.PLTDIS : Nat := 15

/-- LEAF event 16: A staged value was clamped (R61) -/
def Ev.LEAF.CFGCLAMP : Nat := 16

/-- LEAF event 20: A planned move ended (R133) -/
def Ev.LEAF.DONE : Nat := 20

/-- LEAF event 21: A stop path began or was replaced (R149) -/
def Ev.LEAF.STOP : Nat := 21

/-- LEAF event 22: A stop path ended at standstill (R146) -/
def Ev.LEAF.STANDST : Nat := 22

/-- LEAF event 23: The open-end switch became active (R150) -/
def Ev.LEAF.LIMO : Nat := 23

/-- LEAF event 24: The closed-end switch became active (R150) -/
def Ev.LEAF.LIMC : Nat := 24

/-- LEAF event 25: The energy cap bound a move (R124) -/
def Ev.LEAF.KECAP : Nat := 25

/-- LEAF event 26: The sync error exceeded its bound (R142) -/
def Ev.LEAF.SYNC : Nat := 26

/-- LEAF event 27: Queue entry check failed, overflow, underrun or rejected entry (R137 to R139) -/
def Ev.LEAF.SPQ : Nat := 27

/-- LEAF event 28: Standstill not reached after a stop path (R147) -/
def Ev.LEAF.STOPTO : Nat := 28

/-- LEAF event 29: Ligature formed or dissolved (R140) -/
def Ev.LEAF.LIG : Nat := 29

/-- LEAF event 30: A move command was refused (R134) -/
def Ev.LEAF.REFUSE : Nat := 30

/-- LEAF event 31: A staged profile value or a target was clamped (R118, R130) -/
def Ev.LEAF.PCLAMP : Nat := 31

/-- OBS event 0: A detection occurred (R180) -/
def Ev.OBS.OBST : Nat := 0

/-- OBS event 1: An edge or curtain source became active -/
def Ev.OBS.EDGE : Nat := 1

/-- OBS event 2: The table was updated (R165) -/
def Ev.OBS.KTUPD : Nat := 2

/-- OBS event 3: An update was discarded (R168) -/
def Ev.OBS.KTFRZ : Nat := 3

/-- OBS event 4: Feedback became degraded (R186) -/
def Ev.OBS.DEGR : Nat := 4

/-- OBS event 5: A direction finished settling (R166) -/
def Ev.OBS.SETTLED : Nat := 5

/-- OBS event 6: A wear flag was set (R190) -/
def Ev.OBS.WEAR : Nat := 6

/-- OBS event 7: The temperature became stale (R162) -/
def Ev.OBS.TSTALE : Nat := 7

/-- OBS event 8: A bin reached FRICMAX (R167) -/
def Ev.OBS.KTSAT : Nat := 8

/-- OBS event 9: The shadow check failed (R192) -/
def Ev.OBS.OSHADOW : Nat := 9

/-- OBS event 10: A written value was clamped (R188) -/
def Ev.OBS.OCLAMP : Nat := 10

/-- OBS event 11: A command was refused while the active KF was 0 (R174) -/
def Ev.OBS.KFZERO : Nat := 11

/-- POS event 0: R197 -/
def Ev.POS.HALLINV : Nat := 0

/-- POS event 1: R197 -/
def Ev.POS.HALLSEQ : Nat := 1

/-- POS event 2: R196 -/
def Ev.POS.ENCERR : Nat := 2

/-- POS event 3: R211 -/
def Ev.POS.ZERR : Nat := 3

/-- POS event 4: R212 -/
def Ev.POS.XCHK : Nat := 4

/-- POS event 5: R199 -/
def Ev.POS.SSICRC : Nat := 5

/-- POS event 6: R199 -/
def Ev.POS.SSIERR : Nat := 6

/-- POS event 7: R199 -/
def Ev.POS.SSITO : Nat := 7

/-- POS event 8: R199 -/
def Ev.POS.SSIJUMP : Nat := 8

/-- POS event 9: R213 -/
def Ev.POS.SLIP : Nat := 9

/-- POS event 10: Feedback became degraded (R216) -/
def Ev.POS.DEGR : Nat := 10

/-- POS event 11: Position became invalid (R217) -/
def Ev.POS.INVAL : Nat := 11

/-- POS event 12: SETREF applied (R206) -/
def Ev.POS.REFSET : Nat := 12

/-- POS event 13: SETREF refused (R206) -/
def Ev.POS.REFNAK : Nat := 13

/-- POS event 14: R221 -/
def Ev.POS.CFGCLAMP : Nat := 14

/-- POS event 15: R200 -/
def Ev.POS.SSICFG : Nat := 15

/-- POS event 16: POSK only (R225) -/
def Ev.POS.LOSS : Nat := 16

/-- STEP event 0: Cycle-by-cycle overcurrent cut (R96) -/
def Ev.STEP.OCCBC : Nat := 0

/-- STEP event 1: Overcurrent latched (R97) -/
def Ev.STEP.OCLATCH : Nat := 1

/-- STEP event 2: Drain-source monitor tripped (R74) -/
def Ev.STEP.VDS : Nat := 2

/-- STEP event 3: Both commands of a phase on (R67) -/
def Ev.STEP.XCMD : Nat := 3

/-- STEP event 4: Bootstrap undervoltage (R72) -/
def Ev.STEP.BSTUV : Nat := 4

/-- STEP event 5: Gate supply undervoltage (R73) -/
def Ev.STEP.VGDUV : Nat := 5

/-- STEP event 6: Bridge supply undervoltage (R99) -/
def Ev.STEP.VBRUV : Nat := 6

/-- STEP event 7: Bridge supply overvoltage (R100) -/
def Ev.STEP.VBROV : Nat := 7

/-- STEP event 9: A period with stale samples (R80) -/
def Ev.STEP.SAMPLE : Nat := 9

/-- STEP event 10: Current-sum check failed (R102) -/
def Ev.STEP.ISUM : Nat := 10

/-- STEP event 11: Phase-voltage check failed (R103) -/
def Ev.STEP.VPH : Nat := 11

/-- STEP event 12: Residue mismatch (R101) -/
def Ev.STEP.RESIDUE : Nat := 12

/-- STEP event 14: Calibration ended; result in CALST -/
def Ev.STEP.CAL : Nat := 14

/-- STEP event 16: A staged value was clamped (R61) -/
def Ev.STEP.CFGCLAMP : Nat := 16

/-- STEP event 17: The face changed (R274) -/
def Ev.STEP.FACE : Nat := 17

/-- STEP event 18: A STEP pulse was rejected -/
def Ev.STEP.SDGLT : Nat := 18

/-- STEP event 19: Active edges closer than 4.0 µs (R276) -/
def Ev.STEP.SDRATE : Nat := 19

/-- STEP event 20: Interpolation lag above 4 × SDMUL (R277) -/
def Ev.STEP.SDLAG : Nat := 20

/-- STEP event 21: An input edge was not counted (R278) -/
def Ev.STEP.SDREJ : Nat := 21

/-- STEP event 22: The state changed -/
def Ev.STEP.STCHG : Nat := 22

/-- STEP event 23: A command was refused (R284) -/
def Ev.STEP.REFUSE : Nat := 23

/-- STEP event 24: Open winding (R275) -/
def Ev.STEP.OPENW : Nat := 24

/-- STEP event 25: A staged value was clamped (R292) -/
def Ev.STEP.PCLAMP : Nat := 25

/-- SAFE event 0: A loop demand of either channel changed -/
def Ev.SAFE.LOOPCHG : Nat := 0

/-- SAFE event 1: A release decision changed -/
def Ev.SAFE.RELCHG : Nat := 1

/-- SAFE event 2: A discrepancy latched (R308) -/
def Ev.SAFE.DISC : Nat := 2

/-- SAFE event 3: A test-pulse fault latched (R306) -/
def Ev.SAFE.TPFLT : Nat := 3

/-- SAFE event 4: A guard latched (R317) -/
def Ev.SAFE.GUARD : Nat := 4

/-- SAFE event 5: A switch test failed (R319) -/
def Ev.SAFE.LKTEST : Nat := 5

/-- SAFE event 6: A holding test ended (R320) -/
def Ev.SAFE.HTDONE : Nat := 6

/-- SAFE event 7: The applied orientation changed or was refused -/
def Ev.SAFE.ORICHG : Nat := 7

/-- PLT event 0: the Platen state changed -/
def Ev.PLT.STATE : Nat := 0

/-- PLT event 1: a diagnostic flag was set -/
def Ev.PLT.DIAG : Nat := 1

/-- PLT event 2: a Q-frame was discarded -/
def Ev.PLT.LINKERR : Nat := 2

/-- SEAL event 0 -/
def Ev.SEAL.TAMPER : Nat := 0

/-- SEAL event 1 -/
def Ev.SEAL.SEALFLT : Nat := 1

/-- SEAL event 2 -/
def Ev.SEAL.CHKFAIL : Nat := 2

/-- IMD event 0: A lane fault occurred (R344) -/
def Ev.IMD.LANEFLT : Nat := 0

/-- IMD event 1: A resync completed -/
def Ev.IMD.RESYNC : Nat := 1

/-- IMD event 2: A lane became OUT (R348, R349, R352) -/
def Ev.IMD.DUPLEX : Nat := 2

/-- IMD event 3: A rotating proof started -/
def Ev.IMD.PROOFST : Nat := 3

/-- IMD event 4: A rotating proof ended with the lane back in RUN -/
def Ev.IMD.PROOFEND : Nat := 4

/-- IMD event 5: A proof started after DEFMAX (R351) -/
def Ev.IMD.PROOFLATE : Nat := 5

/-- IMD event 6: A core-local error was corrected (R341) -/
def Ev.IMD.ECCCOR : Nat := 6

/-- IMD event 7: The triplet was halted by debug (R364) -/
def Ev.IMD.DBGHALT : Nat := 7

/-- IMD event 8: A written value was clamped (R367) -/
def Ev.IMD.CFGCLAMP : Nat := 8

/-- SVC event 0: The pair or one core was restarted (R358) -/
def Ev.SVC.RESTART : Nat := 0

/-- SVC event 1: A service watchdog expired (R361) -/
def Ev.SVC.WDOG : Nat := 1

/-- SVC event 2: A DT value was applied (R362) -/
def Ev.SVC.DTSET : Nat := 2

/-- SVC event 3: S0 was halted by debug (R366) -/
def Ev.SVC.DBGHALT : Nat := 3

/-- SVC event 4: A written value was clamped (R367) -/
def Ev.SVC.CFGCLAMP : Nat := 4

/-- FLT event 0: An entry became head with no head present (R376) -/
def Ev.FLT.NEWHEAD : Nat := 0

/-- FLT event 1: An entry preempted the head (R376) -/
def Ev.FLT.PREEMPT : Nat := 1

/-- FLT event 2: An entry was queued (R376) -/
def Ev.FLT.QUEUED : Nat := 2

/-- FLT event 3: Device safe halt was ordered (R381) -/
def Ev.FLT.HALT : Nat := 3

/-- FLT event 4: Entries were discarded (R379) -/
def Ev.FLT.OVF : Nat := 4

/-- FLT event 5: An ACK value did not match the head (R378) -/
def Ev.FLT.ACKMIS : Nat := 5

/-- FLT event 6: A C0 entry was logged (R374) -/
def Ev.FLT.INFO : Nat := 6

/-- FLT event 7: A written value was clamped (R593) -/
def Ev.FLT.CFGCLAMP : Nat := 7

/-- FRM event 0: A boundary found the main task running (R397) -/
def Ev.FRM.LATE : Nat := 0

/-- FRM event 1: A task trapped (R395) -/
def Ev.FRM.TRAP : Nat := 1

/-- FRM event 2: The motion-sync task reached its budget (R396) -/
def Ev.FRM.MSOVR : Nat := 2

/-- FRM event 3: The error task ran (R398) -/
def Ev.FRM.ERRTASK : Nat := 3

/-- FRM event 4: Preparation completed (R407) -/
def Ev.FRM.OLCREADY : Nat := 4

/-- FRM event 5: An online change failed -/
def Ev.FRM.OLCFAIL : Nat := 5

/-- FRM event 6: The forme switched (R409) -/
def Ev.FRM.OLCSWITCH : Nat := 6

/-- FRM event 7: A force entry was refused (R412) -/
def Ev.FRM.FREF : Nat := 7

/-- FRM event 8: A force entry was dropped (R412) -/
def Ev.FRM.FDROP : Nat := 8

/-- FRM event 9: Maintenance mode began or ended -/
def Ev.FRM.MAINT : Nat := 9

/-- FRM event 10: A value was clamped (R414) -/
def Ev.FRM.CFGCLAMP : Nat := 10

/-- FIO event 0: An output latch or readback fault appeared -/
def Ev.FIO.DOFLT : Nat := 0

/-- FIO event 1: TPOSC or TPORB (R420) -/
def Ev.FIO.TPOFLT : Nat := 1

/-- FIO event 2: LKOC (R437) -/
def Ev.FIO.LKFLT : Nat := 2

/-- FIO event 3: WARN, LOW or PF changed (R438) -/
def Ev.FIO.VLEVEL : Nat := 3

/-- FIO event 4: A field-link frame was discarded (R15) -/
def Ev.FIO.LINKERR : Nat := 4

/-- FIO event 5: LIMPIN or STANDALONE changed -/
def Ev.FIO.LIMP : Nat := 5

/-- FIO event 6: R425, R438, R445 -/
def Ev.FIO.CFGCLAMP : Nat := 6

/-- LSW event 0: A trip was counted (R429) -/
def Ev.LSW.TRIP : Nat := 0

/-- LSW event 1: A channel latched (R429, R431, R432) -/
def Ev.LSW.LATCH : Nat := 1

/-- LSW event 2: A channel was shed or restored -/
def Ev.LSW.SHED : Nat := 2

/-- LSW event 3: R445 -/
def Ev.LSW.CFGCLAMP : Nat := 3

/-- LIMP event 0: R443 -/
def Ev.LIMP.MAPBAD : Nat := 0

/-- LIMP event 1: R445 -/
def Ev.LIMP.CFGCLAMP : Nat := 1

/-- CAN event 0: Error-passive entered -/
def Ev.CAN.EPASS : Nat := 0

/-- CAN event 1: Bus-off entered (R450) -/
def Ev.CAN.BUSOFF : Nat := 1

/-- CAN event 2: Recovery completed -/
def Ev.CAN.BOREC : Nat := 2

/-- CAN event 3: Protocol exception (R447) -/
def Ev.CAN.PXE : Nat := 3

/-- CAN event 4: R458 -/
def Ev.CAN.IDCOL : Nat := 4

/-- CAN event 5: R451 -/
def Ev.CAN.RXDROP : Nat := 5

/-- CAN event 6: A cancel was refused (R456) -/
def Ev.CAN.TXCANREF : Nat := 6

/-- CAN event 7: R448, R474 -/
def Ev.CAN.CFGCLAMP : Nat := 7

/-- IMPO event 0: R462 -/
def Ev.IMPO.REFMISS : Nat := 0

/-- IMPO event 1: R469 -/
def Ev.IMPO.STNDROP : Nat := 1

/-- IMPO event 2: R468 -/
def Ev.IMPO.STNJOIN : Nat := 2

/-- IMPO event 3: R470 -/
def Ev.IMPO.DISC : Nat := 3

/-- IMPO event 4: R463 -/
def Ev.IMPO.SLOTOVR : Nat := 4

/-- IMPO event 5: R461 -/
def Ev.IMPO.SLOTSKIP : Nat := 5

/-- IMPO event 6: R465 -/
def Ev.IMPO.MAPBAD : Nat := 6

/-- IMPO event 7: R474 -/
def Ev.IMPO.CFGCLAMP : Nat := 7

/-- ETH event 0: A link changed; a frame error; R477; R478; R500 -/
def Ev.ETH.LINK : Nat := 0

/-- ETH event 1: A link changed; a frame error; R477; R478; R500 -/
def Ev.ETH.RXERR : Nat := 1

/-- ETH event 2: A link changed; a frame error; R477; R478; R500 -/
def Ev.ETH.QDROP : Nat := 2

/-- ETH event 3: A link changed; a frame error; R477; R478; R500 -/
def Ev.ETH.RINGDROP : Nat := 3

/-- ETH event 4: A link changed; a frame error; R477; R478; R500 -/
def Ev.ETH.CFGCLAMP : Nat := 4

/-- PTP event 0: SRC became 3; SRC became 4; R481; R481; R500 -/
def Ev.PTP.LOCK : Nat := 0

/-- PTP event 1: SRC became 3; SRC became 4; R481; R481; R500 -/
def Ev.PTP.HOLD : Nat := 1

/-- PTP event 2: SRC became 3; SRC became 4; R481; R481; R500 -/
def Ev.PTP.STEP : Nat := 2

/-- PTP event 3: SRC became 3; SRC became 4; R481; R481; R500 -/
def Ev.PTP.GMCHG : Nat := 3

/-- PTP event 4: SRC became 3; SRC became 4; R481; R481; R500 -/
def Ev.PTP.CFGCLAMP : Nat := 4

/-- TRDP event 0: R485; R487; R483; R490; R488; R500 -/
def Ev.TRDP.SUBTMO : Nat := 0

/-- TRDP event 1: R485; R487; R483; R490; R488; R500 -/
def Ev.TRDP.TOPODROP : Nat := 1

/-- TRDP event 2: R485; R487; R483; R490; R488; R500 -/
def Ev.TRDP.TXLATE : Nat := 2

/-- TRDP event 3: R485; R487; R483; R490; R488; R500 -/
def Ev.TRDP.ORICHG : Nat := 3

/-- TRDP event 4: R485; R487; R483; R490; R488; R500 -/
def Ev.TRDP.MAPBAD : Nat := 4

/-- TRDP event 5: R485; R487; R483; R490; R488; R500 -/
def Ev.TRDP.CFGCLAMP : Nat := 5

/-- RING event 0: R494; R500 -/
def Ev.RING.RINGBAD : Nat := 0

/-- RING event 1: R494; R500 -/
def Ev.RING.CFGCLAMP : Nat := 1

/-- REC event 0: A slug arrived -/
def Ev.REC.SLUG : Nat := 0

/-- REC event 1: R509 -/
def Ev.REC.LOST : Nat := 1

/-- REC event 2: A trace was truncated (R505) -/
def Ev.REC.TRUNC : Nat := 2

/-- REC event 3: R507 -/
def Ev.REC.ANOMWRAP : Nat := 3

/-- REC event 4: An operation was deferred (R524) -/
def Ev.REC.DEFER : Nat := 4

/-- REC event 5: A final commit began (R526) -/
def Ev.REC.FCSTART : Nat := 5

/-- REC event 6: A final commit ended (R526) -/
def Ev.REC.FCEND : Nat := 6

/-- REC event 7: R513 -/
def Ev.REC.MEMFAIL : Nat := 7

/-- REC event 8: R513 -/
def Ev.REC.BADBLK : Nat := 8

/-- REC event 9: R515 -/
def Ev.REC.LAYMIS : Nat := 9

/-- REC event 10: R512, R528 -/
def Ev.REC.CFGCLAMP : Nat := 10

/-- CFG event 0: An impression switch took place (R554) -/
def Ev.CFG.SWITCHED : Nat := 0

/-- CFG event 1: A switch was refused (R553) -/
def Ev.CFG.SWREF : Nat := 1

/-- CFG event 2: No deferred page remains (R555) -/
def Ev.CFG.APPLIED : Nat := 2

/-- CFG event 3: R550 -/
def Ev.CFG.READY : Nat := 3

/-- CFG event 4: R560 -/
def Ev.CFG.CFGCLAMP : Nat := 4

/-- SEC event 0: A verification ended (R556) -/
def Ev.SEC.VERDONE : Nat := 0

/-- SEC event 1: R531 -/
def Ev.SEC.XSREF : Nat := 1

/-- SEC event 2: Debug unlock became active (R544) -/
def Ev.SEC.UNLOCK : Nat := 2

/-- SEC event 3: A key was enrolled (R543) -/
def Ev.SEC.NKEY : Nat := 3

/-- SEC event 4: The lifecycle state was burnt (R540) -/
def Ev.SEC.LCCHG : Nat := 4

/-- SEC event 5: R560 -/
def Ev.SEC.CFGCLAMP : Nat := 5

/-- CLK cause, class C3: Device safe halt from BKCLK (R30) -/
def Cz.CLK.PLLLOSS : Cause := ⟨0x001, 3⟩

/-- CLK cause, class C3: Device safe halt (R31) -/
def Cz.CLK.PLTCLK : Cause := ⟨0x002, 3⟩

/-- LEAF cause, class C2: Gates off (R97) -/
def Cz.LEAF.OCLATCH : Cause := ⟨0x001, 2⟩

/-- LEAF cause, class C2: Gates off (R74), high side -/
def Cz.LEAF.VDSHI : Cause := ⟨0x002, 2⟩

/-- LEAF cause, class C2: Gates off (R74), low side -/
def Cz.LEAF.VDSLO : Cause := ⟨0x003, 2⟩

/-- LEAF cause, class C2: Phase held off (R67); gates off -/
def Cz.LEAF.XCMD : Cause := ⟨0x004, 2⟩

/-- LEAF cause, class C2: High side off (R72); gates off -/
def Cz.LEAF.BSTUV : Cause := ⟨0x005, 2⟩

/-- LEAF cause, class C2: All gates of the die off (R73) -/
def Cz.LEAF.VGDUV : Cause := ⟨0x006, 2⟩

/-- LEAF cause, class C2: Quick stop (R99) -/
def Cz.LEAF.VBRUV : Cause := ⟨0x007, 2⟩

/-- LEAF cause, class C2: Gates off (R100) -/
def Cz.LEAF.VBROV : Cause := ⟨0x008, 2⟩

/-- LEAF cause, class C0: Regeneration limited (R88) -/
def Cz.LEAF.REGEN : Cause := ⟨0x009, 0⟩

/-- LEAF cause, class C2: Hard stop -/
def Cz.LEAF.ISUM : Cause := ⟨0x00A, 2⟩

/-- LEAF cause, class C2: Hard stop -/
def Cz.LEAF.VPH : Cause := ⟨0x00B, 2⟩

/-- LEAF cause, class C2: Gates off (R101) -/
def Cz.LEAF.RESIDUE : Cause := ⟨0x00C, 2⟩

/-- LEAF cause, class C2: Uncorrectable ECC in coefficient memory; gates off -/
def Cz.LEAF.COEFECC : Cause := ⟨0x00D, 2⟩

/-- LEAF cause, class C2: Hard stop (R105) -/
def Cz.LEAF.SHADOW : Cause := ⟨0x00E, 2⟩

/-- LEAF cause, class C1: Previous offsets kept -/
def Cz.LEAF.CALFAIL : Cause := ⟨0x00F, 1⟩

/-- LEAF cause, class C2: Hard stop (R92) -/
def Cz.LEAF.POSINV : Cause := ⟨0x010, 2⟩

/-- LEAF cause, class C0: Mode OFF (R69) -/
def Cz.LEAF.PLTDIS : Cause := ⟨0x011, 0⟩

/-- LEAF cause, class C2: Quick stop of both leaves (R142) -/
def Cz.LEAF.SYNCERR : Cause := ⟨0x020, 2⟩

/-- LEAF cause, class C2: Quick stop (R139) -/
def Cz.LEAF.SPQUNDER : Cause := ⟨0x021, 2⟩

/-- LEAF cause, class C2: Quick stop (R138) -/
def Cz.LEAF.SPQLIM : Cause := ⟨0x022, 2⟩

/-- LEAF cause, class C2: Hard stop (R147) -/
def Cz.LEAF.STOPTO : Cause := ⟨0x023, 2⟩

/-- LEAF cause, class C2: Quick stop or hard stop (R150) -/
def Cz.LEAF.LIMTRIP : Cause := ⟨0x024, 2⟩

/-- LEAF cause, class C2: Quick stop (R126) -/
def Cz.LEAF.KEOVER : Cause := ⟨0x025, 2⟩

/-- OBS cause, class C0: Quick stop, then reverse or hold (R180, R181) -/
def Cz.OBS.OBSTACLE : Cause := ⟨0x001, 0⟩

/-- OBS cause, class C2: Quick stop; table invalidated (R193) -/
def Cz.OBS.KTECC : Cause := ⟨0x002, 2⟩

/-- OBS cause, class C2: Quick stop (R192) -/
def Cz.OBS.OSHADOW : Cause := ⟨0x003, 2⟩

/-- OBS cause, class C1: Last temperature kept (R162) -/
def Cz.OBS.TSTALE : Cause := ⟨0x004, 1⟩

/-- OBS cause, class C1: Margin, a_ff, no learning (R186) -/
def Cz.OBS.DEGRADED : Cause := ⟨0x005, 1⟩

/-- OBS cause, class C1: Bin held at FRICMAX (R167) -/
def Cz.OBS.KTSAT : Cause := ⟨0x006, 1⟩

/-- OBS cause, class C0: Flag set (R190) -/
def Cz.OBS.WEARFLAG : Cause := ⟨0x007, 0⟩

/-- OBS cause, class C2: Quick stop; no motion while the page is disabled (R116) -/
def Cz.OBS.OBSOFF : Cause := ⟨0x008, 2⟩

/-- POS cause, class C1: Hall latched faulty -/
def Cz.POS.HALLINV : Cause := ⟨0x001, 1⟩

/-- POS cause, class C1: Hall latched faulty -/
def Cz.POS.HALLSEQ : Cause := ⟨0x002, 1⟩

/-- POS cause, class C1: Encoder latched faulty -/
def Cz.POS.ENCERR : Cause := ⟨0x003, 1⟩

/-- POS cause, class C1: Encoder latched faulty -/
def Cz.POS.ZERR : Cause := ⟨0x004, 1⟩

/-- POS cause, class C1: Position invalid -/
def Cz.POS.XCHK : Cause := ⟨0x005, 1⟩

/-- POS cause, class C1: Missing word -/
def Cz.POS.SSICRC : Cause := ⟨0x006, 1⟩

/-- POS cause, class C1: Missing word -/
def Cz.POS.SSIERR : Cause := ⟨0x007, 1⟩

/-- POS cause, class C1: Missing word -/
def Cz.POS.SSITO : Cause := ⟨0x008, 1⟩

/-- POS cause, class C1: Missing word -/
def Cz.POS.SSIJUMP : Cause := ⟨0x009, 1⟩

/-- POS cause, class C1: Position invalid -/
def Cz.POS.SLIP : Cause := ⟨0x00A, 1⟩

/-- POS cause, class C1: Hall takes over (R215) -/
def Cz.POS.FALLBACK : Cause := ⟨0x00B, 1⟩

/-- POS cause, class C1: POSK only (R225) -/
def Cz.POS.STEPLOSS : Cause := ⟨0x00C, 1⟩

/-- LEAF cause, class C2: FAULT; lock off -/
def Cz.LEAF.UNLKTO : Cause := ⟨0x040, 2⟩

/-- LEAF cause, class C2: FAULT -/
def Cz.LEAF.LOCKTO : Cause := ⟨0x041, 2⟩

/-- LEAF cause, class C2: FAULT -/
def Cz.LEAF.LOCKLOST : Cause := ⟨0x042, 2⟩

/-- LEAF cause, class C2: Quick stop; UNREF (R256) -/
def Cz.LEAF.LRNOPP : Cause := ⟨0x043, 2⟩

/-- LEAF cause, class C2: Quick stop; UNREF (R256) -/
def Cz.LEAF.LRNCHAT : Cause := ⟨0x044, 2⟩

/-- LEAF cause, class C2: Quick stop; UNREF (R256) -/
def Cz.LEAF.LRNFAIL : Cause := ⟨0x045, 2⟩

/-- LEAF cause, class C1: Switch suspect (R238) -/
def Cz.LEAF.CHATTER : Cause := ⟨0x046, 1⟩

/-- LEAF cause, class C1: OBSTRUCTED -/
def Cz.LEAF.CLOSENF : Cause := ⟨0x047, 1⟩

/-- LEAF cause, class C0: Reclose cancelled (R250) -/
def Cz.LEAF.RECLEX : Cause := ⟨0x048, 0⟩

/-- LEAF cause, class C1: EMERG -/
def Cz.LEAF.EMERGOP : Cause := ⟨0x049, 1⟩

/-- STEP cause, class C2: Gates off (R97) -/
def Cz.STEP.OCLATCH : Cause := ⟨0x001, 2⟩

/-- STEP cause, class C2: Gates off (R74), high side -/
def Cz.STEP.VDSHI : Cause := ⟨0x002, 2⟩

/-- STEP cause, class C2: Gates off (R74), low side -/
def Cz.STEP.VDSLO : Cause := ⟨0x003, 2⟩

/-- STEP cause, class C2: Phase held off (R67); gates off -/
def Cz.STEP.XCMD : Cause := ⟨0x004, 2⟩

/-- STEP cause, class C2: High side off (R72); gates off -/
def Cz.STEP.BSTUV : Cause := ⟨0x005, 2⟩

/-- STEP cause, class C2: All gates of the die off (R73) -/
def Cz.STEP.VGDUV : Cause := ⟨0x006, 2⟩

/-- STEP cause, class C2: Quick stop (R99) -/
def Cz.STEP.VBRUV : Cause := ⟨0x007, 2⟩

/-- STEP cause, class C2: Gates off (R100) -/
def Cz.STEP.VBROV : Cause := ⟨0x008, 2⟩

/-- STEP cause, class C2: Hard stop -/
def Cz.STEP.VPH : Cause := ⟨0x00B, 2⟩

/-- STEP cause, class C2: Gates off (R101) -/
def Cz.STEP.RESIDUE : Cause := ⟨0x00C, 2⟩

/-- STEP cause, class C2: Uncorrectable ECC in coefficient memory; gates off -/
def Cz.STEP.COEFECC : Cause := ⟨0x00D, 2⟩

/-- STEP cause, class C1: Previous offsets kept -/
def Cz.STEP.CALFAIL : Cause := ⟨0x00F, 1⟩

/-- STEP cause, class C2: FAULT; gates off -/
def Cz.STEP.OPENW : Cause := ⟨0x060, 2⟩

/-- STEP cause, class C2: FAULT -/
def Cz.STEP.RETNF : Cause := ⟨0x061, 2⟩

/-- STEP cause, class C1: STOPPED -/
def Cz.STEP.EXTNF : Cause := ⟨0x062, 1⟩

/-- STEP cause, class C2: FAULT -/
def Cz.STEP.RETLOST : Cause := ⟨0x063, 2⟩

/-- STEP cause, class C2: FAULT -/
def Cz.STEP.HOMEFAIL : Cause := ⟨0x064, 2⟩

/-- STEP cause, class C2: Quick stop; UNREF -/
def Cz.STEP.LOSTREF : Cause := ⟨0x065, 2⟩

/-- STEP cause, class C1: Switch suspect -/
def Cz.STEP.SCHAT : Cause := ⟨0x066, 1⟩

/-- SAFE cause, class C2: Input read inactive (R308) -/
def Cz.SAFE.DISC : Cause := ⟨0x001, 2⟩

/-- SAFE cause, class C2: SI read inactive -/
def Cz.SAFE.TPSTUCK : Cause := ⟨0x002, 2⟩

/-- SAFE cause, class C2: SI read inactive -/
def Cz.SAFE.TPXSHORT : Cause := ⟨0x003, 2⟩

/-- SAFE cause, class C2: Both coils of the loop off -/
def Cz.SAFE.LOOPMIR : Cause := ⟨0x004, 2⟩

/-- SAFE cause, class C2: Both coils of the loop off -/
def Cz.SAFE.COILA : Cause := ⟨0x005, 2⟩

/-- SAFE cause, class C2: High side off; leaf FAULT -/
def Cz.SAFE.LKHSTUCK : Cause := ⟨0x006, 2⟩

/-- SAFE cause, class C2: High side off; leaf FAULT -/
def Cz.SAFE.LKLSTUCK : Cause := ⟨0x007, 2⟩

/-- SAFE cause, class C2: Leaf FAULT -/
def Cz.SAFE.HOLDFAIL : Cause := ⟨0x008, 2⟩

/-- SAFE cause, class C2: Bridge disabled; lock applied -/
def Cz.SAFE.GUARD : Cause := ⟨0x009, 2⟩

/-- SAFE cause, class C2: Loops open; releases revoked -/
def Cz.SAFE.ORIMIS : Cause := ⟨0x00A, 2⟩

/-- SAFE cause, class C1: Previous orientation kept -/
def Cz.SAFE.ORIREF : Cause := ⟨0x00B, 1⟩

/-- SAFE cause, class C3: Device safe halt -/
def Cz.SAFE.XDEC : Cause := ⟨0x00C, 3⟩

/-- SAFE cause, class C3: Device safe halt -/
def Cz.SAFE.XLINK : Cause := ⟨0x00D, 3⟩

/-- SAFE cause, class C3: Device safe halt -/
def Cz.SAFE.PLTSAFE : Cause := ⟨0x00E, 3⟩

/-- SAFE cause, class C3: Device safe halt -/
def Cz.SAFE.PCRBAD : Cause := ⟨0x00F, 3⟩

/-- SAFE cause, class C1: Record in force kept -/
def Cz.SAFE.PCRPEND : Cause := ⟨0x010, 1⟩

/-- SAFE cause, class C2: Leaf or step FAULT -/
def Cz.SAFE.CFGMIS : Cause := ⟨0x011, 2⟩

/-- SAFE cause, class C3: Device safe halt -/
def Cz.SAFE.LINERB : Cause := ⟨0x012, 3⟩

/-- PLT cause, class C2: Both coils of the loop off -/
def Cz.PLT.COILB : Cause := ⟨0x001, 2⟩

/-- PLT cause, class C3: Platen SAFE -/
def Cz.PLT.PLTCMP : Cause := ⟨0x002, 3⟩

/-- PLT cause, class C3: Platen SAFE -/
def Cz.PLT.PLTINT : Cause := ⟨0x003, 3⟩

/-- PLT cause, class C3: Platen SAFE -/
def Cz.PLT.PCRCRC : Cause := ⟨0x004, 3⟩

/-- SEAL cause, class C3: No motion (R322) -/
def Cz.SEAL.SEALCHK : Cause := ⟨0x001, 3⟩

/-- SEAL cause, class C3: Device safe halt -/
def Cz.SEAL.TAMPER : Cause := ⟨0x002, 3⟩

/-- SEAL cause, class C3: Device safe halt -/
def Cz.SEAL.SEALFLT : Cause := ⟨0x003, 3⟩

/-- SEAL cause, class C3: No motion (R322) -/
def Cz.SEAL.SEALRSV : Cause := ⟨0x004, 3⟩

/-- IMD cause, class C1: Resync (R344) -/
def Cz.IMD.LANEVOTE : Cause := ⟨0x001, 1⟩

/-- IMD cause, class C1: Resync -/
def Cz.IMD.LANEFOLD : Cause := ⟨0x002, 1⟩

/-- IMD cause, class C1: Resync -/
def Cz.IMD.LANEDLY : Cause := ⟨0x003, 1⟩

/-- IMD cause, class C1: Resync -/
def Cz.IMD.LANERES : Cause := ⟨0x004, 1⟩

/-- IMD cause, class C1: Resync -/
def Cz.IMD.LANEECC : Cause := ⟨0x005, 1⟩

/-- IMD cause, class C1: Lane OUT; permanent duplex (R348) -/
def Cz.IMD.RSYNCF : Cause := ⟨0x006, 1⟩

/-- IMD cause, class C1: Lane OUT; permanent duplex (R349) -/
def Cz.IMD.DUPLEX : Cause := ⟨0x007, 1⟩

/-- IMD cause, class C1: Lane OUT; permanent duplex (R352) -/
def Cz.IMD.PROOFFAIL : Cause := ⟨0x008, 1⟩

/-- IMD cause, class C0: Proof runs with motion (R351) -/
def Cz.IMD.PROOFLATE : Cause := ⟨0x009, 0⟩

/-- IMD cause, class C3: Device safe halt (R337) -/
def Cz.IMD.NOMAJ : Cause := ⟨0x00A, 3⟩

/-- IMD cause, class C3: Device safe halt (R346) -/
def Cz.IMD.DUPMIS : Cause := ⟨0x00B, 3⟩

/-- IMD cause, class C3: Device safe halt within 20 µs (R336) -/
def Cz.IMD.VCHK : Cause := ⟨0x00C, 3⟩

/-- IMD cause, class C3: Stays in boot (R356) -/
def Cz.IMD.PPASS : Cause := ⟨0x00D, 3⟩

/-- IMD cause, class C3: Device safe halt (R364) -/
def Cz.IMD.DBGHALT : Cause := ⟨0x00E, 3⟩

/-- SVC cause, class C2: Restart (R358) -/
def Cz.SVC.SPMIS : Cause := ⟨0x001, 2⟩

/-- SVC cause, class C2: Restart -/
def Cz.SVC.SPDLY : Cause := ⟨0x002, 2⟩

/-- SVC cause, class C2: Restart -/
def Cz.SVC.SPRES : Cause := ⟨0x003, 2⟩

/-- SVC cause, class C2: Restart -/
def Cz.SVC.SPECC : Cause := ⟨0x004, 2⟩

/-- SVC cause, class C2: Restart (R361) -/
def Cz.SVC.SVCWDOG : Cause := ⟨0x005, 2⟩

/-- SVC cause, class C2: Restart (R41) -/
def Cz.SVC.SVCMEM : Cause := ⟨0x006, 2⟩

/-- FLT cause, class C3: Device safe halt (R379) -/
def Cz.FLT.QOVF : Cause := ⟨0x001, 3⟩

/-- FRM cause, class C3: Device safe halt (R400) -/
def Cz.FRM.OVERRUN : Cause := ⟨0x001, 3⟩

/-- FRM cause, class C1: Error task (R397) -/
def Cz.FRM.LATE : Cause := ⟨0x002, 1⟩

/-- FRM cause, class C1: Task aborted; error task (R395) -/
def Cz.FRM.TRAP : Cause := ⟨0x003, 1⟩

/-- FRM cause, class C1: Motion-sync task aborted; error task -/
def Cz.FRM.MSOVR : Cause := ⟨0x004, 1⟩

/-- FRM cause, class C1: Error task aborted (R399) -/
def Cz.FRM.ERRTRAP : Cause := ⟨0x005, 1⟩

/-- FRM cause, class C3: Device safe halt (R401) -/
def Cz.FRM.BADFORME : Cause := ⟨0x006, 3⟩

/-- FRM cause, class C0: Old forme runs on -/
def Cz.FRM.OLCFAIL : Cause := ⟨0x007, 0⟩

/-- FRM cause, class C0: Force dropped (R412) -/
def Cz.FRM.FDROP : Cause := ⟨0x008, 0⟩

/-- FIO cause, class C2: Output or group off, latched (R426) -/
def Cz.FIO.DOOC : Cause := ⟨0x001, 2⟩

/-- FIO cause, class C2: Output or group off, latched -/
def Cz.FIO.DOTH : Cause := ⟨0x002, 2⟩

/-- FIO cause, class C1: Reported (R427) -/
def Cz.FIO.DORB : Cause := ⟨0x003, 1⟩

/-- FIO cause, class C1: Reported -/
def Cz.FIO.DOEXT : Cause := ⟨0x004, 1⟩

/-- FIO cause, class C0: Reported -/
def Cz.FIO.DOOPEN : Cause := ⟨0x005, 0⟩

/-- FIO cause, class C2: TPO off; its SIs masked (R420) -/
def Cz.FIO.TPOSC : Cause := ⟨0x006, 2⟩

/-- FIO cause, class C2: Its SIs masked -/
def Cz.FIO.TPORB : Cause := ⟨0x007, 2⟩

/-- FIO cause, class C2: Lock high side off, latched (R437) -/
def Cz.FIO.LKOC : Cause := ⟨0x008, 2⟩

/-- FIO cause, class C2: Functions of the die safe (R16, R17) -/
def Cz.FIO.FLDLOST : Cause := ⟨0x009, 2⟩

/-- FIO cause, class C0: Shedding (R439) -/
def Cz.FIO.VFWARN : Cause := ⟨0x00A, 0⟩

/-- FIO cause, class C1: Stop and hold (R440) -/
def Cz.FIO.VFLOW : Cause := ⟨0x00B, 1⟩

/-- FIO cause, class C2: Quick stop; all outputs shed (R441) -/
def Cz.FIO.PFAIL : Cause := ⟨0x00C, 2⟩

/-- LSW cause, class C2: Latched off (R429) -/
def Cz.LSW.LSOC : Cause := ⟨0x001, 2⟩

/-- LSW cause, class C2: Latched off (R431) -/
def Cz.LSW.LSFUSE : Cause := ⟨0x002, 2⟩

/-- LSW cause, class C2: Latched off; TRY frozen (R432) -/
def Cz.LSW.LSTHERM : Cause := ⟨0x003, 2⟩

/-- LSW cause, class C0: Pause, then retry -/
def Cz.LSW.LSTRIP : Cause := ⟨0x004, 0⟩

/-- LIMP cause, class C0: Mapping ignored (R443) -/
def Cz.LIMP.MAPBAD : Cause := ⟨0x001, 0⟩

/-- CAN cause, class C1: Recovery under BOAUTO (R450) -/
def Cz.CAN.BUSOFF : Cause := ⟨0x001, 1⟩

/-- CAN cause, class C2: Controller held bus-off -/
def Cz.CAN.BOLATCH : Cause := ⟨0x002, 2⟩

/-- CAN cause, class C1: Reported (R458) -/
def Cz.CAN.IDCOL : Cause := ⟨0x003, 1⟩

/-- IMPO cause, class C2: Substitute values; outputs discarded (R469, R470) -/
def Cz.IMPO.STNDROP : Cause := ⟨0x001, 2⟩

/-- IMPO cause, class C0: Slots timed from the boundary (R461) -/
def Cz.IMPO.REFMISS : Cause := ⟨0x002, 0⟩

/-- IMPO cause, class C2: Reported; stations drop under R468 -/
def Cz.IMPO.REFFAIL : Cause := ⟨0x003, 2⟩

/-- IMPO cause, class C1: Late slots skipped (R461) -/
def Cz.IMPO.IMPFIT : Cause := ⟨0x004, 1⟩

/-- IMPO cause, class C0: Cell free (R465) -/
def Cz.IMPO.MAPBAD : Cause := ⟨0x005, 0⟩

/-- ETH cause, class C1: Port passes no frames -/
def Cz.ETH.LINKDN : Cause := ⟨0x001, 1⟩

/-- PTP cause, class C1: DT in holdover (R481) -/
def Cz.PTP.PTPLOST : Cause := ⟨0x001, 1⟩

/-- PTP cause, class C0: DT stepped -/
def Cz.PTP.PTPSTEP : Cause := ⟨0x002, 0⟩

/-- TRDP cause, class C1: Item kept or zeroed (R485) -/
def Cz.TRDP.SUBTMO : Cause := ⟨0x001, 1⟩

/-- TRDP cause, class C1: Telegram skipped (R483) -/
def Cz.TRDP.TXLATE : Cause := ⟨0x002, 1⟩

/-- TRDP cause, class C0: Descriptor ignored (R488) -/
def Cz.TRDP.MAPBAD : Cause := ⟨0x003, 0⟩

/-- RING cause, class C0: Ring disabled (R494) -/
def Cz.RING.RINGBAD : Cause := ⟨0x001, 0⟩

/-- REC cause, class C1: Oldest unstored slug replaced (R509) -/
def Cz.REC.SLUGLOST : Cause := ⟨0x001, 1⟩

/-- REC cause, class C1: Slug discarded (R510) -/
def Cz.REC.RBECC : Cause := ⟨0x002, 1⟩

/-- REC cause, class C1: Storage stops; publication continues (R513) -/
def Cz.REC.MEMFAIL : Cause := ⟨0x003, 1⟩

/-- REC cause, class C1: Retried at the next due time (R519) -/
def Cz.REC.FOLIOFAIL : Cause := ⟨0x004, 1⟩

/-- REC cause, class C0: Operation stays deferred (R524) -/
def Cz.REC.HOLDDEF : Cause := ⟨0x005, 0⟩

/-- REC cause, class C0: Oldest anomalous trace overwritten (R507) -/
def Cz.REC.ANOMWRAP : Cause := ⟨0x006, 0⟩

/-- REC cause, class C1: Header layout kept (R515) -/
def Cz.REC.LAYMIS : Cause := ⟨0x007, 1⟩

/-- REC cause, class C0: Block retired (R513) -/
def Cz.REC.BADBLK : Cause := ⟨0x008, 0⟩

/-- CFG cause, class C0: Switch refused (R553) -/
def Cz.CFG.SWREF : Cause := ⟨0x001, 0⟩

/-- CFG cause, class C1: Other slot selected (R557) -/
def Cz.CFG.TRIALREV : Cause := ⟨0x002, 1⟩

/-- SEC cause, class C3: Boot hold -/
def Cz.SEC.HDRBAD : Cause := ⟨0x001, 3⟩

/-- SEC cause, class C3: Boot hold -/
def Cz.SEC.KEYBAD : Cause := ⟨0x002, 3⟩

/-- SEC cause, class C3: Boot hold (R541) -/
def Cz.SEC.LCBIND : Cause := ⟨0x003, 3⟩

/-- SEC cause, class C1: Other slot used (R547) -/
def Cz.SEC.FWBAD : Cause := ⟨0x004, 1⟩

/-- SEC cause, class C1: Other slot used (R547) -/
def Cz.SEC.ROLLBACK : Cause := ⟨0x005, 1⟩

/-- SEC cause, class C3: Boot hold -/
def Cz.SEC.FWNONE : Cause := ⟨0x006, 3⟩

/-- SEC cause, class C1: Other slot used -/
def Cz.SEC.IMPBAD : Cause := ⟨0x007, 1⟩

/-- SEC cause, class C3: Boot hold -/
def Cz.SEC.IMPNONE : Cause := ⟨0x008, 3⟩

/-- SEC cause, class C1: Other slot used (R548) -/
def Cz.SEC.FRMBAD : Cause := ⟨0x009, 1⟩

/-- SEC cause, class C3: Boot hold -/
def Cz.SEC.FRMNONE : Cause := ⟨0x00A, 3⟩

/-- SEC cause, class C3: Device safe halt (R534) -/
def Cz.SEC.FWFETCH : Cause := ⟨0x00B, 3⟩

/-- SEC cause, class C0: Lifecycle kept (R540) -/
def Cz.SEC.LCREF : Cause := ⟨0x00C, 0⟩

/-- SEC cause, class C3: Boot hold (R551) -/
def Cz.SEC.BOOTTO : Cause := ⟨0x00D, 3⟩

end Sys2Proof.Machine
end

