-- ==== Sys2Proof/Machine/RegMapAxis.lean ====
section
/-! DEFINITION. Register fields of the pages OBS, POS, POSK, EMU, STEP, from the register tables of the manual: offset, lowest bit,
width, access code (R12), reset value and stated range. A register whose content is computed from other state when it is
read has no field here. -/

namespace Sys2Proof.Machine

/-- Opening bin b residual variance, 0.1 N², saturating -/
def OBS.KTO.VAR : Fld := (fld .ro 0x400 16 16 0).arr 256 4

/-- Opening bin b friction at 20 °C, 0.1 N; 0xFFFF: not learned -/
def OBS.KTO.FRIC : Fld := (fld .ro 0x400 0 16 65535).arr 256 4

/-- Closing bin b, as above -/
def OBS.KTC.VAR : Fld := (fld .ro 0x800 16 16 0).arr 256 4

/-- Closing bin b, as above -/
def OBS.KTC.FRIC : Fld := (fld .ro 0x800 0 16 65535).arr 256 4

/-- Closing bin b baseline, 0.1 N -/
def OBS.KTB.BASEC : Fld := (fld .ro 0xC00 16 16 0).arr 256 4

/-- Opening bin b baseline, 0.1 N -/
def OBS.KTB.BASEO : Fld := (fld .ro 0xC00 0 16 0).arr 256 4

/-- Start blanking, servo periods, 0 to 64 (R171) -/
def OBS.OBS_CFG.BLANKN : Fld := (fld .rws 0x040 24 8 16).rngU 0 64

/-- Consecutive periods, 1 to 8 (R176) -/
def OBS.OBS_CFG.TDET : Fld := (fld .rws 0x040 16 4 3).rngU 1 8

/-- Filter weight /256, 0 or 64 to 255; 0 acts as 256 (unfiltered); 1 to 63 is clamped to 64 under R188 -/
def OBS.OBS_CFG.FALPHA : Fld := (fld .rws 0x040 8 8 128).rngU 64 255

/-- 1: table frozen (R168) -/
def OBS.OBS_CFG.FREEZE : Fld := fld .rws 0x040 3 1 0

/-- Temperature source (R161), 0 to 3; 3 acts as 0 -/
def OBS.OBS_CFG.TSRC : Fld := fld .rws 0x040 1 2 0

/-- 0: measured acceleration; 1: a_ff -/
def OBS.OBS_CFG.ASRC : Fld := fld .rws 0x040 0 1 0

/-- Force per ampere, mN/A, 1,000 to 1,000,000; 0 until loaded (R174) -/
def OBS.KF.KF : Fld := (fld .rws 0x044 0 32 0).rngU 1000 1000000

/-- Minimum speed for samples, mm/s, 1 to 2,000 -/
def OBS.KERN.KMINV : Fld := (fld .rws 0x048 16 16 50).rngU 1 2000

/-- Settling movements, 1 to 15 -/
def OBS.KERN.SETTLEN : Fld := (fld .rws 0x048 12 4 8).rngU 1 15

/-- Probation movements, 0 to 15 -/
def OBS.KERN.HOLDN : Fld := fld .rws 0x048 8 4 2

/-- Update weight /256, 1 to 128 -/
def OBS.KERN.WEIGHT : Fld := (fld .rws 0x048 0 8 16).rngU 1 128

/-- Bin ceiling, 0.1 N, 10 to 65,534 -/
def OBS.KERN2.FRICMAX : Fld := (fld .rws 0x04C 16 16 3000).rngU 10 65534

/-- Largest change per update, 0.1 N, 1 to 10,000 -/
def OBS.KERN2.KSTEP : Fld := (fld .rws 0x04C 0 16 50).rngU 1 10000

/-- Temperature coefficient, signed 0.01 %/K, −200 to 200 -/
def OBS.TCOMP.TCF : Fld := (fld .rws 0x050 0 16 0).rngS (-200) 200

/-- Temperature for TSRC = 2, signed 0.1 °C -/
def OBS.TEMP.TEMP : Fld := fld .rws 0x054 0 16 200

/-- Degraded-feedback margin, 0.1 N, 0 to 5,000 -/
def OBS.MARG.DEGM : Fld := (fld .rws 0x058 16 16 300).rngU 0 5000

/-- Settling margin, 0.1 N, 0 to 5,000 -/
def OBS.MARG.SETTLEM : Fld := (fld .rws 0x058 0 16 200).rngU 0 5000

/-- DRIVE level, 0.1 N, 1 to 65,535 -/
def OBS.WEARL.DRIVEL : Fld := (fld .rws 0x05C 16 16 100).rngU 1 65535

/-- SEALW level, %, 1 to 255 -/
def OBS.WEARL.SEALWL : Fld := (fld .rws 0x05C 8 8 30).rngU 1 255

/-- FRISE level, %, 1 to 255 -/
def OBS.WEARL.FRISEL : Fld := (fld .rws 0x05C 0 8 50).rngU 1 255

/-- Opening force limit, 0.1 N -/
def OBS.FLIM.FLIMO : Fld := fld .ro 0x060 16 16 0

/-- Closing force limit, 0.1 N -/
def OBS.FLIM.FLIMC : Fld := fld .ro 0x060 0 16 0

/-- Reversal distance, mm -/
def OBS.FCEIL.REVD : Fld := fld .ro 0x064 16 16 0

/-- Threshold ceiling, 0.1 N -/
def OBS.FCEIL.FCEIL : Fld := fld .ro 0x064 0 16 0

/-- Current limit after detection, mA -/
def OBS.REACT.IQHOLD : Fld := fld .ro 0x068 16 16 0

/-- Closing reaction: 0 reverse, 1 stop and hold -/
def OBS.REACT.REACT_C : Fld := fld .ro 0x068 5 1 0

/-- Opening reaction: 0 reverse, 1 stop and hold -/
def OBS.REACT.REACT_O : Fld := fld .ro 0x068 4 1 0

/-- Closing detection enabled -/
def OBS.REACT.EN_C : Fld := fld .ro 0x068 1 1 0

/-- Opening detection enabled -/
def OBS.REACT.EN_O : Fld := fld .ro 0x068 0 1 0

/-- Stall speed, µm/s -/
def OBS.SEAL1.STALLV : Fld := fld .ro 0x06C 16 16 0

/-- Seal zone length, mm -/
def OBS.SEAL1.SEALL : Fld := fld .ro 0x06C 0 16 0

/-- Stiffness window, servo periods -/
def OBS.SEAL2.STIFFW : Fld := fld .ro 0x070 24 8 0

/-- Stall periods -/
def OBS.SEAL2.STALLN : Fld := fld .ro 0x070 16 8 0

/-- Stall position bound, 10 µm -/
def OBS.SEAL2.STALLP : Fld := fld .ro 0x070 0 16 0

/-- Stiffness allowance, 0.1 N/mm -/
def OBS.SEAL3.STIFFA : Fld := fld .ro 0x074 16 16 0

/-- Stiffness periods -/
def OBS.SEAL3.STIFFN : Fld := fld .ro 0x074 8 8 0

/-- Stiffness factor, unsigned Q4.4 -/
def OBS.SEAL3.STIFFK : Fld := fld .ro 0x074 0 8 0

/-- Opening threshold of segment 2j + 1, 0.1 N -/
def OBS.FTHO.HI : Fld := (fld .ro 0x080 16 16 0).arr 8 4

/-- Opening threshold of segment 2j, 0.1 N -/
def OBS.FTHO.LO : Fld := (fld .ro 0x080 0 16 0).arr 8 4

/-- Closing threshold of segment 2j + 1, 0.1 N -/
def OBS.FTHC.HI : Fld := (fld .ro 0x0A0 16 16 0).arr 8 4

/-- Closing threshold of segment 2j, 0.1 N -/
def OBS.FTHC.LO : Fld := (fld .ro 0x0A0 0 16 0).arr 8 4

/-- 0 edge, 1 light curtain -/
def OBS.EDGE.KIND : Fld := (fld .ro 0x0C0 28 1 0).arr 4 4

/-- Bit 26 closing, bit 27 opening; 0: source unused -/
def OBS.EDGE.DIRM : Fld := (fld .ro 0x0C0 26 2 0).arr 4 4

/-- 0 active high, 1 active low -/
def OBS.EDGE.POL : Fld := (fld .ro 0x0C0 25 1 0).arr 4 4

/-- 0 local input, 1 station input -/
def OBS.EDGE.TYPE : Fld := (fld .ro 0x0C0 24 1 0).arr 4 4

/-- Station input bit, 0 to 31 -/
def OBS.EDGE.BIT : Fld := (fld .ro 0x0C0 16 8 0).arr 4 4

/-- Station, 0 to 15 -/
def OBS.EDGE.STN : Fld := (fld .ro 0x0C0 8 8 0).arr 4 4

/-- Local input, LIMCFG encoding -/
def OBS.EDGE.LSRC : Fld := (fld .ro 0x0C0 0 8 0).arr 4 4

/-- Stroke from the learn run, µm -/
def OBS.STROKE.STROKE : Fld := fld .ro 0x0D0 0 32 0

/-- Shadow tolerance, 0.1 N, 10 to 5,000 -/
def OBS.OBSTOL.OBSTOL : Fld := (fld .rws 0x0D4 0 16 100).rngU 10 5000

/-- 1: BASE from FRIC (R191) -/
def OBS.OBS_CTRL.REBASE : Fld := fld .wo 0x0D8 1 1 0

/-- 1: clears OBS_STAT.DET, OBS_STAT.KIND, DETPOS and DETF.F; DETF.COUNT keeps counting since reset -/
def OBS.OBS_CTRL.CLRDET : Fld := fld .wo 0x0D8 0 1 0

/-- Wear flags: DRIVE, SEALW, FRISE -/
def OBS.OBS_STAT.WEARF : Fld := fld .ro 0x100 26 3 0

/-- Settling: bit 25 closing, bit 24 opening -/
def OBS.OBS_STAT.SETTLE : Fld := fld .ro 0x100 24 2 0

/-- Active sources, bit per EDGEk -/
def OBS.OBS_STAT.EDGEACT : Fld := fld .ro 0x100 20 4 0

/-- Kind of latched detection -/
def OBS.OBS_STAT.KIND : Fld := fld .ro 0x100 16 3 0

/-- Temperature stale (R162) -/
def OBS.OBS_STAT.TSTALE : Fld := fld .ro 0x100 5 1 0

/-- Table frozen for the current or next movement -/
def OBS.OBS_STAT.FRZ : Fld := fld .ro 0x100 4 1 0

/-- Feedback degraded -/
def OBS.OBS_STAT.DEG : Fld := fld .ro 0x100 3 1 0

/-- Detection latched -/
def OBS.OBS_STAT.DET : Fld := fld .ro 0x100 2 1 0

/-- Zone (R172) -/
def OBS.OBS_STAT.ZONE : Fld := fld .ro 0x100 0 2 0

/-- Filtered estimate y, signed 0.1 N -/
def OBS.FC.Y : Fld := fld .ro 0x104 16 16 0

/-- Estimate f_c, signed 0.1 N -/
def OBS.FC.FC : Fld := fld .ro 0x104 0 16 0

/-- Learned term f_lrn, 0.1 N -/
def OBS.FTHE.FLRN : Fld := fld .ro 0x108 16 16 0

/-- FTH_eff in force, 0.1 N -/
def OBS.FTHE.FTHEFF : Fld := fld .ro 0x108 0 16 0

/-- Stiffness bound, 0.1 N/mm -/
def OBS.KAPP.KBOUND : Fld := fld .ro 0x10C 16 16 0

/-- k_app, signed 0.1 N/mm -/
def OBS.KAPP.KAPP : Fld := fld .ro 0x10C 0 16 0

/-- Position at last detection, signed µm -/
def OBS.DETPOS.POS : Fld := fld .ro 0x110 0 32 0

/-- Detections since reset, saturating -/
def OBS.DETF.COUNT : Fld := fld .ro 0x114 16 16 0

/-- y at last detection, 0.1 N -/
def OBS.DETF.F : Fld := fld .ro 0x114 0 16 0

/-- Mean f_lrn over the last cycle, 0.1 N -/
def OBS.AVG_FC.AVG_FL : Fld := fld .ro 0x118 16 16 0

/-- Mean f_c over the last cycle, signed 0.1 N -/
def OBS.AVG_FC.AVG_FC : Fld := fld .ro 0x118 0 16 0

/-- DRIVE, 0.1 N -/
def OBS.WEARV.DRIVE : Fld := fld .ro 0x11C 16 16 0

/-- SEALW, %, signed -/
def OBS.WEARV.SEALW : Fld := fld .ro 0x11C 8 8 0

/-- FRISE, %, signed -/
def OBS.WEARV.FRISE : Fld := fld .ro 0x11C 0 8 0

/-- Wear index, % -/
def OBS.WEAR.WEAR : Fld := fld .ro 0x120 0 16 0

/-- Clean closing movements since learn, saturating -/
def OBS.CLEAN.CLEANC : Fld := fld .ro 0x124 16 16 0

/-- Clean opening movements since learn, saturating -/
def OBS.CLEAN.CLEANO : Fld := fld .ro 0x124 0 16 0

/-- Table version (R163) -/
def OBS.KTVER.VER : Fld := fld .ro 0x128 0 32 0

/-- Fields of page OBS, part 0. -/
def OBS.fields0 : List Fld := [OBS.KTO.VAR, OBS.KTO.FRIC, OBS.KTC.VAR, OBS.KTC.FRIC,
  OBS.KTB.BASEC, OBS.KTB.BASEO, OBS.OBS_CFG.BLANKN, OBS.OBS_CFG.TDET,
  OBS.OBS_CFG.FALPHA, OBS.OBS_CFG.FREEZE, OBS.OBS_CFG.TSRC, OBS.OBS_CFG.ASRC,
  OBS.KF.KF, OBS.KERN.KMINV, OBS.KERN.SETTLEN, OBS.KERN.HOLDN,
  OBS.KERN.WEIGHT, OBS.KERN2.FRICMAX, OBS.KERN2.KSTEP, OBS.TCOMP.TCF,
  OBS.TEMP.TEMP, OBS.MARG.DEGM, OBS.MARG.SETTLEM, OBS.WEARL.DRIVEL,
  OBS.WEARL.SEALWL, OBS.WEARL.FRISEL, OBS.FLIM.FLIMO, OBS.FLIM.FLIMC,
  OBS.FCEIL.REVD, OBS.FCEIL.FCEIL, OBS.REACT.IQHOLD, OBS.REACT.REACT_C,
  OBS.REACT.REACT_O, OBS.REACT.EN_C, OBS.REACT.EN_O, OBS.SEAL1.STALLV,
  OBS.SEAL1.SEALL, OBS.SEAL2.STIFFW, OBS.SEAL2.STALLN, OBS.SEAL2.STALLP]

/-- Fields of page OBS, part 1. -/
def OBS.fields1 : List Fld := [OBS.SEAL3.STIFFA, OBS.SEAL3.STIFFN, OBS.SEAL3.STIFFK, OBS.FTHO.HI,
  OBS.FTHO.LO, OBS.FTHC.HI, OBS.FTHC.LO, OBS.EDGE.KIND,
  OBS.EDGE.DIRM, OBS.EDGE.POL, OBS.EDGE.TYPE, OBS.EDGE.BIT,
  OBS.EDGE.STN, OBS.EDGE.LSRC, OBS.STROKE.STROKE, OBS.OBSTOL.OBSTOL,
  OBS.OBS_CTRL.REBASE, OBS.OBS_CTRL.CLRDET, OBS.OBS_STAT.WEARF, OBS.OBS_STAT.SETTLE,
  OBS.OBS_STAT.EDGEACT, OBS.OBS_STAT.KIND, OBS.OBS_STAT.TSTALE, OBS.OBS_STAT.FRZ,
  OBS.OBS_STAT.DEG, OBS.OBS_STAT.DET, OBS.OBS_STAT.ZONE, OBS.FC.Y,
  OBS.FC.FC, OBS.FTHE.FLRN, OBS.FTHE.FTHEFF, OBS.KAPP.KBOUND,
  OBS.KAPP.KAPP, OBS.DETPOS.POS, OBS.DETF.COUNT, OBS.DETF.F,
  OBS.AVG_FC.AVG_FL, OBS.AVG_FC.AVG_FC, OBS.WEARV.DRIVE, OBS.WEARV.SEALW]

/-- Fields of page OBS, part 2. -/
def OBS.fields2 : List Fld := [OBS.WEARV.FRISE, OBS.WEAR.WEAR, OBS.CLEAN.CLEANC, OBS.CLEAN.CLEANO,
  OBS.KTVER.VER]

/-- Every stored field of page OBS. -/
def OBS.fields : List Fld := OBS.fields0 ++ OBS.fields1 ++ OBS.fields2

/-- 1: invert W, V, U -/
def POS.POS_CFG.HALLPOL : Fld := fld .rwp 0x040 13 3 0

/-- 1: index check (R211) -/
def POS.POS_CFG.ZEN : Fld := fld .rwp 0x040 12 1 0

/-- 1: fallback to Hall (R215) -/
def POS.POS_CFG.FALLBK : Fld := fld .rwp 0x040 11 1 0

/-- 1: compatibility mode (R203) -/
def POS.POS_CFG.COMPAT : Fld := fld .rwp 0x040 10 1 0

/-- 1: invert encoder count -/
def POS.POS_CFG.DIRINV : Fld := fld .rwp 0x040 9 1 0

/-- 0 Hall, 1 incremental -/
def POS.POS_CFG.ANGSRC : Fld := fld .rwp 0x040 8 1 0

/-- 1: SSIREF is valid (R207) -/
def POS.POS_CFG.SSIREFV : Fld := fld .rwp 0x040 2 1 0

/-- 0 Hall, 1 incremental, 2 SSI -/
def POS.POS_CFG.PSRC : Fld := (fld .rwp 0x040 0 2 0).rngU 0 2

/-- Encoder counts per revolution, 4 to 16,777,215 -/
def POS.CPR.CPR : Fld := (fld .rwp 0x044 0 25 4096).rngU 4 16777215

/-- Leaf travel per motor revolution, µm, unsigned Q16.16, 1.0 and above -/
def POS.TRAVEL.TRAVEL : Fld := (fld .rwp 0x048 0 32 65536).rngU 65536 4294967295

/-- Electrical angle of U rising, 1/65,536 turn -/
def POS.HALL.HALLOFS : Fld := fld .rwp 0x04C 16 16 0

/-- Filter, 0.1 µs, 0 to 255 -/
def POS.HALL.HALLFLT : Fld := fld .rwp 0x04C 8 8 10

/-- 1: reversed Hall sequence -/
def POS.HALL.HSEQ : Fld := fld .rwp 0x04C 0 1 0

/-- Clock divider, 4 to 255 -/
def POS.SSI_CFG.CLKDIV : Fld := (fld .rwp 0x050 24 8 4).rngU 4 255

/-- Sampling delay, 10 ns -/
def POS.SSI_CFG.DLY : Fld := fld .rwp 0x050 20 4 0

/-- CRC, 0 to 2 -/
def POS.SSI_CFG.CRCSEL : Fld := (fld .rwp 0x050 18 2 1).rngU 0 2

/-- 1: CRC sent inverted -/
def POS.SSI_CFG.CRCINV : Fld := fld .rwp 0x050 17 1 0

/-- Error bit value that signals an error: 0 or 1 -/
def POS.SSI_CFG.ERRPOL : Fld := fld .rwp 0x050 16 1 0

/-- 1: frame has an error bit -/
def POS.SSI_CFG.ERREN : Fld := fld .rwp 0x050 15 1 0

/-- 1: data Gray-coded -/
def POS.SSI_CFG.GRAY : Fld := fld .rwp 0x050 14 1 0

/-- Data bits, 8 to 32 -/
def POS.SSI_CFG.DBITS : Fld := (fld .rwp 0x050 8 6 25).rngU 8 32

/-- Jump bound, mm, 1 to 255 -/
def POS.SSI_CFG.JUMPTOL : Fld := (fld .rwp 0x050 0 8 10).rngU 1 255

/-- µm per LSB, signed Q16.16, not 0; a write of 0 is not staged (R221) -/
def POS.SSI_SCALE.SCALE : Fld := fld .rwp 0x054 0 32 65536

/-- Stored SSI reference, LSB -/
def POS.SSIREF.SSIREF : Fld := fld .rwp 0x058 0 32 0

/-- Slip bound, 10 µm, 1 to 65,535 -/
def POS.XCHK.SLIPTOL : Fld := (fld .rwp 0x05C 16 16 500).rngU 1 65535

/-- Cross-check bound, 1/256 electrical turn, 4 to 64 -/
def POS.XCHK.XTOL : Fld := (fld .rwp 0x05C 8 8 21).rngU 4 64

/-- Consecutive Hall edges, 1 to 15 -/
def POS.XCHK.XN : Fld := (fld .rwp 0x05C 4 4 3).rngU 1 15

/-- Bridged missing words, 0 to 15 -/
def POS.XCHK.SSIMISS : Fld := fld .rwp 0x05C 0 4 2

/-- Index tolerance, counts, 1 to 65,535 -/
def POS.SPD.ZTOL : Fld := (fld .rwp 0x060 16 16 4).rngU 1 65535

/-- Zero-speed time, ms, 1 to 255 -/
def POS.SPD.ZEROT : Fld := (fld .rwp 0x060 8 8 50).rngU 1 255

/-- Speed window, servo periods, 1 to 16 -/
def POS.SPD.SPDW : Fld := (fld .rwp 0x060 0 5 4).rngU 1 16

/-- 1: clears DIAG -/
def POS.POS_CTRL.CLRCNT : Fld := fld .wo 0x064 2 1 0

/-- 1: clears absent latched faults (R214) -/
def POS.POS_CTRL.CLRFLT : Fld := fld .wo 0x064 1 1 0

/-- 1: reference request (R206) -/
def POS.POS_CTRL.SETREF : Fld := fld .wo 0x064 0 1 0

/-- Position given by SETREF, signed µm -/
def POS.REFVAL.REFVAL : Fld := fld .rw 0x068 0 32 0

/-- Source in use: 0 Hall, 1 incremental, 2 SSI -/
def POS.POS_STAT.SRCUSE : Fld := fld .ro 0x080 14 2 0

/-- Filtered Hall code -/
def POS.POS_STAT.HCODE : Fld := fld .ro 0x080 10 3 0

/-- Index reference taken -/
def POS.POS_STAT.ZSEEN : Fld := fld .ro 0x080 9 1 0

/-- Encoder aligned (R209) -/
def POS.POS_STAT.ALIGN : Fld := fld .ro 0x080 8 1 0

/-- Latched sensor fault present -/
def POS.POS_STAT.LATCH : Fld := fld .ro 0x080 7 1 0

/-- Compatibility mode active -/
def POS.POS_STAT.COMPAT : Fld := fld .ro 0x080 6 1 0

/-- Fallback in force -/
def POS.POS_STAT.FALLBK : Fld := fld .ro 0x080 5 1 0

/-- Missing SSI word bridged -/
def POS.POS_STAT.BRIDGE : Fld := fld .ro 0x080 4 1 0

/-- Degraded (R216) -/
def POS.POS_STAT.DEG : Fld := fld .ro 0x080 3 1 0

/-- Referenced -/
def POS.POS_STAT.REF : Fld := fld .ro 0x080 2 1 0

/-- Position and speed valid (R217) -/
def POS.POS_STAT.VALID : Fld := fld .ro 0x080 1 1 0

/-- Leaf position, signed µm -/
def POS.P.P : Fld := fld .ro 0x084 0 32 0

/-- Leaf speed, signed µm/s -/
def POS.V.V : Fld := fld .ro 0x088 0 32 0

/-- θ_m, unsigned Q0.32 turn -/
def POS.ANG.ANG : Fld := fld .ro 0x08C 0 32 0

/-- Revolutions, signed -/
def POS.REV.REV : Fld := fld .ro 0x090 0 32 0

/-- Count (R202, R203) -/
def POS.COUNT.COUNT : Fld := fld .ro 0x094 0 32 0

/-- ω_e, signed rad/s -/
def POS.WE.WE : Fld := fld .ro 0x098 0 16 0

/-- Count at last index -/
def POS.ZCAP.ZCAP : Fld := fld .ro 0x09C 0 32 0

/-- Last accepted SSI word, binary -/
def POS.SSIRAW.WORD : Fld := fld .ro 0x0A0 0 32 0

/-- Reference (R207) -/
def POS.REFOFS.REFOFS : Fld := fld .ro 0x0A4 0 32 0

/-- Failed cross-check edges, saturating -/
def POS.DIAG.XCHKC : Fld := fld .ro 0x0A8 24 8 0

/-- Missing SSI words, saturating -/
def POS.DIAG.SSIC : Fld := fld .ro 0x0A8 16 8 0

/-- Hall errors, saturating -/
def POS.DIAG.HALLC : Fld := fld .ro 0x0A8 8 8 0

/-- Encoder errors, saturating -/
def POS.DIAG.ENCC : Fld := fld .ro 0x0A8 0 8 0

/-- Cross-check error, signed 1/65,536 electrical turn -/
def POS.XERR.XERR : Fld := fld .ro 0x0AC 0 16 0

/-- SSI minus motor-side position, signed µm -/
def POS.SLIPERR.SLIP : Fld := fld .ro 0x0B0 0 32 0

/-- Fields of page POS, part 0. -/
def POS.fields0 : List Fld := [POS.POS_CFG.HALLPOL, POS.POS_CFG.ZEN, POS.POS_CFG.FALLBK, POS.POS_CFG.COMPAT,
  POS.POS_CFG.DIRINV, POS.POS_CFG.ANGSRC, POS.POS_CFG.SSIREFV, POS.POS_CFG.PSRC,
  POS.CPR.CPR, POS.TRAVEL.TRAVEL, POS.HALL.HALLOFS, POS.HALL.HALLFLT,
  POS.HALL.HSEQ, POS.SSI_CFG.CLKDIV, POS.SSI_CFG.DLY, POS.SSI_CFG.CRCSEL,
  POS.SSI_CFG.CRCINV, POS.SSI_CFG.ERRPOL, POS.SSI_CFG.ERREN, POS.SSI_CFG.GRAY,
  POS.SSI_CFG.DBITS, POS.SSI_CFG.JUMPTOL, POS.SSI_SCALE.SCALE, POS.SSIREF.SSIREF,
  POS.XCHK.SLIPTOL, POS.XCHK.XTOL, POS.XCHK.XN, POS.XCHK.SSIMISS,
  POS.SPD.ZTOL, POS.SPD.ZEROT, POS.SPD.SPDW, POS.POS_CTRL.CLRCNT,
  POS.POS_CTRL.CLRFLT, POS.POS_CTRL.SETREF, POS.REFVAL.REFVAL, POS.POS_STAT.SRCUSE,
  POS.POS_STAT.HCODE, POS.POS_STAT.ZSEEN, POS.POS_STAT.ALIGN, POS.POS_STAT.LATCH]

/-- Fields of page POS, part 1. -/
def POS.fields1 : List Fld := [POS.POS_STAT.COMPAT, POS.POS_STAT.FALLBK, POS.POS_STAT.BRIDGE, POS.POS_STAT.DEG,
  POS.POS_STAT.REF, POS.POS_STAT.VALID, POS.P.P, POS.V.V,
  POS.ANG.ANG, POS.REV.REV, POS.COUNT.COUNT, POS.WE.WE,
  POS.ZCAP.ZCAP, POS.SSIRAW.WORD, POS.REFOFS.REFOFS, POS.DIAG.XCHKC,
  POS.DIAG.SSIC, POS.DIAG.HALLC, POS.DIAG.ENCC, POS.XERR.XERR,
  POS.SLIPERR.SLIP]

/-- Every stored field of page POS. -/
def POS.fields : List Fld := POS.fields0 ++ POS.fields1

/-- As POSn -/
def POSK.POS_CFG.ZEN : Fld := fld .rwp 0x040 12 1 0

/-- As POSn -/
def POSK.POS_CFG.COMPAT : Fld := fld .rwp 0x040 10 1 0

/-- As POSn -/
def POSK.POS_CFG.DIRINV : Fld := fld .rwp 0x040 9 1 0

/-- 1: incremental encoder fitted -/
def POSK.POS_CFG.ENC : Fld := fld .rwp 0x040 0 1 0

/-- Step-loss bound, counts, 1 to 65,535 -/
def POSK.STEPFB.LOSSTOL : Fld := (fld .rwp 0x06C 16 16 64).rngU 1 65535

/-- Full steps per revolution, 4 to 1,000 -/
def POSK.STEPFB.FSPR : Fld := (fld .rwp 0x06C 0 16 200).rngU 4 1000

/-- Encoder minus commanded position, signed counts -/
def POSK.LOSSERR.ERR : Fld := fld .ro 0x0B0 0 32 0

/-- Fields of page POSK, part 0. -/
def POSK.fields0 : List Fld := [POSK.POS_CFG.ZEN, POSK.POS_CFG.COMPAT, POSK.POS_CFG.DIRINV, POSK.POS_CFG.ENC,
  POSK.STEPFB.LOSSTOL, POSK.STEPFB.FSPR, POSK.LOSSERR.ERR]

/-- Every stored field of page POSK. -/
def POSK.fields : List Fld := POSK.fields0

/-- 0–7 L0–L7, 8–11 K0–K3 -/
def EMU.CFG.SRC : Fld := ((fld .rwp 0x040 20 4 0).rngU 0 11).arr 4 16

/-- 0 per revolution, 1 per stroke -/
def EMU.CFG.MODE : Fld := (fld .rwp 0x040 19 1 0).arr 4 16

/-- 1: invert direction -/
def EMU.CFG.INV : Fld := (fld .rwp 0x040 17 1 0).arr 4 16

/-- 1: port enabled -/
def EMU.CFG.EN : Fld := (fld .rwp 0x040 16 1 0).arr 4 16

/-- Lines − 1, 0 to 65,535 -/
def EMU.CFG.LINESM1 : Fld := (fld .rwp 0x040 0 16 1023).arr 4 16

/-- Stroke for MODE 1, µm, 1,000 to 4,000,000 -/
def EMU.STRK.STRK : Fld := ((fld .rwp 0x044 0 32 650000).rngU 1000 4000000).arr 4 16

/-- Source not referenced -/
def EMU.STAT.UNREF : Fld := (fld .ro 0x048 2 1 0).arr 4 16

/-- Source invalid, outputs held -/
def EMU.STAT.FRZ : Fld := (fld .ro 0x048 1 1 0).arr 4 16

/-- Rate limit active -/
def EMU.STAT.LAG : Fld := (fld .ro 0x048 0 1 0).arr 4 16

/-- Emulated count, wraps at 2³² -/
def EMU.CNT.CNT : Fld := (fld .ro 0x04C 0 32 0).arr 4 16

/-- Fields of page EMU, part 0. -/
def EMU.fields0 : List Fld := [EMU.CFG.SRC, EMU.CFG.MODE, EMU.CFG.INV, EMU.CFG.EN,
  EMU.CFG.LINESM1, EMU.STRK.STRK, EMU.STAT.UNREF, EMU.STAT.FRZ,
  EMU.STAT.LAG, EMU.CNT.CNT]

/-- Every stored field of page EMU. -/
def EMU.fields : List Fld := EMU.fields0

/-- 0 automatic, 1 light, 2 bold; 3 as 0 -/
def STEP.STP_CFG.FACEM : Fld := fld .rwp 0x040 14 2 0

/-- 0 slow, 1 mixed (R273) -/
def STEP.STP_CFG.DECAY : Fld := fld .rwp 0x040 13 1 0

/-- 0 profile, 1 STEP/DIR -/
def STEP.STP_CFG.SRC : Fld := fld .rwp 0x040 12 1 0

/-- Active STEP edge: 0 rising, 1 falling -/
def STEP.STP_CFG.SDPOL : Fld := fld .rwp 0x040 11 1 0

/-- 0: DIR high extends; 1: DIR low extends -/
def STEP.STP_CFG.DIRPOL : Fld := fld .rwp 0x040 10 1 0

/-- 0 car side A, 1 car side B (R290) -/
def STEP.STP_CFG.CARSIDE : Fld := fld .rwp 0x040 9 1 0

/-- 1: automatic extend and retract (R289) -/
def STEP.STP_CFG.AUTO : Fld := fld .rwp 0x040 8 1 0

/-- 1: home at start-up (R287) -/
def STEP.STP_CFG.AUTOHOME : Fld := fld .rwp 0x040 7 1 0

/-- Shunt gain: 0 ×5, 1 ×10, 2 ×20, 3 ×40 -/
def STEP.STP_CFG.GAIN : Fld := fld .rwp 0x040 0 2 1

/-- Carrier delay, MOTCLK counts, 0 to 255 (R63) -/
def STEP.TIMING.PHOFS : Fld := fld .rwp 0x044 16 8 0

/-- Dead time, MOTCLK counts, 25 to 255 (R65) -/
def STEP.TIMING.DEADT : Fld := (fld .rwp 0x044 0 8 50).rngU 25 255

/-- Shunt resistance, µΩ, 500 to 20,000 -/
def STEP.SHUNT.RSH : Fld := (fld .rwp 0x048 0 16 10000).rngU 500 20000

/-- Drain-source blanking, 0.1 µs, 5 to 40 -/
def STEP.PROT.VDSBLK : Fld := (fld .rwp 0x04C 24 8 10).rngU 5 40

/-- Drain-source threshold, 10 mV, 25 to 200 -/
def STEP.PROT.VDSTH : Fld := (fld .rwp 0x04C 16 8 100).rngU 25 200

/-- Overcurrent trip, mA, 0 to 32,767 (R96) -/
def STEP.PROT.OCTRIP : Fld := (fld .rwp 0x04C 0 16 32767).rngU 0 32767

/-- Undervoltage release, 10 mV, 1,000 to 15,000 -/
def STEP.VBRUV.UVREL : Fld := (fld .rwp 0x050 16 16 1800).rngU 1000 15000

/-- Undervoltage trip, 10 mV, 1,000 to 15,000 -/
def STEP.VBRUV.UVTRIP : Fld := (fld .rwp 0x050 0 16 1700).rngU 1000 15000

/-- Overvoltage trip, 10 mV, 2,000 to 17,000 -/
def STEP.VBROV.OVTRIP : Fld := (fld .rwp 0x054 16 16 16000).rngU 2000 17000

/-- Regeneration clamp start, 10 mV, 2,000 to 17,000 -/
def STEP.VBROV.REGEN : Fld := (fld .rwp 0x054 0 16 15500).rngU 2000 17000

/-- Winding resistance, mΩ -/
def STEP.MOTOR.PHRES : Fld := fld .rwp 0x058 16 16 0

/-- Winding inductance, µH -/
def STEP.MOTOR.PHIND : Fld := fld .rwp 0x058 0 16 0

/-- Light-face correction gain /4,096, 0 to 4,095 -/
def STEP.KE.LCG : Fld := (fld .rwp 0x05C 16 16 256).rngU 0 4095

/-- Back-EMF, mV per 1,000 full steps/s -/
def STEP.KE.KE : Fld := fld .rwp 0x05C 0 16 0

/-- Hold amplitude, mA, 0 to IRUN -/
def STEP.CUR.IHOLD : Fld := fld .rwp 0x060 16 16 500

/-- Run amplitude, mA, 100 to 16,000 -/
def STEP.CUR.IRUN : Fld := (fld .rwp 0x060 0 16 1000).rngU 100 16000

/-- Bold to light, full steps/s, 10 to 20,000 -/
def STEP.FACE.FACEDN : Fld := (fld .rwp 0x064 16 16 400).rngU 10 20000

/-- Light to bold, full steps/s, 10 to 20,000 -/
def STEP.FACE.FACEUP : Fld := (fld .rwp 0x064 0 16 600).rngU 10 20000

/-- Hold delay, 10 ms, 1 to 255 -/
def STEP.CHOP.THOLD : Fld := (fld .rwp 0x068 16 8 50).rngU 1 255

/-- Fast-decay time, 0.1 µs, 0 to 200 -/
def STEP.CHOP.MIXT : Fld := (fld .rwp 0x068 8 8 20).rngU 0 200

/-- Comparator blanking, 0.1 µs, 5 to 40 -/
def STEP.CHOP.BLANK : Fld := (fld .rwp 0x068 0 8 10).rngU 5 40

/-- Input pause, ms, 1 to 1,000 -/
def STEP.SDIR.SDTO : Fld := (fld .rwp 0x06C 16 16 20).rngU 1 1000

/-- Microsteps per input step, 1 to 256 -/
def STEP.SDIR.SDMUL : Fld := (fld .rwp 0x06C 0 9 256).rngU 1 256

/-- 1: clears DIAG -/
def STEP.DRV_CTRL.CLRCNT : Fld := fld .wo 0x070 2 1 0

/-- 1: clears absent latched faults (R106) -/
def STEP.DRV_CTRL.CLRLATCH : Fld := fld .wo 0x070 1 1 0

/-- 1: offset calibration (R268) -/
def STEP.DRV_CTRL.CAL : Fld := fld .wo 0x070 0 1 0

/-- As LEAFn.DRV_STAT.CALST -/
def STEP.DRV_STAT.CALST : Fld := fld .ro 0x080 12 2 0

/-- Amplitude below IRUN (R271) -/
def STEP.DRV_STAT.HOLDI : Fld := fld .ro 0x080 9 1 0

/-- 0 light, 1 bold -/
def STEP.DRV_STAT.FACE : Fld := fld .ro 0x080 8 1 0

/-- Latched drive fault present -/
def STEP.DRV_STAT.LATCH : Fld := fld .ro 0x080 7 1 0

/-- Gate supply valid -/
def STEP.DRV_STAT.VGDOK : Fld := fld .ro 0x080 6 1 0

/-- Gates under control -/
def STEP.DRV_STAT.BEN : Fld := fld .ro 0x080 4 1 0

/-- 0 off, 2 energised, 4 calibration -/
def STEP.DRV_STAT.MODE : Fld := fld .ro 0x080 0 3 0

/-- Winding B current, signed mA -/
def STEP.I_AB.IB : Fld := fld .ro 0x084 16 16 0

/-- Winding A current, signed mA -/
def STEP.I_AB.IA : Fld := fld .ro 0x084 0 16 0

/-- Winding B offset, signed codes -/
def STEP.OFS_AB.OFSB : Fld := fld .ro 0x088 16 16 0

/-- Winding A offset, signed codes -/
def STEP.OFS_AB.OFSA : Fld := fld .ro 0x088 0 16 0

/-- i_B,ref, signed mA -/
def STEP.IREF_AB.IBREF : Fld := fld .ro 0x08C 16 16 0

/-- i_A,ref, signed mA -/
def STEP.IREF_AB.IAREF : Fld := fld .ro 0x08C 0 16 0

/-- Face changes, saturating -/
def STEP.DIAG.FACEC : Fld := fld .ro 0x090 16 8 0

/-- Stale-sample periods, saturating -/
def STEP.DIAG.STALE : Fld := fld .ro 0x090 8 8 0

/-- Cycle-by-cycle trips, saturating -/
def STEP.DIAG.OCCBC : Fld := fld .ro 0x090 0 8 0

/-- Extension speed, µm/s, 1,000 to 2,000,000 -/
def STEP.EXT_V.VMAX : Fld := (fld .rwp 0x100 0 32 100000).rngU 1000 2000000

/-- Extension deceleration, mm/s², 10 to 20,000 -/
def STEP.EXT_A.DMAX : Fld := (fld .rwp 0x104 16 16 1000).rngU 10 20000

/-- Extension acceleration, mm/s², 10 to 20,000 -/
def STEP.EXT_A.AMAX : Fld := (fld .rwp 0x104 0 16 1000).rngU 10 20000

/-- Extension jerk, mm/s³, 100 to 1,000,000 -/
def STEP.EXT_J.JMAX : Fld := (fld .rwp 0x108 0 32 20000).rngU 100 1000000

/-- Retraction speed, µm/s, 1,000 to 2,000,000 -/
def STEP.RET_V.VMAX : Fld := (fld .rwp 0x110 0 32 100000).rngU 1000 2000000

/-- Retraction deceleration, mm/s², 10 to 20,000 -/
def STEP.RET_A.DMAX : Fld := (fld .rwp 0x114 16 16 1000).rngU 10 20000

/-- Retraction acceleration, mm/s², 10 to 20,000 -/
def STEP.RET_A.AMAX : Fld := (fld .rwp 0x114 0 16 1000).rngU 10 20000

/-- Retraction jerk, mm/s³, 100 to 1,000,000 -/
def STEP.RET_J.JMAX : Fld := (fld .rwp 0x118 0 32 20000).rngU 100 1000000

/-- Homing search, mm, 1 to 4,000 -/
def STEP.HOME.HOMEMAX : Fld := (fld .rwp 0x120 16 16 400).rngU 1 4000

/-- Homing speed, mm/s, 1 to 500 -/
def STEP.HOME.HOMEV : Fld := (fld .rwp 0x120 0 16 10).rngU 1 500

/-- Quick-stop deceleration, mm/s², 100 to 20,000 -/
def STEP.STOPR.QSTD : Fld := (fld .rwp 0x124 16 16 3000).rngU 100 20000

/-- Stop deceleration, mm/s², 100 to 20,000 -/
def STEP.STOPR.STOPD : Fld := (fld .rwp 0x124 0 16 1500).rngU 100 20000

/-- Extended position, µm, 0 to 4,000,000; 0 refuses EXTEND -/
def STEP.EXTP.EXTP : Fld := (fld .rwp 0x128 0 32 0).rngU 0 4000000

/-- Retraction target, signed µm, −20,000 to 0 -/
def STEP.RETTGT.RETTGT : Fld := (fld .rwp 0x12C 0 32 4294966296).rngS (-20000) 0

/-- 0 active high, 1 active low -/
def STEP.SW.RETPOL : Fld := fld .rwp 0x130 26 1 0

/-- Retracted switch, LIMCFG encoding -/
def STEP.SW.RETSW : Fld := fld .rwp 0x130 16 8 255

/-- 0 active high, 1 active low -/
def STEP.SW.EXTPOL : Fld := fld .rwp 0x130 10 1 0

/-- Extended switch, LIMCFG encoding -/
def STEP.SW.EXTSW : Fld := fld .rwp 0x130 0 8 255

/-- 1: clear suspect marks -/
def STEP.STP_CMD.CLRSUSP : Fld := fld .wo 0x200 9 1 0

/-- 1: hard stop -/
def STEP.STP_CMD.HSTOP : Fld := fld .wo 0x200 8 1 0

/-- 1: quick stop -/
def STEP.STP_CMD.QSTOP : Fld := fld .wo 0x200 7 1 0

/-- 1: stop -/
def STEP.STP_CMD.STOP : Fld := fld .wo 0x200 6 1 0

/-- 1: acknowledge FAULT -/
def STEP.STP_CMD.ACK : Fld := fld .wo 0x200 5 1 0

/-- 1: home -/
def STEP.STP_CMD.HOME : Fld := fld .wo 0x200 4 1 0

/-- 1: end inhibition -/
def STEP.STP_CMD.UNINH : Fld := fld .wo 0x200 3 1 0

/-- 1: inhibit -/
def STEP.STP_CMD.INHIBIT : Fld := fld .wo 0x200 2 1 0

/-- 1: retract -/
def STEP.STP_CMD.RETRACT : Fld := fld .wo 0x200 1 1 0

/-- 1: extend -/
def STEP.STP_CMD.EXTEND : Fld := fld .wo 0x200 0 1 0

/-- Inhibit follows retraction -/
def STEP.STP_STAT.INHPEND : Fld := fld .ro 0x204 19 1 0

/-- Train side: 0 left, 1 right -/
def STEP.STP_STAT.TSIDE : Fld := fld .ro 0x204 18 1 0

/-- Path: 0 none, 1 stop, 2 quick stop, 3 hard stop -/
def STEP.STP_STAT.STOPK : Fld := fld .ro 0x204 16 2 0

/-- Extended switch active -/
def STEP.STP_STAT.EXTSWIN : Fld := fld .ro 0x204 15 1 0

/-- Retracted switch active -/
def STEP.STP_STAT.RETSWIN : Fld := fld .ro 0x204 14 1 0

/-- Suspect: bit 12 retracted, bit 13 extended switch -/
def STEP.STP_STAT.SUSP : Fld := fld .ro 0x204 12 2 0

/-- Set-point speed 0 -/
def STEP.STP_STAT.STANDSTILL : Fld := fld .ro 0x204 11 1 0

/-- Set-point speed not 0 -/
def STEP.STP_STAT.MOVING : Fld := fld .ro 0x204 10 1 0

/-- Last command refused -/
def STEP.STP_STAT.REFUSED : Fld := fld .ro 0x204 9 1 0

/-- Retract demand held (R283) -/
def STEP.STP_STAT.PEND : Fld := fld .ro 0x204 8 1 0

/-- released -/
def STEP.STP_STAT.REL : Fld := fld .ro 0x204 7 1 0

/-- inhibited -/
def STEP.STP_STAT.INHB : Fld := fld .ro 0x204 6 1 0

/-- extended -/
def STEP.STP_STAT.EXTD : Fld := fld .ro 0x204 5 1 0

/-- retracted -/
def STEP.STP_STAT.RETR : Fld := fld .ro 0x204 4 1 0

/-- State code (R282) -/
def STEP.STP_STAT.STATE : Fld := fld .ro 0x204 0 4 0

/-- Commanded microstep count, signed -/
def STEP.MSTEP.M : Fld := fld .ro 0x208 0 32 0

/-- Set-point position, signed µm -/
def STEP.SP_P.P : Fld := fld .ro 0x20C 0 32 0

/-- Set-point speed, signed µm/s -/
def STEP.SP_V.V : Fld := fld .ro 0x210 0 32 0

/-- STEP/DIR input count, signed -/
def STEP.SDCNT.CNT : Fld := fld .ro 0x214 0 32 0

/-- Fields of page STEP, part 0. -/
def STEP.fields0 : List Fld := [STEP.STP_CFG.FACEM, STEP.STP_CFG.DECAY, STEP.STP_CFG.SRC, STEP.STP_CFG.SDPOL,
  STEP.STP_CFG.DIRPOL, STEP.STP_CFG.CARSIDE, STEP.STP_CFG.AUTO, STEP.STP_CFG.AUTOHOME,
  STEP.STP_CFG.GAIN, STEP.TIMING.PHOFS, STEP.TIMING.DEADT, STEP.SHUNT.RSH,
  STEP.PROT.VDSBLK, STEP.PROT.VDSTH, STEP.PROT.OCTRIP, STEP.VBRUV.UVREL,
  STEP.VBRUV.UVTRIP, STEP.VBROV.OVTRIP, STEP.VBROV.REGEN, STEP.MOTOR.PHRES,
  STEP.MOTOR.PHIND, STEP.KE.LCG, STEP.KE.KE, STEP.CUR.IHOLD,
  STEP.CUR.IRUN, STEP.FACE.FACEDN, STEP.FACE.FACEUP, STEP.CHOP.THOLD,
  STEP.CHOP.MIXT, STEP.CHOP.BLANK, STEP.SDIR.SDTO, STEP.SDIR.SDMUL,
  STEP.DRV_CTRL.CLRCNT, STEP.DRV_CTRL.CLRLATCH, STEP.DRV_CTRL.CAL, STEP.DRV_STAT.CALST,
  STEP.DRV_STAT.HOLDI, STEP.DRV_STAT.FACE, STEP.DRV_STAT.LATCH, STEP.DRV_STAT.VGDOK]

/-- Fields of page STEP, part 1. -/
def STEP.fields1 : List Fld := [STEP.DRV_STAT.BEN, STEP.DRV_STAT.MODE, STEP.I_AB.IB, STEP.I_AB.IA,
  STEP.OFS_AB.OFSB, STEP.OFS_AB.OFSA, STEP.IREF_AB.IBREF, STEP.IREF_AB.IAREF,
  STEP.DIAG.FACEC, STEP.DIAG.STALE, STEP.DIAG.OCCBC, STEP.EXT_V.VMAX,
  STEP.EXT_A.DMAX, STEP.EXT_A.AMAX, STEP.EXT_J.JMAX, STEP.RET_V.VMAX,
  STEP.RET_A.DMAX, STEP.RET_A.AMAX, STEP.RET_J.JMAX, STEP.HOME.HOMEMAX,
  STEP.HOME.HOMEV, STEP.STOPR.QSTD, STEP.STOPR.STOPD, STEP.EXTP.EXTP,
  STEP.RETTGT.RETTGT, STEP.SW.RETPOL, STEP.SW.RETSW, STEP.SW.EXTPOL,
  STEP.SW.EXTSW, STEP.STP_CMD.CLRSUSP, STEP.STP_CMD.HSTOP, STEP.STP_CMD.QSTOP,
  STEP.STP_CMD.STOP, STEP.STP_CMD.ACK, STEP.STP_CMD.HOME, STEP.STP_CMD.UNINH,
  STEP.STP_CMD.INHIBIT, STEP.STP_CMD.RETRACT, STEP.STP_CMD.EXTEND, STEP.STP_STAT.INHPEND]

/-- Fields of page STEP, part 2. -/
def STEP.fields2 : List Fld := [STEP.STP_STAT.TSIDE, STEP.STP_STAT.STOPK, STEP.STP_STAT.EXTSWIN, STEP.STP_STAT.RETSWIN,
  STEP.STP_STAT.SUSP, STEP.STP_STAT.STANDSTILL, STEP.STP_STAT.MOVING, STEP.STP_STAT.REFUSED,
  STEP.STP_STAT.PEND, STEP.STP_STAT.REL, STEP.STP_STAT.INHB, STEP.STP_STAT.EXTD,
  STEP.STP_STAT.RETR, STEP.STP_STAT.STATE, STEP.MSTEP.M, STEP.SP_P.P,
  STEP.SP_V.V, STEP.SDCNT.CNT]

/-- Every stored field of page STEP. -/
def STEP.fields : List Fld := STEP.fields0 ++ STEP.fields1 ++ STEP.fields2

end Sys2Proof.Machine
end

