-- ==== Sys2Proof/Machine/RegMapCore.lean ====
section
/-! DEFINITION. Register fields of the pages SYS, CLK, FLT, IMD, SVC, SAFE, SEAL, PLT, CFG, SEC, from the register tables of the manual: offset, lowest bit,
width, access code (R12), reset value and stated range. A register whose content is computed from other state when it is
read has no field here. -/

namespace Sys2Proof.Machine

/-- Reset requested through the host port -/
def SYS.RSTCAUSE.HOST : Fld := fld .w1c 0x04C 4 1 0

/-- Reset after device safe halt -/
def SYS.RSTCAUSE.HALT : Fld := fld .w1c 0x04C 3 1 0

/-- Reset by the start-up supervisor (R551) -/
def SYS.RSTCAUSE.WDOG : Fld := fld .w1c 0x04C 2 1 0

/-- VKEEP was lost before this power-up -/
def SYS.RSTCAUSE.KEEP : Fld := fld .w1c 0x04C 1 1 0

/-- Power-on reset -/
def SYS.RSTCAUSE.POR : Fld := fld .w1c 0x04C 0 1 1

/-- 0 NONE, 1 KEEP, 2 SET, 3 PTP locked, 4 PTP holdover; 5–7 reserved -/
def SYS.DT_STAT.SRC : Fld := fld .ro 0x058 0 3 0

/-- 1: the refused access named no register page (R41) -/
def SYS.LASTREF.MEM : Fld := fld .ro 0x064 31 1 0

/-- Page number of the refused access -/
def SYS.LASTREF.PAGE : Fld := fld .ro 0x064 16 8 0

/-- Offset within the page divided by 4; for MEM = 1, address bits 11:2 -/
def SYS.LASTREF.WORD : Fld := fld .ro 0x064 0 10 0

/-- Fields of page SYS, part 0. -/
def SYS.fields0 : List Fld := [SYS.RSTCAUSE.HOST, SYS.RSTCAUSE.HALT, SYS.RSTCAUSE.WDOG, SYS.RSTCAUSE.KEEP,
  SYS.RSTCAUSE.POR, SYS.DT_STAT.SRC, SYS.LASTREF.MEM, SYS.LASTREF.PAGE,
  SYS.LASTREF.WORD]

/-- Every stored field of page SYS. -/
def SYS.fields : List Fld := SYS.fields0

/-- 1: clock monitors, fault manager and host port run from BKCLK (R30) -/
def CLK.STAT.BKACT : Fld := fld .ro 0x040 4 1 0

/-- Platen die reports the core reference inside f_REFMON (from the PLT mirror) -/
def CLK.STAT.REF_OK : Fld := fld .ro 0x040 3 1 0

/-- PLTCLK inside f_PLTMON -/
def CLK.STAT.PLT_OK : Fld := fld .ro 0x040 2 1 0

/-- XIN present -/
def CLK.STAT.XIN_OK : Fld := fld .ro 0x040 1 1 0

/-- PLL locked -/
def CLK.STAT.PLL_LOCK : Fld := fld .ro 0x040 0 1 0

/-- Last measured PLTCLK frequency in kHz -/
def CLK.PLTFREQ.KHZ : Fld := fld .ro 0x044 0 16 0

/-- Servo index within the program cycle, 0 to N − 1 -/
def CLK.GRID.SERVO : Fld := fld .ro 0x048 3 6 0

/-- PWM index within the servo period, 0 to 7 -/
def CLK.GRID.PWM : Fld := fld .ro 0x048 0 3 0

/-- Program-cycle boundaries since the grid started, the first boundary not counted (R59); wraps at 2³² -/
def CLK.CYCLE_CNT.COUNT : Fld := fld .ro 0x04C 0 32 0

/-- DT bits 31:0 at the latest program-cycle boundary -/
def CLK.CYCLE_DT_LO.DT_LO : Fld := fld .ro 0x050 0 32 0

/-- DT bits 63:32 at the latest program-cycle boundary -/
def CLK.CYCLE_DT_HI.DT_HI : Fld := fld .ro 0x054 0 32 0

/-- Fields of page CLK, part 0. -/
def CLK.fields0 : List Fld := [CLK.STAT.BKACT, CLK.STAT.REF_OK, CLK.STAT.PLT_OK, CLK.STAT.XIN_OK,
  CLK.STAT.PLL_LOCK, CLK.PLTFREQ.KHZ, CLK.GRID.SERVO, CLK.GRID.PWM,
  CLK.CYCLE_CNT.COUNT, CLK.CYCLE_DT_LO.DT_LO, CLK.CYCLE_DT_HI.DT_HI]

/-- Every stored field of page CLK. -/
def CLK.fields : List Fld := CLK.fields0

/-- Automatic reset delay after a halt, s, 0 to 60; 0: none (R382) -/
def FLT.FLT_CFG.HALTDLY : Fld := (fld .rws 0x040 8 8 5).rngU 0 60

/-- 0 automatic, 1 by ACK (R378) -/
def FLT.FLT_CFG.ACKMODE : Fld := fld .rws 0x040 0 1 0

/-- Head value to complete (R378) -/
def FLT.ACK.ENTRY : Fld := fld .wo 0x054 0 32 0

/-- Latest C0 entry -/
def FLT.INFO.ENTRY : Fld := fld .ro 0x068 0 32 0

/-- C0 entries since reset, wrapping -/
def FLT.INFO_CNT.COUNT : Fld := fld .ro 0x06C 0 32 0

/-- Fields of page FLT, part 0. -/
def FLT.fields0 : List Fld := [FLT.FLT_CFG.HALTDLY, FLT.FLT_CFG.ACKMODE, FLT.ACK.ENTRY, FLT.INFO.ENTRY,
  FLT.INFO_CNT.COUNT]

/-- Every stored field of page FLT. -/
def FLT.fields : List Fld := FLT.fields0

/-- Lane of the latest lane fault; 3: none -/
def IMD.LANE_STAT.LASTODD : Fld := fld .ro 0x040 8 2 3

/-- 0 triplex, 1 duplex for resync or proof, 2 permanent duplex; 3 reserved -/
def IMD.LANE_STAT.MODE : Fld := fld .ro 0x040 6 2 0

/-- State of lane 2: 0 RUN, 1 RESYNC, 2 PROOF, 3 OUT -/
def IMD.LANE_STAT.LANE2 : Fld := fld .ro 0x040 4 2 0

/-- State of lane 1, as LANE2 -/
def IMD.LANE_STAT.LANE1 : Fld := fld .ro 0x040 2 2 0

/-- State of lane 0, as LANE2 -/
def IMD.LANE_STAT.LANE0 : Fld := fld .ro 0x040 0 2 0

/-- Lane faults of lane 2 in the last 3,600 s -/
def IMD.LANE_CNT.CNT2 : Fld := fld .ro 0x044 16 8 0

/-- Lane faults of lane 1 in the last 3,600 s -/
def IMD.LANE_CNT.CNT1 : Fld := fld .ro 0x044 8 8 0

/-- Lane faults of lane 0 in the last 3,600 s -/
def IMD.LANE_CNT.CNT0 : Fld := fld .ro 0x044 0 8 0

/-- Completed resyncs since reset, saturating -/
def IMD.LANE_TOT.RSYNCS : Fld := fld .ro 0x048 16 16 0

/-- Lane faults since reset, saturating -/
def IMD.LANE_TOT.LFLTS : Fld := fld .ro 0x048 0 16 0

/-- Lane of the latest lane fault -/
def IMD.LAST_LF.LANE : Fld := fld .ro 0x04C 12 2 0

/-- Cause of the latest lane fault -/
def IMD.LAST_LF.CAUSE : Fld := fld .ro 0x04C 0 12 0

/-- DT bits 31:0 of the latest lane fault -/
def IMD.LAST_LF_LO.DT_LO : Fld := fld .ro 0x050 0 32 0

/-- DT bits 63:32 of the latest lane fault -/
def IMD.LAST_LF_HI.DT_HI : Fld := fld .ro 0x054 0 32 0

/-- Longest resync since reset, 10 ns -/
def IMD.RSYNC_T.MAXT : Fld := fld .ro 0x058 16 16 0

/-- Latest resync, 10 ns -/
def IMD.RSYNC_T.LASTT : Fld := fld .ro 0x058 0 16 0

/-- Longest deferral, minutes, 1 to 20 (R351) -/
def IMD.PROOF_CFG.DEFMAX : Fld := (fld .rws 0x060 8 8 10).rngU 1 20

/-- 1: rotating proof enabled (R350) -/
def IMD.PROOF_CFG.PROOFEN : Fld := fld .rws 0x060 0 1 1

/-- Minutes since the due time of a waiting proof, saturating -/
def IMD.PROOF_STAT.OVERDUE : Fld := fld .ro 0x064 16 8 0

/-- Latest proof passed: bit 9 lane 0, bit 10 lane 1, bit 11 lane 2 -/
def IMD.PROOF_STAT.PASS : Fld := fld .ro 0x064 9 3 0

/-- A due proof waits (R351) -/
def IMD.PROOF_STAT.DEFER : Fld := fld .ro 0x064 7 1 0

/-- A proof is running -/
def IMD.PROOF_STAT.ACTIVE : Fld := fld .ro 0x064 6 1 0

/-- Lane of the next proof -/
def IMD.PROOF_STAT.NEXT : Fld := fld .ro 0x064 4 2 0

/-- Duration of the latest BIST, µs -/
def IMD.PROOF_T.BISTT : Fld := fld .ro 0x068 0 16 0

/-- Minutes since lane 2 was last proved, saturating -/
def IMD.PROOF_AGE.AGE2 : Fld := fld .ro 0x06C 16 8 0

/-- Minutes since lane 1 was last proved, saturating -/
def IMD.PROOF_AGE.AGE1 : Fld := fld .ro 0x06C 8 8 0

/-- Minutes since lane 0 was last proved, saturating -/
def IMD.PROOF_AGE.AGE0 : Fld := fld .ro 0x06C 0 8 0

/-- Proof pass finished -/
def IMD.PPASS.DONE : Fld := fld .ro 0x070 31 1 0

/-- Every step passed (R356) -/
def IMD.PPASS.PASS : Fld := fld .ro 0x070 30 1 0

/-- Bit s: step s passed -/
def IMD.PPASS.STEP : Fld := fld .ro 0x070 0 11 0

/-- Proof-pass duration, µs -/
def IMD.PPASS_T.PPT : Fld := fld .ro 0x074 0 16 0

/-- Latest voted fold (R342) -/
def IMD.FOLD.CRC : Fld := fld .ro 0x078 0 32 0

/-- Folds since reset, wrapping -/
def IMD.FOLD_CNT.COUNT : Fld := fld .ro 0x07C 0 32 0

/-- Corrected core-local errors, lane 2, saturating -/
def IMD.CORE_ECC.ECC2 : Fld := fld .ro 0x080 16 8 0

/-- Corrected core-local errors, lane 1, saturating -/
def IMD.CORE_ECC.ECC1 : Fld := fld .ro 0x080 8 8 0

/-- Corrected core-local errors, lane 0, saturating -/
def IMD.CORE_ECC.ECC0 : Fld := fld .ro 0x080 0 8 0

/-- Replay log full (R365) -/
def IMD.DBG.FULL : Fld := fld .ro 0x084 10 1 0

/-- Triplet halted by debug -/
def IMD.DBG.HALTED : Fld := fld .ro 0x084 9 1 0

/-- Replay entries pending, 0 to 256 -/
def IMD.DBG.REPLAY : Fld := fld .ro 0x084 0 9 0

/-- Fields of page IMD, part 0. -/
def IMD.fields0 : List Fld := [IMD.LANE_STAT.LASTODD, IMD.LANE_STAT.MODE, IMD.LANE_STAT.LANE2, IMD.LANE_STAT.LANE1,
  IMD.LANE_STAT.LANE0, IMD.LANE_CNT.CNT2, IMD.LANE_CNT.CNT1, IMD.LANE_CNT.CNT0,
  IMD.LANE_TOT.RSYNCS, IMD.LANE_TOT.LFLTS, IMD.LAST_LF.LANE, IMD.LAST_LF.CAUSE,
  IMD.LAST_LF_LO.DT_LO, IMD.LAST_LF_HI.DT_HI, IMD.RSYNC_T.MAXT, IMD.RSYNC_T.LASTT,
  IMD.PROOF_CFG.DEFMAX, IMD.PROOF_CFG.PROOFEN, IMD.PROOF_STAT.OVERDUE, IMD.PROOF_STAT.PASS,
  IMD.PROOF_STAT.DEFER, IMD.PROOF_STAT.ACTIVE, IMD.PROOF_STAT.NEXT, IMD.PROOF_T.BISTT,
  IMD.PROOF_AGE.AGE2, IMD.PROOF_AGE.AGE1, IMD.PROOF_AGE.AGE0, IMD.PPASS.DONE,
  IMD.PPASS.PASS, IMD.PPASS.STEP, IMD.PPASS_T.PPT, IMD.FOLD.CRC,
  IMD.FOLD_CNT.COUNT, IMD.CORE_ECC.ECC2, IMD.CORE_ECC.ECC1, IMD.CORE_ECC.ECC0,
  IMD.DBG.FULL, IMD.DBG.HALTED, IMD.DBG.REPLAY]

/-- Every stored field of page IMD. -/
def IMD.fields : List Fld := IMD.fields0

/-- 1: debug unlock active (R366) -/
def SVC.SVC_MODE.DBGUNL : Fld := fld .ro 0x040 1 1 0

/-- 1: S0 and S1 independent (R360) -/
def SVC.SVC_MODE.SPLIT : Fld := fld .ro 0x040 0 1 0

/-- Cause bits 7:0 of the latest restart -/
def SVC.SVC_STAT.LASTCAUSE : Fld := fld .ro 0x044 16 8 0

/-- Restarts of S1 alone in SPLIT, saturating -/
def SVC.SVC_STAT.RST1 : Fld := fld .ro 0x044 8 8 0

/-- Restarts of the pair, or of S0 in SPLIT, saturating -/
def SVC.SVC_STAT.RST0 : Fld := fld .ro 0x044 0 8 0

/-- 1: watchdog of S1 enabled; SPLIT only -/
def SVC.SVC_WDOG.EN1 : Fld := fld .rw 0x048 17 1 0

/-- 1: watchdog of S0 or the pair enabled -/
def SVC.SVC_WDOG.EN0 : Fld := fld .rw 0x048 16 1 1

/-- Watchdog time, ms, 10 to 10,000 -/
def SVC.SVC_WDOG.TIMEOUT : Fld := (fld .rw 0x048 0 16 1000).rngU 10 10000

/-- 1: restart the watchdog of S1 -/
def SVC.SVC_KICK.KICK1 : Fld := fld .wo 0x04C 1 1 0

/-- 1: restart the watchdog of S0 or the pair -/
def SVC.SVC_KICK.KICK0 : Fld := fld .wo 0x04C 0 1 0

/-- DT bits 31:0 to apply (R362) -/
def SVC.DTSET_LO.DT_LO : Fld := fld .rw 0x050 0 32 0

/-- DT bits 63:32 to apply -/
def SVC.DTSET_HI.DT_HI : Fld := fld .rw 0x054 0 32 0

/-- 1: apply DTSET at the next program-cycle boundary -/
def SVC.DTSET_CTRL.SET : Fld := fld .wo 0x058 0 1 0

/-- DT rate trim, signed ppb, −200,000 to 200,000 -/
def SVC.DTRATE.PPB : Fld := (fld .rw 0x05C 0 32 0).rngS (-200000) 200000

/-- Device-wide page events: 0 S0, 1 S1; SPLIT only -/
def SVC.IRQROUTE.DEV : Fld := fld .rw 0x060 2 1 0

/-- Data-plane page events: 0 S0, 1 S1; SPLIT only -/
def SVC.IRQROUTE.DATA : Fld := fld .rw 0x060 1 1 0

/-- Management-plane page events: 0 S0, 1 S1; SPLIT only -/
def SVC.IRQROUTE.MGMT : Fld := fld .rw 0x060 0 1 0

/-- Replay log full -/
def SVC.SVC_DBG.FULL : Fld := fld .ro 0x064 10 1 0

/-- S0 halted by debug -/
def SVC.SVC_DBG.HALTED : Fld := fld .ro 0x064 9 1 0

/-- Replay entries pending, 0 to 256 -/
def SVC.SVC_DBG.REPLAY : Fld := fld .ro 0x064 0 9 0

/-- Fields of page SVC, part 0. -/
def SVC.fields0 : List Fld := [SVC.SVC_MODE.DBGUNL, SVC.SVC_MODE.SPLIT, SVC.SVC_STAT.LASTCAUSE, SVC.SVC_STAT.RST1,
  SVC.SVC_STAT.RST0, SVC.SVC_WDOG.EN1, SVC.SVC_WDOG.EN0, SVC.SVC_WDOG.TIMEOUT,
  SVC.SVC_KICK.KICK1, SVC.SVC_KICK.KICK0, SVC.DTSET_LO.DT_LO, SVC.DTSET_HI.DT_HI,
  SVC.DTSET_CTRL.SET, SVC.DTRATE.PPB, SVC.IRQROUTE.DEV, SVC.IRQROUTE.DATA,
  SVC.IRQROUTE.MGMT, SVC.SVC_DBG.FULL, SVC.SVC_DBG.HALTED, SVC.SVC_DBG.REPLAY]

/-- Every stored field of page SVC. -/
def SVC.fields : List Fld := SVC.fields0

/-- Mirror time, ms, 5 to 100 -/
def SAFE.SAFE_CFG.MIRT : Fld := fld .ro 0x040 24 8 0

/-- Loop close delay, ms, 0 to 255 -/
def SAFE.SAFE_CFG.LOOPON : Fld := fld .ro 0x040 16 8 0

/-- 1: TLI3 is a second zero-speed line -/
def SAFE.SAFE_CFG.ZS2 : Fld := fld .ro 0x040 8 1 0

/-- Platen TLI filter, 0.5 ms, 1 to 9 -/
def SAFE.SAFE_CFG.TFILT : Fld := fld .ro 0x040 4 4 0

/-- Platen SI and mirror filter, 0.25 ms, 1 to 10 -/
def SAFE.SAFE_CFG.PFILT : Fld := fld .ro 0x040 0 4 0

/-- Discrepancy time, ms, 20 to 1,000 -/
def SAFE.DISC.DISCT : Fld := fld .ro 0x044 0 16 0

/-- Holding-test interval, h, 0 to 168; 0: on request only -/
def SAFE.LKTEST.HTINT : Fld := fld .ro 0x048 24 8 0

/-- Switch-test pulse, 10 µs, 10 to 40 -/
def SAFE.LKTEST.LKTPW : Fld := fld .ro 0x048 8 8 0

/-- Switch-test interval, s, 1 to 255 -/
def SAFE.LKTEST.LKTINT : Fld := fld .ro 0x048 0 8 0

/-- Holding-test duration, 10 ms, 10 to 100 -/
def SAFE.HTEST.HTDUR : Fld := fld .ro 0x04C 24 8 0

/-- Permitted movement, 10 µm, 1 to 255 -/
def SAFE.HTEST.HTMOV : Fld := fld .ro 0x04C 16 8 0

/-- Holding-test current, mA -/
def SAFE.HTEST.HTIQ : Fld := fld .ro 0x04C 0 16 0

/-- Opening Hall order (R316) -/
def SAFE.LEAFMAP.OPENSEQ : Fld := (fld .ro 0x050 10 1 0).arr 8 4

/-- 0 car side A, 1 car side B -/
def SAFE.LEAFMAP.CARSIDE : Fld := (fld .ro 0x050 9 1 0).arr 8 4

/-- 1: leaf in use -/
def SAFE.LEAFMAP.USE : Fld := (fld .ro 0x050 8 1 0).arr 8 4

/-- SI of locked -/
def SAFE.LEAFMAP.LKSI : Fld := (fld .ro 0x050 4 4 0).arr 8 4

/-- SI of closed -/
def SAFE.LEAFMAP.CLSI : Fld := (fld .ro 0x050 0 4 0).arr 8 4

/-- Byte k: bit 5 CARSIDE, bit 4 USE, bits 3:0 RSI -/
def SAFE.STEPMAP.STEP : Fld := fld .ro 0x070 0 32 0

/-- Nibble i: bit 3 TPEN, bits 2:0 TPO -/
def SAFE.TPMAP0.SI : Fld := fld .ro 0x074 0 32 0

/-- As TPMAP0 -/
def SAFE.TPMAP1.SI : Fld := fld .ro 0x078 0 32 0

/-- CRC-32C of the record in force -/
def SAFE.PCRCRC.CRC : Fld := fld .ro 0x07C 0 32 0

/-- Leaves for GCLR and HTREQ -/
def SAFE.SAFE_CTRL.LMASK : Fld := fld .rws 0x080 8 8 0

/-- 1: test-pulse fault clear (R307); reads 0 -/
def SAFE.SAFE_CTRL.TCLR : Fld := fld .rws 0x080 4 1 0

/-- 1: holding test; reads 0 -/
def SAFE.SAFE_CTRL.HTREQ : Fld := fld .rws 0x080 3 1 0

/-- 1: mirror and coil-driver fault clear (R314, R315); reads 0 -/
def SAFE.SAFE_CTRL.MCLR : Fld := fld .rws 0x080 2 1 0

/-- 1: guard clear (R317); reads 0 -/
def SAFE.SAFE_CTRL.GCLR : Fld := fld .rws 0x080 1 1 0

/-- 1: discrepancy clear (R309); reads 0 -/
def SAFE.SAFE_CTRL.DCLR : Fld := fld .rws 0x080 0 1 0

/-- Record accepted and echoed -/
def SAFE.SAFE_STAT.PCROK : Fld := fld .ro 0x084 17 1 0

/-- New record waits for start-up (R325) -/
def SAFE.SAFE_STAT.PCRPEND : Fld := fld .ro 0x084 16 1 0

/-- Processor reading of TLI3–TLI0 -/
def SAFE.SAFE_STAT.TLI : Fld := fld .ro 0x084 12 4 0

/-- Mirror readings, as the P-frame -/
def SAFE.SAFE_STAT.MIR : Fld := fld .ro 0x084 8 4 0

/-- Q-frames good -/
def SAFE.SAFE_STAT.LINKOK : Fld := fld .ro 0x084 7 1 0

/-- Last orientation refused -/
def SAFE.SAFE_STAT.ORIREF : Fld := fld .ro 0x084 6 1 0

/-- Applied orientation -/
def SAFE.SAFE_STAT.ORI : Fld := fld .ro 0x084 5 1 0

/-- Zero speed -/
def SAFE.SAFE_STAT.ZS : Fld := fld .ro 0x084 4 1 0

/-- Decisions LOOPL, LOOPR, RELL, RELR -/
def SAFE.SAFE_STAT.DEC : Fld := fld .ro 0x084 0 4 0

/-- SIs after masks -/
def SAFE.SAFE_SI.EFF : Fld := fld .ro 0x088 16 16 0

/-- Processor reading -/
def SAFE.SAFE_SI.RAW : Fld := fld .ro 0x088 0 16 0

/-- SIs with a latched test-pulse fault -/
def SAFE.SAFE_MASK.TPF : Fld := fld .ro 0x08C 16 16 0

/-- SIs with a latched discrepancy -/
def SAFE.SAFE_MASK.DSC : Fld := fld .ro 0x08C 0 16 0

/-- Leaves that failed the holding test -/
def SAFE.SAFE_FLT.HTF : Fld := fld .ro 0x090 24 8 0

/-- Leaves that failed a switch test -/
def SAFE.SAFE_FLT.LKF : Fld := fld .ro 0x090 16 8 0

/-- Guards latched -/
def SAFE.SAFE_FLT.GRD : Fld := fld .ro 0x090 8 8 0

/-- Relays with LOOPMIR or coil faults -/
def SAFE.SAFE_FLT.MIRF : Fld := fld .ro 0x090 4 4 0

/-- TLIs with a latched discrepancy -/
def SAFE.SAFE_FLT.TLID : Fld := fld .ro 0x090 0 4 0

/-- Largest movement in the last test, µm -/
def SAFE.SAFE_HT.MOVE : Fld := fld .ro 0x094 16 16 0

/-- Holding tests in progress -/
def SAFE.SAFE_HT.RUN : Fld := fld .ro 0x094 8 8 0

/-- Last result passed, per leaf -/
def SAFE.SAFE_HT.PASS : Fld := fld .ro 0x094 0 8 0

/-- Fields of page SAFE, part 0. -/
def SAFE.fields0 : List Fld := [SAFE.SAFE_CFG.MIRT, SAFE.SAFE_CFG.LOOPON, SAFE.SAFE_CFG.ZS2, SAFE.SAFE_CFG.TFILT,
  SAFE.SAFE_CFG.PFILT, SAFE.DISC.DISCT, SAFE.LKTEST.HTINT, SAFE.LKTEST.LKTPW,
  SAFE.LKTEST.LKTINT, SAFE.HTEST.HTDUR, SAFE.HTEST.HTMOV, SAFE.HTEST.HTIQ,
  SAFE.LEAFMAP.OPENSEQ, SAFE.LEAFMAP.CARSIDE, SAFE.LEAFMAP.USE, SAFE.LEAFMAP.LKSI,
  SAFE.LEAFMAP.CLSI, SAFE.STEPMAP.STEP, SAFE.TPMAP0.SI, SAFE.TPMAP1.SI,
  SAFE.PCRCRC.CRC, SAFE.SAFE_CTRL.LMASK, SAFE.SAFE_CTRL.TCLR, SAFE.SAFE_CTRL.HTREQ,
  SAFE.SAFE_CTRL.MCLR, SAFE.SAFE_CTRL.GCLR, SAFE.SAFE_CTRL.DCLR, SAFE.SAFE_STAT.PCROK,
  SAFE.SAFE_STAT.PCRPEND, SAFE.SAFE_STAT.TLI, SAFE.SAFE_STAT.MIR, SAFE.SAFE_STAT.LINKOK,
  SAFE.SAFE_STAT.ORIREF, SAFE.SAFE_STAT.ORI, SAFE.SAFE_STAT.ZS, SAFE.SAFE_STAT.DEC,
  SAFE.SAFE_SI.EFF, SAFE.SAFE_SI.RAW, SAFE.SAFE_MASK.TPF, SAFE.SAFE_MASK.DSC]

/-- Fields of page SAFE, part 1. -/
def SAFE.fields1 : List Fld := [SAFE.SAFE_FLT.HTF, SAFE.SAFE_FLT.LKF, SAFE.SAFE_FLT.GRD, SAFE.SAFE_FLT.MIRF,
  SAFE.SAFE_FLT.TLID, SAFE.SAFE_HT.MOVE, SAFE.SAFE_HT.RUN, SAFE.SAFE_HT.PASS]

/-- Every stored field of page SAFE. -/
def SAFE.fields : List Fld := SAFE.fields0 ++ SAFE.fields1

/-- Value of the latest scan -/
def SEAL.RAW.RAW : Fld := fld .ro 0x040 0 16 0

/-- Boot value (R321) -/
def SEAL.BOOT.BOOT : Fld := fld .ro 0x044 0 16 0

/-- Boot value taken and checked -/
def SEAL.PROFILE.VALID : Fld := fld .ro 0x048 16 1 0

/-- Seal field CHECK -/
def SEAL.PROFILE.CHECK : Fld := fld .ro 0x048 12 4 0

/-- Seal bit 11 -/
def SEAL.PROFILE.B11 : Fld := fld .ro 0x048 11 1 0

/-- Seal field TLSWAP -/
def SEAL.PROFILE.TLSWAP : Fld := fld .ro 0x048 10 1 0

/-- Seal field ORIFIX -/
def SEAL.PROFILE.ORIFIX : Fld := fld .ro 0x048 9 1 0

/-- Seal field ORIBASE -/
def SEAL.PROFILE.ORIBASE : Fld := fld .ro 0x048 8 1 0

/-- Vehicle position code -/
def SEAL.PROFILE.VPOS : Fld := fld .ro 0x048 4 4 0

/-- Active safety profile -/
def SEAL.PROFILE.PROFILE : Fld := fld .ro 0x048 0 4 0

/-- Seal nibble of the impression -/
def SEAL.NIBBLE.NIB : Fld := fld .ro 0x04C 0 4 0

/-- Switches that failed the strobe check -/
def SEAL.STAT.BAD : Fld := fld .ro 0x050 16 16 0

/-- Strobe check failed -/
def SEAL.STAT.STRFLT : Fld := fld .ro 0x050 3 1 0

/-- Value changed after start-up -/
def SEAL.STAT.TAMPER : Fld := fld .ro 0x050 2 1 0

/-- CHECK equals NIB and bit 11 is 0 -/
def SEAL.STAT.CHKOK : Fld := fld .ro 0x050 1 1 0

/-- Latest scan passed -/
def SEAL.STAT.SCANOK : Fld := fld .ro 0x050 0 1 0

/-- Fields of page SEAL, part 0. -/
def SEAL.fields0 : List Fld := [SEAL.RAW.RAW, SEAL.BOOT.BOOT, SEAL.PROFILE.VALID, SEAL.PROFILE.CHECK,
  SEAL.PROFILE.B11, SEAL.PROFILE.TLSWAP, SEAL.PROFILE.ORIFIX, SEAL.PROFILE.ORIBASE,
  SEAL.PROFILE.VPOS, SEAL.PROFILE.PROFILE, SEAL.NIBBLE.NIB, SEAL.STAT.BAD,
  SEAL.STAT.STRFLT, SEAL.STAT.TAMPER, SEAL.STAT.CHKOK, SEAL.STAT.SCANOK]

/-- Every stored field of page SEAL. -/
def SEAL.fields : List Fld := SEAL.fields0

/-- Platen state code -/
def PLT.STATE.STATE : Fld := fld .ro 0x040 0 4 0

/-- Platen reading of SI15–SI0 -/
def PLT.SI.SI : Fld := fld .ro 0x044 0 16 0

/-- Applied orientation -/
def PLT.IO.ORI : Fld := fld .ro 0x048 16 1 0

/-- Platen reading of TLI3–TLI0 -/
def PLT.IO.TLI : Fld := fld .ro 0x048 12 4 0

/-- Platen mirror readings -/
def PLT.IO.MIR : Fld := fld .ro 0x048 8 4 0

/-- DLL_B, DLR_B commanded on -/
def PLT.IO.COIL : Fld := fld .ro 0x048 6 2 0

/-- Coil readbacks match -/
def PLT.IO.COILOK : Fld := fld .ro 0x048 4 2 0

/-- Decisions LOOPL, LOOPR, RELL, RELR -/
def PLT.IO.DEC : Fld := fld .ro 0x048 0 4 0

/-- Lock enable lines -/
def PLT.LINES.LKEN : Fld := fld .ro 0x04C 8 8 0

/-- Bridge-disable lines -/
def PLT.LINES.BDIS : Fld := fld .ro 0x04C 0 8 0

/-- Guards latched -/
def PLT.GUARD.LATCH : Fld := fld .ro 0x050 8 8 0

/-- Low-side tests in progress -/
def PLT.GUARD.LSTST : Fld := fld .ro 0x050 0 8 0

/-- Core reference outside f_REFMON -/
def PLT.DIAG.REFLOSS : Fld := fld .ro 0x054 5 1 0

/-- Record CRC failed (R326) -/
def PLT.DIAG.PCRCRC : Fld := fld .ro 0x054 4 1 0

/-- Coil readback failed -/
def PLT.DIAG.COILB : Fld := fld .ro 0x054 3 1 0

/-- State encoding check failed -/
def PLT.DIAG.STATECHK : Fld := fld .ro 0x054 2 1 0

/-- Comparator self-check failed -/
def PLT.DIAG.CMPCHK : Fld := fld .ro 0x054 1 1 0

/-- VPLT below its threshold -/
def PLT.DIAG.VPLTLO : Fld := fld .ro 0x054 0 1 0

/-- Record CRC echoed -/
def PLT.CRC.CRC : Fld := fld .ro 0x058 0 32 0

/-- Q-frame sequence errors, saturating -/
def PLT.LINK.SEQERR : Fld := fld .ro 0x05C 24 8 0

/-- Q-frame CRC errors, saturating -/
def PLT.LINK.CRCERR : Fld := fld .ro 0x05C 16 8 0

/-- Good Q-frames, wrapping -/
def PLT.LINK.GOOD : Fld := fld .ro 0x05C 0 16 0

/-- Fields of page PLT, part 0. -/
def PLT.fields0 : List Fld := [PLT.STATE.STATE, PLT.SI.SI, PLT.IO.ORI, PLT.IO.TLI,
  PLT.IO.MIR, PLT.IO.COIL, PLT.IO.COILOK, PLT.IO.DEC,
  PLT.LINES.LKEN, PLT.LINES.BDIS, PLT.GUARD.LATCH, PLT.GUARD.LSTST,
  PLT.DIAG.REFLOSS, PLT.DIAG.PCRCRC, PLT.DIAG.COILB, PLT.DIAG.STATECHK,
  PLT.DIAG.CMPCHK, PLT.DIAG.VPLTLO, PLT.CRC.CRC, PLT.LINK.SEQERR,
  PLT.LINK.CRCERR, PLT.LINK.GOOD]

/-- Every stored field of page PLT. -/
def PLT.fields : List Fld := PLT.fields0

/-- Impression number in force -/
def CFG.IMPRESSION.IMPNUM : Fld := fld .ro 0x040 0 32 0

/-- Number for the next switch (R553) -/
def CFG.IMP_NEXT.IMPNUM : Fld := fld .rw 0x044 0 32 0

/-- 1: confirm trials (R557) -/
def CFG.CFG_CTRL.CONFIRM : Fld := fld .wo 0x048 3 1 0

/-- 1: withdraw an armed switch or reset request -/
def CFG.CFG_CTRL.CANCEL : Fld := fld .wo 0x048 2 1 0

/-- 1: reset when quiet (R558) -/
def CFG.CFG_CTRL.RSTREQ : Fld := fld .wo 0x048 1 1 0

/-- 1: arm an impression switch -/
def CFG.CFG_CTRL.SWITCH : Fld := fld .wo 0x048 0 1 0

/-- Leaves with deferred pages (R554) -/
def CFG.ISTAT.DEFER : Fld := fld .ro 0x04C 8 8 0

/-- Last refusal: 0 none, 1 BUSY, 2 SAME, 3 SEAL, 4 NOTREADY -/
def CFG.ISTAT.REFC : Fld := fld .ro 0x04C 4 4 0

/-- 0 IDLE, 1 ARMED, 2 APPLYING -/
def CFG.ISTAT.STATE : Fld := fld .ro 0x04C 0 2 0

/-- Start-up step reached, 1 to 13 (R546) -/
def CFG.BOOT_STAT.PHASE : Fld := fld .ro 0x050 12 4 0

/-- Reset request waits (R558) -/
def CFG.BOOT_STAT.RSTPEND : Fld := fld .ro 0x050 11 1 0

/-- Running under a trial selection -/
def CFG.BOOT_STAT.TRIAL : Fld := fld .ro 0x050 10 1 0

/-- Bit 7 firmware, 8 forme, 9 impression (R547, R548) -/
def CFG.BOOT_STAT.FALLBACK : Fld := fld .ro 0x050 7 3 0

/-- Factory set running (R552) -/
def CFG.BOOT_STAT.FACTORY : Fld := fld .ro 0x050 6 1 0

/-- Impression slot: 0 A, 1 B -/
def CFG.BOOT_STAT.IMPSLOT : Fld := fld .ro 0x050 5 1 0

/-- Forme slot -/
def CFG.BOOT_STAT.FRMSLOT : Fld := fld .ro 0x050 4 1 0

/-- Firmware slot -/
def CFG.BOOT_STAT.FWSLOT : Fld := fld .ro 0x050 3 1 0

/-- Ready (R550) -/
def CFG.BOOT_STAT.READY : Fld := fld .ro 0x050 0 1 0

/-- Power-good to ready, ms -/
def CFG.BOOT_T.READYT : Fld := fld .ro 0x054 0 16 0

/-- DT bits 31:0 of the latest switch -/
def CFG.ISW_DT_LO.DT_LO : Fld := fld .ro 0x058 0 32 0

/-- DT bits 63:32 of the latest switch -/
def CFG.ISW_DT_HI.DT_HI : Fld := fld .ro 0x05C 0 32 0

/-- Kerning save interval, s, 600 to 65,535 (R537) -/
def CFG.KT_CFG.KTSAVE : Fld := (fld .rw 0x060 0 16 3600).rngU 600 65535

/-- Fields of page CFG, part 0. -/
def CFG.fields0 : List Fld := [CFG.IMPRESSION.IMPNUM, CFG.IMP_NEXT.IMPNUM, CFG.CFG_CTRL.CONFIRM, CFG.CFG_CTRL.CANCEL,
  CFG.CFG_CTRL.RSTREQ, CFG.CFG_CTRL.SWITCH, CFG.ISTAT.DEFER, CFG.ISTAT.REFC,
  CFG.ISTAT.STATE, CFG.BOOT_STAT.PHASE, CFG.BOOT_STAT.RSTPEND, CFG.BOOT_STAT.TRIAL,
  CFG.BOOT_STAT.FALLBACK, CFG.BOOT_STAT.FACTORY, CFG.BOOT_STAT.IMPSLOT, CFG.BOOT_STAT.FRMSLOT,
  CFG.BOOT_STAT.FWSLOT, CFG.BOOT_STAT.READY, CFG.BOOT_T.READYT, CFG.ISW_DT_LO.DT_LO,
  CFG.ISW_DT_HI.DT_HI, CFG.KT_CFG.KTSAVE]

/-- Every stored field of page CFG. -/
def CFG.fields : List Fld := CFG.fields0

/-- Enrolled Neltan slots -/
def SEC.SEC_STAT.NKEYS : Fld := fld .ro 0x040 8 4 0

/-- Key-block slots accepted in this state -/
def SEC.SEC_STAT.IKEYS : Fld := fld .ro 0x040 4 4 0

/-- Debug unlock active (R544) -/
def SEC.SEC_STAT.DBGUNL : Fld := fld .ro 0x040 3 1 0

/-- Key block verified -/
def SEC.SEC_STAT.KEYBLK : Fld := fld .ro 0x040 2 1 0

/-- Root key hash programmed -/
def SEC.SEC_STAT.ROOTOK : Fld := fld .ro 0x040 1 1 0

/-- INTEGID burnt -/
def SEC.SEC_STAT.INTEGSET : Fld := fld .ro 0x040 0 1 0

/-- Integrator identity -/
def SEC.INTEGID.ID : Fld := fld .ro 0x044 0 32 0

/-- Lowest firmware rollback epoch, 0 to 32 (R533, R545) -/
def SEC.FWMIN.MIN : Fld := fld .ro 0x048 0 6 0

/-- Module identity, bits 31:0 -/
def SEC.UID_LO.UID : Fld := fld .ro 0x04C 0 32 0

/-- Module identity, bits 63:32 -/
def SEC.UID_HI.UID : Fld := fld .ro 0x050 0 32 0

/-- 1: verify -/
def SEC.VER_CTRL.GO : Fld := fld .wo 0x054 7 1 0

/-- Colophon KIND, 1 to 6 -/
def SEC.VER_CTRL.KIND : Fld := (fld .rw 0x054 4 3 0).rngU 1 6

/-- 0 A, 1 B -/
def SEC.VER_CTRL.SLOT : Fld := fld .rw 0x054 3 1 0

/-- 1: copy a forme into HALF (R556) -/
def SEC.VER_CTRL.COPY : Fld := fld .rw 0x054 2 1 0

/-- Forme store half -/
def SEC.VER_CTRL.HALF : Fld := fld .rw 0x054 1 1 0

/-- 0 OK, 1 no image, 2 digest, 3 signature, 4 key not accepted, 5 rollback, 6 kind, 7 half in execution, 8 INT... -/
def SEC.VER_STAT.RESULT : Fld := fld .ro 0x058 4 4 0

/-- Half 1 verified -/
def SEC.VER_STAT.FMARK1 : Fld := fld .ro 0x058 3 1 0

/-- Half 0 verified -/
def SEC.VER_STAT.FMARK0 : Fld := fld .ro 0x058 2 1 0

/-- Verification ended -/
def SEC.VER_STAT.DONE : Fld := fld .ro 0x058 1 1 0

/-- Verification running -/
def SEC.VER_STAT.BUSY : Fld := fld .ro 0x058 0 1 0

/-- VERNUM of the last verified image -/
def SEC.VER_NUM.VERNUM : Fld := fld .ro 0x05C 0 32 0

/-- 1: check the debug ticket (R544) -/
def SEC.SEC_CTRL.UNLOCK : Fld := fld .wo 0x060 2 1 0

/-- 1: raise FWMIN (R545) -/
def SEC.SEC_CTRL.ROLLFWD : Fld := fld .wo 0x060 1 1 0

/-- 1: install the boot policy at the start of the integrator area (R536) -/
def SEC.SEC_CTRL.POLINST : Fld := fld .wo 0x060 0 1 0

/-- Key bits 32i + 31 to 32i -/
def SEC.NKEYW.KEY : Fld := (fld .wo 0x070 0 32 0).arr 4 4

/-- 1: enrol (R543); host port only -/
def SEC.NKEYCTRL.WR : Fld := fld .wo 0x080 8 1 0

/-- Neltan slot -/
def SEC.NKEYCTRL.SLOT : Fld := fld .rw 0x080 0 2 0

/-- Bits 4s + 3 to 4s: unused rows of slot s -/
def SEC.NKEYSTAT.ROWS : Fld := fld .ro 0x084 0 16 0

/-- Fields of page SEC, part 0. -/
def SEC.fields0 : List Fld := [SEC.SEC_STAT.NKEYS, SEC.SEC_STAT.IKEYS, SEC.SEC_STAT.DBGUNL, SEC.SEC_STAT.KEYBLK,
  SEC.SEC_STAT.ROOTOK, SEC.SEC_STAT.INTEGSET, SEC.INTEGID.ID, SEC.FWMIN.MIN,
  SEC.UID_LO.UID, SEC.UID_HI.UID, SEC.VER_CTRL.GO, SEC.VER_CTRL.KIND,
  SEC.VER_CTRL.SLOT, SEC.VER_CTRL.COPY, SEC.VER_CTRL.HALF, SEC.VER_STAT.RESULT,
  SEC.VER_STAT.FMARK1, SEC.VER_STAT.FMARK0, SEC.VER_STAT.DONE, SEC.VER_STAT.BUSY,
  SEC.VER_NUM.VERNUM, SEC.SEC_CTRL.UNLOCK, SEC.SEC_CTRL.ROLLFWD, SEC.SEC_CTRL.POLINST,
  SEC.NKEYW.KEY, SEC.NKEYCTRL.WR, SEC.NKEYCTRL.SLOT, SEC.NKEYSTAT.ROWS]

/-- Every stored field of page SEC. -/
def SEC.fields : List Fld := SEC.fields0

end Sys2Proof.Machine
end

