-- ==== Sys2Proof/Machine/RegMapLeaf.lean ====
section
/-! DEFINITION. Register fields of the pages LEAF, from the register tables of the manual: offset, lowest bit,
width, access code (R12), reset value and stated range. A register whose content is computed from other state when it is
read has no field here. -/

namespace Sys2Proof.Machine

/-- 1: dead-time compensation (R86) -/
def LEAF.DRV_CFG.DTCEN : Fld := fld .rwp 0x040 11 1 0

/-- 1: decoupling and back-EMF feed-forward (R83) -/
def LEAF.DRV_CFG.DECOUP : Fld := fld .rwp 0x040 10 1 0

/-- 0: commanded off gives OFF; 1: gives BRAKE (R93) -/
def LEAF.DRV_CFG.DISMODE : Fld := fld .rwp 0x040 9 1 0

/-- Shunt amplifier gain: 0 ×5, 1 ×10, 2 ×20, 3 ×40 -/
def LEAF.DRV_CFG.GAIN : Fld := fld .rwp 0x040 0 2 1

/-- Carrier delay, MOTCLK counts, 0 to 255 (R63) -/
def LEAF.TIMING.PHOFS : Fld := fld .rwp 0x044 16 8 0

/-- Dead time, MOTCLK counts, 25 to 255 (R65) -/
def LEAF.TIMING.DEADT : Fld := (fld .rwp 0x044 0 8 50).rngU 25 255

/-- Shunt resistance, µΩ, 500 to 20,000 -/
def LEAF.SHUNT.RSH : Fld := (fld .rwp 0x048 0 16 10000).rngU 500 20000

/-- Drain-source blanking, 0.1 µs, 5 to 40 -/
def LEAF.PROT.VDSBLK : Fld := (fld .rwp 0x04C 24 8 10).rngU 5 40

/-- Drain-source threshold, 10 mV, 25 to 200 -/
def LEAF.PROT.VDSTH : Fld := (fld .rwp 0x04C 16 8 100).rngU 25 200

/-- Overcurrent trip, mA, 0 to 32,767 (R96) -/
def LEAF.PROT.OCTRIP : Fld := (fld .rwp 0x04C 0 16 32767).rngU 0 32767

/-- Undervoltage release, 10 mV, 1,000 to 15,000 -/
def LEAF.VBRUV.UVREL : Fld := (fld .rwp 0x050 16 16 1800).rngU 1000 15000

/-- Undervoltage trip, 10 mV, 1,000 to 15,000 -/
def LEAF.VBRUV.UVTRIP : Fld := (fld .rwp 0x050 0 16 1700).rngU 1000 15000

/-- Overvoltage trip, 10 mV, 2,000 to 17,000 -/
def LEAF.VBROV.OVTRIP : Fld := (fld .rwp 0x054 16 16 16000).rngU 2000 17000

/-- Regeneration clamp start, 10 mV, 2,000 to 17,000 -/
def LEAF.VBROV.REGEN : Fld := (fld .rwp 0x054 0 16 15500).rngU 2000 17000

/-- Current integral gain per PWM period, V/A, unsigned Q4.12 -/
def LEAF.KI_CUR.KI_I : Fld := fld .rwp 0x058 16 16 0

/-- Current proportional gain, V/A, unsigned Q8.8 -/
def LEAF.KI_CUR.KP_I : Fld := fld .rwp 0x058 0 16 0

/-- Phase resistance, mΩ, 0 to 65,535 -/
def LEAF.MOTOR.PHRES : Fld := fld .rwp 0x05C 16 16 0

/-- Phase inductance, µH, 0 to 65,535 -/
def LEAF.MOTOR.PHIND : Fld := fld .rwp 0x05C 0 16 0

/-- Pole pairs, 1 to 32 -/
def LEAF.TORQUE.POLEP : Fld := (fld .rwp 0x060 16 8 4).rngU 1 32

/-- Torque constant, 0.01 mN·m per A peak -/
def LEAF.TORQUE.KT : Fld := fld .rwp 0x060 0 16 0

/-- Electrical angle offset, 1/65,536 turn -/
def LEAF.ANGLE.ANGOFS : Fld := fld .rwp 0x064 0 16 0

/-- d-current reference, signed mA, −32,767 to 0 -/
def LEAF.ILIM.IDREF : Fld := (fld .rwp 0x068 16 16 0).rngS (-32767) 0

/-- q-current limit, mA, 0 to 32,767 -/
def LEAF.ILIM.IQMAX : Fld := (fld .rwp 0x068 0 16 0).rngU 0 32767

/-- Position gain, s⁻¹, unsigned Q16.16 -/
def LEAF.KPP.KPP : Fld := fld .rwp 0x06C 0 32 0

/-- Speed gain, mA per mm/s, unsigned Q16.16 -/
def LEAF.KPV.KPV : Fld := fld .rwp 0x070 0 32 0

/-- Speed integral gain per servo period, mA per mm/s, unsigned Q16.16 -/
def LEAF.KIV.KIV : Fld := fld .rwp 0x074 0 32 0

/-- Acceleration feed-forward, mA per m/s², unsigned Q16.16 -/
def LEAF.KACC.KACC : Fld := fld .rwp 0x078 0 32 0

/-- Compensation linear zone, mA, 1 to 32,767 -/
def LEAF.DTC.DTCZONE : Fld := (fld .rwp 0x07C 16 16 100).rngU 1 32767

/-- Compensation voltage, 10 mV, 0 to 1,000 -/
def LEAF.DTC.DTCV : Fld := (fld .rwp 0x07C 0 16 0).rngU 0 1000

/-- Phase-voltage tolerance, 10 mV, 50 to 2,000 -/
def LEAF.CHKTOL.VPHTOL : Fld := (fld .rwp 0x080 16 16 200).rngU 50 2000

/-- Current-sum tolerance, mA, 50 to 32,767 -/
def LEAF.CHKTOL.ISUMTOL : Fld := (fld .rwp 0x080 0 16 500).rngU 50 32767

/-- Shadow-estimate tolerance, 10 mV, 50 to 5,000 -/
def LEAF.SHDTOL.SHDTOL : Fld := (fld .rwp 0x084 0 16 300).rngU 50 5000

/-- 1: clears the DIAG counters -/
def LEAF.DRV_CTRL.CLRCNT : Fld := fld .wo 0x088 2 1 0

/-- 1: clears absent latched faults (R106) -/
def LEAF.DRV_CTRL.CLRLATCH : Fld := fld .wo 0x088 1 1 0

/-- 1: starts an offset calibration (R110) -/
def LEAF.DRV_CTRL.CAL : Fld := fld .wo 0x088 0 1 0

/-- q-current in mode TEST, signed mA -/
def LEAF.DRV_TEST.IQTEST : Fld := fld .rw 0x08C 16 16 0

/-- 1: mode TEST may be entered; 0, 2, 3: not -/
def LEAF.DRV_TEST.TMODE : Fld := fld .rw 0x08C 0 2 0

/-- 0 never run, 1 running, 2 passed, 3 failed -/
def LEAF.DRV_STAT.CALST : Fld := fld .ro 0x090 12 2 0

/-- Bootstrap above V_BSTUV, bits W, V, U -/
def LEAF.DRV_STAT.BSTOK : Fld := fld .ro 0x090 8 3 0

/-- 1: latched drive fault present -/
def LEAF.DRV_STAT.LATCH : Fld := fld .ro 0x090 7 1 0

/-- 1: gate supply valid -/
def LEAF.DRV_STAT.VGDOK : Fld := fld .ro 0x090 6 1 0

/-- 1: Platen bridge-disable asserted -/
def LEAF.DRV_STAT.PLTDIS : Fld := fld .ro 0x090 5 1 0

/-- 1: gates under PWM control -/
def LEAF.DRV_STAT.BEN : Fld := fld .ro 0x090 4 1 0

/-- Drive mode code -/
def LEAF.DRV_STAT.MODE : Fld := fld .ro 0x090 0 3 0

/-- Servo periods with voltage clamp, saturating at 255 -/
def LEAF.DIAG.VLIM : Fld := fld .ro 0x094 16 8 0

/-- Periods with stale samples, saturating at 255 -/
def LEAF.DIAG.STALE : Fld := fld .ro 0x094 8 8 0

/-- Cycle-by-cycle trips, saturating at 255 -/
def LEAF.DIAG.OCCBC : Fld := fld .ro 0x094 0 8 0

/-- Phase V offset, signed ADC codes -/
def LEAF.OFS_UV.OFSV : Fld := fld .ro 0x098 16 16 0

/-- Phase U offset, signed ADC codes -/
def LEAF.OFS_UV.OFSU : Fld := fld .ro 0x098 0 16 0

/-- Phase W offset, signed ADC codes -/
def LEAF.OFS_W.OFSW : Fld := fld .ro 0x09C 0 16 0

/-- Phase V current, signed mA -/
def LEAF.I_UV.IV : Fld := fld .ro 0x0A0 16 16 0

/-- Phase U current, signed mA -/
def LEAF.I_UV.IU : Fld := fld .ro 0x0A0 0 16 0

/-- Bridge supply, 10 mV -/
def LEAF.I_W.VBR : Fld := fld .ro 0x0A4 16 16 0

/-- Phase W current, signed mA -/
def LEAF.I_W.IW : Fld := fld .ro 0x0A4 0 16 0

/-- i_q, signed mA -/
def LEAF.IDQ.IQ : Fld := fld .ro 0x0A8 16 16 0

/-- i_d, signed mA -/
def LEAF.IDQ.ID : Fld := fld .ro 0x0A8 0 16 0

/-- v_q, signed 10 mV -/
def LEAF.VDQ.VQ : Fld := fld .ro 0x0AC 16 16 0

/-- v_d, signed 10 mV -/
def LEAF.VDQ.VD : Fld := fld .ro 0x0AC 0 16 0

/-- Phase V mean voltage, 10 mV -/
def LEAF.VPH_UV.VPHV : Fld := fld .ro 0x0B0 16 16 0

/-- Phase U mean voltage, 10 mV -/
def LEAF.VPH_UV.VPHU : Fld := fld .ro 0x0B0 0 16 0

/-- Phase W mean voltage, 10 mV -/
def LEAF.VPH_W.VPHW : Fld := fld .ro 0x0B4 0 16 0

/-- Latest p_err, signed µm -/
def LEAF.SRV_EP.PERR : Fld := fld .ro 0x0B8 0 32 0

/-- Latest iq_ref, signed mA -/
def LEAF.SRV_IQ.IQREF : Fld := fld .ro 0x0BC 0 16 0

/-- Mean i_q over the last cycle, signed mA -/
def LEAF.AVG_I.AVG_IQ : Fld := fld .ro 0x0C0 16 16 0

/-- Mean i_d over the last cycle, signed mA -/
def LEAF.AVG_I.AVG_ID : Fld := fld .ro 0x0C0 0 16 0

/-- Mean v_q over the last cycle, signed 10 mV -/
def LEAF.AVG_V.AVG_VQ : Fld := fld .ro 0x0C4 16 16 0

/-- Mean ω_e over the last cycle, signed rad/s -/
def LEAF.AVG_V.AVG_WE : Fld := fld .ro 0x0C4 0 16 0

/-- Opening set speed limit, µm/s, 1,000 to 2,000,000 -/
def LEAF.SET0_V.VMAX : Fld := (fld .rwp 0x100 0 32 250000).rngU 1000 2000000

/-- Opening set deceleration, mm/s², 10 to 20,000 -/
def LEAF.SET0_A.DMAX : Fld := (fld .rwp 0x104 16 16 500).rngU 10 20000

/-- Opening set acceleration, mm/s², 10 to 20,000 -/
def LEAF.SET0_A.AMAX : Fld := (fld .rwp 0x104 0 16 500).rngU 10 20000

/-- Opening set jerk, mm/s³, 100 to 1,000,000 -/
def LEAF.SET0_J.JMAX : Fld := (fld .rwp 0x108 0 32 5000).rngU 100 1000000

/-- Closing set speed limit, µm/s, 1,000 to 2,000,000 -/
def LEAF.SET1_V.VMAX : Fld := (fld .rwp 0x110 0 32 250000).rngU 1000 2000000

/-- Closing set deceleration, mm/s², 10 to 20,000 -/
def LEAF.SET1_A.DMAX : Fld := (fld .rwp 0x114 16 16 500).rngU 10 20000

/-- Closing set acceleration, mm/s², 10 to 20,000 -/
def LEAF.SET1_A.AMAX : Fld := (fld .rwp 0x114 0 16 500).rngU 10 20000

/-- Closing set jerk, mm/s³, 100 to 1,000,000 -/
def LEAF.SET1_J.JMAX : Fld := (fld .rwp 0x118 0 32 5000).rngU 100 1000000

/-- Creep set speed limit, µm/s, 1,000 to 2,000,000 -/
def LEAF.SET2_V.VMAX : Fld := (fld .rwp 0x120 0 32 20000).rngU 1000 2000000

/-- Creep set deceleration, mm/s², 10 to 20,000 -/
def LEAF.SET2_A.DMAX : Fld := (fld .rwp 0x124 16 16 200).rngU 10 20000

/-- Creep set acceleration, mm/s², 10 to 20,000 -/
def LEAF.SET2_A.AMAX : Fld := (fld .rwp 0x124 0 16 200).rngU 10 20000

/-- Creep set jerk, mm/s³, 100 to 1,000,000 -/
def LEAF.SET2_J.JMAX : Fld := (fld .rwp 0x128 0 32 2000).rngU 100 1000000

/-- Quick-stop deceleration, mm/s², 100 to 20,000 -/
def LEAF.STOPR.QSTD : Fld := (fld .rwp 0x130 16 16 2500).rngU 100 20000

/-- Stop deceleration, mm/s², 100 to 20,000 -/
def LEAF.STOPR.STOPD : Fld := (fld .rwp 0x130 0 16 1000).rngU 100 20000

/-- Stop jerk, mm/s³, 1,000 to 1,000,000 -/
def LEAF.STOPJ.STOPJ : Fld := (fld .rwp 0x134 0 32 10000).rngU 1000 1000000

/-- Quick-stop jerk, mm/s³, 1,000 to 1,000,000 -/
def LEAF.QSTJ.QSTJ : Fld := (fld .rwp 0x138 0 32 50000).rngU 1000 1000000

/-- Opening energy limit, mJ, 100 to 65,535 -/
def LEAF.ECAP.EMAXO : Fld := (fld .rwp 0x13C 16 16 4000).rngU 100 65535

/-- Closing energy limit, mJ, 100 to 65,535 -/
def LEAF.ECAP.EMAXC : Fld := (fld .rwp 0x13C 0 16 4000).rngU 100 65535

/-- Effective moving mass, 10 g, 100 to 65,535 -/
def LEAF.MASS.MASS : Fld := (fld .rwp 0x140 0 16 10000).rngU 100 65535

/-- Approach speed limit, mm/s, 0 to 2,000; 0 acts as 1 -/
def LEAF.APPR.APPRV : Fld := (fld .rwp 0x144 16 16 0).rngU 0 2000

/-- Approach zone length, mm, 0 to 2,000; 0 disables (R125) -/
def LEAF.APPR.APPRL : Fld := (fld .rwp 0x144 0 16 0).rngU 0 2000

/-- Lowest target, signed µm -/
def LEAF.SOFTMIN.SOFTMIN : Fld := fld .rwp 0x148 0 32 0

/-- Highest target, signed µm; the learn run sets it from the stroke -/
def LEAF.SOFTMAX.SOFTMAX : Fld := fld .rwp 0x14C 0 32 0

/-- 0: active high; 1: active low -/
def LEAF.LIMCFG.LIMC_POL : Fld := fld .rwp 0x150 26 1 0

/-- Closed-end switch mode (R150) -/
def LEAF.LIMCFG.LIMC_MODE : Fld := fld .rwp 0x150 24 2 0

/-- Closed-end switch input -/
def LEAF.LIMCFG.LIMC_SRC : Fld := fld .rwp 0x150 16 8 255

/-- 0: active high; 1: active low -/
def LEAF.LIMCFG.LIMO_POL : Fld := fld .rwp 0x150 10 1 0

/-- Open-end switch mode (R150) -/
def LEAF.LIMCFG.LIMO_MODE : Fld := fld .rwp 0x150 8 2 0

/-- Open-end switch input -/
def LEAF.LIMCFG.LIMO_SRC : Fld := fld .rwp 0x150 0 8 255

/-- Standstill periods, 1 to 255 -/
def LEAF.STAND.STANDN : Fld := (fld .rwp 0x154 16 8 4).rngU 1 255

/-- Standstill speed, µm/s, 100 to 65,535 -/
def LEAF.STAND.STANDV : Fld := (fld .rwp 0x154 0 16 2000).rngU 100 65535

/-- Follower ratio, unsigned Q2.14, 4,096 to 32,768 -/
def LEAF.LIG.RATIO : Fld := (fld .rwp 0x158 16 16 16384).rngU 4096 32768

/-- 0: even leaf leads; 1: odd leaf leads -/
def LEAF.LIG.LEADER : Fld := fld .rwp 0x158 1 1 0

/-- 1: ligature requested (R140) -/
def LEAF.LIG.LEN : Fld := fld .rwp 0x158 0 1 0

/-- Consecutive periods, 1 to 255 -/
def LEAF.SYNC.SYNCN : Fld := (fld .rwp 0x15C 16 8 8).rngU 1 255

/-- Sync error bound, 10 µm, 10 to 65,535 -/
def LEAF.SYNC.SYNCTOL : Fld := (fld .rwp 0x15C 0 16 2000).rngU 10 65535

/-- Entry check bound, mm, 0 to 1,000 -/
def LEAF.SPQ_CFG.SPQSTEP : Fld := (fld .rwp 0x160 16 16 2).rngU 0 1000

/-- Tolerated empty boundaries, 0 to 8 -/
def LEAF.SPQ_CFG.UNDMAX : Fld := (fld .rwp 0x160 8 4 2).rngU 0 8

/-- 1: external set-point mode requested -/
def LEAF.SPQ_CFG.SPMODE : Fld := fld .rw 0x160 0 1 0

/-- Entry position, signed µm -/
def LEAF.SPQ_P.P : Fld := fld .wo 0x164 0 32 0

/-- Entry speed, signed µm/s -/
def LEAF.SPQ_V.V : Fld := fld .wo 0x168 0 32 0

/-- Entry acceleration, signed µm/s²; the write pushes the entry -/
def LEAF.SPQ_A.A : Fld := fld .wo 0x16C 0 32 0

/-- Target for the next GO, signed µm -/
def LEAF.MOVE_TGT.TGT : Fld := fld .rw 0x170 0 32 0

/-- 1: hard stop -/
def LEAF.MOVE_CMD.HSTOP : Fld := fld .wo 0x174 7 1 0

/-- 1: quick stop -/
def LEAF.MOVE_CMD.QSTOP : Fld := fld .wo 0x174 6 1 0

/-- 1: stop -/
def LEAF.MOVE_CMD.STOP : Fld := fld .wo 0x174 5 1 0

/-- 1: move to MOVE_TGT with set SET (R134) -/
def LEAF.MOVE_CMD.GO : Fld := fld .wo 0x174 4 1 0

/-- Profile set 0, 1 or 2; 3 is refused -/
def LEAF.MOVE_CMD.SET : Fld := fld .wo 0x174 0 2 0

/-- Closed-end switch active -/
def LEAF.PRF_STAT.LIMC : Fld := fld .ro 0x180 23 1 0

/-- Open-end switch active -/
def LEAF.PRF_STAT.LIMO : Fld := fld .ro 0x180 22 1 0

/-- Last move command refused (R134) -/
def LEAF.PRF_STAT.REFUSED : Fld := fld .ro 0x180 21 1 0

/-- Entries in the queue, 0 to 16 -/
def LEAF.PRF_STAT.SPQLVL : Fld := fld .ro 0x180 16 5 0

/-- Retarget with reversal in progress (R131) -/
def LEAF.PRF_STAT.OVS : Fld := fld .ro 0x180 15 1 0

/-- Path in force: 0 none, 1 stop, 2 quick stop, 3 hard stop -/
def LEAF.PRF_STAT.STOPK : Fld := fld .ro 0x180 13 2 0

/-- Ligature formed -/
def LEAF.PRF_STAT.LIGOK : Fld := fld .ro 0x180 12 1 0

/-- Ligature change waiting (R140) -/
def LEAF.PRF_STAT.LIGPEND : Fld := fld .ro 0x180 11 1 0

/-- Energy cap binding (R124) -/
def LEAF.PRF_STAT.KECAP : Fld := fld .ro 0x180 10 1 0

/-- Standstill (R146) -/
def LEAF.PRF_STAT.STANDSTILL : Fld := fld .ro 0x180 9 1 0

/-- Set-point speed not 0 -/
def LEAF.PRF_STAT.MOVING : Fld := fld .ro 0x180 8 1 0

/-- Generator phase 1 to 7; 0 when no planned move -/
def LEAF.PRF_STAT.PHASE : Fld := fld .ro 0x180 4 3 0

/-- Source (R119) -/
def LEAF.PRF_STAT.SRC : Fld := fld .ro 0x180 0 3 0

/-- Current set-point position, signed µm -/
def LEAF.SP_P.P : Fld := fld .ro 0x184 0 32 0

/-- Current set-point speed, signed µm/s -/
def LEAF.SP_V.V : Fld := fld .ro 0x188 0 32 0

/-- Current set-point acceleration, signed µm/s² -/
def LEAF.SP_A.A : Fld := fld .ro 0x18C 0 32 0

/-- Opening energy cap, µm/s (R123) -/
def LEAF.VCAPO.VCAP : Fld := fld .ro 0x190 0 32 0

/-- Closing energy cap, µm/s (R123) -/
def LEAF.VCAPC.VCAP : Fld := fld .ro 0x194 0 32 0

/-- Latest sync error, signed µm (R142) -/
def LEAF.LIG_ERR.ERR : Fld := fld .ro 0x198 0 32 0

/-- Position at last open-end trip, signed µm -/
def LEAF.LIMO_CAP.POS : Fld := fld .ro 0x19C 0 32 0

/-- Position at last closed-end trip, signed µm -/
def LEAF.LIMC_CAP.POS : Fld := fld .ro 0x1A0 0 32 0

/-- Servo boundaries to the end of the planned move (R128) -/
def LEAF.REMAIN.COUNT : Fld := fld .ro 0x1A4 0 32 0

/-- Recloses after reversal, 0 to 7 -/
def LEAF.SEQ_CFG.RECLN : Fld := (fld .rwp 0x200 8 4 3).rngU 0 7

/-- Step of the doorway: 0–3 K0–K3; 4–7 none -/
def LEAF.SEQ_CFG.STEPSEL : Fld := fld .rwp 0x200 4 3 7

/-- 0 car side A, 1 car side B (R260) -/
def LEAF.SEQ_CFG.CARSIDE : Fld := fld .rwp 0x200 2 1 0

/-- 1: reference at start-up (R235) -/
def LEAF.SEQ_CFG.AUTOREF : Fld := fld .rwp 0x200 1 1 0

/-- 1: paired doorway (R257); even pages only, 0 in odd pages -/
def LEAF.SEQ_CFG.DWMODE : Fld := fld .rwp 0x200 0 1 0

/-- 0 active high, 1 active low -/
def LEAF.SEQ_IN.ISOPOL : Fld := fld .rwp 0x204 26 1 0

/-- 0 active high, 1 active low -/
def LEAF.SEQ_IN.EMPOL : Fld := fld .rwp 0x204 25 1 0

/-- 0 active high, 1 active low -/
def LEAF.SEQ_IN.LKPOL : Fld := fld .rwp 0x204 24 1 0

/-- Isolation key input, LIMCFG encoding -/
def LEAF.SEQ_IN.ISOSW : Fld := fld .rwp 0x204 16 8 255

/-- Emergency release input -/
def LEAF.SEQ_IN.EMSW : Fld := fld .rwp 0x204 8 8 255

/-- Lock switch input, active when locked -/
def LEAF.SEQ_IN.LKSW : Fld := fld .rwp 0x204 0 8 255

/-- Reclose pause, 100 ms, 1 to 255 -/
def LEAF.SEQ_TIME.TRECL : Fld := (fld .rwp 0x208 24 8 20).rngU 1 255

/-- Closing warning, 100 ms, 0 to 255 -/
def LEAF.SEQ_TIME.TWARN : Fld := fld .rwp 0x208 16 8 10

/-- Lock wait, 10 ms, 1 to 255 -/
def LEAF.SEQ_TIME.TLOCK : Fld := (fld .rwp 0x208 8 8 30).rngU 1 255

/-- Unlock wait, 10 ms, 1 to 255 -/
def LEAF.SEQ_TIME.TUNLK : Fld := (fld .rwp 0x208 0 8 30).rngU 1 255

/-- Closing target, signed µm, −20,000 to 0 -/
def LEAF.SEQ_CLOSE.CLOSETGT : Fld := (fld .rwp 0x20C 0 32 4294965296).rngS (-20000) 0

/-- Closing press, mA, 0 to 32,767 -/
def LEAF.SEQ_CLOSEP.HOLDIQ : Fld := (fld .rwp 0x210 16 16 1500).rngU 0 32767

/-- Closed position bound, µm, 100 to 65,535 -/
def LEAF.SEQ_CLOSEP.CLOSEP : Fld := (fld .rwp 0x210 0 16 5000).rngU 100 65535

/-- Opening target, µm, 0 to 4,000,000; set by the learn run; the opening move's target is limited to the activ... -/
def LEAF.SEQ_OPEN.OPENP : Fld := (fld .rwp 0x214 0 32 0).rngU 0 4000000

/-- Step interlock point, µm, 0 to 4,000,000 -/
def LEAF.SEQ_STEP.STEPP : Fld := (fld .rwp 0x218 0 32 100000).rngU 0 4000000

/-- Learn search range, mm, 100 to 4,000 -/
def LEAF.SEQ_LRN.LRNMAX : Fld := (fld .rwp 0x21C 16 16 2500).rngU 100 4000

/-- Learn current limit, mA, 100 to 32,767 -/
def LEAF.SEQ_LRN.LRNIQ : Fld := (fld .rwp 0x21C 0 16 3000).rngU 100 32767

/-- Largest stroke, mm, 1 to 4,000 -/
def LEAF.SEQ_LRN2.STRMAX : Fld := (fld .rwp 0x220 16 16 2500).rngU 1 4000

/-- Smallest stroke, mm, 1 to 4,000 -/
def LEAF.SEQ_LRN2.STRMIN : Fld := (fld .rwp 0x220 0 16 200).rngU 1 4000

/-- Stall periods, 1 to 255 -/
def LEAF.SEQ_LRN3.LSTALLN : Fld := (fld .rwp 0x224 24 8 32).rngU 1 255

/-- Open margin, mm, 0 to 255 -/
def LEAF.SEQ_LRN3.OPENMRG : Fld := fld .rwp 0x224 16 8 10

/-- Stall speed, µm/s, 100 to 65,535 -/
def LEAF.SEQ_LRN3.LSTALLV : Fld := (fld .rwp 0x224 0 16 2000).rngU 100 65535

/-- Position given to the stall point, signed µm, −20,000 to 20,000 -/
def LEAF.SEQ_CREF.CREF : Fld := (fld .rwp 0x228 0 32 0).rngS (-20000) 20000

/-- 1: clear suspect marks (R238) -/
def LEAF.SEQ_CMD.CLRSUSP : Fld := fld .wo 0x240 5 1 0

/-- 1: acknowledge EMERG or FAULT -/
def LEAF.SEQ_CMD.ACK : Fld := fld .wo 0x240 4 1 0

/-- 1: reference run -/
def LEAF.SEQ_CMD.REFRUN : Fld := fld .wo 0x240 3 1 0

/-- 1: learn run -/
def LEAF.SEQ_CMD.LEARN : Fld := fld .wo 0x240 2 1 0

/-- 1: close -/
def LEAF.SEQ_CMD.CLOSE : Fld := fld .wo 0x240 1 1 0

/-- 1: open -/
def LEAF.SEQ_CMD.OPEN : Fld := fld .wo 0x240 0 1 0

/-- Last command refused (R240) -/
def LEAF.SEQ_STAT.REFUSED : Fld := fld .ro 0x244 28 1 0

/-- Recloses made (R250) -/
def LEAF.SEQ_STAT.RECLC : Fld := fld .ro 0x244 25 3 0

/-- 0 learn run, 1 reference run -/
def LEAF.SEQ_STAT.LKIND : Fld := fld .ro 0x244 24 1 0

/-- 0 none, 1–4 L0–L3 -/
def LEAF.SEQ_STAT.LPHASE : Fld := fld .ro 0x244 21 3 0

/-- Suspect: bit 18 closed, 19 open-end, 20 lock switch -/
def LEAF.SEQ_STAT.SUSP : Fld := fld .ro 0x244 18 3 0

/-- isolation active -/
def LEAF.SEQ_STAT.ISOIN : Fld := fld .ro 0x244 17 1 0

/-- emergency active -/
def LEAF.SEQ_STAT.EMIN : Fld := fld .ro 0x244 16 1 0

/-- closed present -/
def LEAF.SEQ_STAT.CLOSED : Fld := fld .ro 0x244 15 1 0

/-- locked present -/
def LEAF.SEQ_STAT.LOCKED : Fld := fld .ro 0x244 14 1 0

/-- Lock high side commanded on -/
def LEAF.SEQ_STAT.LKOUT : Fld := fld .ro 0x244 13 1 0

/-- Opening limited at STEPP (R245) -/
def LEAF.SEQ_STAT.WAITSTEP : Fld := fld .ro 0x244 12 1 0

/-- Closing start held by an edge source (R247) -/
def LEAF.SEQ_STAT.BLOCK : Fld := fld .ro 0x244 11 1 0

/-- Closing warning (R248) -/
def LEAF.SEQ_STAT.WARN : Fld := fld .ro 0x244 10 1 0

/-- released -/
def LEAF.SEQ_STAT.REL : Fld := fld .ro 0x244 9 1 0

/-- Train side: 0 left, 1 right -/
def LEAF.SEQ_STAT.TSIDE : Fld := fld .ro 0x244 8 1 0

/-- Doorway state code (R259) -/
def LEAF.SEQ_STAT.DWST : Fld := fld .ro 0x244 4 4 0

/-- Leaf state code (R231) -/
def LEAF.SEQ_STAT.STATE : Fld := fld .ro 0x244 0 4 0

/-- Reason for OBSTRUCTED: 0 none, 1 OBST, 2 RTSTOP, 3 RTMOVE, 4 PARTNER, 5 CLOSENF, 6 EMEXIT, 7 start-up -/
def LEAF.SEQ_RSN.RSN : Fld := fld .ro 0x248 0 8 0

/-- Last lock time, ms -/
def LEAF.SEQ_LKT.LOCKT : Fld := fld .ro 0x24C 16 16 0

/-- Last unlock time, ms -/
def LEAF.SEQ_LKT.UNLKT : Fld := fld .ro 0x24C 0 16 0

/-- Reversals since reset, saturating -/
def LEAF.SEQ_CNT.REVC : Fld := fld .ro 0x250 16 16 0

/-- RECLEX occurrences since reset, saturating -/
def LEAF.SEQ_CNT.RECLXC : Fld := fld .ro 0x250 0 16 0

/-- Fields of page LEAF, part 0. -/
def LEAF.fields0 : List Fld := [LEAF.DRV_CFG.DTCEN, LEAF.DRV_CFG.DECOUP, LEAF.DRV_CFG.DISMODE, LEAF.DRV_CFG.GAIN,
  LEAF.TIMING.PHOFS, LEAF.TIMING.DEADT, LEAF.SHUNT.RSH, LEAF.PROT.VDSBLK,
  LEAF.PROT.VDSTH, LEAF.PROT.OCTRIP, LEAF.VBRUV.UVREL, LEAF.VBRUV.UVTRIP,
  LEAF.VBROV.OVTRIP, LEAF.VBROV.REGEN, LEAF.KI_CUR.KI_I, LEAF.KI_CUR.KP_I,
  LEAF.MOTOR.PHRES, LEAF.MOTOR.PHIND, LEAF.TORQUE.POLEP, LEAF.TORQUE.KT,
  LEAF.ANGLE.ANGOFS, LEAF.ILIM.IDREF, LEAF.ILIM.IQMAX, LEAF.KPP.KPP,
  LEAF.KPV.KPV, LEAF.KIV.KIV, LEAF.KACC.KACC, LEAF.DTC.DTCZONE,
  LEAF.DTC.DTCV, LEAF.CHKTOL.VPHTOL, LEAF.CHKTOL.ISUMTOL, LEAF.SHDTOL.SHDTOL,
  LEAF.DRV_CTRL.CLRCNT, LEAF.DRV_CTRL.CLRLATCH, LEAF.DRV_CTRL.CAL, LEAF.DRV_TEST.IQTEST,
  LEAF.DRV_TEST.TMODE, LEAF.DRV_STAT.CALST, LEAF.DRV_STAT.BSTOK, LEAF.DRV_STAT.LATCH]

/-- Fields of page LEAF, part 1. -/
def LEAF.fields1 : List Fld := [LEAF.DRV_STAT.VGDOK, LEAF.DRV_STAT.PLTDIS, LEAF.DRV_STAT.BEN, LEAF.DRV_STAT.MODE,
  LEAF.DIAG.VLIM, LEAF.DIAG.STALE, LEAF.DIAG.OCCBC, LEAF.OFS_UV.OFSV,
  LEAF.OFS_UV.OFSU, LEAF.OFS_W.OFSW, LEAF.I_UV.IV, LEAF.I_UV.IU,
  LEAF.I_W.VBR, LEAF.I_W.IW, LEAF.IDQ.IQ, LEAF.IDQ.ID,
  LEAF.VDQ.VQ, LEAF.VDQ.VD, LEAF.VPH_UV.VPHV, LEAF.VPH_UV.VPHU,
  LEAF.VPH_W.VPHW, LEAF.SRV_EP.PERR, LEAF.SRV_IQ.IQREF, LEAF.AVG_I.AVG_IQ,
  LEAF.AVG_I.AVG_ID, LEAF.AVG_V.AVG_VQ, LEAF.AVG_V.AVG_WE, LEAF.SET0_V.VMAX,
  LEAF.SET0_A.DMAX, LEAF.SET0_A.AMAX, LEAF.SET0_J.JMAX, LEAF.SET1_V.VMAX,
  LEAF.SET1_A.DMAX, LEAF.SET1_A.AMAX, LEAF.SET1_J.JMAX, LEAF.SET2_V.VMAX,
  LEAF.SET2_A.DMAX, LEAF.SET2_A.AMAX, LEAF.SET2_J.JMAX, LEAF.STOPR.QSTD]

/-- Fields of page LEAF, part 2. -/
def LEAF.fields2 : List Fld := [LEAF.STOPR.STOPD, LEAF.STOPJ.STOPJ, LEAF.QSTJ.QSTJ, LEAF.ECAP.EMAXO,
  LEAF.ECAP.EMAXC, LEAF.MASS.MASS, LEAF.APPR.APPRV, LEAF.APPR.APPRL,
  LEAF.SOFTMIN.SOFTMIN, LEAF.SOFTMAX.SOFTMAX, LEAF.LIMCFG.LIMC_POL, LEAF.LIMCFG.LIMC_MODE,
  LEAF.LIMCFG.LIMC_SRC, LEAF.LIMCFG.LIMO_POL, LEAF.LIMCFG.LIMO_MODE, LEAF.LIMCFG.LIMO_SRC,
  LEAF.STAND.STANDN, LEAF.STAND.STANDV, LEAF.LIG.RATIO, LEAF.LIG.LEADER,
  LEAF.LIG.LEN, LEAF.SYNC.SYNCN, LEAF.SYNC.SYNCTOL, LEAF.SPQ_CFG.SPQSTEP,
  LEAF.SPQ_CFG.UNDMAX, LEAF.SPQ_CFG.SPMODE, LEAF.SPQ_P.P, LEAF.SPQ_V.V,
  LEAF.SPQ_A.A, LEAF.MOVE_TGT.TGT, LEAF.MOVE_CMD.HSTOP, LEAF.MOVE_CMD.QSTOP,
  LEAF.MOVE_CMD.STOP, LEAF.MOVE_CMD.GO, LEAF.MOVE_CMD.SET, LEAF.PRF_STAT.LIMC,
  LEAF.PRF_STAT.LIMO, LEAF.PRF_STAT.REFUSED, LEAF.PRF_STAT.SPQLVL, LEAF.PRF_STAT.OVS]

/-- Fields of page LEAF, part 3. -/
def LEAF.fields3 : List Fld := [LEAF.PRF_STAT.STOPK, LEAF.PRF_STAT.LIGOK, LEAF.PRF_STAT.LIGPEND, LEAF.PRF_STAT.KECAP,
  LEAF.PRF_STAT.STANDSTILL, LEAF.PRF_STAT.MOVING, LEAF.PRF_STAT.PHASE, LEAF.PRF_STAT.SRC,
  LEAF.SP_P.P, LEAF.SP_V.V, LEAF.SP_A.A, LEAF.VCAPO.VCAP,
  LEAF.VCAPC.VCAP, LEAF.LIG_ERR.ERR, LEAF.LIMO_CAP.POS, LEAF.LIMC_CAP.POS,
  LEAF.REMAIN.COUNT, LEAF.SEQ_CFG.RECLN, LEAF.SEQ_CFG.STEPSEL, LEAF.SEQ_CFG.CARSIDE,
  LEAF.SEQ_CFG.AUTOREF, LEAF.SEQ_CFG.DWMODE, LEAF.SEQ_IN.ISOPOL, LEAF.SEQ_IN.EMPOL,
  LEAF.SEQ_IN.LKPOL, LEAF.SEQ_IN.ISOSW, LEAF.SEQ_IN.EMSW, LEAF.SEQ_IN.LKSW,
  LEAF.SEQ_TIME.TRECL, LEAF.SEQ_TIME.TWARN, LEAF.SEQ_TIME.TLOCK, LEAF.SEQ_TIME.TUNLK,
  LEAF.SEQ_CLOSE.CLOSETGT, LEAF.SEQ_CLOSEP.HOLDIQ, LEAF.SEQ_CLOSEP.CLOSEP, LEAF.SEQ_OPEN.OPENP,
  LEAF.SEQ_STEP.STEPP, LEAF.SEQ_LRN.LRNMAX, LEAF.SEQ_LRN.LRNIQ, LEAF.SEQ_LRN2.STRMAX]

/-- Fields of page LEAF, part 4. -/
def LEAF.fields4 : List Fld := [LEAF.SEQ_LRN2.STRMIN, LEAF.SEQ_LRN3.LSTALLN, LEAF.SEQ_LRN3.OPENMRG, LEAF.SEQ_LRN3.LSTALLV,
  LEAF.SEQ_CREF.CREF, LEAF.SEQ_CMD.CLRSUSP, LEAF.SEQ_CMD.ACK, LEAF.SEQ_CMD.REFRUN,
  LEAF.SEQ_CMD.LEARN, LEAF.SEQ_CMD.CLOSE, LEAF.SEQ_CMD.OPEN, LEAF.SEQ_STAT.REFUSED,
  LEAF.SEQ_STAT.RECLC, LEAF.SEQ_STAT.LKIND, LEAF.SEQ_STAT.LPHASE, LEAF.SEQ_STAT.SUSP,
  LEAF.SEQ_STAT.ISOIN, LEAF.SEQ_STAT.EMIN, LEAF.SEQ_STAT.CLOSED, LEAF.SEQ_STAT.LOCKED,
  LEAF.SEQ_STAT.LKOUT, LEAF.SEQ_STAT.WAITSTEP, LEAF.SEQ_STAT.BLOCK, LEAF.SEQ_STAT.WARN,
  LEAF.SEQ_STAT.REL, LEAF.SEQ_STAT.TSIDE, LEAF.SEQ_STAT.DWST, LEAF.SEQ_STAT.STATE,
  LEAF.SEQ_RSN.RSN, LEAF.SEQ_LKT.LOCKT, LEAF.SEQ_LKT.UNLKT, LEAF.SEQ_CNT.REVC,
  LEAF.SEQ_CNT.RECLXC]

/-- Every stored field of page LEAF. -/
def LEAF.fields : List Fld := LEAF.fields0 ++ LEAF.fields1 ++ LEAF.fields2 ++ LEAF.fields3 ++ LEAF.fields4

end Sys2Proof.Machine
end

