-- ==== Sys2Proof/Machine/RegMapNet.lean ====
section
/-! DEFINITION. Register fields of the pages CAN, IMPO, ETH, PTP, TRDP, RING, from the register tables of the manual: offset, lowest bit,
width, access code (R12), reset value and stated range. A register whose content is computed from other state when it is
read has no field here. -/

namespace Sys2Proof.Machine

/-- CAN1: PDO objects enabled (R472); other pages: reads 0 -/
def CAN.CTRL.PDOEN : Fld := fld .rwp 0x040 7 1 0

/-- 1: leave a latched bus-off; returns to 0 after commit -/
def CAN.CTRL.BORST : Fld := fld .rwp 0x040 6 1 0

/-- 1: automatic recovery (R450) -/
def CAN.CTRL.BOAUTO : Fld := fld .rwp 0x040 5 1 1

/-- Protocol exception handling (R447) -/
def CAN.CTRL.PEX : Fld := fld .rwp 0x040 4 1 1

/-- 1: FD frames -/
def CAN.CTRL.FDEN : Fld := fld .rwp 0x040 3 1 1

/-- 0 off, 1 normal, 2 restricted, 3 bus monitoring, 4 time-triggered; 5–7 as 0 -/
def CAN.CTRL.MODE : Fld := fld .rwp 0x040 0 3 0

/-- Nominal prescaler, 1 to 32 -/
def CAN.NBT.NBRP : Fld := (fld .rwp 0x044 24 8 1).rngU 1 32

/-- Time quanta before sample point, excluding sync, 2 to 255 -/
def CAN.NBT.NTSEG1 : Fld := (fld .rwp 0x044 16 8 63).rngU 2 255

/-- Time quanta after sample point, 1 to 128 -/
def CAN.NBT.NTSEG2 : Fld := (fld .rwp 0x044 8 8 16).rngU 1 128

/-- Resynchronisation jump width, 1 to 128 -/
def CAN.NBT.NSJW : Fld := (fld .rwp 0x044 0 8 16).rngU 1 128

/-- Data prescaler, 1 to 32 -/
def CAN.DBT.DBRP : Fld := (fld .rwp 0x048 24 8 1).rngU 1 32

/-- 1 to 32 -/
def CAN.DBT.DTSEG1 : Fld := (fld .rwp 0x048 16 8 7).rngU 1 32

/-- 1 to 16 -/
def CAN.DBT.DTSEG2 : Fld := (fld .rwp 0x048 8 8 2).rngU 1 16

/-- 1 to 16 -/
def CAN.DBT.DSJW : Fld := (fld .rwp 0x048 0 8 2).rngU 1 16

/-- 1: compensation on -/
def CAN.TDC.TDCEN : Fld := fld .rwp 0x04C 15 1 1

/-- Filter window, CANCLK periods, 0 to 127 -/
def CAN.TDC.TDCF : Fld := fld .rwp 0x04C 8 7 0

/-- Offset, CANCLK periods, 0 to 127 -/
def CAN.TDC.TDCO : Fld := fld .rwp 0x04C 0 7 8

/-- Bus-offs within 60 s that latch, 1 to 15 -/
def CAN.BOCFG.BOMAX : Fld := (fld .rwp 0x050 16 4 3).rngU 1 15

/-- Delay before recovery, ms, 0 to 10,000 -/
def CAN.BOCFG.BOHOLD : Fld := (fld .rwp 0x050 0 16 100).rngU 0 10000

/-- Window, ms, 10 to 60,000 -/
def CAN.ICCFG.ICWIN : Fld := (fld .rwp 0x054 16 16 1000).rngU 10 60000

/-- Errors, 2 to 255 -/
def CAN.ICCFG.ICLIM : Fld := (fld .rwp 0x054 8 8 4).rngU 2 255

/-- Receive ring 0 to 31; 0xFF none -/
def CAN.RINGSEL.RXRING : Fld := fld .rwp 0x058 8 8 255

/-- Transmit ring 0 to 31; 0xFF none -/
def CAN.RINGSEL.TXRING : Fld := fld .rwp 0x058 0 8 255

/-- Measured transmitter delay, CANCLK periods -/
def CAN.PSR.TDCV : Fld := fld .ro 0x080 16 8 0

/-- 0 idle, 1 receiving, 2 transmitting -/
def CAN.PSR.ACT : Fld := fld .ro 0x080 14 2 0

/-- Bus-off latched -/
def CAN.PSR.BOLATCH : Fld := fld .ro 0x080 13 1 0

/-- Protocol exception since last read of PSR -/
def CAN.PSR.PXE : Fld := fld .ro 0x080 12 1 0

/-- Last data-phase error: 0 none, 1 stuff, 2 form, 3 acknowledge, 4 bit 1, 5 bit 0, 6 CRC -/
def CAN.PSR.DLEC : Fld := fld .ro 0x080 8 3 0

/-- Last arbitration-phase error, as DLEC -/
def CAN.PSR.LEC : Fld := fld .ro 0x080 4 3 0

/-- 0 off, 1 integrating, 2 error-active, 3 error-passive, 4 bus-off, 5 restricted, 6 monitoring -/
def CAN.PSR.STATE : Fld := fld .ro 0x080 0 3 0

/-- Receive error counter -/
def CAN.ECS.REC : Fld := fld .ro 0x084 8 8 0

/-- Transmit error counter -/
def CAN.ECS.TEC : Fld := fld .ro 0x084 0 8 0

/-- Frames sent, wrapping -/
def CAN.CNT0.TXOK : Fld := fld .ro 0x088 16 16 0

/-- Frames accepted, wrapping -/
def CAN.CNT0.RXOK : Fld := fld .ro 0x088 0 16 0

/-- Bus-offs, saturating -/
def CAN.CNT1.BOCNT : Fld := fld .ro 0x08C 24 8 0

/-- LOSTCAN and ERRCAN outcomes, saturating -/
def CAN.CNT1.LOST : Fld := fld .ro 0x08C 16 8 0

/-- Frames dropped (R451), saturating -/
def CAN.CNT1.RXDROP : Fld := fld .ro 0x08C 8 8 0

/-- Collision reports, saturating -/
def CAN.CNT1.IDCOL : Fld := fld .ro 0x08C 0 8 0

/-- Extended identifier -/
def CAN.ICLAST.XTD : Fld := fld .ro 0x090 29 1 0

/-- Identifier of the latest collision -/
def CAN.ICLAST.ID : Fld := fld .ro 0x090 0 29 0

/-- Fields of page CAN, part 0. -/
def CAN.fields0 : List Fld := [CAN.CTRL.PDOEN, CAN.CTRL.BORST, CAN.CTRL.BOAUTO, CAN.CTRL.PEX,
  CAN.CTRL.FDEN, CAN.CTRL.MODE, CAN.NBT.NBRP, CAN.NBT.NTSEG1,
  CAN.NBT.NTSEG2, CAN.NBT.NSJW, CAN.DBT.DBRP, CAN.DBT.DTSEG1,
  CAN.DBT.DTSEG2, CAN.DBT.DSJW, CAN.TDC.TDCEN, CAN.TDC.TDCF,
  CAN.TDC.TDCO, CAN.BOCFG.BOMAX, CAN.BOCFG.BOHOLD, CAN.ICCFG.ICWIN,
  CAN.ICCFG.ICLIM, CAN.RINGSEL.RXRING, CAN.RINGSEL.TXRING, CAN.PSR.TDCV,
  CAN.PSR.ACT, CAN.PSR.BOLATCH, CAN.PSR.PXE, CAN.PSR.DLEC,
  CAN.PSR.LEC, CAN.PSR.STATE, CAN.ECS.REC, CAN.ECS.TEC,
  CAN.CNT0.TXOK, CAN.CNT0.RXOK, CAN.CNT1.BOCNT, CAN.CNT1.LOST,
  CAN.CNT1.RXDROP, CAN.CNT1.IDCOL, CAN.ICLAST.XTD, CAN.ICLAST.ID]

/-- Every stored field of page CAN. -/
def CAN.fields : List Fld := CAN.fields0

/-- Rows, 1 to 64 -/
def IMPO.TT_CFG.NROW : Fld := (fld .rwp 0x040 24 8 1).rngU 1 64

/-- Slots, 2 to 32 -/
def IMPO.TT_CFG.NSLOT : Fld := (fld .rwp 0x040 16 8 16).rngU 2 32

/-- Slot length, µs, 20 to 1,000 -/
def IMPO.TT_CFG.SLOTW : Fld := (fld .rwp 0x040 0 16 100).rngU 20 1000

/-- 1: reference as FD frame without bit rate switch -/
def IMPO.REF_CFG.FD : Fld := fld .rwp 0x044 31 1 0

/-- 1: 29-bit identifier -/
def IMPO.REF_CFG.XTD : Fld := fld .rwp 0x044 29 1 0

/-- Reference identifier -/
def IMPO.REF_CFG.ID : Fld := fld .rwp 0x044 0 29 1

/-- Boundary to reference, µs, 5 to 255 -/
def IMPO.REF_T.REFDLY : Fld := (fld .rwp 0x048 8 8 10).rngU 5 255

/-- First-presence wait, 100 ms, 1 to 255 -/
def IMPO.REF_T.STNWAIT : Fld := (fld .rwp 0x048 0 8 20).rngU 1 255

/-- Missed references, saturating -/
def IMPO.REF_STAT.MISS : Fld := fld .ro 0x04C 16 16 0

/-- Time-triggered operation running -/
def IMPO.REF_STAT.TTRUN : Fld := fld .ro 0x04C 7 1 0

/-- Row of the current basic cycle -/
def IMPO.REF_STAT.ROW : Fld := fld .ro 0x04C 0 6 0

/-- Stations in DROPPED or REJOIN -/
def IMPO.LB_STAT.DROPPED : Fld := fld .ro 0x050 16 16 0

/-- Stations in PRESENT or REJOIN -/
def IMPO.LB_STAT.PRESENT : Fld := fld .ro 0x050 0 16 0

/-- Slot overruns, saturating -/
def IMPO.SLOT_CNT.OVR : Fld := fld .ro 0x054 16 16 0

/-- Skipped slots, saturating -/
def IMPO.SLOT_CNT.SKIP : Fld := fld .ro 0x054 0 16 0

/-- 1: station k enabled -/
def IMPO.STN.EN : Fld := (fld .rwp 0x080 31 1 0).arr 16 4

/-- Missed checks to dropout, 1 to 15 -/
def IMPO.STN.KMISS : Fld := ((fld .rwp 0x080 24 4 3).rngU 1 15).arr 16 4

/-- Status receive object of CAN0 -/
def IMPO.STN.RXOBJ : Fld := (fld .rwp 0x080 16 6 0).arr 16 4

/-- Output transmit object of CAN0; 63: none -/
def IMPO.STN.TXOBJ : Fld := (fld .rwp 0x080 8 6 63).arr 16 4

/-- Substitute input word (R469) -/
def IMPO.STN_SUB.SUB : Fld := (fld .rwp 0x0C0 0 32 0).arr 16 4

/-- Discarded outputs, saturating -/
def IMPO.STN_STAT.DISC : Fld := (fld .ro 0x100 24 8 0).arr 16 4

/-- Dropouts, saturating -/
def IMPO.STN_STAT.DROPS : Fld := (fld .ro 0x100 16 8 0).arr 16 4

/-- Consecutive missed checks -/
def IMPO.STN_STAT.MISS : Fld := (fld .ro 0x100 8 8 0).arr 16 4

/-- 0 OFF, 1 ABSENT, 2 PRESENT, 3 DROPPED, 4 REJOIN -/
def IMPO.STN_STAT.STATE : Fld := (fld .ro 0x100 0 3 0).arr 16 4

/-- Latest discarded output word -/
def IMPO.STN_DISC.WORD : Fld := (fld .ro 0x140 0 32 0).arr 16 4

/-- Imposition matrix, four cells per word -/
def IMPO.MATRIX.CELLS : Fld := (fld .rwp 0x800 0 32 0).arr 512 4

/-- Fields of page IMPO, part 0. -/
def IMPO.fields0 : List Fld := [IMPO.TT_CFG.NROW, IMPO.TT_CFG.NSLOT, IMPO.TT_CFG.SLOTW, IMPO.REF_CFG.FD,
  IMPO.REF_CFG.XTD, IMPO.REF_CFG.ID, IMPO.REF_T.REFDLY, IMPO.REF_T.STNWAIT,
  IMPO.REF_STAT.MISS, IMPO.REF_STAT.TTRUN, IMPO.REF_STAT.ROW, IMPO.LB_STAT.DROPPED,
  IMPO.LB_STAT.PRESENT, IMPO.SLOT_CNT.OVR, IMPO.SLOT_CNT.SKIP, IMPO.STN.EN,
  IMPO.STN.KMISS, IMPO.STN.RXOBJ, IMPO.STN.TXOBJ, IMPO.STN_SUB.SUB,
  IMPO.STN_STAT.DISC, IMPO.STN_STAT.DROPS, IMPO.STN_STAT.MISS, IMPO.STN_STAT.STATE,
  IMPO.STN_DISC.WORD, IMPO.MATRIX.CELLS]

/-- Every stored field of page IMPO. -/
def IMPO.fields : List Fld := IMPO.fields0

/-- 1 100 Mbit/s, 2 1000 Mbit/s; 0 and 3 as 2 -/
def ETH.PORTCFG.P2SPD : Fld := fld .rwp 0x040 6 2 2

/-- 1: P2 enabled -/
def ETH.PORTCFG.P2EN : Fld := fld .rwp 0x040 5 1 0

/-- 1: forwarding between P1 and P2 (R476) -/
def ETH.PORTCFG.FWD : Fld := fld .rwp 0x040 4 1 0

/-- As P2SPD -/
def ETH.PORTCFG.P1SPD : Fld := fld .rwp 0x040 2 2 2

/-- 1: P1 enabled -/
def ETH.PORTCFG.P1EN : Fld := fld .rwp 0x040 1 1 0

/-- MAC bytes 3 to 0; byte 0 in bits 7:0 -/
def ETH.MAC_LO.MAC : Fld := fld .rwp 0x044 0 32 0

/-- MAC bytes 5 and 4 -/
def ETH.MAC_HI.MAC : Fld := fld .rwp 0x048 0 16 0

/-- IPv4 address; first octet in bits 31:24 -/
def ETH.IPADDR.IP : Fld := fld .rwp 0x04C 0 32 0

/-- P2 port VID, 1 to 4,094 -/
def ETH.PVID.P2PVID : Fld := (fld .rwp 0x050 16 12 1).rngU 1 4094

/-- P1 port VID, 1 to 4,094 -/
def ETH.PVID.P1PVID : Fld := (fld .rwp 0x050 0 12 1).rngU 1 4094

/-- Bits 2p+1:2p: queue of PCP p -/
def ETH.QMAP.QMAP : Fld := fld .rwp 0x054 0 16 64080

/-- Receive ring; 0xFF none -/
def ETH.RINGSEL.RXRING : Fld := fld .rwp 0x058 8 8 255

/-- Transmit ring; 0xFF none -/
def ETH.RINGSEL.TXRING : Fld := fld .rwp 0x058 0 8 255

/-- 1: entry in use -/
def ETH.VLAN.EN : Fld := (fld .rwp 0x060 31 1 0).arr 16 4

/-- Untagged egress: bit 22 P2, 21 P1, 20 P0 -/
def ETH.VLAN.UNTAG : Fld := (fld .rwp 0x060 20 3 0).arr 16 4

/-- Members: bit 18 P2, 17 P1, 16 P0 -/
def ETH.VLAN.MEMBER : Fld := (fld .rwp 0x060 16 3 0).arr 16 4

/-- VLAN identifier -/
def ETH.VLAN.VID : Fld := (fld .rwp 0x060 0 12 0).arr 16 4

/-- IPv4 multicast group; 0: unused -/
def ETH.MCAST.GROUP : Fld := (fld .rwp 0x0A0 0 32 0).arr 32 4

/-- Speed mismatch (R475) -/
def ETH.PORTSTAT.P2MIS : Fld := fld .ro 0x180 7 1 0

/-- In-band speed: 0 none, 1 100 Mbit/s, 2 1000 Mbit/s -/
def ETH.PORTSTAT.P2SPD : Fld := fld .ro 0x180 5 2 0

/-- Link up -/
def ETH.PORTSTAT.P2LINK : Fld := fld .ro 0x180 4 1 0

/-- As bits 7:5, for P1 -/
def ETH.PORTSTAT.P1MIS : Fld := fld .ro 0x180 3 1 0

/-- As bits 7:5, for P1 -/
def ETH.PORTSTAT.P1SPD : Fld := fld .ro 0x180 1 2 0

/-- Link up -/
def ETH.PORTSTAT.P1LINK : Fld := fld .ro 0x180 0 1 0

/-- Frames received, wrapping -/
def ETH.CNT_P1.RXOK : Fld := fld .ro 0x184 16 16 0

/-- Frames sent, wrapping -/
def ETH.CNT_P1.TXOK : Fld := fld .ro 0x184 0 16 0

/-- Frames received, wrapping -/
def ETH.CNT_P2.RXOK : Fld := fld .ro 0x188 16 16 0

/-- Frames sent, wrapping -/
def ETH.CNT_P2.TXOK : Fld := fld .ro 0x188 0 16 0

/-- Queue drops, saturating -/
def ETH.DROPS.QDROP : Fld := fld .ro 0x18C 24 8 0

/-- VLAN drops, saturating -/
def ETH.DROPS.FILT : Fld := fld .ro 0x18C 16 8 0

/-- Frames with errors, saturating -/
def ETH.DROPS.RXERR : Fld := fld .ro 0x18C 8 8 0

/-- P0 ring drops, saturating -/
def ETH.DROPS.RING : Fld := fld .ro 0x18C 0 8 0

/-- Fields of page ETH, part 0. -/
def ETH.fields0 : List Fld := [ETH.PORTCFG.P2SPD, ETH.PORTCFG.P2EN, ETH.PORTCFG.FWD, ETH.PORTCFG.P1SPD,
  ETH.PORTCFG.P1EN, ETH.MAC_LO.MAC, ETH.MAC_HI.MAC, ETH.IPADDR.IP,
  ETH.PVID.P2PVID, ETH.PVID.P1PVID, ETH.QMAP.QMAP, ETH.RINGSEL.RXRING,
  ETH.RINGSEL.TXRING, ETH.VLAN.EN, ETH.VLAN.UNTAG, ETH.VLAN.MEMBER,
  ETH.VLAN.VID, ETH.MCAST.GROUP, ETH.PORTSTAT.P2MIS, ETH.PORTSTAT.P2SPD,
  ETH.PORTSTAT.P2LINK, ETH.PORTSTAT.P1MIS, ETH.PORTSTAT.P1SPD, ETH.PORTSTAT.P1LINK,
  ETH.CNT_P1.RXOK, ETH.CNT_P1.TXOK, ETH.CNT_P2.RXOK, ETH.CNT_P2.TXOK,
  ETH.DROPS.QDROP, ETH.DROPS.FILT, ETH.DROPS.RXERR, ETH.DROPS.RING]

/-- Every stored field of page ETH. -/
def ETH.fields : List Fld := ETH.fields0

/-- domainNumber -/
def PTP.PTP_CFG.DOMAIN : Fld := fld .rwp 0x040 24 8 0

/-- 1: transparent clock P1–P2 -/
def PTP.PTP_CFG.TC : Fld := fld .rwp 0x040 17 1 1

/-- 0 request-response, 1 peer-to-peer -/
def PTP.PTP_CFG.DELAY : Fld := fld .rwp 0x040 16 1 0

/-- Slave candidates: 1 P1, 2 P2, 3 both; 0 as 3 -/
def PTP.PTP_CFG.PORTSEL : Fld := fld .rwp 0x040 8 2 3

/-- Holdover report time, s, 1 to 65,535 -/
def PTP.PTP_LIM.HOLDT : Fld := (fld .rwp 0x044 16 16 60).rngU 1 65535

/-- Step threshold, µs, 1 to 65,535 -/
def PTP.PTP_LIM.STEPTH : Fld := (fld .rwp 0x044 0 16 1000).rngU 1 65535

/-- Slave port: 0 none, 1 P1, 2 P2 -/
def PTP.PTP_STAT.PORT : Fld := fld .ro 0x080 6 2 0

/-- 0 INITIALIZING, 1 LISTENING, 2 UNCALIBRATED, 3 SLAVE, 4 HOLDOVER, 5 FAULTY -/
def PTP.PTP_STAT.STATE : Fld := fld .ro 0x080 0 3 0

/-- Latest offset, signed ns, saturating -/
def PTP.OFFSET.NS : Fld := fld .ro 0x084 0 32 0

/-- Mean path delay, ns -/
def PTP.MPD.NS : Fld := fld .ro 0x088 0 32 0

/-- Rate trim in force, signed ppb -/
def PTP.RATE.PPB : Fld := fld .ro 0x08C 0 32 0

/-- Grandmaster clockIdentity bits 31:0 -/
def PTP.GM_LO.ID : Fld := fld .ro 0x090 0 32 0

/-- clockIdentity bits 63:32 -/
def PTP.GM_HI.ID : Fld := fld .ro 0x094 0 32 0

/-- Syncs processed, wrapping -/
def PTP.SYNCCNT.COUNT : Fld := fld .ro 0x098 0 32 0

/-- Fields of page PTP, part 0. -/
def PTP.fields0 : List Fld := [PTP.PTP_CFG.DOMAIN, PTP.PTP_CFG.TC, PTP.PTP_CFG.DELAY, PTP.PTP_CFG.PORTSEL,
  PTP.PTP_LIM.HOLDT, PTP.PTP_LIM.STEPTH, PTP.PTP_STAT.PORT, PTP.PTP_STAT.STATE,
  PTP.OFFSET.NS, PTP.MPD.NS, PTP.RATE.PPB, PTP.GM_LO.ID,
  PTP.GM_HI.ID, PTP.SYNCCNT.COUNT]

/-- Every stored field of page PTP. -/
def PTP.fields : List Fld := PTP.fields0

/-- Boundary to first telegram, µs, 5 to 255 (R483) -/
def TRDP.TRDP_CFG.TXDLY : Fld := (fld .rwp 0x040 24 8 20).rngU 5 255

/-- IPv4 TTL, 1 to 255 -/
def TRDP.TRDP_CFG.TTL : Fld := (fld .rwp 0x040 16 8 64).rngU 1 255

/-- etbTopoCnt (R487) -/
def TRDP.TOPO_ETB.CNT : Fld := fld .rwp 0x044 0 32 0

/-- opTrnTopoCnt (R487) -/
def TRDP.TOPO_OP.CNT : Fld := fld .rwp 0x048 0 32 0

/-- 1: orientation from telegram (R490) -/
def TRDP.ORI.EN : Fld := fld .rwp 0x04C 31 1 0

/-- Orientation until the first delivery -/
def TRDP.ORI.INIT : Fld := fld .rwp 0x04C 30 1 0

/-- Telegrams to deliver, 1 to 15 -/
def TRDP.ORI.STAB : Fld := (fld .rwp 0x04C 26 4 2).rngU 1 15

/-- Bit in the byte -/
def TRDP.ORI.BIT : Fld := fld .rwp 0x04C 23 3 0

/-- Byte in the payload, 0 to 1,431 -/
def TRDP.ORI.BYTE : Fld := (fld .rwp 0x04C 12 11 0).rngU 0 1431

/-- Subscriber, 0 to 511 -/
def TRDP.ORI.IDX : Fld := fld .rwp 0x04C 0 9 0

/-- Valid subscribers -/
def TRDP.TRDP_STAT.SUBVALID : Fld := fld .ro 0x080 13 10 0

/-- R490 -/
def TRDP.TRDP_STAT.ORIOK : Fld := fld .ro 0x080 10 1 0

/-- Delivered orientation -/
def TRDP.TRDP_STAT.ORI : Fld := fld .ro 0x080 9 1 0

/-- Enabled publishers -/
def TRDP.TRDP_STAT.PUBACT : Fld := fld .ro 0x080 0 9 0

/-- Telegrams accepted, wrapping -/
def TRDP.RXCNT.COUNT : Fld := fld .ro 0x084 0 32 0

/-- Counter mismatch, saturating -/
def TRDP.RXDROP.TOPO : Fld := fld .ro 0x088 24 8 0

/-- Header check failed, saturating -/
def TRDP.RXDROP.FCS : Fld := fld .ro 0x088 16 8 0

/-- Length mismatch, saturating -/
def TRDP.RXDROP.LEN : Fld := fld .ro 0x088 8 8 0

/-- Duplicates, saturating -/
def TRDP.RXDROP.DUP : Fld := fld .ro 0x088 0 8 0

/-- Telegrams sent, wrapping -/
def TRDP.TXCNT.COUNT : Fld := fld .ro 0x08C 0 32 0

/-- Skipped telegrams, saturating -/
def TRDP.TXLATE.COUNT : Fld := fld .ro 0x090 0 16 0

/-- Subscriber timeouts, saturating -/
def TRDP.TMOCNT.COUNT : Fld := fld .ro 0x094 0 16 0

/-- Fields of page TRDP, part 0. -/
def TRDP.fields0 : List Fld := [TRDP.TRDP_CFG.TXDLY, TRDP.TRDP_CFG.TTL, TRDP.TOPO_ETB.CNT, TRDP.TOPO_OP.CNT,
  TRDP.ORI.EN, TRDP.ORI.INIT, TRDP.ORI.STAB, TRDP.ORI.BIT,
  TRDP.ORI.BYTE, TRDP.ORI.IDX, TRDP.TRDP_STAT.SUBVALID, TRDP.TRDP_STAT.ORIOK,
  TRDP.TRDP_STAT.ORI, TRDP.TRDP_STAT.PUBACT, TRDP.RXCNT.COUNT, TRDP.RXDROP.TOPO,
  TRDP.RXDROP.FCS, TRDP.RXDROP.LEN, TRDP.RXDROP.DUP, TRDP.TXCNT.COUNT,
  TRDP.TXLATE.COUNT, TRDP.TMOCNT.COUNT]

/-- Every stored field of page TRDP. -/
def TRDP.fields : List Fld := TRDP.fields0

/-- Packet-buffer offset, multiple of 64 -/
def RING.RING_BASE.BASE : Fld := (fld .rwp 0x040 0 20 0).arr 32 8

/-- 1: ring enabled -/
def RING.RING_CFG.EN : Fld := (fld .rwp 0x044 31 1 0).arr 32 8

/-- Owner: 0 data plane, 1 management plane (R18) -/
def RING.RING_CFG.OWN : Fld := (fld .rwp 0x044 30 1 0).arr 32 8

/-- 0: unit produces; 1: owner produces (R493) -/
def RING.RING_CFG.DIR : Fld := (fld .rwp 0x044 29 1 0).arr 32 8

/-- Entry size, 64 bytes, 0 to 31; 0 acts as 32 -/
def RING.RING_CFG.SIZE : Fld := (fld .rwp 0x044 16 5 1).arr 32 8

/-- Entries, 2 to 1,024 -/
def RING.RING_CFG.ENTRIES : Fld := ((fld .rwp 0x044 0 11 2).rngU 2 1024).arr 32 8

/-- Bit k: ring k active -/
def RING.RING_STAT.ACT : Fld := fld .ro 0x140 0 32 0

/-- Bit k: ring k refused (R494) -/
def RING.RING_BAD.BAD : Fld := fld .ro 0x144 0 32 0

/-- Fields of page RING, part 0. -/
def RING.fields0 : List Fld := [RING.RING_BASE.BASE, RING.RING_CFG.EN, RING.RING_CFG.OWN, RING.RING_CFG.DIR,
  RING.RING_CFG.SIZE, RING.RING_CFG.ENTRIES, RING.RING_STAT.ACT, RING.RING_BAD.BAD]

/-- Every stored field of page RING. -/
def RING.fields : List Fld := RING.fields0

end Sys2Proof.Machine
end

