-- ==== Sys2Proof/Machine/RegMapPlant.lean ====
section
/-! DEFINITION. Register fields of the pages FRM, FIO, LSW, LIMP, REC, from the register tables of the manual: offset, lowest bit,
width, access code (R12), reset value and stated range. A register whose content is computed from other state when it is
read has no field here. -/

namespace Sys2Proof.Machine

/-- Program cycle, servo periods, 4 to 64 (R36) -/
def FRM.CYCLE_N.N : Fld := (fld .rwp 0x040 0 7 8).rngU 4 64

/-- Watchdog grace, servo periods, 0 to 15 (R400) -/
def FRM.TASK_CFG.GRACE : Fld := fld .rwp 0x044 24 4 2

/-- Motion-sync budget, µs, 10 to 150 -/
def FRM.TASK_CFG.MSBUD : Fld := (fld .rwp 0x044 16 8 40).rngU 10 150

/-- 1: motion-sync task runs -/
def FRM.TASK_CFG.MSEN : Fld := fld .rwp 0x044 0 1 0

/-- Largest tag-copy time, µs, 10 to 200 -/
def FRM.OLC_CFG.COPYMAX : Fld := (fld .rwp 0x048 0 8 100).rngU 10 200

/-- 1: cancel (R410) -/
def FRM.OLC_CTRL.CANCEL : Fld := fld .rwp 0x04C 3 1 0

/-- 1: switch (R409) -/
def FRM.OLC_CTRL.SWITCH : Fld := fld .rwp 0x04C 2 1 0

/-- 1: prepare (R407) -/
def FRM.OLC_CTRL.PREP : Fld := fld .rwp 0x04C 1 1 0

/-- Forme-store half of the new forme -/
def FRM.OLC_CTRL.HALF : Fld := fld .rwp 0x04C 0 1 0

/-- 1: maintenance mode requested (R411) -/
def FRM.FORCE_CTRL.MAINTREQ : Fld := fld .rwp 0x050 1 1 0

/-- 1: forces enabled -/
def FRM.FORCE_CTRL.FEN : Fld := fld .rwp 0x050 0 1 0

/-- Maintenance mode in force -/
def FRM.FORME_STAT.MAINT : Fld := fld .ro 0x060 8 1 0

/-- Running forme is the factory forme -/
def FRM.FORME_STAT.FACTORY : Fld := fld .ro 0x060 7 1 0

/-- Half of the running forme -/
def FRM.FORME_STAT.HALF : Fld := fld .ro 0x060 5 1 0

/-- Instance region in use -/
def FRM.FORME_STAT.REGION : Fld := fld .ro 0x060 4 1 0

/-- 0 NONE, 1 INIT, 2 RUN, 3 STOPPED; 4–15 reserved -/
def FRM.FORME_STAT.STATE : Fld := fld .ro 0x060 0 4 0

/-- FORMEID of the running forme -/
def FRM.FORME_ID.ID : Fld := fld .ro 0x064 0 32 0

/-- BUILD of the running forme -/
def FRM.FORME_BUILD.BUILD : Fld := fld .ro 0x068 0 32 0

/-- CRC-32C of the image map in force -/
def FRM.MAPHASH.HASH : Fld := fld .ro 0x06C 0 32 0

/-- Longest since reset, µs -/
def FRM.MAIN_T.MAXT : Fld := fld .ro 0x070 16 16 0

/-- Latest time from the start of the error or main task to the end of the main task, µs -/
def FRM.MAIN_T.LASTT : Fld := fld .ro 0x070 0 16 0

/-- Longest motion-sync task, 0.1 µs -/
def FRM.MSYNC_T.MAXT : Fld := fld .ro 0x074 16 16 0

/-- Latest motion-sync task, 0.1 µs -/
def FRM.MSYNC_T.LASTT : Fld := fld .ro 0x074 0 16 0

/-- Smallest slack since reset, µs -/
def FRM.SLACK.MINSLACK : Fld := fld .ro 0x078 16 16 65535

/-- End of the latest main task to the next boundary, µs; 0 for a late task -/
def FRM.SLACK.SLACK : Fld := fld .ro 0x078 0 16 0

/-- LATE faults, saturating -/
def FRM.TASK_CNT.LATE : Fld := fld .ro 0x07C 24 8 0

/-- Traps, saturating -/
def FRM.TASK_CNT.TRAPS : Fld := fld .ro 0x07C 16 8 0

/-- Motion-sync overruns, saturating -/
def FRM.TASK_CNT.MSOVR : Fld := fld .ro 0x07C 8 8 0

/-- Error-task runs, saturating -/
def FRM.TASK_CNT.ERRRUN : Fld := fld .ro 0x07C 0 8 0

/-- Stations reported dropped -/
def FRM.ERRINFO.DROPMASK : Fld := fld .ro 0x080 16 16 0

/-- The previous error task trapped -/
def FRM.ERRINFO.ERRTRAP : Fld := fld .ro 0x080 4 1 0

/-- Motion-sync overrun -/
def FRM.ERRINFO.MSOVR : Fld := fld .ro 0x080 3 1 0

/-- Late main task -/
def FRM.ERRINFO.LATE : Fld := fld .ro 0x080 2 1 0

/-- Trap -/
def FRM.ERRINFO.TRAP : Fld := fld .ro 0x080 1 1 0

/-- Station dropout -/
def FRM.ERRINFO.DROP : Fld := fld .ro 0x080 0 1 0

/-- 1 main, 2 motion-sync, 3 error, 4 init -/
def FRM.TRAPINFO.TASK : Fld := fld .ro 0x084 28 4 0

/-- Trap code; 0 after an MSOVR abort (R396) -/
def FRM.TRAPINFO.CODE : Fld := fld .ro 0x084 24 4 0

/-- Code word index within the half -/
def FRM.TRAPINFO.WORD : Fld := fld .ro 0x084 0 20 0

/-- 1: clear TASK_CNT, MAIN_T.MAXT and MSYNC_T.MAXT to 0, and SLACK.MINSLACK to 0xFFFF -/
def FRM.TASK_CTRL.CLRCNT : Fld := fld .wo 0x088 0 1 0

/-- Switch waits (R409) -/
def FRM.OLC_STAT.WAIT : Fld := fld .ro 0x090 11 1 0

/-- Failure code -/
def FRM.OLC_STAT.FAILC : Fld := fld .ro 0x090 4 4 0

/-- 0 IDLE, 1 PREP, 2 READY, 3 FAIL, 4 SWITCHED -/
def FRM.OLC_STAT.STATE : Fld := fld .ro 0x090 0 4 0

/-- Retyped tags (R408) -/
def FRM.OLC_TAGS.RETYPED : Fld := fld .ro 0x094 16 16 0

/-- Carried tags -/
def FRM.OLC_TAGS.CARRIED : Fld := fld .ro 0x094 0 16 0

/-- Copy time, µs -/
def FRM.OLC_DROP.COPYT : Fld := fld .ro 0x098 16 16 0

/-- Dropped tags -/
def FRM.OLC_DROP.DROPPED : Fld := fld .ro 0x098 0 16 0

/-- Bits 2k+1:2k: entry k, 0 idle, 1 active, 2 refused, 3 dropped -/
def FRM.FORCE_ST0.ST : Fld := fld .ro 0x0A0 0 32 0

/-- Entries 16 to 31, as FORCE_ST0 -/
def FRM.FORCE_ST1.ST : Fld := fld .ro 0x0A4 0 32 0

/-- Tag of entry k; 0: entry empty -/
def FRM.FORCE_TAG.TAG : Fld := (fld .rwp 0x100 0 32 0).arr 32 4

/-- Force value, bits 31:0 -/
def FRM.FORCE_VAL_LO.VAL : Fld := (fld .rwp 0x200 0 32 0).arr 32 8

/-- Force value, bits 63:32 -/
def FRM.FORCE_VAL_HI.VAL : Fld := (fld .rwp 0x204 0 32 0).arr 32 8

/-- Fields of page FRM, part 0. -/
def FRM.fields0 : List Fld := [FRM.CYCLE_N.N, FRM.TASK_CFG.GRACE, FRM.TASK_CFG.MSBUD, FRM.TASK_CFG.MSEN,
  FRM.OLC_CFG.COPYMAX, FRM.OLC_CTRL.CANCEL, FRM.OLC_CTRL.SWITCH, FRM.OLC_CTRL.PREP,
  FRM.OLC_CTRL.HALF, FRM.FORCE_CTRL.MAINTREQ, FRM.FORCE_CTRL.FEN, FRM.FORME_STAT.MAINT,
  FRM.FORME_STAT.FACTORY, FRM.FORME_STAT.HALF, FRM.FORME_STAT.REGION, FRM.FORME_STAT.STATE,
  FRM.FORME_ID.ID, FRM.FORME_BUILD.BUILD, FRM.MAPHASH.HASH, FRM.MAIN_T.MAXT,
  FRM.MAIN_T.LASTT, FRM.MSYNC_T.MAXT, FRM.MSYNC_T.LASTT, FRM.SLACK.MINSLACK,
  FRM.SLACK.SLACK, FRM.TASK_CNT.LATE, FRM.TASK_CNT.TRAPS, FRM.TASK_CNT.MSOVR,
  FRM.TASK_CNT.ERRRUN, FRM.ERRINFO.DROPMASK, FRM.ERRINFO.ERRTRAP, FRM.ERRINFO.MSOVR,
  FRM.ERRINFO.LATE, FRM.ERRINFO.TRAP, FRM.ERRINFO.DROP, FRM.TRAPINFO.TASK,
  FRM.TRAPINFO.CODE, FRM.TRAPINFO.WORD, FRM.TASK_CTRL.CLRCNT, FRM.OLC_STAT.WAIT]

/-- Fields of page FRM, part 1. -/
def FRM.fields1 : List Fld := [FRM.OLC_STAT.FAILC, FRM.OLC_STAT.STATE, FRM.OLC_TAGS.RETYPED, FRM.OLC_TAGS.CARRIED,
  FRM.OLC_DROP.COPYT, FRM.OLC_DROP.DROPPED, FRM.FORCE_ST0.ST, FRM.FORCE_ST1.ST,
  FRM.FORCE_TAG.TAG, FRM.FORCE_VAL_LO.VAL, FRM.FORCE_VAL_HI.VAL]

/-- Every stored field of page FRM. -/
def FRM.fields : List Fld := FRM.fields0 ++ FRM.fields1

/-- No good frame for 8 PWM periods -/
def FIO.LINK.LOST : Fld := fld .ro 0x040 31 1 0

/-- Die in standalone safe state -/
def FIO.LINK.STANDALONE : Fld := fld .ro 0x040 30 1 0

/-- LIMP land active -/
def FIO.LINK.LIMPIN : Fld := fld .ro 0x040 29 1 0

/-- Sequence errors (R15), saturating -/
def FIO.LINK.SEQERR : Fld := fld .ro 0x040 8 8 0

/-- CRC errors (R15), saturating -/
def FIO.LINK.CRCERR : Fld := fld .ro 0x040 0 8 0

/-- VFLD at this die, 10 mV -/
def FIO.DIE.VFLD : Fld := fld .ro 0x044 16 16 0

/-- Die junction temperature, signed 0.1 °C -/
def FIO.DIE.TJ : Fld := fld .ro 0x044 0 16 0

/-- Shedding step, 10 ms, 1 to 255 -/
def FIO.VFLDCFG.SHEDT : Fld := (fld .rwp 0x048 24 8 10).rngU 1 255

/-- Warning level, 100 mV, 140 to 240 -/
def FIO.VFLDCFG.VWARN : Fld := (fld .rwp 0x048 16 8 180).rngU 140 240

/-- Low level, 100 mV, 130 to 200 -/
def FIO.VFLDCFG.VLOW : Fld := (fld .rwp 0x048 8 8 160).rngU 130 200

/-- Power-fail level, 100 mV, 120 to 170 -/
def FIO.VFLDCFG.VPF : Fld := (fld .rwp 0x048 0 8 140).rngU 120 170

/-- Lower VFLD of the present dies, 10 mV -/
def FIO.VFLD_STAT.VMIN : Fld := fld .ro 0x04C 16 16 0

/-- Shedding level (R439) -/
def FIO.VFLD_STAT.SHEDLVL : Fld := fld .ro 0x04C 4 3 0

/-- Power-fail level -/
def FIO.VFLD_STAT.PF : Fld := fld .ro 0x04C 2 1 0

/-- Low level -/
def FIO.VFLD_STAT.LOW : Fld := fld .ro 0x04C 1 1 0

/-- Warning level -/
def FIO.VFLD_STAT.WARN : Fld := fld .ro 0x04C 0 1 0

/-- Debounce of local input 2k + 1, µs, 0 to 65,535 -/
def FIO.DEB.HI : Fld := (fld .rwp 0x050 16 16 1000).arr 8 4

/-- Debounce of local input 2k, µs -/
def FIO.DEB.LO : Fld := (fld .rwp 0x050 0 16 1000).arr 8 4

/-- Debounced local inputs 31 to 0 -/
def FIO.IN_NOW.IN : Fld := fld .ro 0x080 0 32 0

/-- IN_NOW at the latest input freeze -/
def FIO.IN_FRZ.IN : Fld := fld .ro 0x084 0 32 0

/-- Latest samples, undebounced -/
def FIO.IN_RAW.IN : Fld := fld .ro 0x088 0 32 0

/-- Nibble c: bits 1:0 GRP, bits 3:2 SAFE -/
def FIO.DO_CFG.CFG : Fld := fld .rwp 0x08C 0 32 0

/-- Bits 2c+1:2c: priority 0 to 3 -/
def FIO.DO_SHED.SHED : Fld := fld .rwp 0x090 0 16 0

/-- 1: on at the next commit (R421) -/
def FIO.DO_CMD.ON : Fld := fld .rw 0x094 0 8 0

/-- 1: clear the latch (R426) -/
def FIO.DO_CLR.CLR : Fld := fld .wo 0x098 0 8 0

/-- Shed -/
def FIO.DO_OUT.SHED : Fld := fld .ro 0x09C 8 8 0

/-- Output on -/
def FIO.DO_OUT.ON : Fld := fld .ro 0x09C 0 8 0

/-- Open load -/
def FIO.DO_FLT.OPEN : Fld := fld .ro 0x0A0 24 8 0

/-- DORB or DOEXT present -/
def FIO.DO_FLT.RB : Fld := fld .ro 0x0A0 16 8 0

/-- Thermal latch -/
def FIO.DO_FLT.TH : Fld := fld .ro 0x0A0 8 8 0

/-- Overcurrent latch -/
def FIO.DO_FLT.OC : Fld := fld .ro 0x0A0 0 8 0

/-- In dark pulse, local TPO 3 to 0 -/
def FIO.TPO_STAT.DARK : Fld := fld .ro 0x0A4 12 4 0

/-- TPORB present -/
def FIO.TPO_STAT.RBF : Fld := fld .ro 0x0A4 8 4 0

/-- TPOSC latched -/
def FIO.TPO_STAT.SC : Fld := fld .ro 0x0A4 4 4 0

/-- TPO sourcing -/
def FIO.TPO_STAT.ON : Fld := fld .ro 0x0A4 0 4 0

/-- 1: clear TPOSC (R420) -/
def FIO.TPO_CLR.CLR : Fld := fld .wo 0x0A8 0 4 0

/-- Hold duty, %, 20 to 100 -/
def FIO.LK_CFG.HOLDD : Fld := (fld .rwp 0x0AC 8 8 100).rngU 20 100

/-- Pull-in time, 10 ms, 1 to 255 -/
def FIO.LK_CFG.PULLT : Fld := (fld .rwp 0x0AC 0 8 20).rngU 1 255

/-- Switch-test pulse in progress -/
def FIO.LK_STAT.TEST : Fld := fld .ro 0x0B0 16 4 0

/-- LKOC latched -/
def FIO.LK_STAT.OC : Fld := fld .ro 0x0B0 12 4 0

/-- Low side enabled by the Platen die -/
def FIO.LK_STAT.LSEN : Fld := fld .ro 0x0B0 8 4 0

/-- High side conducting -/
def FIO.LK_STAT.HSON : Fld := fld .ro 0x0B0 4 4 0

/-- High side commanded by the sequencer -/
def FIO.LK_STAT.HSCMD : Fld := fld .ro 0x0B0 0 4 0

/-- High-side currents, local leaves 1 and 0, mA -/
def FIO.LK_I01.I1 : Fld := fld .ro 0x0B4 16 16 0

/-- High-side currents, local leaves 1 and 0, mA -/
def FIO.LK_I01.I0 : Fld := fld .ro 0x0B4 0 16 0

/-- As LK_I01, leaves 3 and 2 -/
def FIO.LK_I23.I3 : Fld := fld .ro 0x0B8 16 16 0

/-- As LK_I01, leaves 3 and 2 -/
def FIO.LK_I23.I2 : Fld := fld .ro 0x0B8 0 16 0

/-- Low-side currents, mA -/
def FIO.LK_ILS01.I1 : Fld := fld .ro 0x0BC 16 16 0

/-- Low-side currents, mA -/
def FIO.LK_ILS01.I0 : Fld := fld .ro 0x0BC 0 16 0

/-- Low-side currents, mA -/
def FIO.LK_ILS23.I3 : Fld := fld .ro 0x0C0 16 16 0

/-- Low-side currents, mA -/
def FIO.LK_ILS23.I2 : Fld := fld .ro 0x0C0 0 16 0

/-- 1: clear LKOC (R437) -/
def FIO.LK_CLR.CLR : Fld := fld .wo 0x0C4 0 4 0

/-- 1: release the die (R444) -/
def FIO.FIO_CTRL.RELEASE : Fld := fld .wo 0x0C8 0 1 0

/-- Debounce of local input 17 + 2k, µs, 0 to 65,535 (R418) -/
def FIO.SDEB.HI : Fld := (fld .rws 0x0D0 16 16 2000).arr 8 4

/-- Debounce of local input 16 + 2k, µs, 0 to 65,535 -/
def FIO.SDEB.LO : Fld := (fld .rws 0x0D0 0 16 2000).arr 8 4

/-- Fields of page FIO, part 0. -/
def FIO.fields0 : List Fld := [FIO.LINK.LOST, FIO.LINK.STANDALONE, FIO.LINK.LIMPIN, FIO.LINK.SEQERR,
  FIO.LINK.CRCERR, FIO.DIE.VFLD, FIO.DIE.TJ, FIO.VFLDCFG.SHEDT,
  FIO.VFLDCFG.VWARN, FIO.VFLDCFG.VLOW, FIO.VFLDCFG.VPF, FIO.VFLD_STAT.VMIN,
  FIO.VFLD_STAT.SHEDLVL, FIO.VFLD_STAT.PF, FIO.VFLD_STAT.LOW, FIO.VFLD_STAT.WARN,
  FIO.DEB.HI, FIO.DEB.LO, FIO.IN_NOW.IN, FIO.IN_FRZ.IN,
  FIO.IN_RAW.IN, FIO.DO_CFG.CFG, FIO.DO_SHED.SHED, FIO.DO_CMD.ON,
  FIO.DO_CLR.CLR, FIO.DO_OUT.SHED, FIO.DO_OUT.ON, FIO.DO_FLT.OPEN,
  FIO.DO_FLT.RB, FIO.DO_FLT.TH, FIO.DO_FLT.OC, FIO.TPO_STAT.DARK,
  FIO.TPO_STAT.RBF, FIO.TPO_STAT.SC, FIO.TPO_STAT.ON, FIO.TPO_CLR.CLR,
  FIO.LK_CFG.HOLDD, FIO.LK_CFG.PULLT, FIO.LK_STAT.TEST, FIO.LK_STAT.OC]

/-- Fields of page FIO, part 1. -/
def FIO.fields1 : List Fld := [FIO.LK_STAT.LSEN, FIO.LK_STAT.HSON, FIO.LK_STAT.HSCMD, FIO.LK_I01.I1,
  FIO.LK_I01.I0, FIO.LK_I23.I3, FIO.LK_I23.I2, FIO.LK_ILS01.I1,
  FIO.LK_ILS01.I0, FIO.LK_ILS23.I3, FIO.LK_ILS23.I2, FIO.LK_CLR.CLR,
  FIO.FIO_CTRL.RELEASE, FIO.SDEB.HI, FIO.SDEB.LO]

/-- Every stored field of page FIO. -/
def FIO.fields : List Fld := FIO.fields0 ++ FIO.fields1

/-- 1: fuse model on (R431) -/
def LSW.LS_CFG.FUSEN : Fld := (fld .rwp 0x040 20 1 1).arr 6 4

/-- Safe value (R422) -/
def LSW.LS_CFG.SAFE : Fld := (fld .rwp 0x040 18 2 0).arr 6 4

/-- Shedding priority -/
def LSW.LS_CFG.SHED : Fld := (fld .rwp 0x040 16 2 0).arr 6 4

/-- 1: ligature with c + 1 (R435) -/
def LSW.LS_CFG.LIG : Fld := (fld .rwp 0x040 15 1 0).arr 6 4

/-- Wire selection -/
def LSW.LS_CFG.WIRE : Fld := (fld .rwp 0x040 12 3 0).arr 6 4

/-- Trips to latch, 1 to 15 -/
def LSW.LS_CFG.NTRY : Fld := ((fld .rwp 0x040 8 4 5).rngU 1 15).arr 6 4

/-- Inrush time, ms, 0 to 255 -/
def LSW.LS_CFG.INRUSH : Fld := (fld .rwp 0x040 0 8 10).arr 6 4

/-- 1: on at the next commit (R421) -/
def LSW.LS_CMD.ON : Fld := fld .rw 0x060 0 6 0

/-- 1: clear the thermal latch (R432) -/
def LSW.LS_CLR.CLRTH : Fld := fld .wo 0x064 8 6 0

/-- 1: clear LATCH_OC, LATCH_FUSE and TRY -/
def LSW.LS_CLR.CLR : Fld := fld .wo 0x064 0 6 0

/-- Junction temperature, signed 0.1 °C -/
def LSW.LS_STAT.TJ : Fld := (fld .ro 0x070 16 16 0).arr 6 4

/-- Trips counted -/
def LSW.LS_STAT.TRY : Fld := (fld .ro 0x070 4 4 0).arr 6 4

/-- 0 OFF, 1 INRUSH, 2 ON, 3 PAUSE, 4 LATCH_OC, 5 LATCH_FUSE, 6 LATCH_TH, 7 SHED, 8 LIG, 9 WAIT (retry deferred) -/
def LSW.LS_STAT.STATE : Fld := (fld .ro 0x070 0 4 0).arr 6 4

/-- θ, unsigned Q4.12 -/
def LSW.LS_I.THETA : Fld := (fld .ro 0x090 16 16 0).arr 6 4

/-- Current, mA -/
def LSW.LS_I.I : Fld := (fld .ro 0x090 0 16 0).arr 6 4

/-- Fields of page LSW, part 0. -/
def LSW.fields0 : List Fld := [LSW.LS_CFG.FUSEN, LSW.LS_CFG.SAFE, LSW.LS_CFG.SHED, LSW.LS_CFG.LIG,
  LSW.LS_CFG.WIRE, LSW.LS_CFG.NTRY, LSW.LS_CFG.INRUSH, LSW.LS_CMD.ON,
  LSW.LS_CLR.CLRTH, LSW.LS_CLR.CLR, LSW.LS_STAT.TJ, LSW.LS_STAT.TRY,
  LSW.LS_STAT.STATE, LSW.LS_I.THETA, LSW.LS_I.I]

/-- Every stored field of page LSW. -/
def LSW.fields : List Fld := LSW.fields0

/-- 1: mapping in use -/
def LIMP.MAP.EN : Fld := (fld .rwp 0x040 15 1 0).arr 8 4

/-- 0–15 DO0–DO15, 16–27 LS0–LS11, other: none -/
def LIMP.MAP.DST : Fld := (fld .rwp 0x040 8 5 31).arr 8 4

/-- 1: invert -/
def LIMP.MAP.INV : Fld := (fld .rwp 0x040 7 1 0).arr 8 4

/-- DI0–DI31 -/
def LIMP.MAP.SRC : Fld := (fld .rwp 0x040 0 5 0).arr 8 4

/-- FB in limp-home -/
def LIMP.LIMP_STAT.LIMPB : Fld := fld .ro 0x060 9 1 0

/-- FA in limp-home -/
def LIMP.LIMP_STAT.LIMPA : Fld := fld .ro 0x060 8 1 0

/-- Bit k: mapping k valid (R443) -/
def LIMP.LIMP_STAT.VALID : Fld := fld .ro 0x060 0 8 0

/-- Fields of page LIMP, part 0. -/
def LIMP.fields0 : List Fld := [LIMP.MAP.EN, LIMP.MAP.DST, LIMP.MAP.INV, LIMP.MAP.SRC,
  LIMP.LIMP_STAT.LIMPB, LIMP.LIMP_STAT.LIMPA, LIMP.LIMP_STAT.VALID]

/-- Every stored field of page LIMP. -/
def LIMP.fields : List Fld := LIMP.fields0

/-- Part size: 0 1 Gbit, 1 2 Gbit, 2 4 Gbit, 3 8 Gbit -/
def REC.MEMCFG.DENS : Fld := fld .rwp 0x040 0 2 0

/-- Clean-trace blocks, 16 to 8,000 -/
def REC.LAYOUT.CTRBLK : Fld := (fld .rwp 0x044 16 16 640).rngU 16 8000

/-- Slug blocks, 16 to 8,000 -/
def REC.LAYOUT.SLUGBLK : Fld := (fld .rwp 0x044 0 16 256).rngU 16 8000

/-- Anomalous-trace blocks, 16 to 8,000 -/
def REC.LAYOUT2.ATRBLK : Fld := (fld .rwp 0x048 0 16 96).rngU 16 8000

/-- Leaves traced (R504) -/
def REC.TRCFG.TRLEAVES : Fld := fld .rwp 0x04C 0 8 255

/-- Publication ring; 0xFF none -/
def REC.SLUGCFG.PUBRING : Fld := fld .rwp 0x050 16 8 255

/-- Page flush time, s, 1 to 3,600 -/
def REC.SLUGCFG.FLUSHT : Fld := (fld .rwp 0x050 0 16 10).rngU 1 3600

/-- Read response ring; 0xFF none -/
def REC.RDRINGS.RSPRING : Fld := fld .rwp 0x054 8 8 255

/-- Read request ring; 0xFF none -/
def REC.RDRINGS.REQRING : Fld := fld .rwp 0x054 0 8 255

/-- Hold-up capacitance, µF; 0: every write refused -/
def REC.HOLD.HOLDC : Fld := fld .rwp 0x058 16 16 0

/-- Lowest usable VHOLD, 10 mV, 500 to 15,000 -/
def REC.HOLD.VMIN : Fld := (fld .rwp 0x058 0 16 1600).rngU 500 15000

/-- Erase energy, 0.1 mJ, 1 to 65,535 -/
def REC.HOLDE.EERASE : Fld := (fld .rwp 0x05C 16 16 100).rngU 1 65535

/-- Page program energy, 0.1 mJ, 1 to 65,535 -/
def REC.HOLDE.EPAGE : Fld := (fld .rwp 0x05C 0 16 100).rngU 1 65535

/-- XS0 write energy, 0.1 mJ, 1 to 65,535 -/
def REC.HOLDE2.EFOLIO : Fld := (fld .rwp 0x060 0 16 200).rngU 1 65535

/-- Folio interval, s, 10 to 3,600 -/
def REC.FOLCFG.FOLIOT : Fld := (fld .rwp 0x064 16 16 60).rngU 10 3600

/-- Folio sectors, 4 to 64 -/
def REC.FOLCFG.FOLSECT : Fld := (fld .rwp 0x064 0 16 8).rngU 4 64

/-- 1: reformat at commit (R515); returns to 0 after commit -/
def REC.REC_CTRL.FORMAT : Fld := fld .rwp 0x068 0 1 0

/-- Header layout differs (R515) -/
def REC.REC_STAT.LAYMIS : Fld := fld .ro 0x080 6 1 0

/-- A final commit has ended since reset -/
def REC.REC_STAT.FCEND : Fld := fld .ro 0x080 5 1 0

/-- Final commit in progress -/
def REC.REC_STAT.FC : Fld := fld .ro 0x080 4 1 0

/-- Slug queue full -/
def REC.REC_STAT.FULL : Fld := fld .ro 0x080 3 1 0

/-- Storage stopped (R513) -/
def REC.REC_STAT.MEMFAIL : Fld := fld .ro 0x080 2 1 0

/-- An operation is deferred (R524) -/
def REC.REC_STAT.DEFER : Fld := fld .ro 0x080 1 1 0

/-- Rings located; storing -/
def REC.REC_STAT.RUN : Fld := fld .ro 0x080 0 1 0

/-- Highest SEQ that has arrived -/
def REC.SEQS.LAST : Fld := fld .ro 0x084 0 32 0

/-- Highest SEQ stored -/
def REC.STORED.SEQ : Fld := fld .ro 0x088 0 32 0

/-- Highest fill since reset -/
def REC.QFILL.MAXFILL : Fld := fld .ro 0x08C 16 16 0

/-- Unstored slugs, 0 to 4,096 -/
def REC.QFILL.FILL : Fld := fld .ro 0x08C 0 16 0

/-- Truncated traces, saturating -/
def REC.LOSTCNT.TRUNC : Fld := fld .ro 0x090 16 16 0

/-- Lost slugs, saturating -/
def REC.LOSTCNT.SLUG : Fld := fld .ro 0x090 0 16 0

/-- Retired blocks -/
def REC.ANOMCNT.BAD : Fld := fld .ro 0x094 16 16 0

/-- Anomalous traces overwritten, saturating -/
def REC.ANOMCNT.WRAP : Fld := fld .ro 0x094 0 16 0

/-- Latest E, 0.1 mJ, saturating -/
def REC.HOLDMEAS.EAVAIL : Fld := fld .ro 0x098 16 16 0

/-- Latest VHOLD, 10 mV -/
def REC.HOLDMEAS.VHOLD : Fld := fld .ro 0x098 0 16 0

/-- Deferred operations, wrapping -/
def REC.DEFCNT.COUNT : Fld := fld .ro 0x09C 0 32 0

/-- Current folio record (R518) -/
def REC.FOLIO.WORD : Fld := (fld .ro 0x100 0 32 0).arr 64 4

/-- Fields of page REC, part 0. -/
def REC.fields0 : List Fld := [REC.MEMCFG.DENS, REC.LAYOUT.CTRBLK, REC.LAYOUT.SLUGBLK, REC.LAYOUT2.ATRBLK,
  REC.TRCFG.TRLEAVES, REC.SLUGCFG.PUBRING, REC.SLUGCFG.FLUSHT, REC.RDRINGS.RSPRING,
  REC.RDRINGS.REQRING, REC.HOLD.HOLDC, REC.HOLD.VMIN, REC.HOLDE.EERASE,
  REC.HOLDE.EPAGE, REC.HOLDE2.EFOLIO, REC.FOLCFG.FOLIOT, REC.FOLCFG.FOLSECT,
  REC.REC_CTRL.FORMAT, REC.REC_STAT.LAYMIS, REC.REC_STAT.FCEND, REC.REC_STAT.FC,
  REC.REC_STAT.FULL, REC.REC_STAT.MEMFAIL, REC.REC_STAT.DEFER, REC.REC_STAT.RUN,
  REC.SEQS.LAST, REC.STORED.SEQ, REC.QFILL.MAXFILL, REC.QFILL.FILL,
  REC.LOSTCNT.TRUNC, REC.LOSTCNT.SLUG, REC.ANOMCNT.BAD, REC.ANOMCNT.WRAP,
  REC.HOLDMEAS.EAVAIL, REC.HOLDMEAS.VHOLD, REC.DEFCNT.COUNT, REC.FOLIO.WORD]

/-- Every stored field of page REC. -/
def REC.fields : List Fld := REC.fields0

end Sys2Proof.Machine
end

