-- ==== Sys2Proof/Machine/Memory.lean ====
section
/-! DEFINITION. Byte memories in one canonical form: cells by strictly rising address, none equal to what an unlisted
address reads as. The same operations serve the core die's SRAM (unlisted: 0x00), and the settings and record memories
on XS0 and XS1 (unlisted: the erased byte 0xFF). -/

namespace Sys2Proof.Machine

/-- A memory: its listed cells. -/
abbrev Memory := List Host.Cell

/-- What an unlisted byte of the on-die SRAM reads as (assumption log 9). -/
abbrev sramEmpty : Byte := 0x00#8

/-- What an unlisted byte of an external flash reads as: erased (assumption log 10). -/
abbrev flashEmpty : Byte := 0xFF#8

/-- The byte at an address, `e` when unlisted. -/
def Memory.get (e : Byte) : Memory → Nat → Byte
  | [], _ => e
  | (a, b) :: m, addr => if a = addr then b else Memory.get e m addr

/-- Store one byte; a byte equal to `e` is not listed. -/
def Memory.put (e : Byte) : Memory → Nat → Byte → Memory
  | [], addr, v => if v = e then [] else [(addr, v)]
  | (a, b) :: m, addr, v =>
    if addr < a then (if v = e then (a, b) :: m else (addr, v) :: (a, b) :: m)
    else if addr = a then (if v = e then m else (addr, v) :: m)
    else (a, b) :: Memory.put e m addr v

/-- No cell at or below `lo`, addresses rising, no cell equal to `e`. -/
def Memory.wfFrom (e : Byte) : Nat → Memory → Bool
  | _, [] => true
  | lo, (a, b) :: m => decide (lo < a + 1) && decide (b ≠ e) && Memory.wfFrom e (a + 1) m

/-- The canonical form of a memory. -/
def Memory.wf (e : Byte) (m : Memory) : Bool := Memory.wfFrom e 0 m

/-- Store bytes upward from an address. -/
def Memory.putL (e : Byte) : Memory → Nat → List Nat → Memory
  | m, _, [] => m
  | m, a, v :: vs => Memory.putL e (Memory.put e m a (BitVec.ofNat 8 v)) (a + 1) vs

/-- `n` bytes upward from an address. -/
def Memory.getL (e : Byte) (m : Memory) (a : Nat) : Nat → List Nat
  | 0 => []
  | n + 1 => (Memory.get e m a).toNat :: Memory.getL e m (a + 1) n

/-- A little-endian word of `n` bytes. -/
def Memory.getW (e : Byte) (m : Memory) (a n : Nat) : Nat := ofLe (Memory.getL e m a n)

/-- Store a little-endian word of `n` bytes. -/
def Memory.putW (e : Byte) (m : Memory) (a n v : Nat) : Memory := Memory.putL e m a (leBytes n v)

/-- A flash program: each byte keeps only the bits that both the cell and the data have set. -/
def Memory.program : Memory → Nat → List Nat → Memory
  | m, _, [] => m
  | m, a, v :: vs =>
    Memory.program (Memory.put flashEmpty m a (Memory.get flashEmpty m a &&& BitVec.ofNat 8 v)) (a + 1) vs

/-- A flash erase of `n` bytes from `a`. -/
def Memory.erase (a n : Nat) (m : Memory) : Memory := m.filter fun c => !(decide (a ≤ c.1) && decide (c.1 < a + n))

/-- The cells of `n` bytes from `src` copied to `dst`, whose former content goes. -/
def Memory.copy (e : Byte) (src dst n : Nat) (m : Memory) : Memory :=
  (m.filter fun c => decide (src ≤ c.1) && decide (c.1 < src + n)).foldl
    (fun m c => Memory.put e m (dst + (c.1 - src)) c.2) (Memory.erase dst n m)

end Sys2Proof.Machine
end

