-- ==== Sys2Proof/Machine/StAxis.lean ====
section
/-! DEFINITION. The state that the registers do not show of the force observers (R157 to R194), the feedback pages of
leaf and step axes (R195 to R225), the encoder emulation ports (R226 to R229) and the step axes (R264 to R292). -/

namespace Sys2Proof.Machine

/-- Samples of one table bin: the bin, how many, and their sum in 1/65,536 of 0.1 N (R165). -/
structure BinSum where
  bin : Nat
  n : Nat
  sum : Int
  deriving DecidableEq, Repr

/-- One servo period of the stiffness window: friction-referred force in 1/65,536 of 0.1 N and position in µm (R178). -/
structure StiffPt where
  f : Int
  p : Int
  deriving DecidableEq, Repr

/-- The force observer of a leaf. Forces are in 1/65,536 of 0.1 N. `cfg` holds the configuration cells latched when the set-point
speed last left 0, once `latched`; they are in force while `held`, to the end of the movement (R189). -/
structure ObsX where
  y : Int := 0
  fc : Int := 0
  flrn : Int := 0
  fraw : Int := 0
  dir : Int := 1
  vPrev : Int := 0
  iqSum : Int := 0
  iqN : Nat := 0
  moving : Bool := false
  held : Bool := false
  blank : Nat := 0
  tdet : Nat := 0
  stall : Nat := 0
  stiff : Nat := 0
  win : List StiffPt := []
  kapp : Int := 0
  kbound : Option Int := none
  limF : Option Nat := none
  iqHold : Option Nat := none
  inhibit : Bool := false
  detPath : Bool := false
  edges : Nat := 0
  zone : Nat := 0
  cfg : Cells := []
  latched : Bool := false
  deriving DecidableEq, Repr

/-- What the observer keeps for learning, wear and its own checks. `goal` is the end position that the leaf sequencer last commanded,
in µm, `none` once another source moves the leaf (R164). -/
structure KernX where
  bins : List BinSum := []
  learnO : List BinSum := []
  learnC : List BinSum := []
  raw : List StiffPt := []
  anom : Bool := false
  inMove : Bool := false
  mvDir : Int := 1
  goal : Option Int := none
  atEnd : Bool := false
  endedOk : Bool := false
  probation : Nat := 0
  jO : Nat := 0
  jC : Nat := 0
  tempAt : Nat := 0
  stale : Bool := false
  deg : Bool := false
  avgF : Int := 0
  avgL : Int := 0
  avgA : Int := 0
  avgN : Nat := 0
  nServo : Nat := 0
  nShadow : Nat := 0
  oldStroke : Nat := 0
  learnDone : Bool := false
  dirty : Bool := false
  deriving DecidableEq, Repr

/-- A count and the MOTCLK time of its last edge (R210). -/
structure CntAt where
  c : Int
  t : Nat
  deriving DecidableEq, Repr

/-- The feedback page of a leaf or step axis. `hraw` are the Hall lines as the field die has filtered them, with the time of the latest
edge in `hedge`; `ab` and `z` are the filtered encoder levels, B in bit 1 of `ab` (R196); `code` is the
filtered Hall code since `codeT`, `hallUp` the direction of its latest edge (R197, R208); `ssiOn` is set while an SSI transfer runs
(R201). `latch` holds one bit per sensor latch:
0 HALLINV, 1 HALLSEQ, 2 ENCERR, 3 ZERR, 4 SSI (R214). `encWas`: the counts before the encoder edges of the last 25.5 µs,
the longest Hall filter, newest first (R212). -/
structure PosX where
  ext : Int := 0
  encWas : List CntAt := []
  encT : Nat := 0
  hall : Int := 0
  hallT : Nat := 0
  hraw : Nat := 0
  hedge : Nat := 0
  code : Nat := 0
  lastCode : Nat := 0
  codeOk : Nat := 0
  ab : Nat := 0
  z : Bool := false
  hallUp : Bool := true
  codeT : Nat := 0
  invRep : Bool := false
  ssiOn : Bool := false
  ref : Int := 0
  fbOfs : Int := 0
  align : Int := 0
  aligned : Bool := false
  idx : Option Nat := none
  xchkN : Nat := 0
  xchk : Bool := false
  slip : Bool := false
  slipN : Nat := 0
  slipRef : Int := 0
  latch : Nat := 0
  lastSeq : Nat := 0
  lastErr : Nat := 0
  lastZ : Nat := 0
  miss : Nat := 0
  ssi : Option Nat := none
  ssiGot : Bool := false
  ssiTried : Bool := false
  ssiRun : Nat := 0
  deriving DecidableEq, Repr

/-- The position and speed a feedback page delivers: position in µm, speed in µm/s, electrical speed in rad/s, rotor
angle in 2⁻³² turn, and the angle with its whole turns as a fraction `turnN / turnD`. `latE`, `latH` and `latT` are the encoder count, the Hall edge count or
microstep count, and the time of the latest axis valley (R201); `histE`, `histH` and `histS` the same of the servo boundaries before,
newest first, and the SSI positions (R210); `pOk` and `vOk` the latest valid position and speed (R215); `refd` whether the position
is referenced (R206, R207). -/
structure FbX where
  p : Int := 0
  v : Int := 0
  we : Int := 0
  theta : Nat := 0
  turnN : Int := 0
  turnD : Int := 1
  latE : CntAt := { c := 0, t := 0 }
  latH : CntAt := { c := 0, t := 0 }
  latT : Nat := 0
  pOk : Int := 0
  vOk : Int := 0
  refd : Bool := false
  valid : Bool := false
  deg : Bool := false
  fallbk : Bool := false
  bridged : Bool := false
  setRef : Option Int := none
  histE : List CntAt := []
  histH : List CntAt := []
  histS : List Int := []
  deriving DecidableEq, Repr

/-- One encoder emulation port: emulated count, target, whether it is running, and the levels of A, B and Z (R226 to R229). -/
structure EmuX where
  on : Bool := false
  cnt : Int := 0
  tgt : Int := 0
  lag : Bool := false
  frz : Bool := false
  a : Bool := false
  b : Bool := false
  z : Bool := false
  deriving DecidableEq, Repr

/-- The states of a step axis, in the order of their codes (R282). -/
inductive StepState where
  | unref | homing | retracted | extending | extended | retracting | stopped | inhibited | external | fault
  deriving DecidableEq, Repr

/-- Commands of `STP_CMD` in the order in which one is kept (R284). -/
inductive StpCmd where
  | hstop | qstop | stop | retract | inhibit | extend | home | uninh | ack
  deriving DecidableEq, Repr

/-- What follows the stop path of a step at its standstill: nothing more than STOPPED, UNREF with the reference cleared,
FAULT, or RETRACTED with the reference at the captured count (R285). -/
inductive StepEnd where
  | stopped | unref | fault | reference
  deriving DecidableEq, Repr

/-- The motion engine and state machine of a step axis beyond its drive engine. `m` is the commanded microstep
count; `mt0` and `mt1` the counts at the two ends of the servo period in progress and `idx` its PWM period (R270). `sp` is
the set-point in step coordinates. `inhReq` and `inhPend` follow a retract demand that arises in motion, `autoPrev` the doorway
states of the last boundary (R289), `faultQ` a fault event not yet taken, `lossPrev` the reference loss of the last boundary, and
`mMoved` when `m` last changed. -/
structure StpX where
  st : StepState := .unref
  cmd : Option StpCmd := none
  refused : Bool := false
  srcPrev : Bool := false
  pend : Bool := false
  inhReq : Bool := false
  inhPend : Bool := false
  autoExt : Bool := false
  autoRet : Bool := false
  autoPrev : Nat := 0
  fault : Bool := false
  faultQ : Bool := false
  loss : Bool := false
  lossPrev : Bool := false
  posOff : Bool := false
  sp : SetPt := {}
  plan : Option Plan := none
  stopKind : Nat := 0
  stopReq : Nat := 0
  stopRet : Bool := false
  stopPlan : Option Plan := none
  stopEnd : StepEnd := .stopped
  captured : Int := 0
  homeFrom : Int := 0
  m : Int := 0
  mRef : Int := 0
  mt0 : Int := 0
  mt1 : Int := 0
  idx : Nat := 0
  mMoved : Nat := 0
  freeze : Bool := false
  susp : Nat := 0
  histR : List Nat := []
  histE : List Nat := []
  pR : Bool := false
  pE : Bool := false
  rel : Bool := false
  deriving DecidableEq, Repr

/-- Winding currents, face and STEP/DIR input of a step axis (R269 to R278). Voltages `xa` and `xb` are in 1/65,536 µV;
`chopA` and `chopB` the signed comparator references of bold face in I_FS / 256; `tripA` and `tripB` the MOTCLK counts after the
axis valley at which the comparators trip in the present period; `endA` and `endB` the gates commanded on at the end of the period
before (bits HS1, LS1, HS2, LS2); `run` whether the gates were under control in the period that ends; `keepRun` whether a hard stop
keeps the amplitude at IRUN; `sdGap` the time of the last two edges in
ns, `none` where SDTO stands for it. -/
structure StpDrvX where
  xa : Int := 0
  xb : Int := 0
  amp : Nat := 0
  hold : Option Nat := none
  ramp : Option Nat := none
  holdEnd : Bool := false
  bold : Bool := false
  boldNext : Bool := false
  chopA : Int := 0
  chopB : Int := 0
  tripA : Option Nat := none
  tripB : Option Nat := none
  endA : Nat := 0
  endB : Nat := 0
  run : Bool := false
  keepRun : Bool := false
  openA : Nat := 0
  openB : Nat := 0
  sdCnt : Int := 0
  sdBase : Int := 0
  sdDir : Int := 0
  sdGap : Option Nat := none
  lagging : Bool := false
  mServo : Int := 0
  deriving DecidableEq, Repr

/-- A step axis beyond its registers. -/
structure StepX where
  drv : DrvX := {}
  stp : StpX := {}
  win : StpDrvX := {}
  deriving DecidableEq, Repr

end Sys2Proof.Machine
end

