-- ==== Sys2Proof/Machine/StImd.lean ====
section
/-! DEFINITION. The Imdel complex beyond its registers (R332 to R369) and the fault manager (R370 to R386) as plain
data. -/

namespace Sys2Proof.Machine

/-- The states of a lane, in the order of their codes in `IMD.LANE_STAT`. -/
inductive LaneState where
  | run | resync | proof | out
  deriving DecidableEq, Repr

/-- What debug can see of a core: general registers g0 to g31, control registers and local scratch memory by number
(listed where not 0), its retire count and its local-write signature (R342, R365). -/
structure CoreX where
  g : Vector Nat 32 := Vector.replicate 32 0
  ctl : Cells := []
  scratch : Cells := []
  retire : Nat := 0
  sig : Nat := 0
  deriving DecidableEq, Repr

/-- One entry of a replay log: the retire count, the kind of target (0 general, 1 control, 2 scratch), its number and
the value (R365). -/
structure ReplayEnt where
  at_ : Nat
  kind : Nat
  idx : Nat
  val : Nat
  deriving DecidableEq, Repr

/-- The Control triplet and the rotating proof (R333 to R354). Times are MOTCLK counts; `faults` lists (lane, time) of the lane
faults of the last hour; `dues` counts the due times passed since the end of start-up at `startAt`, `waiting` the proofs that
are due and have not begun, `dueAt` and then `dueQ` their due times, `late` that the first of them may start without quiet; `held`:
a failed proof pass released no core. -/
structure ImdX where
  lane : Vector LaneState 3 := Vector.replicate 3 .run
  core : Vector CoreX 3 := Vector.replicate 3 {}
  faults : List (Nat × Nat) := []
  crcRetry : Bool := false
  afterProof : Bool := false
  started : Bool := false
  startAt : Nat := 0
  dues : Nat := 0
  waiting : Nat := 0
  dueAt : Nat := 0
  dueQ : List Nat := []
  late : Bool := false
  held : Bool := false
  provedAt : Vector Nat 3 := Vector.replicate 3 0
  halted : Bool := false
  haltReq : Bool := false
  replay : List ReplayEnt := []
  deriving DecidableEq, Repr

/-- The Service pair: whether each core runs or restarts, the latest kick of each watchdog (MOTCLK count), debug halt and
when it began, replay log and the armed DT (R357 to R366). In lockstep core 0 stands for the pair. -/
structure SvcX where
  up0 : Bool := true
  up1 : Bool := true
  core : Vector CoreX 2 := Vector.replicate 2 {}
  kick0 : Nat := 0
  kick1 : Nat := 0
  halted : Bool := false
  haltAt : Nat := 0
  replay : List ReplayEnt := []
  dtArm : Option Nat := none
  deriving DecidableEq, Repr

/-- A fault entry in the manager: its 32-bit value, its DT and its repeat count (R370, R371, R377). -/
structure FEnt where
  val : Nat
  dt : Nat
  rep : Nat := 0
  deriving DecidableEq, Repr

/-- The fault manager: head, whether a program cycle has begun since it became head, the queue in rank order, and the
halt (R375 to R382), `withheld` where its automatic reset was judged and not made. -/
structure FltX where
  head : Option FEnt := none
  begun : Bool := false
  queue : List FEnt := []
  drop : Nat := 0
  maxLvl : Nat := 0
  halt : Bool := false
  haltCause : Nat := 0
  haltDt : Nat := 0
  haltMot : Nat := 0
  withheld : Bool := false
  deriving DecidableEq, Repr

end Sys2Proof.Machine
end

