-- ==== Sys2Proof/Machine/StRec.lean ====
section
/-! DEFINITION. The record engine beyond its registers (R501 to R528) and what start-up, settings memory and in-service
change keep (R529 to R560), the one-time fuses, the keep-alive domain and the test access port (R586), as plain data. -/

namespace Sys2Proof.Machine

/-- A slug in the queue: its SEQ, its place in the slug queue of the record buffer, and when it arrived (MOTCLK). -/
structure SlugQ where
  seq : Nat
  slot : Nat
  at_ : Nat
  deriving DecidableEq, Repr

/-- A proof trace of a leaf (R504, R505): whether one is being captured, when it began (MOTCLK), the position of the last
sample, the samples taken, whether it was cut short, and the bytes of the leaf's trace stream that no page holds yet. -/
structure TraceX where
  on : Bool := false
  hdr : List Nat := []
  mot : Nat := 0
  lastP : Int := 0
  samples : List Nat := []
  trunc : Bool := false
  buf : List Nat := []
  deriving DecidableEq, Repr

/-- An operation on an external memory that the 8D makes on its own account (R514, R523, R537): a page of the slug ring with
how many slugs, of the clean-trace ring (0) or of the anomalous-trace ring (1), a block erase ahead of a ring (0 slug, 1 clean, 2
anomalous), the erase or the program (`prog`) of a header copy, a formatting, a folio record, one of the sixteen 256-byte parts of
a kerning record, a sector erase on XS0. -/
inductive MemOp where
  | slugPage (n : Nat)
  | tracePage (leaf : Nat)
  | anomPage
  | erase (ring : Nat)
  | header (copy : Nat) (prog : Bool)
  | format
  | folio
  | kern (leaf part : Nat)
  | xsErase (addr : Nat)
  deriving DecidableEq, Repr

/-- A ring of the record memory (R513): its first block, its blocks, its head as a page count from its first block's first
page, how many whole blocks ahead of the head's block are erased, and whether the head has passed the ring's end. -/
structure NandRing where
  first : Nat := 0
  blks : Nat := 0
  head : Nat := 0
  erased : Nat := 0
  wrapped : Bool := false
  deriving DecidableEq, Repr

/-- The record memory as the engine knows it: its rings, retired blocks as (retired, spare), the next spare block, and the DT of
formatting. -/
structure NandX where
  slug : NandRing := {}
  clean : NandRing := {}
  anom : NandRing := {}
  bad : List (Nat × Nat) := []
  spareAt : Nat := 0
  fmtDt : Nat := 0
  deriving DecidableEq, Repr

/-- The folio record (table "Folio record"): its 64 words, whether a counter has changed since it was last written, and
when it was (R518, R519). -/
structure FolioX where
  fseq : Nat := 0
  slugSeq : Nat := 0
  leaf : List (List Nat) := List.replicate 8 [0, 0, 0, 0]
  step : List (List Nat) := List.replicate 4 [0, 0]
  all : Nat := 0
  minutes : Nat := 0
  powerUps : Nat := 0
  commits : Nat := 0
  halts : Nat := 0
  dirty : Bool := false
  at_ : Nat := 0
  next : Nat := 0
  deriving DecidableEq, Repr

/-- The record engine. `op` is the operation under way on XS1 with the block it works on, `xop` the one on XS0; `todo` the
follow-up operations that wait; `defer` the operation that the hold-up check refused, with when it was and when the check was
last made; `fcFolio` says that the final commit in progress has begun its folio record, `kernBuf` is the kerning record being
written; `anom` the bytes for the anomalous-trace ring and `tcopy` the traces to be copied, each with its leaf. -/
structure RecSt where
  seq : Nat := 0
  queue : List SlugQ := []
  qNext : Nat := 0
  pageDue : Bool := false
  trace : List TraceX := List.replicate 8 {}
  tcopy : List (Nat × List Nat) := []
  anom : List Nat := []
  op : Option (MemOp × Nat) := none
  xop : Option MemOp := none
  todo : List MemOp := []
  defer : Option (MemOp × Nat × Nat) := none
  defRep : Bool := false
  smov : List RecX := List.replicate 4 {}
  nand : NandX := {}
  folio : FolioX := {}
  savedVer : List (Option Nat) := List.replicate 8 none
  savedAt : List (Option Nat) := List.replicate 8 none
  kernNext : Nat := 0
  fcFolio : Bool := false
  kernBuf : List Nat := []
  deriving DecidableEq, Repr

/-- The image bound values of an impression (heading "Impressions"): its number, seal nibble, page values as (page,
offset, value, mask), the safety profiles, image map, bus maps and network map. -/
structure Profile where
  record : List Nat := []
  fields : List (Nat × Nat × Nat × Nat) := []
  deriving DecidableEq, Repr, Inhabited

/-- The selection of slots of each kind and its trial state (table "Selector record"). -/
structure Select where
  sseq : Nat := 0
  fw : Nat := 0
  frm : Nat := 0
  imp : Nat := 0
  trial : Nat := 0
  tries : Nat := 0
  deriving DecidableEq, Repr

/-- The one-time fuses and the key store, which reset does not change: lifecycle state code, INTEGID, FWMIN, whether
the root key hash is programmed, used rows and the key of each Neltan slot (R539 to R545). -/
structure Otp where
  lc : Nat := 0
  integ : Option Nat := none
  fwMin : Nat := 0
  rootOk : Bool := false
  root : List Nat := []
  rows : List Nat := [0, 0, 0, 0]
  keys : List (Option Nat) := [none, none, none, none]
  deriving DecidableEq, Repr

/-- The keep-alive domain (R40, R574): seconds, whether its content was lost, times of automatic and of supervisor
resets. -/
structure Keep where
  secs : Nat := 0
  lost : Bool := false
  autos : List Nat := []
  sups : List Nat := []
  deriving DecidableEq, Repr

/-- What identifies the part: variant (0 F, 1 S, 2 H, 3 N), grade D, silicon revision and UID (R1, R2). -/
structure Part where
  variant : Nat := 0
  gradeD : Bool := false
  silrev : Nat := 16
  uid : Nat := 0
  deriving DecidableEq, Repr

/-- An impression as its image gives it (chapter "Impressions"): number and seal nibble, page values as (page, offset, value,
mask), the sixteen safety profiles, the image map with its hash, bus objects as (controller, object), descriptors of the
telegram engine, and the kerning save interval. -/
structure ImpImg where
  num : Nat := 0
  nibble : Nat := 0
  values : List (Nat × Nat × Nat × Nat) := []
  profiles : List Profile := []
  map : List ImgItem := []
  mapHash : Nat := 0
  can : List (Nat × CanObj) := []
  pubs : List PubD := []
  subs : List SubD := []
  ktSave : Nat := 3600
  deriving DecidableEq, Repr, Inhabited

/-- An integrator key of the key block: slot, INTEGID, public key, PROD flag. -/
structure IntegKey where
  slot : Nat
  integ : Nat
  key : List Nat
  prod : Bool
  deriving DecidableEq, Repr, Inhabited

/-- A verification in progress (R556): KIND, slot, and the half to copy a forme into. -/
structure VerJob where
  kind : Nat
  slot : Nat
  copy : Option Nat
  deriving DecidableEq, Repr

/-- Start-up and in-service change: running, boot hold, time of power-good, step reached, selection (R535), firmware version,
boot policy in force, keys accepted, impression switch (R553 to R555) with whether it
brings an impression image (`swImg`), the pages that defer and the impression the Service pair has declared, profiles in force, verification, marks of the forme halves with the slot each came from, reset
request and whether it came through the host port, key words, debug unlock. -/
structure BootX where
  up : Bool := true
  hold : Bool := false
  pgMot : Nat := 0
  phase : Nat := 0
  ready : Bool := false
  factory : Bool := false
  sel : Select := {}
  fwVer : Nat := 0
  fwMinV : Nat := 0
  polTarget : Nat := 0
  polInteg : Nat := 0
  polVer : Option Nat := none
  split : Bool := false
  keys : List IntegKey := []
  armed : Bool := false
  applying : Bool := false
  swImg : Bool := false
  defer : List Nat := []
  decl : Option ImpImg := none
  profiles : List Profile := []
  ver : Option VerJob := none
  mark : Nat := 0
  halfSlot : List (Option Nat) := [none, none]
  rstPend : Bool := false
  rstHost : Bool := false
  nkey : List Nat := [0, 0, 0, 0]
  unlocked : Bool := false
  deriving DecidableEq, Repr

/-- The test access port (R586): instruction in force (0 BYPASS, 1 IDCODE, 2 SAMPLE/PRELOAD, 3 EXTEST, 4 CLAMP, 5 HIGHZ), what
its data register holds, boundary cells; and the supply side of the core die: PORST_N held low, VIO3 present (R571, R587). -/
structure TapX where
  ir : Nat := 0
  dr : Nat := 0
  cells : List Nat := []
  porst : Bool := false
  vio3 : Bool := true
  deriving DecidableEq, Repr

end Sys2Proof.Machine

namespace Sys2Proof

/-- What an impression image holds: the manual lists its sections and their content and leaves the byte layout to the Walper
toolchain (assumption log 26). -/
opaque Config.impression (bytes : List Nat) : Machine.ImpImg

/-- The factory impression in boot ROM (R552), of which the manual tabulates the behaviour (assumption log 27). -/
opaque Config.factoryImp : Machine.ImpImg

/-- The entries of a key block, whose byte layout the manual does not give (assumption log 26). -/
opaque Config.keyBlock (bytes : List Nat) : List Machine.IntegKey

/-- The content of the core's field-link frame to a die, whose byte layout the manual does not give (assumption log 69). -/
opaque Config.linkDown (cfg : Machine.DieCfg) (cmd : Machine.DieCmd) : List Nat

/-- The content of a die's field-link frame, likewise (assumption log 69). -/
opaque Config.linkUp (y : Machine.DieX) (samp : Machine.DieSamp) : List Nat

/-- The bytes of the factory forme in boot ROM (R552; assumption log 27). -/
opaque Config.factoryForme : List Nat

end Sys2Proof
end

