-- ==== Sys2Proof/Machine/StSafe.lean ====
section
/-! DEFINITION. The two channels of the interlocks as plain data: the cross-channel frames, the Platen die, and what the
processor channel holds beyond its registers (R293 to R331, R595). -/

namespace Sys2Proof.Machine

/-- What the configuration record says of a leaf (R301). -/
structure LeafMap where
  use : Bool := false
  carB : Bool := false
  openSeq : Bool := false
  lkSi : Nat := 0
  clSi : Nat := 0
  deriving DecidableEq, Repr

/-- What the configuration record says of a step (R301). -/
structure StepMap where
  use : Bool := false
  carB : Bool := false
  rSi : Nat := 0
  deriving DecidableEq, Repr

/-- A Platen configuration record: its 64 bytes and the fields read from them (heading "Configuration of the
two-channel functions"). `tp` holds per SI the test-pulse output, `none` where TPEN is 0. -/
structure PRec where
  bytes : List Nat := []
  crc : Nat := 0
  mirt : Nat := 0
  loopOn : Nat := 0
  zs2 : Bool := false
  tfilt : Nat := 0
  pfilt : Nat := 0
  disct : Nat := 0
  htint : Nat := 0
  lktpw : Nat := 0
  lktint : Nat := 0
  htdur : Nat := 0
  htmov : Nat := 0
  htiq : Nat := 0
  tlswap : Bool := false
  leaf : List LeafMap := []
  step : List StepMap := []
  tp : List (Option Nat) := []
  deriving DecidableEq, Repr

/-- A P-frame as its words give it (table "P-frame of type STATUS"). -/
structure PFrame where
  typ : Nat := 0
  seq : Nat := 0
  servo : Nat := 0
  si : Nat := 0
  siMask : Nat := 0
  tli : Nat := 0
  mir : Nat := 0
  tliMask : Nat := 0
  dec : Nat := 0
  lkHs : Nat := 0
  gclr : Nat := 0
  htest : Nat := 0
  dclr : Bool := false
  oriVal : Bool := false
  oriNew : Bool := false
  mclr : Bool := false
  deriving DecidableEq, Repr

/-- A Q-frame as its words give it (table "Q-frame"); `crc` is the half of the record's CRC that it carries. The table gives
no place to the relay latches that R595 has the receiver compare: `mirF` and `coilF` carry those of relays B
(assumption log 17). -/
structure QFrame where
  seq : Nat := 0
  st : Nat := 0
  si : Nat := 0
  tli : Nat := 0
  mir : Nat := 0
  coil : Nat := 0
  coilOk : Nat := 0
  dec : Nat := 0
  lken : Nat := 0
  bdis : Nat := 0
  guard : Nat := 0
  lst : Nat := 0
  ori : Bool := false
  oriRef : Bool := false
  diag : Nat := 0
  crc : Nat := 0
  mirF : Nat := 0
  coilF : Nat := 0
  deriving DecidableEq, Repr

/-- The Platen die: state code, record, filtered readings, latches and outputs. Relays are numbered as R314 numbers
them; `coil` bit 1 is DLL_B and bit 0 is DLR_B. -/
structure PlatenX where
  st : Nat := 0
  buf : List (Nat × List Nat) := []
  rec? : Option PRec := none
  echo : Nat := 0
  si : Nat := 0
  tli : Nat := 0
  mir : Nat := 0
  dsc : Nat := 0
  dscOk : Option Nat := none
  siMask : Nat := 0
  tliMask : Nat := 0
  procSi : Nat := 0
  procTli : Nat := 0
  procMir : Nat := 0
  dec : Nat := 0
  coil : Nat := 0
  coilOk : Nat := 3
  mirF : Nat := 0
  coilF : Nat := 0
  clrOk : Option Nat := none
  gotP : Bool := false
  deriving DecidableEq, Repr

/-- The Platen die, continued: lock enables, bridge disables, guards, orientation, link and self-checks; times of its coils' changes and
since when its loop conditions (R313) and differing readings (R308) stand, as MOTCLK counts. -/
structure PlatenY where
  lken : Nat := 0
  bdis : Nat := 255
  guard : Nat := 0
  gcnt : List Nat := List.replicate 8 0
  code : List Nat := List.replicate 8 0
  hallAt : List Nat := List.replicate 8 0
  lst : Nat := 0
  ori : Bool := false
  oriRef : Bool := false
  oriN : Nat := 0
  oriMis : Bool := false
  diag : Nat := 0
  qSeq : Nat := 0
  pSeq : Option Nat := none
  pErr : Nat := 0
  vplt : Bool := false
  test : Option (Nat × Nat) := none
  q : Option QFrame := none
  coilAtR : Nat := 0
  coilAtL : Nat := 0
  condR : Option Nat := none
  condL : Option Nat := none
  ds : List (Option Nat) := List.replicate 24 none
  deriving DecidableEq, Repr

/-- The test-pulse checks of one SI (R306): consecutive periods without a fall, one bit per other output in whose latest
pulse the SI fell, and whether either condition was found: bit 0 in the period in progress, bits 1 and 2 in the last two. -/
structure TpX where
  noFall : Nat := 0
  cross : Nat := 0
  found : Nat := 0
  deriving DecidableEq, Repr

/-- The lock tests and the holding test of one leaf (R319, R320); times are MOTCLK counts. -/
structure HoldX where
  req : Bool := false
  on : Bool := false
  t0 : Nat := 0
  p0 : Int := 0
  move : Nat := 0
  doneAt : Nat := 0
  hsTest : Bool := false
  lsTest : Bool := false
  bothAt : Option Nat := none
  hsAt : Nat := 0
  lsAt : Nat := 0
  deriving DecidableEq, Repr

/-- The processor channel beyond its registers. Counters are in servo periods; `latch` has one bit per input as R308
numbers the inputs; relay bits as R314. -/
structure SafeX where
  run : Bool := false
  rec? : Option PRec := none
  pend : Option PRec := none
  pcrPend : Bool := false
  p : PFrame := {}
  sent : Bool := false
  q : Option QFrame := none
  qSeq : Option Nat := none
  si : Nat := 0
  tli : Nat := 0
  mir : Nat := 0
  tpStuck : Nat := 0
  tpShort : Nat := 0
  tp : List TpX := List.replicate 16 {}
  latch : Nat := 0
  mirF : Nat := 0
  coilF : Nat := 0
  lkf : Nat := 0
  htf : Nat := 0
  cfgMis : Nat := 0
  dec : Nat := 0
  coil : Nat := 0
  coilOk : Nat := 3
  deriving DecidableEq, Repr

/-- The processor channel, continued: deadlines of the clear requests with what still agrees, since when decisions, readings
and loop conditions stand, orientation, comparison with the Platen die, lock tests. Times are MOTCLK counts; pairs are
(right, left). `oriSent` is the number of the last Q-frame sent before the new orientation reached the Platen die. -/
structure SafeY where
  dclr : Option Nat := none
  dclrOk : Nat := 0
  mclr : Option Nat := none
  mclrOk : Nat := 0
  gclr : Option Nat := none
  gmask : Nat := 0
  armed : Bool := false
  qAt : Nat := 0
  xlink : Bool := false
  condR : Option Nat := none
  condL : Option Nat := none
  diffR : Option Nat := none
  diffL : Option Nat := none
  coilAtR : Nat := 0
  coilAtL : Nat := 0
  xd : List (Option Nat) := List.replicate 4 none
  ds : List (Option Nat) := List.replicate 24 none
  net : Bool := false
  ori : Bool := false
  oriPrev : Bool := false
  oriNew : Bool := false
  oriSent : Option Nat := none
  oriRef : Bool := false
  oriBack : Bool := false
  oriN : Nat := 0
  oriMis : Bool := false
  crcHi : Option Nat := none
  crcLo : Option Nat := none
  cfg8 : Option Nat := none
  hold : List HoldX := List.replicate 8 {}
  deriving DecidableEq, Repr

end Sys2Proof.Machine
end

