-- ==== Sys2Proof/Machine/State.lean ====
section
/-! DEFINITION. The whole state of the 8D as plain data, the reasons a step can stop, and the state after reset. -/

namespace Sys2Proof.Machine

/-- Time and the motion grid (R29 to R40). `mot` counts MOTCLK periods; `dtF` is device time in units of 10⁻⁹ ns;
`valley` is the MOTCLK count of the latest valley; `servoDue` and `cycleDue` tell which boundary rows the latest valley has
made due; `hiCap` is what each source captured of DT (R39); `evNow` lists the events, as (page, event), that occurred in the
FABCLK cycle `evAt` (R50); `upsets` lists the memory words whose stored bits are wrong and no access has met yet (R42);
`axv` holds a bit for each axis whose valley of the present PWM period is still to come, and `chop` the comparator trips of that
period as PWM_PERIOD_START brought them (R63, R273). -/
structure TimeX where
  mot : Nat := 0
  dtF : Nat := 0
  ppb : Int := 0
  grid : Bool := false
  enabled : Bool := false
  started : Bool := false
  cycled : Bool := false
  valley : Nat := 0
  servoDue : Bool := false
  cycleDue : Bool := false
  bk : Bool := false
  hiCap : List Nat := List.replicate 7 0
  evAt : Nat := 0
  evNow : List (Nat × Nat) := []
  eccHist : List (Nat × Nat) := []
  upsets : List EccHit := []
  axv : Nat := 0
  chop : Nat := 0
  deriving DecidableEq, Repr

/-- Everything of the 8D but its memories and its command queue. `act` and `stg` hold the active and the
staged value of every register field; `c2` lists the C2 conditions that keep a page's function in its safe state, as
(page, cause, instance); `free` numbers the free values drawn (assumption log 4). -/
structure Dev where
  part : Part := {}
  keep : Keep := {}
  tim : TimeX := {}
  act : Cells := []
  stg : Cells := []
  c2 : List (Nat × Nat × Nat) := []
  otp : Otp := {}
  flt : FltX := {}
  boot : BootX := {}
  leaf : Vector LeafX 8 := Vector.replicate 8 {}
  obs : Vector ObsX 8 := Vector.replicate 8 {}
  kern : Vector KernX 8 := Vector.replicate 8 {}
  pos : Vector PosX 12 := Vector.replicate 12 {}
  fb : Vector FbX 12 := Vector.replicate 12 {}
  emu : Vector EmuX 4 := Vector.replicate 4 {}
  step : Vector StepX 4 := Vector.replicate 4 {}
  sx : SafeX := {}
  sy : SafeY := {}
  px : PlatenX := {}
  py : PlatenY := {}
  die : Vector DieX 2 := Vector.replicate 2 {}
  diey : Vector DieY 2 := Vector.replicate 2 {}
  vfld : VfldX := {}
  imd : ImdX := {}
  svc : SvcX := {}
  forme : FormeX := {}
  olc : OlcX := {}
  net : NetX := {}
  rec_ : RecSt := {}
  tap : TapX := {}
  free : Nat := 0
  deriving DecidableEq, Repr

/-- The state of the 8D: the queue of waiting commands, the device, the on-die memories (one address space, R41), the
settings memory on XS0 and the record memory on XS1. -/
structure State where
  pending : List Instr := []
  dev : Dev := {}
  mem : Memory := []
  xs0 : Memory := []
  xs1 : Memory := []
  deriving DecidableEq, Repr

/-- Reasons to stop with a fault. -/
inductive Fault where
  /-- Raised by no command: the manual gives every command of the table an effect. Safe. -/
  | none
  deriving DecidableEq, Repr

/-- Reasons to refuse a command. -/
inductive Refusal where
  /-- The command's row has no meaning in this model yet; raised by its arm in Dispatch. Safe. -/
  | notModelled (mnemonic : String)
  deriving DecidableEq, Repr

/-- Register values at reset that differ from the field tables, in both copies of a field: `SYS.DT_STAT.SRC` KEEP (R40),
`SEC.NKEYSTAT` with four unused rows in each slot of blank fuses, `ETH.VLAN0` 0x8077_0001. -/
def resetCells : Cells := [(704, 1), (263200, 17476), (2884352, 1), (2884368, 7), (2884372, 7), (2884383, 1)]

/-- The machine right after reset: every register at the reset value the manual gives, the queue empty, the memories
blank, the part an FN8D-F-T in BLANK (assumption logs 1, 2, 9 to 14). -/
def State.reset : State := { dev := { act := resetCells, stg := resetCells } }

end Sys2Proof.Machine
end

