-- ==== Sys2Proof/Machine/Ops.lean ====
section
/-! DEFINITION. The named operations over the registers and the device: reading and writing a field, raising an event,
device time, free values, rounding, and the page index (R44 to R51). -/

namespace Sys2Proof.Machine

/-- Element `i` of a vector, or the default beyond its end. -/
def vget {α : Type} {n : Nat} (v : Vector α n) (i : Nat) (dflt : α) : α := v[i]?.getD dflt

/-- The vector with `f` applied to element `i`; unchanged beyond its end. -/
def vmod {α : Type} {n : Nat} (v : Vector α n) (i : Nat) (f : α → α) : Vector α n :=
  if h : i < n then v.set i (f v[i]) else v

/-! Page numbers (R45). -/

abbrev pgSYS : Nat := 0x00
abbrev pgCLK : Nat := 0x01
abbrev pgFLT : Nat := 0x02
abbrev pgIMD : Nat := 0x03
abbrev pgSVC : Nat := 0x04
abbrev pgFRM : Nat := 0x05
abbrev pgREC : Nat := 0x06
abbrev pgCFG : Nat := 0x07
abbrev pgSEC : Nat := 0x08
abbrev pgSEAL : Nat := 0x09
abbrev pgPLT : Nat := 0x0A
abbrev pgLEAF (n : Nat) : Nat := 0x10 + n
abbrev pgOBS (n : Nat) : Nat := 0x18 + n
/-- The feedback page of an axis: POS0 to POS7, then POSK0 to POSK3. -/
abbrev pgPOS (a : Nat) : Nat := 0x20 + a
abbrev pgEMU : Nat := 0x2C
abbrev pgSTEP (k : Nat) : Nat := 0x30 + k
abbrev pgSAFE : Nat := 0x38
abbrev pgFIO (x : Nat) : Nat := 0x40 + x
abbrev pgLSW (x : Nat) : Nat := 0x42 + x
abbrev pgLIMP : Nat := 0x44
abbrev pgCAN (c : Nat) : Nat := 0x50 + c
abbrev pgIMPO : Nat := 0x53
abbrev pgETH : Nat := 0x58
abbrev pgTRDP : Nat := 0x59
abbrev pgPTP : Nat := 0x5A
abbrev pgRING : Nat := 0x60

/-- The drive page of an axis: LEAF0 to LEAF7, then STEP0 to STEP3. -/
def pgDRV (a : Nat) : Nat := if a < 8 then 0x10 + a else 0x28 + a

/-- A drive register of an axis: the STEP pages hold the fields of `DRV_STAT`, `DIAG` and the offsets at their own places
(tables "LEAF*n* drive registers", "STEP*k* registers"). -/
def drvReg (a : Nat) (f : Fld) : Fld :=
  if a < 8 then f
  else if f.off = 0x090 then { f with off := 0x080 }
  else if f.off = 0x094 then { f with off := 0x090 }
  else if f.off = 0x098 then { f with off := 0x088 }
  else f

/-! The common header (tables "PG_CTRL" to "SH_EPOCH"). -/

def HDR.TEST : Fld := fld .rwp 0x010 2 1 0
def HDR.PARK : Fld := fld .rwp 0x010 1 1 0
def HDR.EN : Fld := fld .rwp 0x010 0 1 0
def HDR.USTAT : Fld := fld .ro 0x014 8 8 0
def HDR.STATE : Fld := fld .ro 0x014 0 4 0
def HDR.SEALED : Fld := fld .ro 0x018 2 1 0
def HDR.LOCKED : Fld := fld .ro 0x018 1 1 1
def HDR.EV_EN : Fld := fld .rw 0x024 0 32 0
def HDR.EV_STAT : Fld := fld .w1c 0x028 0 32 0
def HDR.CPSEL : Fld := fld .rw 0x030 4 4 0
def HDR.PEND : Fld := fld .ro 0x030 2 1 0
def HDR.EPOCH : Fld := fld .ro 0x034 0 32 0

/-- The stored fields of the common header. -/
def HDR.fields : List Fld := [HDR.TEST, HDR.PARK, HDR.EN, HDR.USTAT, HDR.STATE, HDR.SEALED, HDR.LOCKED, HDR.EV_EN,
  HDR.EV_STAT, HDR.CPSEL, HDR.PEND, HDR.EPOCH]

/-- The units a page can belong to (R45). -/
inductive Unit_ where
  | sys | clk | flt | imd | svc | frm | recE | cfg | sec | seal | plt
  | leaf (n : Nat) | obs (n : Nat) | pos (n : Nat) | posk (k : Nat) | emu | step (k : Nat) | safe
  | fio (x : Nat) | lsw (x : Nat) | limp | can (c : Nat) | impo | eth | trdp | ptp | ring
  deriving DecidableEq, Repr

/-- The unit of a page number, `none` where the page index assigns none (R7, R45). -/
def unitOf (pg : Nat) : Option Unit_ :=
  if pg = 0x00 then some .sys else if pg = 0x01 then some .clk else if pg = 0x02 then some .flt
  else if pg = 0x03 then some .imd else if pg = 0x04 then some .svc else if pg = 0x05 then some .frm
  else if pg = 0x06 then some .recE else if pg = 0x07 then some .cfg else if pg = 0x08 then some .sec
  else if pg = 0x09 then some .seal else if pg = 0x0A then some .plt
  else if pg < 0x10 then none
  else if pg < 0x18 then some (.leaf (pg - 0x10)) else if pg < 0x20 then some (.obs (pg - 0x18))
  else if pg < 0x28 then some (.pos (pg - 0x20)) else if pg < 0x2C then some (.posk (pg - 0x28))
  else if pg = 0x2C then some .emu else if pg < 0x30 then none
  else if pg < 0x34 then some (.step (pg - 0x30)) else if pg = 0x38 then some .safe
  else if pg = 0x40 ∨ pg = 0x41 then some (.fio (pg - 0x40)) else if pg = 0x42 ∨ pg = 0x43 then some (.lsw (pg - 0x42))
  else if pg = 0x44 then some .limp
  else if 0x50 ≤ pg ∧ pg ≤ 0x52 then some (.can (pg - 0x50)) else if pg = 0x53 then some .impo
  else if pg = 0x58 then some .eth else if pg = 0x59 then some .trdp else if pg = 0x5A then some .ptp
  else if pg = 0x60 then some .ring else none

/-- The planes (R45). -/
inductive Plane where
  | device | control | data | mgmt
  deriving DecidableEq, Repr

/-- The plane of a unit (R45). -/
def Unit_.plane : Unit_ → Plane
  | .sys => .device | .clk => .device | .flt => .device
  | .svc => .mgmt | .cfg => .mgmt | .sec => .mgmt
  | .recE => .data | .can _ => .data | .impo => .data | .eth => .data | .trdp => .data | .ptp => .data | .ring => .data
  | .imd => .control | .frm => .control | .seal => .control | .plt => .control | .leaf _ => .control
  | .obs _ => .control | .pos _ => .control | .posk _ => .control | .emu => .control | .step _ => .control
  | .safe => .control | .fio _ => .control | .lsw _ => .control | .limp => .control

/-- Safety pages (R45). -/
def Unit_.safety : Unit_ → Bool
  | .imd => true | .seal => true | .plt => true | .obs _ => true | .safe => true
  | _ => false

/-- Unit code and instance of a page (R45). -/
def Unit_.code : Unit_ → Nat × Nat
  | .sys => (0x0001, 0) | .clk => (0x0002, 0) | .flt => (0x0003, 0) | .imd => (0x0004, 0) | .svc => (0x0005, 0)
  | .frm => (0x0006, 0) | .recE => (0x0007, 0) | .cfg => (0x0008, 0) | .sec => (0x0009, 0) | .seal => (0x000A, 0)
  | .plt => (0x000B, 0) | .leaf n => (0x0010, n) | .obs n => (0x0011, n) | .pos n => (0x0012, n)
  | .posk n => (0x0013, n) | .emu => (0x0014, 0) | .step n => (0x0015, n) | .safe => (0x0018, 0)
  | .fio n => (0x0020, n) | .lsw n => (0x0021, n) | .limp => (0x0022, 0) | .can n => (0x0030, n)
  | .impo => (0x0031, 0) | .eth => (0x0038, 0) | .trdp => (0x0039, 0) | .ptp => (0x003A, 0) | .ring => (0x003B, 0)

/-- The fields that POSK pages share with POS pages: every field of POS that the POSK table does not replace or reserve
(chapter "Position and speed feedback", table "POSK registers"). -/
def Fld.sameReg (f g : Fld) : Bool := f.off == g.off

/-- The stored fields of a unit's own registers. -/
def Unit_.own : Unit_ → List Fld
  | .sys => SYS.fields | .clk => CLK.fields | .flt => FLT.fields | .imd => IMD.fields | .svc => SVC.fields
  | .frm => FRM.fields | .recE => REC.fields | .cfg => CFG.fields | .sec => SEC.fields | .seal => SEAL.fields
  | .plt => PLT.fields | .leaf _ => LEAF.fields | .obs _ => OBS.fields | .pos _ => POS.fields | .posk _ => POSK.fields
  | .emu => EMU.fields | .step _ => STEP.fields | .safe => SAFE.fields | .fio _ => FIO.fields | .lsw _ => LSW.fields
  | .limp => LIMP.fields | .can _ => CAN.fields | .impo => IMPO.fields | .eth => ETH.fields | .trdp => TRDP.fields
  | .ptp => PTP.fields | .ring => RING.fields

/-- Optional unit groups of the variant: leaf and field die B, steps, network (R3 to R5, table "SYS.UNITMAP value per
variant"). -/
def Part.hasFb (p : Part) : Bool := p.variant != 2
def Part.hasStep (p : Part) : Bool := p.variant != 1
def Part.hasNet (p : Part) : Bool := p.variant != 3

/-- `SYS.UNITMAP` of the part (R5). -/
def Part.unitMap (p : Part) : Nat := 1 + 2 * b2n p.hasFb + 4 * b2n p.hasStep + 8 * b2n p.hasNet

/-- Whether a unit is present (R3 to R7). -/
def Part.has (p : Part) : Unit_ → Bool
  | .leaf n => n < 4 || p.hasFb
  | .obs n => n < 4 || p.hasFb
  | .pos n => n < 4 || p.hasFb
  | .posk k => p.hasStep && (k < 2 || p.hasFb)
  | .step k => p.hasStep && (k < 2 || p.hasFb)
  | .fio x => x = 0 || p.hasFb
  | .lsw x => x = 0 || p.hasFb
  | .eth => p.hasNet
  | .trdp => p.hasNet
  | .ptp => p.hasNet
  | _ => true

/-- Whether leaf `n` is present. -/
def Part.hasLeaf (p : Part) (n : Nat) : Bool := p.has (.leaf n)

/-- Whether step `k` is present. -/
def Part.hasStepAxis (p : Part) (k : Nat) : Bool := p.has (.step k)

/-- Every page number the index assigns. -/
def allPages : List Nat := (List.range 0x61).filter fun p => (unitOf p).isSome

/-- The active value of a field. -/
def Dev.get (d : Dev) (pg : Nat) (f : Fld) : Nat := Cells.get d.act (f.key pg) f.rst

/-- The active value of a signed field. -/
def Dev.geti (d : Dev) (pg : Nat) (f : Fld) : Int := sgn f.w (d.get pg f)

/-- Whether a one-bit field is set. -/
def Dev.on (d : Dev) (pg : Nat) (f : Fld) : Bool := d.get pg f != 0

/-- The staged value of a field. -/
def Dev.sget (d : Dev) (pg : Nat) (f : Fld) : Nat := Cells.get d.stg (f.key pg) f.rst

/-- Set the active value of a field. -/
def Dev.put (pg : Nat) (f : Fld) (v : Nat) (d : Dev) : Dev :=
  { d with act := Cells.put d.act (f.key pg) (v % 2 ^ f.w) f.rst }

/-- Set a signed field. -/
def Dev.puti (pg : Nat) (f : Fld) (v : Int) (d : Dev) : Dev := d.put pg f (uns f.w v)

/-- Set a one-bit field. -/
def Dev.putB (pg : Nat) (f : Fld) (b : Bool) (d : Dev) : Dev := d.put pg f (b2n b)

/-- Set the staged value of a field. -/
def Dev.sput (pg : Nat) (f : Fld) (v : Nat) (d : Dev) : Dev :=
  { d with stg := Cells.put d.stg (f.key pg) (v % 2 ^ f.w) f.rst }

/-- Set both copies of a field, as start-up does with an impression's values (R549). -/
def Dev.put2 (pg : Nat) (f : Fld) (v : Nat) (d : Dev) : Dev := (d.put pg f v).sput pg f v

/-- Add one to a wrapping counter field. -/
def Dev.inc (pg : Nat) (f : Fld) (d : Dev) : Dev := d.put pg f (d.get pg f + 1)

/-- Add one to a saturating counter field. -/
def Dev.incSat (pg : Nat) (f : Fld) (d : Dev) : Dev := d.put pg f (satInc f.w (d.get pg f))

/-- Apply a change when a condition holds. -/
def Dev.iff_ (c : Bool) (f : Dev → Dev) (d : Dev) : Dev := if c then f d else d

/-- Apply a change for each element of a list. -/
def Dev.each {α : Type} (l : List α) (f : α → Dev → Dev) (d : Dev) : Dev := l.foldl (fun d a => f a d) d

/-- The event is noted as one of the present FABCLK cycle (R50). -/
def TimeX.note (pg n : Nat) (t : TimeX) : TimeX :=
  let l := if t.evAt = t.mot then t.evNow else []
  { t with evAt := t.mot, evNow := if l.any (fun e => e == (pg, n)) then l else (pg, n) :: l }

/-- Raise event `n` of a page: its EV_STAT bit sets, whatever EV_EN holds (R49). -/
def Dev.ev (pg n : Nat) (d : Dev) : Dev :=
  { d with tim := d.tim.note pg n }.put pg HDR.EV_STAT (setBit (d.get pg HDR.EV_STAT) n true)

/-- The events of a page that occurred in the present FABCLK cycle, as a mask (R50). -/
def Dev.evCycle (d : Dev) (pg : Nat) : Nat :=
  if d.tim.evAt = d.tim.mot then
    (List.range 32).foldl (fun m n => setBit m n (d.tim.evNow.any fun e => e == (pg, n))) 0
  else 0

/-- Raise event `n` of a page when a condition holds. -/
def Dev.evIf (c : Bool) (pg n : Nat) (d : Dev) : Dev := if c then d.ev pg n else d

/-- Whether a page is in service: EN reads 1 in the pages of R47; elsewhere EN is 1 and PARK, which takes a unit out of
service in its safe state, is 0 (table "PG_CTRL"). -/
def Dev.enabled (d : Dev) (pg : Nat) : Bool := pg == 0x00 || pg == 0x01 || pg == 0x02 || pg == 0x03 || pg == 0x04 ||
  pg == 0x05 || pg == 0x07 || pg == 0x08 || pg == 0x09 || pg == 0x0A || pg == 0x38 || (d.on pg HDR.EN && !d.on pg HDR.PARK)

/-- The page's own state code: 0 OFF, 1 STARTING, 2 RUN, 3 PARKED (table "PG_STAT"). -/
def Dev.pgState (d : Dev) (pg : Nat) : Nat := d.get pg HDR.STATE

/-- Set the page's own state code. -/
def Dev.setPg (pg st : Nat) (d : Dev) : Dev := d.put pg HDR.STATE st

/-- Whether a C2 condition keeps the page's function in its safe state (R380). -/
def Dev.hasC2 (d : Dev) (pg : Nat) : Bool := d.c2.any fun c => c.1 == pg

/-- The field die whose functions a page holds: leaf, observer, feedback, step, field I/O and load-switch pages (R3, R4). -/
def dieOfPage (pg : Nat) : Option Nat :=
  match unitOf pg with
  | some (.leaf n) => some (n / 4)
  | some (.obs n) => some (n / 4)
  | some (.pos n) => some (n / 4)
  | some (.posk k) => some (k / 2)
  | some (.step k) => some (k / 2)
  | some (.fio x) => some x
  | some (.lsw x) => some x
  | _ => none

/-- Whether a page serves functions of a field die that has been lost and not released (R17). -/
def Dev.fldSafe (d : Dev) (pg : Nat) : Bool :=
  match dieOfPage pg with
  | some x => (vget d.die x {}).unrel
  | none => false

/-- The page state as `PG_STAT.STATE` reads it: SAFE while a C2 condition is present (R17, R380). -/
def Dev.stateView (d : Dev) (pg : Nat) : Nat := if d.hasC2 pg || d.fldSafe pg then 4 else d.pgState pg

/-- Enter a C2 condition. -/
def Dev.c2on (pg cause inst : Nat) (d : Dev) : Dev :=
  if d.c2.any (fun c => c == (pg, cause, inst)) then d else { d with c2 := (pg, cause, inst) :: d.c2 }

/-- Clear a C2 condition. -/
def Dev.c2off (pg cause inst : Nat) (d : Dev) : Dev := { d with c2 := d.c2.filter fun c => c != (pg, cause, inst) }

/-- Clear every C2 condition of a page. -/
def Dev.c2clr (pg : Nat) (d : Dev) : Dev := { d with c2 := d.c2.filter fun c => c.1 != pg }

/-- Whether a C2 condition stands. -/
def Dev.c2has (d : Dev) (pg cause : Nat) : Bool := d.c2.any fun c => c.1 == pg && c.2.1 == cause

/-- Device time in nanoseconds (R37, chapter "Device time"). -/
def Dev.dt (d : Dev) : Nat := d.tim.dtF / 1000000000

/-- A MOTCLK count of milliseconds: 250,000 counts each. -/
def msMot (n : Nat) : Nat := n * 250000

/-- A FREE VALUE of kind `site` (assumption log 4). -/
def Dev.fresh (d : Dev) (site : Nat) : Nat := Config.free site d.free

/-- Advance the number of the next free value. -/
def Dev.drew (d : Dev) : Dev := { d with free := d.free + 1 }

/-- `n / d` rounded: exact where it divides, else its floor or the integer above it, which the manual does not say
(assumption log 3). -/
def Num.quo (site : Nat) (n d : Int) : Int :=
  if n % d = 0 then n / d else if Config.roundUp site n d then n / d + 1 else n / d

/-- A result in an unsigned field of `w` bits; free where it does not fit (assumption log 5). -/
def Num.fitU (site w : Nat) (v : Int) : Nat :=
  if 0 ≤ v ∧ v < (2 ^ w : Nat) then v.toNat else Config.outOfRange site v % 2 ^ w

/-- A result in a signed field of `w` bits, as its pattern; free where it does not fit (assumption log 5). -/
def Num.fitS (site w : Nat) (v : Int) : Nat :=
  if -(2 ^ (w - 1) : Nat) ≤ v ∧ v < (2 ^ (w - 1) : Nat) then uns w v else Config.outOfRange site v % 2 ^ w

/-- Whether the core die runs: not held in reset, and its derived clocks not stopped by a loss of PLL lock (R30). -/
def Dev.alive (d : Dev) : Bool := d.boot.up && !d.tim.bk

/-- A change that only a running core die makes. -/
def Dev.live (f : Dev → Dev) (d : Dev) : Dev := if d.alive then f d else d

/-- A change of the whole state that only a running core die makes. -/
def State.live (f : State → State) (s : State) : State := if s.dev.alive then f s else s

/-- A change made only while a condition on the device holds. -/
def Dev.when_ (c : Dev → Bool) (f : Dev → Dev) (d : Dev) : Dev := if c d then f d else d

/-- A change of the device alone. -/
def State.onDev (f : Dev → Dev) (s : State) : State := { s with dev := f s.dev }

/-- The outcome of a command that changes the device alone. -/
def doDev (f : Dev → Dev) (s : State) : Host.Outcome State Fault Refusal := .next (s.onDev f)

/-- The outcome of a command. -/
def doState (f : State → State) (s : State) : Host.Outcome State Fault Refusal := .next (f s)

/-! Access to the parts of the device by number. -/

def Dev.lf (d : Dev) (n : Nat) : LeafX := vget d.leaf n {}
def Dev.ob (d : Dev) (n : Nat) : ObsX := vget d.obs n {}
def Dev.kn (d : Dev) (n : Nat) : KernX := vget d.kern n {}
def Dev.ps (d : Dev) (a : Nat) : PosX := vget d.pos a {}
def Dev.fbk (d : Dev) (a : Nat) : FbX := vget d.fb a {}
def Dev.em (d : Dev) (k : Nat) : EmuX := vget d.emu k {}
def Dev.sp (d : Dev) (k : Nat) : StepX := vget d.step k {}
def Dev.di (d : Dev) (x : Nat) : DieX := vget d.die x {}
def Dev.dy (d : Dev) (x : Nat) : DieY := vget d.diey x {}
def Dev.cn (d : Dev) (c : Nat) : CanX := vget d.net.can c {}

def Dev.modLf (n : Nat) (f : LeafX → LeafX) (d : Dev) : Dev := { d with leaf := vmod d.leaf n f }
def Dev.modOb (n : Nat) (f : ObsX → ObsX) (d : Dev) : Dev := { d with obs := vmod d.obs n f }
def Dev.modKn (n : Nat) (f : KernX → KernX) (d : Dev) : Dev := { d with kern := vmod d.kern n f }
def Dev.modPs (a : Nat) (f : PosX → PosX) (d : Dev) : Dev := { d with pos := vmod d.pos a f }
def Dev.modFb (a : Nat) (f : FbX → FbX) (d : Dev) : Dev := { d with fb := vmod d.fb a f }
def Dev.modEm (k : Nat) (f : EmuX → EmuX) (d : Dev) : Dev := { d with emu := vmod d.emu k f }
def Dev.modSp (k : Nat) (f : StepX → StepX) (d : Dev) : Dev := { d with step := vmod d.step k f }
def Dev.modDi (x : Nat) (f : DieX → DieX) (d : Dev) : Dev := { d with die := vmod d.die x f }
def Dev.modDy (x : Nat) (f : DieY → DieY) (d : Dev) : Dev := { d with diey := vmod d.diey x f }
def Dev.modCn (c : Nat) (f : CanX → CanX) (d : Dev) : Dev := { d with net := { d.net with can := vmod d.net.can c f } }

def Dev.prf (d : Dev) (n : Nat) : PrfX := (d.lf n).prf
def Dev.seq (d : Dev) (n : Nat) : SeqX := (d.lf n).seq
def Dev.lrn (d : Dev) (n : Nat) : LearnX := (d.lf n).lrn
def Dev.mov_ (d : Dev) (n : Nat) : RecX := (d.lf n).mov
def Dev.modPrf (n : Nat) (f : PrfX → PrfX) (d : Dev) : Dev := d.modLf n fun l => { l with prf := f l.prf }
def Dev.modSeq (n : Nat) (f : SeqX → SeqX) (d : Dev) : Dev := d.modLf n fun l => { l with seq := f l.seq }
def Dev.modLrn (n : Nat) (f : LearnX → LearnX) (d : Dev) : Dev := d.modLf n fun l => { l with lrn := f l.lrn }
def Dev.modLig (n : Nat) (f : LigX → LigX) (d : Dev) : Dev := d.modLf n fun l => { l with lig := f l.lig }
def Dev.modMov (n : Nat) (f : RecX → RecX) (d : Dev) : Dev := d.modLf n fun l => { l with mov := f l.mov }
def Dev.stp (d : Dev) (k : Nat) : StpX := (d.sp k).stp
def Dev.win (d : Dev) (k : Nat) : StpDrvX := (d.sp k).win
def Dev.modStp (k : Nat) (f : StpX → StpX) (d : Dev) : Dev := d.modSp k fun x => { x with stp := f x.stp }
def Dev.modWin (k : Nat) (f : StpDrvX → StpDrvX) (d : Dev) : Dev := d.modSp k fun x => { x with win := f x.win }

/-- The drive engine of an axis: leaves 0 to 7, then steps. -/
def Dev.drv (d : Dev) (a : Nat) : DrvX := if a < 8 then (d.lf a).drv else (d.sp (a - 8)).drv

def Dev.modDrv (a : Nat) (f : DrvX → DrvX) (d : Dev) : Dev :=
  if a < 8 then d.modLf a fun l => { l with drv := f l.drv } else d.modSp (a - 8) fun x => { x with drv := f x.drv }

/-- The field die of an axis (R3, R4). -/
def dieOf (a : Nat) : Nat := if a < 8 then a / 4 else (a - 8) / 2

/-- Whether an axis is present. -/
def Dev.hasAxis (d : Dev) (a : Nat) : Bool := if a < 8 then d.part.hasLeaf a else d.part.hasStepAxis (a - 8)

/-- The leaves that are present, in ascending number. -/
def Dev.leaves (d : Dev) : List Nat := (List.range 8).filter d.part.hasLeaf

/-- The steps that are present. -/
def Dev.steps (d : Dev) : List Nat := (List.range 4).filter d.part.hasStepAxis

/-- The axes that are present: leaves, then steps as 8 to 11. -/
def Dev.axes (d : Dev) : List Nat := (List.range 12).filter d.hasAxis

/-- The field dies that are present. -/
def Dev.dies (d : Dev) : List Nat := if d.part.hasFb then [0, 1] else [0]

end Sys2Proof.Machine
end

