-- ==== Sys2Proof/Machine/Faults.lean ====
section
/-! DEFINITION. The fault manager: entries, head and queue (R370 to R379), device safe halt (R381), acknowledgement
(R378) and the automatic reset's conditions (R382). -/

namespace Sys2Proof.Machine

/-- The 32-bit value of a fault entry (R370). -/
def entryVal (cls page inst cause : Nat) : Nat :=
  cls % 16 * 2 ^ 28 + page % 256 * 2 ^ 20 + inst % 256 * 2 ^ 12 + cause % 4096

/-- The class of an entry. -/
def FEnt.cls (e : FEnt) : Nat := e.val / 2 ^ 28

/-- Insert behind every entry of equal or higher class (R376). -/
def rankBehind (e : FEnt) : List FEnt → List FEnt
  | [] => [e]
  | x :: xs => if x.cls < e.cls then e :: x :: xs else x :: rankBehind e xs

/-- Insert ahead of every queued entry of its own class (R376, a preempted head). -/
def rankAhead (e : FEnt) : List FEnt → List FEnt
  | [] => [e]
  | x :: xs => if x.cls ≤ e.cls then e :: x :: xs else x :: rankAhead e xs

/-- Add one to the repeat count of the entry with this value (R377). -/
def bumpRep (v : Nat) (e : FEnt) : FEnt := if e.val = v then { e with rep := satInc 16 e.rep } else e

/-- Put an entry in its place (R376, R377) without regard to the queue's room: a repeat count, the head, or the queue. -/
def placeEntry (e : FEnt) (d : Dev) : Dev :=
  let f := d.flt
  match f.head with
  | none =>
    { d with flt := { f with head := some e, begun := false } }.ev pgFLT Ev.FLT.NEWHEAD
  | some h =>
    if h.val = e.val then { d with flt := { f with head := some (bumpRep e.val h) } }
    else if f.queue.any (fun q => q.val == e.val) then
      { d with flt := { f with queue := f.queue.map (bumpRep e.val) } }
    else if h.cls < e.cls then
      { d with flt := { f with head := some e, begun := false, queue := rankAhead h f.queue } }.ev pgFLT Ev.FLT.PREEMPT
    else { d with flt := { f with queue := rankBehind e f.queue } }.ev pgFLT Ev.FLT.QUEUED

/-- Discard and count the lowest-ranked entries beyond the queue's 32 places (R379). -/
def trimQueue (d : Dev) : Dev :=
  let f := d.flt
  if f.queue.length ≤ 32 then { d with flt := { f with maxLvl := max f.maxLvl f.queue.length } }
  else
    { d with flt := { f with queue := f.queue.take 32, maxLvl := 32,
                             drop := min 255 (f.drop + (f.queue.length - 32)) } }.ev pgFLT Ev.FLT.OVF

/-- Mode OFF for the drive engine of an axis: every gate command low (R92, R381). -/
def gatesOff (a : Nat) (d : Dev) : Dev :=
  (d.modDrv a fun x => { x with mode := 0, modeReq := none, cmp := {}, cmpNext := {}, xd := 0, xq := 0, xv := 0,
                                iqNext := 0, iqUse := 0 }).put (pgDRV a) (drvReg a LEAF.DRV_STAT.MODE) 0

/-- The HALT P-frame is sent at once (R298); a frame in transmission is aborted, which the Platen die discards with a failed CRC
(R295). -/
def haltFrame (d : Dev) : Dev :=
  let py := if d.sx.sent then { d.py with pSeq := none, pErr := d.py.pErr + 1 } else d.py
  { d with sx := { d.sx with p := { d.sx.p with typ := 5, seq := (d.sx.p.seq + 1) % 16, lkHs := 0 }, sent := true }, py := py }

/-- The orders of a halt to the axes: gates off, hard stops, the lock high sides off. -/
def haltAxes (d : Dev) : Dev :=
  let d := d.each (List.range 12) gatesOff
  let d := d.each (List.range 8) fun n => Dev.modPrf n fun p => if p.stopKind = 3 then p else { p with stopReq := 3, stopOwn := false }
  let d := d.each (List.range 8) fun n => Dev.modSeq n fun q => { q with hardFault := q.hardFault || !q.hardLock }
  d.each [0, 1] fun x => Dev.modDy x fun y => { y with lkCmd := 0, lkHs := 0, lkPull := 0 }

/-- The orders of a halt to the processor channel: the HALT frame, coils A off. -/
def haltCoils (d : Dev) : Dev :=
  let d := haltFrame d
  { d with sx := { d.sx with coil := 0 }, sy := { d.sy with coilAtL := if bit d.sx.coil 1 then d.tim.mot else d.sy.coilAtL
                                                            coilAtR := if bit d.sx.coil 0 then d.tim.mot else d.sy.coilAtR } }

/-- The forme stops. -/
def haltForme (d : Dev) : Dev :=
  let d := { d with forme := { d.forme with st := if d.forme.st = 0 then 0 else 3, commits := false } }
  d.put pgFRM FRM.FORME_STAT.STATE d.forme.st

/-- The orders of device safe halt (R381): gate lines off, a hard stop of every leaf (R148, table "Stop requests"), HALT P-frame, lock
high sides and coils A off (R314 counts from here), the forme stopped. The field dies take their safe values while `halt` stands
(R422), and no output commit follows (R391, R393). -/
def haltOrders (d : Dev) : Dev := haltForme (haltCoils (haltAxes d))

/-- A C3 entry orders device safe halt, once (R381): `HALT_CAUSE` and `HALT_DT` take the first C3 entry since reset. -/
def orderHalt (e : FEnt) (d : Dev) : Dev :=
  if d.flt.halt then d
  else
    let d := { d with flt := { d.flt with halt := true, haltCause := e.val, haltDt := e.dt, haltMot := d.tim.mot },
                      rec_ := { d.rec_ with folio := { d.rec_.folio with halts := d.rec_.folio.halts + 1, dirty := true } } }
    haltOrders (d.ev pgFLT Ev.FLT.HALT)

/-- Whether an entry needs a place of its own in the queue (R376, R377). -/
def needsPlace (d : Dev) (e : FEnt) : Bool :=
  match d.flt.head with
  | none => false
  | some h => h.val != e.val && !(d.flt.queue.any fun q => q.val == e.val)

/-- A C1 to C3 entry arrives: it is placed, the overflow rule applies (R379), and a C3 entry halts the device (R381). -/
def arriveEntry (e : FEnt) (d : Dev) : Dev :=
  let above := needsPlace d e && decide (32 ≤ d.flt.queue.length)
  let q : FEnt := { val := entryVal Cz.FLT.QOVF.cls pgFLT 0xFF Cz.FLT.QOVF.code, dt := e.dt }
  let newOvf := above && !d.flt.halt
  let d := placeEntry e d
  let d := if e.cls = 3 then orderHalt e d else d
  let d := if newOvf then orderHalt q (placeEntry q d) else d
  trimQueue d

/-- A fault of class C1 or higher on a LEAF, OBS or POS page makes the leaf's movement anomalous (R164). -/
def markAnomaly (cls page : Nat) (d : Dev) : Dev :=
  if cls ≠ 0 ∧ 0x10 ≤ page ∧ page < 0x28 then d.modKn (page % 8) fun k => { k with anom := true } else d

/-- A report reaches the fault manager (R370 to R376): stamped with DT; a C0 entry goes to the information log. -/
def Dev.report (cls page inst cause : Nat) (d : Dev) : Dev :=
  let e : FEnt := { val := entryVal cls page inst cause, dt := d.dt }
  if cls % 16 = 0 then
    ((d.put pgFLT FLT.INFO.ENTRY e.val).inc pgFLT FLT.INFO_CNT.COUNT).ev pgFLT Ev.FLT.INFO
  else arriveEntry e (markAnomaly cls page d)

/-- Report a cause of a page's cause table, holding `inst` in bits 19:12. -/
def Dev.raise (pg : Nat) (c : Cause) (inst : Nat) (d : Dev) : Dev := d.report c.cls pg inst c.code

/-- Report a cause and, when it is C2, enter its condition, which keeps the page in its safe state (R380). -/
def Dev.fault (pg : Nat) (c : Cause) (inst : Nat) (d : Dev) : Dev :=
  (if c.cls = 2 then d.c2on pg c.code inst else d).raise pg c inst

/-- The order of reports that arrive in one FABCLK cycle (R372): class, page, instance, cause. -/
def repBefore (a b : Nat × Nat × Nat × Nat) : Bool :=
  if a.1 != b.1 then decide (b.1 < a.1)
  else if a.2.1 != b.2.1 then decide (a.2.1 < b.2.1)
  else if a.2.2.1 != b.2.2.1 then decide (a.2.2.1 < b.2.2.1)
  else decide (a.2.2.2 < b.2.2.2)

/-- Insert a report (class, page, instance, cause) in that order. -/
def repInsert (r : Nat × Nat × Nat × Nat) : List (Nat × Nat × Nat × Nat) → List (Nat × Nat × Nat × Nat)
  | [] => [r]
  | x :: xs => if repBefore r x then r :: x :: xs else x :: repInsert r xs

/-- The reports sorted in that order. -/
def repSort (l : List (Nat × Nat × Nat × Nat)) : List (Nat × Nat × Nat × Nat) := l.foldr repInsert []

/-- Reports that arrive in one FABCLK cycle (R372). -/
def Dev.reportMany (l : List (Nat × Nat × Nat × Nat)) (d : Dev) : Dev :=
  d.each (repSort l) fun r => Dev.report r.1 r.2.1 r.2.2.1 r.2.2.2

/-- The head's handling is completed: QUEUE0 becomes the head, its program cycle begins afresh (R378). -/
def completeHead (d : Dev) : Dev :=
  match d.flt.queue with
  | [] => { d with flt := { d.flt with head := none, begun := false } }
  | q :: qs => { d with flt := { d.flt with head := some q, begun := false, queue := qs } }

/-- A write to `FLT.ACK` (R378): the head's value completes it, any other raises ACKMIS. -/
def fltAckWrite (v : Nat) (d : Dev) : Dev :=
  match d.flt.head with
  | some h => if h.val = v then completeHead d else d.ev pgFLT Ev.FLT.ACKMIS
  | none => d.ev pgFLT Ev.FLT.ACKMIS

/-- At a program-cycle boundary under ACKMODE 0: complete a head that has been head for a full program cycle, then let
the present head's program cycle begin (R378). -/
def fltBoundary (d : Dev) : Dev :=
  let d := if !d.on pgFLT FLT.FLT_CFG.ACKMODE && d.flt.begun then completeHead d else d
  { d with flt := { d.flt with begun := d.flt.head.isSome } }

/-- Causes whose halt is not followed by an automatic reset (R382), as (page, cause). -/
def noAutoReset (entry : Nat) : Bool :=
  let pg := entry / 2 ^ 20 % 256
  let c := entry % 4096
  (pg == pgIMD && (c == Cz.IMD.PPASS.code || c == Cz.IMD.DBGHALT.code)) ||
  (pg == pgSEAL && (c == Cz.SEAL.SEALCHK.code || c == Cz.SEAL.SEALRSV.code || c == Cz.SEAL.SEALFLT.code ||
    c == Cz.SEAL.TAMPER.code)) ||
  (pg == pgSAFE && (c == Cz.SAFE.PCRBAD.code || c == Cz.SAFE.LINERB.code))

end Sys2Proof.Machine
end

