-- ==== Sys2Proof/Machine/AxisBase.lean ====
section
/-! DEFINITION. What every part of an axis shares: drive modes (R92 to R95), stop requests (R143, R149), and how a fault
of an axis reaches the fault manager, the stop path and the sequencer (R106, R114, R241, R285). -/

namespace Sys2Proof.Machine

/-! Drive mode codes (table "Drive modes"). -/

abbrev mOFF : Nat := 0
abbrev mBRAKE : Nat := 1
abbrev mCURRENT : Nat := 2
abbrev mSERVO : Nat := 3
abbrev mCAL : Nat := 4
abbrev mTEST : Nat := 5

/-- Whether a mode puts the gates under PWM. -/
def isPwm (m : Nat) : Bool := m == mCURRENT || m == mSERVO || m == mTEST

/-- Enter a drive mode; entering CURRENT, SERVO or TEST from elsewhere clears the integrators (R95), OFF clears them too. Model's
choice: until the engine has computed a set, every phase is commanded to half the period (compare value 2,000); the manual gives no
compare values for the first PWM period (assumption log 70). -/
def setMode (a m : Nat) (d : Dev) : Dev :=
  let old := (d.drv a).mode
  let d := d.modDrv a fun x =>
    if isPwm m && old == m then { x with modeReq := none }
    else { x with mode := m, modeReq := none, xd := 0, xq := 0, xv := 0,
                  cmp := if isPwm m then x.cmp else {}, cmpNext := if isPwm m then { u := 2000, v := 2000, w := 2000, x := 2000 } else {},
                  iqNext := if m == mOFF then 0 else x.iqNext, iqUse := if m == mOFF then 0 else x.iqUse }
  (d.put (pgDRV a) (drvReg a LEAF.DRV_STAT.MODE) m).putB (pgDRV a) (drvReg a LEAF.DRV_STAT.BEN) (isPwm m)

/-- The MOTCLK count of an axis's valley: the grid valley delayed by `PHOFS` (R63). -/
def axisValley (d : Dev) (a : Nat) : Nat := d.tim.valley + d.get (pgDRV a) LEAF.TIMING.PHOFS

/-- An axis's carrier at a MOTCLK count: the grid counter, 0 at the valley and 4,000 at the peak, delayed by `PHOFS` (R63). -/
def carrierAt (d : Dev) (a t : Nat) : Nat :=
  let c := (t + 8000 - axisValley d a % 8000) % 8000
  if c ≤ 4000 then c else 8000 - c

/-- Whether the engine holds mode OFF on a leaf axis: a latched fault (R106), an asserted bridge disable (R68), a field die in its
safe state or lost (R93), or device safe halt (R381). -/
def offHeld (d : Dev) (n : Nat) : Bool :=
  d.flt.halt || (d.drv n).latch != 0 || (d.drv n).pltDis || !(d.di (n / 4)).alive || (d.di (n / 4)).standalone || d.on (pgFIO (n / 4)) FIO.LINK.LOST

/-- One more in a counter of `DIAG`: a leaf page shows it with the current loop (R117). -/
def diagInc (a : Nat) (f : Fld) (up : DiagX → DiagX) (d : Dev) : Dev :=
  if a < 8 then d.modDrv a fun x => { x with diag := up x.diag } else d.incSat (pgDRV a) (drvReg a f)

/-- The mode that "commanded off" gives (R93). -/
def offMode (d : Dev) (n : Nat) : Nat := if d.on (pgLEAF n) LEAF.DRV_CFG.DISMODE then mBRAKE else mOFF

/-- The even leaf of a doorway pair. -/
def evenOf (n : Nat) : Nat := n / 2 * 2

/-- The other leaf of a doorway pair. -/
def partnerOf (n : Nat) : Nat := if n % 2 = 0 then n + 1 else n - 1

/-- Whether the ligature of a leaf is formed. -/
def ligFormed (d : Dev) (n : Nat) : Bool := (d.lf (evenOf n)).lig.formed

/-- The leader of a leaf's ligature. -/
def ligLeader (d : Dev) (n : Nat) : Nat := evenOf n + b2n (d.lf (evenOf n)).lig.odd

/-- Whether a leaf is the follower of a formed ligature. -/
def isFollower (d : Dev) (n : Nat) : Bool := ligFormed d n && ligLeader d n != n

/-- The member on which a stop path of kind 1 or 2 is carried out (R143). -/
def stopTarget (d : Dev) (n kind : Nat) : Nat := if kind < 3 && isFollower d n then ligLeader d n else n

/-- Request a stop path: 1 stop, 2 quick stop, 3 hard stop. The harshest request stands until it is taken (R149). `own`
marks the sequencer's own requests. -/
def reqStop (n kind : Nat) (own : Bool) (d : Dev) : Dev :=
  let d := d.modPrf (stopTarget d n kind) fun p =>
    if p.stopReq < kind ∧ ¬(p.stopKind < 3 ∧ kind ≤ p.stopKind) then { p with stopReq := kind, stopOwn := own } else p
  if kind = 3 then d.modSeq n fun q => { q with hardFault := q.hardFault || !q.hardLock } else d

/-- A fault event of a leaf (R241): the sequencer takes it at its next evaluation. -/
def seqFault (n code : Nat) (d : Dev) : Dev := d.modSeq n fun q => { q with fault := some (q.fault.getD code) }

/-- The page of a leaf is out of service: off, or parked (R112, R116). -/
def leafOut (d : Dev) (n : Nat) : Bool := d.pgState (pgLEAF n) == 0 || d.pgState (pgLEAF n) == 3

/-- A class C2 fault of a leaf on one of its pages: entry, condition, stop path and fault event. -/
def leafFault (n pg : Nat) (c : Cause) (inst path : Nat) (d : Dev) : Dev :=
  seqFault n c.code (reqStop n path false (d.fault pg c inst))

/-- A class C2 fault of a step on one of its pages: entry, condition and fault event (R285). -/
def stepFault (k pg : Nat) (c : Cause) (inst : Nat) (d : Dev) : Dev :=
  (d.fault pg c inst).modStp k fun s => { s with fault := true }

/-- The stop path of a class C2 cause of a leaf's pages, as the cause tables give it: 2 quick stop, 3 gates off or hard stop,
0 where the table names no path. -/
def causePath (pg code : Nat) : Nat :=
  if 0x18 ≤ pg ∧ pg < 0x20 then 2
  else if code = 0x007 ∨ code = 0x020 ∨ code = 0x021 ∨ code = 0x022 ∨ code = 0x025 then 2
  else if 0x040 ≤ code then 0 else 3

/-- A fault event of an axis whose path is `path` on a leaf; a step goes to FAULT with its gates off (R285), after its own
quick stop where the path is the quick stop (R266). -/
def axisFault (a : Nat) (c : Cause) (inst path : Nat) (d : Dev) : Dev :=
  if a < 8 then leafFault a (pgLEAF a) c inst path d
  else if path = 2 then (d.fault (pgSTEP (a - 8)) c inst).modStp (a - 8) fun s => { s with faultQ := true }
  else stepFault (a - 8) (pgSTEP (a - 8)) c inst d

/-- A drive page reaches RUN: a step with AUTOHOME acts as if HOME had been written (R108, R287). -/
def pageRun (a : Nat) (d : Dev) : Dev :=
  let d := d.setPg (pgDRV a) 2
  if 8 ≤ a ∧ d.on (pgDRV a) STEP.STP_CFG.AUTOHOME ∧ (d.drv a).parkPend = 0 then d.modStp (a - 8) fun s => { s with cmd := some .home } else d

/-- Whether the drive of an axis raises faults now: not while its page is OFF or PARKED (R107, R114). -/
def drvReports (d : Dev) (a : Nat) : Bool := d.hasAxis a && (d.pgState (pgDRV a) == 1 || d.pgState (pgDRV a) == 2)

/-- Latch a drive fault (R106): its bit and its condition set, `DRV_STAT.LATCH` reads 1. Bits are numbered by cause. -/
def latchDrive (a bitNo : Nat) (d : Dev) : Dev :=
  (d.modDrv a fun x => { x with latch := setBit x.latch bitNo true, cond := setBit x.cond bitNo true }).putB
    (pgDRV a) (drvReg a LEAF.DRV_STAT.LATCH) true

/-- A fault condition appears or ends. -/
def setCond (a bitNo : Nat) (b : Bool) (d : Dev) : Dev := d.modDrv a fun x => { x with cond := setBit x.cond bitNo b }

/-- Mode OFF at the end of a calibration: a mode request that arrived during it still stands (R111). Model's choice: OFF also where
the calibration was accepted in BRAKE, until the sequencer commands the bridge off again (assumption log 81). -/
def calOff (a : Nat) (d : Dev) : Dev :=
  let req := (d.drv a).modeReq
  (setMode a mOFF d).modDrv a fun x => { x with modeReq := req }

/-- Abort a calibration under way as failed (R109, R111): offsets kept, CALST failed, event CAL, cause CALFAIL; a mode request
that waited is taken at the next valley. -/
def calAbort (a : Nat) (d : Dev) : Dev :=
  if (d.drv a).cal.on then
    let d := d.modDrv a fun x => { x with cal := {}, step := .none }
    ((calOff a d).put (pgDRV a) (drvReg a LEAF.DRV_STAT.CALST) 3 |>.ev (pgDRV a) Ev.LEAF.CAL).raise (pgDRV a) Cz.LEAF.CALFAIL 0xFF
      |>.iff_ (d.pgState (pgDRV a) == 1) (pageRun a)
  else d

/-- A drive fault that latches and turns the gates off at once (R72 to R74, R97, R100 to R103): event, latch, mode OFF,
entry and fault event; a calibration aborts. -/
def drvFaultOff (a ev : Nat) (c : Cause) (inst : Nat) (d : Dev) : Dev :=
  axisFault a c inst 3 (gatesOff a (calAbort a (latchDrive a c.code (d.ev (pgDRV a) ev)))
    |>.putB (pgDRV a) (drvReg a LEAF.DRV_STAT.BEN) false)

/-- Bit `i` of `IN_NOW` of a die: its debounced local input `i` (R415, R417). -/
def inNow (d : Dev) (x i : Nat) : Bool := bit (d.get (pgFIO x) FIO.IN_NOW.IN) i

/-- Safety input `n` as `IN_NOW` holds it. -/
def siNow (d : Dev) (n : Nat) : Bool := inNow d (n / 8) (16 + n % 8)

/-- The input of a select code: DI0 to DI31, SI0 to SI15, else inactive (chapter "Leaf motion profiles", the
input-select encoding; all read `IN_NOW`, R417). -/
def inputSel (d : Dev) (sel : Nat) : Bool :=
  if sel < 0x20 then inNow d (sel / 16) (sel % 16)
  else if 0x40 ≤ sel ∧ sel < 0x50 then siNow d (sel - 0x40)
  else false

/-- Whether a select code names no input: 0xFF, or a value that the encoding treats as 0xFF. -/
def selNone (sel : Nat) : Bool := !(decide (sel < 0x20) || (decide (0x40 ≤ sel) && decide (sel < 0x50)))

/-- The input of a select code under a polarity bit: 1 inverts; a select that names no input is inactive. -/
def inputPol (d : Dev) (sel : Nat) (inv : Bool) : Bool := !selNone sel && (inputSel d sel != inv)

/-- The leaf whose page gives a doorway's commands, signals, STEPSEL and CARSIDE: the even leaf of a pair under DWMODE
(R257). -/
def dwPage (d : Dev) (n : Nat) : Nat := if d.on (pgLEAF (evenOf n)) LEAF.SEQ_CFG.DWMODE then evenOf n else n

/-- Whether a leaf's train side is right under the orientation that the processor channel applies (R260). -/
def sideRight (d : Dev) (n : Nat) : Bool := d.on (pgLEAF (dwPage d n)) LEAF.SEQ_CFG.CARSIDE != d.sy.ori

/-- The processor channel's release of a side: decision RELR in bit 0, RELL in bit 1 (R236, R311). -/
def sideReleased (d : Dev) (right : Bool) : Bool := bit d.sx.dec (if right then 0 else 1)

/-- *released* of a leaf: the processor channel's release of its train side (R236, R260). -/
def released (d : Dev) (n : Nat) : Bool := sideReleased d (sideRight d n)

/-- A leaf state in which direct motion commands are permitted (R134, R249). -/
def directState (d : Dev) (n : Nat) : Bool := (d.seq n).st == .open_ || (d.seq n).st == .obstructed

/-- Leaf rest (R234). -/
def leafRest (d : Dev) (n : Nat) : Bool :=
  let s := (d.seq n).st
  let m := (d.drv n).mode
  (s == .unref || s == .closedLocked || s == .open_ || s == .obstructed || s == .isolated || s == .emerg || s == .fault) &&
  (m == mOFF || m == mBRAKE || (d.prf n).still)

/-- Whether the observer of a leaf computes nothing because its page is disabled or its KF is 0 (R116, R174). -/
def obsBlind (d : Dev) (n : Nat) : Bool := !d.enabled (pgOBS n) || d.get (pgOBS n) OBS.KF.KF == 0

/-- The refusals that a blind observer brings raise KFZERO only where its page is enabled (R116, R174). -/
def kfZero (n : Nat) (d : Dev) : Dev := d.evIf (d.enabled (pgOBS n)) (pgOBS n) Ev.OBS.KFZERO

/-- The level of a leaf's open-end or closed-end switch under `LIMCFG` (R150). -/
def limLevel (d : Dev) (n : Nat) (openEnd : Bool) : Bool :=
  if openEnd then inputPol d (d.get (pgLEAF n) LEAF.LIMCFG.LIMO_SRC) (d.on (pgLEAF n) LEAF.LIMCFG.LIMO_POL)
  else inputPol d (d.get (pgLEAF n) LEAF.LIMCFG.LIMC_SRC) (d.on (pgLEAF n) LEAF.LIMCFG.LIMC_POL)

/-- The configured mode of a limit switch (R150). -/
def limMode (d : Dev) (n : Nat) (openEnd : Bool) : Nat :=
  if openEnd then d.get (pgLEAF n) LEAF.LIMCFG.LIMO_MODE else d.get (pgLEAF n) LEAF.LIMCFG.LIMC_MODE

end Sys2Proof.Machine
end

