-- ==== Sys2Proof/Machine/Planner.lean ====
section
/-! DEFINITION. The planner that the profile generator of a leaf axis and the motion engine of a step axis share (R127 to
R132, R145, R266): jerk-limited plans in continuous time, evaluated at servo boundaries. Set-points are in 1/65,536 of
µm, µm/s and µm/s²; a plan's arithmetic rounds below that resolution (assumption log 15). -/

namespace Sys2Proof.Machine

/-- A second in ps. -/
abbrev psSec : Nat := 1000000000000

/-- A servo period of 256 µs in ps. -/
abbrev psServo : Nat := 256000000

/-- The state after `t` ps at constant jerk `j` µm/s³. -/
def SetPt.adv (s : SetPt) (j : Int) (t : Nat) : SetPt :=
  let jq := j * 65536
  let t : Int := t
  { a := s.a + jq * t / 1000000000000
    v := s.v + (s.a * t * 2000000000000 + jq * t * t) / 2000000000000000000000000
    p := s.p + (s.v * t * 6000000000000000000000000 + s.a * t * t * 3000000000000 + jq * t * t * t) /
      6000000000000000000000000000000000000 }

/-- The state at the end of a list of phases. -/
def phasesEnd (s : SetPt) : List Phase → SetPt
  | [] => s
  | ph :: phs => phasesEnd (s.adv ph.jerk ph.dur) phs

/-- The whole duration of a list of phases, in ps. -/
def phasesDur : List Phase → Nat
  | [] => 0
  | ph :: phs => ph.dur + phasesDur phs

/-- The state `t` ps after the start and the phase it lies in, 0 after the last. -/
def phasesAt (s : SetPt) : List Phase → Nat → SetPt × Nat
  | [], _ => (s, 0)
  | ph :: phs, t => if t < ph.dur then (s.adv ph.jerk t, ph.tag) else phasesAt (s.adv ph.jerk ph.dur) phs (t - ph.dur)

/-- A phase, left out when it takes no time. -/
def phase (tag : Nat) (j : Int) (t : Int) : List Phase := if t ≤ 0 then [] else [{ tag, jerk := j, dur := t.toNat }]

/-- The phases that take speed `v` with acceleration `a` to speed `v1` with acceleration 0, under an acceleration limit
`lim` µm/s² and a jerk limit `j` µm/s³; numbered `tag` to `tag + 2` (R127). -/
def ramp (tag : Nat) (v a v1 : Int) (lim j : Nat) : List Phase :=
  let jq : Int := j * 65536
  let l : Int := lim * 65536
  let ps : Int := psSec
  let va := v + a * absI a / (2 * jq)
  let s : Int := if v1 < va then -1 else 1
  let x := s * (v1 - v)
  let b := s * a
  let pk : Int := isqrt (jq * x + b * b / 2).toNat
  if b > l then
    phase tag (-s * j) ((b - l) * ps / jq) ++ phase (tag + 1) 0 ((2 * jq * x - b * b) * ps / (2 * jq * l)) ++
      phase (tag + 2) (-s * j) (l * ps / jq)
  else if pk ≤ l then phase tag (s * j) ((pk - b) * ps / jq) ++ phase (tag + 2) (-s * j) (pk * ps / jq)
  else
    phase tag (s * j) ((l - b) * ps / jq) ++
      phase (tag + 1) 0 ((2 * jq * x - 2 * l * l + b * b) * ps / (2 * jq * l)) ++
      phase (tag + 2) (-s * j) (l * ps / jq)

/-- The phases that bring speed `v` ≥ 0 with acceleration `a` to rest (R145). Where taking back an opposing acceleration
at the jerk limit would carry the speed through 0, the constant jerk a² / 2|v| brings both to 0 together. -/
def stopPhases (v a : Int) (lim j : Nat) : List Phase :=
  if v = 0 ∧ a = 0 then []
  else if v + a * absI a / (2 * (j * 65536)) < 0 then
    if v = 0 then [] else phase 7 (a * a / (2 * v * 65536)) (2 * v * psSec / absI a)
  else ramp 5 v a 0 lim j

/-- The direction of motion: of the speed, at rest of the acceleration, 0 when both are 0. -/
def dirOf (s : SetPt) : Int := if s.v > 0 then 1 else if s.v < 0 then -1 else if s.a > 0 then 1 else if s.a < 0 then -1 else 0

/-- The state with its direction reversed when `d` is -1. -/
def SetPt.flip (d : Int) (s : SetPt) : SetPt := { p := d * s.p, v := d * s.v, a := d * s.a }

/-- Phases with their direction reversed when `d` is -1. -/
def flipPhases (d : Int) (l : List Phase) : List Phase := l.map fun ph => { ph with jerk := d * ph.jerk }

/-- The largest value between `lo` and `hi` at which `ok` holds, by `n` halvings; `lo` when it holds at none tried. -/
def bisect (ok : Int → Bool) : Nat → Int → Int → Int
  | 0, lo, _ => lo
  | n + 1, lo, hi =>
    let m := (lo + hi + 1) / 2
    if ok m then bisect ok n m hi else bisect ok n lo (m - 1)

/-- Distance covered by phases from speed `v` and acceleration `a`. -/
def distOf (v a : Int) (l : List Phase) : Int := (phasesEnd { p := 0, v := v, a := a } l).p

/-- The speed to which speed `v` comes when acceleration `a` is taken back at the jerk limit `j` µm/s³. -/
def relaxed (v a : Int) (j : Nat) : Int := v + a * absI a / (2 * (j * 65536))

/-- The phases that take speed `v` with acceleration `a` to speed `x` with acceleration 0: AMAX holds on the way up, DMAX when `x`
lies below the speed that the present acceleration leads to (R127, R129). -/
def rampTo (v a x : Int) (l : Limits) : List Phase := ramp 1 v a x (if x < relaxed v a l.j then l.d else l.a) l.j

/-- Phases without the last `t` ps of their last one. -/
def cutLast (ps : List Phase) (t : Int) : List Phase :=
  ps.dropLast ++ (match ps.getLast? with
    | some ph => phase ph.tag ph.jerk ((ph.dur : Int) - t)
    | none => [])

/-- The phases that slow from speed `v` and acceleration `a` to speed `vEnd` with acceleration `aEnd` ≤ 0: to rest, or along the ramp to
the speed at which `aEnd` would be taken back, left where it stands at `vEnd`. -/
def slowTo (v a vEnd aEnd : Int) (l : Limits) : List Phase :=
  if vEnd = 0 ∧ aEnd = 0 then stopPhases v a l.d l.j
  else cutLast (ramp 5 v a (vEnd - aEnd * aEnd / (2 * (l.j * 65536))) l.d l.j) (-aEnd * psSec / (l.j * 65536))

/-- The lowest speed from which `slowTo` comes to speed `vEnd` with acceleration `aEnd`. -/
def slowFrom (vEnd aEnd : Int) (l : Limits) : Int := vEnd + aEnd * aEnd / (2 * (l.j * 65536))

/-- The phases over a distance ahead, ending at speed `vEnd` with acceleration `aEnd` (both 0 unless a slower range follows): the
highest peak speed up to `vlim` that the distance allows, with cruise when `vlim` is reached (R127). From the lowest peak at which
the acceleration is taken back wholly, the distance grows with the peak; where even that is too long, the deceleration is taken
back only to `a1` and then taken up again. -/
def planFwd (v a dist vEnd aEnd vlim : Int) (l : Limits) : List Phase :=
  let up (x : Int) := rampTo v a x l
  let down (x : Int) := slowTo x 0 vEnd aEnd l
  let f (x : Int) := distOf v a (up x ++ down x)
  let va := maxI 0 (relaxed v a l.j)
  let low := maxI (minI va vlim) (slowFrom vEnd aEnd l)
  if f vlim ≤ dist then
    up vlim ++ (if vlim > 0 then phase 4 0 ((dist - f vlim) * psSec / vlim) else []) ++ down vlim
  else if low ≤ vlim ∧ f low ≤ dist then
    let x := bisect (fun x => decide (f x ≤ dist)) 48 low vlim
    up x ++ down x
  else
    let jq : Int := l.j * 65536
    let free (a1 : Int) : List Phase :=
      if va ≤ vlim then phase 1 l.j ((a1 - a) * psSec / jq)
      else cutLast (ramp 1 v a (vlim - a1 * a1 / (2 * jq)) l.d l.j) (-a1 * psSec / jq)
    let g (a1 : Int) : List Phase :=
      let e := phasesEnd { p := 0, v := v, a := a } (free a1)
      free a1 ++ slowTo e.v e.a vEnd aEnd l
    let lo : Int :=
      if va ≤ vlim then minI a 0
      else -(minI (l.d * 65536) (minI (isqrt (2 * jq * (v - vlim) + a * a).toNat) (isqrt (2 * jq * vlim).toNat)))
    g (bisect (fun a1 => decide (distOf v a (g a1) ≤ dist)) 48 lo 0)

/-- The instant, in ps after the start, up to which phases stay at or below position `q`. -/
def timeAt (s : SetPt) (l : List Phase) (q : Int) : Nat :=
  (bisect (fun t => decide ((phasesAt s l t.toNat).1.p ≤ q)) 56 0 (phasesDur l)).toNat

/-- What is left of phases after `t` ps, with the state there. -/
def afterTime (s : SetPt) : List Phase → Nat → SetPt × List Phase
  | [], _ => (s, [])
  | ph :: phs, t =>
    if t < ph.dur then (s.adv ph.jerk t, { ph with dur := ph.dur - t } :: phs) else afterTime (s.adv ph.jerk ph.dur) phs (t - ph.dur)

/-- The first `t` ps of phases. -/
def firstTime : List Phase → Nat → List Phase
  | [], _ => []
  | ph :: phs, t => if t < ph.dur then [{ ph with dur := t }] else ph :: firstTime phs (t - ph.dur)

/-- The highest speed along phases: at their ends, and where the acceleration passes through 0 within one. -/
def peakOf (s : SetPt) : List Phase → Int
  | [] => s.v
  | ph :: phs =>
    let e := s.adv ph.jerk ph.dur
    maxI (if s.a > 0 ∧ e.a < 0 then s.v + s.a * s.a / (2 * absI ph.jerk * 65536) else s.v) (peakOf e phs)

/-- Whether phases stay at or below speed `u` between two positions, within the rounding of the arithmetic. -/
def keepsBelow (s : SetPt) (l : List Phase) (q0 q1 u : Int) : Bool :=
  let t0 := timeAt s l q0
  let r := afterTime s l t0
  decide (peakOf r.1 (firstTime r.2 (timeAt s l q1 - t0)) ≤ u + 64)

/-- A closing move, mirrored so that it moves forward, inside the approach zone whose end is position 0 (R125). -/
def planInside (s : SetPt) (tgt vz vlim : Int) (l : Limits) : List Phase :=
  let slow := planFwd s.v s.a (tgt - s.p) 0 0 vz l
  if tgt ≤ 0 ∨ vlim ≤ vz then slow
  else
    let full := planFwd s.v s.a (tgt - s.p) 0 0 vlim l
    if keepsBelow s full s.p 0 vz then full
    else if distOf vz 0 (stopPhases vz 0 l.d l.j) ≥ tgt then slow
    else if distOf s.v s.a (rampTo s.v s.a vz l) > -s.p then slow
    else
      let x := planFwd s.v s.a (-s.p) vz 0 vz l
      let e := phasesEnd s x
      x ++ planFwd e.v e.a (tgt - e.p) 0 0 vlim l

/-- The speed and acceleration with which a move enters the approach zone, with `room` left to its target: the zone's speed `vz`,
decelerating as little as the stop at the target allows; where that needs a speed beyond `vlim` before, a lower speed (R125). -/
def zoneEntry (room vz vlim : Int) (l : Limits) : Int × Int :=
  let jq : Int := l.j * 65536
  let stopD (u a1 : Int) := distOf u a1 (stopPhases u a1 l.d l.j)
  let lo : Int := -(minI (l.d * 65536) (minI (isqrt (2 * jq * vz).toNat) (isqrt (2 * jq * (vlim - vz)).toNat)))
  let a1 := if stopD vz 0 ≤ room then 0 else bisect (fun a1 => decide (stopD vz a1 ≤ room)) 48 lo 0
  if stopD vz a1 ≤ room then (vz, a1) else (bisect (fun u => decide (stopD u 0 ≤ room)) 48 0 vz, 0)

/-- The shortest phases from speed `v` and acceleration `a` to speed `u` with acceleration `a1` ≤ 0. -/
def reachEnd (v a u a1 : Int) (l : Limits) : List Phase :=
  let x := slowFrom u a1 l
  if x ≤ relaxed v a l.j then slowTo v a u a1 l else rampTo v a x l ++ slowTo x 0 u a1 l

/-- The entry state of an approach zone `room` ahead where the one that the stop at the target would have does not lie that near: at
speed `u`, or at the zone's speed `vz` where that is too slow too, still braking, as little as distance and stop allow (R125,
R129). -/
def lateEntry (s : SetPt) (room left u vz : Int) (l : Limits) : Option (Int × Int) :=
  let jq : Int := l.j * 65536
  let lo (w : Int) : Int :=
    -(minI (l.d * 65536) (minI (isqrt (2 * jq * w).toNat) (isqrt (2 * jq * maxI 0 (relaxed s.v s.a l.j - w)).toNat)))
  let near (w a1 : Int) : Bool := decide (distOf s.v s.a (reachEnd s.v s.a w a1 l) ≤ room)
  let fits (w a1 : Int) : Bool := near w a1 && decide (distOf w a1 (stopPhases w a1 l.d l.j) ≤ left)
  let w := if near u (lo u) then u else vz
  if fits w (lo w) then some (w, bisect (fits w) 48 (lo w) 0) else none

/-- A move forward to `tgt` from a state that can still stop before it; with an approach zone (mirrored, a closing move
moves forward and the zone lies from `-zone` to 0) the speed stays within the zone's limit from its entrance on (R125). -/
def planAhead (s : SetPt) (tgt : Int) (l : Limits) : List Phase :=
  let vlim : Int := l.v * 65536
  let vz := minI vlim (l.zoneV * 65536)
  let zin : Int := -(l.zone * 65536 : Nat)
  let full := planFwd s.v s.a (tgt - s.p) 0 0 vlim l
  if l.zone = 0 ∨ s.p ≥ 0 ∨ tgt ≤ zin then full
  else if s.p ≥ zin then planInside s tgt vz vlim l
  else if keepsBelow s full zin 0 vz then full
  else
    let (u, a1) := zoneEntry (tgt - zin) vz vlim l
    let enter (u a1 : Int) : List Phase :=
      let x := planFwd s.v s.a (zin - s.p) u a1 vlim l
      x ++ planInside (phasesEnd s x) tgt vz vlim l
    if distOf s.v s.a (reachEnd s.v s.a u a1 l) ≤ zin - s.p then enter u a1
    else match lateEntry s (zin - s.p) (tgt - zin) u vz l with
      | some (w, a2) => enter w a2
      | none => planFwd s.v s.a (tgt - s.p) 0 0 vz l

/-- A move to `tgt` µm planned from a set-point state (R127, R131, R132): straight on when the target lies ahead beyond the
stopping distance under the new limits; else to rest under the limits `old` and from rest to the target. -/
def makePlan (s : SetPt) (tgt : Int) (set : Nat) (limO limC old : Limits) : Plan :=
  let t := tgt * 65536
  let base : Plan := { start := s, target := tgt, set := set, limO := limO, limC := limC }
  let fromRest (r : SetPt) : List Phase :=
    if t = r.p then []
    else
      let d : Int := if t > r.p then 1 else -1
      flipPhases d (planAhead { p := d * r.p } (d * t) (if d = 1 then limO else limC))
  let dir := dirOf s
  if dir = 0 then { base with phases := fromRest s }
  else
    let m := s.flip dir
    let l := if dir = 1 then limO else limC
    if (phasesEnd m (stopPhases m.v m.a l.d l.j)).p ≤ dir * t + 64 then
      { base with phases := flipPhases dir (planAhead m (dir * t) l) }
    else
      let st := flipPhases dir (stopPhases m.v m.a old.d old.j)
      { base with phases := st ++ fromRest { p := (phasesEnd s st).p }, ovs := true }

/-- A stop path planned from a set-point state under a deceleration and a jerk limit (R145). -/
def makeStop (s : SetPt) (dec j : Nat) : Plan :=
  let dir := dirOf s
  let m := s.flip dir
  let ph := flipPhases dir (stopPhases m.v m.a dec j)
  { start := s, phases := ph, target := (phasesEnd s ph).p / 65536 }

/-- Servo boundaries from the plan's start to the first one at or after its end (R128). -/
def Plan.len (p : Plan) : Nat := (phasesDur p.phases + psServo - 1) / psServo

/-- Servo boundaries left until the plan's end is issued (R128). -/
def Plan.remain (p : Plan) : Nat := p.len - p.elapsed

/-- The set-point of a planned move at the boundary it stands at, with the phase (R128): the target at its end. -/
def Plan.at_ (p : Plan) : SetPt × Nat :=
  if p.len ≤ p.elapsed then ({ p := p.target * 65536 }, 0) else phasesAt p.start p.phases (p.elapsed * psServo)

/-- The set-point of a stop path at the boundary it stands at: at its end, at rest where its phases lead. -/
def Plan.stopAt (p : Plan) : SetPt × Nat :=
  if p.len ≤ p.elapsed then ({ p := (phasesEnd p.start p.phases).p }, 0)
  else phasesAt p.start p.phases (p.elapsed * psServo)

/-- The plan one servo boundary on. -/
def Plan.tick (p : Plan) : Plan := { p with elapsed := p.elapsed + 1 }

end Sys2Proof.Machine
end

