-- ==== Sys2Proof/Machine/Profile.lean ====
section
/-! DEFINITION. Leaf motion profiles: limits (R122 to R125), set-point sources (R119 to R121), moves (R127 to R135), the
set-point queue (R136 to R139), ligatures (R140 to R144), stop paths (R145 to R149) and limit switches (R150 to
R152). -/

namespace Sys2Proof.Machine

/-- The kinetic-energy cap of a direction in µm/s, rounded down (R123). -/
def vcap (d : Dev) (n : Nat) (opening : Bool) : Nat :=
  let e := if opening then d.get (pgLEAF n) LEAF.ECAP.EMAXO else d.get (pgLEAF n) LEAF.ECAP.EMAXC
  isqrt (200000000000 * e / d.get (pgLEAF n) LEAF.MASS.MASS)

/-- Both caps are recomputed when a field of them takes a new active value (R123). -/
def publishCaps (n : Nat) (d : Dev) : Dev :=
  (d.put (pgLEAF n) LEAF.VCAPO.VCAP (vcap d n true)).put (pgLEAF n) LEAF.VCAPC.VCAP (vcap d n false)

/-- An axis's own limits of a set in a direction (R122 to R125), in µm, µm/s, µm/s² and µm/s³. -/
def ownLimits (d : Dev) (n set : Nat) (opening : Bool) : Limits :=
  let pg := pgLEAF n
  let v := d.get pg (if set = 0 then LEAF.SET0_V.VMAX else if set = 1 then LEAF.SET1_V.VMAX else LEAF.SET2_V.VMAX)
  let a := d.get pg (if set = 0 then LEAF.SET0_A.AMAX else if set = 1 then LEAF.SET1_A.AMAX else LEAF.SET2_A.AMAX)
  let dd := d.get pg (if set = 0 then LEAF.SET0_A.DMAX else if set = 1 then LEAF.SET1_A.DMAX else LEAF.SET2_A.DMAX)
  let j := d.get pg (if set = 0 then LEAF.SET0_J.JMAX else if set = 1 then LEAF.SET1_J.JMAX else LEAF.SET2_J.JMAX)
  let c := vcap d n opening
  { v := min v c, a := a * 1000, d := dd * 1000, j := j * 1000, cap := decide (c < v)
    zone := if opening then 0 else d.get pg LEAF.APPR.APPRL * 1000
    zoneV := max 1 (d.get pg LEAF.APPR.APPRV) * 1000 }

/-- A follower's limit divided by RATIO (R141). -/
def overRatio (ratio x : Nat) : Nat := x * 16384 / max 1 ratio

/-- The limits of a move: for the leader of a formed ligature the lower of both members' (R122, R141). -/
def limitsOf (d : Dev) (n set : Nat) (opening : Bool) : Limits :=
  let l := ownLimits d n set opening
  if ligFormed d n then
    let r := d.get (pgLEAF (evenOf n)) LEAF.LIG.RATIO
    let f := ownLimits d (partnerOf n) set opening
    { l with v := min l.v (overRatio r f.v), a := min l.a (overRatio r f.a), d := min l.d (overRatio r f.d)
             j := min l.j (overRatio r f.j)
             cap := if overRatio r f.v < l.v then f.cap else l.cap }
  else l

/-- Deceleration and jerk of a stop path (table "Stop paths", R145). -/
def stopLimits (d : Dev) (n kind : Nat) : Nat × Nat :=
  let pg := pgLEAF n
  let sd := d.get pg LEAF.STOPR.STOPD
  let sj := d.get pg LEAF.STOPJ.STOPJ
  if kind = 1 then (sd * 1000, sj * 1000)
  else (max sd (d.get pg LEAF.STOPR.QSTD) * 1000, max sj (d.get pg LEAF.QSTJ.QSTJ) * 1000)

/-- The state from which a new source starts at this boundary, and how many boundaries it has already run (R121, R128,
R145): a plan's own value at this boundary; else the last issued state, which the new source continues. -/
def fromState (p : PrfX) : SetPt × Nat :=
  match p.src, p.plan, p.stopPlan with
  | 1, some q, _ => (q.tick.at_.1, 0)
  | 4, _, some q => (q.tick.stopAt.1, 0)
  | 2, _, _ => (p.sp, 1)
  | 3, _, _ => (p.sp, 1)
  | _, _, _ => ({ p := p.sp.p }, 0)

/-- Whether v_cap is the effective speed limit of a move at a set-point, in the direction of its present motion: inside the approach
zone a lower APPRV is (R122, R124, R125). -/
def capBinds (q : Plan) (s : SetPt) : Bool :=
  let opening := if dirOf s = 0 then decide (q.target * 65536 ≥ s.p) else decide (0 < dirOf s)
  let inZone := decide (0 < q.limC.zone) && decide (0 ≤ s.p) && decide (s.p ≤ (q.limC.zone * 65536 : Nat))
  if opening then q.limO.cap else q.limC.cap && !(inZone && decide (q.limC.zoneV < q.limC.v))

/-- Raise KECAP once for a move whose speed the cap sets (R124). -/
def capEvent (n : Nat) (d : Dev) : Dev :=
  let p := d.prf n
  let binds := match p.plan with
    | some q => capBinds q p.sp
    | none => false
  let d := d.evIf (binds && !p.keDone) (pgLEAF n) Ev.LEAF.KECAP
  d.modPrf n fun p => { p with keDone := p.keDone || binds, keCap := binds }

/-- Plan a move at this boundary (R127, R131). -/
def startMove (n : Nat) (r : MoveReq) (d : Dev) : Dev :=
  let p := d.prf n
  let (s, e) := fromState p
  let oldSet := match p.src, p.plan with
    | 1, some q => q.set
    | _, _ => r.set
  let dir := dirOf s
  let pl := makePlan s r.tgt r.set (limitsOf d n r.set true) (limitsOf d n r.set false) (limitsOf d n oldSet (decide (dir > 0)))
  let pl := { pl with elapsed := e }
  d.modPrf n fun p => { p with plan := some pl, src := 1, sp := pl.at_.1, req := none, keDone := false }

/-- A move in progress at a boundary: replanned when its limits have changed (R132), else advanced (R128). -/
def runMove (n : Nat) (pl : Plan) (d : Dev) : Dev :=
  let lo := limitsOf d n pl.set true
  let lc := limitsOf d n pl.set false
  if lo == pl.limO && lc == pl.limC then
    let q := pl.tick
    d.modPrf n fun p => { p with plan := some q, src := 1, sp := q.at_.1 }
  else
    let s := pl.tick.at_.1
    let q := makePlan s pl.target pl.set lo lc (if dirOf s > 0 then lo else lc)
    let q := { q with ovs := q.ovs || pl.ovs }
    d.modPrf n fun p => { p with plan := some q, src := 1, sp := q.at_.1 }

/-- A stop or quick-stop path begins, or replaces a gentler one (R145, R149); it flushes the queue (R139). -/
def beginStop (n kind : Nat) (own : Bool) (d : Dev) : Dev :=
  let p := d.prf n
  let (s, e) := fromState p
  let (dec, j) := stopLimits d n kind
  let pl := { makeStop s dec j with elapsed := e }
  let d := d.modPrf n fun p =>
    { p with stopKind := kind, stopReq := if p.stopReq = 3 then 3 else 0, stopOwn := own, stopPlan := some pl, plan := none, src := 4, sp := pl.stopAt.1
             queue := [], ext := false, und := 0, undStop := false, zeroN := 0
             req := none, kept := if p.stopKind = 0 then p.kept else none }
  (d.put (pgLEAF n) LEAF.SPQ_CFG.SPMODE 0).ev (pgLEAF n) Ev.LEAF.STOP

/-- A running stop path at a boundary; servo periods since the boundary at which its speed reached 0 are counted (R147). -/
def runStop (n : Nat) (pl : Plan) (d : Dev) : Dev :=
  let q := pl.tick
  d.modPrf n fun p => { p with stopPlan := some q, src := 4, sp := q.stopAt.1
                               zeroN := if pl.len ≤ pl.elapsed then p.zeroN + 1 else 0 }

/-- A queue entry as a set-point. -/
def SpqEnt.sp (e : SpqEnt) : SetPt := { p := e.p * 65536, v := e.v * 65536, a := e.a * 65536 }

/-- The position one servo period on at constant speed: 256 µs is 16/62,500 s. -/
def SetPt.coast (s : SetPt) : Int := s.p + s.v * 16 / 62500

/-- The cap under which a queue runs: for the leader of a formed ligature the lower of its own and the follower's over RATIO
(R138, R141). -/
def queueCap (d : Dev) (n : Nat) (opening : Bool) : Nat :=
  if ligFormed d n then min (vcap d n opening) (overRatio (d.get (pgLEAF (evenOf n)) LEAF.LIG.RATIO) (vcap d (partnerOf n) opening))
  else vcap d n opening

/-- Whether an entry taken breaks a limit of R138. -/
def spqBad (d : Dev) (n : Nat) (prev : SetPt) (e : SpqEnt) : Bool :=
  let cap (up : Bool) : Int := queueCap d n up
  let dp := e.p * 65536 - prev.p
  decide (absI e.v > cap (decide (e.v > 0))) ||
  -- 1.25 × v_cap × 256 µs = v_cap × 0.00032
  decide (absI dp * 100000 > cap (decide (dp > 0)) * 32 * 65536) ||
  decide (e.p < d.geti (pgLEAF n) LEAF.SOFTMIN.SOFTMIN) || decide (e.p > d.geti (pgLEAF n) LEAF.SOFTMAX.SOFTMAX)

/-- External set-point mode at a boundary (R138, R139): an entry is taken, or the empty queue is bridged and counted. -/
def runQueue (n : Nat) (d : Dev) : Dev :=
  let p := d.prf n
  match p.queue with
  | [] =>
    let u := p.und + 1
    let s : SetPt := { p := p.sp.coast, v := p.sp.v, a := 0 }
    d.modPrf n fun p => { p with src := 2, sp := s, und := u, plan := none
                                 undStop := p.undStop || decide (u > d.get (pgLEAF n) LEAF.SPQ_CFG.UNDMAX) }
  | e :: q =>
    if spqBad d n p.sp e then
      let d := leafFault n (pgLEAF n) Cz.LEAF.SPQLIM 0xFF 2 (d.ev (pgLEAF n) Ev.LEAF.SPQ)
      beginStop n 2 false d
    else d.modPrf n fun p => { p with src := 2, sp := e.sp, queue := q, und := 0, plan := none }

/-- Entry to external set-point mode (R136, R137): the first entry must lie within SPQSTEP of the current state advanced
by one servo period; else the queue is discarded. `none`: the current source stays. -/
def enterQueue (d : Dev) (n : Nat) : Option Bool :=
  let p := d.prf n
  if d.on (pgLEAF n) LEAF.SPQ_CFG.SPMODE && decide (2 ≤ p.queue.length) && directState d n then
    match p.queue with
    | e :: _ => some (decide (absI (e.p * 65536 - p.sp.coast) ≤ d.get (pgLEAF n) LEAF.SPQ_CFG.SPQSTEP * 1000 * 65536))
    | [] => none
  else none

/-- Leaving external set-point mode when SPMODE became 0 (R139): a move to `MOVE_TGT`. Where the sequencer ended the mode (R249),
its own move, or the hold, follows. -/
def exitQueue (n : Nat) (d : Dev) : Dev :=
  let p := d.prf n
  let t0 := d.geti (pgLEAF n) LEAF.MOVE_TGT.TGT
  let t := clampI (d.geti (pgLEAF n) LEAF.SOFTMIN.SOFTMIN) (d.geti (pgLEAF n) LEAF.SOFTMAX.SOFTMAX) t0
  let d := d.evIf (t != t0) (pgLEAF n) Ev.LEAF.PCLAMP
  let d := d.modPrf n fun p => { p with ext := false, und := 0, undStop := false }
  startMove n { tgt := t, set := if t0 * 65536 < p.sp.p then 1 else 0, seq := false } d

/-- The lower rows of the source table (R119): planned move, else hold. -/
def runPlanned (n : Nat) (d : Dev) : Dev :=
  let p := d.prf n
  match p.req, p.plan with
  | some r, _ => startMove n r d
  | none, some pl => runMove n pl d
  | none, none => d.modPrf n fun p => { p with src := 0, sp := { p := p.sp.p } }

/-- The set-point of a leaf that follows no leader (R119, rows 2 and 4 to 6). -/
def setPointOwn (n : Nat) (d : Dev) : Dev :=
  let p := d.prf n
  if p.stopReq < 3 ∧ p.stopReq > p.stopKind ∧ p.stopKind < 3 then beginStop n p.stopReq p.stopOwn d
  else
    let d := d.modPrf n fun p => { p with stopReq := if p.stopReq < 3 then 0 else p.stopReq }
    match p.stopKind, p.stopPlan with
    | 1, some pl => runStop n pl d
    | 2, some pl => runStop n pl d
    | _, _ =>
      if p.ext then
        if d.on (pgLEAF n) LEAF.SPQ_CFG.SPMODE && directState d n then
          runQueue n (d.modPrf n fun p => { p with req := none })
        else if directState d n && p.req.isNone then exitQueue n d
        else runPlanned n (d.modPrf n fun p => { p with ext := false, und := 0, undStop := false })
      else if (enterQueue d n).isSome && obsBlind d n then runPlanned n (kfZero n d)
      else match enterQueue d n with
        | some true =>
          let d := d.modPrf n fun p => { p with ext := true, req := none, und := 0 }
          runQueue n (d.modSeq n fun q => { q with go := true })
        | some false => runPlanned n ((d.modPrf n fun p => { p with queue := [] }).ev (pgLEAF n) Ev.LEAF.SPQ)
        | none => runPlanned n d

/-- The set-point of the follower of a formed ligature (R141). -/
def setPointFollow (n : Nat) (d : Dev) : Dev :=
  let g := (d.lf (evenOf n)).lig
  let l := (d.prf (ligLeader d n)).sp
  let r : Int := d.get (pgLEAF (evenOf n)) LEAF.LIG.RATIO
  d.modPrf n fun p => { p with src := 3, plan := none, req := none, stopKind := if p.stopKind = 3 then 3 else 0
                               sp := { p := r * l.p / 16384 + g.ofs, v := r * l.v / 16384, a := r * l.a / 16384 } }

/-- No set-point outside SERVO: paths running or requested end without standstill, kept moves are dropped (R119, R145). -/
def setPointNone (n : Nat) (d : Dev) : Dev :=
  let off := (d.drv n).mode == mOFF
  d.modPrf n fun p => { p with src := 0, plan := none, stopPlan := none, kept := none, ext := false
                               stopKind := if p.stopKind = 3 ∧ off then 3 else 0
                               stopReq := if p.stopReq = 3 then 3 else 0, sp := { p := p.sp.p } }

/-- Publish the profile registers at a servo boundary (R153). -/
def publishProfile (n : Nat) (d : Dev) : Dev :=
  let pg := pgLEAF n
  let p := d.prf n
  let d := ((d.puti pg LEAF.SP_P.P (p.sp.p / 65536)).puti pg LEAF.SP_V.V (p.sp.v / 65536)).puti pg LEAF.SP_A.A (p.sp.a / 65536)
  let (ph, rem, ovs) := match p.plan with
    | some q => (q.at_.2, q.remain, q.ovs)
    | none => (0, 0, false)
  let d := (((d.put pg LEAF.PRF_STAT.PHASE ph).put pg LEAF.REMAIN.COUNT rem).putB pg LEAF.PRF_STAT.OVS ovs).put
    pg LEAF.PRF_STAT.SRC p.src
  let d := ((d.put pg LEAF.PRF_STAT.STOPK p.stopKind).put pg LEAF.PRF_STAT.SPQLVL p.queue.length).putB
    pg LEAF.PRF_STAT.MOVING (p.sp.v != 0)
  let d := (d.putB pg LEAF.PRF_STAT.LIMO p.limO).putB pg LEAF.PRF_STAT.LIMC p.limC
  let d := ((d.putB pg LEAF.PRF_STAT.STANDSTILL p.still).putB pg LEAF.PRF_STAT.REFUSED p.refused).putB pg LEAF.PRF_STAT.KECAP p.keCap
  (d.putB pg LEAF.PRF_STAT.LIGOK (ligFormed d n)).putB pg LEAF.PRF_STAT.LIGPEND p.ligPend

/-- The standstill count of a servo period that ends at this boundary (R146): set-point speed 0 from its start on and the measured
speed below STANDV. -/
def countStand (n : Nat) (d : Dev) : Dev :=
  let ok := (d.prf n).sp.v == 0 && (d.prf n).prev.v == 0 && decide (absI (d.fbk n).v < d.get (pgLEAF n) LEAF.STAND.STANDV)
  d.modPrf n fun p => { p with stand := if ok then p.stand + 1 else 0, still := p.still && ok }

/-- The energy check of a servo period (R126): measured speed beyond 1.10 × v_cap of its direction. -/
def countEnergy (n : Nat) (d : Dev) : Dev :=
  let v := (d.fbk n).v
  let above := decide (absI v * 100 > 110 * (vcap d n (decide (v > 0)) : Int))
  d.modPrf n fun p => { p with keo := if above then p.keo + 1 else 0 }

/-- The set-point stage of one leaf at a servo boundary (R119). -/
def setPointLeaf (n : Nat) (d : Dev) : Dev :=
  let d := d.modPrf n fun p => { p with prev := p.sp }
  let d := if (d.drv n).mode != mSERVO then setPointNone n d
    else
      let d := d.modPrf n fun p => { p with stopKind := if p.stopKind = 3 then 0 else p.stopKind }
      if isFollower d n then setPointFollow n d else setPointOwn n d
  countEnergy n (countStand n (capEvent n d))

/-! Ligatures. -/

/-- The set-point offset of a pair in 1/65,536 µm (R140). -/
def ligOffset (d : Dev) (e : Nat) : Int :=
  let odd := d.on (pgLEAF e) LEAF.LIG.LEADER
  let l := if odd then e + 1 else e
  let f := if odd then e else e + 1
  (d.prf f).sp.p - (d.get (pgLEAF e) LEAF.LIG.RATIO : Int) * (d.prf l).sp.p / 16384

/-- A member's share of the conditions under which a ligature forms or dissolves (R140). A hard-stop path has ended once mode OFF is
entered (R148). -/
def ligMember (d : Dev) (n : Nat) : Bool :=
  d.part.hasLeaf n && d.enabled (pgLEAF n) && !leafOut d n &&
  (d.prf n).still && ((d.prf n).stopKind == 0 || (d.prf n).stopKind == 3) && (d.prf n).stopReq == 0

/-- The formation offset lies within SYNCTOL (R140). -/
def ligClose (d : Dev) (e : Nat) : Bool :=
  decide (absI (ligOffset d e) ≤ d.get (pgLEAF e) LEAF.SYNC.SYNCTOL * 10 * 65536)

/-- `LIGPEND` of a pair (R140). -/
def ligPending (e : Nat) (b : Bool) (d : Dev) : Dev :=
  (d.modPrf e fun p => { p with ligPend := b }).modPrf (e + 1) fun p => { p with ligPend := b }

/-- A ligature forms with its offset fixed (R140, R141). -/
def ligForm (k : Nat) (d : Dev) : Dev :=
  let e := 2 * k
  if !ligFormed d e && d.on (pgLEAF e) LEAF.LIG.LEN && ligMember d e && ligMember d (e + 1) && ligClose d e then
    let o := ligOffset d e
    let d := d.modLig e fun g => { g with formed := true, odd := d.on (pgLEAF e) LEAF.LIG.LEADER
                                          ofs := o, sync := 0 }
    let d := ligPending e false d
    (d.ev (pgLEAF e) Ev.LEAF.LIG).ev (pgLEAF (e + 1)) Ev.LEAF.LIG
  else d

/-- A ligature dissolves (R140, R143). -/
def ligDissolve (e : Nat) (d : Dev) : Dev :=
  if ligFormed d e then
    let d := d.modLig e fun g => { g with formed := false, sync := 0 }
    (d.ev (pgLEAF e) Ev.LEAF.LIG).ev (pgLEAF (e + 1)) Ev.LEAF.LIG
  else d

/-- The ligature of a pair at a servo boundary: dissolution when LEN became 0, LIGPEND, and the sync error and its count
(R140, R142). -/
def ligServo (k : Nat) (d : Dev) : Dev :=
  let e := 2 * k
  if !d.part.hasLeaf e then d
  else
    let len := d.on (pgLEAF e) LEAF.LIG.LEN
    let d := if ligFormed d e && !len && ligMember d e && ligMember d (e + 1) then ligDissolve e d else d
    let d := ligPending e (ligFormed d e != len) d
    let g := (d.lf e).lig
    let l := ligLeader d e
    let f := partnerOf l
    if g.formed && (d.drv e).mode == mSERVO && (d.drv (e + 1)).mode == mSERVO && (d.prf l).stopKind == 0 then
      let er := (d.fbk f).p * 65536 - (d.get (pgLEAF e) LEAF.LIG.RATIO : Int) * (d.fbk l).p * 4 - g.ofs
      let above := decide (absI er > d.get (pgLEAF e) LEAF.SYNC.SYNCTOL * 10 * 65536)
      (d.puti (pgLEAF e) LEAF.LIG_ERR.ERR (er / 65536)).modLig e fun g => { g with sync := if above then g.sync + 1 else 0 }
    else d.modLig e fun g => { g with sync := 0 }

/-- Sync error beyond SYNCTOL for SYNCN periods (R142): quick stop of both, one entry on the even page. -/
def syncErr (k : Nat) (d : Dev) : Dev :=
  let e := 2 * k
  if ligFormed d e && decide (d.get (pgLEAF e) LEAF.SYNC.SYNCN ≤ (d.lf e).lig.sync) then
    let d := d.modLig e fun g => { g with sync := 0 }
    let d := (d.ev (pgLEAF e) Ev.LEAF.SYNC).ev (pgLEAF (e + 1)) Ev.LEAF.SYNC
    leafFault e (pgLEAF e) Cz.LEAF.SYNCERR 0xFF 2 d
  else d

/-! Stop paths and standstill. -/

/-- A hard stop (R143, R148): mode OFF, from CAL too (R111), the lock's high side off from the next field-link frame on, the ligature
dissolved and the partner in its own quick stop. Its end is the end of a stop path for R243. -/
def takeHard (n : Nat) (d : Dev) : Dev :=
  if (d.prf n).stopReq == 3 && !leafOut d n then
    let own := (d.prf n).stopOwn
    let d := if ligFormed d n then
        let d := ligDissolve (evenOf n) d
        (reqStop (partnerOf n) 2 false d).modSeq (partnerOf n) fun q => { q with partnerStop := true }
      else d
    let d := d.modPrf n fun p =>
      { p with stopKind := 3, stopReq := 0, stopPlan := none, plan := none, req := none, kept := none, queue := []
               ext := false, und := 0, undStop := false, src := 0, sp := { p := p.sp.p } }
    let d := d.put (pgLEAF n) LEAF.SPQ_CFG.SPMODE 0
    let d := setMode n mOFF (gatesOff n (calAbort n d))
    let d := d.modSeq n fun q => { q with hardLock := true, stopEnded := q.stopEnded || !own || q.partnerStop }
    (d.modDy (n / 4) fun y => { y with lkCmd := setBit y.lkCmd (n % 4) false }).ev (pgLEAF n) Ev.LEAF.STOP
  else d.modPrf n fun p => { p with stopReq := if p.stopReq = 3 then 0 else p.stopReq }

/-- What standstill ends (R133, R135, R146): a stop path at rest, or a planned move whose target is issued. -/
def endAtStand (n : Nat) (d : Dev) : Dev :=
  let p := d.prf n
  match p.stopKind, p.stopPlan, p.plan with
  | 0, _, some pl =>
    if p.src = 1 ∧ pl.len ≤ pl.elapsed then
      ((d.modPrf n fun p => { p with plan := none, src := 0 }).modSeq n fun q => { q with moveEnded := true }).ev
        (pgLEAF n) Ev.LEAF.DONE
    else d
  | _, some pl, _ =>
    if p.stopKind < 3 ∧ pl.len ≤ pl.elapsed then
      let tell (m : Nat) (d : Dev) : Dev := d.modSeq m fun q => { q with stopEnded := q.stopEnded || !p.stopOwn || q.partnerStop }
      let d := d.modPrf n fun p => { p with stopKind := 0, stopPlan := none, src := 0, zeroN := 0, req := p.kept, kept := none }
      let d := tell n d
      let d := if ligFormed d n && ligLeader d n == n then tell (partnerOf n) d else d
      d.ev (pgLEAF n) Ev.LEAF.STANDST
    else d
  | _, _, _ => d

/-- Standstill of a leaf after STANDN periods (R146). -/
def leafStandstill (n : Nat) (d : Dev) : Dev :=
  if d.part.hasLeaf n && decide (d.get (pgLEAF n) LEAF.STAND.STANDN ≤ (d.prf n).stand) && !leafOut d n then
    endAtStand n (d.modPrf n fun p => { p with still := true })
  else d

/-- No standstill 64 servo periods after the path's speed reached 0 (R147): hard stop. -/
def stopTimeout (n : Nat) (d : Dev) : Dev :=
  let p := d.prf n
  if d.part.hasLeaf n && (p.stopKind == 1 || p.stopKind == 2) && decide (64 ≤ p.zeroN) then
    leafFault n (pgLEAF n) Cz.LEAF.STOPTO 0xFF 3 ((d.modPrf n fun p => { p with zeroN := 0 }).ev (pgLEAF n) Ev.LEAF.STOPTO)
  else d

/-- Measured speed beyond 1.10 × v_cap in 4 consecutive periods (R126): quick stop. -/
def keOver (n : Nat) (d : Dev) : Dev :=
  if d.part.hasLeaf n && !leafOut d n && decide (4 ≤ (d.prf n).keo) then
    leafFault n (pgLEAF n) Cz.LEAF.KEOVER 0xFF 2 (d.modPrf n fun p => { p with keo := 0 })
  else d

/-- More than UNDMAX consecutive empty boundaries (R139): quick stop. -/
def spqUnderrun (n : Nat) (d : Dev) : Dev :=
  if d.part.hasLeaf n && (d.prf n).ext && (d.prf n).undStop then
    leafFault n (pgLEAF n) Cz.LEAF.SPQUNDER 0xFF 2
      ((d.modPrf n fun p => { p with undStop := false }).ev (pgLEAF n) Ev.LEAF.SPQ)
  else d

/-! Limit switches. -/

/-- The mode in which a limit switch acts: in LEARN, mode 3 at the end toward which the learn run moves (R150, R152). -/
def limActs (d : Dev) (n : Nat) (openEnd : Bool) : Nat :=
  let q := d.lrn n
  if (d.seq n).st == .learn && ((openEnd && q.phase == 3) || (!openEnd && (q.phase == 2 || q.phase == 4))) then 3
  else limMode d n openEnd

/-- A limit switch becomes active in mode 1, 2 or 3 (R150): capture, event, and toward its end the mode's path; at the end away from
the movement it is an anomaly (R164). -/
def limTrip (n : Nat) (openEnd : Bool) (d : Dev) : Dev :=
  let p := d.prf n
  let m := limActs d n openEnd
  if d.part.hasLeaf n && !leafOut d n && limLevel d n openEnd && !(if openEnd then p.capO else p.capC) && m != 0 then
    let pg := pgLEAF n
    let d := d.modPrf n fun p => if openEnd then { p with capO := true } else { p with capC := true }
    let d := d.puti pg (if openEnd then LEAF.LIMO_CAP.POS else LEAF.LIMC_CAP.POS) (d.fbk n).p
    let d := d.ev pg (if openEnd then Ev.LEAF.LIMO else Ev.LEAF.LIMC)
    let d := d.modLrn n fun q => if openEnd then { q with capO := true } else { q with capC := true }
    let toward := if openEnd then decide (p.sp.v > 0) else decide (p.sp.v < 0)
    let d := d.modKn n fun k => { k with anom := k.anom || (k.inMove && openEnd != decide (0 < k.mvDir)) }
    if m < 3 ∧ toward then leafFault n pg Cz.LEAF.LIMTRIP 0xFF (if m = 1 then 2 else 3) d else d
  else d

/-- The limit switches of a leaf in a PWM period (R151): their levels, and the end of an activation. -/
def limPwm (n : Nat) (d : Dev) : Dev :=
  let o := limLevel d n true
  let c := limLevel d n false
  d.modPrf n fun p => { p with limO := o, limC := c, capO := p.capO && o, capC := p.capC && c }

/-- Whether a move toward an end of a leaf is refused because its switch is active there (R150, R152). -/
def limBlocks (d : Dev) (n : Nat) (opening : Bool) : Bool :=
  limMode d n opening != 0 && limLevel d n opening && (d.seq n).st != .learn

/-! Move commands. -/

/-- Refuse a move command (R134). -/
def refuseMove (n : Nat) (d : Dev) : Dev := (d.modPrf n fun p => { p with refused := true }).ev (pgLEAF n) Ev.LEAF.REFUSE

/-- Hand a move to the generator (R130, R135, R150): refused toward an active limit switch of the axis or of its follower;
its target clamped to the soft limits; kept while a stop path runs. -/
def giveMove (n : Nat) (tgt : Int) (set : Nat) (seq : Bool) (d : Dev) : Dev :=
  let pg := pgLEAF n
  let t := clampI (d.geti pg LEAF.SOFTMIN.SOFTMIN) (d.geti pg LEAF.SOFTMAX.SOFTMAX) tgt
  let opening := decide (t * 65536 > (d.prf n).sp.p)
  let closing := decide (t * 65536 < (d.prf n).sp.p)
  let blocked (m : Nat) := (opening && limBlocks d m true) || (closing && limBlocks d m false)
  if blocked n || (ligFormed d n && blocked (partnerOf n)) then refuseMove n d
  else
    let d := d.evIf (t != tgt) pg Ev.LEAF.PCLAMP
    let r : MoveReq := { tgt := t, set := set, seq := seq }
    let stopping := (d.prf n).stopKind == 1 || (d.prf n).stopKind == 2 || (d.prf n).stopReq == 1 || (d.prf n).stopReq == 2
    let d := d.modPrf n fun p => if stopping then { p with kept := some r } else { p with req := some r }
    let d := d.modSeq n fun q => { q with moveEnded := false, go := q.go || !seq }
    let d := d.modKn n fun k => { k with goal := if seq then some t else none }
    d.modPrf n fun p => { p with refused := false }

/-- GO (R116, R134, R174, R249, R440). -/
def goCmd (n set : Nat) (d : Dev) : Dev :=
  let tgt := d.geti (pgLEAF n) LEAF.MOVE_TGT.TGT
  let len := d.on (pgLEAF (evenOf n)) LEAF.LIG.LEN
  let toClose := decide (tgt * 65536 < (d.prf n).sp.p)
  if set = 3 ∨ !directState d n ∨ !(toClose || released d n) ∨ isFollower d n ∨ (len && !ligFormed d n) ∨
      (d.prf n).stopReq = 3 ∨ leafOut d n ∨ d.vfld.low then refuseMove n d
  else if obsBlind d n then refuseMove n (kfZero n d)
  else giveMove n tgt set false d

/-- HSTOP: a hard stop that came with no fault event and no emergency, unless one of those has asked for it already (R148). -/
def hstopCmd (n : Nat) (d : Dev) : Dev :=
  let keep := (d.prf n).stopReq = 3 || (d.seq n).hardLock
  let was := (d.seq n).hardFault
  (reqStop n 3 false d).modSeq n fun q => { q with hardFault := keep && was }

/-- A write to `MOVE_CMD` (R155): only the harshest bit set acts. -/
def moveCmd (n v : Nat) (d : Dev) : Dev :=
  if bit v 7 then (if leafOut d n then d else hstopCmd n d)
  else if bit v 6 then (if leafOut d n then d else reqStop n 2 false d)
  else if bit v 5 then (if leafOut d n then d else reqStop n 1 false d)
  else if bit v 4 then goCmd n (v % 4) d
  else d

/-- A write to `SPQ_A` pushes the entry (R136, R139). -/
def spqPush (n a : Nat) (d : Dev) : Dev :=
  let p := d.prf n
  if p.queue.length < 16 then
    let e : SpqEnt := { p := sgn 32 p.spqP, v := sgn 32 p.spqV, a := sgn 32 a }
    d.modPrf n fun p => { p with queue := p.queue ++ [e] }
  else d.ev (pgLEAF n) Ev.LEAF.SPQ

/-- The profile functions at reset and on entry to STARTING (R156). -/
def prfClear (n : Nat) (d : Dev) : Dev :=
  let d := d.modPrf n fun p => { spqP := p.spqP, spqV := p.spqV, limO := p.limO, limC := p.limC }
  publishProfile n (d.put (pgLEAF n) LEAF.SPQ_CFG.SPMODE 0)

/-- The set-point state of a leaf becomes the measured position at rest (R156, R233). -/
def holdHere (n : Nat) (d : Dev) : Dev :=
  d.modPrf n fun p => { p with sp := { p := (d.fbk n).p * 65536 }, plan := none, src := 0 }

end Sys2Proof.Machine
end

