-- ==== Sys2Proof/Machine/Feedback.lean ====
section
/-! DEFINITION. Position and speed feedback: encoder, Hall and SSI inputs (R196 to R203), position, angle and speed
(R204 to R210), checks, fallback and validity (R211 to R218), start-up (R219, R220), the feedback of step axes (R223 to
R225) and encoder emulation (R226 to R229). Axes 0 to 7 are leaves, 8 to 11 steps. -/

namespace Sys2Proof.Machine

/-- Whether an axis counts an incremental encoder: always on a leaf axis, under ENC on a step axis. -/
def encFitted (d : Dev) (a : Nat) : Bool := a < 8 || d.on (pgPOS a) POSK.POS_CFG.ENC

/-- Whether a feedback page works: its axis present and the page not OFF. -/
def posOn (d : Dev) (a : Nat) : Bool := d.hasAxis a && (d.pgState (pgPOS a) == 1 || d.pgState (pgPOS a) == 2)

/-- Latch sensor fault `i` with its event, entry and error counter (R214, R218). -/
def sensorFault (a i ev : Nat) (c : Cause) (cnt : Option Fld) (d : Dev) : Dev :=
  let d := (d.modPs a fun x => { x with latch := setBit x.latch i true }).ev (pgPOS a) ev
  let d := match cnt with
    | some f => d.incSat (pgPOS a) f
    | none => d
  d.raise (pgPOS a) c 0xFF

/-- A count in the 48 bits of the extended count (R202). -/
def ext48 (c : Int) : Int := sgn 48 (uns 48 c)

/-- One encoder step: the extended count moves, and the count before it is kept for the longest Hall filter (R202, R212). -/
def encStep (a : Nat) (k : Int) (d : Dev) : Dev :=
  let t := d.tim.mot
  d.modPs a fun x =>
    { x with ext := ext48 (x.ext + k), encT := t
             encWas := ⟨x.ext, t⟩ :: x.encWas.takeWhile fun y => decide (t ≤ y.t + 6375) }

/-- The extended encoder count at an earlier time: the count before the first edge after it (R212). -/
def encAt (d : Dev) (a t : Nat) : Int :=
  (((d.ps a).encWas.takeWhile fun y => decide (t < y.t)).getLast?.map (·.c)).getD (d.ps a).ext

/-- The place of an A/B state, B in bit 1, in the quadrature order with A leading. -/
def quadPlace (q : Nat) : Nat := if q = 0 then 0 else if q = 1 then 1 else if q = 3 then 2 else 3

/-- How the count moves between two filtered A/B states; `none` where both levels change (R196). Model's choice: it counts up where A
leads B; the manual names no order, and `DIRINV` inverts it (assumption log 71). -/
def quadStep (p q : Nat) : Option Int :=
  let k := (quadPlace q + 4 - quadPlace p) % 4
  if k = 0 then some 0 else if k = 1 then some 1 else if k = 3 then some (-1) else none

/-- Filtered levels of two lines after the samples `s0` and `s1` of two consecutive MOTCLK cycles: a new level counts after two equal
samples (R196). -/
def filt2 (was s0 s1 : Nat) : Nat :=
  setBit (setBit was 0 (if bit s0 0 == bit s1 0 then bit s1 0 else bit was 0)) 1 (if bit s0 1 == bit s1 1 then bit s1 1 else bit was 1)

/-- A and B as sampled in this MOTCLK cycle and the one before, B in bit 1 (R196, R202, R205). -/
def encoderEdge (a s0 s1 : Nat) (d : Dev) : Dev :=
  if d.hasAxis a && encFitted d a then
    let p := (d.ps a).ab
    let q := filt2 p s0 s1
    let d := d.modPs a fun x => { x with ab := q }
    if !posOn d a then d
    else
      match quadStep p q with
      | none =>
        sensorFault a 2 Ev.POS.ENCERR Cz.POS.ENCERR (some POS.DIAG.ENCC) (d.modPs a fun x => { x with lastErr := d.tim.mot })
      | some k => if k = 0 then d else encStep a (if d.on (pgPOS a) POS.POS_CFG.DIRINV then -k else k) d
  else d

/-! Hall sensors. -/

/-- The codes (W, V, U) for increasing electrical angle, from the rising edge of U (R197). -/
def hallOrder (rev : Bool) : List Nat := if rev then [3, 1, 5, 4, 6, 2] else [5, 1, 3, 2, 6, 4]

/-- The sector of a valid code, counted from the rising edge of U. -/
def hallSector (rev : Bool) (code : Nat) : Nat := ((hallOrder rev).findIdx? (· == code)).getD 0

/-- The count change and whether a code is skipped, between two valid codes (R197). -/
def hallDelta (rev : Bool) (c0 c1 : Nat) : Int × Bool :=
  let k := (hallSector rev c1 + 6 - hallSector rev c0) % 6
  if k = 0 then (0, false) else if k = 1 then (1, false) else if k = 5 then (-1, false)
  else if k = 2 then (2, true) else if k = 4 then (-2, true) else (0, true)

/-- Electrical angle of the start of a sector, in 2⁻³² turn. -/
def sectorAngle (d : Dev) (n k : Nat) : Nat :=
  (d.get (pgPOS n) POS.HALL.HALLOFS * 65536 + k * 4294967296 / 6) % 4294967296

/-- Active POLEP of a leaf. -/
def polep (d : Dev) (n : Nat) : Nat := max 1 (d.get (pgLEAF n) LEAF.TORQUE.POLEP)

/-- The rotor angle of an extended encoder count without its alignment, in 2⁻³² turn. -/
def encTheta (d : Dev) (a : Nat) (c : Int) : Nat :=
  let cpr := max 1 (d.get (pgPOS a) POS.CPR.CPR)
  (c % cpr).toNat * 4294967296 / cpr

/-- Align the encoder so that POLEP × θ_m of a count equals an electrical angle (R209). -/
def alignTo (n elec : Nat) (c : Int) (d : Dev) : Dev :=
  let t : Int := (elec : Int) / polep d n
  d.modPs n fun x => { x with align := t - encTheta d n c }

/-- The electrical angle of a count, in 2⁻³² turn. -/
def encElec (d : Dev) (n : Nat) (c : Int) : Nat := uns 32 ((polep d n : Int) * ((encTheta d n c : Int) + (d.ps n).align))

/-- At a filtered Hall edge of time `t` whose nominal electrical angle is `elec`: the first after STARTING aligns the encoder (R209),
later ones cross-check it (R212). -/
def hallCross (n elec t : Nat) (d : Dev) : Dev :=
  if d.on (pgPOS n) POS.POS_CFG.ANGSRC && d.pgState (pgPOS n) == 2 then
    if !(d.ps n).aligned then (alignTo n elec (encAt d n t) d).modPs n fun x => { x with aligned := true }
    else
      let e := sgn 32 (uns 32 ((encElec d n (encAt d n t) : Int) - elec))
      let x16 := Num.quo 50 e 65536
      let above := decide (absI x16 > d.get (pgPOS n) POS.XCHK.XTOL * 256)
      let d := d.put (pgPOS n) POS.XERR.XERR (uns 16 x16)
      let d := d.modPs n fun x => { x with xchkN := if above then x.xchkN + 1 else 0 }
      if above then d.incSat (pgPOS n) POS.DIAG.XCHKC else d
  else d

/-- The Hall code of a leaf from the filtered lines of the field die, inverted by HALLPOL (R197): a change counts with the time of the
latest edge and cross-checks the encoder. -/
def hallTake (n : Nat) (d : Dev) : Dev :=
  let x := d.ps n
  let code := (x.hraw ^^^ d.get (pgPOS n) POS.POS_CFG.HALLPOL) % 8
  let bad := code == 0 || code == 7
  if code = x.code then d
  else
    let d := d.modPs n fun x => { x with code := code, codeT := d.tim.mot, invRep := false
                                         codeOk := if bad || x.code == 0 || x.code == 7 then 0 else x.codeOk }
    if bad then d
    else if !posOn d n || x.lastCode = 0 then d.modPs n fun x => { x with lastCode := code, codeOk := 0 }
    else
      let rev := d.on (pgPOS n) POS.HALL.HSEQ
      let t := x.hedge
      let (dc, skip) := hallDelta rev x.lastCode code
      let d := d.modPs n fun x =>
        { x with lastCode := code, hall := ext48 (x.hall + dc), hallT := if dc = 0 then x.hallT else t
                 hallUp := if dc = 0 then x.hallUp else decide (dc > 0) }
      let d := if skip then
          sensorFault n 1 Ev.POS.HALLSEQ Cz.POS.HALLSEQ (some POS.DIAG.HALLC) (d.modPs n fun x => { x with lastSeq := d.tim.mot })
        else d
      let k := hallSector rev code
      if dc = 0 then d else hallCross n (sectorAngle d n (if dc > 0 then k else k + 1)) t d

/-- The lines that have stood at their level for exactly `st` × 0.1 µs, once that is HALLFLT, are accepted by the field die's filter; the
edge's time is that of the filtered change less the filter time, at 0.1 µs resolution (R197). A frame shows it to the core at once, or
while frames are repeated with the next good one (R15, R217). -/
def hallFilter (n lines : Nat) (age : Nat → Nat) (st : Nat) (d : Dev) : Dev :=
  let was := (d.ps n).hraw
  let now := (List.range 3).foldl (fun r i => if age i = st then setBit r i (bit lines i) else r) was
  if st < d.get (pgPOS n) POS.HALL.HALLFLT ∨ now = was then d
  else
    let d := d.modPs n fun x => { x with hraw := now, hedge := (d.tim.mot - st * 25) / 25 * 25 }
    if (d.di (dieOf n)).lost = 0 then hallTake n d else d

/-- The Hall lines and how long each has stood at its level: every line has a filter of its own, and the oldest change comes first
(R197). -/
def hallEdge (n lines : Nat) (age : Nat → Nat) (d : Dev) : Dev :=
  if !d.part.hasLeaf n then d
  else
    let hi := max (age 0) (max (age 1) (age 2))
    let lo := min (age 0) (min (age 1) (age 2))
    d.each [hi, age 0 + age 1 + age 2 - hi - lo, lo] (hallFilter n lines age)

/-- HALLPOL has a new active value: the code follows without an edge (R197). -/
def hallPol (n : Nat) (d : Dev) : Dev :=
  let code := ((d.ps n).hraw ^^^ d.get (pgPOS n) POS.POS_CFG.HALLPOL) % 8
  let bad := code == 0 || code == 7
  d.modPs n fun x => { x with code := code, lastCode := if bad then 0 else code, codeT := d.tim.mot, invRep := false, codeOk := 0 }

/-- A code of 0 or 7 has lasted two PWM periods (R197): once for each time that it appears, and while the lines still show it. -/
def hallInvalid (n lines : Nat) (d : Dev) : Dev :=
  let x := d.ps n
  if posOn d n && (lines ^^^ d.get (pgPOS n) POS.POS_CFG.HALLPOL) % 8 == x.code && (x.code == 0 || x.code == 7) && !x.invRep && decide (x.codeT + 16000 ≤ d.tim.mot) then
    sensorFault n 0 Ev.POS.HALLINV Cz.POS.HALLINV (some POS.DIAG.HALLC) (d.modPs n fun x => { x with invRep := true, codeOk := 0 })
  else d

/-- A rising edge of the filtered Z line: the first one in RUN gives the index reference, later ones are checked (R211). -/
def indexHit (a : Nat) (d : Dev) : Dev :=
  let cpr := max 1 (d.get (pgPOS a) POS.CPR.CPR)
  let z := ((d.ps a).ext % cpr).toNat
  let d := d.put (pgPOS a) POS.ZCAP.ZCAP z
  match (d.ps a).idx with
  | none => if d.pgState (pgPOS a) = 2 then d.modPs a fun x => { x with idx := some z } else d
  | some r =>
    let k := (z + cpr - r % cpr) % cpr
    let diff := min k (cpr - k)
    if diff > d.get (pgPOS a) POS.SPD.ZTOL then
      sensorFault a 3 Ev.POS.ZERR Cz.POS.ZERR (some POS.DIAG.ENCC) (d.modPs a fun x => { x with lastZ := d.tim.mot })
    else d

/-- Z as sampled in this MOTCLK cycle and the one before (R196, R211). -/
def indexEdge (a : Nat) (z0 z1 : Bool) (d : Dev) : Dev :=
  if d.hasAxis a && encFitted d a && z0 == z1 then
    let rise := z1 && !(d.ps a).z
    let d := d.modPs a fun x => { x with z := z1 }
    if rise && posOn d a && d.on (pgPOS a) POS.POS_CFG.ZEN then indexHit a d else d
  else d

/-! SSI. -/

/-- CRC length of a selection (table "SSI CRC selection"). -/
def crcLen (sel : Nat) : Nat := if sel = 0 then 5 else if sel = 1 then 6 else 8

/-- Duration of the configured frame in ns, DLY included (R198, R200). -/
def ssiFrameNs (d : Dev) (n : Nat) : Nat :=
  let pg := pgPOS n
  (d.get pg POS.SSI_CFG.DBITS + d.get pg POS.SSI_CFG.ERREN + crcLen (d.get pg POS.SSI_CFG.CRCSEL) + 1) *
    (2 * (d.get pg POS.SSI_CFG.CLKDIV + 1)) * 10 + d.get pg POS.SSI_CFG.DLY * 10

/-- Gray to binary over `w` bits: each bit is the parity of the bits from it upward. -/
def grayToBin (v : Nat) : Nat → Nat
  | 0 => 0
  | w + 1 => (popcount 32 (v / 2 ^ w) % 2) * 2 ^ w + grayToBin v w

/-- Position in µm of an SSI word against a reference (R204). -/
def ssiPos (d : Dev) (n word : Nat) (ref : Int) : Int :=
  let b := d.get (pgPOS n) POS.SSI_CFG.DBITS
  Num.quo 51 (sgn b (uns b ((word : Int) - ref)) * d.geti (pgPOS n) POS.SSI_SCALE.SCALE) 65536

/-- `w` bits of an SSI frame, most significant first, through the CRC of a polynomial given without its leading term, of `len` bits
(R199, table "SSI CRC selection"). -/
def ssiCrcRun (len poly bits : Nat) : Nat → Nat → Nat
  | 0, c => c
  | w + 1, c =>
    let top := xor (bit c (len - 1)) (bit bits w)
    let c := 2 * c % 2 ^ len
    ssiCrcRun len poly bits w (if top then c ^^^ poly else c)

/-- The CRC of a selection over `w` bits, initial value 0. -/
def ssiCrc (sel bits w : Nat) : Nat :=
  if sel = 0 then ssiCrcRun 5 5 bits w 0 else if sel = 1 then ssiCrcRun 6 3 bits w 0 else ssiCrcRun 8 7 bits w 0

/-- A missing SSI word (R199, R214). -/
def ssiMissing (n ev : Nat) (c : Option Cause) (d : Dev) : Dev :=
  let d := d.modPs n fun x => { x with miss := x.miss + 1, ssiGot := false, ssiTried := true, ssiRun := 0 }
  let d := (d.ev (pgPOS n) ev).incSat (pgPOS n) POS.DIAG.SSIC
  match c with
  | some c => d.raise (pgPOS n) c 0xFF
  | none => d

/-- An SSI word whose CRC and error bit hold: Gray decoding and the jump check against the position predicted from the previous
accepted word and the last speed over the boundaries since (R199). -/
def ssiWord (n raw : Nat) (d : Dev) : Dev :=
  let b := d.get (pgPOS n) POS.SSI_CFG.DBITS
  let bin := if d.on (pgPOS n) POS.SSI_CFG.GRAY then grayToBin raw b else raw
  let jump := match (d.ps n).ssi with
    | some p => decide (absI (ssiPos d n bin p - Num.quo 52 ((d.fbk n).v * 16 * ((d.ps n).miss + 1)) 62500) >
        d.get (pgPOS n) POS.SSI_CFG.JUMPTOL * 1000)
    | none => false
  if jump then
    -- the next word is judged against this one while the page is starting
    (ssiMissing n Ev.POS.SSIJUMP (some Cz.POS.SSIJUMP) d).modPs n fun x =>
      { x with ssi := if d.pgState (pgPOS n) = 1 then some bin else x.ssi }
  else
    (d.modPs n fun x => { x with ssi := some bin, miss := 0, ssiGot := true, ssiTried := true, ssiRun := x.ssiRun + 1 }).put
      (pgPOS n) POS.SSIRAW.WORD bin

/-- The SSI transfer of a servo boundary ends (R198 to R200). Model's choice: a word that fails several checks raises the event of the
first of them in the order of R199 (assumption log 83). `high` is the data line's level at its start, `bits` the frame as
sampled, its last bit in bit 0: data, most significant first, the error bit under ERREN, then the CRC. -/
def ssiTransferEnd (n : Nat) (high : Bool) (bits : Nat) (d : Dev) : Dev :=
  if !posOn d n || !(d.ps n).ssiOn then d
  else
    let pg := pgPOS n
    let d := d.modPs n fun x => { x with ssiOn := false }
    let sel := d.get pg POS.SSI_CFG.CRCSEL
    let len := crcLen sel
    let e := d.get pg POS.SSI_CFG.ERREN
    let w := d.get pg POS.SSI_CFG.DBITS
    let body := bits / 2 ^ len % 2 ^ (w + e)
    let crc := if d.on pg POS.SSI_CFG.CRCINV then 2 ^ len - 1 - bits % 2 ^ len else bits % 2 ^ len
    if ssiFrameNs d n > 7000 then ssiMissing n Ev.POS.SSICFG none d
    else if !high then ssiMissing n Ev.POS.SSITO (some Cz.POS.SSITO) d
    else if ssiCrc sel body (w + e) ≠ crc then ssiMissing n Ev.POS.SSICRC (some Cz.POS.SSICRC) d
    else if e = 1 ∧ body % 2 = d.get pg POS.SSI_CFG.ERRPOL then ssiMissing n Ev.POS.SSIERR (some Cz.POS.SSIERR) d
    else ssiWord n (body / 2 ^ e) d

/-- More than SSIMISS consecutive words are missing (R214). -/
def ssiFault (n : Nat) (d : Dev) : Dev :=
  if posOn d n && decide ((d.ps n).miss > d.get (pgPOS n) POS.XCHK.SSIMISS) then
    d.modPs n fun x => { x with latch := setBit x.latch 4 true }
  else d

/-- The cross-check exceeded its bound at XN consecutive Hall edges (R212). -/
def xchkFault (n : Nat) (d : Dev) : Dev :=
  if posOn d n && decide (d.get (pgPOS n) POS.XCHK.XN ≤ (d.ps n).xchkN) then
    ((d.modPs n fun x => { x with xchkN := 0, xchk := true }).ev (pgPOS n) Ev.POS.XCHK).raise (pgPOS n) Cz.POS.XCHK 0xFF
  else d

/-- The two sides of an SSI axis differ at 4 consecutive boundaries (R213). -/
def slipFault (n : Nat) (d : Dev) : Dev :=
  if posOn d n && decide (4 ≤ (d.ps n).slipN) then
    ((d.modPs n fun x => { x with slipN := 0, slip := true }).ev (pgPOS n) Ev.POS.SLIP).raise (pgPOS n) Cz.POS.SLIP 0xFF
  else d

/-! Position, angle and speed. -/

/-- The sources of a page in use: position source (0 Hall, 1 incremental, 2 SSI, 3 commanded microsteps) (R204, R215, R224). -/
def srcUse (d : Dev) (a : Nat) : Nat :=
  if 8 ≤ a then (if d.on (pgPOS a) POSK.POS_CFG.ENC then 1 else 3)
  else if (d.fbk a).fallbk then 0
  else
    let s := d.get (pgPOS a) POS.POS_CFG.PSRC
    if s = 3 then 0 else s

/-- Whether the angle comes from the encoder (R209, R215). -/
def angEnc (d : Dev) (n : Nat) : Bool :=
  d.on (pgPOS n) POS.POS_CFG.ANGSRC &&
  !((d.fbk n).fallbk && d.get (pgPOS n) POS.POS_CFG.PSRC == 1)

/-- The Hall edge count of a leaf or the commanded microsteps of a step, with the time of the latest change. -/
def coarseCount (d : Dev) (a : Nat) : CntAt :=
  if a < 8 then { c := (d.ps a).hall, t := (d.ps a).hallT } else { c := (d.stp (a - 8)).m, t := (d.stp (a - 8)).mMoved }

/-- The counts are latched for an axis valley at time `t` (R201). -/
def latchCounts (a t : Nat) (d : Dev) : Dev :=
  d.modFb a fun f => { f with latE := { c := (d.ps a).ext, t := (d.ps a).encT }, latH := coarseCount d a, latT := t }

/-- The latched count of a source and the time of its last edge (R201). -/
def srcCount (d : Dev) (a src : Nat) : CntAt := if src = 1 then (d.fbk a).latE else (d.fbk a).latH

/-- The counts of a source at the servo boundaries before, newest first (R210). -/
def srcHist (d : Dev) (a src : Nat) : List CntAt := if src = 1 then (d.fbk a).histE else (d.fbk a).histH

/-- Distance of `k` counts of a source in µm × 65,536, as a fraction (numerator, denominator) (R204, R224). -/
def srcDist (d : Dev) (a src : Nat) (k : Int) : Int × Int :=
  let t : Int := d.get (pgPOS a) POS.TRAVEL.TRAVEL
  if src = 0 then (k * t, 6 * polep d a)
  else if src = 1 then (k * t, (max 1 (d.get (pgPOS a) POS.CPR.CPR) : Nat))
  else (k * t, (max 1 (d.get (pgPOS a) POSK.STEPFB.FSPR) * 256 : Nat))

/-- Position of a source in µm without the reference's remainder (R204). -/
def srcPos (d : Dev) (a src : Nat) : Int :=
  let x := d.ps a
  if src = 2 then (match x.ssi with
    | some w => ssiPos d a w x.ref
    | none => 0)
  else
    let (n, m) := srcDist d a src ((srcCount d a src).c - x.ref)
    Num.quo 53 n (m * 65536)

/-- The pair saved SPDW servo boundaries earlier; model's choice: the oldest kept where fewer have passed (R210, assumption log 71). -/
def histAt (l : List CntAt) (w : Nat) (now : CntAt) : CntAt := nth l (min w l.length - 1) now

/-- A position saturated at the signed 32-bit limits (R204). -/
def satPos (p : Int) : Int := clampI (-2147483648) 2147483647 p

/-- The speed rule for counting sources, with the distance per count as a fraction of unit / 65,536 (R210): in units per
second. `last` is the previous speed, `zerot` in MOTCLK periods. -/
def speedOf (now zerot : Nat) (k m : CntAt) (dn dd last : Int) : Int :=
  if k.c ≠ m.c ∧ m.t < k.t then Num.quo 54 ((k.c - m.c) * dn * 250000000) (dd * 65536 * ((k.t : Int) - m.t))
  else if now - k.t < zerot then
    let lim := Num.quo 55 (absI dn * 250000000) (dd * 65536 * (max 1 (now - k.t) : Nat))
    (if last < 0 then -1 else if last > 0 then 1 else 0) * minI (absI last) lim
  else 0

/-- Zero-speed time in MOTCLK periods. -/
def zeroT (d : Dev) (a : Nat) : Nat := msMot (d.get (pgPOS a) POS.SPD.ZEROT)

/-- Choose the reference so that the position now equals `p` (R206): whole counts and a remainder below one. `REFOFS` reports it
(R207). -/
def setReference (a : Nat) (p : Int) (d : Dev) : Dev :=
  let src := srcUse d a
  let r : Int := if src = 2 then
      let sc := d.geti (pgPOS a) POS.SSI_SCALE.SCALE
      (((d.ps a).ssi.getD 0 : Nat) : Int) - (if sc = 0 then 0 else p * 65536 / sc)
    else
      let (n, m) := srcDist d a src 1
      (srcCount d a src).c - (if n = 0 then 0 else p * 65536 * m / n)
  let d := (d.modPs a fun x => { x with ref := r, fbOfs := 0 }).put (pgPOS a) POS.REFOFS.REFOFS (uns 32 r)
  d.modPs a fun x => { x with fbOfs := p - srcPos d a src }

/-- The motor-side position of an SSI axis in µm, from the angle source (R213). -/
def motorSide (d : Dev) (n : Nat) : Int :=
  let src := if angEnc d n then 1 else 0
  let (a, b) := srcDist d n src (srcCount d n src).c
  Num.quo 56 a (b * 65536)

/-- Refer the motor side to the SSI position (R213). -/
def slipReference (n : Nat) (d : Dev) : Dev := d.modPs n fun x => { x with slipRef := (d.fbk n).p - motorSide d n, slipN := 0 }

/-- A write of SETREF (R206). -/
def setrefCmd (a : Nat) (d : Dev) : Dev :=
  let still := if a < 8 then (d.prf a).src == 0 || (d.drv a).mode != mSERVO
    else (d.stp (a - 8)).plan.isNone && (d.stp (a - 8)).stopPlan.isNone
  if d.hasAxis a && (d.fbk a).valid && still then
    let v := d.geti (pgPOS a) POS.REFVAL.REFVAL
    d.modFb a fun x => { x with setRef := some v }
  else d.ev (pgPOS a) Ev.POS.REFNAK

/-- Whether the configured position source has a latched fault (R206, R215). -/
def srcLatched (d : Dev) (a : Nat) : Bool :=
  let l := (d.ps a).latch
  let s := if 8 ≤ a then srcUse d a else d.get (pgPOS a) POS.POS_CFG.PSRC
  if s = 1 then bit l 2 || bit l 3 else if s = 2 then bit l 4 else if s = 3 then false else bit l 0 || bit l 1

/-- Whether a source in use has a latched fault (R217). -/
def useLatched (d : Dev) (a : Nat) : Bool :=
  let l := (d.ps a).latch
  let h := bit l 0 || bit l 1
  let e := bit l 2 || bit l 3
  let s := srcUse d a
  let pos := if s = 0 then h else if s = 1 then e else if s = 2 then bit l 4 else false
  pos || (decide (a < 8) && (if angEnc d a then e else h))

/-- Fallback at a servo boundary (R215): the Hall position continues from the last valid position. -/
def fallback (n : Nat) (d : Dev) : Dev :=
  if n < 8 ∧ d.get (pgPOS n) POS.POS_CFG.PSRC ≠ 0 ∧ srcLatched d n ∧ !(d.fbk n).fallbk ∧ d.on (pgPOS n) POS.POS_CFG.FALLBK ∧
      d.pgState (pgPOS n) = 2 then
    let f := d.fbk n
    let d := d.modFb n fun x => { x with fallbk := true }
    (setReference n (f.pOk + Num.quo 57 (f.vOk * 16) 62500) d).raise (pgPOS n) Cz.POS.FALLBACK 0xFF
  else d

/-- Position and speed of a servo boundary (R204, R210, R214), from the latch of its valley and its SSI transfer (R201). -/
def posCompute (a : Nat) (d : Dev) : Dev :=
  let x := d.ps a
  let f := d.fbk a
  let src := srcUse d a
  let w := d.get (pgPOS a) POS.SPD.SPDW
  if src = 2 then
    let bridge := !x.ssiGot && !bit x.latch 4
    let p := satPos (if bridge then f.p + Num.quo 57 (f.v * 16) 62500 else srcPos d a 2 + x.fbOfs)
    let v := Num.quo 58 ((p - nth f.histS (w - 1) p) * 62500) (16 * w)
    (d.modFb a fun y => { y with p := p, v := v, bridged := bridge }).modPs a
      fun x => { x with ssiGot := false, ssiTried := false, ssiOn := false, miss := if x.ssiTried then x.miss else x.miss + 1 }
  else
    let k := srcCount d a src
    let p := satPos (srcPos d a src + x.fbOfs)
    let (dn, dd) := srcDist d a src 1
    let v := speedOf f.latT (zeroT d a) k (histAt (srcHist d a src) w k) dn dd f.v
    d.modFb a fun y => { y with p := p, v := v, bridged := false }

/-- ω_e of a servo boundary in rad/s: 2π × POLEP × rev/s of the angle source (R210). -/
def omegaE (n : Nat) (d : Dev) : Dev :=
  let f := d.fbk n
  let src := if angEnc d n then 1 else 0
  let k := srcCount d n src
  let w := d.get (pgPOS n) POS.SPD.SPDW
  let per : Int := if src = 1 then max 1 (d.get (pgPOS n) POS.CPR.CPR) else 6 * polep d n
  -- 2π × POLEP × 65,536 / counts per rev, per count
  let we := speedOf f.latT (zeroT d n) k (histAt (srcHist d n src) w k) (6283185307179586 * (polep d n : Int) * 65536)
    (per * 1000000000000000) f.we
  d.modFb n fun y => { y with we := we }

/-- The counts of every source and the position are kept for the boundaries to come (R210). -/
def posKeep (a : Nat) (d : Dev) : Dev :=
  d.modFb a fun y => { y with histE := (y.latE :: y.histE).take 16, histH := (y.latH :: y.histH).take 16
                              histS := (y.p :: y.histS).take 16 }

/-- A pending SETREF at a servo boundary (R206). -/
def applySetref (a : Nat) (ok : Bool) (d : Dev) : Dev :=
  match (d.fbk a).setRef with
  | none => d
  | some v =>
    let d := d.modFb a fun x => { x with setRef := none }
    if !ok then d.ev (pgPOS a) Ev.POS.REFNAK
    else
      let p0 := (d.fbk a).p
      let d := if (d.fbk a).fallbk && !srcLatched d a then d.modFb a fun x => { x with fallbk := false } else d
      let d := (setReference a v d).modFb a fun x => { x with p := v, refd := true, histS := x.histS.map fun q => q + (v - p0) }
      let d := d.ev (pgPOS a) Ev.POS.REFSET
      if a < 8 then slipReference a (d.modPrf a fun q => { q with sp := { q.sp with p := q.sp.p + (v - p0) * 65536 } })
      else
        let (n, m) := srcDist d a 3 1
        let k := d.stp (a - 8)
        d.modStp (a - 8) fun s => { s with mRef := k.m - (2 * v * 65536 * m + n) / (2 * n), sp := { p := v * 65536 } }

/-- The slip comparison of a servo boundary (R213). -/
def slipCheck (n : Nat) (d : Dev) : Dev :=
  if n < 8 ∧ srcUse d n = 2 then
    let e := (d.fbk n).p - (motorSide d n + (d.ps n).slipRef)
    let above := decide (absI e > d.get (pgPOS n) POS.XCHK.SLIPTOL * 10)
    (d.puti (pgPOS n) POS.SLIPERR.SLIP e).modPs n fun x => { x with slipN := if above then x.slipN + 1 else 0 }
  else d

/-- Whether the position and speed of a boundary are valid (R217). -/
def posValid (d : Dev) (a : Nat) : Bool :=
  d.pgState (pgPOS a) == 2 && !useLatched d a && !(d.ps a).xchk && !(d.ps a).slip && !(d.di (dieOf a)).standalone

/-- Step-loss comparison (R225). -/
def stepLoss (k : Nat) (d : Dev) : Dev :=
  let a := 8 + k
  if d.on (pgPOS a) POSK.POS_CFG.ENC && !(bit (d.ps a).latch 2 || bit (d.ps a).latch 3) && d.pgState (pgPOS a) == 2 then
    let cpr : Int := d.get (pgPOS a) POS.CPR.CPR
    let den : Int := max 1 (d.get (pgPOS a) POSK.STEPFB.FSPR) * 256
    let e := (d.fbk a).latE.c - (d.ps a).ref - Num.quo 59 (((d.fbk a).latH.c - (d.stp k).mRef) * cpr) den
    let above := decide (absI e > d.get (pgPOS a) POSK.STEPFB.LOSSTOL)
    let was := (d.stp k).loss
    let d := (d.puti (pgPOS a) POSK.LOSSERR.ERR e).modStp k fun s => { s with loss := above }
    if above && !was then (d.ev (pgPOS a) Ev.POS.LOSS).raise (pgPOS a) Cz.POS.STEPLOSS 0xFF else d
  else d.modStp k fun s => { s with loss := false }

/-- The registers of a feedback page at a servo boundary (R222). -/
def publishPos (a : Nat) (d : Dev) : Dev :=
  let pg := pgPOS a
  let f := d.fbk a
  let x := d.ps a
  let compat := d.on pg POS.POS_CFG.COMPAT
  let cpr : Int := max 1 (d.get pg POS.CPR.CPR)
  let d := (d.puti pg POS.P.P f.p).puti pg POS.V.V (clampI (-2147483648) 2147483647 f.v)
  let d := (d.put pg POS.COUNT.COUNT (if compat then uns 32 x.ext else (x.ext % cpr).toNat)).put pg POS.REV.REV
    (if compat then 0 else uns 32 (x.ext / cpr))
  let d := (d.putB pg POS.POS_STAT.REF f.refd).putB pg POS.POS_STAT.ZSEEN x.idx.isSome
  let d := ((d.putB pg POS.POS_STAT.VALID f.valid).putB pg POS.POS_STAT.DEG f.deg).putB pg POS.POS_STAT.FALLBK f.fallbk
  let d := ((d.putB pg POS.POS_STAT.BRIDGE f.bridged).putB pg POS.POS_STAT.LATCH (x.latch != 0)).putB pg POS.POS_STAT.COMPAT compat
  if a < 8 then
    ((d.put pg POS.POS_STAT.SRCUSE (srcUse d a)).put pg POS.POS_STAT.HCODE x.code).putB pg POS.POS_STAT.ALIGN x.aligned |>.put
      pg POS.WE.WE (Num.fitS 50 16 f.we)
  else d.put pg POS.POS_STAT.SRCUSE (if srcUse d a = 1 then 1 else 0)

/-- Validity, degradation and their events at a servo boundary (R216, R217); an invalid position of a leaf that is not
out of service is POSINV with the hard stop (R92). -/
def posJudge (a : Nat) (d : Dev) : Dev :=
  let f := d.fbk a
  let ok := posValid d a
  let h := bit (d.ps a).latch 0 || bit (d.ps a).latch 1
  let deg := decide (a < 8) && (f.fallbk || f.bridged || (h && srcUse d a != 0 && angEnc d a))
  let d := d.evIf (deg && !f.deg) (pgPOS a) Ev.POS.DEGR
  let d := d.evIf (f.valid && !ok) (pgPOS a) Ev.POS.INVAL
  let d := d.modFb a fun x => { x with valid := ok, deg := deg, pOk := if ok then x.p else x.pOk, vOk := if ok then x.v else x.vOk }
  if f.valid && !ok && decide (a < 8) && !leafOut d a then leafFault a (pgLEAF a) Cz.LEAF.POSINV 0xFF 3 d else d

/-- The feedback stage of a servo boundary (R201 to R225). A page that is not in RUN has an invalid position (R217). -/
def posServo (a : Nat) (d : Dev) : Dev :=
  if d.pgState (pgPOS a) = 2 then
    let d := posCompute a (fallback a d)
    let d := if a < 8 then omegaE a d else d
    let d := slipCheck a (applySetref a (posValid d a) (posKeep a d))
    let d := if a < 8 then d else stepLoss (a - 8) d
    publishPos a (posJudge a d)
  else publishPos a (posJudge a (applySetref a false (d.modPs a fun x => { x with ssiGot := false, ssiTried := false, ssiOn := false })))

/-- The electrical angle of a Hall axis at its latched valley, in 2⁻³² turn with its whole turns: the latest edge's angle
plus what ω_e gives since, within the sector of the code, or the sector's centre after ZEROT without an edge (R208). -/
def hallFull (d : Dev) (n : Nat) : Int :=
  let x := d.ps n
  let f := d.fbk n
  let k : Int := hallSector (d.on (pgPOS n) POS.HALL.HSEQ) x.lastCode
  let sixth : Int := 4294967296 / 6
  let off : Int := if x.hallT = 0 ∨ f.latT - x.hallT ≥ zeroT d n then sixth / 2
    else
      -- ω_e × Δt / 2π in 2⁻³² turn; a forward edge lies at the sector's start, a backward one at its end
      let adv := Num.quo 60 (f.we * (f.latT - x.hallT : Nat) * 4 * 4294967296 * 1000000) 6283185307179586
      clampI 0 sixth (if x.hallUp then adv else sixth + adv)
  let turns := (x.hall + (k - x.hall) % 6 - k) / 6
  (d.get (pgPOS n) POS.HALL.HALLOFS * 65536 : Nat) + k * 4294967296 / 6 + off + turns * 4294967296

/-- The rotor angle at a latched valley in turns, with its whole turns, as a fraction (R208, R209, R226). -/
def rotorFull (d : Dev) (a : Nat) : Int × Int :=
  let e := (d.fbk a).latE.c
  let cpr : Int := (max 1 (d.get (pgPOS a) POS.CPR.CPR) : Nat)
  if 8 ≤ a then
    if d.on (pgPOS a) POSK.POS_CFG.ENC then (e, cpr)
    else ((d.fbk a).latH.c, (max 1 (d.get (pgPOS a) POSK.STEPFB.FSPR) * 256 : Nat))
  else if angEnc d a then (e * 4294967296 + (d.ps a).align * cpr, cpr * 4294967296)
  else (hallFull d a, (polep d a * 4294967296 : Nat))

/-- The feedback latch of an axis valley (R201, R222): counts, rotor angle, the periods of a valid Hall code (R219), and the start of
the SSI transfer where the valley is a servo boundary's. -/
def posPwm (a : Nat) (d : Dev) : Dev :=
  let d := latchCounts a (axisValley d a) d
  let (tn, td) := rotorFull d a
  let t := tn * 4294967296 / td
  let d := (d.modFb a fun x => { x with turnN := tn, turnD := td, theta := uns 32 t }).put (pgPOS a) POS.ANG.ANG (uns 32 t)
  if a < 8 then
    let ok := (d.ps a).code != 0 && (d.ps a).code != 7
    let ssi := d.get pgCLK CLK.GRID.PWM == 0 && d.get (pgPOS a) POS.POS_CFG.PSRC == 2
    d.modPs a fun x => { x with codeOk := if ok then x.codeOk + 1 else 0, ssiOn := x.ssiOn || ssi }
  else d

/-! Start-up and commands of a feedback page. -/

/-- The page enters STARTING: counts and status cleared (R219), but not what only CLRFLT ends. The position of the
next servo boundary is then invalid (R217). -/
def posStarting (a : Nat) (d : Dev) : Dev :=
  let y := d.ps a
  let d := d.modPs a fun _ => { code := y.code, lastCode := (if y.code = 7 then 0 else y.code), codeT := y.codeT, ab := y.ab, z := y.z, hraw := y.hraw,
                                hedge := y.hedge, xchk := y.xchk, slip := y.slip }
  let d := d.modFb a fun x => { theta := x.theta, valid := x.valid, setRef := x.setRef }
  let pg := pgPOS a
  ((d.put pg POS.ZCAP.ZCAP 0).put pg POS.REFOFS.REFOFS 0).setPg pg 1

/-- The STARTING conditions hold: RUN, with the reference (R207) and the alignment (R209) of its start (R219). -/
def posStartingDone (a : Nat) (d : Dev) : Dev :=
  let pg := pgPOS a
  let x := d.ps a
  let y := d.di (dieOf a)
  let ssi := decide (a < 8) && d.get pg POS.POS_CFG.PSRC == 2
  if d.hasAxis a && d.pgState pg == 1 && y.alive && !y.standalone && y.lost == 0 && (decide (8 ≤ a) || decide (8 ≤ x.codeOk)) &&
      (!ssi || decide (2 ≤ x.ssiRun)) then
    let d := latchCounts a d.tim.mot (d.setPg pg 2)
    let refv := ssi && d.on pg POS.POS_CFG.SSIREFV
    let r : Int := if refv then d.get pg POS.SSIREF.SSIREF
      else if ssi then (x.ssi.getD 0 : Nat) else (srcCount d a (srcUse d a)).c
    let d := (d.modPs a fun x => { x with ref := r, fbOfs := 0, aligned := false, xchkN := 0, idx := none }).put
      pg POS.REFOFS.REFOFS (uns 32 r)
    let p := satPos (srcPos d a (srcUse d a))
    let d := d.modFb a fun y => { y with valid := !x.xchk && !x.slip, refd := refv, p := p, v := 0, pOk := p, vOk := 0, histE := [], histH := [], histS := [] }
    if a < 8 then
      let k := hallSector (d.on pg POS.HALL.HSEQ) x.lastCode
      slipReference a (if d.on pg POS.POS_CFG.ANGSRC then alignTo a ((sectorAngle d a k + 4294967296 / 12) % 4294967296) (d.ps a).ext d else d)
    else d.modStp (a - 8) fun s => { s with mRef := s.m }
  else d

/-- CLRFLT (R214, R217): latches whose condition is absent clear, and the cross-check and slip events are forgotten. -/
def posClrflt (a : Nat) (d : Dev) : Dev :=
  let x := d.ps a
  let ago (t : Nat) : Bool := t == 0 || decide (t + msMot 100 ≤ d.tim.mot)
  let badCode := x.code == 0 || x.code == 7
  let l := x.latch
  let l := if badCode then l else setBit l 0 false
  let l := if ago x.lastSeq then setBit l 1 false else l
  let l := if ago x.lastErr then setBit l 2 false else l
  let l := if ago x.lastZ then setBit l 3 false else l
  let l := if x.miss = 0 then setBit l 4 false else l
  d.modPs a fun x => { x with latch := l, xchk := false, slip := false }

/-- CLRCNT: the DIAG counters clear. -/
def posClrcnt (a : Nat) (d : Dev) : Dev :=
  let pg := pgPOS a
  (((d.put pg POS.DIAG.XCHKC 0).put pg POS.DIAG.SSIC 0).put pg POS.DIAG.HALLC 0).put pg POS.DIAG.ENCC 0

/-- A write to `POS_CTRL`. -/
def posCtrl (a v : Nat) (d : Dev) : Dev :=
  let d := if bit v 2 then posClrcnt a d else d
  let d := if bit v 1 then posClrflt a d else d
  if bit v 0 then setrefCmd a d else d

/-! Encoder emulation. -/

/-- The target count of a port from the source as latched at its valley (R226). -/
def emuTarget (d : Dev) (k : Nat) : Int :=
  let a := d.get pgEMU (EMU.CFG.SRC.at k)
  let lines : Int := d.get pgEMU (EMU.CFG.LINESM1.at k) + 1
  let t := if d.on pgEMU (EMU.CFG.MODE.at k) then 4 * lines * (d.fbk a).p / (d.get pgEMU (EMU.STRK.STRK.at k))
    else 4 * lines * (d.fbk a).turnN / (d.fbk a).turnD
  if d.on pgEMU (EMU.CFG.INV.at k) then -t else t

/-- A port's count at the end of a PWM period in which it runs: at most 200 counts toward its target (R226, R227, R229). -/
def emuMove (ok : Bool) (t : Int) (e : EmuX) : EmuX :=
  if !e.on then { e with on := true, cnt := t / 4 * 4, tgt := t, lag := false, frz := !ok }
  else if !ok then { e with frz := true }
  else
    let c := e.cnt + clampI (-200) 200 (t - e.cnt)
    { e with cnt := c, tgt := t, frz := false, lag := decide (absI (t - e.cnt) > 200) || (e.lag && c != t) }

/-- A port's A, B and Z levels from its count, A leading B where it counts up; all low while the port is off (R228). -/
def emuLines (d : Dev) (k : Nat) (e : EmuX) : EmuX :=
  let q := e.cnt % 4
  let per : Int := 4 * (d.get pgEMU (EMU.CFG.LINESM1.at k) + 1)
  let z := if d.on pgEMU (EMU.CFG.MODE.at k) then uns 32 e.cnt == 0 else e.cnt % per == 0
  { e with a := e.on && (q == 1 || q == 2), b := e.on && (q == 2 || q == 3), z := e.on && z }

/-- After a commit a port that is off has its lines low (R228). -/
def emuCommit (k : Nat) (d : Dev) : Dev :=
  if d.enabled pgEMU && d.on pgEMU (EMU.CFG.EN.at k) then d
  else (d.modEm k fun e => emuLines d k { e with on := false, lag := false, frz := false }) |>.putB pgEMU (EMU.STAT.LAG.at k) false
    |>.putB pgEMU (EMU.STAT.FRZ.at k) false

/-- A port in a PWM period (R226 to R229, R594). -/
def emuPwm (k : Nat) (d : Dev) : Dev :=
  let a := d.get pgEMU (EMU.CFG.SRC.at k)
  let e := if d.enabled pgEMU && d.on pgEMU (EMU.CFG.EN.at k) then emuMove (d.hasAxis a && (d.fbk a).valid) (emuTarget d k) (d.em k)
    else { d.em k with on := false, lag := false, frz := false }
  let d := d.modEm k fun _ => emuLines d k e
  let unref := !(d.hasAxis a && d.on (pgPOS a) POS.POS_STAT.REF)
  (((d.put pgEMU (EMU.CNT.CNT.at k) (uns 32 e.cnt)).putB pgEMU (EMU.STAT.LAG.at k) e.lag).putB pgEMU (EMU.STAT.FRZ.at k) e.frz).putB
    pgEMU (EMU.STAT.UNREF.at k) unref

end Sys2Proof.Machine
end

