-- ==== Sys2Proof/Machine/Drive.lean ====
section
/-! DEFINITION. The leaf drive: sampling, current loop and voltage stage of one PWM period (R63 to R88), averages and
the shadow estimate (R104, R105), the servo loop (R89 to R92), drive faults (R67 to R74, R96 to R103), calibration and
start-up of a drive page (R106 to R113). -/

namespace Sys2Proof.Machine

/-! Numbers. Voltages are in mV / 4,096, currents in mA, angles in 2⁻³² turn, sines in 2⁻³⁰. -/

/-- Inner value of the sine series at `x` radians in 2⁻³⁰, terms from `2k(2k+1)` down. -/
def sinSeries (x2 : Int) : List Int → Int
  | [] => 1073741824
  | k :: ks => 1073741824 - (x2 * sinSeries x2 ks / 1073741824) / k

/-- Sine of a first-quadrant angle given in 2⁻³⁰ quarter turns, in 2⁻³⁰ (assumption log 3). -/
def sinQuarter (r : Nat) : Int :=
  let x : Int := (r : Int) * 1686629713 / 1073741824
  x * sinSeries (x * x / 1073741824) [6, 20, 42, 72, 110, 156] / 1073741824

/-- Sine of an angle in 2⁻³² turn, in 2⁻³⁰. -/
def sinTurn (t : Nat) : Int :=
  let q := t / 1073741824 % 4
  let r := t % 1073741824
  if q = 0 then sinQuarter r else if q = 1 then sinQuarter (1073741824 - r)
  else if q = 2 then -sinQuarter r else -sinQuarter (1073741824 - r)

/-- Cosine of an angle in 2⁻³² turn, in 2⁻³⁰. -/
def cosTurn (t : Nat) : Int := sinTurn (t + 1073741824)

/-- Square root, rounded as Num.quo rounds (assumption log 3). -/
def Num.sqrt (site : Nat) (n : Int) : Int :=
  let r := isqrt n.toNat
  if (r : Int) * r = n ∨ n < 0 then r else if Config.roundUp site n 0 then r + 1 else r

/-- Saturation to a symmetric 48-bit accumulator (R83). -/
def sat48 (x : Int) : Int := clampI (-140737488355328) 140737488355327 x

/-- Saturation to ±32,767 (R75). -/
def satMa (x : Int) : Int := clampI (-32767) 32767 x

/-- Shunt amplifier gain of a code (field `GAIN`). -/
def gainOf (c : Nat) : Nat := if c = 0 then 5 else if c = 1 then 10 else if c = 2 then 20 else 40

/-- Phase current in mA from an ADC code (chapter "Shunt sensing and sampling", R75). -/
def phaseMa (gain rsh : Nat) (code ofs : Int) : Int :=
  satMa (Num.quo 1 ((code - 8192 - ofs) * 1250000000) (8192 * gain * rsh))

/-- Three phase values as integers. -/
structure Ph3 where
  u : Int := 0
  v : Int := 0
  w : Int := 0
  deriving DecidableEq, Repr

/-- Smallest compare value whose low side settles the samples: `CMP_MIN` (R79). -/
def cmpMin (deadt : Nat) : Nat := 300 + deadt

/-- Whether a phase's sample is valid under the compare value that was in force (R77). -/
def sampleValid (deadt cmp : Nat) : Bool := decide (cmpMin deadt ≤ cmp)

/-- Currents after reconstruction of the one invalid phase (R78). -/
def rebuild (i : Ph3) (u v w : Bool) : Ph3 :=
  if !u && v && w then { i with u := satMa (-(i.v + i.w)) }
  else if u && !v && w then { i with v := satMa (-(i.u + i.w)) }
  else if u && v && !w then { i with w := satMa (-(i.u + i.v)) }
  else i

/-- Clarke and Park transforms: (i_d, i_q) at an electrical angle, amplitude-invariant (chapter "Current loop"). -/
def park (i : Ph3) (th : Nat) : Int × Int :=
  let al := 2 * i.u - i.v - i.w          -- 3 i_α
  let be := i.v - i.w                    -- √3 i_β
  let c := cosTurn th
  let s := sinTurn th
  -- √3 in 2⁻³⁰ is 1,859,775,393
  let bq := be * 1859775393              -- 3 i_β in 2⁻³⁰
  let aq := al * 1073741824
  (satMa (Num.quo 2 (aq * c + bq * s) (3 * 1152921504606846976)),
   satMa (Num.quo 3 (bq * c - aq * s) (3 * 1152921504606846976)))

/-- Inverse transforms: phase voltages of (v_d, v_q) at an angle (R85). -/
def unpark (vd vq : Int) (th : Nat) : Ph3 :=
  let c := cosTurn th
  let s := sinTurn th
  let a := vd * c - vq * s               -- in 2⁻³⁰
  let b := vd * s + vq * c
  let h := b * 929887697                 -- √3/2 b, 929,887,697 = √3/2 in 2⁻³⁰
  { u := Num.quo 4 a 1073741824
    v := Num.quo 5 (h - a * 536870912) 1152921504606846976
    w := Num.quo 6 (-h - a * 536870912) 1152921504606846976 }

/-- Dead-time compensation of one phase (R86). -/
def dtComp (dtcv zone : Nat) (i : Int) : Int :=
  Num.quo 7 ((dtcv : Int) * 40960 * clampI (-(zone : Int)) zone i) zone

/-- Compare value of a phase voltage on a bridge supply (R87). Model's choice: 2,000 where the supply measures 0, for which the
manual states no duty (assumption log 70). -/
def cmpOf (v vbr : Int) : Nat :=
  if vbr ≤ 0 then 2000 else (clampI 0 4000 ((4000 * (vbr - 2 * v) + vbr) / (2 * vbr))).toNat

/-- The limit on the second-highest duty: all but the lowest compare value are at least `CMP_MIN` (R79). -/
def limitSecond (deadt : Nat) (c : Tri) : Tri :=
  let m := cmpMin deadt
  if c.u ≤ c.v ∧ c.u ≤ c.w then { c with v := max c.v m, w := max c.w m }
  else if c.v ≤ c.w then { c with u := max c.u m, w := max c.w m }
  else { c with u := max c.u m, v := max c.v m }

/-- The regeneration limit of a bridge supply in 10 mV, `none` at or below REGEN (R88). -/
def regenLim (iqmax regen ovtrip vbr : Nat) : Option Int :=
  let r := if regen ≥ ovtrip then ovtrip - 100 else regen
  if vbr ≤ r then none
  else some (maxI 0 (Num.quo 8 ((iqmax : Int) * ((ovtrip : Int) - vbr)) ((ovtrip : Int) - r)))

/-- The regeneration limit in force on leaf `n`, from the bridge supply of its die's latest frame (R88, R98). -/
def regenOf (d : Dev) (n : Nat) : Option Int :=
  regenLim (d.get (pgLEAF n) LEAF.ILIM.IQMAX) (d.get (pgLEAF n) LEAF.VBROV.REGEN) (d.get (pgLEAF n) LEAF.VBROV.OVTRIP)
    (d.di (n / 4)).samp.vbr

/-- Limits of the q-current with the regeneration limit on the regenerating sign, which opposes ω_e (R88, R90). -/
def regenCut (lim : Option Int) (we : Int) (l : Int × Int) : Int × Int :=
  match lim with
  | some q => if we > 0 then (maxI l.1 (-q), l.2) else if we < 0 then (l.1, minI l.2 q) else l
  | none => l

/-- The electrical angle of a rotor angle (R82). -/
def elecAngle (polep angofs theta : Nat) : Nat := (polep * theta + angofs * 65536) % 4294967296

/-- What the current loop of one axis takes in and gives (R83 to R87). -/
structure CurrOut where
  xd : Int
  xq : Int
  vd : Int
  vq : Int
  clamped : Bool
  cmp : Tri
  deriving DecidableEq, Repr

/-- An integrator's new value: not updated in the direction of an acting clamp (R84). -/
def integ (x upd out lim : Int) : Int :=
  if (out > lim ∧ upd > 0) ∨ (out < -lim ∧ upd < 0) then x else sat48 (x + upd)

/-- The current loop of a leaf axis in one PWM period (R83 to R87). -/
def currentLoop (d : Dev) (n : Nat) (i : Ph3) (idq : Int × Int) (iqRef idRef : Int) (vbr10 : Nat) (th : Nat) (we : Int) :
    CurrOut :=
  let pg := pgLEAF n
  let x := d.drv n
  let vb : Int := (vbr10 : Int) * 40960
  let kp : Int := d.get pg LEAF.KI_CUR.KP_I
  let ki : Int := d.get pg LEAF.KI_CUR.KI_I
  let dec := d.on pg LEAF.DRV_CFG.DECOUP
  let l : Int := d.get pg LEAF.MOTOR.PHIND
  let ed := idRef - idq.1
  let eq := iqRef - idq.2
  let ffd : Int := if dec then Num.quo 9 (we * l * idq.2 * 4096) 1000000 else 0
  let ffq : Int := if dec then
      Num.quo 10 (we * l * idq.1 * 4096) 1000000 +
      Num.quo 11 (we * (d.get pg LEAF.TORQUE.KT) * 4096) (150 * (d.get pg LEAF.TORQUE.POLEP))
    else 0
  let xd1 := sat48 (x.xd + ki * ed)
  let xq1 := sat48 (x.xq + ki * eq)
  let vd0 := sat48 (kp * ed * 16 + xd1 - ffd)
  let vq0 := sat48 (kp * eq * 16 + xq1 + ffq)
  let vmax := Num.sqrt 12 (vb * vb / 3)
  let vd := clampI (-vmax) vmax vd0
  let vql := Num.sqrt 13 (vmax * vmax - vd * vd)
  let vq := clampI (-vql) vql vq0
  -- 48 µs × 2³² / 2π = 32,811.6 per rad/s
  let adv := Num.quo 14 (we * 206158430208 * 1000000000) (6283185307179587)
  let ph := unpark vd vq (uns 32 ((th : Int) + adv))
  let comp := d.on pg LEAF.DRV_CFG.DTCEN
  let add (v cur : Int) : Int :=
    if comp then v + dtComp (d.get pg LEAF.DTC.DTCV) (d.get pg LEAF.DTC.DTCZONE) cur else v
  let a := add ph.u i.u
  let b := add ph.v i.v
  let c := add ph.w i.w
  let mid := maxI a (maxI b c) + minI a (minI b c)
  let off := Num.quo 15 (-mid) 2
  { xd := integ x.xd (ki * ed) vd0 vmax, xq := integ x.xq (ki * eq) vq0 vql, vd, vq,
    clamped := vd != vd0 || vq != vq0,
    cmp := limitSecond (d.get pg LEAF.TIMING.DEADT)
      { u := cmpOf (a + off) vb, v := cmpOf (b + off) vb, w := cmpOf (c + off) vb } }

/-- The mean voltage that a compare value commands, in 10 mV, with the dead-time effect of the current's sign (R103): a current out of
the bridge loses DEADT counts of the high side's window, one into it of the low side's, and no more than that window has (R64). -/
def expectVph (vbr10 cmp deadt : Nat) (i : Int) : Int :=
  let eff : Int := if i > 0 then -(min deadt (2 * (4000 - cmp)) : Nat) else if i < 0 then (min deadt (2 * cmp) : Nat) else 0
  Num.quo 16 ((vbr10 : Int) * (2 * (4000 - (cmp : Int)) + eff)) 8000

/-- Whether the phase voltages disagree with the compare values in force (R103). -/
def vphBad (d : Dev) (pg : Nat) (vbr10 : Nat) (cmp meas : Tri) (i : Ph3) : Bool :=
  let tol : Int := d.get pg LEAF.CHKTOL.VPHTOL
  let dt := d.get pg LEAF.TIMING.DEADT
  decide (absI (meas.u - expectVph vbr10 cmp.u dt i.u) > tol) ||
  decide (absI (meas.v - expectVph vbr10 cmp.v dt i.v) > tol) ||
  decide (absI (meas.w - expectVph vbr10 cmp.w dt i.w) > tol)

/-- Extremes of three channels. -/
def Tri.min (a b : Tri) : Tri :=
  { u := Nat.min a.u b.u, v := Nat.min a.v b.v, w := Nat.min a.w b.w, x := Nat.min a.x b.x }
def Tri.max (a b : Tri) : Tri :=
  { u := Nat.max a.u b.u, v := Nat.max a.v b.v, w := Nat.max a.w b.w, x := Nat.max a.x b.x }
def Tri.add (a b : Tri) : Tri := { u := a.u + b.u, v := a.v + b.v, w := a.w + b.w, x := a.x + b.x }

/-- One period of an offset calibration (R109): codes summed, extremes kept, the speed check noted. -/
def calPeriod (c : CalX) (s : Tri) (fast : Bool) : CalX :=
  if c.on && decide (c.n < 256) then
    { c with n := c.n + 1, sum := c.sum.add s, mn := if c.n = 0 then s else c.mn.min s,
             mx := if c.n = 0 then s else c.mx.max s, bad := c.bad || fast }
  else c

/-- The sample codes of an axis in its die's latest good frame: three phases of a leaf, two windings of a step. -/
def axisCodes (d : Dev) (a : Nat) : Tri :=
  if a < 8 then (nth (d.di (a / 4)).samp.leaf (a % 4) {}).adc
  else
    let s := nth (d.di ((a - 8) / 2)).samp.step (a % 2) {}
    { u := s.a, v := s.b }

/-- A calibration under way takes the codes of this period (R109). -/
def calStep (a : Nat) (d : Dev) : Dev :=
  if (d.drv a).cal.on && (d.di (dieOf a)).fresh then
    let s := axisCodes d a
    let fast := decide (a < 8) && decide (absI (d.fbk a).v ≥ 5000)
    d.modDrv a fun x => { x with cal := calPeriod x.cal s fast }
  else d

/-- A mode requested by the sequencer takes effect at the axis valley (R95); it waits while a calibration runs (R111). While the
engine holds mode OFF, a request for any other mode gives OFF (R68, R69, R93, R106). TEST needs TMODE and PG_CTRL.TEST. -/
def takeMode (n : Nat) (d : Dev) : Dev :=
  let x := d.drv n
  match x.modeReq with
  | none => d
  | some m =>
    if x.cal.on then d
    else if offHeld d n then setMode n mOFF d
    else if m = mTEST ∧ !(d.get (pgLEAF n) LEAF.DRV_TEST.TMODE = 1 && d.on (pgLEAF n) HDR.TEST) then
      d.modDrv n fun x => { x with modeReq := none }
    else
      let d := setMode n m d
      if isPwm m && !isPwm x.mode then d.modDrv n fun x => { x with cmp := x.cmpNext } else d

/-- The counters, offsets and servo values of a leaf's drive go into their registers, in the cycle in which the current loop's own
results do (R117). -/
def publishSlow (n : Nat) (d : Dev) : Dev :=
  let pg := pgLEAF n
  let x := d.drv n
  (((((((d.put pg LEAF.DIAG.VLIM x.diag.vlim).put pg LEAF.DIAG.STALE x.diag.stale).put pg LEAF.DIAG.OCCBC x.diag.occbc).puti
    pg LEAF.OFS_UV.OFSU x.ofsU).puti pg LEAF.OFS_UV.OFSV x.ofsV).puti pg LEAF.OFS_W.OFSW x.ofsW).puti
    pg LEAF.SRV_EP.PERR x.srvEp).puti pg LEAF.SRV_IQ.IQREF x.srvIq

/-- Publish the registers of one current-loop computation (R117). -/
def publishDrive (n : Nat) (i : Ph3) (idq : Int × Int) (vd vq : Int) (vbr : Nat) (vph : Tri) (d : Dev) : Dev :=
  let pg := pgLEAF n
  ((((((((d.puti pg LEAF.I_UV.IU i.u).puti pg LEAF.I_UV.IV i.v).puti pg LEAF.I_W.IW i.w).put pg LEAF.I_W.VBR vbr).puti
    pg LEAF.IDQ.ID idq.1).puti pg LEAF.IDQ.IQ idq.2).puti pg LEAF.VDQ.VD (satMa (Num.quo 17 vd 40960))).puti
    pg LEAF.VDQ.VQ (satMa (Num.quo 18 vq 40960))).put pg LEAF.VPH_UV.VPHU vph.u
    |>.put pg LEAF.VPH_UV.VPHV vph.v |>.put pg LEAF.VPH_W.VPHW vph.w

/-- The regeneration clamp in a PWM period (R88): event and one C0 entry per episode. -/
def regenEpisode (n : Nat) (act : Bool) (d : Dev) : Dev :=
  let was := (d.drv n).regen
  let d := d.modDrv n fun x => { x with regen := act }
  if act && !was then (d.ev (pgLEAF n) Ev.LEAF.REGEN).raise (pgLEAF n) Cz.LEAF.REGEN 0xFF else d

/-- The q-current reference of a mode: of the servo loop, of the sequencer, or of `DRV_TEST` (table "Drive modes"). -/
def iqRefOf (d : Dev) (n : Nat) : Int :=
  if (d.drv n).mode = mTEST then d.geti (pgLEAF n) LEAF.DRV_TEST.IQTEST else (d.drv n).iqUse

/-- A PWM period of a leaf axis whose samples are stale (R80): compare values and integrators stay. Model's choice: such a period
neither adds to nor breaks the runs of 4 periods of R102 and R103 (assumption log 70). -/
def stalePeriod (n : Nat) (d : Dev) : Dev :=
  (diagInc n LEAF.DIAG.STALE (fun c => { c with stale := min 255 (c.stale + 1) }) d).ev (pgLEAF n) Ev.LEAF.SAMPLE

/-- A PWM period of a leaf axis with fresh samples: currents, checks, current loop, compare values for the next valley
(R75 to R88, R102, R103). -/
def freshPeriod (n : Nat) (d : Dev) : Dev :=
  let pg := pgLEAF n
  let x := d.drv n
  let smp := nth (d.di (n / 4)).samp.leaf (n % 4) {}
  let vbr := (d.di (n / 4)).samp.vbr
  let g := gainOf (d.get pg LEAF.DRV_CFG.GAIN)
  let rsh := d.get pg LEAF.SHUNT.RSH
  let dt := d.get pg LEAF.TIMING.DEADT
  let pwm := isPwm x.mode
  let vu := x.mode == mBRAKE || (pwm && sampleValid dt x.cmp.u)
  let vv := x.mode == mBRAKE || (pwm && sampleValid dt x.cmp.v)
  let vw := x.mode == mBRAKE || (pwm && sampleValid dt x.cmp.w)
  let raw : Ph3 := { u := phaseMa g rsh smp.adc.u x.ofsU
                     v := phaseMa g rsh smp.adc.v x.ofsV
                     w := phaseMa g rsh smp.adc.w x.ofsW }
  let i := if pwm then rebuild raw vu vv vw else raw
  let fb := d.fbk n
  let th := elecAngle (d.get pg LEAF.TORQUE.POLEP) (d.get pg LEAF.ANGLE.ANGOFS) fb.theta
  let idq := park i th
  let lim := regenOf d n
  let ref0 := iqRefOf d n
  let ref := match lim with
    | some q => if (ref0 > 0 ∧ fb.we < 0) ∨ (ref0 < 0 ∧ fb.we > 0) then clampI (-q) q ref0 else ref0
    | none => ref0
  let isum := vu && vv && vw && decide (absI (raw.u + raw.v + raw.w) > d.get pg LEAF.CHKTOL.ISUMTOL)
  let bad := pwm && vphBad d pg vbr x.cmp smp.vph i
  let co := currentLoop d n i idq ref (if x.mode = mTEST then 0 else d.geti pg LEAF.ILIM.IDREF) vbr th fb.we
  let d := d.modDrv n fun x =>
    { x with
      nIsum := if vu && vv && vw then (if isum then x.nIsum + 1 else 0) else x.nIsum
      nVph := if bad then x.nVph + 1 else 0
      xd := if pwm then co.xd else x.xd
      xq := if pwm then co.xq else x.xq
      vlim := x.vlim || (pwm && co.clamped)
      cmpNext := if pwm && !x.residue then co.cmp else x.cmpNext
      avg := { x.avg with n := x.avg.n + 1, id := x.avg.id + idq.1, iq := x.avg.iq + idq.2,
                          vq := x.avg.vq + (if pwm then co.vq else 0), we := x.avg.we + fb.we,
                          whole := x.avg.whole && (x.mode == mCURRENT || x.mode == mSERVO) } }
  let d := publishDrive n i idq (if pwm then co.vd else 0) (if pwm then co.vq else 0) vbr smp.vph d
  regenEpisode n (pwm && lim.isSome) d

/-- A residue mismatch of a leaf or step engine (R101): event, latch, entry; the gates go off at the period's end. A calibration
under way aborts (R111). -/
def residueHit (a : Nat) (d : Dev) : Dev :=
  if drvReports d a then
    let d := (calAbort a (latchDrive a Cz.LEAF.RESIDUE.code (d.ev (pgDRV a) Ev.LEAF.RESIDUE))).modDrv a fun x =>
      { x with residue := true, cmpNext := x.cmp }
    axisFault a Cz.LEAF.RESIDUE 0xFF 3 d
  else d

/-- At an axis valley, the compare values `c` computed from the samples of the valley before take effect, together (R66, R81); a
residue mismatch of the ended period turns the gates off (R101); a cut of that period is over (R96). Model's choice: a period in
BRAKE with a cut neither adds to nor breaks the run of R97 (assumption log 70). -/
def valleyDrive (a : Nat) (c : Tri) (d : Dev) : Dev :=
  let x := d.drv a
  let d := if x.residue then gatesOff a (d.modDrv a fun x => { x with residue := false })
    else d.modDrv a fun x => { x with cmp := c }
  d.modDrv a fun x => { x with cut := false, nOc := if x.cut then x.nOc else 0 }

/-- One phase or half-bridge of a set. -/
def Tri.ch (c : Tri) (k : Nat) : Nat := if k = 0 then c.u else if k = 1 then c.v else if k = 2 then c.w else c.x

/-! The chopper of bold face (R273). -/

/-- What a winding is commanded to at `p` counts after its axis valley, for the signed comparator reference `ref` (R273): the drive
diagonal (1), after a trip the reverse diagonal for `mixt` counts (2), then slow decay (0); slow decay throughout at a reference
below one step. -/
def chopPhase (ref : Int) (trip : Option Nat) (mixt p : Nat) : Nat :=
  if ref = 0 then 0
  else match trip with
    | none => 1
    | some t => if p < t then 1 else if p < t + mixt then 2 else 0

/-- Whether a MOSFET of a winding is commanded on in a phase of the chopper: HS1 with LS2 drives a positive current, HS2 with LS1 a
negative one, both low sides are on in slow decay (R273). -/
def chopGate (ref : Int) (phase : Nat) (second high : Bool) : Bool :=
  if phase = 0 then !high else high == (second == (decide (ref < 0) != (phase == 2)))

/-- The reverse diagonal's length in counts: MIXT in mixed decay, none in slow decay (R273). -/
def mixCounts (d : Dev) (k : Nat) : Nat := if d.on (pgSTEP k) STEP.STP_CFG.DECAY then 25 * d.get (pgSTEP k) STEP.CHOP.MIXT else 0

/-- The comparator reference and trip of a winding in the present period. -/
def chopOfWind (d : Dev) (k : Nat) (b : Bool) : Int × Option Nat :=
  let w := d.win k
  if b then (w.chopB, w.tripB) else (w.chopA, w.tripA)

/-- The gate command of a winding's MOSFET in bold face at `p` counts after the valley, every turn-on delayed by DEADT (R65, R273). -/
def chopLine (d : Dev) (k : Nat) (b second high : Bool) (p : Nat) : Bool :=
  let (ref, trip) := chopOfWind d k b
  let mixt := mixCounts d k
  let dt := d.get (pgSTEP k) STEP.TIMING.DEADT
  let cmd (p : Nat) : Bool := chopGate ref (chopPhase ref trip mixt p) second high
  let before := bit (if b then (d.win k).endB else (d.win k).endA) (2 * b2n second + b2n (!high))
  let edges := (0, before) :: match trip with
    | some t => [(t, cmd (t - 1)), (t + mixt, cmd (t + mixt - 1))]
    | none => []
  cmd p && edges.all fun e => e.2 || !(decide (e.1 ≤ p) && decide (p < e.1 + dt))

/-- The gates of a winding that are commanded on at the end of the present period, bits HS1, LS1, HS2, LS2: the chopper's in bold
face, else the low sides, which the carrier's valley leaves on. -/
def endGates (d : Dev) (k : Nat) (b : Bool) : Nat :=
  let w := d.win k
  if !w.run then 0
  else if !w.bold then 10
  else
    let (ref, trip) := chopOfWind d k b
    let ph := chopPhase ref trip (mixCounts d k) 7999
    b2n (chopGate ref ph false true) + 2 * b2n (chopGate ref ph false false) + 4 * b2n (chopGate ref ph true true) +
      8 * b2n (chopGate ref ph true false)

/-- For how many counts the low side's command of phase `ph` has been on at the end of a period (R64): 8,000 where it has been on
throughout. -/
def lowAgeOf (d : Dev) (a ph : Nat) : Nat :=
  let x := d.drv a
  let c := x.cmp.ch ph
  if x.cut then 0
  else if isPwm x.mode then
    if 8 ≤ a ∧ !(d.win (a - 8)).run then 0
    else if 8 ≤ a ∧ (d.win (a - 8)).bold then (if bit (endGates d (a - 8) (decide (2 ≤ ph))) (2 * (ph % 2) + 1) then 8000 else 0)
    else if 4000 ≤ c then 8000 else c - 1
  else if x.mode = mBRAKE then 8000 else 0

/-- For how many counts the high side's command of phase `ph` has been on at the end of a period (R64). -/
def highAgeOf (d : Dev) (a ph : Nat) : Nat :=
  let x := d.drv a
  if x.cut ∨ !isPwm x.mode then 0
  else if 8 ≤ a ∧ !(d.win (a - 8)).run then 0
  else if 8 ≤ a ∧ (d.win (a - 8)).bold then (if bit (endGates d (a - 8) (decide (2 ≤ ph))) (2 * (ph % 2)) then 8000 else 0)
  else if x.cmp.ch ph = 0 then 8000 else 0

/-- At an axis valley the gate commands' ages are taken, before a new set of compare values or a new mode comes into force (R65). -/
def takeAges (a : Nat) (d : Dev) : Dev :=
  let of (f : Nat → Nat) : Tri := { u := f 0, v := f 1, w := f 2, x := f 3 }
  d.modDrv a fun x => { x with lowAge := of (lowAgeOf d a), highAge := of (highAgeOf d a) }

/-- A PWM period of leaf `n` begins at its valley (R76 to R88). The samples of this valley and the voltages of the ended period are
judged by the compare values in force until it; the current loop's result takes effect at the next valley (R81). -/
def pwmLeaf (n : Nat) (d : Dev) : Dev :=
  let c := (d.drv n).cmpNext
  let d := takeAges n d
  if d.pgState (pgLEAF n) == 0 || d.pgState (pgLEAF n) == 3 then publishSlow n (calStep n (valleyDrive n c d))
  else
    let d := if (d.di (n / 4)).fresh then freshPeriod n d else stalePeriod n d
    publishSlow n (takeMode n (calStep n (valleyDrive n c d)))

/-- The averages of a program cycle and the shadow check's count (R104, R105), for leaf `n`. Model's choices: a period with stale
samples stands outside the means and a cycle without a fresh one loads nothing (R104), and a cycle not wholly in CURRENT or SERVO
breaks the run of three (R105; assumption log 70). -/
def avgBoundary (n : Nat) (d : Dev) : Dev :=
  let pg := pgLEAF n
  let a := (d.drv n).avg
  if a.n = 0 then d.modDrv n fun x => { x with avg := { whole := x.mode == mCURRENT || x.mode == mSERVO } }
  else
    let vq := Num.quo 19 a.vq ((a.n : Int) * 40960)
    let iq := Num.quo 20 a.iq a.n
    let we := Num.quo 21 a.we a.n
    let d := (((d.puti pg LEAF.AVG_I.AVG_ID (satMa (Num.quo 22 a.id a.n))).puti pg LEAF.AVG_I.AVG_IQ (satMa iq)).puti
      pg LEAF.AVG_V.AVG_VQ (satMa vq)).puti pg LEAF.AVG_V.AVG_WE (satMa we)
    -- r in 10 mV × 1,500 × POLEP: PHRES mΩ × mA = µV; ω ψ = ω × KT / (150 POLEP) mV
    let p : Int := d.get pg LEAF.TORQUE.POLEP
    let r := vq * 1500 * p - (Num.quo 23 ((d.get pg LEAF.MOTOR.PHRES : Int) * iq * 1500 * p) 10000 +
      we * (d.get pg LEAF.TORQUE.KT))
    let tol := Num.quo 24 ((8 * (d.get pg LEAF.SHDTOL.SHDTOL : Int) + absI vq) * 1500 * p) 8
    let above := a.whole && decide (absI r > tol)
    d.modDrv n fun x => { x with nShadow := if above then x.nShadow + 1 else 0,
                                 avg := { whole := x.mode == mCURRENT || x.mode == mSERVO } }

/-- The servo loop of leaf `n` (R89 to R91): position and speed from POS, set-point from the profile, the limits of R90
given as `lim`; the result is used from the next valley. -/
def servoLoop (n : Nat) (lim : Int × Int) (d : Dev) : Dev :=
  let pg := pgLEAF n
  let x := d.drv n
  let sp := (d.prf n).sp
  let fb := d.fbk n
  let perr := sp.p - fb.p * 65536
  let d := d.modDrv n fun x => { x with srvEp := clampI (-2147483648) 2147483647 (Num.quo 25 perr 65536) }
  if x.mode != mSERVO then d
  else
    let vref := (d.get pg LEAF.KPP.KPP : Int) * perr + sp.v * 65536
    let verr := vref - fb.v * 4294967296
    let num := (d.get pg LEAF.KPV.KPV : Int) * verr * 1000 + x.xv * 4294967296 * 1000000 +
      (d.get pg LEAF.KACC.KACC : Int) * sp.a * 65536
    let iq := Num.quo 26 num (281474976710656 * 1000000)
    let upd := Num.quo 27 ((d.get pg LEAF.KIV.KIV : Int) * verr) (4294967296 * 1000)
    let hold := (decide (iq > lim.2) && decide (upd > 0)) || (decide (iq < lim.1) && decide (upd < 0))
    let xv := clampI (lim.1 * 65536) (lim.2 * 65536) (if hold then x.xv else x.xv + upd)
    let out := clampI lim.1 lim.2 iq
    d.modDrv n fun x => { x with xv := xv, iqNext := out, srvIq := satMa out }

/-- At a valley after a servo boundary the new iq_ref comes into use (R91). -/
def takeIq (a : Nat) (d : Dev) : Dev := d.modDrv a fun x => { x with iqUse := x.iqNext }

/-! Drive faults as commands. -/

/-- Bootstrap undervoltage (R72). -/
def bootstrapUv (a ph : Nat) (d : Dev) : Dev :=
  if drvReports d a then
    drvFaultOff a Ev.LEAF.BSTUV Cz.LEAF.BSTUV ph
      (if a < 8 then d.put (pgDRV a) (drvReg a LEAF.DRV_STAT.BSTOK) (setBit (d.get (pgDRV a) (drvReg a LEAF.DRV_STAT.BSTOK)) ph false) else d)
  else d

/-- Gate-supply undervoltage of one axis (R73), on a parked or disabled page too (R114): there the sequencer takes no fault. -/
def vgduvAxis (a : Nat) (d : Dev) : Dev :=
  if d.hasAxis a then
    let d := (latchDrive a Cz.LEAF.VGDUV.code (d.ev (pgDRV a) Ev.LEAF.VGDUV)).putB (pgDRV a) (drvReg a LEAF.DRV_STAT.VGDOK) false
    let d := (gatesOff a (calAbort a d)).putB (pgDRV a) (drvReg a LEAF.DRV_STAT.BEN) false
    if d.pgState (pgDRV a) = 3 ∨ d.pgState (pgDRV a) = 0 then d.fault (pgDRV a) Cz.LEAF.VGDUV 0xFF
    else axisFault a Cz.LEAF.VGDUV 0xFF 3 d
  else (gatesOff a d).putB (pgDRV a) (drvReg a LEAF.DRV_STAT.VGDOK) false

/-- The axes of a field die, leaves first (R3, R4). -/
def dieAxes (x : Nat) : List Nat := [4 * x, 4 * x + 1, 4 * x + 2, 4 * x + 3, 8 + 2 * x, 9 + 2 * x]

/-- Gate-supply undervoltage of a die (R73): one report per axis, in the order of R372. -/
def vgdUv (x : Nat) (d : Dev) : Dev :=
  let d := d.modDi x fun y => { y with samp := { y.samp with vgd := false } }
  d.each ((dieAxes x).filter d.hasAxis) vgduvAxis

/-- Whether both low sides of a winding have been on for t_SET at the end of a bold period (R267, R273). -/
def chopValid (d : Dev) (k : Nat) (b : Bool) : Bool :=
  let (ref, trip) := chopOfWind d k b
  ref == 0 || match trip with
    | some t => decide (t + mixCounts d k + cmpMin (d.get (pgSTEP k) STEP.TIMING.DEADT) ≤ 8000)
    | none => false

/-- Whether a fault event holds the gates of a starting axis off (R241, R285). -/
def startHeld (d : Dev) (a : Nat) : Bool := if a < 8 then (d.seq a).st == .fault else (d.stp (a - 8)).st == .fault

/-- The gate-line command of one MOSFET at a MOTCLK count (R64, R65): high side on above the compare value, low side below it, each
turn-on edge delayed by DEADT, one at the valley too; in bold face the chopper's (R273); in BRAKE the low sides are on, in the precharge
for 2 µs from each valley (R108). -/
def gateLine (d : Dev) (a ph : Nat) (high : Bool) (t : Nat) : Bool :=
  let x := d.drv a
  let c := x.cmp.ch ph
  let dt := d.get (pgDRV a) LEAF.TIMING.DEADT
  let p := (t + 8000 - axisValley d a % 8000) % 8000
  let low := decide (dt ≤ p + x.lowAge.ch ph)
  if isPwm x.mode then
    if 8 ≤ a ∧ !(d.win (a - 8)).run then false
    else if 8 ≤ a ∧ (d.win (a - 8)).bold then chopLine d (a - 8) (decide (2 ≤ ph)) (ph % 2 == 1) high p
    else if high then (if c = 0 then decide (dt ≤ p + x.highAge.ch ph) else decide (c + dt < p) && decide (p + c < 8000))
    else (decide (4000 ≤ c) && low) || (decide (p < c) && low) || decide (8000 + dt < p + c)
  else !high && ((x.mode == mBRAKE && low) || (x.step == .precharge && !startHeld d a && decide (dt ≤ p) && decide (p < 500)))

/-- Whether the field die lets the gates of an axis turn on: it runs and is not in its standalone safe state (R16), VGD is valid
(R70, R73), the bridge-disable line is not asserted (R68), and no comparator trip cuts the period (R96). -/
def gatesFree (d : Dev) (a : Nat) : Bool :=
  let y := d.di (dieOf a)
  y.alive && !y.standalone && y.samp.vgd && !(d.drv a).pltDis && !(d.drv a).cut

/-- Whether a gate is on at a MOTCLK count: commanded on while its die lets it. -/
def gateOn (d : Dev) (a ph : Nat) (high : Bool) (t : Nat) : Bool := gatesFree d a && gateLine d a ph high t

/-- For how many counts the gate of a MOSFET is commanded on in the present PWM period (R64, R65): 0 where it is not, 8,000 where it
is on throughout or some phase of the chopper's period commands it on (R273). -/
def gateSpan (d : Dev) (a ph : Nat) (high : Bool) : Nat :=
  let x := d.drv a
  let c := x.cmp.ch ph
  let dt := d.get (pgDRV a) LEAF.TIMING.DEADT
  if isPwm x.mode then
    if 8 ≤ a ∧ !(d.win (a - 8)).run then 0
    else if 8 ≤ a ∧ (d.win (a - 8)).bold then
      let (ref, trip) := chopOfWind d (a - 8) (decide (2 ≤ ph))
      if [0, trip.getD 0, trip.getD 0 + mixCounts d (a - 8)].any fun p =>
        chopGate ref (chopPhase ref trip (mixCounts d (a - 8)) p) (ph % 2 == 1) high then 8000 else 0
    else if high then (if c = 0 then 8000 else 8000 - 2 * c - dt - 1) else if 4000 ≤ c then 8000 else 2 * c - dt - 1
  else if high then 0 else if x.mode = mBRAKE then 8000 else if x.step = .precharge ∧ !startHeld d a then 500 - dt else 0

/-- The drain-source monitor's verdict on a MOSFET (R74): `mv` across it, `t` MOTCLK counts after its gate was commanded on, while it
still is. A gate on throughout the period has been on for any time. -/
def vdsOver (d : Dev) (a ph : Nat) (high : Bool) (mv t : Nat) : Bool :=
  let n := gateSpan d a ph high
  gatesFree d a && decide (n ≠ 0) && (decide (8000 ≤ n) || decide (t < n)) &&
    decide (25 * d.get (pgDRV a) LEAF.PROT.VDSBLK ≤ t) && decide (10 * d.get (pgDRV a) LEAF.PROT.VDSTH < mv)

/-- Drain-source monitor trip (R74). -/
def vdsTrip (a : Nat) (high : Bool) (ph mv t : Nat) (d : Dev) : Dev :=
  if drvReports d a && vdsOver d a ph high mv t then
    drvFaultOff a Ev.LEAF.VDS (if high then Cz.LEAF.VDSHI else Cz.LEAF.VDSLO) ph d else d

/-- The comparator's level in steps of I_FS / 64, the largest that does not exceed OCTRIP (R96); I_FS is 1.25 V / (G × R_SH). -/
def octripStep (gain rsh octrip : Nat) : Nat := octrip * 64 * gain * rsh / 1250000000

/-- Whether a current's magnitude in mA exceeds a comparator level given in steps of I_FS / 64 (R96). -/
def overStep (gain rsh step ma : Nat) : Bool := decide (step * 1250000000 < ma * 64 * gain * rsh)

/-- Whether a current trips the comparator of an axis (R96). -/
def overcurrent (d : Dev) (a ma : Nat) : Bool :=
  let g := gainOf (d.get (pgDRV a) LEAF.DRV_CFG.GAIN)
  let rsh := d.get (pgDRV a) LEAF.SHUNT.RSH
  overStep g rsh (octripStep g rsh (d.get (pgDRV a) LEAF.PROT.OCTRIP)) ma

/-- A current of magnitude `ma` persists for 0.4 µs: above the comparator's level it cuts the gates for the rest of the period
(R96), in the precharge too; in BRAKE the cut does not count toward the latch (R94). -/
def overcurrentTrip (a ma : Nat) (d : Dev) : Dev :=
  if d.hasAxis a && (isPwm (d.drv a).mode || (d.drv a).mode == mBRAKE || (d.drv a).step == .precharge) && overcurrent d a ma then
    let brake := (d.drv a).mode == mBRAKE
    let d := d.modDrv a fun x => if x.cut then x else { x with cut := true, nOc := if brake then x.nOc else x.nOc + 1 }
    (diagInc a LEAF.DIAG.OCCBC (fun c => { c with occbc := min 255 (c.occbc + 1) }) d).ev (pgDRV a) Ev.LEAF.OCCBC
  else d

/-- Overcurrent latched after trips in 8 consecutive periods (R97). -/
def oclatch (a : Nat) (d : Dev) : Dev :=
  if drvReports d a && decide (8 ≤ (d.drv a).nOc) then
    drvFaultOff a Ev.LEAF.OCLATCH Cz.LEAF.OCLATCH 0xFF (d.modDrv a fun x => { x with nOc := 0 })
  else d

/-- The bridge supply has been below UVTRIP for 1 ms (R98, R99): quick stop; the condition lasts until VBR exceeds UVREL. The
measured supply is the latest that the die sent. A calibration under way aborts (R111). -/
def vbruv (a : Nat) (d : Dev) : Dev :=
  if drvReports d a && !bit (d.drv a).cond Cz.LEAF.VBRUV.code &&
      decide ((d.di (dieOf a)).samp.vbr < d.get (pgDRV a) LEAF.VBRUV.UVTRIP) then
    axisFault a Cz.LEAF.VBRUV 0xFF 2 (calAbort a <| setCond a Cz.LEAF.VBRUV.code true (d.ev (pgDRV a) Ev.LEAF.VBRUV))
  else d

/-- The bridge supply has been above OVTRIP for 10 µs (R98, R100). -/
def vbrov (a : Nat) (d : Dev) : Dev :=
  if drvReports d a && decide ((d.di (dieOf a)).samp.vbr > d.get (pgDRV a) LEAF.VBROV.OVTRIP) then drvFaultOff a Ev.LEAF.VBROV Cz.LEAF.VBROV 0xFF d else d

/-- Current sum beyond tolerance in 4 consecutive valid periods (R102). -/
def isumFault (n : Nat) (d : Dev) : Dev :=
  if drvReports d n && decide (4 ≤ (d.drv n).nIsum) then
    drvFaultOff n Ev.LEAF.ISUM Cz.LEAF.ISUM 0xFF (d.modDrv n fun x => { x with nIsum := 0 })
  else d

/-- Phase voltage beyond tolerance in 4 consecutive periods (R103). -/
def vphFault (a : Nat) (d : Dev) : Dev :=
  if drvReports d a && decide (4 ≤ (d.drv a).nVph) then
    drvFaultOff a Ev.LEAF.VPH Cz.LEAF.VPH 0xFF (d.modDrv a fun x => { x with nVph := 0 })
  else d

/-- Shadow-estimate fault after 3 consecutive cycles (R105): hard stop. -/
def shadowFault (n : Nat) (d : Dev) : Dev :=
  if drvReports d n && decide (3 ≤ (d.drv n).nShadow) then
    axisFault n Cz.LEAF.SHADOW 0xFF 3 ((d.modDrv n fun x => { x with nShadow := 0 }).ev (pgLEAF n) Ev.LEAF.SHADOW)
  else d

/-- Both gate-line commands of a phase on (R67). -/
def xcmdHit (a ph : Nat) (d : Dev) : Dev :=
  if drvReports d a then drvFaultOff a Ev.LEAF.XCMD Cz.LEAF.XCMD ph d else d

/-- Uncorrectable error in an axis's coefficient memory (R42, cause COEFECC). -/
def coefEcc (a : Nat) (d : Dev) : Dev :=
  if drvReports d a then
    axisFault a Cz.LEAF.COEFECC 0xFF 3 ((gatesOff a (calAbort a (latchDrive a Cz.LEAF.COEFECC.code d))).putB
      (pgDRV a) (drvReg a LEAF.DRV_STAT.BEN) false)
  else d

/-- The Platen bridge-disable line of leaf `n` is asserted (R68, R69, R241); a parked page shows it and reports nothing (R114). -/
def bridgeDisable (n : Nat) (d : Dev) : Dev :=
  if d.part.hasLeaf n then
    let run := (d.drv n).mode != mOFF
    let d := calAbort n d
    let d := (((gatesOff n d).modDrv n fun x => { x with pltDis := true }).putB (pgLEAF n) LEAF.DRV_STAT.PLTDIS true).putB
      (pgLEAF n) LEAF.DRV_STAT.BEN false
    let d := if d.pgState (pgLEAF n) = 3 then d else (d.ev (pgLEAF n) Ev.LEAF.PLTDIS).raise (pgLEAF n) Cz.LEAF.PLTDIS 0xFF
    if run && !leafOut d n then seqFault n Cz.LEAF.PLTDIS.code (reqStop n 3 false d) else d
  else d

/-- The bridge-disable line of leaf `n` is released (R68): the status bit follows the line. -/
def bridgeRelease (n : Nat) (d : Dev) : Dev :=
  (d.modDrv n fun x => { x with pltDis := false }).putB (pgLEAF n) LEAF.DRV_STAT.PLTDIS false

/-! Calibration and start-up of a drive page (R106 to R113, R268). -/

/-- Whether VGD is valid and VBR lies between UVREL and OVTRIP (R108 step 1). -/
def supplyOk (d : Dev) (a : Nat) : Bool :=
  let s := (d.di (dieOf a)).samp
  s.vgd && decide (d.get (pgDRV a) LEAF.VBRUV.UVREL ≤ s.vbr) && decide (s.vbr ≤ d.get (pgDRV a) LEAF.VBROV.OVTRIP)

/-- Start an offset calibration: mode CAL with all gates off (R109). -/
def calStart (a : Nat) (d : Dev) : Dev :=
  ((setMode a mCAL d).modDrv a fun x => { x with cal := { on := true } }).put (pgDRV a) (drvReg a LEAF.DRV_STAT.CALST) 1

/-- The STARTING steps begin (R108, R115). Model's choice: a calibration that ran in PARKED gives way to them; the one of step 3
takes its place (assumption log 70). -/
def drvStarting (a : Nat) (d : Dev) : Dev :=
  (gatesOff a d).modDrv a (fun x => { x with step := .wait, startRep := false, pre := 0, parkPend := 0, cal := {} })
    |>.setPg (pgDRV a) 1

/-- The fault conditions that a wait of step 1 raised end, and with them the page's SAFE state (R108, R380). -/
def startConds (a : Nat) (d : Dev) : Dev :=
  (d.c2off (pgDRV a) Cz.LEAF.VGDUV.code 0xFF).c2off (pgDRV a) Cz.LEAF.VBRUV.code 0xFF

/-- Step 1 ends: the precharge begins, and conditions raised for the wait end (R108). Model's choice: BSTOK rises here, since the
manual does not say when in STARTING it does (assumption log 81). -/
def pageStartWaitEnd (a : Nat) (d : Dev) : Dev :=
  if d.hasAxis a && (d.drv a).step == .wait && supplyOk d a then
    let c := setBit (setBit (d.drv a).cond Cz.LEAF.VGDUV.code false) Cz.LEAF.VBRUV.code false
    let d := startConds a (d.modDrv a fun x => { x with step := .precharge, pre := 0, cond := c })
    (d.putB (pgDRV a) (drvReg a LEAF.DRV_STAT.VGDOK) true).iff_ (decide (a < 8)) (Dev.put (pgDRV a) LEAF.DRV_STAT.BSTOK 7)
  else d

/-- 500 ms of waiting: VGDUV or VBRUV as applicable, once for the wait (R108). Model's choice: VBRUV also where VBR stands above
OVTRIP, a case in which neither cause applies by its words (assumption log 70). -/
def startingTimeout (a : Nat) (d : Dev) : Dev :=
  if d.hasAxis a && (d.drv a).step == .wait && !(d.drv a).startRep && !supplyOk d a then
    let d := d.modDrv a fun x => { x with startRep := true }
    if !(d.di (dieOf a)).samp.vgd then
      axisFault a Cz.LEAF.VGDUV 0xFF 3 (setCond a Cz.LEAF.VGDUV.code true (d.ev (pgDRV a) Ev.LEAF.VGDUV))
    else axisFault a Cz.LEAF.VBRUV 0xFF 2 (setCond a Cz.LEAF.VBRUV.code true (d.ev (pgDRV a) Ev.LEAF.VBRUV))
  else d

/-- A precharge period at each valley (R108 step 2). -/
def prechargeStep (a : Nat) (d : Dev) : Dev :=
  if (d.drv a).step == .precharge then d.modDrv a fun x => { x with pre := x.pre + 1 } else d

/-- After 64 precharge periods the page starts its calibration (R108 step 3). -/
def bootstrapPrechargeEnd (a : Nat) (d : Dev) : Dev :=
  if d.hasAxis a && (d.drv a).step == .precharge && decide (64 ≤ (d.drv a).pre) then
    calStart a (d.modDrv a fun x => { x with step := .cal })
  else d

/-- Mean code of a channel over 256 periods, rounded (R109). -/
def calMean (s : Nat) : Int := Num.quo 28 s 256

/-- Whether a channel's mean and spread pass (R109). -/
def calChanOk (g : Nat) (s mn mx : Nat) : Bool :=
  decide (absI ((s : Int) - 256 * 8192) ≤ 256 * (32 + 16 * (g : Int))) && decide (mx - mn ≤ 64)

/-- The page leaves STARTING for RUN in mode OFF, whatever the calibration result (R108). -/
def startDone (a : Nat) (d : Dev) : Dev :=
  if (d.drv a).step == .cal && d.pgState (pgDRV a) == 1 then
    pageRun a (d.modDrv a fun x => { x with step := .none })
  else d.modDrv a fun x => { x with step := .none }

/-- The offsets of a calibration that succeeded are loaded together (R109, R268); a leaf's registers show them with the next
current-loop computation (R117). -/
def calLoad (a chans : Nat) (u v w : Int) (d : Dev) : Dev :=
  if chans = 3 then d.modDrv a fun x => { x with ofsU := u, ofsV := v, ofsW := w }
  else (d.puti (pgDRV a) (drvReg a LEAF.OFS_UV.OFSU) u).puti (pgDRV a) (drvReg a LEAF.OFS_UV.OFSV) v

/-- A calibration ends after 256 periods (R109, R268): offsets loaded on success, kept on failure. `chans` is 3 for a
leaf axis, 2 for a step axis. -/
def calEnd (a chans : Nat) (d : Dev) : Dev :=
  let c := (d.drv a).cal
  if d.hasAxis a && c.on && decide (256 ≤ c.n) then
    let pg := pgDRV a
    let g := gainOf (d.get pg LEAF.DRV_CFG.GAIN)
    let ok := calChanOk g c.sum.u c.mn.u c.mx.u && calChanOk g c.sum.v c.mn.v c.mx.v &&
      (chans == 2 || calChanOk g c.sum.w c.mn.w c.mx.w) && !c.bad
    let d := d.modDrv a fun x => { x with cal := {} }
    let d := calOff a d
    let d := if ok then
        (calLoad a chans (calMean c.sum.u - 8192) (calMean c.sum.v - 8192) (calMean c.sum.w - 8192) d).put pg
          (drvReg a LEAF.DRV_STAT.CALST) 2 |>.ev pg Ev.LEAF.CAL
      else ((d.put pg (drvReg a LEAF.DRV_STAT.CALST) 3).ev pg Ev.LEAF.CAL).raise pg Cz.LEAF.CALFAIL 0xFF
    startDone a d
  else d

/-- A write of CAL (R110, R268): accepted in RUN with mode OFF or BRAKE, or in PARKED. -/
def calRequest (a : Nat) (d : Dev) : Dev :=
  let st := if a < 8 then d.stateView (pgDRV a) else d.pgState (pgDRV a)
  let m := (d.drv a).mode
  if !(d.drv a).cal.on && ((st == 2 && (m == mOFF || m == mBRAKE)) || st == 3) then calStart a d else d

/-- A write of CLRLATCH (R106): latches whose condition is absent clear. -/
def clrLatch (a : Nat) (d : Dev) : Dev :=
  let d := d.modDrv a fun x => { x with latch := x.latch &&& x.cond }
  d.putB (pgDRV a) (drvReg a LEAF.DRV_STAT.LATCH) ((d.drv a).latch != 0)

/-- A write of CLRCNT: the DIAG counters of the drive clear, in the registers at once. -/
def clrCnt (a : Nat) (d : Dev) : Dev :=
  let d := d.modDrv a fun x => { x with diag := {} }
  ((d.put (pgDRV a) (drvReg a LEAF.DIAG.VLIM) 0).put (pgDRV a) (drvReg a LEAF.DIAG.STALE) 0).put (pgDRV a) (drvReg a LEAF.DIAG.OCCBC) 0

/-- The conditions of latched and pending drive faults as the die's latest frame shows them: VGD, bootstraps and VBR ended
(R72, R73, R99, R100); momentary conditions end with their cause. -/
def drvConds (a : Nat) (d : Dev) : Dev :=
  let s := (d.di (dieOf a)).samp
  let pg := pgDRV a
  let wait := (d.drv a).step == .wait
  let bst := if a < 8 then bitsOf s.bst (3 * (a % 4)) 3 else 7
  let old := (d.drv a).cond
  let c1 := setBit 0 Cz.LEAF.VGDUV.code (!s.vgd || (wait && bit old Cz.LEAF.VGDUV.code))
  let c2 := setBit c1 Cz.LEAF.BSTUV.code (decide (bst < 7))
  let c3 := setBit c2 Cz.LEAF.VBROV.code (decide (s.vbr > d.get pg LEAF.VBROV.OVTRIP))
  let c4 := setBit c3 Cz.LEAF.VBRUV.code
    (bit old Cz.LEAF.VBRUV.code && decide (s.vbr ≤ d.get pg LEAF.VBRUV.UVREL))
  let d := d.modDrv a fun x => { x with cond := c4 }
  (d.putB pg (drvReg a LEAF.DRV_STAT.VGDOK) s.vgd).iff_ (decide (a < 8)) (Dev.put pg LEAF.DRV_STAT.BSTOK bst)

/-- VLIM counts the servo periods in which a voltage clamp acted (R84). -/
def vlimCount (n : Nat) (d : Dev) : Dev :=
  if (d.drv n).vlim then
    diagInc n LEAF.DIAG.VLIM (fun c => { c with vlim := min 255 (c.vlim + 1) }) (d.modDrv n fun x => { x with vlim := false })
  else d

end Sys2Proof.Machine
end

