-- ==== Sys2Proof/Machine/Observer.lean ====
section
/-! DEFINITION. The force observer of a leaf: the contact-force estimate (R157 to R162), the kerning table and its learning
(R163 to R170), detections and reactions (R171 to R184), degraded feedback (R186), configuration (R187 to R189), wear
(R190, R191) and diagnostics (R192, R193). Forces are in 1/65,536 of 0.1 N. -/

namespace Sys2Proof.Machine

/-- A configuration field of the observer as it stands for the present movement: latched when the set-point speed left 0, until the
movement has ended at standstill; the active value from then on (R164, R189). -/
def ocfg (d : Dev) (n : Nat) (f : Fld) : Nat :=
  if (d.ob n).held then Cells.get (d.ob n).cfg (f.key (pgOBS n)) f.rst else d.get (pgOBS n) f

/-- A configuration field as the latest movement had it: what it taught the table is judged by the configuration latched at its
start (R189). -/
def mcfg (d : Dev) (n : Nat) (f : Fld) : Nat :=
  if (d.ob n).latched then Cells.get (d.ob n).cfg (f.key (pgOBS n)) f.rst else d.get (pgOBS n) f

/-- A signed configuration field. -/
def ocfgi (d : Dev) (n : Nat) (f : Fld) : Int := sgn f.w (ocfg d n f)

/-- The configuration cells of an observer page, offsets 0x040 to 0x0D7. -/
def obsCells (d : Dev) (n : Nat) : Cells :=
  d.act.filter fun c => decide ((pgOBS n * 1024 + 0x10) * 32 ≤ c.1) && decide (c.1 < (pgOBS n * 1024 + 0x36) * 32)

/-- The bin of a position (R160). -/
def binOf (stroke : Nat) (p : Int) : Nat :=
  if stroke = 0 then 0 else (clampI 0 255 (p * 256 / stroke)).toNat

/-- The temperature factor in 10⁻⁵ (R161). -/
def tempFactor (d : Dev) (n : Nat) : Int :=
  let src := ocfg d n OBS.OBS_CFG.TSRC
  let f (t : Int) : Int := clampI 50000 200000 (100000 + ocfgi d n OBS.TCOMP.TCF * (200 - t))
  if src = 1 then f (d.di (n / 4)).samp.tj
  else if src = 2 then f (d.geti (pgOBS n) OBS.TEMP.TEMP)
  else 100000

/-- FRIC of a bin in a direction, of the other direction where it is not learned, else 0 (R158). -/
def fricOf (d : Dev) (n : Nat) (opening : Bool) (b : Nat) : Nat :=
  let o := d.get (pgOBS n) (OBS.KTO.FRIC.at b)
  let c := d.get (pgOBS n) (OBS.KTC.FRIC.at b)
  let x := if opening then o else c
  let y := if opening then c else o
  if x ≠ 0xFFFF then x else if y ≠ 0xFFFF then y else 0

/-- The inertial force of an acceleration in 1/65,536 µm/s²: MASS is in 10 g (R158). -/
def inertia (d : Dev) (n : Nat) (acc : Int) : Int := Num.quo 30 ((d.get (pgLEAF n) LEAF.MASS.MASS : Int) * acc) 10000000

/-- The terms of R158 at a servo boundary. -/
structure ObsTerms where
  fc : Int
  flrn : Int
  raw : Int
  dir : Int
  deriving DecidableEq, Repr

/-- The terms of R158 from the means of the period: `iq` is a sum over `k` PWM periods. -/
def obsTerms (d : Dev) (n : Nat) : ObsTerms :=
  let o := d.ob n
  let v := (d.prf n).sp.v
  let dir : Int := if v > 0 then 1 else if v < 0 then -1 else o.dir
  let fdrv := Num.quo 31 ((ocfg d n OBS.KF.KF : Int) * o.iqSum * 65536) ((max 1 o.iqN : Nat) * 100000)
  let acc := if ocfg d n OBS.OBS_CFG.ASRC = 1 ∨ (d.fbk n).deg then (d.prf n).prev.a
    else ((d.fbk n).v - o.vPrev) * 65536 * 1000000 / 256
  let fin := inertia d n acc
  let tf := tempFactor d n
  let b := binOf (d.get (pgOBS n) OBS.STROKE.STROKE) (d.fbk n).p
  let flrn := Num.quo 32 ((fricOf d n (decide (dir > 0)) b : Int) * tf * 65536) 100000
  { fc := dir * (fdrv - fin) - flrn, flrn, raw := Num.quo 33 (dir * (fdrv - fin) * 100000) tf, dir }

/-- The filter step (R158): FALPHA 0 acts as 256. -/
def obsFilter (alpha : Nat) (y fc : Int) : Int := y + Num.quo 34 ((fc - y) * (if alpha = 0 then 256 else alpha)) 256

/-- Stiffness of closing bin `b` in 1/65,536 of 0.1 N/mm, `none` where undefined (R170). -/
def sealStiff (d : Dev) (n b : Nat) : Option Int :=
  let b := min b 254
  let f0 := d.get (pgOBS n) (OBS.KTC.FRIC.at b)
  let f1 := d.get (pgOBS n) (OBS.KTC.FRIC.at (b + 1))
  let s := d.get (pgOBS n) OBS.STROKE.STROKE
  if f0 = 0xFFFF ∨ f1 = 0xFFFF ∨ s = 0 then none
  else some (maxI 0 (Num.quo 35 (((f0 : Int) - f1) * 256000 * 65536) s))

/-- Whether detection runs in the present direction (R171, R180, R251). -/
def detRuns (d : Dev) (n : Nat) : Bool :=
  let v := (d.prf n).sp.v
  let en := if v > 0 then ocfg d n OBS.REACT.EN_O else ocfg d n OBS.REACT.EN_C
  (d.drv n).mode == mSERVO && v != 0 && en != 0 && (d.ob n).blank == 0 && !(d.ob n).inhibit &&
  (d.seq n).st != .learn && !obsBlind d n

/-- Whether the leaf is in the seal zone (R172). -/
def inSeal (d : Dev) (n : Nat) : Bool :=
  decide ((d.ob n).dir < 0) && decide ((d.fbk n).p ≤ ocfg d n OBS.SEAL1.SEALL * 1000)

/-- The zone code (R172). -/
def zoneOf (d : Dev) (n : Nat) : Nat :=
  if (d.prf n).sp.v ≠ 0 ∧ (d.ob n).blank ≠ 0 then 3 else if inSeal d n then 2 else 1

/-- The effective threshold in 0.1 N (R175). -/
def fthEff (d : Dev) (n : Nat) (dir : Int) : Nat :=
  let j := binOf (d.get (pgOBS n) OBS.STROKE.STROKE) (d.fbk n).p / 16
  let seg := if dir > 0 then (if j % 2 = 1 then OBS.FTHO.HI.at (j / 2) else OBS.FTHO.LO.at (j / 2))
    else (if j % 2 = 1 then OBS.FTHC.HI.at (j / 2) else OBS.FTHC.LO.at (j / 2))
  let st := d.get (pgOBS n) OBS.OBS_STAT.SETTLE
  let m1 := if bit st (if dir > 0 then 0 else 1) then ocfg d n OBS.MARG.SETTLEM else 0
  let m2 := if (d.fbk n).deg then ocfg d n OBS.MARG.DEGM else 0
  min (ocfg d n OBS.FCEIL.FCEIL) (ocfg d n seg + m1 + m2)

/-- The current limit in the direction of motion in mA (R173). -/
def obsLimit (d : Dev) (n : Nat) (dir flrn : Int) : Nat :=
  let flim : Int := if dir > 0 then ocfg d n OBS.FLIM.FLIMO else ocfg d n OBS.FLIM.FLIMC
  let m := inertia d n (absI (d.prf n).sp.a)
  (maxI 0 (Num.quo 36 ((flim * 65536 + flrn + m) * 100000) (65536 * (max 1 (ocfg d n OBS.KF.KF) : Nat)))).toNat

/-- The counts of the seal-zone tests of a servo period (R177, R178). -/
def sealCounts (n : Nat) (raw : Int) (d : Dev) : Dev :=
  let o := d.ob n
  let run := detRuns d n && inSeal d n
  let p := (d.fbk n).p
  let slow := run && decide (p > ocfg d n OBS.SEAL2.STALLP * 10) &&
    decide (absI (d.fbk n).v < ocfg d n OBS.SEAL1.STALLV)
  let w := ocfg d n OBS.SEAL2.STIFFW
  let win := ({ f := raw, p := p } :: o.win).take (w + 1)
  let old := nth win w { f := raw, p := p }
  let travel := old.p - p
  let kapp := if 500 ≤ travel ∧ w < win.length then Num.quo 37 ((raw - old.f) * 1000) travel else o.kapp
  let kb := sealStiff d n (binOf (d.get (pgOBS n) OBS.STROKE.STROKE) p)
  let bound := kb.map fun k => Num.quo 38 (k * ocfg d n OBS.SEAL3.STIFFK) 16 + ocfg d n OBS.SEAL3.STIFFA * 65536
  let above := run && decide (500 ≤ travel) && decide (w < win.length) &&
    (match bound with
     | some b => decide (kapp > b)
     | none => false)
  d.modOb n fun o => { o with stall := if slow then o.stall + 1 else 0, stiff := if above then o.stiff + 1 else 0
                              win := win, kapp := kapp, kbound := bound }

/-- The threshold count of a servo period (R176). -/
def forceCount (n : Nat) (d : Dev) : Dev :=
  let above := detRuns d n && !inSeal d n && decide ((d.ob n).y > fthEff d n (d.ob n).dir * 65536)
  d.modOb n fun o => { o with tdet := if above then o.tdet + 1 else 0 }

/-- Add a sample to its bin (R165). -/
def addBin (b : Nat) (x : Int) : List BinSum → List BinSum
  | [] => [{ bin := b, n := 1, sum := x }]
  | s :: l => if s.bin = b then { s with n := s.n + 1, sum := s.sum + x } :: l else s :: addBin b x l

/-- Samples of a movement and of a learn run (R165, R169); a run that aborts collects no more. -/
def kernSample (n : Nat) (raw : Int) (d : Dev) : Dev :=
  let s := d.get (pgOBS n) OBS.STROKE.STROKE
  let p := (d.fbk n).p
  let ph := (d.lrn n).phase
  if (d.seq n).st == .learn then
    if (d.lrn n).kind || (d.lrn n).abort then d
    else if ph = 3 then d.modKn n fun k => { k with raw := k.raw ++ [{ f := raw, p := p }] }
    else if ph = 4 then d.modKn n fun k => { k with learnC := addBin (binOf s p) raw k.learnC }
    else d
  else if (d.kn n).inMove && s != 0 && decide (absI (d.fbk n).v ≥ ocfg d n OBS.KERN.KMINV * 1000) then
    d.modKn n fun k => { k with bins := addBin (binOf s p) raw k.bins }
  else d

/-- A movement begins for the table when the set-point speed leaves 0 (R164, R189); the configuration is latched, the
blanking starts, and a detection's inhibition and IQHOLD limit end once its quick-stop path has ended (R171, R180,
R181). -/
def obsMoveBegin (n : Nat) (d : Dev) : Dev :=
  let d := d.modOb n fun o =>
    { o with cfg := obsCells d n, latched := true, held := true, moving := true, blank := d.get (pgOBS n) OBS.OBS_CFG.BLANKN, tdet := 0, stall := 0
             stiff := 0, inhibit := o.inhibit && o.detPath, iqHold := if o.detPath then o.iqHold else none }
  if (d.kn n).inMove || (d.seq n).st == .learn then d
  else d.modKn n fun k => { k with inMove := true, anom := false, bins := []
                                   mvDir := if (d.prf n).sp.v > 0 then 1 else -1 }

/-- A movement ends for the table: at its commanded end position, or not (R164). -/
def obsMoveEnd (n : Nat) (ok : Bool) (d : Dev) : Dev :=
  if (d.kn n).inMove then d.modKn n fun k => { k with inMove := false, atEnd := true, endedOk := ok } else d

/-- Anomalies of a servo period (R164); a follower's source is its leader's, with the leader's stop paths and retargets. -/
def anomalyCheck (n : Nat) (d : Dev) : Dev :=
  let p := d.prf n
  let l := d.prf (if ligFormed d n then ligLeader d n else n)
  let ovs := match l.plan with
    | some q => q.ovs
    | none => false
  let turned := (p.sp.v > 0 && (d.kn n).mvDir < 0) || (p.sp.v < 0 && (d.kn n).mvDir > 0)
  let an := (d.ob n).edges != 0 || p.stopKind != 0 || l.stopKind != 0 || ovs || turned || (d.fbk n).deg ||
    (d.kn n).stale || d.vfld.warn || l.ext
  if (d.kn n).inMove && an then d.modKn n fun k => { k with anom := true } else d

/-- Degraded feedback of a servo period (R186); a page out of service raises nothing of its own (R116, R594). -/
def obsDegraded (n : Nat) (d : Dev) : Dev :=
  let deg := (d.fbk n).deg && d.enabled (pgOBS n)
  let was := (d.kn n).deg
  let d := (d.modKn n fun k => { k with deg := deg }).putB (pgOBS n) OBS.OBS_STAT.DEG deg
  if deg && !was then (d.ev (pgOBS n) Ev.OBS.DEGR).raise (pgOBS n) Cz.OBS.DEGRADED 0xFF else d

/-- The registers that change at each servo boundary. -/
def publishObs (n : Nat) (t : ObsTerms) (d : Dev) : Dev :=
  let pg := pgOBS n
  let o := d.ob n
  let d := (d.put pg OBS.FC.FC (Num.fitS 30 16 (t.fc / 65536))).put pg OBS.FC.Y (Num.fitS 31 16 (o.y / 65536))
  let d := (d.put pg OBS.FTHE.FLRN (Num.fitU 32 16 (t.flrn / 65536))).put pg OBS.FTHE.FTHEFF (fthEff d n t.dir)
  let d := d.put pg OBS.KAPP.KAPP (Num.fitS 33 16 (o.kapp / 65536))
  let d := match o.kbound with
    | some b => d.put pg OBS.KAPP.KBOUND (Num.fitU 34 16 (b / 65536))
    | none => d
  d.put pg OBS.OBS_STAT.ZONE (zoneOf d n)

/-- The frozen-table bit (R168). -/
def publishFrz (n : Nat) (d : Dev) : Dev :=
  let k := d.kn n
  d.putB (pgOBS n) OBS.OBS_STAT.FRZ (d.on (pgOBS n) OBS.OBS_CFG.FREEZE || k.probation != 0 || (k.inMove && k.anom))

/-- A servo period in which the observer computes nothing (R157, R174). -/
def obsIdle (n : Nat) (d : Dev) : Dev :=
  let d := d.modOb n fun o => { o with y := 0, fc := 0, tdet := 0, stall := 0, stiff := 0, win := [], moving := false, held := false
                                       limF := none, vPrev := (d.fbk n).v, iqSum := 0, iqN := 0 }
  ((d.put (pgOBS n) OBS.FC.FC 0).put (pgOBS n) OBS.FC.Y 0).put (pgOBS n) OBS.OBS_STAT.ZONE 0

/-- A detection's quick-stop path has ended (R180). -/
def detPathEnd (n : Nat) (d : Dev) : Dev :=
  let p := d.prf (stopTarget d n 2)
  if (d.ob n).detPath && p.stopKind != 1 && p.stopKind != 2 && p.stopReq == 0 then
    d.modOb n fun o => { o with detPath := false }
  else d

/-- A servo period in which the observer computes its estimate (R157 to R161, R171 to R178). -/
def obsRun (n : Nat) (d : Dev) : Dev :=
  let v := (d.prf n).sp.v
  let d := detPathEnd n d
  let d := if v ≠ 0 ∧ !(d.ob n).moving then obsMoveBegin n d
    else if v = 0 then d.modOb n fun o => { o with moving := false, held := o.held && !(d.prf n).still }
    else d.modOb n fun o => { o with blank := o.blank - 1 }
  let t := obsTerms d n
  let y := obsFilter (ocfg d n OBS.OBS_CFG.FALPHA) (d.ob n).y t.fc
  let d := d.modOb n fun o => { o with y := y, fc := t.fc, flrn := t.flrn, fraw := t.raw, dir := t.dir
                                       vPrev := (d.fbk n).v, iqSum := 0, iqN := 0 }
  let d := sealCounts n t.raw (forceCount n d)
  let d := d.modOb n fun o => { o with limF := if v = 0 then none else some (obsLimit d n t.dir t.flrn) }
  let d := d.modKn n fun k => { k with avgF := k.avgF + t.fc, avgL := k.avgL + t.flrn, avgA := k.avgA + (d.prf n).sp.a
                                       avgN := k.avgN + 1 }
  publishObs n t (kernSample n t.raw d)

/-- The observer stage of a servo boundary; a disabled page while the leaf is not at leaf rest is OBSOFF (R116). -/
def obsServo (n : Nat) (d : Dev) : Dev :=
  let d := obsDegraded n d
  let d := if !d.enabled (pgOBS n) && !leafRest d n && !leafOut d n && !d.c2has (pgOBS n) Cz.OBS.OBSOFF.code then
      leafFault n (pgOBS n) Cz.OBS.OBSOFF 0xFF 2 d else d
  let d := d.modKn n fun k => { k with nServo := k.nServo + 1 }
  let d := if (d.drv n).mode == mSERVO && !obsBlind d n then obsRun n d else obsIdle n d
  publishFrz n (anomalyCheck n d)

/-- The i_q of a PWM period joins the mean of its servo period (R158). -/
def obsPwm (n : Nat) (d : Dev) : Dev :=
  d.modOb n fun o => { o with iqSum := o.iqSum + d.geti (pgLEAF n) LEAF.IDQ.IQ, iqN := o.iqN + 1 }

/-- The limits of iq_ref below IQMAX that the observer and the learn run set, as (low, high) in mA (R90, R173, R180,
R251). -/
def iqLimits (d : Dev) (n : Nat) : Int × Int :=
  regenCut (regenOf d n) (d.fbk n).we <|
  let o := d.ob n
  let m : Int := d.get (pgLEAF n) LEAF.ILIM.IQMAX
  let m := if (d.seq n).st == .learn then minI m (d.get (pgLEAF n) LEAF.SEQ_LRN.LRNIQ) else m
  let cut (a : Option Nat) (b : Int) : Int := match a with
    | some x => minI x b
    | none => b
  let h := cut o.limF (cut o.iqHold m)
  if o.dir > 0 then (-m, h) else (-h, m)

/-! Edges and light curtains. -/

/-- Set the activity of source `k`; a source that becomes active raises EDGE (R179). -/
def setEdge (n k : Nat) (a : Bool) (d : Dev) : Dev :=
  let was := bit (d.ob n).edges k
  let d := d.modOb n fun o => { o with edges := setBit o.edges k a }
  (d.evIf (a && !was) (pgOBS n) Ev.OBS.EDGE).put (pgOBS n) OBS.OBS_STAT.EDGEACT (d.ob n).edges

/-- Local sources in a PWM period (R179). -/
def edgePwm (n : Nat) (d : Dev) : Dev :=
  d.each [0, 1, 2, 3] fun k d =>
    if ocfg d n (OBS.EDGE.DIRM.at k) = 0 then setEdge n k false d
    else if ocfg d n (OBS.EDGE.TYPE.at k) = 0 then
      setEdge n k (inputPol d (ocfg d n (OBS.EDGE.LSRC.at k)) (ocfg d n (OBS.EDGE.POL.at k) != 0)) d
    else d

/-- Station sources at an input freeze: `word` gives a station's frozen input word (R179). -/
def edgeFreeze (word : Nat → Nat) (n : Nat) (d : Dev) : Dev :=
  d.each [0, 1, 2, 3] fun k d =>
    if ocfg d n (OBS.EDGE.DIRM.at k) ≠ 0 ∧ ocfg d n (OBS.EDGE.TYPE.at k) = 1 then
      setEdge n k (bit (word (ocfg d n (OBS.EDGE.STN.at k))) (ocfg d n (OBS.EDGE.BIT.at k)) !=
        (ocfg d n (OBS.EDGE.POL.at k) != 0)) d
    else d

/-- Whether an active source of a kind (0 edge, 1 curtain) acts in the present direction (R179). -/
def edgeActs (d : Dev) (n kind : Nat) : Bool :=
  let up := decide ((d.prf n).sp.v > 0)
  [0, 1, 2, 3].any fun k => bit (d.ob n).edges k && ocfg d n (OBS.EDGE.KIND.at k) == kind &&
    bit (ocfg d n (OBS.EDGE.DIRM.at k)) (if up then 1 else 0)

/-- Whether an active source acts against closing (R247). -/
def edgeClosing (d : Dev) (n : Nat) : Bool :=
  [0, 1, 2, 3].any fun k => bit (d.ob n).edges k && bit (ocfg d n (OBS.EDGE.DIRM.at k)) 0

/-! Detections. -/

/-- The lowest kind code whose condition is met at this boundary, 0 for none (R180). -/
def metKind (d : Dev) (n : Nat) : Nat :=
  if ocfg d n OBS.OBS_CFG.TDET ≤ (d.ob n).tdet ∧ 0 < (d.ob n).tdet then 1
  else if ocfg d n OBS.SEAL2.STALLN ≤ (d.ob n).stall ∧ 0 < (d.ob n).stall then 2
  else if ocfg d n OBS.SEAL3.STIFFN ≤ (d.ob n).stiff ∧ 0 < (d.ob n).stiff then 3
  else if edgeActs d n 0 then 4 else if edgeActs d n 1 then 5 else 0

/-- A detection (R180): latched, the IQHOLD limit, the quick stop, the report to the sequencer, the entry. -/
def detect (n : Nat) (d : Dev) : Dev :=
  let kind := metKind d n
  if d.part.hasLeaf n && detRuns d n && kind != 0 then
    let pg := pgOBS n
    let d := (d.putB pg OBS.OBS_STAT.DET true).put pg OBS.OBS_STAT.KIND kind
    let d := (d.puti pg OBS.DETPOS.POS (d.fbk n).p).put pg OBS.DETF.F (Num.fitU 35 16 ((d.ob n).y / 65536))
    let d := d.incSat pg OBS.DETF.COUNT
    let hold := ocfg d n OBS.REACT.IQHOLD
    let d := d.modOb n fun o => { o with iqHold := some hold, inhibit := true, detPath := true, tdet := 0, stall := 0, stiff := 0 }
    let d := (reqStop n 2 true d).modSeq n fun q => { q with det := true }
    let d := d.modKn n fun k => { k with anom := true }
    let p := (d.fbk n).p
    let d := d.modMov n fun r => { r with mv := r.mv.map fun m =>
      if m.det = 0 then { m with det := 1, detKind := kind, detPos := p } else { m with det := m.det + 1 } }
    (d.ev pg Ev.OBS.OBST).raise pg Cz.OBS.OBSTACLE kind
  else d

/-- FORCE_DETECTION (R176). -/
def forceDetection (n : Nat) (d : Dev) : Dev :=
  if 0 < (d.ob n).tdet ∧ ocfg d n OBS.OBS_CFG.TDET ≤ (d.ob n).tdet then detect n d else d

/-- STALL_DETECTION (R177). -/
def stallDetection (n : Nat) (d : Dev) : Dev :=
  if 0 < (d.ob n).stall ∧ ocfg d n OBS.SEAL2.STALLN ≤ (d.ob n).stall then detect n d else d

/-- STIFFNESS_DETECTION (R178). -/
def stiffnessDetection (n : Nat) (d : Dev) : Dev :=
  if 0 < (d.ob n).stiff ∧ ocfg d n OBS.SEAL3.STIFFN ≤ (d.ob n).stiff then detect n d else d

/-- EDGE_DETECTION (R179). -/
def edgeDetection (n : Nat) (d : Dev) : Dev := if edgeActs d n 0 || edgeActs d n 1 then detect n d else d

/-! Table updates. -/

/-- The table fields of a direction. -/
def ktFric (opening : Bool) (b : Nat) : Fld := if opening then OBS.KTO.FRIC.at b else OBS.KTC.FRIC.at b
def ktVar (opening : Bool) (b : Nat) : Fld := if opening then OBS.KTO.VAR.at b else OBS.KTC.VAR.at b
def ktBase (opening : Bool) (b : Nat) : Fld := if opening then OBS.KTB.BASEO.at b else OBS.KTB.BASEC.at b

/-- Update one bin (R165, R167): the weight is `wn / wd`. -/
def ktBin (n : Nat) (opening : Bool) (wn wd : Int) (s : BinSum) (d : Dev) : Dev :=
  let pg := pgOBS n
  if s.n < 2 then d
  else
    let mu := s.sum / s.n
    let f0 := d.get pg (ktFric opening s.bin)
    if f0 = 0xFFFF then
      (d.put pg (ktFric opening s.bin) (Num.fitU 36 16 (Num.quo 39 mu 65536))).put pg (ktVar opening s.bin) 0
    else
      let step : Int := mcfg d n OBS.KERN2.KSTEP
      let fmax : Int := mcfg d n OBS.KERN2.FRICMAX
      let e := mu - f0 * 65536
      let dd := clampI (-step * 65536) (step * 65536) e
      let f1 := Num.quo 40 ((f0 : Int) * 65536 * wd + wn * dd) (65536 * wd)
      let v0 : Int := d.get pg (ktVar opening s.bin)
      let v1 := v0 + Num.quo 41 (wn * (e * e - v0 * 4294967296)) (4294967296 * wd)
      let d := (d.put pg (ktFric opening s.bin) (Num.fitU 36 16 (minI f1 fmax))).put pg (ktVar opening s.bin) (satU 16 v1)
      if f1 > fmax then (d.ev pg Ev.OBS.KTSAT).raise pg Cz.OBS.KTSAT 0xFF else d

/-- Settling of a direction after an update (R166). Model's reading: j counts the movements that update the table; a clean one that is
frozen does not advance it (assumption log 82). -/
def ktSettle (n : Nat) (opening : Bool) (d : Dev) : Dev :=
  let pg := pgOBS n
  let st := d.get pg OBS.OBS_STAT.SETTLE
  let i := if opening then 0 else 1
  if bit st i then
    let d := d.modKn n fun k => if opening then { k with jO := k.jO + 1 } else { k with jC := k.jC + 1 }
    let j := if opening then (d.kn n).jO else (d.kn n).jC
    if mcfg d n OBS.KERN.SETTLEN ≤ j then
      let d := d.each (List.range 256) fun b d => d.put pg (ktBase opening b) (d.get pg (ktFric opening b))
      (d.put pg OBS.OBS_STAT.SETTLE (setBit st i false)).ev pg Ev.OBS.SETTLED
    else d
  else d

/-- Sum and count of a relative change over bins, in % × 65,536 (R190). -/
def wearSum (d : Dev) (n : Nat) (opening rise : Bool) (bs : List Nat) : Int × Nat :=
  bs.foldl (fun acc b =>
    let f := d.get (pgOBS n) (ktFric opening b)
    let g := d.get (pgOBS n) (ktBase opening b)
    if f = 0xFFFF ∨ g = 0 then acc
    else
      let x : Int := if rise then (f : Int) - g else (g : Int) - f
      (acc.1 + x * 6553600 / g, acc.2 + 1)) (0, 0)

/-- The mean of a wear figure; free when no bin takes part (assumption log 5). -/
def wearMean (site : Nat) (x : Int × Nat) : Int := if x.2 = 0 then Config.outOfRange site 0 else Num.quo site x.1 (x.2 * 65536)

/-- Raise a wear flag at its level for the first time since the last REBASE (R190). -/
def wearFlag (n i : Nat) (above : Bool) (d : Dev) : Dev :=
  let w := d.get (pgOBS n) OBS.OBS_STAT.WEARF
  if above && !bit w i then
    ((d.put (pgOBS n) OBS.OBS_STAT.WEARF (setBit w i true)).ev (pgOBS n) Ev.OBS.WEAR).raise (pgOBS n) Cz.OBS.WEARFLAG 0xFF
  else d

/-- The wear figures after a table update (R190). Model's choice: the closing bin that contains SEALL belongs to the seal zone
(assumption log 82). -/
def ktWear (n : Nat) (d : Dev) : Dev :=
  let pg := pgOBS n
  let stroke := d.get pg OBS.STROKE.STROKE
  let last := binOf stroke (mcfg d n OBS.SEAL1.SEALL * 1000)
  let all := List.range 256
  let sealB := all.filter fun b => decide (b ≤ last)
  let main := all.filter fun b => decide (last < b)
  let o := wearSum d n true true all
  let c := wearSum d n false true main
  let frise := wearMean 42 (o.1 + c.1, o.2 + c.2)
  let sealw := wearMean 43 (wearSum d n false false sealB)
  let vs := (all.filter fun b => d.get pg (OBS.KTO.FRIC.at b) != 0xFFFF).map (fun b => d.get pg (OBS.KTO.VAR.at b)) ++
    (all.filter fun b => d.get pg (OBS.KTC.FRIC.at b) != 0xFFFF).map (fun b => d.get pg (OBS.KTC.VAR.at b))
  let drive := if vs.isEmpty then (Config.outOfRange 44 0 : Int) else Num.sqrt 44 ((vs.sum / vs.length : Nat) : Int)
  let fl : Int := mcfg d n OBS.WEARL.FRISEL
  let sl : Int := mcfg d n OBS.WEARL.SEALWL
  let dl : Int := mcfg d n OBS.WEARL.DRIVEL
  let wear := maxI (Num.quo 45 (100 * frise) fl) (maxI (Num.quo 46 (100 * sealw) sl) (Num.quo 47 (100 * drive) dl))
  let d := ((d.put pg OBS.WEARV.FRISE (Num.fitS 37 8 frise)).put pg OBS.WEARV.SEALW (Num.fitS 38 8 sealw)).put
    pg OBS.WEARV.DRIVE (Num.fitU 39 16 drive)
  let d := d.put pg OBS.WEAR.WEAR (Num.fitU 40 16 (minI 1000 wear))
  wearFlag n 2 (decide (drive ≥ dl)) (wearFlag n 1 (decide (sealw ≥ sl)) (wearFlag n 0 (decide (frise ≥ fl)) d))

/-- A table write has begun and ended: KTVER counts both (R163). -/
def ktVer (n : Nat) (d : Dev) : Dev := (d.inc (pgOBS n) OBS.KTVER.VER).inc (pgOBS n) OBS.KTVER.VER

/-- The update of a direction after a clean movement that learns (R165, R166). -/
def ktLearn (n : Nat) (opening : Bool) (bins : List BinSum) (d : Dev) : Dev :=
  let pg := pgOBS n
  let w := mcfg d n OBS.KERN.WEIGHT
  let j := (if opening then (d.kn n).jO else (d.kn n).jC) + 1
  let settling := bit (d.get pg OBS.OBS_STAT.SETTLE) (if opening then 0 else 1)
  let (wn, wd) : Int × Int := if settling ∧ w * (j + 1) < 256 then (1, j + 1) else (w, 256)
  let d := d.each bins (ktBin n opening wn wd)
  let d := (ktSettle n opening (ktVer n d)).ev pg Ev.OBS.KTUPD
  ktWear n (d.modKn n fun k => { k with dirty := true })

/-- A discarded update (R168). -/
def ktDiscard (n : Nat) (d : Dev) : Dev := d.ev (pgOBS n) Ev.OBS.KTFRZ

/-- The table at the end of a movement (R164 to R168). -/
def ktMove (n : Nat) (d : Dev) : Dev :=
  let k := d.kn n
  let opening := decide (k.mvDir > 0)
  let bins := k.bins
  let d := d.modKn n fun k => { k with atEnd := false, bins := [] }
  if !k.endedOk || k.anom then
    ktDiscard n (d.modKn n fun k => { k with probation := mcfg d n OBS.KERN.HOLDN })
  else
    let d := d.incSat (pgOBS n) (if opening then OBS.CLEAN.CLEANO else OBS.CLEAN.CLEANC)
    if k.probation ≠ 0 then ktDiscard n (d.modKn n fun k => { k with probation := k.probation - 1 })
    else if d.on (pgOBS n) OBS.OBS_CFG.FREEZE then ktDiscard n d
    else ktLearn n opening bins d

/-- The mean of a learn run's bin in 0.1 N, `none` with fewer than two samples (R169). -/
def learnMean (l : List BinSum) (b : Nat) : Option Nat :=
  match l.find? fun s => s.bin == b && decide (2 ≤ s.n) with
  | some s => some (Num.fitU 36 16 (Num.quo 39 (s.sum / s.n) 65536))
  | none => none

/-- A completed learn run replaces the whole table (R169). Model's choice: the movements of a run count neither as clean nor as
anomalous, and the replaced table ends a probation (R168, assumption log 82). -/
def ktReplace (n : Nat) (d : Dev) : Dev :=
  let pg := pgOBS n
  let k := d.kn n
  let d := d.each (List.range 256) fun b d =>
    let o := learnMean k.learnO b
    let c := learnMean k.learnC b
    let fo := (o <|> c).getD 0xFFFF
    let fc := (c <|> o).getD 0xFFFF
    (((((d.put pg (OBS.KTO.FRIC.at b) fo).put pg (OBS.KTO.VAR.at b) 0).put pg (OBS.KTC.FRIC.at b) fc).put
      pg (OBS.KTC.VAR.at b) 0).put pg (OBS.KTB.BASEO.at b) fo).put pg (OBS.KTB.BASEC.at b) fc
  let d := d.modKn n fun k => { k with learnDone := false, learnO := [], learnC := [], raw := [], jO := 0, jC := 0
                                       probation := 0, dirty := true }
  let d := ((d.put pg OBS.OBS_STAT.SETTLE 3).put pg OBS.CLEAN.CLEANO 0).put pg OBS.CLEAN.CLEANC 0
  ktWear n ((ktVer n d).ev pg Ev.OBS.KTUPD)

/-- KT_UPDATE (R163 to R169, R190). -/
def ktUpdate (n : Nat) (d : Dev) : Dev :=
  if !d.part.hasLeaf n then d
  else if (d.kn n).learnDone then publishFrz n (ktReplace n d)
  else if (d.kn n).atEnd then publishFrz n (ktMove n d)
  else d

/-- The samples of phase L2 are binned with the STROKE loaded at the start of L3 (R169). -/
def kernBinLearn (n : Nat) (d : Dev) : Dev :=
  let s := d.get (pgOBS n) OBS.STROKE.STROKE
  d.modKn n fun k => { k with learnO := k.raw.foldl (fun l x => addBin (binOf s x.p) x.f l) [], raw := [], learnC := [] }

/-- A learn run's samples are discarded and the table's STROKE restored (R169). -/
def kernLearnAbort (n : Nat) (loaded : Bool) (d : Dev) : Dev :=
  let st := (d.kn n).oldStroke
  let d := d.modKn n fun k => { k with raw := [], learnO := [], learnC := [], learnDone := false }
  if loaded then d.put2 (pgOBS n) OBS.STROKE.STROKE st else d

/-- Whether the table holds a learned bin (R194, R235). -/
def ktLearned (d : Dev) (n : Nat) : Bool :=
  (List.range 256).any fun b => d.get (pgOBS n) (OBS.KTO.FRIC.at b) != 0xFFFF || d.get (pgOBS n) (OBS.KTC.FRIC.at b) != 0xFFFF

/-- An uncorrectable error in a kerning table (R193). -/
def ktEcc (n : Nat) (d : Dev) : Dev :=
  if d.part.hasLeaf n then
    let d := d.each (List.range 256) fun b d =>
      (d.put (pgOBS n) (OBS.KTO.FRIC.at b) 0xFFFF).put (pgOBS n) (OBS.KTC.FRIC.at b) 0xFFFF
    leafFault n (pgOBS n) Cz.OBS.KTECC 0xFF 2 (ktVer n d)
  else d

/-! Diagnostics and commands. -/

/-- The averages of a program cycle and the shadow check's count (R192). Model's choice: a cycle in which the observer did not run
throughout breaks the row of three (assumption log 82). -/
def obsBoundary (n : Nat) (d : Dev) : Dev :=
  let k := d.kn n
  let pg := pgOBS n
  let d := if k.avgN = 0 then d
    else
      let fc := Num.quo 48 k.avgF (k.avgN * 65536)
      let fl := Num.quo 49 k.avgL (k.avgN * 65536)
      (d.put pg OBS.AVG_FC.AVG_FC (Num.fitS 41 16 fc)).put pg OBS.AVG_FC.AVG_FL (Num.fitU 42 16 fl)
  let whole := k.avgN ≠ 0 ∧ k.avgN = k.nServo
  let cnt : Int := max 1 k.avgN
  let fsh := (d.ob n).dir * ((ocfg d n OBS.KF.KF : Int) * d.geti (pgLEAF n) LEAF.AVG_I.AVG_IQ * 65536 / 100000 -
    inertia d n (k.avgA / cnt)) - k.avgL / cnt
  let above := decide (absI (fsh - k.avgF / cnt) > ocfg d n OBS.OBSTOL.OBSTOL * 65536)
  d.modKn n fun k => { k with avgF := 0, avgL := 0, avgA := 0, avgN := 0, nServo := 0
                              nShadow := if whole ∧ above then k.nShadow + 1 else 0 }

/-- OSHADOW (R192). -/
def oshadow (n : Nat) (d : Dev) : Dev :=
  if d.part.hasLeaf n && !leafOut d n && decide (3 ≤ (d.kn n).nShadow) then
    leafFault n (pgOBS n) Cz.OBS.OSHADOW 0xFF 2 ((d.modKn n fun k => { k with nShadow := 0 }).ev (pgOBS n) Ev.OBS.OSHADOW)
  else d

/-- The temperature has not been written for 10 s (R162). -/
def tstale (n : Nat) (d : Dev) : Dev :=
  let k := d.kn n
  if d.part.hasLeaf n && d.enabled (pgOBS n) && ocfg d n OBS.OBS_CFG.TSRC == 2 && !k.stale && decide (k.tempAt + msMot 10000 ≤ d.tim.mot) then
    let d := (d.modKn n fun k => { k with stale := true }).putB (pgOBS n) OBS.OBS_STAT.TSTALE true
    (d.ev (pgOBS n) Ev.OBS.TSTALE).raise (pgOBS n) Cz.OBS.TSTALE 0xFF
  else d

/-- A write of `TEMP` (R162). -/
def tempWritten (n : Nat) (d : Dev) : Dev :=
  (d.modKn n fun k => { k with tempAt := d.tim.mot, stale := false }).putB (pgOBS n) OBS.OBS_STAT.TSTALE false

/-- CLRDET. -/
def obsClrdet (n : Nat) (d : Dev) : Dev :=
  (((d.putB (pgOBS n) OBS.OBS_STAT.DET false).put (pgOBS n) OBS.OBS_STAT.KIND 0).put (pgOBS n) OBS.DETPOS.POS 0).put
    (pgOBS n) OBS.DETF.F 0

/-- REBASE at standstill (R191). -/
def obsRebase (n : Nat) (d : Dev) : Dev :=
  if (d.prf n).still then
    let d := d.each (List.range 256) fun b d =>
      (d.put (pgOBS n) (OBS.KTB.BASEO.at b) (d.get (pgOBS n) (OBS.KTO.FRIC.at b))).put (pgOBS n) (OBS.KTB.BASEC.at b)
        (d.get (pgOBS n) (OBS.KTC.FRIC.at b))
    (ktVer n d).put (pgOBS n) OBS.OBS_STAT.WEARF 0
  else d

/-- A write to `OBS_CTRL`. -/
def obsCtrl (n v : Nat) (d : Dev) : Dev :=
  let d := if bit v 0 then obsClrdet n d else d
  if bit v 1 then obsRebase n d else d

end Sys2Proof.Machine
end

