-- ==== Sys2Proof/Machine/Sequencer.lean ====
section
/-! DEFINITION. Leaf and doorway sequences: signals (R236 to R238), the leaf's states and transitions (R230 to R249),
recloses (R250), learn and reference runs (R251 to R256), doorway pairs (R257 to R259) and train sides (R260). A
doorway is evaluated at each servo boundary; the members of a pair that hold the same state act as one. -/

namespace Sys2Proof.Machine

/-- The code of a leaf state (table "Leaf states"). -/
def LeafState.code : LeafState → Nat
  | .unref => 0 | .learn => 1 | .closedLocked => 2 | .unlocking => 3 | .opening => 4 | .open_ => 5 | .closing => 6
  | .reversing => 7 | .obstructed => 8 | .locking => 9 | .isolated => 10 | .emerg => 11 | .fault => 12

/-- The rank of a state in a doorway's state (R259), the highest first. -/
def LeafState.rank : LeafState → Nat
  | .fault => 0 | .emerg => 1 | .unref => 2 | .learn => 3 | .obstructed => 4 | .reversing => 5 | .unlocking => 6
  | .opening => 7 | .closing => 8 | .locking => 9 | .open_ => 10 | .isolated => 11 | .closedLocked => 12

/-! Signals. -/

/-- *closed* (R236, R238). -/
def sigClosed (d : Dev) (n : Nat) : Bool := limLevel d n false && !bit (d.seq n).susp 0

/-- *open switch* (R236, R238). -/
def sigOpen (d : Dev) (n : Nat) : Bool := limLevel d n true && !bit (d.seq n).susp 1

/-- The lock switch's level. -/
def lockLevel (d : Dev) (n : Nat) : Bool :=
  inputPol d (d.get (pgLEAF n) LEAF.SEQ_IN.LKSW) (d.on (pgLEAF n) LEAF.SEQ_IN.LKPOL)

/-- *locked* (R236, R238). -/
def sigLocked (d : Dev) (n : Nat) : Bool := lockLevel d n && !bit (d.seq n).susp 2

/-- *emergency* of a doorway (R236, R257). -/
def sigEmerg (d : Dev) (n : Nat) : Bool :=
  let p := pgLEAF (dwPage d n)
  inputPol d (d.get p LEAF.SEQ_IN.EMSW) (d.on p LEAF.SEQ_IN.EMPOL)

/-- *isolation* of a doorway (R236, R257). -/
def sigIso (d : Dev) (n : Nat) : Bool :=
  let p := pgLEAF (dwPage d n)
  inputPol d (d.get p LEAF.SEQ_IN.ISOSW) (d.on p LEAF.SEQ_IN.ISOPOL)

/-- States in which a loss of *released* or an isolation is a close demand (R242). -/
def demandState : LeafState → Bool
  | .unlocking => true | .opening => true | .open_ => true | .reversing => true | .obstructed => true
  | _ => false

/-- Read the signals of a leaf at a servo boundary; the edges that are close demands are kept (R236, R242). -/
def readSignals (n : Nat) (d : Dev) : Dev :=
  let q := d.seq n
  let rel := released d n
  let iso := sigIso d n
  let dem := demandState q.st
  let slow := decide (absI (d.fbk n).v < d.get (pgLEAF n) LEAF.STAND.STANDV)
  d.modSeq n fun q =>
    { q with relLost := dem && (q.relLost || (q.rel && !rel)), isoRose := dem && (q.isoRose || (iso && !q.isol))
             rel := rel, isol := iso, emerg := sigEmerg d n, closed := sigClosed d n, openSw := sigOpen d n
             locked := sigLocked d n, slowN := if slow then q.slowN + 1 else 0 }

/-- Switch transitions in a PWM period (R237): times of the last transitions of the closed, open-end and lock switches. -/
def switchPwm (n : Nat) (d : Dev) : Dev :=
  let c := limLevel d n false
  let o := limLevel d n true
  let l := lockLevel d n
  let now := d.tim.mot
  d.modLrn n fun x =>
    { x with pC := c, pO := o, pL := l
             histC := if c != x.pC then (now :: x.histC).take 4 else x.histC
             histO := if o != x.pO then (now :: x.histO).take 4 else x.histO
             histL := if l != x.pL then (now :: x.histL).take 4 else x.histL }

/-- Four transitions within 50 ms (R237). -/
def chatters (now : Nat) (h : List Nat) : Bool :=
  match h[3]? with
  | some t => decide (now ≤ t + msMot 50)
  | none => false

/-! Drive modes, locks and moves. -/

/-- Command a drive mode; SERVO from another mode starts from the measured position (R233). Model's choice: the sequencer requests TEST
nowhere, since the manual names no state or command that asks for it (R95, assumption log 70). -/
def wantMode (n m : Nat) (d : Dev) : Dev :=
  let cur := (d.drv n).modeReq.getD (d.drv n).mode
  if cur = m then d
  else
    let d := if m = mSERVO then holdHere n d else d
    d.modDrv n fun x => { x with modeReq := some m }

/-- Press closed with HOLDIQ in CURRENT (R231); not while a hard stop keeps the drive OFF (R148). -/
def pressClosed (n : Nat) (d : Dev) : Dev :=
  let q : Int := d.get (pgLEAF n) LEAF.SEQ_CLOSEP.HOLDIQ
  if (d.seq n).hardLock then d else (wantMode n mCURRENT d).modDrv n fun x => { x with iqNext := -q }

/-- The drive mode of a leaf commanded off: that of DISMODE (R93), OFF while a hard stop keeps it (R148). -/
def restMode (d : Dev) (n : Nat) : Nat := if (d.seq n).hardLock then mOFF else offMode d n

/-- A hard stop that came with a fault event or an emergency ends its hold as the leaf leaves FAULT or EMERG (R148, R232). -/
def leaveFault (n : Nat) (d : Dev) : Dev :=
  if (d.seq n).hardFault then
    (d.modSeq n fun q => { q with hardLock := false, hardFault := false }).modPrf n fun p =>
      { p with stopKind := if p.stopKind = 3 then 0 else p.stopKind }
  else d

/-- Whether the sequencer requests the lock high side on (R231, R232, R255). -/
def lockWanted (d : Dev) (n : Nat) : Bool :=
  let q := d.seq n
  let on := match q.st with
    | .learn => !((d.lrn n).kind && (d.lrn n).phase == 0)
    | .unlocking => true | .opening => true | .open_ => true | .closing => true | .reversing => true | .obstructed => true
    | _ => false
  on && !q.hardLock && !leafOut d n && !d.flt.halt && !bit d.sx.lkf n

/-- Send the lock command in the next field-link frame (R230). -/
def sendLock (n : Nat) (d : Dev) : Dev := d.modDy (n / 4) fun y => { y with lkCmd := setBit y.lkCmd (n % 4) (lockWanted d n) }

/-- A sequencer move is held while VFLD is at the low level (R440). -/
def mayMove (d : Dev) : Bool := !d.vfld.low

/-- Issue a move of a unit: its leader moves a formed ligature, else each member moves (R141, R143). A move ends the lock
hold of a hard stop (R148, R232). -/
def issueMove (ms : List Nat) (tgt : Nat → Int) (set : Nat) (d : Dev) : Dev :=
  let d := d.each ms fun n d => (wantMode n mSERVO d).modSeq n fun q => { q with hardLock := false, hardFault := false }
  d.each (ms.filter fun n => !isFollower d n) fun n d => giveMove n (tgt n) set true d

/-- Change the state of a leaf: timers of the state end; leaving OPEN and OBSTRUCTED ends external set-point mode and stops a
moving leaf (R249). -/
def setState (n : Nat) (st : LeafState) (d : Dev) : Dev :=
  let old := (d.seq n).st
  let leave := (old == .open_ || old == .obstructed) && st != .open_ && st != .obstructed
  let d := if leave then
      let d := d.put (pgLEAF n) LEAF.SPQ_CFG.SPMODE 0
      if (d.prf n).sp.v != 0 then reqStop n 1 true d else d
    else d
  d.modSeq n fun q =>
    { q with st := st, tunlk := none, tunlkX := false, tlock := none, tlockX := false
             trecl := if st == .obstructed then q.trecl else none, treclX := q.treclX && st == .obstructed
             closePend := q.closePend && (st == .open_ || st == .obstructed || st == .reversing)
             reason := if st == .obstructed then q.reason else 0, moveEnded := false, stopEnded := false, det := false
             go := false, waitStep := q.waitStep && st == .opening, revWait := false, revRun := false
             partnerStop := false
             reclosePend := q.reclosePend && (st == .obstructed || st == .reversing) }

/-- Enter OBSTRUCTED with a reason. -/
def toObstructed (n rsn : Nat) (d : Dev) : Dev :=
  (setState n .obstructed d).modSeq n fun q => { q with reason := rsn }

/-- Enter UNREF with the bridge commanded off. -/
def toUnref (n : Nat) (d : Dev) : Dev := wantMode n (restMode d n) (setState n .unref d)

/-- A recloses' count and pause end (R250). -/
def clearReclose (n : Nat) (d : Dev) : Dev :=
  d.modSeq n fun q => { q with reclC := 0, reclosePend := false, trecl := none, treclX := false }

/-- Enter CLOSED_LOCKED or ISOLATED, with the bridge commanded off; entry to CLOSED_LOCKED ends recloses (R231, R250). -/
def toClosed (n : Nat) (st : LeafState) (d : Dev) : Dev := wantMode n (restMode d n) (clearReclose n (setState n st d))

/-- A stop path runs or is requested on a leaf. -/
def stopping (d : Dev) (n : Nat) : Bool :=
  let p := d.prf (stopTarget d n 2)
  p.stopKind == 1 || p.stopKind == 2 || p.stopReq != 0

/-- In FAULT and EMERG the drive goes OFF at the end of a stop path, at once without one (R231, R241). -/
def settleOff (n : Nat) (d : Dev) : Dev :=
  if (d.drv n).mode == mSERVO && stopping d n then d else wantMode n mOFF d

/-- The end of a learn or reference run, completed or not: a reference run restores the soft limits (R255). -/
def endRun (n : Nat) (d : Dev) : Dev :=
  let r := d.lrn n
  let pg := pgLEAF n
  let d := if r.kind && r.phase != 0 then
      (((d.put pg LEAF.SOFTMIN.SOFTMIN r.softMin).sput pg LEAF.SOFTMIN.SOFTMIN r.stagedMin).put
        pg LEAF.SOFTMAX.SOFTMAX r.softMax).sput pg LEAF.SOFTMAX.SOFTMAX r.stagedMax
    else d
  d.modLrn n fun r => { r with phase := 0, press := none, pressX := false, stallN := 0, stallX := false, stopping := false
                               refWait := false, abort := false }

/-- A run is dropped by a fault event or an emergency: its samples are discarded (R169, R255). -/
def dropRun (n : Nat) (d : Dev) : Dev :=
  if (d.seq n).st == .learn then
    let r := d.lrn n
    endRun n (if r.kind then d else kernLearnAbort n (r.phase == 4) d)
  else d

/-- The partner of a leaf in a fault event (R258): its quick stop, at whose end it enters OBSTRUCTED with reason PARTNER. Model's
choice: where no set-point runs there is nothing to stop, and the path counts as ended at once (assumption log 44). -/
def partnerFault (n : Nat) (d : Dev) : Dev :=
  let p := partnerOf n
  let st := (d.seq p).st
  if d.on (pgLEAF (evenOf n)) LEAF.SEQ_CFG.DWMODE && !leafOut d p && st != .fault && st != .emerg && st != .unref &&
      st != .closedLocked && st != .isolated then
    let servo := (d.drv p).mode == mSERVO
    (if servo then reqStop p 2 false d else d).modSeq p fun q =>
      { q with partnerStop := true, stopEnded := q.stopEnded || !servo }
  else d

/-- Enter FAULT (R241, R258). -/
def toFault (n : Nat) (d : Dev) : Dev :=
  let d := dropRun n d
  let d := setState n .fault d
  settleOff n (partnerFault n (d.modSeq n fun q => { q with fault := none, haltSeen := d.flt.halt }))

/-- A class C2 fault of the sequencer's own (UNLKTO, LOCKTO, LOCKLOST). -/
def ownFault (n : Nat) (c : Cause) (d : Dev) : Dev := toFault n (d.fault (pgLEAF n) c 0xFF)

/-- Enter UNLOCKING: press, lock on, TUNLK (R243). -/
def toUnlocking (n : Nat) (d : Dev) : Dev :=
  let t := d.tim.mot + msMot (10 * d.get (pgLEAF n) LEAF.SEQ_TIME.TUNLK)
  (pressClosed n (setState n .unlocking d)).modSeq n (fun q => { q with tunlk := some t })
    |>.modMov n fun r => { r with unlkAt := d.tim.mot }

/-- Enter LOCKING: press, lock off, TLOCK (R243). -/
def toLocking (n : Nat) (d : Dev) : Dev :=
  let t := d.tim.mot + msMot (10 * d.get (pgLEAF n) LEAF.SEQ_TIME.TLOCK)
  (pressClosed n (setState n .locking d)).modSeq n (fun q => { q with tlock := some t })
    |>.modMov n fun r => { r with lockAt := d.tim.mot }

/-- Milliseconds since a MOTCLK count, saturating in 16 bits. -/
def msSince (d : Dev) (t : Nat) : Nat := min 65535 ((d.tim.mot - t) / 250000)

/-- Enter CLOSED_LOCKED or ISOLATED from LOCKING (R243, R250). -/
def lockedDone (n : Nat) (d : Dev) : Dev :=
  let t := msSince d (d.mov_ n).lockAt
  let d := d.modMov n fun r => { r with lockT := t }
  (toClosed n (if (d.seq n).isol then .isolated else .closedLocked) d).put (pgLEAF n) LEAF.SEQ_LKT.LOCKT t

/-- Start the closing warning (R248); TWARN 0 gives none. -/
def startWarn (n : Nat) (d : Dev) : Dev :=
  let w := d.get (pgLEAF n) LEAF.SEQ_TIME.TWARN
  d.modSeq n fun q => { q with warn := if w = 0 then none else some (d.tim.mot + msMot (100 * w)) }

/-- Whether the doorway's step lets the opening target stand: none named, absent, extended or inhibited (R245, R291). -/
def stepClear (d : Dev) (n : Nat) : Bool :=
  let k := d.get (pgLEAF (dwPage d n)) LEAF.SEQ_CFG.STEPSEL
  decide (4 ≤ k) || !d.part.hasStepAxis k || d.on (pgSTEP k) STEP.STP_STAT.EXTD || d.on (pgSTEP k) STEP.STP_STAT.INHB

/-- The opening target (R245). -/
def openTarget (d : Dev) (n : Nat) : Int :=
  let o : Int := d.get (pgLEAF n) LEAF.SEQ_OPEN.OPENP
  if stepClear d n then o else minI o (d.get (pgLEAF n) LEAF.SEQ_STEP.STEPP)

/-- Whether the step interlock point limits the opening target (R245). -/
def stepLimits (d : Dev) (n : Nat) : Bool :=
  !stepClear d n && decide (d.get (pgLEAF n) LEAF.SEQ_STEP.STEPP < d.get (pgLEAF n) LEAF.SEQ_OPEN.OPENP)

/-- Enter OPENING with the opening move (R243, R245). -/
def toOpening (ms : List Nat) (d : Dev) : Dev :=
  let d := d.each ms fun n d => setState n .opening d
  let d := d.each ms fun n d => d.modSeq n fun q => { q with waitStep := stepLimits d n }
  issueMove ms (openTarget d) 0 d

/-- Enter CLOSING with the closing move (R243). -/
def toClosing (ms : List Nat) (reclose : Bool) (d : Dev) : Dev :=
  let d := d.each ms fun n d => (setState n .closing d).modSeq n fun q => { q with recloseRun := reclose }
  issueMove ms (fun n => d.geti (pgLEAF n) LEAF.SEQ_CLOSE.CLOSETGT) 1 d

/-- The closing completion rule (R246). -/
def closeComplete (d : Dev) (n : Nat) : Bool :=
  (d.seq n).closed && decide ((d.fbk n).p ≤ d.get (pgLEAF n) LEAF.SEQ_CLOSEP.CLOSEP) &&
  decide (d.get (pgLEAF n) LEAF.STAND.STANDN ≤ (d.seq n).slowN)

/-! Learn and reference runs. -/

/-- Widen the soft limits around the measured position (R251). -/
def widenSoft (n : Nat) (d : Dev) : Dev :=
  let m : Int := d.get (pgLEAF n) LEAF.SEQ_LRN.LRNMAX * 1000
  let p := (d.fbk n).p
  (d.put2 (pgLEAF n) LEAF.SOFTMIN.SOFTMIN (uns 32 (p - m))).put2 (pgLEAF n) LEAF.SOFTMAX.SOFTMAX (uns 32 (p + m))

/-- Abort a run (R256): the fault; quick stop and UNREF at standstill, or the bridge off and UNREF at once. -/
def abortRun (n : Nat) (c : Cause) (d : Dev) : Dev :=
  if (d.lrn n).abort then d
  else
    let r := d.lrn n
    let d := d.raise (pgLEAF n) c 0xFF
    let d := if r.kind then d else kernLearnAbort n (r.phase == 4) d
    if (d.drv n).mode == mSERVO then
      (reqStop n 2 true d).modLrn n fun r => { r with abort := true }
    else toUnref n (endRun n d)

/-- Phase L1 begins (R251 to R253): creep closing; a closed-end switch already active counts as captured. -/
def startL1 (ms : List Nat) (d : Dev) : Dev :=
  let d := d.each ms fun n d =>
    let act := limLevel d n false
    let d := (widenSoft n d).modLrn n fun r => { r with phase := 2, capC := act, stallN := 0, stallX := false, refWait := false }
    if act then d.puti (pgLEAF n) LEAF.LIMC_CAP.POS (d.fbk n).p else d
  issueMove ms (fun n => d.geti (pgLEAF n) LEAF.SOFTMIN.SOFTMIN) 2 d

/-- Phase L2 begins (R251 to R253): creep opening. -/
def startL2 (ms : List Nat) (d : Dev) : Dev :=
  let d := d.each ms fun n d =>
    let act := limLevel d n true
    let d := (widenSoft n d).modLrn n fun r => { r with phase := 3, capO := act, stallN := 0, stallX := false, refWait := false
                                                        stopping := false }
    if act then d.puti (pgLEAF n) LEAF.LIMO_CAP.POS (d.fbk n).p else d
  issueMove ms (fun n => d.geti (pgLEAF n) LEAF.SOFTMAX.SOFTMAX) 2 d

/-- Phase L3 begins (R152, R253, R254): the limits of the stroke, and creep closing to the closing target; a closed-end switch
already active counts as captured. -/
def startL3 (ms : List Nat) (d : Dev) : Dev :=
  let d := d.each ms fun n d =>
    let s := (d.lrn n).stroke
    let mrg : Int := d.get (pgLEAF n) LEAF.SEQ_LRN3.OPENMRG * 1000
    let d := d.modKn n fun k => { k with oldStroke := d.get (pgOBS n) OBS.STROKE.STROKE }
    let d := d.put2 (pgOBS n) OBS.STROKE.STROKE (uns 32 s)
    let d := d.put2 (pgLEAF n) LEAF.SOFTMIN.SOFTMIN (d.get (pgLEAF n) LEAF.SEQ_CLOSE.CLOSETGT)
    let d := d.put2 (pgLEAF n) LEAF.SOFTMAX.SOFTMAX (uns 32 s)
    let d := d.put2 (pgLEAF n) LEAF.SEQ_OPEN.OPENP (uns 32 (maxI 0 (s - mrg)))
    let act := limLevel d n false
    let d := if act then d.puti (pgLEAF n) LEAF.LIMC_CAP.POS (d.fbk n).p else d
    kernBinLearn n (d.modLrn n fun r => { r with phase := 4, capC := act, stopping := false, stallN := 0, stallX := false })
  issueMove ms (fun n => d.geti (pgLEAF n) LEAF.SEQ_CLOSE.CLOSETGT) 2 d

/-- Begin a learn run (kind false), which holds no samples yet (R169), or a reference run (R253, R255). -/
def startRun (ms : List Nat) (kind : Bool) (d : Dev) : Dev :=
  let shut := ms.all fun n => (d.seq n).closed && (d.seq n).locked
  let d := d.each ms fun n d =>
    let d := setState n .learn (if kind then d else kernLearnAbort n false d)
    d.modLrn n fun r => { r with kind := kind, phase := 0, press := none, pressX := false, stallN := 0, stallX := false
                                 stopping := false, refWait := false, abort := false, chat := false
                                 softMin := d.get (pgLEAF n) LEAF.SOFTMIN.SOFTMIN
                                 softMax := d.get (pgLEAF n) LEAF.SOFTMAX.SOFTMAX
                                 stagedMin := d.sget (pgLEAF n) LEAF.SOFTMIN.SOFTMIN
                                 stagedMax := d.sget (pgLEAF n) LEAF.SOFTMAX.SOFTMAX }
  if shut && kind then
    d.each ms fun n d => (pressClosed n d).modLrn n fun r => { r with press := some (d.tim.mot + msMot 200) }
  else if shut then
    d.each ms fun n d =>
      let t := d.tim.mot + msMot (10 * d.get (pgLEAF n) LEAF.SEQ_TIME.TUNLK)
      ((pressClosed n d).modSeq n fun q => { q with tunlk := some t }).modLrn n fun r => { r with phase := 1 }
  else startL1 ms d

/-- Ask for the reference (R253, R255): applied at the next servo boundary. -/
def askRef (n : Nat) (d : Dev) : Dev :=
  (d.modFb n fun f => { f with setRef := some (d.geti (pgLEAF n) LEAF.SEQ_CREF.CREF) }).modLrn n fun r =>
    { r with refWait := true, press := none, pressX := false }

/-- Stall in LEARN of a servo period (R252). -/
def stallCount (n : Nat) (d : Dev) : Dev :=
  let v := d.get (pgLEAF n) LEAF.SEQ_LRN3.LSTALLV
  if (d.seq n).st == .learn && decide (absI (d.prf n).sp.v ≥ (v : Int) * 65536) then
    let slow := decide (absI (d.fbk n).v < v)
    d.modLrn n fun r => { r with stallN := if slow then r.stallN + 1 else 0 }
  else d

/-- LEARN_STALL (R252): LSTALLN counted periods. -/
def learnStall (n : Nat) (d : Dev) : Dev :=
  if (d.seq n).st == .learn && decide (d.get (pgLEAF n) LEAF.SEQ_LRN3.LSTALLN ≤ (d.lrn n).stallN) then
    d.modLrn n fun r => { r with stallX := true }
  else d

/-- The set-point of a creep has reached its end. -/
def creepEnded (d : Dev) (n : Nat) : Bool :=
  let l := if ligFormed d n then ligLeader d n else n
  match (d.prf l).plan with
  | some p => decide (p.len ≤ p.elapsed)
  | none => (d.seq l).moveEnded

/-- Abort cases of a run that hold now, by their cause (R256). `was` are the signals of the previous boundary. -/
def runAbort (d : Dev) (n : Nat) (wasClosed wasOpen : Bool) : Option Cause :=
  let r := d.lrn n
  let q := d.seq n
  let c := q.closed
  let o := q.openSw
  if r.chat then some Cz.LEAF.LRNCHAT
  else if (r.phase == 2 || r.phase == 4) && o && !wasOpen then some Cz.LEAF.LRNOPP
  else if r.phase == 3 && c && !wasClosed then some Cz.LEAF.LRNOPP
  else if (r.phase == 1 || r.phase == 3) && !r.kind && !q.rel then some Cz.LEAF.LRNFAIL
  else if r.phase == 1 && q.tunlkX then some Cz.LEAF.LRNFAIL
  else if r.phase == 2 && !r.refWait && r.stallX && !r.capC then some Cz.LEAF.LRNFAIL
  else if r.phase == 2 && !r.refWait && !r.stallX && creepEnded d n then some Cz.LEAF.LRNFAIL
  else if r.phase == 3 && !r.stopping && !r.capO && creepEnded d n then some Cz.LEAF.LRNFAIL
  else if r.phase == 3 && r.stopping && !stopping d n && (d.prf n).still &&
      (decide (r.stroke < d.get (pgLEAF n) LEAF.SEQ_LRN2.STRMIN * 1000) ||
       decide (r.stroke > d.get (pgLEAF n) LEAF.SEQ_LRN2.STRMAX * 1000)) then some Cz.LEAF.LRNFAIL
  else none

/-- The progress of a run that is not aborting (R253, R255). -/
def runStep (ms : List Nat) (d : Dev) : Dev :=
  let n0 := ms.headD 0
  let r := d.lrn n0
  let refDone := ms.all fun n => (d.fbk n).setRef.isNone
  let all (f : Nat → Bool) := ms.all f
  if r.phase = 0 then
    if r.refWait then
      if refDone then d.each ms fun n d => toClosed n .closedLocked (endRun n d) else d
    else if all fun n => (d.lrn n).pressX then d.each ms askRef else d
  else if r.phase = 1 then
    if mayMove d && all fun n => !(d.seq n).locked then startL1 ms d else d
  else if r.phase = 2 then
    if r.refWait then
      if !refDone then d
      else if r.kind then
        if all fun n => closeComplete d n then d.each ms fun n d => toLocking n (endRun n d) else d
      else if mayMove d then startL2 ms d else d
    else if (all fun n => (d.lrn n).stallX && (d.lrn n).capC) then d.each ms fun n d => askRef n (pressClosed n d)
    else d
  else if r.phase = 3 then
    if r.stopping then
      if mayMove d && all fun n => !stopping d n && (d.prf n).still then startL3 ms d else d
    else
      let blind (n : Nat) := selNone (d.get (pgLEAF n) LEAF.LIMCFG.LIMO_SRC)
      let hit (n : Nat) := if blind n then (d.lrn n).stallX else (d.lrn n).capO
      if all hit then
        d.each ms fun n d =>
          let s := if blind n then (d.fbk n).p else d.geti (pgLEAF n) LEAF.LIMO_CAP.POS
          (reqStop n 1 true d).modLrn n fun r => { r with stopping := true, stroke := s }
      else d
  else if all fun n => closeComplete d n then
    d.each ms fun n d => toLocking n (endRun n (d.modKn n fun k => { k with learnDone := true }))
  else d

/-! Commands. -/

/-- The exit from EMERG or FAULT (R244): to CLOSED_LOCKED only while the table holds a learned bin, since without one the leaf is
UNREF (R194); it clears the leaf's C2 conditions (R380) and ends a hard stop's hold (R148). -/
def exitRule (n : Nat) (d : Dev) : Dev :=
  let d := ((d.c2clr (pgLEAF n)).c2clr (pgPOS n)).c2clr (pgOBS n)
  let d := leaveFault n d
  if !ktLearned d n then toUnref n d
  else if (d.seq n).closed && (d.seq n).locked then toClosed n .closedLocked d
  else if (d.fbk n).refd then wantMode n mOFF (toObstructed n 6 d)
  else toUnref n d

/-- ACK on one member: whether its state accepts it (R243); a leaf that fails the configuration check is held in FAULT (R302), as is
every leaf during a device safe halt. -/
def ackOk (d : Dev) (n : Nat) : Bool :=
  match (d.seq n).st with
  | .emerg => !(d.seq n).emerg
  | .fault => !d.on (pgLEAF n) LEAF.DRV_STAT.LATCH && (d.ps n).latch == 0 && (d.fbk n).valid && !d.flt.halt && !bit d.sx.cfgMis n
  | _ => false

/-- Take the latched command away, accepted or refused (R240). -/
def endCmd (n : Nat) (ok : Bool) (d : Dev) : Dev := d.modSeq n fun q => { q with cmd := none, refused := !ok }

/-- A close demand in the states in which it acts (R242, R243, R248, R250): the warning starts and recloses end. In REVERSING the
closing start follows from OBSTRUCTED. -/
def closeDemand (ms : List Nat) (d : Dev) : Dev :=
  let warned (d : Dev) : Dev := d.each ms fun n d => startWarn n (clearReclose n d)
  let later (d : Dev) : Dev := d.each ms fun n d => d.modSeq n fun q => { q with closePend := true, recloseRun := false }
  match (d.seq (ms.headD 0)).st with
  | .unlocking => (warned d).each ms toLocking
  | .opening => toClosing ms false (warned d)
  | .open_ => later (warned d)
  | .obstructed => later (warned d)
  | .reversing => later (warned d)
  | _ => d

/-- Whether a close demand acts in a state now (R242, R440). -/
def closeRow (d : Dev) (n : Nat) : Bool :=
  match (d.seq n).st with
  | .unlocking => true | .opening => mayMove d | .open_ => true | .obstructed => true | .reversing => true
  | _ => false

/-- The command of a doorway whose members hold one state (R240, R243, R257): accepted, refused or, under R440, held. -/
def doorCommand (ms : List Nat) (pair : Bool) (c : SeqCmd) (d : Dev) : Dev :=
  let n0 := ms.headD 0
  let q := d.seq n0
  let fin (ok : Bool) (d : Dev) : Dev := endCmd n0 ok d
  if pair && !ligFormed d n0 then fin false d
  else if ms.any fun n => obsBlind d n then fin false (d.each ms fun n d => if obsBlind d n then kfZero n d else d)
  else
    let ready := q.rel && !q.isol
    let open_ (d : Dev) : Dev := d.each ms clearReclose
    match c, q.st with
    | .open_, .closedLocked => if ready then fin true (d.each ms fun n d => toUnlocking n (clearReclose n d)) else fin false d
    | .open_, .locking => if ready then fin true (d.each ms fun n d => toUnlocking n (clearReclose n d)) else fin false d
    | .open_, .closing => if !ready then fin false d else if mayMove d then fin true (toOpening ms (open_ d)) else d
    | .open_, .obstructed => if !ready then fin false d else if mayMove d then fin true (toOpening ms (open_ d)) else d
    | .open_, .reversing => if !q.rel then fin false d else if mayMove d then fin true (toOpening ms (open_ d)) else d
    | .close, .unlocking => fin true (closeDemand ms d)
    | .close, .opening => if mayMove d then fin true (closeDemand ms d) else d
    | .close, .open_ => fin true (closeDemand ms d)
    | .close, .obstructed => fin true (closeDemand ms d)
    | .learn, .unref =>
      if q.rel && ms.all (fun n => (d.fbk n).valid) then (if mayMove d then fin true (startRun ms false d) else d)
      else fin false d
    | .refrun, .unref =>
      if ms.all fun n => (d.fbk n).valid && ktLearned d n then (if mayMove d then fin true (startRun ms true d) else d)
      else fin false d
    | _, _ => fin false d

/-- ACK of a doorway (R243, R257, R258): on each member in service under its own state. -/
def ackDoor (ms : List Nat) (n0 : Nat) (d : Dev) : Dev :=
  let ok := ms.any fun n => ackOk d n
  endCmd n0 ok (d.each ms fun n d' => if ackOk d n then exitRule n d' else d')

/-! Evaluation. -/

/-- The state in which a leaf leaves start-up (R235). -/
def enterRun (n : Nat) (d : Dev) : Dev :=
  let d := d.modSeq n fun q => { q with inited := true }
  let q := d.seq n
  let shut := q.closed && q.locked
  if (d.fbk n).refd && ktLearned d n then
    if shut then toClosed n .closedLocked d else wantMode n mOFF (toObstructed n 7 d)
  else
    let d := toUnref n d
    if d.on (pgLEAF n) LEAF.SEQ_CFG.AUTOREF && ktLearned d n && shut && !obsBlind d n then startRun [n] true d else d

/-- The rows that a member takes alone before all others, in the order of R239: fault, emergency, loss of closed or locked
(R241, R243). A device safe halt is one event: a leaf that isolation takes out of FAULT meets it no more. A leaf that leaves UNREF by one of them does not start up by R235 any more. `none`: no such event. -/
def memberUrgent (n : Nat) (d : Dev) : Option Dev :=
  let q := d.seq n
  let up (d : Dev) : Dev := d.modSeq n fun q => { q with inited := true }
  if q.st == .fault then none
  else if q.fault.isSome || (d.flt.halt && !q.haltSeen) then some (toFault n (up d))
  else if q.emerg && q.st != .emerg then
    let d := setState n .emerg (dropRun n (up d))
    some (wantMode n mOFF ((reqStop n 3 true d).raise (pgLEAF n) Cz.LEAF.EMERGOP 0xFF))
  else if (q.st == .closedLocked || q.st == .isolated) && !(q.closed && q.locked) then some (ownFault n Cz.LEAF.LOCKLOST d)
  else none

/-- A detection's transition (R181, R182, R184, R243, R250): its direction is that of the motion; a reclose is pending where the state
is CLOSING (assumption log 82). In direct motion the state stays: the reversal move follows from it. -/
def doorDetect (ms : List Nat) (src : Nat) (d : Dev) : Dev :=
  let st := (d.seq (ms.headD 0)).st
  let opening := decide (0 < (d.ob src).dir)
  let again := st == .reversing || ms.any fun n => (d.seq n).revRun && !(d.seq n).moveEnded
  let hold := again || d.on (pgOBS src) (if opening then OBS.REACT.REACT_O else OBS.REACT.REACT_C)
  let direct := st == .open_ || st == .obstructed
  let away (d : Dev) : Dev := d.each ms fun n d =>
    (d.modSeq n fun q => { q with revWait := true, revUp := !opening }).incSat (pgLEAF n) LEAF.SEQ_CNT.REVC
  if st == .opening || st == .closing || st == .reversing then
    if hold then d.each ms fun n d => toObstructed n 1 d
    else away (d.each ms fun n d => (setState n .reversing d).modSeq n fun q => { q with reclosePend := st == .closing })
  else
    let d := d.each ms fun n d => d.modSeq n fun q => { q with det := false, go := false, revRun := false }
    if direct && !hold then away d else d

/-- The reversal move once the detection's quick stop has ended (R181); `none` while it runs or the move is held. -/
def reversalMove (ms : List Nat) (d : Dev) : Option Dev :=
  let q := d.seq (ms.headD 0)
  if q.revWait && ms.all (fun n => !stopping d n && (d.prf n).still) && mayMove d then
    let tgt (n : Nat) : Int :=
      let r : Int := d.get (pgOBS n) OBS.FCEIL.REVD * 1000
      if q.revUp then (d.fbk n).p + r else (d.fbk n).p - r
    let d := d.each ms fun n d => d.modSeq n fun q => { q with revWait := false, revRun := true, moveEnded := false }
    some (issueMove ms tgt (if q.revUp then 0 else 1) d)
  else none

/-- Whether every move of a group has ended: of its leader where a ligature is formed (R133, R257). -/
def movesEnded (d : Dev) (ms : List Nat) : Bool :=
  ms.all (fun n => isFollower d n || (d.seq n).moveEnded) && ms.any fun n => (d.seq n).moveEnded

/-- REVERSING of a doorway (R181, R243, R250): the reversal move after the quick stop, then OBSTRUCTED and TRECL. -/
def doorReversing (ms : List Nat) (d : Dev) : Option Dev :=
  if (d.seq (ms.headD 0)).revWait then reversalMove ms d
  else if movesEnded d ms then
    some (d.each ms fun n d =>
      let t := d.tim.mot + msMot (100 * d.get (pgLEAF n) LEAF.SEQ_TIME.TRECL)
      let r := (d.seq n).reclosePend
      (toObstructed n 1 d).modSeq n fun q => { q with trecl := if r then some t else none })
  else none

/-- TRECL has expired (R243, R250): the members reclose together, or not at all (R257). -/
def doorReclose (ms : List Nat) (d : Dev) : Dev :=
  let go := ms.all fun n => (d.seq n).reclosePend && decide ((d.seq n).reclC < d.get (pgLEAF n) LEAF.SEQ_CFG.RECLN)
  d.each ms fun n d =>
    let pend := (d.seq n).reclosePend
    let d := d.modSeq n fun q => { q with trecl := none, treclX := false, reclosePend := false }
    if go then d.modSeq n fun q => { q with reclC := q.reclC + 1, closePend := true, recloseRun := true, warn := none }
    else if pend then (d.incSat (pgLEAF n) LEAF.SEQ_CNT.RECLXC).raise (pgLEAF n) Cz.LEAF.RECLEX 0xFF
    else d

/-- The closing start of a group (R247): the warning over and no closing edge source active. -/
def doorClosing (ms : List Nat) (d : Dev) : Option Dev :=
  if ms.any (fun n => (d.seq n).closePend) && ms.all (fun n => (d.seq n).warn.isNone) && !(ms.any fun n => edgeClosing d n) &&
      mayMove d then
    some (toClosing ms (ms.any fun n => (d.seq n).recloseRun) d)
  else none

/-- Completions, switches and timers of a group in one state (R239 row 8); `both` are the members of its doorway, for which the
completion rule and *locked* must hold (R257). -/
def doorTimers (ms both : List Nat) (d : Dev) : Option Dev :=
  let n0 := ms.headD 0
  let q := d.seq n0
  match q.st with
  | .unlocking =>
    if ms.all fun n => !(d.seq n).locked then
      if mayMove d then
        let d := d.each ms fun n d =>
          let t := msSince d (d.mov_ n).unlkAt
          (d.modMov n fun r => { r with unlkT := t }).put (pgLEAF n) LEAF.SEQ_LKT.UNLKT t
        some (toOpening ms d)
      else none
    else if ms.any fun n => (d.seq n).tunlkX && (d.seq n).locked then
      some (d.each ms fun n d => if (d.seq n).tunlkX && (d.seq n).locked then ownFault n Cz.LEAF.UNLKTO d else d)
    else none
  | .opening =>
    let wait := ms.any fun n => (d.seq n).waitStep
    if wait && stepClear d n0 then (if mayMove d then some (toOpening ms d) else none)
    else if movesEnded d ms && !wait then some (d.each ms fun n d => setState n .open_ d)
    else none
  | .closing =>
    if both.all fun n => closeComplete d n then some (d.each ms fun n d => obsMoveEnd n true (toLocking n d))
    else if movesEnded d ms then some (d.each ms fun n d => (toObstructed n 5 d).raise (pgLEAF n) Cz.LEAF.CLOSENF 0xFF)
    else none
  | .reversing => doorReversing ms d
  | .locking =>
    if both.all fun n => (d.seq n).locked && (d.seq n).closed then some (d.each ms lockedDone)
    else if ms.any fun n => (d.seq n).tlockX then
      some (d.each ms fun n d => if (d.seq n).tlockX then ownFault n Cz.LEAF.LOCKTO d else d)
    else none
  | .isolated => if !q.isol then some (d.each ms fun n d => clearReclose n (setState n .closedLocked d)) else none
  | .obstructed =>
    if q.revWait then reversalMove ms d
    else if ms.any fun n => (d.seq n).treclX then some (doorReclose ms d)
    else doorClosing ms d
  | .open_ => if q.revWait then reversalMove ms d else doorClosing ms d
  | _ => none

/-- The end of a stop path of another source (R243, R258): OBSTRUCTED, held in SERVO, or OFF after a hard stop. -/
def otherStopEnd (n : Nat) (d : Dev) : Dev :=
  let d := toObstructed n (if (d.seq n).partnerStop then 4 else 2) (dropRun n d)
  if (d.drv n).modeReq.getD (d.drv n).mode = mOFF then d else wantMode n mSERVO d

/-- Whether the end of another source's stop path acts in a state (R243); on a partner in LEARN too (R258). -/
def stopEndActs (d : Dev) (n : Nat) : Bool :=
  let q := d.seq n
  q.stopEnded && match q.st with
    | .unlocking => true | .opening => true | .open_ => true | .closing => true | .reversing => true | .obstructed => true
    | .locking => true | .learn => q.partnerStop
    | _ => false

/-- LEARN of a group (R253 to R256): an abort's end at standstill of every member, an abort, or the run's progress. -/
def learnRows (ms : List Nat) (wasClosed wasOpen : Nat → Bool) (d : Dev) : Dev :=
  if ms.any fun n => (d.lrn n).abort then
    if ms.all fun n => !stopping d n && (d.prf n).still then d.each ms fun n d => toUnref n (endRun n d) else d
  else match ms.findSome? fun n => runAbort d n (wasClosed n) (wasOpen n) with
    | some c => d.each ms fun n d => abortRun n c d
    | none => runStep ms d

/-- A close demand from *released* or *isolation* that now acts is taken (R242). -/
def takeDemand (ms : List Nat) (d : Dev) : Dev :=
  closeDemand ms (d.each ms fun n d => d.modSeq n fun q => { q with isoRose := false, relLost := false })

/-- Isolation and a revoked release in the order of R239: ISOLATED where the state has that row, else a close demand. Model's choice:
the row UNREF or FAULT to ISOLATED, and from there to CLOSED_LOCKED, holds without a learned bin too, beside R194 (assumption
log 82). -/
def doorIsolation (ms : List Nat) (d : Dev) : Option Dev :=
  let q := d.seq (ms.headD 0)
  let shut := ms.all fun n => (d.seq n).closed && (d.seq n).locked
  let held := ms.any fun n => bit d.sx.cfgMis n
  if q.isol && (q.st == .closedLocked || ((q.st == .unref || (q.st == .fault && !held)) && shut)) then
    some (d.each ms fun n d => (toClosed n .isolated (if (d.seq n).st == .fault then leaveFault n d else d)).modSeq n fun q =>
      { q with inited := true })
  else if (q.isoRose || q.relLost) && closeRow d (ms.headD 0) then some (takeDemand ms d)
  else none

/-- The rows of R239 after the urgent ones, for a group of leaves in one state: learn run, detection, isolation, release revoked,
completion; with whether a transition was taken. A leaf that its partner's fault stops waits for the end of that stop (R258). -/
def doorRows (ms both : List Nat) (wasClosed wasOpen : Nat → Bool) (d : Dev) : Dev × Bool :=
  let q := d.seq (ms.headD 0)
  if ms.any fun n => (d.seq n).partnerStop && !(d.seq n).stopEnded && stopping d n then (d, false)
  else if q.st == .learn && !(ms.any fun n => stopEndActs d n) then
    let e := learnRows ms wasClosed wasOpen d
    (e, (e.seq (ms.headD 0)).st != .learn)
  else match ms.find? fun n => (d.seq n).det with
    | some s => (doorDetect ms s d, true)
    | none => match doorIsolation ms d with
      | some d => (d, true)
      | none =>
        if ms.any fun n => stopEndActs d n then (d.each ms fun n d => if stopEndActs d n then otherStopEnd n d else d, true)
        else if !q.inited then (if ms.all fun n => (d.fbk n).valid then (d.each ms enterRun, true) else (d, false))
        else match doorTimers ms both d with
          | some d => (d, true)
          | none =>
            if (ms.any fun n => (d.seq n).go) && (q.st == .open_ || q.st == .obstructed) then
              (d.each ms fun n d => wantMode n mSERVO (toObstructed n 3 d), true)
            else (d, false)

/-- UNREF of a leaf out of service or entering STARTING (R116, R235). -/
def resetMember (n : Nat) (d : Dev) : Dev :=
  let st := (d.seq n).st
  let d := if st == .fault || st == .emerg then leaveFault n d else d
  (setState n .unref (dropRun n d)).modSeq n fun q => { q with inited := false, haltSeen := false }

/-- A leaf that is out of service, or starting, takes no transition and accepts no command (R114, R116, R235, R240), but that a fault
event takes a starting leaf to FAULT (R241, R243). -/
def idleMember (n : Nat) (d : Dev) : Dev :=
  let st := d.pgState (pgLEAF n)
  let flt := (d.seq n).fault.isSome || (d.flt.halt && !(d.seq n).haltSeen)
  let d := if (d.seq n).cmd.isSome && dwPage d n == n && !d.on (pgLEAF n) LEAF.SEQ_CFG.DWMODE then endCmd n false d else d
  let d := d.modSeq n fun q => { q with fault := none, det := false, go := false, stopEnded := false, moveEnded := false }
  if st = 3 then d
  else if st = 1 ∧ (d.seq n).st == .fault then d
  else if st = 1 ∧ flt then (toFault n d).modSeq n fun q => { q with inited := true }
  else resetMember n d

/-- Publish `SEQ_STAT` and `SEQ_RSN` of a leaf (R247, R259, R260, R263). -/
def publishSeq (n : Nat) (d : Dev) : Dev :=
  let pg := pgLEAF n
  let q := d.seq n
  let r := d.lrn n
  let p := d.seq (partnerOf n)
  let pair := d.on (pgLEAF (evenOf n)) LEAF.SEQ_CFG.DWMODE
  let dw := if pair && p.st.rank < q.st.rank then p.st else q.st
  let w := msMot (100 * d.get pg LEAF.SEQ_TIME.TWARN)
  let rw := match q.trecl with
    | some t => decide (t ≤ d.tim.mot + w) && w != 0
    | none => false
  let held := directState d n && q.closePend && q.warn.isNone && (edgeClosing d n || (pair && edgeClosing d (partnerOf n)))
  let lk := r.phase
  let d := (((d.put pg LEAF.SEQ_STAT.STATE q.st.code).put pg LEAF.SEQ_STAT.DWST dw.code).putB pg LEAF.SEQ_STAT.TSIDE (sideRight d n)).putB
    pg LEAF.SEQ_STAT.REL q.rel
  let d := ((d.putB pg LEAF.SEQ_STAT.WARN (q.warn.isSome || rw)).putB pg LEAF.SEQ_STAT.BLOCK held).putB pg LEAF.SEQ_STAT.WAITSTEP q.waitStep
  let d := (((d.putB pg LEAF.SEQ_STAT.LOCKED q.locked).putB pg LEAF.SEQ_STAT.CLOSED q.closed).putB pg LEAF.SEQ_STAT.EMIN q.emerg).putB
    pg LEAF.SEQ_STAT.ISOIN q.isol
  let d := ((d.put pg LEAF.SEQ_STAT.SUSP q.susp).put pg LEAF.SEQ_STAT.LPHASE (if q.st == .learn then lk else 0)).putB
    pg LEAF.SEQ_STAT.LKIND (q.st == .learn && r.kind)
  let d := (d.putB pg LEAF.SEQ_STAT.REFUSED q.refused).putB pg LEAF.SEQ_STAT.LKOUT (bit (d.dy (n / 4)).lkCmd (n % 4))
  (d.put pg LEAF.SEQ_STAT.RECLC (min 7 q.reclC)).put pg LEAF.SEQ_RSN.RSN q.reason

/-- What every state keeps in force after the evaluation: the drive mode of FAULT and EMERG, of the states commanded off and of those
that press closed (R231; a calibration and a holding test end first), the lock command, the published status. -/
def seqAfter (n : Nat) (d : Dev) : Dev :=
  let q := d.seq n
  let d := if d.pgState (pgLEAF n) ≠ 2 then d
    else if q.st == .fault || q.st == .emerg then settleOff n d
    else if (d.drv n).cal.on || (nth d.sy.hold n {}).on then d
    else match q.st with
      | .unref => wantMode n (restMode d n) d
      | .closedLocked => wantMode n (restMode d n) d
      | .isolated => wantMode n (restMode d n) d
      | .unlocking => pressClosed n d
      | .locking => pressClosed n d
      | .learn => if ((d.lrn n).phase ≤ 1 || (d.lrn n).refWait) && !(d.lrn n).abort then pressClosed n d else d
      | _ => d
  publishSeq n (sendLock n d)

/-- The urgent rows of the members in service: what results, and the members that took none (R239). A fault event in FAULT changes
nothing (R243). -/
def seqUrgent (run : List Nat) (d : Dev) : Dev × List Nat :=
  let d := d.each run fun n d => if (d.seq n).st == .fault then d.modSeq n fun q => { q with fault := none } else d
  run.foldl (fun acc n => match memberUrgent n acc.1 with
    | some d => (d, acc.2)
    | none => (acc.1, acc.2 ++ [n])) (d, [])

/-- The sequencer stage of a doorway at a servo boundary (R230, R239, R240, R257). The members act as one while both are in service
and hold one state; else each takes its own transitions and only ACK is accepted. -/
def seqDoor (ns : List Nat) (pair : Bool) (d : Dev) : Dev :=
  let was (l : List Bool) (n : Nat) : Bool := nth l (ns.idxOf n) false
  let oldC := was (ns.map fun n => (d.seq n).closed)
  let oldO := was (ns.map fun n => (d.seq n).openSw)
  let d := d.each ns fun n d => stallCount n (readSignals n d)
  let run := ns.filter fun n => d.pgState (pgLEAF n) == 2
  let d := d.each (ns.filter fun n => d.pgState (pgLEAF n) != 2) idleMember
  let (d, rest) := seqUrgent run d
  let n0 := ns.headD 0
  let one := rest == ns && ns.all fun n => (d.seq n).st == (d.seq n0).st && (d.seq n).inited
  let groups := if one then [ns] else rest.map fun n => [n]
  let (d, took) := groups.foldl (fun acc ms =>
    let r := doorRows ms ns oldC oldO acc.1
    (r.1, acc.2 || r.2)) (d, rest.length != run.length)
  let d := if took then d
    else match (d.seq n0).cmd with
      | some .ack => ackDoor run n0 d
      | some c => if one then doorCommand ns pair c d else endCmd n0 false d
      | none => d
  d.each ns seqAfter

/-- The sequencer stage of all doorways. -/
def seqServo (d : Dev) : Dev :=
  d.each [0, 1, 2, 3] fun k d =>
    let e := 2 * k
    if !d.part.hasLeaf e then d
    else if d.on (pgLEAF e) LEAF.SEQ_CFG.DWMODE then seqDoor [e, e + 1] true d
    else seqDoor [e + 1] false (seqDoor [e] false d)

/-! Commands from outside. -/

/-- CLRSUSP (R238): marks clear on switches without a transition for 1 s. -/
def clrSusp (n : Nat) (d : Dev) : Dev :=
  let r := d.lrn n
  let quiet (h : List Nat) : Bool := match h with
    | [] => true
    | t :: _ => decide (t + msMot 1000 ≤ d.tim.mot)
  let s := (d.seq n).susp
  let s := if quiet r.histC then setBit s 0 false else s
  let s := if quiet r.histO then setBit s 1 false else s
  let s := if quiet r.histL then setBit s 2 false else s
  d.modSeq n fun q => { q with susp := s }

/-- Latch a command (R240, R257). -/
def latchCmd (n : Nat) (c : SeqCmd) (d : Dev) : Dev :=
  if leafOut d n || dwPage d n != n then d.modSeq n fun q => { q with refused := true }
  else d.modSeq n fun q => { q with cmd := some c }

/-- A write to `SEQ_CMD` (R238, R240). -/
def seqCmd (n v : Nat) (d : Dev) : Dev :=
  let d := if bit v 5 then clrSusp n d else d
  if bit v 1 then latchCmd n .close d
  else if bit v 4 then latchCmd n .ack d
  else if bit v 3 then latchCmd n .refrun d
  else if bit v 2 then latchCmd n .learn d
  else if bit v 0 then latchCmd n .open_ d
  else d

/-- Whether a deadline has come. -/
def due (d : Dev) (t : Option Nat) : Bool := match t with
  | some t => decide (t ≤ d.tim.mot)
  | none => false

/-- TUNLK expires (R243). -/
def tunlkExpiry (n : Nat) (d : Dev) : Dev :=
  if due d (d.seq n).tunlk then d.modSeq n fun q => { q with tunlkX := true } else d

/-- TLOCK expires (R243). -/
def tlockExpiry (n : Nat) (d : Dev) : Dev :=
  if due d (d.seq n).tlock then d.modSeq n fun q => { q with tlockX := true } else d

/-- The warning ends (R248). -/
def twarnEnd (n : Nat) (d : Dev) : Dev :=
  if due d (d.seq n).warn then d.modSeq n fun q => { q with warn := none } else d

/-- TRECL expires (R243). -/
def treclExpiry (n : Nat) (d : Dev) : Dev :=
  if due d (d.seq n).trecl then d.modSeq n fun q => { q with treclX := true } else d

/-- The 200 ms press of a reference run ends (R255). -/
def referencePressEnd (n : Nat) (d : Dev) : Dev :=
  if due d (d.lrn n).press then d.modLrn n fun r => { r with pressX := true } else d

/-- Chatter of a leaf's switch `i`: 0 closed, 1 open end, 2 lock (R237). -/
def leafChatter (n i : Nat) (d : Dev) : Dev :=
  let r := d.lrn n
  let h := if i = 0 then r.histC else if i = 1 then r.histO else r.histL
  if d.part.hasLeaf n && chatters d.tim.mot h then
    if (d.seq n).st == .learn then d.modLrn n fun r => { r with chat := true }
    else if bit (d.seq n).susp i then d
    else
      (d.modSeq n fun q => { q with susp := setBit q.susp i true }).raise (pgLEAF n) Cz.LEAF.CHATTER 0xFF
  else d

/-- The page of a leaf enters STARTING (R156, R235). -/
def leafStarting (n : Nat) (d : Dev) : Dev :=
  sendLock n (resetMember n (idleMember n (prfClear n ((drvStarting n d).modOb n fun o => { o with dir := 1 }))))

end Sys2Proof.Machine
end

