-- ==== Sys2Proof/Machine/StepAxis.lean ====
section
/-! DEFINITION. The step and gap-filler axes: windings and faces (R264 to R275), STEP/DIR input (R276 to R278), profiles,
stops and switches (R279 to R281), states and commands (R282 to R289), readings (R290 to R292). Axis `8 + k` is step k. -/

namespace Sys2Proof.Machine

/-! Positions. -/

/-- Microsteps per revolution of POSKk: FSPR × 256. -/
def perRev (d : Dev) (k : Nat) : Int := (d.get (pgPOS (8 + k)) POSK.STEPFB.FSPR * 256 : Nat)

/-- TRAVEL of POSKk in µm × 65,536. -/
def travelQ (d : Dev) (k : Nat) : Int := max 1 (d.get (pgPOS (8 + k)) POS.TRAVEL.TRAVEL)

/-- The commanded count of a set-point position in µm × 65,536: Mref + round(p × FSPR × 256 / TRAVEL) (R270). -/
def mTarget (d : Dev) (k : Nat) (p : Int) : Int :=
  let t := travelQ d k
  (d.stp k).mRef + (2 * p * perRev d k + t) / (2 * t)

/-- The position of a commanded count in µm × 65,536. -/
def mPos (d : Dev) (k : Nat) (m : Int) : Int := Num.quo 60 ((m - (d.stp k).mRef) * travelQ d k) (perRev d k)

/-! Switches (R281). -/

/-- Level of the retracted (`false`) or extended switch under `SW`. -/
def stepLevel (d : Dev) (k : Nat) (ext : Bool) : Bool :=
  if ext then inputPol d (d.get (pgSTEP k) STEP.SW.EXTSW) (d.on (pgSTEP k) STEP.SW.EXTPOL)
  else inputPol d (d.get (pgSTEP k) STEP.SW.RETSW) (d.on (pgSTEP k) STEP.SW.RETPOL)

/-- The switch as the step reads it: a suspect switch reads inactive. -/
def stepSwitch (d : Dev) (k : Nat) (ext : Bool) : Bool := stepLevel d k ext && !bit (d.stp k).susp (b2n ext)

/-- Whether the extended switch is mapped to an input. -/
def extMapped (d : Dev) (k : Nat) : Bool := !selNone (d.get (pgSTEP k) STEP.SW.EXTSW)

/-- Switch transitions in a PWM period (R237). -/
def stepSwitchPwm (k : Nat) (d : Dev) : Dev :=
  let r := stepLevel d k false
  let e := stepLevel d k true
  let now := d.tim.mot
  d.modStp k fun s =>
    { s with pR := r, pE := e
             histR := if r != s.pR then (now :: s.histR).take 4 else s.histR
             histE := if e != s.pE then (now :: s.histE).take 4 else s.histE }

/-- Chatter of a switch of a step (R237, R281). -/
def stepChatter (k : Nat) (ext : Bool) (d : Dev) : Dev :=
  let s := d.stp k
  let i := b2n ext
  if d.part.hasStepAxis k && chatters d.tim.mot (if ext then s.histE else s.histR) && !bit s.susp i then
    (d.modStp k fun s => { s with susp := setBit s.susp i true }).raise (pgSTEP k) Cz.STEP.SCHAT 0xFF
  else d

/-- CLRSUSP (R238, R281): marks clear on switches without a transition for 1 s. -/
def stepClrSusp (k : Nat) (d : Dev) : Dev :=
  let s := d.stp k
  let quiet (h : List Nat) : Bool := match h with
    | [] => true
    | t :: _ => decide (t + msMot 1000 ≤ d.tim.mot)
  let x := if quiet s.histR then setBit s.susp 0 false else s.susp
  let x := if quiet s.histE then setBit x 1 false else x
  d.modStp k fun s => { s with susp := x }

/-! Windings (R267 to R275). -/

/-- Whether the windings of a step are energised. -/
def energised (d : Dev) (k : Nat) : Bool := (d.drv (8 + k)).mode == mCURRENT

/-- Energise the windings, with the amplitude at IRUN. -/
def energise (k : Nat) (d : Dev) : Dev :=
  let irun := d.get (pgSTEP k) STEP.CUR.IRUN
  if energised d k then d
  else (setMode (8 + k) mCURRENT d).modWin k fun w =>
    { w with xa := 0, xb := 0, amp := irun, hold := none, ramp := none, holdEnd := false, openA := 0, openB := 0
             run := false, keepRun := false }

/-- The gates of a step go off and its motion ends. -/
def stepOff (k : Nat) (d : Dev) : Dev :=
  let d := (gatesOff (8 + k) d).putB (pgSTEP k) STEP.DRV_STAT.BEN false
  let p := mPos d k (d.stp k).m
  (d.modStp k fun s => { s with plan := none, stopPlan := none, stopKind := 0, stopReq := 0, freeze := false, mt0 := s.m
                                mt1 := s.m, sp := { p := p } }).modWin k fun w =>
    { w with chopA := 0, chopB := 0, tripA := none, tripB := none, run := false, keepRun := false }

/-- Set-point speed in full steps/s × 65,536 (R272). -/
def fsrQ (d : Dev) (k : Nat) : Int :=
  Num.quo 61 ((d.stp k).sp.v * 65536 * d.get (pgPOS (8 + k)) POSK.STEPFB.FSPR) (travelQ d k)

/-- The current references of both windings in mA × 2³⁰ (R269). -/
def irefs (d : Dev) (k : Nat) : Int × Int :=
  let t := uns 32 ((d.stp k).m % 1024 * 4194304)
  let i : Int := (d.win k).amp
  (i * cosTurn t, i * sinTurn t)

/-- The current of a winding in mA (R267). -/
def windMa (d : Dev) (k : Nat) (b : Bool) : Int :=
  let pg := pgSTEP k
  let s := nth (d.di (k / 2)).samp.step (k % 2) {}
  phaseMa (gainOf (d.get pg STEP.STP_CFG.GAIN)) (d.get pg STEP.SHUNT.RSH) (if b then s.b else s.a)
    (if b then d.geti pg STEP.OFS_AB.OFSB else d.geti pg STEP.OFS_AB.OFSA)

/-- Whether the sample of a winding at the valley that ends the present period is valid: both of its low sides on for t_SET before
it (R267), by the compare values or the chopper of that period. -/
def windValid (d : Dev) (k : Nat) (b : Bool) : Bool :=
  let x := d.drv (8 + k)
  let dt := d.get (pgSTEP k) STEP.TIMING.DEADT
  (d.di (k / 2)).fresh && energised d k && (d.win k).run && !x.cut &&
    if (d.win k).bold then chopValid d k b
    else if b then sampleValid dt x.cmp.w && sampleValid dt x.cmp.x else sampleValid dt x.cmp.u && sampleValid dt x.cmp.v

/-- The correction of one winding in 1/65,536 µV (R272): not in the direction of a clamp, within ±IRUN × rph / 4. -/
def corrOf (d : Dev) (k : Nat) (x iF i v0 vlim : Int) : Int :=
  let pg := pgSTEP k
  let rph : Int := d.get pg STEP.MOTOR.PHRES
  let upd := Num.quo 62 ((d.get pg STEP.KE.LCG : Int) * (iF - i * 1073741824) * rph) 67108864
  let lim : Int := d.get pg STEP.CUR.IRUN * 16384 * rph
  if (decide (v0 > vlim) && decide (upd > 0)) || (decide (v0 < -vlim) && decide (upd < 0)) then x
  else clampI (-lim) lim (x + upd)

/-- Light face in one PWM period (R272): the winding voltages, corrections and compare values. `okA` and `okB`: the samples of this
valley are valid. -/
def lightFace (k : Nat) (okA okB : Bool) (d : Dev) : Dev :=
  let pg := pgSTEP k
  let (ia, ib) := irefs d k
  let t := uns 32 ((d.stp k).m % 1024 * 4194304)
  let fs := fsrQ d k
  let rph : Int := d.get pg STEP.MOTOR.PHRES
  let lph : Int := d.get pg STEP.MOTOR.PHIND
  let ke : Int := d.get pg STEP.KE.KE
  -- ω_e = π/2 × fs; mΩ × mA = µV, rad/s × µH × mA = nV
  let den : Int := 1073741824 * 1000000000000000000
  let w := d.win k
  let va0 := Num.quo 63 (ia * rph * 65536 * 1000000000000000000 - fs * 1570796326794897 * lph * ib -
    ke * fs * sinTurn t * 1000000000000000000) den + w.xa
  let vb0 := Num.quo 64 (ib * rph * 65536 * 1000000000000000000 + fs * 1570796326794897 * lph * ia +
    ke * fs * cosTurn t * 1000000000000000000) den + w.xb
  let dt := d.get pg STEP.TIMING.DEADT
  let vbr : Int := (d.di (k / 2)).samp.vbr * 655360000
  let lim := Num.quo 65 ((2000 - (cmpMin dt : Int)) * vbr) 2000
  let va := clampI (-lim) lim va0
  let vb := clampI (-lim) lim vb0
  let xa := if okA then corrOf d k w.xa ia (windMa d k false) va0 lim else w.xa
  let xb := if okB then corrOf d k w.xb ib (windMa d k true) vb0 lim else w.xb
  let c : Tri := { u := cmpOf va (2 * vbr), v := cmpOf (-va) (2 * vbr), w := cmpOf vb (2 * vbr), x := cmpOf (-vb) (2 * vbr) }
  (d.modWin k fun w => { w with xa := xa, xb := xb, chopA := 0, chopB := 0 }).modDrv (8 + k) fun x =>
    { x with cmpNext := if x.residue then x.cmpNext else c }

/-- The comparator reference of a winding in I_FS / 256, with the sign of the drive diagonal (R273). -/
def chopOf (d : Dev) (k : Nat) (iF : Int) : Int :=
  let pg := pgSTEP k
  let n := absI iF * 256 * (gainOf (d.get pg STEP.STP_CFG.GAIN) * d.get pg STEP.SHUNT.RSH : Nat) /
    (1250000000 * 1073741824)
  if iF < 0 then -n else n

/-- When a comparator trips in a period: where the current reaches the reference, not before the end of BLANK (R273). -/
def chopTrip (d : Dev) (k reach : Nat) : Option Nat :=
  let t := max reach (25 * d.get (pgSTEP k) STEP.CHOP.BLANK)
  if t < 8000 then some t else none

/-- Bold face in the PWM period that begins (R273): the references that the field die's comparators take, the counts at which the
currents reach them, and the gates that were on before. Model's choice: the first light-face period after bold face has the compare
values of zero voltage (assumption log 73). -/
def boldFace (k reachA reachB endA endB : Nat) (d : Dev) : Dev :=
  let (ia, ib) := irefs d k
  (d.modWin k fun w =>
    { w with chopA := chopOf d k ia, chopB := chopOf d k ib, tripA := chopTrip d k reachA, tripB := chopTrip d k reachB
             endA := endA, endB := endB }).modDrv (8 + k) fun x =>
    { x with cmpNext := { u := 2000, v := 2000, w := 2000, x := 2000 } }

/-- The count of open-winding periods of one winding (R275). -/
def openCount (d : Dev) (k : Nat) (b : Bool) (iF : Int) (n : Nat) : Nat :=
  let i := windMa d k b
  if windValid d k b && !(d.win k).bold && decide (2 * absI iF ≥ (d.get (pgSTEP k) STEP.CUR.IHOLD : Int) * 1073741824) then
    (if 4 * absI i * 1073741824 < absI iF then n + 1 else 0)
  else n

/-- Phase-voltage check of a step in light face (R103, R266). -/
def stepVphBad (d : Dev) (k : Nat) : Bool :=
  let s := nth (d.di (k / 2)).samp.step (k % 2) {}
  let vbr := (d.di (k / 2)).samp.vbr
  let c := (d.drv (8 + k)).cmp
  let dt := d.get (pgSTEP k) STEP.TIMING.DEADT
  let tol : Int := Config.stepVphTol k
  let a := windMa d k false
  let b := windMa d k true
  decide (absI (s.vph.u - expectVph vbr c.u dt a) > tol) || decide (absI (s.vph.v - expectVph vbr c.v dt (-a)) > tol) ||
  decide (absI (s.vph.w - expectVph vbr c.w dt b) > tol) || decide (absI (s.vph.x - expectVph vbr c.x dt (-b)) > tol)

/-- Microsteps toward T in one PWM period of the STEP/DIR input (R277), with the lag event. The amplitude returns to IRUN at the valley
before the first microstep (R271). -/
def externalStep (k : Nat) (d : Dev) : Dev :=
  let pg := pgSTEP k
  let w := d.win k
  let s := d.stp k
  let mul : Int := d.get pg STEP.SDIR.SDMUL
  let t := w.sdBase + w.sdCnt * mul
  let dd := t - s.m
  let gap := w.sdGap.getD (d.get pg STEP.SDIR.SDTO * 1000000)
  let r := (mul * 32000 + (gap : Int) - 1) / (max 1 gap : Nat)
  let wake := decide (dd ≠ 0) && (w.ramp.isSome || decide (w.amp < d.get pg STEP.CUR.IRUN))
  let n := if wake then 0 else minI (minI (absI dd) (maxI r (absI dd - mul))) 64
  let d := if wake then
      (d.modWin k fun w => { w with amp := d.get pg STEP.CUR.IRUN, hold := none, ramp := none, holdEnd := false }).putB
        pg STEP.DRV_STAT.HOLDI false
    else d
  let m := if dd < 0 then s.m - n else s.m + n
  let lag := decide (absI (t - m) > 4 * mul)
  let d := d.modStp k fun s => { s with m := m, mt0 := m, mt1 := m, mMoved := if m = s.m then s.mMoved else d.tim.mot }
  (d.evIf (lag && !w.lagging) pg Ev.STEP.SDLAG).modWin k fun w => { w with lagging := lag }

/-- The commanded count at an axis valley (R270): linear over the eight PWM periods, at most 64 microsteps. -/
def advanceM (k : Nat) (d : Dev) : Dev :=
  let s := d.stp k
  if s.freeze then d.modStp k fun s => { s with mt0 := s.m, mt1 := s.m }
  else if s.st == .external && s.stopPlan.isNone then externalStep k d
  else
    let i := min 8 (s.idx + 1)
    let tgt := Num.quo 66 (s.mt0 * (8 - i) + s.mt1 * i) 8
    let m := s.m + clampI (-64) 64 (tgt - s.m)
    d.modStp k fun s => { s with m := m, idx := i, mMoved := if m = s.m then s.mMoved else d.tim.mot }

/-- The registers of one engine computation. -/
def publishWind (k : Nat) (d : Dev) : Dev :=
  let pg := pgSTEP k
  let (ia, ib) := irefs d k
  let en := energised d k
  let d := if (d.di (k / 2)).fresh then (d.puti pg STEP.I_AB.IA (windMa d k false)).puti pg STEP.I_AB.IB (windMa d k true) else d
  (d.puti pg STEP.IREF_AB.IAREF (if en then Num.quo 67 ia 1073741824 else 0)).puti pg STEP.IREF_AB.IBREF
    (if en then Num.quo 68 ib 1073741824 else 0)

/-- A step axis in a PWM period: checks of the ended period, microsteps, amplitude, face and compare values. The samples of this valley
are judged by the gates of the period that ends (R267). Model's choices: a stale period neither adds to nor breaks the run of R103,
which is judged in light face alone (assumption logs 16 and 70). -/
def pwmStep (chop k : Nat) (d : Dev) : Dev :=
  let a := 8 + k
  let d := takeAges a (stepSwitchPwm k d)
  let st := d.pgState (pgSTEP k)
  if st = 0 ∨ st = 3 then calStep a (valleyDrive a (d.drv a).cmpNext d)
  else
    let fresh := (d.di (k / 2)).fresh
    let d := if energised d k && !fresh then (d.incSat (pgSTEP k) STEP.DIAG.STALE).ev (pgSTEP k) Ev.STEP.SAMPLE else d
    let d := if energised d k then
        let (ia, ib) := irefs d k
        let na := openCount d k false ia (d.win k).openA
        let nb := openCount d k true ib (d.win k).openB
        let d := d.modWin k fun w => { w with openA := na, openB := nb }
        if !fresh then d
        else
          let bad := (d.win k).run && !(d.win k).bold && stepVphBad d k
          d.modDrv a fun x => { x with nVph := if bad then x.nVph + 1 else 0 }
      else d
    let okA := windValid d k false
    let okB := windValid d k true
    let endA := endGates d k false
    let endB := endGates d k true
    let d := valleyDrive a (d.drv a).cmpNext (d.modWin k fun w => { w with bold := w.boldNext, run := energised d k })
    let reach (b : Nat) : Nat := (chop >>> (26 * k + 13 * b)) % 8192
    let d := if energised d k then
        let d := advanceM k d
        if (d.win k).bold then boldFace k (reach 0) (reach 1) endA endB d else lightFace k okA okB d
      else d
    publishWind k (calStep a d)

/-- A winding found open for 64 periods (R275). -/
def openWinding (k : Nat) (b : Bool) (d : Dev) : Dev :=
  let n := if b then (d.win k).openB else (d.win k).openA
  if d.part.hasStepAxis k && decide (64 ≤ n) then
    let d := d.modWin k fun w => { w with openA := 0, openB := 0 }
    stepFault k (pgSTEP k) Cz.STEP.OPENW 0xFF (d.ev (pgSTEP k) Ev.STEP.OPENW)
  else d

/-- The face of the next servo period (R274). -/
def faceServo (k : Nat) (d : Dev) : Dev :=
  let pg := pgSTEP k
  let fm := d.get pg STEP.STP_CFG.FACEM
  let up := d.get pg STEP.FACE.FACEUP
  let dn0 := d.get pg STEP.FACE.FACEDN
  let fs := absI (fsrQ d k)
  let cur := (d.win k).boldNext
  let dn4 := if dn0 < up then dn0 * 4 else up * 3
  let nxt := if fm = 1 then false else if fm = 2 then true
    else if cur then !decide (4 * fs ≤ (dn4 : Int) * 65536) else decide (fs ≥ (up : Int) * 65536)
  if nxt == cur then d
  else
    let d := ((d.ev pg Ev.STEP.FACE).incSat pg STEP.DIAG.FACEC).putB pg STEP.DRV_STAT.FACE nxt
    d.modWin k fun w => { w with boldNext := nxt }

/-- The amplitude of the next servo period (R271); a hard stop keeps it at IRUN (R280). -/
def ampServo (k : Nat) (d : Dev) : Dev :=
  let pg := pgSTEP k
  let irun := d.get pg STEP.CUR.IRUN
  let ihold := d.get pg STEP.CUR.IHOLD
  let w := d.win k
  let w :=
    if (d.stp k).sp.v ≠ 0 ∨ (d.stp k).plan.isSome ∨ w.keepRun then { w with amp := irun, hold := none, ramp := none, holdEnd := false }
    else match w.ramp with
      | some n =>
        let n := min 16 (n + 1)
        { w with ramp := some n, amp := (Num.quo 69 ((irun : Int) * (16 - n) + (ihold : Int) * n) 16).toNat }
      | none =>
        if w.holdEnd then { w with ramp := some 0, amp := irun, holdEnd := false }
        else match w.hold with
          | some _ => { w with amp := irun }
          | none => { w with amp := irun, hold := some (d.tim.mot + msMot (10 * d.get pg STEP.CHOP.THOLD)) }
  (d.modWin k fun _ => w).putB pg STEP.DRV_STAT.HOLDI (energised d k && decide (w.amp < irun))

/-- THOLD ends (R271): the amplitude falls from the first servo boundary after it. -/
def holdDelayEnd (k : Nat) (d : Dev) : Dev :=
  if d.part.hasStepAxis k && due d (d.win k).hold && (d.win k).ramp.isNone then d.modWin k fun w => { w with holdEnd := true } else d

/-! STEP/DIR input (R276 to R278). -/

/-- An edge of STEP, rising or falling, of which `SDPOL` selects the active one: `dir` the level of DIR, `gapNs` the time since the
previous active edge, `widthNs` the length of the pulse. A pulse between the accepted and the rejected length, and an edge closer
than 4.0 µs, may be lost (assumption log 4). -/
def stepInputEdge (k : Nat) (rise dir : Bool) (gapNs widthNs : Nat) (d : Dev) : Dev :=
  let pg := pgSTEP k
  if !(d.part.hasStepAxis k && d.on pg STEP.STP_CFG.SRC && rise != d.on pg STEP.STP_CFG.SDPOL) then d
  else if widthNs ≤ 500 then d.ev pg Ev.STEP.SDGLT
  else
    let short := decide (widthNs < 1000)
    let rate := decide (gapNs < 4000)
    let lost := (short || rate) && d.fresh 1 % 2 == 1
    let d := if short || rate then d.drew else d
    let d := d.evIf rate pg Ev.STEP.SDRATE
    if lost then d.evIf short pg Ev.STEP.SDGLT
    else
      let up := dir != d.on pg STEP.STP_CFG.DIRPOL
      let i : Int := if up then 1 else -1
      let mul : Int := d.get pg STEP.SDIR.SDMUL
      let w := d.win k
      let t := mPos d k (w.sdBase + (w.sdCnt + i) * mul)
      let rel := sideReleased d (d.on pg STEP.STP_CFG.CARSIDE != d.sy.ori)
      let bad := if up then !rel || decide (t > (d.get pg STEP.EXTP.EXTP : Int) * 65536)
        else decide (t < d.geti pg STEP.RETTGT.RETTGT * 65536)
      if bad then d.ev pg Ev.STEP.SDREJ
      else
        let first := w.sdDir != i || decide (gapNs > d.get pg STEP.SDIR.SDTO * 1000000)
        d.modWin k fun w => { w with sdCnt := sgn 32 (uns 32 (w.sdCnt + i)), sdDir := i, sdGap := if first then none else some gapNs }

/-! Profiles and stops (R279, R280). -/

/-- The highest speed of a step move in µm/s: 64 × TRAVEL / (FSPR × 256 × 32 µs) (R270). -/
def stepCap (d : Dev) (k : Nat) : Nat := (64 * 31250 * travelQ d k / (65536 * perRev d k)).toNat

/-- The limits of extending moves. -/
def extLimits (d : Dev) (k : Nat) : Limits :=
  let pg := pgSTEP k
  { v := min (d.get pg STEP.EXT_V.VMAX) (stepCap d k), a := d.get pg STEP.EXT_A.AMAX * 1000
    d := d.get pg STEP.EXT_A.DMAX * 1000, j := d.get pg STEP.EXT_J.JMAX * 1000 }

/-- The limits of retracting moves, with HOMEV in HOMING (R279). -/
def retLimits (d : Dev) (k : Nat) (home : Bool) : Limits :=
  let pg := pgSTEP k
  let v := if home then d.get pg STEP.HOME.HOMEV * 1000 else d.get pg STEP.RET_V.VMAX
  { v := min v (stepCap d k), a := d.get pg STEP.RET_A.AMAX * 1000
    d := d.get pg STEP.RET_A.DMAX * 1000, j := d.get pg STEP.RET_J.JMAX * 1000 }

/-- The target of a homing move in µm: RETTGT − HOMEMAX. -/
def homeTarget (d : Dev) (k : Nat) : Int :=
  d.geti (pgSTEP k) STEP.RETTGT.RETTGT - (d.get (pgSTEP k) STEP.HOME.HOMEMAX : Int) * 1000

/-- A move of a step to `tgt` µm from its set-point state; the windings run at IRUN from the next valley. -/
def stepMove (k : Nat) (tgt : Int) (set : Nat) (d : Dev) : Dev :=
  let s := d.stp k
  let lo := extLimits d k
  let lc := retLimits d k (set == 2)
  let old := if dirOf s.sp > 0 then lo else lc
  let pl := makePlan s.sp tgt set lo lc old
  let irun := d.get (pgSTEP k) STEP.CUR.IRUN
  (d.modStp k fun s => { s with plan := some pl, stopPlan := none, stopKind := 0, stopReq := 0, freeze := false }).modWin k fun w =>
    { w with amp := irun, hold := none, ramp := none, holdEnd := false, keepRun := false }

/-- Whether a stop uses the retraction set: the set of the move that it stops, or of the stop path that it replaces; without either,
by the direction of motion (R149, R280). -/
def stopSetRet (d : Dev) (k : Nat) : Bool :=
  let s := d.stp k
  match s.plan with
  | some p => p.set != 0
  | none => if s.stopKind ≠ 0 then s.stopRet else decide (dirOf s.sp < 0)

/-- Deceleration in µm/s² and jerk in µm/s³ of a stop path (R280): STOPD or QSTD, the latter not below STOPD (R145), with
the jerk limit of the set in force. -/
def stepStopLimits (d : Dev) (k kind : Nat) : Nat × Nat :=
  let pg := pgSTEP k
  let s := d.get pg STEP.STOPR.STOPD
  let q := d.get pg STEP.STOPR.QSTD
  let dec := if kind = 2 then max s q else s
  (dec * 1000, (if stopSetRet d k then d.get pg STEP.RET_J.JMAX else d.get pg STEP.EXT_J.JMAX) * 1000)

/-- Begin a stop path, or replace a gentler one (R149, R280); a hard stop freezes M at the next valley. -/
def stepStop (k kind : Nat) (e : StepEnd) (d : Dev) : Dev :=
  let s := d.stp k
  let e := if s.stopKind ≠ 0 ∧ (s.stopEnd != .stopped) ∧ e == .stopped then s.stopEnd else e
  let ret := stopSetRet d k
  let d := d.modStp k fun s => { s with stopEnd := e, stopRet := ret }
  if kind ≤ s.stopKind then d
  else if kind = 3 then
    (d.modStp k fun s => { s with stopKind := 3, plan := none, stopPlan := some { start := { p := s.sp.p } }, freeze := true
                                  sp := { p := s.sp.p } }).modWin k fun w => { w with keepRun := true }
  else
    let (dec, j) := stepStopLimits d k kind
    d.modStp k fun s => { s with stopKind := kind, plan := none, stopPlan := some (makeStop s.sp dec j) }

/-- The set-point of a servo boundary (R279, R280): a plan advances or is replanned when its limits changed (R132), a stop
path advances; in EXTERNAL the set-point follows M. Answers whether the move ended. -/
def stepSetPoint (k : Nat) (d : Dev) : Dev × Bool :=
  let s := d.stp k
  match s.stopPlan, s.plan with
  | some p, _ =>
    let q := p.tick
    let sp := if s.freeze then { p := mPos d k s.m } else q.stopAt.1
    (d.modStp k fun s => { s with stopPlan := some q, sp := sp }, false)
  | none, some p =>
    let lo := extLimits d k
    let lc := retLimits d k (p.set == 2)
    let q := p.tick
    let q := if lo == p.limO && lc == p.limC then q
      else makePlan q.at_.1 p.target p.set lo lc (if dirOf q.at_.1 > 0 then lo else lc)
    let fin := decide (q.len ≤ q.elapsed)
    (d.modStp k fun s => { s with plan := if fin then none else some q, sp := q.at_.1 }, fin)
  | none, none =>
    if s.st == .external then
      let v := Num.quo 70 ((s.m - (d.win k).mServo) * travelQ d k * 62500) (perRev d k * 16)
      let p := mPos d k s.m
      ((d.modStp k fun s => { s with sp := { p := p, v := v } }).modWin k fun w => { w with mServo := s.m }, false)
    else (d, false)

/-- The next M_t (R270). -/
def nextM (k : Nat) (d : Dev) : Dev :=
  let s := d.stp k
  if s.freeze || (s.st == .external && s.stopPlan.isNone) then d.modStp k fun s => { s with mt0 := s.m, mt1 := s.m, idx := 0 }
  else
    let t := mTarget d k s.sp.p
    d.modStp k fun s => { s with mt0 := s.mt1, mt1 := t, idx := 0 }

/-! References and states (R282 to R289). -/

/-- A step state's code (R282). -/
def StepState.code : StepState → Nat
  | .unref => 0 | .homing => 1 | .retracted => 2 | .extending => 3 | .extended => 4 | .retracting => 5 | .stopped => 6
  | .inhibited => 7 | .external => 8 | .fault => 9

/-- Enter a state: event STCHG; a demand that the state has no row for ends. -/
def stepState (k : Nat) (st : StepState) (d : Dev) : Dev :=
  if (d.stp k).st == st then d
  else
    let keep := st == .extending || st == .extended || st == .stopped
    let d := d.modStp k fun s => { s with st := st, pend := s.pend && keep, inhReq := s.inhReq && keep }
    d.ev (pgSTEP k) Ev.STEP.STCHG

/-- Set the reference so that count `m0` reads position 0 (R286). -/
def stepReference (k : Nat) (m0 : Int) (d : Dev) : Dev :=
  let a := 8 + k
  let d := d.modStp k fun s => { s with mRef := m0 }
  let p := mPos d k (d.stp k).m
  let d := d.modStp k fun s => { s with sp := { p := p } }
  let d := if srcUse d a = 3 then d.modPs a fun x => { x with ref := m0, fbOfs := 0 } else setReference a (p / 65536) d
  ((d.modFb a fun f => { f with refd := true }).put (pgPOS a) POS.REFOFS.REFOFS (uns 32 (d.ps a).ref)).ev (pgPOS a) Ev.POS.REFSET

/-- The reference of a step is cleared. -/
def stepUnreference (k : Nat) (d : Dev) : Dev := d.modFb (8 + k) fun f => { f with refd := false }

/-- Enter UNREF with the windings off. -/
def stepUnref (k : Nat) (d : Dev) : Dev :=
  stepState k .unref (stepOff k (stepUnreference k (d.modStp k fun s => { s with inhPend := false })))

/-- Enter FAULT with the gates off. -/
def stepToFault (k : Nat) (d : Dev) : Dev :=
  stepState k .fault (stepOff k (d.modStp k fun s => { s with fault := false, faultQ := false, inhPend := false }))

/-- A step of its own FAULT row: entry, condition, FAULT. -/
def stepOwnFault (k : Nat) (c : Cause) (d : Dev) : Dev := stepToFault k (d.fault (pgSTEP k) c 0xFF)

/-- Whether a step moves: a move, a stop path, or M away from T in EXTERNAL. -/
def stepMoving (d : Dev) (k : Nat) : Bool :=
  let s := d.stp k
  s.plan.isSome || s.stopPlan.isSome ||
    (s.st == .external && s.m != (d.win k).sdBase + (d.win k).sdCnt * (d.get (pgSTEP k) STEP.SDIR.SDMUL : Int))

/-- A step page enters STARTING (R108, R115, R287). -/
def stepStarting (k : Nat) (d : Dev) : Dev :=
  (stepUnref k (drvStarting (8 + k) d)).modStp k fun s =>
    { s with cmd := none, pend := false, inhReq := false, inhPend := false, fault := false, faultQ := false, autoExt := false
             autoRet := false }

/-- The drive page of a parked or disabled step with its stop path ended (R116, R288): windings off, then PARKED or OFF; where PARK
has become 0 again meanwhile, STARTING (R115). -/
def stepParkDone (k : Nat) (d : Dev) : Dev :=
  let p := (d.drv (8 + k)).parkPend
  if p = 0 ∨ (d.drv (8 + k)).cal.on then d
  else
    let d := (stepOff k d).modDrv (8 + k) fun x => { x with parkPend := 0, step := .none }
    if d.enabled (pgSTEP k) then stepStarting k d
    else if p = 1 then d.setPg (pgSTEP k) 3 else (stepUnref k d).setPg (pgSTEP k) 0

/-- A pending park completes once nothing moves (R288). -/
def stepParkCheck (k : Nat) (d : Dev) : Dev := if d.part.hasStepAxis k && !stepMoving d k then stepParkDone k d else d

/-- Whether a stop path is over: its set-point at rest, and M at its end. -/
def stepStopOver (d : Dev) (k : Nat) : Bool :=
  let s := d.stp k
  match s.stopPlan with
  | some q => decide (q.len ≤ q.elapsed) && (!s.freeze || s.mt1 == s.m)
  | none => false

/-- A stop path ends, and what waited for it follows (R285). -/
def stepStandstill (k : Nat) (d : Dev) : Dev :=
  let s := d.stp k
  let d := d.modStp k fun s => { s with stopPlan := none, stopKind := 0, stopEnd := .stopped, freeze := false }
  let d := match s.stopEnd with
    | .fault => stepToFault k d
    | .unref => stepUnref k d
    | .reference => stepState k .retracted (stepReference k s.captured d)
    | .stopped => if s.st == .extending || s.st == .retracting then stepState k .stopped d else d
  if s.st == .external then
    d.modWin k fun w => { w with sdBase := (d.stp k).m - w.sdCnt * (d.get (pgSTEP k) STEP.SDIR.SDMUL : Int) }
  else d

/-- Leaves above their STEPP hold a retract demand (R283). -/
def stepBlocked (d : Dev) (k : Nat) : Bool :=
  d.leaves.any fun n => d.get (pgLEAF (dwPage d n)) LEAF.SEQ_CFG.STEPSEL == k && d.pgState (pgLEAF n) != 3 &&
    decide ((d.fbk n).p > d.get (pgLEAF n) LEAF.SEQ_STEP.STEPP)

/-- The states in which a retract demand takes effect (R285). -/
def demandRow (st : StepState) : Bool := st == .extending || st == .extended || st == .stopped

/-- A retract demand that nothing holds takes effect (R283, R285). -/
def retractNow (k : Nat) (d : Dev) : Dev :=
  let s := d.stp k
  if s.pend && demandRow s.st && s.stopPlan.isNone && !stepBlocked d k then
    let inh := s.inhReq
    let d := d.modStp k fun s => { s with pend := false, inhReq := false, inhPend := inh }
    stepState k .retracting (stepMove k (d.geti (pgSTEP k) STEP.RETTGT.RETTGT) 1 d)
  else d

/-- RETRACT_DEMAND_RELEASE (R283). -/
def retractRelease (k : Nat) (d : Dev) : Dev :=
  if d.part.hasStepAxis k && d.pgState (pgSTEP k) == 2 then retractNow k d else d

/-- A command is refused (R284). -/
def stepRefuse (k : Nat) (d : Dev) : Dev := (d.modStp k fun s => { s with refused := true }).ev (pgSTEP k) Ev.STEP.REFUSE

/-- EXTEND: in RETRACTED, or as a retarget in RETRACTING (R285). -/
def stepExtend (k : Nat) (d : Dev) : Option Dev :=
  let s := d.stp k
  let e := d.get (pgSTEP k) STEP.EXTP.EXTP
  let ok := (s.st == .retracted && decide (0 < e)) || (s.st == .retracting && !s.inhPend && decide (0 < e) && s.stopPlan.isNone)
  if s.rel && ok then some (stepState k .extending (stepMove k e 0 d)) else none

/-- HOME in UNREF (R285, R286): refused while the feedback page is out of service (R116). -/
def stepHome (k : Nat) (d : Dev) : Option Dev :=
  let pp := d.pgState (pgPOS (8 + k))
  if (d.stp k).st == .unref && pp != 0 && pp != 3 && (d.drv (8 + k)).latch == 0 then
    let d := energise k ((d.c2clr (pgSTEP k)).c2clr (pgPOS (8 + k)))
    let m := (d.stp k).m
    if stepSwitch d k false then some (stepState k .retracted (stepReference k m d))
    else
      let p := mPos d k m
      let d := d.modStp k fun s => { s with sp := { p := p }, mt0 := m, mt1 := m, homeFrom := p / 65536 }
      some (stepState k .homing (stepMove k (homeTarget d k) 2 d))
  else none

/-- The latched command of a step (R284, R285); `none` where no row accepts it. -/
def stepCommand (k : Nat) (c : StpCmd) (d : Dev) : Option Dev :=
  let s := d.stp k
  let stop := s.st == .extending || s.st == .retracting
  match c with
  | .hstop => if stop then some (stepStop k 3 .stopped d) else none
  | .qstop => if stop then some (stepStop k 2 .stopped d) else none
  | .stop => if stop then some (stepStop k 1 .stopped d) else none
  | .retract => if demandRow s.st then some (retractNow k (d.modStp k fun s => { s with pend := true })) else none
  | .inhibit =>
    if s.st == .retracted then some (stepState k .inhibited d)
    else if demandRow s.st then some (retractNow k (d.modStp k fun s => { s with pend := true, inhReq := true }))
    else none
  | .extend => stepExtend k d
  | .home => stepHome k d
  | .uninh => if s.st == .inhibited then some (stepState k .retracted d) else none
  | .ack =>
    if s.st == .fault && !d.on (pgSTEP k) STEP.DRV_STAT.LATCH && !d.flt.halt && !bit d.sx.cfgMis (8 + k) then
      some (stepUnref k ((d.c2clr (pgSTEP k)).c2clr (pgPOS (8 + k))))
    else none

/-- The STEP/DIR source at a boundary (R285): SRC becomes 1 in a state that enters EXTERNAL, or 0 in EXTERNAL. -/
def stepSource (k : Nat) (d : Dev) : Dev :=
  let s := d.stp k
  let src := d.on (pgSTEP k) STEP.STP_CFG.SRC
  if src == s.srcPrev then d
  else if src && (s.st == .retracted || s.st == .extended || s.st == .stopped) && s.stopPlan.isNone then
    stepState k .external (d.modWin k fun w => { w with sdCnt := 0, sdBase := s.m, sdGap := none, lagging := false, mServo := s.m })
  else if !src && s.st == .external && s.stopPlan.isNone then
    let p := mPos d k s.m
    let d := d.modStp k fun s => { s with sp := { p := p }, mt0 := s.m, mt1 := s.m }
    stepState k (if stepSwitch d k false then .retracted else if stepSwitch d k true then .extended else .stopped) d
  else d

/-- Automatic extension and retraction (R289): doorways that name the step, by the states they entered. -/
def stepAuto (k : Nat) (d : Dev) : Dev :=
  let named := d.leaves.filter fun n => dwPage d n == n && d.get (pgLEAF n) LEAF.SEQ_CFG.STEPSEL == k
  let st (n : Nat) : Nat := d.get (pgLEAF n) LEAF.SEQ_STAT.DWST
  let isSt (n c : Nat) : Bool := st n == c
  let opn := named.any fun n => isSt n 3 && !bit (d.stp k).autoPrev n || isSt n 4 && !bit (d.stp k).autoPrev (8 + n)
  let cls := named.any fun n => isSt n 6 && !bit (d.stp k).autoPrev (16 + n)
  let busy := named.any fun n => isSt n 3 || isSt n 4 || isSt n 5
  let mask := named.foldl (fun m n => setBit (setBit (setBit m n (isSt n 3)) (8 + n) (isSt n 4)) (16 + n) (isSt n 6)) 0
  let on := d.on (pgSTEP k) STEP.STP_CFG.AUTO
  d.modStp k fun s => { s with autoPrev := mask, autoExt := on && (s.autoExt || opn), autoRet := on && (s.autoRet || (cls && !busy)) }

/-- The signals of a boundary (R283, R290): the loss of *released* and an automatic RETRACT are demands. -/
def stepSignals (k : Nat) (d : Dev) : Dev :=
  let right := d.on (pgSTEP k) STEP.STP_CFG.CARSIDE != d.sy.ori
  let rel := sideReleased d right
  let d := stepAuto k d
  d.modStp k fun s =>
    { s with rel := rel, pend := s.pend || (demandRow s.st && ((s.rel && !rel) || s.autoRet)), autoRet := false
             lossPrev := s.loss }

/-- The end of a move (R285). -/
def stepMoveEnd (k : Nat) (d : Dev) : Dev :=
  let s := d.stp k
  let ret := stepSwitch d k false
  if s.st == .extending then
    if stepSwitch d k true || !extMapped d k then stepState k .extended d
    else stepState k .stopped (d.raise (pgSTEP k) Cz.STEP.EXTNF 0xFF)
  else if s.st == .retracting then
    if ret then stepState k (if s.inhPend then .inhibited else .retracted) (d.modStp k fun s => { s with inhPend := false })
    else stepOwnFault k Cz.STEP.RETNF d
  else if s.st == .homing then stepOwnFault k Cz.STEP.HOMEFAIL d
  else d

/-- The last events of R284: the end of a stop path, HOMING's switch, the end of a move, the source, the command, the automatic
EXTEND. -/
def stepRest (k : Nat) (ended : Bool) (d : Dev) : Dev :=
  let s := d.stp k
  let far := decide (s.homeFrom * 65536 - s.sp.p ≥ (d.get (pgSTEP k) STEP.HOME.HOMEMAX : Int) * 65536000)
  if stepStopOver d k then stepStandstill k d
  else if s.st == .homing && s.stopPlan.isNone && stepSwitch d k false then
    stepStop k 1 .reference (d.modStp k fun s => { s with captured := s.m })
  else if s.st == .homing && s.stopPlan.isNone && far then stepOwnFault k Cz.STEP.HOMEFAIL d
  else if ended then stepMoveEnd k d
  else if (stepSource k d).stp k != d.stp k then stepSource k d
  else if s.cmd.isSome && (d.drv (8 + k)).cal.on then d
  else match s.cmd with
    | some c =>
      let d := d.modStp k fun s => { s with cmd := none }
      match stepCommand k c d with
      | some d => d.modStp k fun s => { s with refused := false }
      | none => stepRefuse k d
    | none =>
      if s.autoExt then
        let d := d.modStp k fun s => { s with autoExt := false }
        (stepExtend k d).getD d
      else if s.st == .homing && s.stopPlan.isNone && s.plan.isNone && mayMove d then stepMove k (homeTarget d k) 2 d
      else d

/-- A stop path asked for from outside the step: VFLD low or failing, PARK while moving (R288, R440, R441); no path where
nothing moves. -/
def stepOutside (k : Nat) (d : Dev) : Dev :=
  let s := d.stp k
  if s.stopReq = 0 then d
  else
    let d := d.modStp k fun s => { s with stopReq := 0 }
    if stepMoving d k then stepStop k s.stopReq .stopped d else d

/-- A fault event in FAULT changes nothing (R285). -/
def stepFaultSpent (k : Nat) (d : Dev) : Dev :=
  if (d.stp k).st == .fault then d.modStp k fun s => { s with fault := false, faultQ := false } else d

/-- The rows of R284 in their order; `lossRose`: event LOSS of POSKk since the latest boundary. -/
def stepRows (k : Nat) (ended lossRose : Bool) (d : Dev) : Dev :=
  let s := d.stp k
  let lossRow := s.st == .homing || s.st == .extending || s.st == .retracting || s.st == .external
  if s.st != .fault && (s.fault || d.flt.halt) then stepToFault k d
  else if s.st != .fault && s.faultQ then
    if stepMoving d k then stepStop k 2 .fault (d.modStp k fun s => { s with faultQ := false }) else stepToFault k d
  else if (s.st == .retracted || s.st == .inhibited) && !stepSwitch d k false then stepOwnFault k Cz.STEP.RETLOST d
  else if lossRow && (lossRose || s.posOff) then
    let d := if lossRose then d.fault (pgSTEP k) Cz.STEP.LOSTREF 0xFF else d
    let d := d.modStp k fun s => { s with posOff := false }
    if stepMoving d k then stepStop k 2 .unref d else stepUnref k d
  else
    let d := retractNow k d
    if (d.stp k).st != s.st then d else stepRest k ended d

/-- At most one transition of a step at a servo boundary (R284). A change of SRC at a boundary that takes another transition is judged
again at the next one, a fall of SRC during a stop path in EXTERNAL once the path has ended (R285). -/
def stepEvaluate (k : Nat) (ended : Bool) (d : Dev) : Dev :=
  let s := d.stp k
  let src := d.on (pgSTEP k) STEP.STP_CFG.SRC
  let d := stepRows k ended (s.loss && !s.lossPrev) (stepOutside k (stepSignals k (stepFaultSpent k d)))
  let st := (d.stp k).st
  let waits := st == .external && (d.stp k).stopPlan.isSome
  if (st == s.st || st == .external || s.st == .external) && !waits then d.modStp k fun s => { s with srcPrev := src } else d

/-- The readings of a step (R291). -/
def stepReadings (d : Dev) (k : Nat) : Bool × Bool × Bool :=
  let s := d.stp k
  let still := decide (s.mMoved + msMot (d.get (pgSTEP k) STEP.SDIR.SDTO) ≤ d.tim.mot)
  let retSt := s.st == .unref || s.st == .retracted || s.st == .inhibited || s.st == .fault ||
    d.pgState (pgSTEP k) == 3 || (s.st == .external && still)
  (stepSwitch d k false && retSt, s.st == .extended || (s.st == .external && stepSwitch d k true), s.st == .inhibited)

/-- Publish `STP_STAT`, `MSTEP`, `SP_P`, `SP_V` and `SDCNT` (R292). -/
def publishStep (k : Nat) (d : Dev) : Dev :=
  let pg := pgSTEP k
  let s := d.stp k
  let (ret, ext, inh) := stepReadings d k
  let d := (((d.put pg STEP.STP_STAT.STATE s.st.code).putB pg STEP.STP_STAT.RETR ret).putB pg STEP.STP_STAT.EXTD ext).putB
    pg STEP.STP_STAT.INHB inh
  let d := ((d.putB pg STEP.STP_STAT.REL s.rel).putB pg STEP.STP_STAT.PEND s.pend).putB pg STEP.STP_STAT.MOVING (s.sp.v != 0)
  let d := (d.putB pg STEP.STP_STAT.STANDSTILL (s.sp.v == 0)).put pg STEP.STP_STAT.SUSP s.susp
  let d := (d.putB pg STEP.STP_STAT.RETSWIN (stepSwitch d k false)).putB pg STEP.STP_STAT.EXTSWIN (stepSwitch d k true)
  let d := ((d.put pg STEP.STP_STAT.STOPK s.stopKind).putB pg STEP.STP_STAT.TSIDE
    (d.on pg STEP.STP_CFG.CARSIDE != d.sy.ori)).putB pg STEP.STP_STAT.INHPEND s.inhPend
  let d := d.putB pg STEP.STP_STAT.REFUSED s.refused
  (((d.puti pg STEP.MSTEP.M s.m).puti pg STEP.SP_P.P (s.sp.p / 65536)).puti pg STEP.SP_V.V (s.sp.v / 65536)).puti
    pg STEP.SDCNT.CNT (d.win k).sdCnt

/-- A step whose page does not run at a servo boundary: its windings are off already. A fault event of a page in STARTING or PARKED
still leads to FAULT (R285); an OFF page is UNREF (R116); commands are refused, but for HOME in STARTING. -/
def stepIdle (k st : Nat) (d : Dev) : Dev :=
  let s := d.stp k
  let hit := (st = 1 || st = 3) && s.st != .fault && (s.fault || s.faultQ || d.flt.halt)
  let d := d.modStp k fun s => { s with fault := false, faultQ := false, posOff := false, lossPrev := s.loss
                                        srcPrev := d.on (pgSTEP k) STEP.STP_CFG.SRC }
  let d := if st = 1 ∧ (d.stp k).cmd == some .home then d
    else if (d.stp k).cmd.isSome then stepRefuse k (d.modStp k fun s => { s with cmd := none }) else d
  let d := if hit then stepToFault k d else if st = 0 then stepState k .unref d else d
  (stepSignals k d).modStp k fun s => { s with autoExt := false, autoRet := false }

/-- The servo boundary of step `k`. -/
def stepServo (k : Nat) (d : Dev) : Dev :=
  let st := d.pgState (pgSTEP k)
  let d := if st = 2 then
      let (d, ended) := stepSetPoint k d
      let d := faceServo k (nextM k (stepEvaluate k ended d))
      if energised d k then ampServo k d else d
    else stepIdle k st d
  publishStep k (stepParkCheck k d)

/-- The active PARK became 1, or EN became 0 (R116, R288): a stop path when moving, then windings off. -/
def stepPark (k : Nat) (off : Bool) (d : Dev) : Dev :=
  let d := d.modDrv (8 + k) fun x => { x with parkPend := if off then 2 else 1 }
  if d.pgState (pgSTEP k) = 2 ∧ stepMoving d k then d.modStp k fun s => { s with stopReq := max s.stopReq 1 }
  else stepParkDone k d

/-- The feedback page of a step leaves service (R116, R594): a moving step takes its quick stop and enters UNREF. -/
def stepPosOff (k : Nat) (d : Dev) : Dev :=
  if stepMoving d k then d.modStp k fun s => { s with posOff := true } else d

/-- A write to `STP_CMD` (R284): the first of its order is kept; CLRSUSP acts at once. -/
def stpCmd (k v : Nat) (d : Dev) : Dev :=
  let d := if bit v 9 then stepClrSusp k d else d
  let c : Option StpCmd :=
    if bit v 8 then some .hstop else if bit v 7 then some .qstop else if bit v 6 then some .stop
    else if bit v 1 then some .retract else if bit v 2 then some .inhibit else if bit v 0 then some .extend
    else if bit v 4 then some .home else if bit v 3 then some .uninh else if bit v 5 then some .ack else none
  match c with
  | none => d
  | some c =>
    let st := d.pgState (pgSTEP k)
    if st = 0 ∨ st = 3 then stepRefuse k d else d.modStp k fun s => { s with cmd := some c }

/-- A write to the step's `DRV_CTRL` (R106, R268). -/
def stepDrvCtrl (k v : Nat) (d : Dev) : Dev :=
  let d := if bit v 2 then clrCnt (8 + k) d else d
  let d := if bit v 1 then clrLatch (8 + k) d else d
  let st := d.pgState (pgSTEP k)
  let s := (d.stp k).st
  if bit v 0 ∧ (st = 3 ∨ s == .unref ∨ s == .fault) then calRequest (8 + k) d else d

end Sys2Proof.Machine
end

