-- ==== Sys2Proof/Machine/Platen.lean ====
section
/-! DEFINITION. The Platen die (R294 to R300, R304, R308 to R318, R324, R326 to R329, R595): its record, readings,
decisions, outputs, states and frames. Inputs are numbered as R308 numbers them, relays as R314. -/

namespace Sys2Proof.Machine

/-- Field number `f` of a record's bytes (assumption log 8). -/
def recF (b : List Nat) (f : Nat) : Nat := Config.recField b f

/-- The fields of a Platen configuration record (R301, heading "Configuration of the two-channel functions"); `swap` is the seal field
TLSWAP with which it is used (R303). -/
def parseRec (swap : Bool) (b : List Nat) : PRec :=
  { bytes := b, crc := ofLe (b.drop 60)
    mirt := recF b 0, loopOn := recF b 1, zs2 := recF b 2 % 2 == 1, tfilt := recF b 3, pfilt := recF b 4
    disct := recF b 5, htint := recF b 6, lktpw := recF b 7, lktint := recF b 8, htdur := recF b 9
    htmov := recF b 10, htiq := recF b 11, tlswap := swap
    leaf := (List.range 8).map fun n =>
      { use := recF b (16 + 5 * n) % 2 == 1, carB := recF b (17 + 5 * n) % 2 == 1
        openSeq := recF b (18 + 5 * n) % 2 == 1, lkSi := recF b (19 + 5 * n), clSi := recF b (20 + 5 * n) }
    step := (List.range 4).map fun k =>
      { use := recF b (56 + 3 * k) % 2 == 1, carB := recF b (57 + 3 * k) % 2 == 1, rSi := recF b (58 + 3 * k) }
    tp := (List.range 16).map fun i => if recF b (68 + 2 * i) % 2 = 1 then some (recF b (69 + 2 * i)) else none }

/-- The record of the factory impression: the fields that the table "Factory impression and forme" gives (R552), over the others
of its image in boot ROM. Leaves 2k and 2k + 1 have *closed* on SI 2k and *locked* on SI 2k + 1, tested from TPO k. -/
def factoryRec (d : Dev) (r : PRec) : PRec :=
  { r with mirt := 30, loopOn := 100, pfilt := 4, tfilt := 4, disct := 100, zs2 := false,
           leaf := (List.range 8).map (fun n => { use := d.part.hasLeaf n, carB := decide (4 ≤ n), openSeq := (nth r.leaf n {}).openSeq,
                                                  lkSi := 2 * (n / 2) + 1, clSi := 2 * (n / 2) }),
           step := r.step.map (fun x => { x with use := false }),
           tp := (List.range 16).map fun i => if i < 8 then some (i / 2) else none }

/-- The record that a byte string is to this device: with the factory set in force, the factory record. -/
def recParse (d : Dev) (b : List Nat) : PRec :=
  let r := parseRec (d.on pgSEAL SEAL.PROFILE.TLSWAP) b
  if d.boot.factory then factoryRec d r else r

/-- Every field within its range (R324; ranges of the SAFE page). -/
def recRanges (r : PRec) : Bool :=
  let inR (x lo hi : Nat) : Bool := decide (lo ≤ x) && decide (x ≤ hi)
  inR r.mirt 5 100 && inR r.loopOn 0 255 && inR r.tfilt 1 9 && inR r.pfilt 1 10 && inR r.disct 20 1000 &&
  inR r.htint 0 168 && inR r.lktpw 10 40 && inR r.lktint 1 255 && inR r.htdur 10 100 && inR r.htmov 1 255 &&
  inR r.htiq 0 65535 && r.leaf.all (fun l => inR l.lkSi 0 15 && inR l.clSi 0 15) &&
  r.step.all (fun s => inR s.rSi 0 15) && r.tp.all (fun t => inR (t.getD 0) 0 7)

/-- Whether a record passes its CRC-32C and its ranges (R324). -/
def recOk (b : List Nat) : Bool :=
  b.length == 64 && crc32c (b.take 60) == ofLe (b.drop 60) && recRanges (parseRec false b)

/-- The bits of the two relays of a loop in the numbering of R314. -/
def loopRelays (left : Bool) : Nat := if left then 3 else 12

/-- Whether a mask has a relay of a loop. -/
def hasLoop (m : Nat) (left : Bool) : Bool := m &&& loopRelays left != 0

/-- The coil bit of a loop: bit 1 DLL, bit 0 DLR. -/
def coilBit (left : Bool) : Nat := b2n left

/-- A reading of all inputs as one vector (R308). -/
def inVec (si tli mir : Nat) : Nat := si % 65536 + tli % 16 * 65536 + mir % 16 * 1048576

/-- The release of a side on a vector of readings (R303, R311). -/
def releaseOn (r : PRec) (eff : Nat) (right : Bool) : Bool :=
  bit eff 16 && (!r.zs2 || bit eff 19) && bit eff (if right != r.tlswap then 18 else 17)

/-- The leaves and steps that are present: a record's entry counts only where its unit is (R313). -/
def leafUsed (d : Dev) (r : PRec) (n : Nat) : Bool := (nth r.leaf n {}).use && d.part.hasLeaf n
def stepUsed (d : Dev) (r : PRec) (k : Nat) : Bool := (nth r.step k {}).use && d.part.hasStepAxis k

/-- The switch conditions of a loop on a vector of readings (R313). -/
def loopInputs (d : Dev) (r : PRec) (eff : Nat) (ori left : Bool) : Bool :=
  ((List.range 8).all fun n =>
    let l := nth r.leaf n {}
    !(leafUsed d r n && (l.carB != ori) == !left) || (bit eff l.clSi && bit eff l.lkSi)) &&
  ((List.range 4).all fun k =>
    let s := nth r.step k {}
    !(stepUsed d r k && (s.carB != ori) == !left) || bit eff s.rSi)

/-- Both mirror contacts of a loop read closed on a vector of readings. -/
def mirrorsClosed (vec : Nat) (left : Bool) : Bool := if left then bit vec 20 && bit vec 21 else bit vec 22 && bit vec 23

/-! Readings of the Platen die. -/

/-- The Platen die's filtered readings. -/
def pltVec (d : Dev) : Nat := inVec d.px.si d.px.tli d.px.mir

/-- The readings after masks and its own discrepancy latches (R307, R308). -/
def pltEff (d : Dev) : Nat := pltVec d &&& (16777215 - (d.px.dsc ||| inVec d.px.siMask d.px.tliMask 0))

/-- Whether the orientations of the two channels have differed for too long in the Platen die's own check (R329). -/
def pltMis (d : Dev) : Bool := d.py.oriMis

/-- The Platen die's release of a side (R311). -/
def pltRel (d : Dev) (right : Bool) : Bool :=
  match d.px.rec? with
  | some r => d.px.st == 3 && !pltMis d && releaseOn r (pltEff d) right
  | none => false

/-- The conditions of a loop demand in the Platen die but for their time (R313). -/
def pltLoopOk (d : Dev) (left : Bool) : Bool :=
  match d.px.rec? with
  | some r => d.px.st == 3 && !pltMis d && !hasLoop (d.px.mirF ||| d.px.coilF) left &&
      loopInputs d r (pltEff d) d.py.ori left &&
      (mirrorsClosed (pltEff d) left || bit d.px.dec (if left then 3 else 2))
  | none => false

/-- The lock enable lines in RUN (R318). -/
def pltLken (d : Dev) (relR relL : Bool) : Nat :=
  match d.px.rec? with
  | some r => (List.range 8).foldl (fun m n =>
      let l := nth r.leaf n {}
      let rel := if l.carB != d.py.ori then relR else relL
      setBit m n (l.use && !bit d.py.guard n && !bit d.py.lst n && (rel || !bit d.px.si l.lkSi))) 0
  | none => 0

/-- Since when something holds: kept while it holds, taken now when it begins. -/
def sinceNow (d : Dev) (b : Bool) (t : Option Nat) : Option Nat := if b then some (t.getD d.tim.mot) else none

/-- Whether a time has lasted for `n` MOTCLK periods. -/
def lasted (d : Dev) (t : Option Nat) (n : Nat) : Bool := match t with
  | some t => decide (t + n ≤ d.tim.mot)
  | none => false

/-- Drive the lock enable and bridge-disable lines and the coils B of the Platen die. -/
def pltDrive (lken bdis coil : Nat) (d : Dev) : Dev :=
  let old := d.py.bdis
  let at_ (i was : Nat) : Nat := if bit coil i == bit d.px.coil i then was else d.tim.mot
  let d := { d with py := { d.py with lken := lken, bdis := bdis, coilAtL := at_ 1 d.py.coilAtL, coilAtR := at_ 0 d.py.coilAtR }
                    px := { d.px with coil := coil } }
  let d := d.each [0, 1] fun x => Dev.modDy x fun y => { y with lkEn := bitsOf lken (4 * x) 4 }
  d.each (List.range 8) fun n d =>
    if bit bdis n == bit old n then d else if bit bdis n then bridgeDisable n d else bridgeRelease n d

/-- The outputs of the commanded output test (R327): code 1 releases bridge-disable line `arg`, 2 switches lock enable line
`arg` on, 3 switches a coil on, DLL_B for an even `arg`; code 0 is the safe state (assumption log 18). -/
def pltTestOut (d : Dev) : Nat × Nat × Nat :=
  match d.py.test with
  | some (1, a) => (0, setBit 255 a false, 0)
  | some (2, a) => (setBit 0 a true, 255, 0)
  | some (3, a) => (0, 255, if a % 2 = 0 then 2 else 1)
  | _ => (0, 255, 0)

/-- Decide and drive (R299, R311, R313, R316 to R318): releases, loop demands that drop at once, guard counts held at 0 on a
released side, and the outputs of the state. -/
def pltWeigh (d : Dev) : Dev :=
  if d.px.st = 3 then
    let rr := pltRel d true
    let rl := pltRel d false
    let dl := bit d.px.dec 3 && pltLoopOk d true
    let dr := bit d.px.dec 2 && pltLoopOk d false
    let dec := b2n rr + 2 * b2n rl + 4 * b2n dr + 8 * b2n dl
    let held (n : Nat) : Bool := match d.px.rec? with
      | some r => if (nth r.leaf n {}).carB != d.py.ori then rr else rl
      | none => false
    let cnt := (List.range 8).map fun n => if held n then 0 else nth d.py.gcnt n 0
    let condL := sinceNow d (pltLoopOk d true) d.py.condL
    let condR := sinceNow d (pltLoopOk d false) d.py.condR
    let d := { d with px := { d.px with dec := dec }, py := { d.py with gcnt := cnt, condL := condL, condR := condR } }
    pltDrive (pltLken d rr rl) d.py.guard (b2n dr + 2 * b2n dl) d
  else
    let d := { d with px := { d.px with dec := 0 }, py := { d.py with condL := none, condR := none } }
    if d.px.st = 2 then
      let (l, b, c) := pltTestOut d
      pltDrive l b c d
    else pltDrive 0 255 0 d

/-! States (table "Platen states"). -/

/-- Enter SAFE: all outputs safe (R299). A die that is OFF stays OFF. -/
def pltSafe (diag : Nat) (d : Dev) : Dev :=
  if d.px.st = 0 then d
  else pltWeigh { d with px := { d.px with st := 4 }, py := { d.py with diag := d.py.diag ||| diag, test := none, lst := 0 } }

/-- The record and the latches cleared, and CONFIG entered (R294). -/
def pltRestart (d : Dev) : Dev :=
  let px := d.px
  let py := d.py
  pltWeigh { d with
    px := { st := 1, si := px.si, tli := px.tli, mir := px.mir, coil := px.coil, coilOk := px.coilOk }
    py := { lken := py.lken, bdis := py.bdis, code := py.code, hallAt := py.hallAt, ori := py.ori, qSeq := py.qSeq
            pSeq := py.pSeq, pErr := py.pErr, vplt := py.vplt, q := py.q } }

/-- VPLT valid for 10 ms: OFF to CONFIG. -/
def vpltValid (d : Dev) : Dev :=
  let d := { d with py := { d.py with vplt := true } }
  if d.px.st = 0 then pltRestart d else d

/-- VPLT below V_PLTLO (R300). -/
def vpltLow (d : Dev) : Dev := pltSafe 1 { d with py := { d.py with vplt := false } }

/-- The state-encoding check fails (heading "Fault causes"). -/
def stateEncodingCheck (d : Dev) : Dev := pltSafe 4 d

/-- The comparator check by threshold shift: a failure takes the die to SAFE. -/
def comparatorCheck (pass : Bool) (d : Dev) : Dev := if pass then d else pltSafe 2 d

/-- The 10 ms check of the record held (R326): `corrupt` says that the stored record no longer has its CRC. -/
def recordCrcCheck (corrupt : Bool) (d : Dev) : Dev := if corrupt && d.px.rec?.isSome then pltSafe 16 d else d

/-- No good P-frame for 16,000 PLTCLK cycles (R297). -/
def pFrameLoss (d : Dev) : Dev := pltSafe 0 d

/-! Inputs. -/

/-- The Platen die's own times of its discrepancies (R308): while it is in RUN, its readings against those of the latest STATUS frame. -/
def pltTimes (d : Dev) : Dev :=
  let diff := pltVec d ^^^ inVec d.px.procSi d.px.procTli d.px.procMir
  let on := d.px.st == 3 && d.px.gotP
  let ds := (List.range 24).map fun i => sinceNow d (on && bit diff i && !bit d.px.dsc i) (nth d.py.ds i none)
  { d with py := { d.py with ds := ds } }

/-- The Platen filter accepts a level (R304). -/
def pltAccept (i : SafeIn) (level : Bool) (d : Dev) : Dev :=
  if d.px.st = 0 then d
  else
    let px := match i with
      | .si n => { d.px with si := setBit d.px.si n.val level }
      | .tli n => { d.px with tli := setBit d.px.tli n.val level }
      | .mir n => { d.px with mir := setBit d.px.mir n.val level }
    pltWeigh (pltTimes { d with px := px })

/-- A change of Hall code toward opening (1), toward closing (-1) or without a direction (0): codes 5, 1, 3, 2, 6, 4 are the
opening order, reversed under OPENSEQ (R316). -/
def guardStep (openSeq : Bool) (old code : Nat) : Int :=
  let k := (hallSector false code + 6 - hallSector false old) % 6
  let valid (c : Nat) : Bool := decide (1 ≤ c) && decide (c ≤ 6)
  let s : Int := if !(valid old && valid code) then 0 else if k = 1 ∨ k = 2 then 1 else if k = 4 ∨ k = 5 then -1 else 0
  if openSeq then -s else s

/-- A filtered Hall code of leaf `n` in the Platen die (R316, R317). -/
def pltHall (n code : Nat) (d : Dev) : Dev :=
  let old := nth d.py.code n 0
  if d.px.st = 0 ∨ code = old then d
  else
    let d := { d with py := { d.py with code := if code = 0 ∨ code = 7 then d.py.code else modNth (fun _ => code) d.py.code n
                                        hallAt := modNth (fun _ => d.tim.mot) d.py.hallAt n } }
    match d.px.rec? with
    | none => d
    | some r =>
      let l := nth r.leaf n {}
      let dl := guardStep l.openSeq old code
      let rel := if l.carB != d.py.ori then bit d.px.dec 0 else bit d.px.dec 1
      if d.px.st = 3 ∧ leafUsed d r n ∧ dl ≠ 0 ∧ !rel then
        let c := (maxI 0 ((nth d.py.gcnt n 0 : Nat) + dl)).toNat
        let d := { d with py := { d.py with gcnt := modNth (fun _ => c) d.py.gcnt n } }
        if 4 ≤ c then pltWeigh { d with py := { d.py with guard := setBit d.py.guard n true } } else d
      else d

/-- The Platen die's half of a discrepancy (R308): latched where its own reading has differed from the processor's for DISCT. -/
def pltDiscrepancy (i : Nat) (d : Dev) : Dev :=
  if d.px.st = 3 && lasted d (nth d.py.ds i none) (msMot (d.px.rec?.getD {}).disct) then
    pltWeigh (pltTimes { d with px := { d.px with dsc := setBit d.px.dsc i true } })
  else d

/-- The conditions of a loop have held for LOOPON in the Platen die (R313). -/
def pltLoopOn (left : Bool) (d : Dev) : Dev :=
  let t := if left then d.py.condL else d.py.condR
  if pltLoopOk d left && lasted d t (msMot (d.px.rec?.getD {}).loopOn) then
    pltWeigh { d with px := { d.px with dec := setBit d.px.dec (if left then 3 else 2) true } }
  else d

/-- When the coil of relay B of a loop last changed. -/
def coilAtB (left : Bool) (d : Dev) : Nat := if left then d.py.coilAtL else d.py.coilAtR

/-- The mirror of relay B of a loop, MIRT after its coil's latest change or later (R314). -/
def pltMirror (left : Bool) (d : Dev) : Dev :=
  let r := if left then 1 else 3
  let mirt := (d.px.rec?.getD {}).mirt
  if d.px.st ≠ 0 && d.px.rec?.isSome && decide (coilAtB left d + msMot mirt ≤ d.tim.mot) && bit d.px.mir r == bit d.px.coil (coilBit left) then
    pltWeigh { d with px := { d.px with mirF := setBit d.px.mirF r true } }
  else d

/-- The readback of coil B of a loop for 2 ms (R315). -/
def pltCoil (left on : Bool) (d : Dev) : Dev :=
  let i := coilBit left
  if d.px.st = 0 then d
  else if on == bit d.px.coil i then { d with px := { d.px with coilOk := setBit d.px.coilOk i true } }
  else
    let d := { d with px := { d.px with coilOk := setBit d.px.coilOk i false } }
    if coilAtB left d + msMot 2 ≤ d.tim.mot then
      pltWeigh { d with px := { d.px with coilF := setBit d.px.coilF (if left then 1 else 3) true }
                        py := { d.py with diag := d.py.diag ||| 8 } }
    else d

/-! P-frames (R294, R295). -/

/-- The receiver's check of a P-frame: sequence and CRC (R295). Answers whether the frame is accepted. -/
def pltTake (good : Bool) (seq : Nat) (d : Dev) : Dev × Bool :=
  let bad := !good || (match d.py.pSeq with
    | some s => seq != (s + 1) % 16
    | none => false)
  if d.px.st = 0 then (d, false)
  else if bad then ({ d with py := { d.py with pSeq := none, pErr := d.py.pErr + 1 } }, false)
  else ({ d with py := { d.py with pSeq := some seq } }, true)

/-- DCLR in a STATUS frame (R309): latches clear on inputs that agreed throughout, once DCLR ends. -/
def pltDclr (f : PFrame) (d : Dev) : Dev :=
  let diff := pltVec d ^^^ inVec f.si f.tli f.mir
  let agree := d.px.dsc &&& (16777215 - diff)
  match d.px.dscOk with
  | none => if f.dclr then { d with px := { d.px with dscOk := some agree } } else d
  | some m =>
    if f.dclr then { d with px := { d.px with dscOk := some (m &&& agree) } }
    else { d with px := { d.px with dscOk := none, dsc := d.px.dsc &&& (16777215 - (m &&& agree)) } }

/-- What MCLR would clear now in the Platen die: bits 0 and 1 the mirror faults of DLR and DLL, 2 and 3 their coil faults
(R314). -/
def pltClearable (f : PFrame) (d : Dev) : Nat :=
  let shut (left : Bool) : Bool := mirrorsClosed (pltVec d) left && !bit d.px.coil (coilBit left) &&
    !bit f.dec (if left then 3 else 2)
  let ok (left : Bool) : Bool := shut left && bit d.px.coilOk (coilBit left)
  b2n (shut false) + 2 * b2n (shut true) + 4 * b2n (ok false) + 8 * b2n (ok true)

/-- Clear the relay faults that a mask of R314 names. -/
def clearRelays (m mirF coilF : Nat) : Nat × Nat :=
  let a := if bit m 0 then mirF &&& 3 else mirF
  let a := if bit m 1 then a &&& 12 else a
  let b := if bit m 2 then coilF &&& 3 else coilF
  let b := if bit m 3 then b &&& 12 else b
  (a, b)

/-- MCLR in a STATUS frame (R314, R315): faults clear whose conditions held throughout, once MCLR ends. -/
def pltMclr (f : PFrame) (d : Dev) : Dev :=
  let now := pltClearable f d
  match d.px.clrOk with
  | none => if f.mclr then { d with px := { d.px with clrOk := some now } } else d
  | some m =>
    if f.mclr then { d with px := { d.px with clrOk := some (m &&& now) } }
    else
      let (a, b) := clearRelays m d.px.mirF d.px.coilF
      { d with px := { d.px with clrOk := none, mirF := a, coilF := b }
               py := { d.py with diag := if b &&& 10 = 0 then d.py.diag - (d.py.diag &&& 8) else d.py.diag } }

/-- Guard clear requests (R317): no Hall change of the leaf for 100 ms. -/
def pltGclr (f : PFrame) (d : Dev) : Dev :=
  d.each (List.range 8) fun n d =>
    if bit f.gclr n && bit d.py.guard n && decide (nth d.py.hallAt n 0 + msMot 100 ≤ d.tim.mot) then
      { d with py := { d.py with guard := setBit d.py.guard n false, gcnt := modNth (fun _ => 0) d.py.gcnt n } }
    else d

/-- The orientation in a STATUS frame (R328, R329). -/
def pltOrient (f : PFrame) (d : Dev) : Dev :=
  if f.oriNew then
    if bit d.px.dec 0 || bit d.px.dec 1 then { d with py := { d.py with oriRef := true } }
    else { d with py := { d.py with ori := f.oriVal, oriRef := false } }
  else if f.oriVal != d.py.ori then
    { d with py := { d.py with oriN := d.py.oriN + 1, oriMis := d.py.oriMis || decide (4 < d.py.oriN + 1) } }
  else { d with py := { d.py with oriN := 0, oriMis := false } }

/-- A STATUS P-frame reaches the Platen die (R294): masks, clears and orientation, nothing else. None does while a HALT frame, which
aborts it, is on its way (R298). -/
def pFrameStatus (good : Bool) (d : Dev) : Dev :=
  let f := d.sx.p
  let halting := d.sx.sent && f.typ == 5
  let (d, ok) := if halting then (d, false) else pltTake (good && d.sx.sent && f.typ == 0) f.seq d
  let d := if halting then d else { d with sx := { d.sx with sent := false } }
  if !ok then d
  else
    let d := { d with px := { d.px with siMask := f.siMask, tliMask := f.tliMask, procSi := f.si, procTli := f.tli
                                        procMir := f.mir, gotP := true } }
    let d := pltTimes (pltOrient f (pltGclr f (pltMclr f (pltDclr f d))))
    let d := if f.oriNew then { d with sy := { d.sy with oriSent := some d.py.qSeq } } else d
    pltWeigh d

/-- The HALT frame that a device safe halt sent reaches the Platen die (R298): from CONFIG, TEST or RUN to SAFE. -/
def pFrameHalt (d : Dev) : Dev :=
  if d.sx.sent && d.sx.p.typ == 5 then
    let (d, ok) := pltTake true d.sx.p.seq { d with sx := { d.sx with sent := false } }
    if ok then pltSafe 0 d else d
  else d

/-- The processor channel sends a frame of its own type, after a HALT frame that waits, and it reaches the Platen die (R294, R298). -/
def pFrameSend (typ : Nat) (d : Dev) : Dev × Bool :=
  let d := pFrameHalt d
  let q := (d.sx.p.seq + 1) % 16
  pltTake true q { d with sx := { d.sx with p := { d.sx.p with typ := typ, seq := q }, sent := false } }

/-- A CONFIG frame (R324): the eighth begins the time in which its echo must come, taken or not; bytes taken in CONFIG; the eighth completes the record, accepted or discarded. Model's choice: the Platen
die takes the seal field TLSWAP of R303 with the record (assumption log 74). -/
def pFrameConfig (i : Nat) (bytes : List Nat) (d : Dev) : Dev :=
  let (d, ok) := pFrameSend 1 d
  let d := if i = 7 then { d with sy := { d.sy with cfg8 := some d.tim.mot } } else d
  if !ok || d.px.st != 1 then d
  else
    let b8 := ((bytes ++ List.replicate 8 0).take 8).map (· % 256)
    let buf := (i, b8) :: d.px.buf.filter fun e => e.1 != i
    if buf.length < 8 then { d with px := { d.px with buf := buf } }
    else
      let all := (List.range 8).foldr (fun j l => ((buf.find? fun e => e.1 == j).map (·.2)).getD [] ++ l) []
      let d := { d with px := { d.px with buf := [] } }
      if d.boot.factory || recOk all then
        pltWeigh { d with px := { d.px with st := 2, rec? := some (recParse d all), echo := ofLe (all.drop 60) } }
      else { d with px := { d.px with echo := 0 } }

/-- A TEST frame (R327). -/
def pFrameTest (code arg : Nat) (d : Dev) : Dev :=
  let (d, ok) := pFrameSend 2 d
  if ok && d.px.st == 2 then pltWeigh { d with py := { d.py with test := some (code, arg) } } else d

/-- The RUN frame (R294, R327): TEST to RUN; the processor channel starts its functions and expects RUN. -/
def pFrameRun (d : Dev) : Dev :=
  let (d, ok) := pFrameSend 3 d
  let d := { d with sx := { d.sx with run := true } }
  if ok && d.px.st == 2 then pltWeigh { d with px := { d.px with st := 3 }, py := { d.py with test := none } } else d

/-- The RESTART frame (R294): the processor channel's functions stop, and supervision of the link starts with it. -/
def pFrameRestart (d : Dev) : Dev :=
  let (d, ok) := pFrameSend 4 d
  let d := { d with sx := { d.sx with run := false, dec := 0, coil := 0 }
                    sy := { d.sy with armed := true, qAt := d.tim.mot, xlink := false, condR := none, condL := none, cfg8 := none } }
  if ok then pltRestart d else d

/-! Q-frames. -/

/-- The Platen die sends a Q-frame (table "Q-frame"). -/
def qFrameSend (d : Dev) : Dev :=
  if d.px.st = 0 then d
  else
    let px := d.px
    let py := d.py
    let seq := (py.qSeq + 1) % 16
    let f : QFrame :=
      { seq := seq, st := px.st, si := px.si, tli := px.tli, mir := px.mir, coil := px.coil, coilOk := px.coilOk
        dec := px.dec, lken := py.lken, bdis := py.bdis, guard := py.guard, lst := py.lst, ori := py.ori
        oriRef := py.oriRef, diag := py.diag, crc := if seq % 2 = 0 then px.echo / 65536 else px.echo % 65536
        mirF := px.mirF &&& 10, coilF := px.coilF &&& 10 }
    { d with py := { py with qSeq := seq, q := some f } }

end Sys2Proof.Machine
end

