-- ==== Sys2Proof/Machine/Interlock.lean ====
section
/-! DEFINITION. The processor channel of the two-channel functions (R293, R295, R296, R300 to R303, R305 to R315, R317,
R319 to R325, R328 to R331, R595). Inputs are numbered as R308 numbers them, relays as R314; loop and side flags are `left`. -/

namespace Sys2Proof.Machine

/-! Readings and masks. -/

/-- The processor channel's readings: SIs of both dies, train lines and mirrors of FA (R304, R415). -/
def procSi (d : Dev) : Nat := (List.range 16).foldl (fun m n => setBit m n (siNow d n)) 0
def procTli (d : Dev) : Nat := (List.range 4).foldl (fun m n => setBit m n (inNow d 0 (24 + n))) 0
def procMir (d : Dev) : Nat := (List.range 4).foldl (fun m n => setBit m n (inNow d 0 (28 + n))) 0

/-- The SI of an input-select code. -/
def siOfSel (sel : Nat) : Option Nat := if 0x40 ≤ sel ∧ sel < 0x50 then some (sel - 0x40) else none

/-- SIs that are read as suspect switches (R238, R281, R307). -/
def suspectSi (d : Dev) : Nat :=
  let put (b : Bool) (sel m : Nat) : Nat := match siOfSel sel with
    | some i => if b then setBit m i true else m
    | none => m
  let m := d.leaves.foldl (fun m n =>
    let s := (d.seq n).susp
    put (bit s 2) (d.get (pgLEAF n) LEAF.SEQ_IN.LKSW)
      (put (bit s 1) (d.get (pgLEAF n) LEAF.LIMCFG.LIMO_SRC) (put (bit s 0) (d.get (pgLEAF n) LEAF.LIMCFG.LIMC_SRC) m))) 0
  d.steps.foldl (fun m k =>
    let s := (d.stp k).susp
    put (bit s 1) (d.get (pgSTEP k) STEP.SW.EXTSW) (put (bit s 0) (d.get (pgSTEP k) STEP.SW.RETSW) m)) m

/-- SIs fed from a TPO with a TPOSC latch or a present TPORB condition (R307, R420). -/
def tpoMaskSi (d : Dev) : Nat :=
  match d.sx.rec? with
  | none => 0
  | some r => (List.range 16).foldl (fun m i => match nth r.tp i none with
      | some t => setBit m i (bit (d.dy (t / 4)).tpoSc (t % 4) || bit (d.dy (t / 4)).tpoRb (t % 4))
      | none => m) 0

/-- SIMASK of the P-frames (R307). -/
def simaskOf (d : Dev) : Nat := d.sx.tpStuck ||| d.sx.tpShort ||| (d.sx.latch % 65536) ||| suspectSi d ||| tpoMaskSi d

/-- The processor channel's reading of all inputs, and its reading after masks and discrepancy latches (R307, R308). -/
def procVec (d : Dev) : Nat := inVec d.sx.si d.sx.tli d.sx.mir
def procEff (d : Dev) : Nat := procVec d &&& (16777215 - (simaskOf d ||| d.sx.latch))

/-- Whether the two-channel functions of the processor channel are active. -/
def safeLive (d : Dev) : Bool := d.sx.run && !d.flt.halt

/-! Decisions (R310 to R313). -/

/-- The latest decision of the Platen die, bit `i` as the P-frame numbers decisions. -/
def qDec (d : Dev) (i : Nat) : Bool := match d.sx.q with
  | some f => bit f.dec i
  | none => false

/-- The release of a side before the block of R312. -/
def relRaw (d : Dev) (right : Bool) : Bool := match d.sx.rec? with
  | some r => safeLive d && !d.sy.oriMis && releaseOn r (procEff d) right
  | none => false

/-- Every step of a side reads retracted, as the processor channel reads it (R291). -/
def stepsIn (d : Dev) (r : PRec) (left : Bool) : Bool :=
  (List.range 4).all fun k =>
    !(stepUsed d r k && ((nth r.step k {}).carB != d.sy.ori) == !left) || (stepReadings d k).1

/-- A loop's conditions in the processor channel but for their time (R313). -/
def procLoopOk (d : Dev) (left : Bool) : Bool := match d.sx.rec? with
  | some r => safeLive d && !d.sy.oriMis && !hasLoop (d.sx.mirF ||| d.sx.coilF) left &&
      loopInputs d r (procEff d) d.sy.ori left && stepsIn d r left &&
      (mirrorsClosed (procEff d) left || bit d.sx.dec (if left then 3 else 2))
  | none => false

/-- The coils A follow the loop demands, with the times of their changes (R293, R314). -/
def coilsA (dl dr : Bool) (d : Dev) : Dev :=
  let old := d.sx.coil
  let d := { d with sx := { d.sx with coil := b2n dr + 2 * b2n dl } }
  let d := if bit old 1 == dl then d else { d with sy := { d.sy with coilAtL := d.tim.mot } }
  if bit old 0 == dr then d else { d with sy := { d.sy with coilAtR := d.tim.mot } }

/-- New decisions with their events. -/
def setDec (dec : Nat) (d : Dev) : Dev :=
  let old := d.sx.dec
  let d := { d with sx := { d.sx with dec := dec } }
  let d := d.evIf (old / 4 != dec / 4) pgSAFE Ev.SAFE.LOOPCHG
  coilsA (bit dec 3) (bit dec 2) (d.evIf (old % 4 != dec % 4) pgSAFE Ev.SAFE.RELCHG)

/-- Whether the inputs of a decision agree in the two channels after the masks that both apply, the latched faults that R311 and R313
name among them (R310): decision 3 LOOPL, 2 LOOPR, 1 RELL, 0 RELR. TLI3 is an input only where ZS2 is 1 (R303). -/
def decAgree (d : Dev) (i : Nat) : Bool :=
  match d.sx.q, d.sx.rec? with
  | some f, some r =>
    let masked := simaskOf d ||| (d.sx.latch &&& d.px.dsc)
    let diff := ((procVec d ^^^ inVec f.si f.tli f.mir) ||| (d.sx.latch ^^^ d.px.dsc)) &&& (16777215 - masked)
    let left := i % 2 == 1
    if i < 2 then !bit diff 16 && (!r.zs2 || !bit diff 19) && !bit diff (if left != r.tlswap then 17 else 18)
    else
      ((List.range 16).all fun n => !bit diff n || !usedSi d r left n) &&
        (if left then !bit diff 20 && !bit diff 21 else !bit diff 22 && !bit diff 23) &&
        !hasLoop (d.sx.mirF ||| d.sx.coilF ||| f.mirF ||| f.coilF) left
  | _, _ => false
where
  /-- Whether an SI is an input of a loop. -/
  usedSi (d : Dev) (r : PRec) (left : Bool) (n : Nat) : Bool :=
    ((List.range 8).any fun l =>
      let m := nth r.leaf l {}
      leafUsed d r l && (m.carB != d.sy.ori) == !left && (m.clSi == n || m.lkSi == n)) ||
    ((List.range 4).any fun k =>
      let m := nth r.step k {}
      stepUsed d r k && (m.carB != d.sy.ori) == !left && m.rSi == n)

/-- The decisions of a servo boundary (R311 to R313) and the times that R310 and R312 need. -/
def decide_ (d : Dev) : Dev :=
  let rr := relRaw d true
  let rl := relRaw d false
  let d := { d with sy := { d.sy with diffR := sinceNow d (d.sx.run && rr != qDec d 0) d.sy.diffR
                                      diffL := sinceNow d (d.sx.run && rl != qDec d 1) d.sy.diffL } }
  let okL := procLoopOk d true
  let okR := procLoopOk d false
  let d := { d with sy := { d.sy with condL := sinceNow d okL d.sy.condL, condR := sinceNow d okR d.sy.condR } }
  let block := lasted d d.sy.diffR (msMot 40) || lasted d d.sy.diffL (msMot 40)
  let relR := rr && !block
  let relL := rl && !block
  let dl := bit d.sx.dec 3 && okL
  let dr := bit d.sx.dec 2 && okR
  let d := setDec (b2n relR + 2 * b2n relL + 4 * b2n dr + 8 * b2n dl) d
  let both := safeLive d && (match d.sx.q with
    | some f => f.st == 3
    | none => false)
  let raw (i : Nat) : Bool := if i = 0 then rr else if i = 1 then rl else bit d.sx.dec i
  let xd := (List.range 4).map fun i => sinceNow d (both && raw i != qDec d i && decAgree d i) (nth d.sy.xd i none)
  { d with sy := { d.sy with xd := xd } }

/-- XDEC (R310). -/
def xdec (d : Dev) : Dev :=
  if d.sy.xd.any fun t => lasted d t (msMot 40) then
    ({ d with sy := { d.sy with xd := List.replicate 4 none } }).raise pgSAFE Cz.SAFE.XDEC 0xFF
  else d

/-- The conditions of a loop have held for LOOPON in the processor channel: the demand and coil A (R313). -/
def procLoopOn (left : Bool) (d : Dev) : Dev :=
  let t := if left then d.sy.condL else d.sy.condR
  let on := (d.sx.rec?.getD {}).loopOn
  if procLoopOk d left && lasted d t (msMot on) then setDec (setBit d.sx.dec (if left then 3 else 2) true) d else d

/-- LOOP_CLOSE_DELAY (R313), in the channel named. -/
def loopCloseDelay (left platen : Bool) (d : Dev) : Dev := if platen then pltLoopOn left d else procLoopOn left d

/-! Mirrors and coils (R314, R315). -/

/-- A relay fault in both channels, which keep both coils of the loop off. -/
def relayFault (r : Nat) (mirror : Bool) (d : Dev) : Dev :=
  if mirror then { d with sx := { d.sx with mirF := setBit d.sx.mirF r true } }
  else { d with sx := { d.sx with coilF := setBit d.sx.coilF r true } }

/-- Both coils of a loop off at once in the processor channel. -/
def dropLoop (left : Bool) (d : Dev) : Dev := setDec (setBit d.sx.dec (if left then 3 else 2) false) d

/-- MIRROR_CHECK (R314): relay A after MIRT, relay B as the Platen die finds it. -/
def mirrorCheck (r : Nat) (d : Dev) : Dev :=
  let left := decide (r < 2)
  if r % 2 = 1 then pltMirror left d
  else
    let at_ := if left then d.sy.coilAtL else d.sy.coilAtR
    let mirt := (d.sx.rec?.getD {}).mirt
    if d.sx.rec?.isSome && decide (at_ + msMot mirt ≤ d.tim.mot) && bit d.sx.mir r == bit d.sx.coil (coilBit left) &&
        !bit d.sx.mirF r then
      let d := (dropLoop left (relayFault r true d)).fault pgSAFE Cz.SAFE.LOOPMIR r
      pltWeigh { d with px := { d.px with mirF := setBit d.px.mirF r true } }
    else d

/-- COIL_READBACK (R315): `on` is what the readback has shown for 2 ms. -/
def coilReadback (r : Nat) (on : Bool) (d : Dev) : Dev :=
  let left := decide (r < 2)
  let i := coilBit left
  if r % 2 = 1 then pltCoil left on d
  else if on == bit d.sx.coil i then { d with sx := { d.sx with coilOk := setBit d.sx.coilOk i true } }
  else
    let d := { d with sx := { d.sx with coilOk := setBit d.sx.coilOk i false } }
    let at_ := if left then d.sy.coilAtL else d.sy.coilAtR
    if bit d.sx.coilF r ∨ d.tim.mot < at_ + msMot 2 then d
    else
      let d := (dropLoop left (relayFault r false d)).fault pgSAFE Cz.SAFE.COILA r
      pltWeigh { d with px := { d.px with coilF := setBit d.px.coilF r true } }

/-! Discrepancies and clear requests (R308, R309, R314, R317). -/

/-- The readings that differ now from the Platen die's latest. -/
def discDiff (d : Dev) : Nat := match d.sx.q with
  | some f => procVec d ^^^ inVec f.si f.tli f.mir
  | none => 0

/-- DISCREPANCY (R308): readings of input `i` that have differed for DISCT. -/
def discrepancy (i : Nat) (d : Dev) : Dev :=
  let t := (d.sx.rec?.getD {}).disct
  let d := if lasted d (nth d.sy.ds i none) (msMot t) && !bit d.sx.latch i then
      ({ d with sx := { d.sx with latch := setBit d.sx.latch i true }
                sy := { d.sy with ds := modNth (fun _ => none) d.sy.ds i } }.ev pgSAFE Ev.SAFE.DISC).fault pgSAFE Cz.SAFE.DISC i
    else d
  pltDiscrepancy i d

/-- The DCLR window of the processor channel (R309). -/
def procDclr (d : Dev) : Dev :=
  match d.sy.dclr with
  | none => d
  | some t =>
    let m := d.sy.dclrOk &&& d.sx.latch &&& (16777215 - discDiff d)
    if d.tim.mot < t then { d with sy := { d.sy with dclrOk := m } }
    else
      let d := { d with sy := { d.sy with dclr := none, dclrOk := 0 }, sx := { d.sx with latch := d.sx.latch - m } }
      d.each ((List.range 24).filter (bit m)) fun i => Dev.c2off pgSAFE Cz.SAFE.DISC.code i

/-- What MCLR would clear now in the processor channel, as `pltClearable`. -/
def procClearable (d : Dev) : Nat :=
  let q (i : Nat) : Bool := match d.sx.q with
    | some f => !bit f.coil i
    | none => true
  let qOk (i : Nat) : Bool := match d.sx.q with
    | some f => bit f.coilOk i
    | none => false
  let shut (left : Bool) : Bool := mirrorsClosed (procVec d) left && !bit d.sx.coil (coilBit left) && q (coilBit left)
  let ok (left : Bool) : Bool := shut left && bit d.sx.coilOk (coilBit left) && qOk (coilBit left)
  b2n (shut false) + 2 * b2n (shut true) + 4 * b2n (ok false) + 8 * b2n (ok true)

/-- The MCLR window of the processor channel (R314). -/
def procMclr (d : Dev) : Dev :=
  match d.sy.mclr with
  | none => d
  | some t =>
    let m := d.sy.mclrOk &&& procClearable d
    if d.tim.mot < t then { d with sy := { d.sy with mclrOk := m } }
    else
      let (a, b) := clearRelays m d.sx.mirF d.sx.coilF
      let ma := d.sx.mirF - a
      let mb := d.sx.coilF - b
      let d := { d with sy := { d.sy with mclr := none, mclrOk := 0 }, sx := { d.sx with mirF := a, coilF := b } }
      let d := d.each ((List.range 4).filter (bit ma)) fun r => Dev.c2off pgSAFE Cz.SAFE.LOOPMIR.code r
      d.each ((List.range 4).filter (bit mb)) fun r d =>
        (d.c2off pgSAFE Cz.SAFE.COILA.code r).c2off pgPLT Cz.PLT.COILB.code r

/-- TCLR (R307). -/
def tclr (d : Dev) : Dev :=
  let ok := (List.range 16).foldl (fun m i => setBit m i ((nth d.sx.tp i {}).found == 0)) 0
  let gone := (d.sx.tpStuck ||| d.sx.tpShort) &&& ok
  let d := { d with sx := { d.sx with tpStuck := d.sx.tpStuck - (d.sx.tpStuck &&& ok), tpShort := d.sx.tpShort - (d.sx.tpShort &&& ok) } }
  let d := d.each ((List.range 16).filter (bit gone)) fun i d =>
    (d.c2off pgSAFE Cz.SAFE.TPSTUCK.code i).c2off pgSAFE Cz.SAFE.TPXSHORT.code i
  d.put pgSAFE SAFE.SAFE_MASK.TPF (d.sx.tpStuck ||| d.sx.tpShort)

/-- A write to `SAFE_CTRL` in safe context (R307, R309, R314, R317, R320); the requests last 4 ms. -/
def safeCtrl (v : Nat) (d : Dev) : Dev :=
  let t := d.tim.mot + msMot 4
  let lm := bitsOf v 8 8
  let d := d.put pgSAFE SAFE.SAFE_CTRL.LMASK lm
  let d := if bit v 0 then { d with sy := { d.sy with dclr := some t, dclrOk := d.sx.latch } } else d
  let d := if bit v 2 then { d with sy := { d.sy with mclr := some t, mclrOk := 15 } } else d
  let d := if bit v 1 then { d with sy := { d.sy with gclr := some t, gmask := lm } } else d
  let d := if bit v 3 then
      { d with sy := { d.sy with hold := d.sy.hold.zipIdx.map fun h => if bit lm h.2 then { h.1 with req := true } else h.1 } }
    else d
  if bit v 4 then tclr d else d

/-! Test pulses (R305, R306). -/

/-- The checks of one SI at a dark pulse of TPO `t` in which it fell or not. -/
def tpCheck (x : TpX) (own : Bool) (t : Nat) (active fell : Bool) : TpX × Bool × Bool :=
  if own then
    let n := if active && !fell then x.noFall + 1 else 0
    let f := if 2 ≤ n then setBit x.found 0 true else x.found
    ({ x with noFall := n, found := f * 2 % 8 }, decide (2 ≤ n), false)
  else if active && fell then
    let again := bit x.cross t
    ({ x with cross := setBit x.cross t true, found := setBit x.found 0 (bit x.found 0 || again) }, false, again)
  else ({ x with cross := setBit x.cross t false }, false, false)

/-- The millisecond of MOTCLK time in which a command arrives. -/
def msSlot (d : Dev) : Nat := d.tim.mot / 250000

/-- When a dark pulse of TPO `t` ends: 200 µs after its millisecond began (R305). -/
def darkUntil (d : Dev) (t : Nat) : Nat := (nth (d.dy (t / 4)).tpoSlot (t % 4) 0 - 1) * 250000 + 50000

/-- Whether TPO `t` is off for its dark pulse (R305). -/
def tpoDarkNow (d : Dev) (t : Nat) : Bool := bit (d.dy (t / 4)).tpoDark (t % 4) && decide (d.tim.mot < darkUntil d t)

/-- Whether TPO `t` begins a dark pulse now (R305): at the beginning of its own millisecond of the 8 ms period, once, with no TPO off.
Model's choice: the period counts from MOTCLK count 0 (assumption log 74), and a command in the 200 µs of the pulse comes at its
beginning (log 84). -/
def darkDue (t : Nat) (d : Dev) : Bool :=
  msSlot d % 8 == t && decide (d.tim.mot % 250000 < 50000) && (List.range 8).all (fun o => !tpoDarkNow d o) && nth (d.dy (t / 4)).tpoSlot (t % 4) 0 != msSlot d + 1

/-- DARK_PULSE (R305, R306): TPO `t` is off, `falls` the SIs whose land fell. A field die makes the pulses in every state that it
has, standalone too (R420); the checks need the core die. -/
def darkPulse (t falls : Nat) (d : Dev) : Dev :=
  if !d.dies.contains (t / 4) || !(d.di (t / 4)).alive || !darkDue t d then d
  else
  let slot := msSlot d + 1
  let d := d.modDy (t / 4) fun y =>
    { y with tpoDark := setBit y.tpoDark (t % 4) true, tpoSlot := modNth (fun _ => slot) y.tpoSlot (t % 4) }
  if !d.alive then d
  else match d.sx.rec? with
  | none => d
  | some r =>
    d.each (List.range 16) fun i d =>
      match nth r.tp i none with
      | none => d
      | some o =>
        let (x, stuck, short) := tpCheck (nth d.sx.tp i {}) (o == t) t (bit (d.di (i / 8)).deb (16 + i % 8)) (bit falls i)
        let d := { d with sx := { d.sx with tp := modNth (fun _ => x) d.sx.tp i } }
        let d := if stuck && !bit d.sx.tpStuck i then
            ({ d with sx := { d.sx with tpStuck := setBit d.sx.tpStuck i true } }.ev pgSAFE Ev.SAFE.TPFLT).fault pgSAFE
              Cz.SAFE.TPSTUCK i
          else d
        let d := if short && !bit d.sx.tpShort i then
            ({ d with sx := { d.sx with tpShort := setBit d.sx.tpShort i true } }.ev pgSAFE Ev.SAFE.TPFLT).fault pgSAFE
              Cz.SAFE.TPXSHORT i
          else d
        d.put pgSAFE SAFE.SAFE_MASK.TPF (d.sx.tpStuck ||| d.sx.tpShort)

/-! Configuration (R301, R302, R324, R325). -/

/-- Load the profile fields of the SAFE page from a record (R331). -/
def loadSafePage (r : PRec) (d : Dev) : Dev :=
  let pg := pgSAFE
  let d := (((d.put pg SAFE.SAFE_CFG.MIRT r.mirt).put pg SAFE.SAFE_CFG.LOOPON r.loopOn).putB pg SAFE.SAFE_CFG.ZS2 r.zs2).put pg
    SAFE.SAFE_CFG.TFILT r.tfilt
  let d := (((d.put pg SAFE.SAFE_CFG.PFILT r.pfilt).put pg SAFE.DISC.DISCT r.disct).put pg SAFE.LKTEST.HTINT r.htint).put pg
    SAFE.LKTEST.LKTPW r.lktpw
  let d := (((d.put pg SAFE.LKTEST.LKTINT r.lktint).put pg SAFE.HTEST.HTDUR r.htdur).put pg SAFE.HTEST.HTMOV r.htmov).put pg
    SAFE.HTEST.HTIQ r.htiq
  let d := d.each (List.range 8) fun n d =>
    let l := nth r.leaf n {}
    ((((d.putB pg (SAFE.LEAFMAP.OPENSEQ.at n) l.openSeq).putB pg (SAFE.LEAFMAP.CARSIDE.at n) l.carB).putB pg
      (SAFE.LEAFMAP.USE.at n) l.use).put pg (SAFE.LEAFMAP.LKSI.at n) l.lkSi).put pg (SAFE.LEAFMAP.CLSI.at n) l.clSi
  let sb (k : Nat) : Nat := let s := nth r.step k {}; s.rSi + 16 * b2n s.use + 32 * b2n s.carB
  let tb (i : Nat) : Nat := match nth r.tp i none with
    | some t => 8 + t
    | none => 0
  let d := d.put pg SAFE.STEPMAP.STEP (ofLe ((List.range 4).map sb))
  let nib (o : Nat) : Nat := (List.range 8).foldr (fun i v => tb (o + i) + 16 * v) 0
  (d.put pg SAFE.TPMAP0.SI (nib 0)).put pg SAFE.TPMAP1.SI (nib 8)

/-- Whether the configuration of a leaf agrees with the record (R302). -/
def leafCfgOk (d : Dev) (r : PRec) (n : Nat) : Bool :=
  let l := nth r.leaf n {}
  let pg := pgLEAF n
  d.get pg LEAF.LIMCFG.LIMC_SRC == 0x40 + l.clSi && d.get pg LEAF.SEQ_IN.LKSW == 0x40 + l.lkSi &&
  !d.on pg LEAF.LIMCFG.LIMC_POL && !d.on pg LEAF.SEQ_IN.LKPOL && d.on (pgLEAF (dwPage d n)) LEAF.SEQ_CFG.CARSIDE == l.carB

/-- Whether the configuration of a step agrees with the record (R302). -/
def stepCfgOk (d : Dev) (r : PRec) (k : Nat) : Bool :=
  let s := nth r.step k {}
  let pg := pgSTEP k
  d.get pg STEP.SW.RETSW == 0x40 + s.rSi && !d.on pg STEP.SW.RETPOL && d.on pg STEP.STP_CFG.CARSIDE == s.carB

/-- The check of R302 over every leaf and step in use: CFGMIS for each that newly fails; a passing check ends its
condition. -/
def cfgCheck (d : Dev) : Dev :=
  match d.sx.rec? with
  | none => d
  | some r =>
    let d := d.each (List.range 8) fun n d =>
      let bad := leafUsed d r n && !leafCfgOk d r n
      if bad then
        let d := { d with sx := { d.sx with cfgMis := setBit d.sx.cfgMis n true } }
        d.fault pgSAFE Cz.SAFE.CFGMIS n
      else { d with sx := { d.sx with cfgMis := setBit d.sx.cfgMis n false } }.c2off pgSAFE Cz.SAFE.CFGMIS.code n
    d.each (List.range 4) fun k d =>
      let bad := stepUsed d r k && !stepCfgOk d r k
      if bad then
        let d := { d with sx := { d.sx with cfgMis := setBit d.sx.cfgMis (8 + k) true } }
        d.fault pgSAFE Cz.SAFE.CFGMIS (8 + k)
      else { d with sx := { d.sx with cfgMis := setBit d.sx.cfgMis (8 + k) false } }.c2off pgSAFE Cz.SAFE.CFGMIS.code (8 + k)

/-- A leaf or step that fails the check is held in FAULT (R302). -/
def cfgHold (d : Dev) : Dev :=
  let d := d.each d.leaves fun n d =>
    if bit d.sx.cfgMis n && !((d.seq n).st == .fault) && !leafOut d n then
      seqFault n Cz.SAFE.CFGMIS.code (reqStop n 3 false d)
    else d
  d.each d.steps fun k d =>
    if bit d.sx.cfgMis (8 + k) && !((d.stp k).st == .fault) then d.modStp k fun s => { s with fault := true } else d

/-- Whether a record may be used: no leaf or step in use absent, every test-pulse output on the SI's own field die (R324). -/
def recFits (d : Dev) (r : PRec) : Bool :=
  ((List.range 8).all fun n => !(nth r.leaf n {}).use || d.part.hasLeaf n) &&
  ((List.range 4).all fun k => !(nth r.step k {}).use || d.part.hasStepAxis k) &&
  ((List.range 16).all fun i => match nth r.tp i none with
    | some t => t / 4 == i / 8
    | none => true)

/-- The echo of the record agrees with the processor channel's (R324). -/
def echoOk (d : Dev) : Bool :=
  match d.sx.rec?, d.sy.crcHi, d.sy.crcLo with
  | some r, some h, some l => h * 65536 + l == r.crc && (match d.sx.q with
      | some f => f.st == 2 || f.st == 3
      | none => false)
  | _, _, _ => false

/-- PCRBAD (R324): no matching echo 2 ms after the eighth CONFIG frame, or a record that does not fit the part. -/
def pcrbad (d : Dev) : Dev :=
  let late := lasted d d.sy.cfg8 (msMot 2) && !echoOk d
  let misfit := match d.sx.rec? with
    | some r => !recFits d r
    | none => false
  if late || misfit then ({ d with sy := { d.sy with cfg8 := none } }).raise pgSAFE Cz.SAFE.PCRBAD 0xFF else d

/-- A record brought by an impression switch (R325). -/
def recordPending (r : PRec) (d : Dev) : Dev :=
  match d.sx.rec? with
  | some o =>
    if o.bytes == r.bytes then d
    else ({ d with sx := { d.sx with pend := some r, pcrPend := true } }).raise pgSAFE Cz.SAFE.PCRPEND 0xFF
  | none => d

/-! Lock and holding tests (R319, R320). -/

/-- Times at which both switches of a lock came on (R319). -/
def lockTimes (d : Dev) : Dev :=
  { d with sy := { d.sy with hold := d.sy.hold.zipIdx.map fun h =>
      let y := d.dy (h.2 / 4)
      let on := bit y.lkHs (h.2 % 4) && (bit y.lkEn (h.2 % 4) || h.1.lsTest)
      { h.1 with bothAt := if h.1.hsTest then h.1.bothAt else sinceNow d on h.1.bothAt } } }

/-- Change the tests of leaf `n`. -/
def modHold (n : Nat) (f : HoldX → HoldX) (d : Dev) : Dev := { d with sy := { d.sy with hold := modNth f d.sy.hold n } }

/-- Whether it is leaf `n`'s turn in the test interval (R319). Model's choice: each leaf has its own eighth of the interval, counted from
MOTCLK count 0, so that the tests of different leaves are spread over it (assumption log 74). -/
def lockTurn (d : Dev) (n lktint : Nat) : Bool := d.tim.mot * 8 / (250000000 * max 1 lktint) % 8 == n

/-- LOCK_SWITCH_TEST (R319): due, both switches on for 100 ms, the other test 100 ms away. -/
def lockSwitchTest (n : Nat) (high : Bool) (d : Dev) : Dev :=
  let h := nth d.sy.hold n {}
  let r := d.sx.rec?.getD {}
  let last := if high then h.hsAt else h.lsAt
  let other := if high then h.lsAt else h.hsAt
  let dueT := decide (last = 0) || decide (last + 250000000 * r.lktint ≤ d.tim.mot)
  let apart := decide (other = 0) || decide (other + msMot 100 ≤ d.tim.mot)
  if safeLive d && d.part.hasLeaf n && lockTurn d n r.lktint && !h.hsTest && !h.lsTest && lasted d h.bothAt (msMot 100) && dueT && apart then
    if high then
      (modHold n (fun h => { h with hsTest := true, hsAt := d.tim.mot }) d).modDy (n / 4) fun y =>
        { y with lkTest := setBit y.lkTest (n % 4) true, lkHs := setBit y.lkHs (n % 4) false }
    else
      pltWeigh { modHold n (fun h => { h with lsTest := true, lsAt := d.tim.mot }) d with
        py := { d.py with lst := setBit d.py.lst n true } }
  else d

/-- The lock high sides of a die follow its commands; a turn-on begins the pull-in, and a test pulse
interrupts none (R319, R436). -/
def lockDrive (x : Nat) (d : Dev) : Dev :=
  let y := d.di x
  let now := d.tim.mot
  d.modDy x fun k =>
    let want := fun i : Nat => y.alive && !y.standalone && bit y.cmd.lk i && !bit k.lkOc i && !bit k.lkTest i
    let rise := fun i : Nat => want i && !bit k.lkHs i
    { k with
      lkHs := (List.range 4).foldl (fun m i => setBit m i (want i)) 0
      lkPull := (List.range 4).foldl (fun m i => setBit m i (want i && rise i || bit k.lkPull i && (want i || bit k.lkTest i))) 0
      lkPullEnd := k.lkPullEnd.zipIdx.map fun t => if rise t.2 then now + msMot (10 * y.cfg.pullt) else t.1 }

/-- LOCK_TEST_PULSE_END (R319): LKTPW after the pulse began, 50 mA or more fails the test, and the high side stays off. -/
def lockTestPulseEnd (n ma : Nat) (d : Dev) : Dev :=
  let h := nth d.sy.hold n {}
  let fail (c : Cause) (d : Dev) : Dev :=
    if ma < 50 then d
    else
      let d := { d with sx := { d.sx with lkf := setBit d.sx.lkf n true } }
      let d := d.modDy (n / 4) fun y => { y with lkCmd := setBit y.lkCmd (n % 4) false }
      let d := d.modDi (n / 4) fun y => { y with cmd := { y.cmd with lk := setBit y.cmd.lk (n % 4) false } }
      let d := (d.ev pgSAFE Ev.SAFE.LKTEST).fault pgSAFE c n
      seqFault n c.code (reqStop n 3 false d)
  let past (t : Nat) : Bool := decide (t + 2500 * (d.sx.rec?.getD {}).lktpw ≤ d.tim.mot)
  if h.hsTest && past h.hsAt then
    let d := modHold n (fun h => { h with hsTest := false }) d
    let d := d.modDy (n / 4) fun y => { y with lkTest := setBit y.lkTest (n % 4) false }
    lockDrive (n / 4) (fail Cz.SAFE.LKHSTUCK d)
  else if h.lsTest && past h.lsAt then
    let d := modHold n (fun h => { h with lsTest := false }) d
    lockDrive (n / 4) (fail Cz.SAFE.LKLSTUCK (pltWeigh { d with py := { d.py with lst := setBit d.py.lst n false } }))
  else d

/-- Whether a leaf's holding test may begin or go on (R320). -/
def holdOk (d : Dev) (n : Nat) : Bool :=
  let s := (d.seq n).st
  let right := sideRight d n
  (s == .closedLocked || s == .isolated) && !sideReleased d right && !qDec d (if right then 0 else 1) && (d.seq n).cmd.isNone

/-- The leaves tested together: both of a formed ligature (R320). -/
def holdGroup (d : Dev) (n : Nat) : List Nat := if ligFormed d n then [evenOf n, evenOf n + 1] else [n]

/-- HOLDING_TEST_START (R320). -/
def holdingTestStart (n : Nat) (d : Dev) : Dev :=
  let r := d.sx.rec?.getD {}
  let h := nth d.sy.hold n {}
  let dueT := h.req || (decide (0 < r.htint) && decide (h.doneAt + 3600 * 250000000 * r.htint ≤ d.tim.mot))
  let g := holdGroup d n
  if safeLive d && d.part.hasLeaf n && dueT && g.all (fun m => holdOk d m && !(nth d.sy.hold m {}).on && !leafOut d m) then
    let q : Int := r.htiq
    let d := d.each g fun m d =>
      let p := (d.fbk m).p
      let d := modHold m (fun h => { h with on := true, req := true, t0 := d.tim.mot, p0 := p, move := 0 }) d
      (wantMode m mCURRENT d).modDrv m fun x => { x with iqNext := q }
    d.put pgSAFE SAFE.SAFE_HT.RUN (g.foldl (fun v m => setBit v m true) (d.get pgSAFE SAFE.SAFE_HT.RUN))
  else d

/-- The end of a holding test of one leaf, with the drive back in the state's own mode. -/
def holdRelease (n : Nat) (d : Dev) : Dev :=
  let d := modHold n (fun h => { h with on := false }) d
  let d := d.put pgSAFE SAFE.SAFE_HT.RUN (setBit (d.get pgSAFE SAFE.SAFE_HT.RUN) n false)
  let st := (d.seq n).st
  if st == .closedLocked || st == .isolated then wantMode n (restMode d n) (d.modDrv n fun x => { x with iqNext := 0 }) else d

/-- The holding test of a leaf ends with a result (R320). -/
def holdFinish (n : Nat) (guard : Bool) (d : Dev) : Dev :=
  let r := d.sx.rec?.getD {}
  let h := nth d.sy.hold n {}
  let move := max h.move (absI ((d.fbk n).p - h.p0)).toNat
  let pass := decide (move ≤ 10 * r.htmov) && !guard
  let d := holdRelease n (modHold n (fun h => { h with req := false, doneAt := d.tim.mot, move := move }) d)
  let d := ((d.put pgSAFE SAFE.SAFE_HT.MOVE (min 65535 move)).put pgSAFE SAFE.SAFE_HT.PASS
    (setBit (d.get pgSAFE SAFE.SAFE_HT.PASS) n pass)).ev pgSAFE Ev.SAFE.HTDONE
  let d := { d with sx := { d.sx with htf := setBit d.sx.htf n (!pass) } }
  if pass then d.c2off pgSAFE Cz.SAFE.HOLDFAIL.code n
  else seqFault n Cz.SAFE.HOLDFAIL.code (reqStop n 3 false (d.fault pgSAFE Cz.SAFE.HOLDFAIL n))

/-- Whether the Platen guard of a leaf has latched, as the Q-frames say (R317, R320). -/
def guardSeen (d : Dev) (n : Nat) : Bool := match d.sx.q with
  | some f => bit f.guard n
  | none => false

/-- A running holding test at a servo boundary: a guard that latched fails it; the movement, and the events that abort it without
a result (R320). -/
def holdServo (d : Dev) : Dev :=
  d.each (List.range 8) fun n d =>
    let h := nth d.sy.hold n {}
    if !h.on then d
    else if guardSeen d n then holdFinish n true d
    else if !holdOk d n || !(d.seq n).locked then d.each (holdGroup d n) fun m => holdRelease m
    else modHold n (fun h => { h with move := max h.move (absI ((d.fbk n).p - h.p0)).toNat }) d

/-- HOLDING_TEST_END (R320). -/
def holdingTestEnd (n : Nat) (d : Dev) : Dev :=
  let h := nth d.sy.hold n {}
  if h.on && decide (h.t0 + msMot (10 * (d.sx.rec?.getD {}).htdur) ≤ d.tim.mot) then holdFinish n (guardSeen d n) d else d

/-! Seal switches (R321 to R323). -/

/-- The switches that fail a scan's strobe check (R321): one that reads 1 without its strobe, or whose two strobed readings differ.
SEALTPA (`a`) feeds the even-numbered switches, SEALTPB (`b`) the odd-numbered ones. -/
def scanBad (both a b off : Nat) : Nat :=
  ((both ^^^ a) &&& 0x5555) ||| ((both ^^^ b) &&& 0xAAAA) ||| (a &&& 0xAAAA) ||| (b &&& 0x5555) ||| off % 65536

/-- SEAL_SCAN (R321, R323): the readings with both strobes, with each strobe alone and with none. -/
def sealScan (both a b off : Nat) (d : Dev) : Dev :=
  let word := both
  let bad := scanBad both a b off
  let d := d.put pgSEAL SEAL.RAW.RAW word
  let valid := d.on pgSEAL SEAL.PROFILE.VALID
  let differs := valid && word != d.get pgSEAL SEAL.BOOT.BOOT
  let d := (d.putB pgSEAL SEAL.STAT.SCANOK (bad == 0)).put pgSEAL SEAL.STAT.BAD bad
  let d := if differs then ((d.putB pgSEAL SEAL.STAT.TAMPER true).ev pgSEAL Ev.SEAL.TAMPER).raise pgSEAL Cz.SEAL.TAMPER 0xFF else d
  if bad ≠ 0 then ((d.putB pgSEAL SEAL.STAT.STRFLT true).ev pgSEAL Ev.SEAL.SEALFLT).raise pgSEAL Cz.SEAL.SEALFLT 0xFF else d

/-! Orientation (R261, R328, R329, R491). -/

/-- The orientation that the seal switches and the network give (R328, R491). -/
def wantedOri (d : Dev) : Bool :=
  let base := d.on pgSEAL SEAL.PROFILE.ORIBASE
  if d.on pgSEAL SEAL.PROFILE.ORIFIX then base else base != (d.part.hasNet && d.on pgTRDP TRDP.ORI.EN && d.sy.net)

/-- ORIENTATION_APPLY (R261): neither side released by either channel, every present leaf at leaf rest. -/
def orientationApply (d : Dev) : Dev :=
  let w := wantedOri d
  let free := d.sx.dec % 4 == 0 && !qDec d 0 && !qDec d 1 && d.leaves.all (leafRest d)
  if w != d.sy.ori && free && !d.sy.oriNew && !d.sy.oriBack && d.sy.oriSent.isNone then
    { d with sy := { d.sy with oriPrev := d.sy.ori, ori := w, oriNew := true } }.ev pgSAFE Ev.SAFE.ORICHG
  else d

/-- The previous orientation returns at a servo boundary after a refusal (R329). -/
def oriReturn (d : Dev) : Dev :=
  if d.sy.oriBack then
    ({ d with sy := { d.sy with oriBack := false, ori := d.sy.oriPrev, oriRef := true } }.ev pgSAFE Ev.SAFE.ORICHG).raise pgSAFE
      Cz.SAFE.ORIREF 0xFF
  else d

/-- ORIMIS (R329): orientations that differed in more than four consecutive Q-frames. -/
def orimis (d : Dev) : Dev :=
  if decide (4 < d.sy.oriN) && !d.sy.oriMis then
    setDec 0 (({ d with sy := { d.sy with oriMis := true } }).fault pgSAFE Cz.SAFE.ORIMIS 0xFF)
  else d

/-- The orientation of a good Q-frame (R328, R329). -/
def qOrient (f : QFrame) (d : Dev) : Dev :=
  let d := match d.sy.oriSent with
    | some q =>
      if f.seq = q then d
      else if f.oriRef then { d with sy := { d.sy with oriSent := none, oriBack := true } }
      else { d with sy := { d.sy with oriSent := none, oriRef := false } }
    | none => d
  if d.sy.oriNew || d.sy.oriBack || d.sy.oriSent.isSome then d
  else if f.ori != d.sy.ori then { d with sy := { d.sy with oriN := d.sy.oriN + 1 } }
  else { d with sy := { d.sy with oriN := 0, oriMis := false } }.c2off pgSAFE Cz.SAFE.ORIMIS.code 0xFF

/-! Q-frames (R295, R296, R300, R308, R331, R595). -/

/-- Publish the PLT registers of a good Q-frame (R331). -/
def publishPlt (f : QFrame) (d : Dev) : Dev :=
  let pg := pgPLT
  let d := (((d.put pg PLT.STATE.STATE f.st).put pg PLT.SI.SI f.si).putB pg PLT.IO.ORI f.ori).put pg PLT.IO.TLI f.tli
  let d := (((d.put pg PLT.IO.MIR f.mir).put pg PLT.IO.COIL f.coil).put pg PLT.IO.COILOK f.coilOk).put pg PLT.IO.DEC f.dec
  let d := (((d.put pg PLT.LINES.LKEN f.lken).put pg PLT.LINES.BDIS f.bdis).put pg PLT.GUARD.LATCH f.guard).put pg
    PLT.GUARD.LSTST f.lst
  let d := (((d.putB pg PLT.DIAG.REFLOSS (bit f.diag 5)).putB pg PLT.DIAG.PCRCRC (bit f.diag 4)).putB pg PLT.DIAG.COILB
    (bit f.diag 3)).putB pg PLT.DIAG.STATECHK (bit f.diag 2)
  let d := (d.putB pg PLT.DIAG.CMPCHK (bit f.diag 1)).putB pg PLT.DIAG.VPLTLO (bit f.diag 0)
  d.put pg PLT.CRC.CRC (d.sy.crcHi.getD 0 * 65536 + d.sy.crcLo.getD 0)

/-- The faults that the link receiver reports for newly set Platen latches and flags (R595); they arrive in one
FABCLK cycle and are taken in the order of R372. -/
def qFaults (old : QFrame) (f : QFrame) (d : Dev) : Dev :=
  let new (a b : Nat) : Nat := b - (b &&& a)
  let g := new old.guard f.guard
  let m := new old.mirF f.mirF
  let c := new old.coilF f.coilF
  let x := new old.diag f.diag
  let safe := f.st = 4 ∧ old.st ≠ 4 ∧ d.sx.run ∧ !d.flt.halt
  let guards := (List.range 8).filter (bit g)
  let mirs := (List.range 4).filter (bit m)
  let coils := (List.range 4).filter (bit c)
  let rep (pg : Nat) (c : Cause) (n : Nat) : Nat × Nat × Nat × Nat := (c.cls, pg, n, c.code)
  let dev (b : Bool) (pg : Nat) (c : Cause) : List (Nat × Nat × Nat × Nat) := if b then [rep pg c 0xFF] else []
  let d := d.each guards fun n d => (d.ev pgSAFE Ev.SAFE.GUARD).c2on pgSAFE Cz.SAFE.GUARD.code n
  let d := d.each mirs fun r d => (dropLoop (decide (r < 2)) (relayFault r true d)).c2on pgSAFE Cz.SAFE.LOOPMIR.code r
  let d := d.each coils fun r d => (dropLoop (decide (r < 2)) (relayFault r false d)).c2on pgPLT Cz.PLT.COILB.code r
  d.reportMany (dev (bit x 4) pgPLT Cz.PLT.PCRCRC ++ dev (bit x 2) pgPLT Cz.PLT.PLTINT ++ dev (bit x 1) pgPLT Cz.PLT.PLTCMP ++
    dev (decide safe) pgSAFE Cz.SAFE.PLTSAFE ++ guards.map (rep pgSAFE Cz.SAFE.GUARD) ++ mirs.map (rep pgSAFE Cz.SAFE.LOOPMIR) ++
    coils.map (rep pgPLT Cz.PLT.COILB))

/-- The discrepancy times of a good Q-frame (R308), while both channels are in RUN. -/
def qDisc (f : QFrame) (d : Dev) : Dev :=
  let diff := procVec d ^^^ inVec f.si f.tli f.mir
  let on := safeLive d && f.st == 3
  let ds := (List.range 24).map fun i => sinceNow d (on && bit diff i && !bit d.sx.latch i) (nth d.sy.ds i none)
  { d with sy := { d.sy with ds := ds } }

/-- Q_FRAME_RECEIVE (R295, R595): the Platen die's latest frame, good or not. -/
def qFrameReceive (good : Bool) (d : Dev) : Dev :=
  match d.py.q with
  | none => d
  | some f =>
    let seqBad := match d.sx.qSeq with
      | some s => f.seq != (s + 1) % 16
      | none => false
    if !good then
      ({ d with sx := { d.sx with qSeq := none } }.incSat pgPLT PLT.LINK.CRCERR).ev pgPLT Ev.PLT.LINKERR
    else if seqBad then
      ({ d with sx := { d.sx with qSeq := none } }.incSat pgPLT PLT.LINK.SEQERR).ev pgPLT Ev.PLT.LINKERR
    else
      let old := d.sx.q.getD {}
      let d := { d with sx := { d.sx with qSeq := some f.seq, q := some f }
                        sy := { d.sy with qAt := d.tim.mot, xlink := false
                                          crcHi := if f.seq % 2 = 0 then some f.crc else d.sy.crcHi
                                          crcLo := if f.seq % 2 = 1 then some f.crc else d.sy.crcLo } }
      let d := d.inc pgPLT PLT.LINK.GOOD
      let d := d.evIf (old.st != f.st) pgPLT Ev.PLT.STATE
      let d := d.evIf (f.diag - (f.diag &&& old.diag) != 0) pgPLT Ev.PLT.DIAG
      let d := d.evIf (old.dec / 4 != f.dec / 4) pgSAFE Ev.SAFE.LOOPCHG
      let d := d.evIf (old.dec % 4 != f.dec % 4) pgSAFE Ev.SAFE.RELCHG
      let d := d.evIf (bit f.diag 5 && !bit old.diag 5) pgCLK Ev.CLK.REFLOSS
      let d := d.putB pgCLK CLK.STAT.REF_OK (!bit f.diag 5)
      let d := d.each ((List.range 8).filter fun n => bit old.guard n && !bit f.guard n) fun n =>
        Dev.c2off pgSAFE Cz.SAFE.GUARD.code n
      let d := qFaults old f d
      publishPlt f (qOrient f (qDisc f d))

/-- XLINK (R296): no good Q-frame for 1.0 ms since the link is supervised. -/
def xlink (d : Dev) : Dev :=
  if d.sy.armed && !d.sy.xlink && decide (d.sy.qAt + msMot 1 ≤ d.tim.mot) then
    ({ d with sy := { d.sy with xlink := true } }).raise pgSAFE Cz.SAFE.XLINK 0xFF
  else d

/-! The servo boundary. -/

/-- The STATUS P-frame of a servo boundary (R294). -/
def sendStatus (d : Dev) : Dev :=
  if !d.sy.armed || d.flt.halt then d
  else
    let lk := (List.range 8).foldl (fun m n => setBit m n (bit (d.dy (n / 4)).lkCmd (n % 4))) 0
    let within (t : Option Nat) : Bool := match t with
      | some t => decide (d.tim.mot < t)
      | none => false
    let f : PFrame :=
      { typ := 0, seq := (d.sx.p.seq + 1) % 16, servo := d.tim.mot / 64000 % 256, si := d.sx.si, siMask := simaskOf d, tli := d.sx.tli
        mir := d.sx.mir, tliMask := d.sx.latch / 65536 % 16, dec := d.sx.dec, lkHs := lk
        gclr := if within d.sy.gclr then d.sy.gmask else 0, htest := d.get pgSAFE SAFE.SAFE_HT.RUN, dclr := within d.sy.dclr
        oriVal := d.sy.ori, oriNew := d.sy.oriNew, mclr := within d.sy.mclr }
    { d with sx := { d.sx with p := f, sent := true }, sy := { d.sy with oriNew := false } }

/-- Publish `SAFE_STAT`, `SAFE_SI`, `SAFE_MASK` and `SAFE_FLT` (R331). -/
def publishSafe (d : Dev) : Dev :=
  let pg := pgSAFE
  let r := d.sx.rec?.getD {}
  let eff := procEff d
  let d := (((d.putB pg SAFE.SAFE_STAT.PCROK (echoOk d)).putB pg SAFE.SAFE_STAT.PCRPEND d.sx.pcrPend).put pg SAFE.SAFE_STAT.TLI
    d.sx.tli).put pg SAFE.SAFE_STAT.MIR d.sx.mir
  let link := d.sy.armed && decide (d.tim.mot < d.sy.qAt + msMot 1)
  let d := ((d.putB pg SAFE.SAFE_STAT.LINKOK link).putB pg SAFE.SAFE_STAT.ORIREF d.sy.oriRef).putB pg SAFE.SAFE_STAT.ORI d.sy.ori
  let d := (d.putB pg SAFE.SAFE_STAT.ZS (bit eff 16 && (!r.zs2 || bit eff 19))).put pg SAFE.SAFE_STAT.DEC d.sx.dec
  let d := (d.put pg SAFE.SAFE_SI.EFF eff).put pg SAFE.SAFE_SI.RAW d.sx.si
  let d := (d.put pg SAFE.SAFE_MASK.TPF (d.sx.tpStuck ||| d.sx.tpShort)).put pg SAFE.SAFE_MASK.DSC d.sx.latch
  let g := match d.sx.q with
    | some f => f.guard
    | none => 0
  let d := ((d.put pg SAFE.SAFE_FLT.HTF d.sx.htf).put pg SAFE.SAFE_FLT.LKF d.sx.lkf).put pg SAFE.SAFE_FLT.GRD g
  let d := (d.put pg SAFE.SAFE_FLT.MIRF (d.sx.mirF ||| d.sx.coilF)).put pg SAFE.SAFE_FLT.TLID (d.sx.latch / 65536)
  d.put pg SAFE.PCRCRC.CRC (if echoOk d then r.crc else 0)

/-- The processor channel's work of a servo boundary (R387): readings, clears, decisions, tests, status and P-frame. -/
def safeServo (d : Dev) : Dev :=
  let d := { d with sx := { d.sx with si := procSi d, tli := procTli d, mir := procMir d } }
  let d := oriReturn (procMclr (procDclr d))
  let d := holdServo (lockTimes (decide_ d))
  sendStatus (publishSafe (cfgHold d))

end Sys2Proof.Machine
end

