-- ==== Sys2Proof/Machine/FieldIo.lean ====
section
/-! DEFINITION. The field dies: link frames and their loss (R14 to R17, R446), inputs (R415 to R417), test-pulse outputs
(R420), high-side outputs and their safe values (R421 to R427), load switches (R428 to R435), lock channels (R436, R437),
VFLD supervision (R438 to R441), limp-home (R442 to R444) and the reset of a field die (R572). -/

namespace Sys2Proof.Machine

/-- Whether a field die is fitted and powered. -/
def dieRuns (d : Dev) (x : Nat) : Bool := d.dies.contains x && (d.di x).alive

/-- What a die finds goes to the core die with its next good frame (R372), while the core die runs and has the link. -/
def dieTells (x : Nat) (m : Tell) (d : Dev) : Dev :=
  if d.alive && !d.on (pgFIO x) FIO.LINK.LOST then d.modDi x fun y => { y with tells := y.tells ++ [m] } else d

/-- A fault of a die as it is told: its events and its entry, with the C2 condition where its class is C2. -/
def tellFault (pg : Nat) (c : Cause) (inst : Nat) (evs : List Nat) : Tell :=
  { page := pg, cls := c.cls, code := c.code, inst := inst, c2 := c.cls == 2, evs := evs }

/-- A clear ends the condition of a cause, in what the die has still to tell too. -/
def dieClears (x pg : Nat) (c : Cause) (inst : Nat) (d : Dev) : Dev :=
  (d.modDi x fun y => { y with tells := y.tells.map fun m =>
    if m.page == pg && m.code == c.code && m.inst == inst then { m with c2 := false } else m }).c2off pg c.code inst

/-- A good frame brings what its die has to tell: events, conditions and, in the order of R372, the reports. -/
def takeTells (x : Nat) (d : Dev) : Dev :=
  let l := (d.di x).tells
  let d := d.modDi x fun y => { y with tells := [] }
  let d := d.each l fun m d =>
    let d := d.each m.evs fun e => Dev.ev m.page e
    if m.c2 then d.c2on m.page m.code m.inst else d
  d.reportMany ((l.filter (·.rep)).map fun m => (m.cls, m.page, m.inst, m.code))

/-- Whether a signed temperature in 0.1 °C lies below T_JC, 140 °C. -/
def tjBelow (v : Nat) : Bool := decide (v % 65536 < 1400) || decide (32768 ≤ v % 65536)

/-! Groups of high-side outputs (R425). -/

/-- Progress through the channels: the leaders found (last first), the leader and the end of the group in progress, the word
with the refused GRP values applied as 0, and whether one was refused. -/
structure GrpWalk where
  leads : List Nat := []
  cur : Nat := 0
  stop : Nat := 0
  word : Nat
  bad : Bool := false
  deriving DecidableEq, Repr

/-- One channel of the walk. -/
def grpStep (w : GrpWalk) (c : Nat) : GrpWalk :=
  let g := bitsOf w.word (4 * c) 2
  let size := if g = 1 then 2 else if g = 2 then 4 else 0
  let inside := decide (c < w.stop)
  let refuse := g != 0 && (inside || size == 0 || decide (8 < c + size))
  let word := if refuse then setBits w.word (4 * c) 2 0 else w.word
  if inside then { w with leads := w.cur :: w.leads, word := word, bad := w.bad || refuse }
  else if g ≠ 0 ∧ !refuse then { w with leads := c :: w.leads, cur := c, stop := c + size }
  else { w with leads := c :: w.leads, word := word, bad := w.bad || refuse }

/-- The walk over the eight channels of a `DO_CFG` word. -/
def grpWalk (word : Nat) : GrpWalk := (List.range 8).foldl grpStep { word := word }

/-- The lowest channel of the group of channel `c`, `c` itself outside any group. -/
def doLead (word c : Nat) : Nat := nth (grpWalk word).leads.reverse c c

/-- The commit of FIOx applies refused GRP values as 0 (R425). -/
def grpCommit (x : Nat) (d : Dev) : Dev :=
  let w := grpWalk (d.get (pgFIO x) FIO.DO_CFG.CFG)
  if w.bad then (d.put (pgFIO x) FIO.DO_CFG.CFG w.word).ev (pgFIO x) Ev.FIO.CFGCLAMP else d

/-! What the core sends to a field die. -/

/-- The configuration word of a load switch. -/
def lsWord (d : Dev) (x c : Nat) : Nat :=
  let g (f : Fld) : Nat := d.get (pgLSW x) (f.at c)
  g LSW.LS_CFG.INRUSH + g LSW.LS_CFG.NTRY * 256 + g LSW.LS_CFG.WIRE * 4096 + g LSW.LS_CFG.LIG * 32768 +
    g LSW.LS_CFG.SHED * 65536 + g LSW.LS_CFG.SAFE * 262144 + g LSW.LS_CFG.FUSEN * 1048576

/-- The field die of a limp-home destination, `none` where it names none (table "LIMP registers"). -/
def limpDie (dst : Nat) : Option Nat := if dst < 16 then some (dst / 8) else if dst < 28 then some ((dst - 16) / 6) else none

/-- The word of mapping `k`. -/
def mapWord (d : Dev) (k : Nat) : Nat :=
  let g (f : Fld) : Nat := d.get pgLIMP (f.at k)
  g LIMP.MAP.SRC + g LIMP.MAP.INV * 128 + g LIMP.MAP.DST * 256 + g LIMP.MAP.EN * 32768

/-- Whether mapping `k` is valid by itself (R443). -/
def mapAlone (d : Dev) (k : Nat) : Bool :=
  let w := mapWord d k
  let dst := bitsOf w 8 5
  bit w 15 && (match limpDie dst with
    | none => false
    | some x => d.dies.contains x && x == bitsOf w 0 5 / 16 &&
      (if dst < 16 then doLead (d.get (pgFIO x) FIO.DO_CFG.CFG) (dst % 8) == dst % 8
       else (dst - 16) % 6 % 2 == 0 || d.get (pgLSW x) (LSW.LS_CFG.LIG.at ((dst - 16) % 6 - 1)) == 0))

/-- The mappings that are valid: the lower of two that name one destination wins (R443). -/
def mapValid (d : Dev) : Nat :=
  (List.range 8).foldl (fun m k =>
    let dup := (List.range k).any fun j => bit m j && bitsOf (mapWord d j) 8 5 == bitsOf (mapWord d k) 8 5
    setBit m k (mapAlone d k && !dup)) 0

/-- The commit of LIMP judges the mappings (R443). -/
def limpCommit (d : Dev) : Dev :=
  let v := mapValid d
  (d.put pgLIMP LIMP.LIMP_STAT.VALID v).each ((List.range 8).filter fun k => bit (mapWord d k) 15 && !bit v k) fun k d =>
    (d.ev pgLIMP Ev.LIMP.MAPBAD).raise pgLIMP Cz.LIMP.MAPBAD k

/-- The configuration sent to die `x` (R442). -/
def dieCfgOf (d : Dev) (x : Nat) : DieCfg :=
  let v := d.get pgLIMP LIMP.LIMP_STAT.VALID
  { doCfg := d.get (pgFIO x) FIO.DO_CFG.CFG
    doShed := d.get (pgFIO x) FIO.DO_SHED.SHED
    ls := (List.range 6).map (lsWord d x)
    vpf := d.get (pgFIO 0) FIO.VFLDCFG.VPF
    pullt := d.get (pgFIO x) FIO.LK_CFG.PULLT
    holdd := d.get (pgFIO x) FIO.LK_CFG.HOLDD
    maps := (List.range 8).map fun k =>
      if bit v k && limpDie (bitsOf (mapWord d k) 8 5) == some x then mapWord d k else 0
    deb := (List.range 32).map fun i =>
      let k := i % 16 / 2
      let f := if i < 16 then (if i % 2 = 0 then FIO.DEB.LO.at k else FIO.DEB.HI.at k)
        else if i % 2 = 0 then FIO.SDEB.LO.at k else FIO.SDEB.HI.at k
      d.get (pgFIO x) f }

/-- Whether a page of outputs is in service (R424). -/
def outPageOn (d : Dev) (pg : Nat) : Bool := d.on pg HDR.EN && !d.on pg HDR.PARK

/-- Whether the safe values apply (R422). -/
def safeValues (d : Dev) : Bool := d.flt.halt || !d.forme.commits || d.forme.overrun

/-- The commands sent to die `x` (R421, R422, R424, R436, R439); after a loss of the link upward they are the safe states until the
release (R17, R444). -/
def dieCmdOf (d : Dev) (x : Nat) : DieCmd :=
  { dov := (d.di x).applied
    lsv := (d.di x).lsApplied
    safe := safeValues d
    held := d.forme.everOut
    doEn := outPageOn d (pgFIO x) && !(d.di x).unrel
    lsEn := outPageOn d (pgLSW x) && !(d.di x).unrel
    lvl := d.vfld.lvl
    lk := if d.flt.halt ∨ (d.di x).unrel then 0 else (d.dy x).lkCmd }

/-- The output commit takes `DO_CMD` and `LS_CMD` (R421). -/
def outputApply (d : Dev) : Dev :=
  let d := { d with forme := { d.forme with commits := true, everOut := true } }
  d.each d.dies fun x d => d.modDi x fun y =>
    { y with applied := d.get (pgFIO x) FIO.DO_CMD.ON, lsApplied := d.get (pgLSW x) LSW.LS_CMD.ON }

/-! High-side outputs in the die (R422 to R427, R439, R442). -/

/-- Whether a shedding priority is shed at a level (table "Shedding"). -/
def shedAt (lvl prio : Nat) : Bool := lvl != 0 && decide (4 ≤ prio + lvl)

/-- The value of an output: its command, or its safe value where safe values apply (R422). -/
def outValue (m : DieCmd) (cmdBit : Bool) (safe : Nat) : Bool :=
  if m.safe then (if safe = 1 then true else if safe = 2 then m.held && cmdBit else false) else cmdBit

/-- Whether a die is in limp-home (R442). -/
def inLimp (y : DieX) : Bool := y.standalone && y.limpIn

/-- What limp-home drives a destination with (R442). -/
def limpValue (y : DieX) (dst : Nat) : Bool :=
  inLimp y && decide (y.cfg.vpf * 10 ≤ y.vown) &&
  (match y.cfg.maps.find? (fun w => bit w 15 && bitsOf w 8 5 == dst) with
    | some w => bit y.deb (bitsOf w 0 5 % 16) != bit w 7
    | none => false)

/-- The channels that share the group of channel `c`. -/
def doGroup (word c : Nat) : List Nat := (List.range 8).filter fun m => doLead word m == doLead word c

/-- Whether channel `c` is shed (R439). -/
def doShedOn (y : DieX) (c : Nat) : Bool := !y.standalone && shedAt y.cmd.lvl (bitsOf y.cfg.doShed (2 * doLead y.cfg.doCfg c) 2)

/-- Whether channel `c` of die `x` is on (R422 to R426). -/
def doOn (y : DieX) (x c : Nat) : Bool :=
  let l := doLead y.cfg.doCfg c
  let latched := (doGroup y.cfg.doCfg c).any fun m => bit y.oc m || bit y.th m
  let want := if y.standalone then limpValue y (8 * x + l)
    else y.cmd.doEn && !doShedOn y c && outValue y.cmd (bit y.cmd.dov l) (bitsOf y.cfg.doCfg (4 * l + 2) 2)
  y.alive && want && !latched

/-- The outputs of a die as they follow from its commands and latches. -/
def doDrive (x : Nat) (d : Dev) : Dev :=
  d.modDi x fun y => { y with on := (List.range 8).foldl (fun m c => setBit m c (doOn y x c)) 0 }

/-- DO_OVERLOAD (R426): the limit of an output that is on, or its junction, on or off. -/
def doOverload (ch : Nat) (thermal : Bool) (d : Dev) : Dev :=
  let x := ch / 8
  let c := ch % 8
  let y := d.di x
  if dieRuns d x && (thermal || bit y.on c) then
    let d := d.modDi x fun y => if thermal then { y with th := setBit y.th c true } else { y with oc := setBit y.oc c true }
    dieTells x (tellFault (pgFIO x) (if thermal then Cz.FIO.DOTH else Cz.FIO.DOOC) ch [Ev.FIO.DOFLT])
      (doDrive x d)
  else d

/-- DO_CLR (R426): latches clear below T_JC, 140 °C. -/
def doClr (x mask : Nat) (d : Dev) : Dev :=
  d.each ((List.range 8).filter fun c => bit mask c && tjBelow (nth (d.di x).samp.doTj c 250)) fun c d =>
    if dieRuns d x then
      let d := d.modDi x fun y => { y with oc := setBit y.oc c false, th := setBit y.th c false }
      dieClears x (pgFIO x) Cz.FIO.DOTH (8 * x + c) (dieClears x (pgFIO x) Cz.FIO.DOOC (8 * x + c) d)
    else d

/-- DO_READBACK (R427): DORB with the output on, DOEXT with it off. -/
def doReadback (ch : Nat) (d : Dev) : Dev :=
  let x := ch / 8
  let c := ch % 8
  let y := d.di x
  if dieRuns d x && !bit y.rb c then
    let k := if bit y.on c then Cz.FIO.DORB else Cz.FIO.DOEXT
    dieTells x (tellFault (pgFIO x) k ch [Ev.FIO.DOFLT])
      (d.modDi x fun y => { y with rb := setBit y.rb c true })
  else d

/-- DO_OPEN_LOAD (R427). -/
def doOpenLoad (ch : Nat) (d : Dev) : Dev :=
  let x := ch / 8
  let c := ch % 8
  let y := d.di x
  if dieRuns d x && bit y.on c && !bit y.openL c then
    dieTells x (tellFault (pgFIO x) Cz.FIO.DOOPEN ch []) (d.modDi x fun y => { y with openL := setBit y.openL c true })
  else d

/-! Load switches (R428 to R435). -/

/-- The configuration word of channel `c` as the die holds it. -/
def lsCfg (y : DieX) (c : Nat) : Nat := nth y.cfg.ls c 0

/-- Whether the even channel `c` leads a ligature of load switches (R435). -/
def lsLig (y : DieX) (c : Nat) : Bool := c % 2 == 0 && bit (lsCfg y c) 15

/-- The channel that switches channel `c`: the even one of a ligature (R435). -/
def lsLead (y : DieX) (c : Nat) : Nat := if c % 2 = 1 ∧ lsLig y (c - 1) then c - 1 else c

/-- Load switch `c` of die `x`. -/
def lsOf (d : Dev) (x c : Nat) : LsX := nth (d.di x).ls c {}

/-- Change load switch `c` of die `x`. -/
def modLs (x c : Nat) (f : LsX → LsX) (d : Dev) : Dev := d.modDi x fun y => { y with ls := modNth f y.ls c }

/-- Whether load switch `c` is shed (R439). -/
def lsShedOn (y : DieX) (c : Nat) : Bool := !y.standalone && shedAt y.cmd.lvl (bitsOf (lsCfg y (lsLead y c)) 16 2)

/-- Whether a value, not a latch or a pause, has channel `c` of die `x` on (R422 to R424, R439, R442). -/
def lsWant (y : DieX) (x c : Nat) : Bool :=
  y.alive &&
  (if y.standalone then limpValue y (16 + 6 * x + c)
   else y.cmd.lsEn && !lsShedOn y c && outValue y.cmd (bit y.cmd.lsv c) (bitsOf (lsCfg y c) 18 2))

/-- Whether a latch holds a channel off. -/
def LsX.latched (l : LsX) : Bool := l.oc || l.fuse || l.th

/-- A channel turns on (R428): inrush, for INRUSH ms. -/
def lsTurnOn (y : DieX) (c now : Nat) (l : LsX) : LsX :=
  { l with run := .inrush, onAt := now, inrushEnd := now + msMot (bitsOf (lsCfg y c) 0 8), dueAt := none }

/-- The shed channels of a die. -/
def lsShedMask (y : DieX) : Nat := (List.range 6).foldl (fun m c => setBit m c (lsShedOn y c)) 0

/-- The pause after the `k`th trip, MOTCLK counts (R429). -/
def lsPause (k : Nat) : Nat := min (msMot 10 * 2 ^ (k - 1)) (msMot 2560)

/-- A trip of channel `c` (R428, R429). -/
def lsTrip (x c : Nat) (d : Dev) : Dev :=
  let y := d.di x
  let l := lsOf d x c
  let n := l.tries + 1
  let now := d.tim.mot
  if bitsOf (lsCfg y c) 8 4 ≤ n then
    let d := modLs x c (fun l => { l with run := .off, tries := n, oc := true, pauseEnd := none, dueAt := none }) d
    dieTells x (tellFault (pgLSW x) Cz.LSW.LSOC (6 * x + c) [Ev.LSW.TRIP, Ev.LSW.LATCH]) d
  else
    let d := modLs x c (fun l => { l with run := .off, tries := n, pauseEnd := some (now + lsPause n), dueAt := none }) d
    dieTells x (tellFault (pgLSW x) Cz.LSW.LSTRIP (6 * x + c) [Ev.LSW.TRIP]) d

/-- A fuse trip of channel `c` (R431). -/
def lsFuseLatch (x c : Nat) (d : Dev) : Dev :=
  dieTells x (tellFault (pgLSW x) Cz.LSW.LSFUSE (6 * x + c) [Ev.LSW.LATCH])
    (modLs x c (fun l => { l with run := .off, fuse := true, pauseEnd := none, dueAt := none }) d)

/-- A thermal latch of channel `c` (R432). -/
def lsHeatLatch (x c : Nat) (d : Dev) : Dev :=
  dieTells x (tellFault (pgLSW x) Cz.LSW.LSTHERM (6 * x + c) [Ev.LSW.LATCH])
    (modLs x c (fun l => { l with run := .off, th := true, thPause := l.pauseEnd.isSome }) d)

/-- LS_CLR.CLR of channel `c` (R429, R431): LATCH_OC, LATCH_FUSE with θ at or below 0.5, and TRY, which a thermal latch freezes (R432). -/
def lsClearOc (x c : Nat) (d : Dev) : Dev :=
  let cool := decide ((lsOf d x c).theta ≤ 8388608)
  let d := modLs x c (fun l => { l with oc := false, fuse := l.fuse && !cool, tries := if l.th then l.tries else 0 }) d
  (dieClears x (pgLSW x) Cz.LSW.LSOC (6 * x + c) d).iff_ cool (dieClears x (pgLSW x) Cz.LSW.LSFUSE (6 * x + c))

/-- LS_CLR.CLRTH of channel `c` (R432): below T_JC; a pause restarts in full. -/
def lsClearTh (x c : Nat) (d : Dev) : Dev :=
  let y := d.di x
  let tj (m : Nat) : Bool := tjBelow (nth y.samp.lsTj m 250)
  if (lsOf d x c).th && tj c && (!lsLig y c || tj (c + 1)) then
    let d := modLs x c (fun l =>
      { l with th := false, thPause := false
               pauseEnd := if l.thPause then some (d.tim.mot + lsPause l.tries) else l.pauseEnd }) d
    dieClears x (pgLSW x) Cz.LSW.LSTHERM (6 * x + c) d
  else d

/-- What waits for the tick of a channel: bits 0 thermal latch, 1 fuse trip, 2 fast-path trip, 3 CLR, 4 CLRTH, 5 off. -/
def lsPend (x c b : Nat) (d : Dev) : Dev := modLs x c (fun l => { l with pend := setBit l.pend b true }) d

/-- What waited for the tick acts (R428): the clears, then the first of thermal latch, fuse trip and fast-path trip (R433). -/
def lsResolve (x c : Nat) (d : Dev) : Dev :=
  let p := (lsOf d x c).pend
  if p = 0 ∨ lsLead (d.di x) c ≠ c then d
  else
    let d := modLs x c (fun l => { l with pend := p &&& 32 }) d
    let d := d.iff_ (bit p 3) (lsClearOc x c)
    let d := d.iff_ (bit p 4) (lsClearTh x c)
    let l := lsOf d x c
    if bit p 0 && !l.th then lsHeatLatch x c d
    else if bit p 1 && !l.latched then lsFuseLatch x c d
    else if bit p 2 && l.run != .off then lsTrip x c d
    else d

/-- One channel at a switch tick (R428, R430, R439). -/
def lsTick (y : DieX) (x c now : Nat) (l : LsX) : LsX :=
  if lsLead y c ≠ c then { l with run := .off, pauseEnd := none, dueAt := none, pend := 0 }
  else if l.pend ≠ 0 then { l with run := .off, dueAt := none, pend := 0 }
  else if lsWant y x c && !l.latched then
    if l.run == .off && l.pauseEnd.isNone && l.dueAt.isNone then lsTurnOn y c now l else l
  else { l with run := .off, dueAt := if l.th then l.dueAt else none }

/-- SWITCH_TICK (R428). -/
def switchTick (x : Nat) (d : Dev) : Dev :=
  if dieRuns d x then
    let now := d.tim.mot
    let d := d.each (List.range 6) (lsResolve x)
    let m := lsShedMask (d.di x)
    let chg := m != (d.di x).lsShed
    let d := d.modDi x fun y => { y with ls := y.ls.zipIdx.map (fun l => lsTick y x l.2 now l.1), lsShed := m }
    if chg then dieTells x { page := pgLSW x, rep := false, evs := [Ev.LSW.SHED] } d else d
  else d

/-- LS_INRUSH_END (R428). -/
def lsInrushEnd (x c : Nat) (d : Dev) : Dev :=
  let l := lsOf d x c
  if dieRuns d x && l.run == .inrush && decide (l.inrushEnd ≤ d.tim.mot) then
    modLs x c (fun l => { l with run := .on, sinceOn := d.tim.mot }) d
  else d

/-- LS_HARD_SHORT (R428): the output below V_SC at t_SC, 200 µs after turn-on, judged within the switch tick that begins
there; the trip is the next tick's. -/
def lsHardShort (x ch : Nat) (d : Dev) : Dev :=
  let c := lsLead (d.di x) ch
  let l := lsOf d x c
  if dieRuns d x && l.run != .off && decide (l.onAt + 50000 ≤ d.tim.mot) && decide (d.tim.mot < l.onAt + 75000) then lsPend x c 2 d
  else d

/-- LS_OVERCURRENT_TRIP (R428, R429): the limit acts for t_OCOFF in ON; the trip is the next tick's. -/
def lsOvercurrentTrip (x ch : Nat) (d : Dev) : Dev :=
  let c := lsLead (d.di x) ch
  if dieRuns d x && (lsOf d x c).run == .on then lsPend x c 2 d else d

/-- LS_PAUSE_END (R429, R430): with the value on a retry falls due, else the channel is off. -/
def lsPauseEnd (x c : Nat) (d : Dev) : Dev :=
  let l := lsOf d x c
  match l.pauseEnd with
  | some t =>
    if dieRuns d x && decide (t ≤ d.tim.mot) && !l.th then
      let due := lsWant (d.di x) x c && !l.latched
      modLs x c (fun l => { l with pauseEnd := none, dueAt := if due then some d.tim.mot else none }) d
    else d
  | none => d

/-- Whether the conditions of R434 let the retry of channel `c` start. -/
def retryFree (d : Dev) (x c t : Nat) : Bool :=
  let y := d.di x
  let near := (List.range 6).any fun m => m != c && (nth y.ls m {}).run == .inrush
  let gap := match y.lastRetry with
    | some r => decide (r + msMot 2 ≤ d.tim.mot)
    | none => true
  (!near || decide (t + msMot 500 ≤ d.tim.mot)) && gap

/-- LS_RETRY (R434). -/
def lsRetry (x c : Nat) (d : Dev) : Dev :=
  let y := d.di x
  let l := lsOf d x c
  match l.dueAt with
  | some t =>
    if dieRuns d x && !l.latched && lsWant y x c && retryFree d x c t then
      (modLs x c (lsTurnOn y c d.tim.mot) d).modDi x fun y => { y with lastRetry := some d.tim.mot }
    else d
  | none => d

/-- LS_TRY_RESET (R429): 10 s in ON without a trip. -/
def lsTryReset (x c : Nat) (d : Dev) : Dev :=
  let l := lsOf d x c
  if dieRuns d x && l.run == .on && !l.th && decide (l.sinceOn + msMot 10000 ≤ d.tim.mot) then
    modLs x c (fun l => { l with tries := 0 }) d
  else d

/-- Wire current in mA and time constant in s of a WIRE code (table "Wire selection"). -/
def wireOf (w : Nat) : Nat × Nat :=
  if w = 1 then (4000, 15) else if w = 2 then (5500, 20) else if w = 3 then (7000, 25) else if w = 4 then (9000, 35)
  else if w = 5 then (12000, 50) else (2500, 8)

/-- The wire heat after one millisecond at a current in mA, in 2⁻²⁴ (R431; rounding: assumption log 3). -/
def fuseHeat (y : DieX) (c ma theta : Nat) : Nat :=
  let w := wireOf (bitsOf (lsCfg y c) 12 3)
  let iN : Int := min w.1 (if lsLig y c then 6000 else 3000)
  let step := Num.quo 71 ((ma : Int) * ma * 16777216 - theta * (iN * iN)) (iN * iN * 1000 * w.2)
  ((theta : Int) + step).toNat

/-- LS_FUSE_UPDATE (R431): θ of the channel, or of the ligature on the sum of its currents; 1.21 latches. -/
def lsFuseUpdate (x c ma : Nat) (d : Dev) : Dev :=
  let y := d.di x
  if dieRuns d x && lsLead y c == c && bit (lsCfg y c) 20 then
    let th := fuseHeat y c ma (lsOf d x c).theta
    let d := modLs x c (fun l => { l with theta := th }) d
    let l := lsOf d x c
    if decide (121 * 16777216 ≤ 100 * th) && !l.latched then lsPend x c 1 d else d
  else d

/-- LS_THERMAL_LATCH (R432, R435): at the next tick, whatever the channel's state. -/
def lsThermalLatch (x ch : Nat) (d : Dev) : Dev :=
  let c := lsLead (d.di x) ch
  if dieRuns d x && !(lsOf d x c).th then lsPend x c 0 d else d

/-- What the channels of `mask` do at the next tick. -/
def lsPendAll (x b mask : Nat) (d : Dev) : Dev :=
  d.each ((List.range 6).filter (bit mask)) fun c d => if dieRuns d x && lsLead (d.di x) c == c then lsPend x c b d else d

/-- A write of LS_CLR.CLR (R429, R431). -/
def lsClr (x mask : Nat) (d : Dev) : Dev := lsPendAll x 3 mask d

/-- A write of LS_CLR.CLRTH (R432). -/
def lsClrTh (x mask : Nat) (d : Dev) : Dev := lsPendAll x 4 mask d

/-- `LS_STAT.STATE` of channel `c` (table "LSWx registers" and the line below it). -/
def lsState (y : DieX) (c : Nat) : Nat :=
  let l := nth y.ls c {}
  if lsLead y c ≠ c then 8
  else if l.th then 6 else if l.fuse then 5 else if l.oc then 4 else if lsShedOn y c then 7
  else if l.pauseEnd.isSome then 3 else if l.dueAt.isSome then 9
  else match l.run with
    | .off => 0
    | .inrush => 1
    | .on => 2

/-! Lock channels (R436, R437). -/

/-- The duty of the high side of lock channel `n` in %, at 25 kHz: fully on in the pull-in time, then HOLDD (R436). -/
def lockDuty (d : Dev) (n : Nat) : Nat :=
  let k := d.dy (n / 4)
  if !bit k.lkHs (n % 4) then 0 else if bit k.lkPull (n % 4) then 100 else (d.di (n / 4)).cfg.holdd

/-- LOCK_PULL_IN_END (R436): after PULLT the high side switches at HOLDD. -/
def lockPullInEnd (n : Nat) (d : Dev) : Dev :=
  let x := n / 4
  let i := n % 4
  if dieRuns d x && bit (d.dy x).lkPull i && decide (nth (d.dy x).lkPullEnd i 0 ≤ d.tim.mot) then
    d.modDy x fun k => { k with lkPull := setBit k.lkPull i false }
  else d

/-- LKOC (R437). -/
def lkoc (n : Nat) (d : Dev) : Dev :=
  let x := n / 4
  let i := n % 4
  if dieRuns d x && bit (d.dy x).lkHs i then
    let d := d.modDy x fun k =>
      { k with lkOc := setBit k.lkOc i true, lkHs := setBit k.lkHs i false, lkPull := setBit k.lkPull i false }
    dieTells x (tellFault (pgFIO x) Cz.FIO.LKOC n [Ev.FIO.LKFLT]) d
  else d

/-- LK_CLR (R437): the high side is off, so the condition is absent. -/
def lkClr (x mask : Nat) (d : Dev) : Dev :=
  d.each ((List.range 4).filter (bit mask)) fun i d =>
    if dieRuns d x then
      dieClears x (pgFIO x) Cz.FIO.LKOC (4 * x + i) (d.modDy x fun k => { k with lkOc := setBit k.lkOc i false })
    else d

/-! Test-pulse outputs (R420). -/

/-- TPO_OVERCURRENT (R420). -/
def tpoOvercurrent (t : Nat) (d : Dev) : Dev :=
  let x := t / 4
  let i := t % 4
  if dieRuns d x && bit (d.dy x).tpoOn i then
    let d := d.modDy x fun y => { y with tpoSc := setBit y.tpoSc i true, tpoOn := setBit y.tpoOn i false }
    dieTells x (tellFault (pgFIO x) Cz.FIO.TPOSC t [Ev.FIO.TPOFLT]) d
  else d

/-- TPO_CLR (R420): the latch is released and the TPO turned on again. -/
def tpoClr (x mask : Nat) (d : Dev) : Dev :=
  d.each ((List.range 4).filter (bit mask)) fun i d =>
    if dieRuns d x && bit (d.dy x).tpoSc i then
      dieClears x (pgFIO x) Cz.FIO.TPOSC (4 * x + i)
        (d.modDy x fun y => { y with tpoSc := setBit y.tpoSc i false, tpoOn := setBit y.tpoOn i true })
    else d

/-- DARK_PULSE_END (R305, R420), 200 µs after the pulse began: TPORB is judged from the output level in two consecutive periods. -/
def darkPulseEnd (t : Nat) (high : Bool) (d : Dev) : Dev :=
  let x := t / 4
  let i := t % 4
  let y := d.dy x
  if dieRuns d x && bit y.tpoDark i && decide (darkUntil d t ≤ d.tim.mot) then
    let n := if bit y.tpoSc i then 0 else if high then nth y.tpoRbN i 0 + 1 else 0
    let bad := decide (2 ≤ n)
    let new := bad && !bit y.tpoRb i
    let d := d.modDy x fun y =>
      { y with tpoDark := setBit y.tpoDark i false, tpoRbN := modNth (fun _ => min n 2) y.tpoRbN i, tpoRb := setBit y.tpoRb i bad }
    let d := if bad then d else dieClears x (pgFIO x) Cz.FIO.TPORB t d
    if new then dieTells x (tellFault (pgFIO x) Cz.FIO.TPORB t [Ev.FIO.TPOFLT]) d else d
  else d

/-! Inputs (R415 to R417). -/

/-- The field die of an input and its local index (R415). -/
def fieldInOf : FieldIn → Nat × Nat
  | .di n => (n.val / 16, n.val % 16)
  | .si n => (n.val / 8, 16 + n.val % 8)
  | .tli n => (0, 24 + n.val)
  | .mir n => (0, 28 + n.val)

/-- Whether a die holds the debounced level of its local input because the TPO that feeds it is in its dark pulse (R305). -/
def siHeld (d : Dev) (x i : Nat) : Bool :=
  if i < 16 ∨ 24 ≤ i then false
  else match d.sx.rec? with
    | none => false
    | some r => match nth r.tp (8 * x + (i - 16)) none with
      | some t => tpoDarkNow d t
      | none => false

/-- FIELD_INPUT_CHANGE (R416): the samples of an input have agreed for `us` µs; over its debounce time, as the die last received it,
the die accepts the level. A limp-home output follows it (R442). -/
def fieldInputChange (i : FieldIn) (level : Bool) (us : Nat) (d : Dev) : Dev :=
  let (x, k) := fieldInOf i
  if dieRuns d x && !siHeld d x k && decide (max 1 (nth (d.di x).cfg.deb k 1) ≤ us) then
    let d := d.modDi x fun y => { y with deb := setBit y.deb k level }
    if (d.di x).standalone then doDrive x d else d
  else d

/-! The field link (R14 to R17, R446). -/

/-- Publish the link status and the inputs of a die (R417, R446). -/
def publishIn (x : Nat) (d : Dev) : Dev :=
  let pg := pgFIO x
  let y := d.di x
  let chg := d.on pg FIO.LINK.STANDALONE != y.standalone || d.on pg FIO.LINK.LIMPIN != y.limpIn
  let d := ((d.putB pg FIO.LINK.STANDALONE y.standalone).putB pg FIO.LINK.LIMPIN y.limpIn).evIf chg pg Ev.FIO.LIMP
  let d := (d.put pg FIO.IN_NOW.IN y.deb).put pg FIO.IN_RAW.IN y.samp.raw
  let d := (d.put pg FIO.DIE.VFLD y.samp.vfld).put pg FIO.DIE.TJ y.samp.tj
  let limp := inLimp y
  if x = 0 then d.putB pgLIMP LIMP.LIMP_STAT.LIMPA limp else d.putB pgLIMP LIMP.LIMP_STAT.LIMPB limp

/-- Publish outputs, test-pulse outputs and lock channels of a die (R446). -/
def publishOut (x : Nat) (lkI : List (Nat × Nat)) (d : Dev) : Dev :=
  let pg := pgFIO x
  let y := d.di x
  let k := d.dy x
  let shed := (List.range 8).foldl (fun m c => setBit m c (doShedOn y c)) 0
  let d := (d.put pg FIO.DO_OUT.ON y.on).put pg FIO.DO_OUT.SHED shed
  let d := ((d.put pg FIO.DO_FLT.OC y.oc).put pg FIO.DO_FLT.TH y.th).put pg FIO.DO_FLT.RB y.rb |>.put pg FIO.DO_FLT.OPEN y.openL
  let dark := (List.range 4).foldl (fun m i => setBit m i (tpoDarkNow d (4 * x + i))) 0
  let d := (d.put pg FIO.TPO_STAT.ON (k.tpoOn &&& (15 - dark))).put pg FIO.TPO_STAT.SC k.tpoSc
  let d := (d.put pg FIO.TPO_STAT.RBF k.tpoRb).put pg FIO.TPO_STAT.DARK dark
  let d := ((d.put pg FIO.LK_STAT.HSCMD k.lkCmd).put pg FIO.LK_STAT.HSON k.lkHs).put pg FIO.LK_STAT.LSEN k.lkEn
  let d := (d.put pg FIO.LK_STAT.OC k.lkOc).put pg FIO.LK_STAT.TEST k.lkTest
  let hs (i : Nat) : Nat := (nth lkI i (0, 0)).1
  let ls (i : Nat) : Nat := (nth lkI i (0, 0)).2
  let d := ((d.put pg FIO.LK_I01.I0 (hs 0)).put pg FIO.LK_I01.I1 (hs 1)).put pg FIO.LK_I23.I2 (hs 2) |>.put pg FIO.LK_I23.I3 (hs 3)
  ((d.put pg FIO.LK_ILS01.I0 (ls 0)).put pg FIO.LK_ILS01.I1 (ls 1)).put pg FIO.LK_ILS23.I2 (ls 2) |>.put pg FIO.LK_ILS23.I3 (ls 3)

/-- Publish the load switches of a die (R446). -/
def publishLs (x : Nat) (d : Dev) : Dev :=
  let y := d.di x
  d.each (List.range 6) fun c d =>
    let l := nth y.ls (lsLead y c) {}
    let d := (d.put (pgLSW x) (LSW.LS_STAT.TJ.at c) (nth y.samp.lsTj c 250)).put (pgLSW x) (LSW.LS_STAT.TRY.at c) l.tries
    let d := d.put (pgLSW x) (LSW.LS_STAT.STATE.at c) (lsState y c)
    (d.put (pgLSW x) (LSW.LS_I.THETA.at c) (min (l.theta / 4096) 65535)).put (pgLSW x) (LSW.LS_I.I.at c) (nth y.samp.lsI c 0)

/-- The lower VFLD and the thresholds, in 10 mV. -/
def vmin (d : Dev) : Nat := d.get (pgFIO 0) FIO.VFLD_STAT.VMIN
def vwarn (d : Dev) : Nat := 10 * d.get (pgFIO 0) FIO.VFLDCFG.VWARN
def vlow (d : Dev) : Nat := 10 * d.get (pgFIO 0) FIO.VFLDCFG.VLOW
def vpf (d : Dev) : Nat := 10 * d.get (pgFIO 0) FIO.VFLDCFG.VPF

/-- The lower VFLD of the present dies, and since when it stands where it does (R438). -/
def publishVmin (d : Dev) : Dev :=
  let d := d.put (pgFIO 0) FIO.VFLD_STAT.VMIN (d.dies.foldl (fun m x => min m (d.get (pgFIO x) FIO.DIE.VFLD)) 65535)
  let v := vmin d
  let now : List Bool := [decide (v < vwarn d), decide (vwarn d + 50 < v), decide (v < vlow d), decide (vlow d + 50 < v), decide (v < vpf d)]
  { d with vfld := { d.vfld with since := now.zipIdx.map fun b => sinceNow d b.1 (nth d.vfld.since b.2 none) } }

/-- Whether VMIN has stood for `n` MOTCLK counts where `VfldX.since` numbers it. -/
def vstood (d : Dev) (i n : Nat) : Bool := lasted d (nth d.vfld.since i none) n

/-- The core's frame reaches the die: commands and configuration (R14, R421). -/
def dieReceives (x : Nat) (d : Dev) : Dev :=
  let c := dieCfgOf d x
  let m := dieCmdOf d x
  let now := d.tim.mot
  let d := d.modDi x fun y => { y with cfg := c, cmd := m, dieGot := true, dieGoodAt := some (y.dieGoodAt.getD now) }
  lockDrive x (doDrive x d)

/-- The die's frame reaches the core: samples and states (R446), the conditions of the drives of its axes, and what
the die tells (R372). -/
def coreReceives (x : Nat) (f : LinkFrame) (d : Dev) : Dev :=
  let now := d.tim.mot
  let d := d.modDi x fun y =>
    { y with samp := f.samp, fresh := true, goodAt := some (y.goodAt.getD now), lost := 0, lostRep := false
             rb := y.rb &&& f.samp.doBad, openL := y.openL &&& f.samp.doLow }
  let d := d.putB (pgFIO x) FIO.LINK.LOST false
  let d := d.each ((dieAxes x).filter fun a => d.part.hasLeaf a) hallTake
  let d := publishLs x (publishOut x f.lkI (publishIn x d))
  takeTells x (publishVmin (d.each ((dieAxes x).filter d.hasAxis) drvConds))

/-- A frame is discarded and counted (R15). -/
def frameBad (x : Nat) (crc : Bool) (d : Dev) : Dev :=
  (d.incSat (pgFIO x) (if crc then FIO.LINK.CRCERR else FIO.LINK.SEQERR)).ev (pgFIO x) Ev.FIO.LINKERR

/-- What a receiver finds of a frame. -/
inductive LinkFind where
  | good | crcBad | seqBad
  deriving DecidableEq, Repr

/-- The checks of a frame sent with sequence count `seq` and content `msg`, of which the lane flips the bits `err`, by a receiver
that expects the count `exp`; before its first good CRC it takes any count (R14, R15, assumption log 69). -/
def linkCheck (seq : Nat) (msg : List Nat) (err : Nat) (exp : Option Nat) : LinkFind :=
  let got := (seq ^^^ (err / 65536)) % 16
  if (crc16 (seq :: msg) ^^^ (err % 65536)) ≠ crc16 (got :: msg) then .crcBad
  else match exp with
    | some e => if got = e then .good else .seqBad
    | none => .good

/-- The count a receiver expects after a frame: a good CRC sets it (assumption log 69). -/
def linkExpect (seq err : Nat) (r : LinkFind) (exp : Option Nat) : Option Nat :=
  if r = .crcBad then exp else some ((seq ^^^ (err / 65536)) % 16)

/-- The core's frame of the period reaches the die. -/
def linkDown (x err : Nat) (d : Dev) : Dev :=
  let y := d.di x
  let r := linkCheck y.downSeq (Config.linkDown (dieCfgOf d x) (dieCmdOf d x)) err y.dieExp
  let d := d.modDi x fun y => { y with dieExp := linkExpect y.downSeq err r y.dieExp }
  match r with
  | .good => dieReceives x d
  | .crcBad => frameBad x true d
  | .seqBad => frameBad x false d

/-- The die's frame of the period reaches the core. -/
def linkUp (x : Nat) (f : LinkFrame) (d : Dev) : Dev :=
  let y := d.di x
  let r := linkCheck y.upSeq (Config.linkUp y f.samp) f.rx.toNat y.coreExp
  let d := d.modDi x fun y => { y with coreExp := linkExpect y.upSeq f.rx.toNat r y.coreExp }
  match r with
  | .good => coreReceives x f d
  | .crcBad => frameBad x true d
  | .seqBad => frameBad x false d

/-- FIELD_LINK_FRAME (R14, R15): both frames of the period. -/
def fieldLinkFrame (x : Nat) (f : LinkFrame) (d : Dev) : Dev :=
  if dieRuns d x then
    let d := d.modDi x fun y => { y with vown := f.samp.vfld }
    let d := if d.alive then linkUp x f (linkDown x f.tx.toNat d) else d
    if (d.di x).standalone then doDrive x d else d
  else d

/-- A PWM period brings the next frame each way, with the next sequence count (R14); one without a good frame counts toward the
loss, in both directions (R16, R17). -/
def linkPwm (d : Dev) : Dev :=
  d.each d.dies fun x d => d.modDi x fun y =>
    { y with lost := if y.fresh then 0 else min 8 (y.lost + 1), dieLost := if y.dieGot then 0 else min 8 (y.dieLost + 1)
             fresh := false, dieGot := false, downSeq := (y.downSeq + 1) % 16, upSeq := (y.upSeq + 1) % 16
             coreExp := y.coreExp.map fun e => (e + 1) % 16, dieExp := y.dieExp.map fun e => (e + 1) % 16
             goodAt := if !y.fresh && decide (7 ≤ y.lost) then none else y.goodAt
             dieGoodAt := if !y.dieGot && decide (7 ≤ y.dieLost) then none else y.dieGoodAt }

/-- Every load switch of a die goes off, at its next tick (R428). -/
def lsAllOff (x : Nat) (d : Dev) : Dev := d.each (List.range 6) fun c => lsPend x c 5

/-- FIELD_LINK_LOSS_DIE (R16): a die gets no good frame for 8 PWM periods, or its core die does not run. -/
def linkLossDie (x : Nat) (d : Dev) : Dev :=
  let y := d.di x
  if dieRuns d x && !y.standalone && (!d.alive || decide (8 ≤ y.dieLost)) then
    let d := d.each ((dieAxes x).filter d.hasAxis) fun a d => gatesOff a (if d.alive then calAbort a d else d)
    let d := d.modDi x fun y => { y with standalone := true }
    lsAllOff x (lockDrive x (doDrive x d))
  else d

/-- The functions of a die whose link is lost (R17): its inputs are unreliable, its axes stop. -/
def linkGone (x : Nat) (d : Dev) : Dev :=
  let d := (d.modDi x fun y => { y with lostRep := true, unrel := true, goodAt := none }).putB (pgFIO x) FIO.LINK.LOST true
  d.each ((dieAxes x).filter d.hasAxis) fun a d =>
    if a < 8 then seqFault a Cz.FIO.FLDLOST.code (reqStop a 3 false d)
    else d.modStp (a - 8) fun s => { s with fault := true }

/-- FIELD_LINK_LOSS_CORE (R17): one FLDLOST, the fault of every function of the die. -/
def linkLossCore (x : Nat) (d : Dev) : Dev :=
  let y := d.di x
  if d.dies.contains x && decide (8 ≤ y.lost) && !y.lostRep then (linkGone x d).fault (pgFIO x) Cz.FIO.FLDLOST 0xFF else d

/-- FIO_CTRL.RELEASE (R444): after 100 ms of good link the die leaves its standalone state, with every DO and LS off. -/
def fioRelease (x : Nat) (d : Dev) : Dev :=
  let y := d.di x
  let since (t : Option Nat) : Bool := t.any fun t => decide (t + msMot 100 ≤ d.tim.mot)
  let good := since y.goodAt && since y.dieGoodAt
  if dieRuns d x && good && (y.standalone || y.unrel) then
    let d := d.modDi x fun y => { y with standalone := false, unrel := false, on := 0 }
    (lsAllOff x d).c2off (pgFIO x) Cz.FIO.FLDLOST.code 0xFF
  else d

/-- LIMP_INPUT (R442): the land goes to both dies. -/
def limpInput (active : Bool) (d : Dev) : Dev :=
  d.each d.dies fun x d =>
    let d := d.modDi x fun y => { y with limpIn := active }
    if (d.di x).standalone then doDrive x (if active then d else lsAllOff x d) else d

/-! Reset of a field die (R572, R573). -/

/-- The die's own state out of reset; what the core holds of the die stays. -/
def dieBlank (alive : Bool) (y : DieX) : DieX :=
  { alive := alive, lost := y.lost, lostRep := y.lostRep, unrel := y.unrel, limpIn := y.limpIn, goodAt := y.goodAt, fresh := false
    samp := y.samp, vown := y.vown, applied := y.applied, lsApplied := y.lsApplied, downSeq := y.downSeq, coreExp := y.coreExp }

/-- FIELD_DIE_RESET (R572): every output, TPO and gate off. -/
def fieldDieReset (x : Nat) (d : Dev) : Dev :=
  if d.dies.contains x then
    let d := d.each ((dieAxes x).filter d.hasAxis) fun a d => gatesOff a (if d.alive then calAbort a d else d)
    let d := d.modDi x (dieBlank false)
    d.modDy x fun k => { tpoOn := 0, lkCmd := k.lkCmd, lkEn := k.lkEn }
  else d

/-- FIELD_DIE_POWER_UP (R416, R420, R572): inputs read inactive, the TPOs source. -/
def fieldDiePowerUp (x : Nat) (d : Dev) : Dev :=
  if d.dies.contains x && !(d.di x).alive then
    (d.modDi x (dieBlank true)).modDy x fun k => { lkCmd := k.lkCmd, lkEn := k.lkEn }
  else d

/-! Supply sag on VFLD (R438 to R441). -/

/-- SHEDT in MOTCLK counts. -/
def shedT (d : Dev) : Nat := msMot (10 * d.get (pgFIO 0) FIO.VFLDCFG.SHEDT)

/-- The shedding level whose condition holds (table "Shedding"). -/
def shedWant (d : Dev) : Nat :=
  let v := d.vfld
  if v.pf then 4 else if v.low then 3
  else if v.warn then
    (if v.warnAt + 2 * shedT d ≤ d.tim.mot then 3 else if v.warnAt + shedT d ≤ d.tim.mot then 2 else 1)
  else 0

/-- Publish the levels of VFLD. -/
def publishVfld (d : Dev) : Dev :=
  let pg := pgFIO 0
  (((d.putB pg FIO.VFLD_STAT.WARN d.vfld.warn).putB pg FIO.VFLD_STAT.LOW d.vfld.low).putB pg FIO.VFLD_STAT.PF d.vfld.pf).put
    pg FIO.VFLD_STAT.SHEDLVL d.vfld.lvl

/-- The shedding level takes a higher value at once; it falls by one, and by one more after each further SHEDT (R439). -/
def shedMove (d : Dev) : Dev :=
  let w := shedWant d
  let v := d.vfld
  let d := if v.lvl < w then { d with vfld := { v with lvl := w } }
    else if w < v.lvl ∧ (v.at_ = 0 ∨ v.at_ + shedT d ≤ d.tim.mot) then { d with vfld := { v with lvl := v.lvl - 1, at_ := d.tim.mot } }
    else d
  publishVfld d

/-- A level of VFLD changes: event VLEVEL (R438). -/
def vlevel (d : Dev) : Dev := d.ev (pgFIO 0) Ev.FIO.VLEVEL

/-- VFLD_WARN_SET (R438, R439). -/
def vfldWarnSet (d : Dev) : Dev :=
  if !d.vfld.warn && vstood d 0 (msMot 1) then
    shedMove (vlevel { d with vfld := { d.vfld with warn := true, warnAt := d.tim.mot } })
      |>.raise (pgFIO 0) Cz.FIO.VFWARN 0xFF
  else d

/-- VFLD_WARN_CLEAR (R438). -/
def vfldWarnClear (d : Dev) : Dev :=
  if d.vfld.warn && vstood d 1 (msMot 100) then shedMove (vlevel { d with vfld := { d.vfld with warn := false } }) else d

/-- While LOW is set, the stop path of every leaf and step whose set-point speed is not 0 (R440). -/
def lowStops (d : Dev) : Dev :=
  if d.vfld.low then
    d.each d.axes fun a d =>
      if a < 8 then (if (d.prf a).sp.v ≠ 0 then reqStop a 1 false d else d)
      else if (d.stp (a - 8)).sp.v ≠ 0 then d.modStp (a - 8) fun s => { s with stopReq := max s.stopReq 1 } else d
  else d

/-- VFLD_LOW_SET (R438, R440). -/
def vfldLowSet (d : Dev) : Dev :=
  if !d.vfld.low && vstood d 2 (msMot 1) then
    lowStops (shedMove (vlevel { d with vfld := { d.vfld with low := true } }) |>.raise (pgFIO 0) Cz.FIO.VFLOW 0xFF)
  else d

/-- VFLD_LOW_CLEAR (R438). -/
def vfldLowClear (d : Dev) : Dev :=
  if d.vfld.low && vstood d 3 (msMot 100) then shedMove (vlevel { d with vfld := { d.vfld with low := false } }) else d

/-- The reactions to a power failure (R441): everything shed, the quick stop of every axis. -/
def powerFails (d : Dev) : Dev :=
  let d := shedMove (vlevel { d with vfld := { d.vfld with pf := true } })
  d.each d.axes fun a d =>
    if a < 8 then reqStop a 2 false d else d.modStp (a - 8) fun s => { s with stopReq := max s.stopReq 2 }

/-- The part of VFLD_PF_SET that FIO gives: PFAIL, every output shed, the quick stop of every axis (R438, R441). -/
def vfldPfSet (d : Dev) : Dev := (powerFails d).fault (pgFIO 0) Cz.FIO.PFAIL 0xFF

/-- VFLD_PF_CLEAR (R438). -/
def vfldPfClear (d : Dev) : Dev :=
  if d.vfld.pf && vstood d 3 (msMot 100) then
    (shedMove (vlevel { d with vfld := { d.vfld with pf := false } })).c2off (pgFIO 0) Cz.FIO.PFAIL.code 0xFF
  else d

/-- SHED_STEP (R439). -/
def shedStep (d : Dev) : Dev := shedMove d

/-- The commit of FIOA keeps the active thresholds where the staged ones are out of order (R438); `old` holds the values
before the commit as (VWARN, VLOW, VPF). -/
def vfldCommit (old : Nat × Nat × Nat) (d : Dev) : Dev :=
  let pg := pgFIO 0
  if vpf d < vlow d ∧ vlow d < vwarn d then d
  else (((d.put pg FIO.VFLDCFG.VWARN old.1).put pg FIO.VFLDCFG.VLOW old.2.1).put pg FIO.VFLDCFG.VPF old.2.2).ev pg Ev.FIO.CFGCLAMP

/-- The input freeze copies `IN_NOW` (R417). -/
def freezeInputs (d : Dev) : Dev := d.each d.dies fun x d => d.put (pgFIO x) FIO.IN_FRZ.IN (d.get (pgFIO x) FIO.IN_NOW.IN)

/-! The commands. -/

/-- FIELD_LINK_LOSS_DIE (R16). -/
def execFieldLinkLossDie (die : DieNo) (s : State) : Host.Outcome State Fault Refusal := doDev (linkLossDie die.val) s

/-- FIELD_LINK_LOSS_CORE (R17). -/
def execFieldLinkLossCore (die : DieNo) (s : State) : Host.Outcome State Fault Refusal := doDev (Dev.live (linkLossCore die.val)) s

/-- FIELD_DIE_RESET (R572). -/
def execFieldDieReset (die : DieNo) (s : State) : Host.Outcome State Fault Refusal := doDev (fieldDieReset die.val) s

/-- FIELD_DIE_POWER_UP (R572). -/
def execFieldDiePowerUp (die : DieNo) (s : State) : Host.Outcome State Fault Refusal := doDev (fieldDiePowerUp die.val) s

/-- FIELD_INPUT_CHANGE (R416). -/
def execFieldInputChange (i : FieldIn) (level : HeldLevel) (s : State) : Host.Outcome State Fault Refusal :=
  doDev (fieldInputChange i level.level level.us.toNat) s

/-- TPO_OVERCURRENT (R420). -/
def execTpoOvercurrent (tpo : Fin 8) (s : State) : Host.Outcome State Fault Refusal := doDev (tpoOvercurrent tpo.val) s

/-- DARK_PULSE_END (R305, R420). -/
def execDarkPulseEnd (tpo : Fin 8) (high : Bool) (s : State) : Host.Outcome State Fault Refusal := doDev (darkPulseEnd tpo.val high) s

/-- DO_OVERLOAD (R426). -/
def execDoOverload (ch : Fin 16) (thermal : Bool) (s : State) : Host.Outcome State Fault Refusal := doDev (doOverload ch.val thermal) s

/-- DO_READBACK (R427). -/
def execDoReadback (ch : Fin 16) (s : State) : Host.Outcome State Fault Refusal := doDev (doReadback ch.val) s

/-- DO_OPEN_LOAD (R427). -/
def execDoOpenLoad (ch : Fin 16) (s : State) : Host.Outcome State Fault Refusal := doDev (doOpenLoad ch.val) s

/-- SWITCH_TICK (R428). -/
def execSwitchTick (die : DieNo) (s : State) : Host.Outcome State Fault Refusal := doDev (switchTick die.val) s

/-- LS_INRUSH_END (R428). -/
def execLsInrushEnd (die : DieNo) (ch : Fin 6) (s : State) : Host.Outcome State Fault Refusal := doDev (lsInrushEnd die.val ch.val) s

/-- LS_HARD_SHORT (R428). -/
def execLsHardShort (die : DieNo) (ch : Fin 6) (s : State) : Host.Outcome State Fault Refusal := doDev (lsHardShort die.val ch.val) s

/-- LS_OVERCURRENT_TRIP (R429). -/
def execLsOvercurrentTrip (die : DieNo) (ch : Fin 6) (s : State) : Host.Outcome State Fault Refusal := doDev (lsOvercurrentTrip die.val ch.val) s

/-- LS_PAUSE_END (R429). -/
def execLsPauseEnd (die : DieNo) (ch : Fin 6) (s : State) : Host.Outcome State Fault Refusal := doDev (lsPauseEnd die.val ch.val) s

/-- LS_RETRY (R434). -/
def execLsRetry (die : DieNo) (ch : Fin 6) (s : State) : Host.Outcome State Fault Refusal := doDev (lsRetry die.val ch.val) s

/-- LS_TRY_RESET (R429). -/
def execLsTryReset (die : DieNo) (ch : Fin 6) (s : State) : Host.Outcome State Fault Refusal := doDev (lsTryReset die.val ch.val) s

/-- LS_FUSE_UPDATE (R431). -/
def execLsFuseUpdate (die : DieNo) (ch : Fin 6) (ma : W16) (s : State) : Host.Outcome State Fault Refusal := doDev (lsFuseUpdate die.val ch.val ma.toNat) s

/-- LS_THERMAL_LATCH (R432). -/
def execLsThermalLatch (die : DieNo) (ch : Fin 6) (s : State) : Host.Outcome State Fault Refusal := doDev (lsThermalLatch die.val ch.val) s

/-- LOCK_PULL_IN_END (R436). -/
def execLockPullInEnd (leaf : LeafNo) (s : State) : Host.Outcome State Fault Refusal := doDev (lockPullInEnd leaf.val) s

/-- LKOC (R437). -/
def execLkoc (leaf : LeafNo) (s : State) : Host.Outcome State Fault Refusal := doDev (lkoc leaf.val) s

/-- VFLD_WARN_SET (R438, R439). -/
def execVfldWarnSet (s : State) : Host.Outcome State Fault Refusal := doDev (Dev.live vfldWarnSet) s

/-- VFLD_WARN_CLEAR (R438). -/
def execVfldWarnClear (s : State) : Host.Outcome State Fault Refusal := doDev (Dev.live vfldWarnClear) s

/-- VFLD_LOW_SET (R440). -/
def execVfldLowSet (s : State) : Host.Outcome State Fault Refusal := doDev (Dev.live vfldLowSet) s

/-- VFLD_LOW_CLEAR (R438). -/
def execVfldLowClear (s : State) : Host.Outcome State Fault Refusal := doDev (Dev.live vfldLowClear) s

/-- VFLD_PF_CLEAR (R438). -/
def execVfldPfClear (s : State) : Host.Outcome State Fault Refusal := doDev (Dev.live vfldPfClear) s

/-- SHED_STEP (R439). -/
def execShedStep (s : State) : Host.Outcome State Fault Refusal := doDev (Dev.live shedStep) s

/-- LIMP_INPUT (R442). -/
def execLimpInput (active : Bool) (s : State) : Host.Outcome State Fault Refusal := doDev (limpInput active) s

end Sys2Proof.Machine
end

