-- ==== Sys2Proof/Machine/Imdel.lean ====
section
/-! DEFINITION. The Imdel complex: voting, lane faults and resync (R333 to R349), folds (R342), the rotating proof (R350 to
R354), the Service pair (R357 to R362), debug and replay (R363 to R366). -/

namespace Sys2Proof.Machine

/-- The state of lane `i`. -/
def laneSt (d : Dev) (i : Nat) : LaneState := vget d.imd.lane i .out

/-- Code of a lane state in `IMD.LANE_STAT`. -/
def LaneState.code : LaneState → Nat
  | .run => 0
  | .resync => 1
  | .proof => 2
  | .out => 3

/-- The lanes in RUN. -/
def runLanes (d : Dev) : List Nat := (List.range 3).filter fun i => laneSt d i == .run

/-- Lane faults of lane `i` in the last 3,600 s. -/
def laneCnt (d : Dev) (i : Nat) : Nat :=
  (d.imd.faults.filter fun f => f.1 == i && decide (d.tim.mot < f.2 + msMot 3600000)).length

/-- Publish `LANE_STAT` (R349, R368). -/
def publishLanes (d : Dev) : Dev :=
  let anyOut := (List.range 3).any fun i => laneSt d i == .out
  let mode := if anyOut then 2 else if (runLanes d).length = 3 then 0 else 1
  let d := (d.put pgIMD IMD.LANE_STAT.LANE0 (laneSt d 0).code).put pgIMD IMD.LANE_STAT.LANE1 (laneSt d 1).code
  (d.put pgIMD IMD.LANE_STAT.LANE2 (laneSt d 2).code).put pgIMD IMD.LANE_STAT.MODE mode

/-- Set the state of lane `i`. -/
def setLane (i : Nat) (st : LaneState) (d : Dev) : Dev :=
  publishLanes { d with imd := { d.imd with lane := vmod d.imd.lane i fun _ => st } }

/-- A lane becomes OUT: permanent duplex (R348, R349, R352). -/
def laneOut (i : Nat) (c : Cause) (d : Dev) : Dev := ((setLane i .out d).ev pgIMD Ev.IMD.DUPLEX).raise pgIMD c i

/-- The record of a lane fault (R344, R349, R368). -/
def countLane (i : Nat) (c : Cause) (d : Dev) : Dev :=
  let keep := d.imd.faults.filter fun f => decide (d.tim.mot < f.2 + msMot 3600000)
  let d := { d with imd := { d.imd with faults := (i, d.tim.mot) :: keep } }
  let d := ((d.put pgIMD IMD.LANE_STAT.LASTODD i).incSat pgIMD IMD.LANE_TOT.LFLTS).put pgIMD IMD.LAST_LF.LANE i
  let d := (d.put pgIMD IMD.LAST_LF.CAUSE c.code).put pgIMD IMD.LAST_LF_LO.DT_LO d.dt
  (d.put pgIMD IMD.LAST_LF_HI.DT_HI (d.dt / 4294967296)).ev pgIMD Ev.IMD.LANEFLT

/-- A duplex disagreement or fault halts the device (R346). -/
def dupMis (inst : Nat) (d : Dev) : Dev := d.raise pgIMD Cz.IMD.DUPMIS inst

/-- A lane fault (R344, R346, R347, R349). -/
def laneFault (i : Nat) (c : Cause) (d : Dev) : Dev :=
  if laneSt d i != .run then d
  else if (runLanes d).length < 3 then dupMis i d
  else
    let d := (countLane i c d).raise pgIMD c i
    if 3 ≤ laneCnt d i then laneOut i Cz.IMD.DUPLEX d
    else setLane i .resync { d with imd := { d.imd with crcRetry := false, afterProof := false } }

/-! Voting (R333 to R340, R346). -/

/-- What lane `i` presents. -/
def lanePres (v : VoteEnv) (i : Nat) : Option LanePres := if i = 0 then v.p0 else if i = 1 then v.p1 else v.p2

/-- The presentation on which two of the lanes agree. -/
def agreed (v : VoteEnv) : List Nat → Option LanePres
  | [] => none
  | i :: l => match lanePres v i with
    | some p => if l.any (fun j => lanePres v j == some p) then some p else agreed v l
    | none => agreed v l

/-- A byte of a stage with its parity bit has an odd number of ones (R338). -/
def oddByte (w k : Nat) : Bool := (((List.range 9).map fun i => b2n (bit w (9 * k + i))).sum) % 2 == 1

/-- A delay-register stage finds a parity error, or both rails of a bit equal (R339). -/
def railBad (w : RailWord) : Bool :=
  w.t ^^^ w.c != BitVec.allOnes 36 || (List.range 4).any fun k => !oddByte w.t.toNat k

/-- Whether the delay register of a lane has an error: C0 has none, C1 one of 2 stages, C2 one of 4 (R338, R339). -/
def dlyBad (v : VoteEnv) (i : Nat) : Bool :=
  if i = 0 then false else if i = 1 then (v.st1.take 2).any railBad else (v.st2.take 4).any railBad

/-- The residue modulo 7 of a result against the one that the operands' residues predict (R340). A quotient is checked through its
product with the divisor, and what a shift right drops in the same way (assumption log 85). -/
def residueBad (x : ArithCheck) : Bool :=
  let ra : Int := x.a.toNat % 7
  let rb : Int := x.b.toNat % 7
  let rr : Int := x.r % 7
  let rm : Int := x.rem.toNat % 7
  let p : Int := 2 ^ (x.b.toNat % 3)
  match x.op with
  | .add => (ra + rb - rr) % 7 != 0
  | .sub => (ra - rb - rr) % 7 != 0
  | .mul => (ra * rb - rr) % 7 != 0
  | .shl => (ra * p - rr) % 7 != 0
  | .shr => (rr * p + rm - ra) % 7 != 0
  | .div => (rr * rb + rm - ra) % 7 != 0

/-- The fault that a lane shows by itself (R339 to R341). -/
def laneOwn (v : VoteEnv) (i : Nat) : Option Cause :=
  if dlyBad v i then some Cz.IMD.LANEDLY
  else if v.arith.any (fun a => a.1.val == i && residueBad a.2) then some Cz.IMD.LANERES
  else if v.ecc.getLsbD i then some Cz.IMD.LANEECC
  else none

/-- The lanes' own faults. -/
def laneOwns (v : VoteEnv) (lanes : List Nat) : List (Nat × Cause) := lanes.filterMap fun i => (laneOwn v i).map fun c => (i, c)

/-- The lane faults of a voted transaction: a lane's own, then what differs from the agreed value. -/
def voteFaults (v : VoteEnv) (lanes : List Nat) (p : LanePres) : List (Nat × Cause) :=
  lanes.filterMap fun i => match laneOwn v i with
    | some c => some (i, c)
    | none => if lanePres v i == some p then none else some (i, if p.kind == .fold then Cz.IMD.LANEFOLD else Cz.IMD.LANEVOTE)

/-- The duplex check (R346): the lane at fault, 0xFF for a plain mismatch, `none` where both agree. -/
def duplexBad (v : VoteEnv) (i j : Nat) : Option Nat :=
  let own (k : Nat) : Bool := (laneOwn v k).isSome || (lanePres v k).isNone
  if own i then some i else if own j then some j else if lanePres v i == lanePres v j then none else some 0xFF

/-- The agreed presentation of three lanes, those with an error in their delay register left out (R333, R339). -/
def voted (v : VoteEnv) (lanes : List Nat) : Option LanePres := agreed v (lanes.filter fun n => !dlyBad v n)

/-- A transaction at the voters: what happens to the device, and the presentation that is issued (R333 to R346). A halted
triplet or one with fewer than two lanes issues nothing. -/
def vote (v : VoteEnv) (d : Dev) : Dev × Option LanePres :=
  let run := runLanes d
  let faults (l : List (Nat × Cause)) (d : Dev) : Dev := d.each l fun f => laneFault f.1 f.2
  if v.vchk then (faults (laneOwns v run) (d.raise pgIMD Cz.IMD.VCHK 0xFF), none)
  else
    match run with
    | [i, j] => match duplexBad v i j with
      | some k => (dupMis k d, none)
      | none => (d, lanePres v i)
    | [_, _, _] =>
      match voted v run with
      | none => (faults (laneOwns v run) (d.raise pgIMD Cz.IMD.NOMAJ 0xFF), none)
      | some p => (faults (voteFaults v run p) d, some p)
    | _ => (d, none)

/-! Folds (R342). -/

/-- The four bytes of a word, least significant first. -/
def wordLe (v : Nat) : List Nat := (List.range 4).map fun k => v / 2 ^ (8 * k) % 256

/-- The CRC-32C of a lane at a fold point, over what the model holds of it: g0 to g31, the control registers by number and value, the
local-write signature (R342, assumption log 85). -/
def laneFold (c : CoreX) : Nat :=
  crc32c (c.g.toList.flatMap wordLe ++ (c.ctl.flatMap fun e => wordLe e.1 ++ wordLe e.2) ++ wordLe c.sig)

/-- A voted fold reaches `IMD.FOLD`; the lanes restart their local-write signatures (R342). -/
def foldDone (crc : Nat) (d : Dev) : Dev :=
  let d := (d.put pgIMD IMD.FOLD.CRC crc).inc pgIMD IMD.FOLD_CNT.COUNT
  { d with imd := { d.imd with core := d.imd.core.map fun c => { c with sig := 0 } } }

/-- A fold point (R342): the lanes in RUN present their folds to the voters. What the runtime's own instructions have done to the
registers changes every lane's CRC by one common value, since a CRC is linear: it is a free value (assumption log 4, 85). -/
def foldPoint (d : Dev) : Dev :=
  let p (i : Nat) : Option LanePres := some { kind := .fold, addr := 0, data := BitVec.ofNat 32 (laneFold (vget d.imd.core i {})) }
  let r := vote { p0 := p 0, p1 := p 1, p2 := p 2 } d
  match r.2 with
  | some q => (foldDone (q.data.toNat ^^^ r.1.fresh 20 % 4294967296) r.1).drew
  | none => r.1.drew

/-! The proof pass of start-up (R355, R356). -/

/-- A word as a healthy stage holds it (R338). -/
def railOf (w : Nat) : RailWord :=
  let t := (List.range 4).foldl (fun m k =>
    let b := w / 2 ^ (8 * k) % 256
    let ones := ((List.range 8).map fun i => b2n (bit b i)).sum
    m + (b + 256 * ((ones + 1) % 2)) * 2 ^ (9 * k)) 0
  { t := BitVec.ofNat 36 t, c := ~~~ (BitVec.ofNat 36 t) }

/-- The eight patterns of each step, a walking one and a walking zero (R355). -/
def proofWords : List Nat := (List.range 4).flatMap fun k => [2 ^ (8 * k), 4294967295 - 2 ^ (8 * k)]

/-- The injection of proof step `i` with pattern `w` (table "Proof-pass steps"): the voters' part. -/
def proofInject (i w : Nat) : VoteEnv :=
  let p (kind : PresKind) (x : Nat) : Option LanePres := some { kind := kind, addr := 0, data := BitVec.ofNat 32 x }
  let all : VoteEnv := { p0 := p .write w, p1 := p .write w, p2 := p .write w }
  let odd := w ^^^ 1
  let good := railOf w
  let parity : RailWord := { t := good.t ^^^ 256, c := good.c ^^^ 256 }
  let equal : RailWord := { good with c := good.c ^^^ 1 }
  match i with
  | 0 => { all with p0 := p .write odd }
  | 1 => { all with p1 := p .write odd }
  | 2 => { all with p2 := p .write odd }
  | 3 => { all with p1 := p .write odd, p2 := p .write (w ^^^ 2) }
  | 4 => { all with st1 := [good, parity] }
  | 5 => { all with st2 := [good, parity] }
  | 6 => { all with st1 := [equal] }
  | 7 => { all with st2 := [equal] }
  | 8 => { all with vchk := true }
  | 9 => { p0 := p .fold odd, p1 := p .fold w, p2 := p .fold w }
  | _ => all

/-- The flags that the voters, the checker and the delay registers raise on three lanes in RUN. -/
def voteFlags (v : VoteEnv) : ProofFlags :=
  let lanes := [0, 1, 2]
  let mask (f : Nat → Bool) : BitVec 3 := BitVec.ofNat 3 (lanes.foldl (fun m i => setBit m i (f i)) 0)
  let excl := mask (dlyBad v)
  match voted v lanes with
  | none => { nomaj := 3, excl := excl, vchk := v.vchk }
  | some p =>
    let odd := mask fun i => !dlyBad v i && lanePres v i != some p
    if p.kind == .fold then { excl := excl, vchk := v.vchk, foldOdd := odd }
    else { va := odd, vb := odd, excl := excl, vchk := v.vchk }

/-- What the injection of a step raises; step 10 is the pair comparator's (R357). -/
def proofFlags (i w : Nat) : ProofFlags := if i = 10 then { pair := w != w ^^^ 1 } else voteFlags (proofInject i w)

/-- The expected detection of each step (table "Proof-pass steps"). -/
def proofExpected : Nat → ProofFlags
  | 0 => { va := 1, vb := 1 }
  | 1 => { va := 2, vb := 2 }
  | 2 => { va := 4, vb := 4 }
  | 3 => { nomaj := 3 }
  | 4 => { excl := 2 }
  | 5 => { excl := 4 }
  | 6 => { excl := 2 }
  | 7 => { excl := 4 }
  | 8 => { vchk := true }
  | 9 => { foldOdd := 1 }
  | _ => { pair := true }

/-- A step passes when every injection raises the expected flags and nothing else (R356); `seen` are flags that a fault of the hardware
made other than the injection does. -/
def proofPasses (seen : List (Fin 11 × ProofFlags)) (i : Nat) : Bool :=
  proofWords.all (fun w => proofFlags i w == proofExpected i) && seen.all fun e => e.1.val != i || e.2 == proofExpected i

/-- The first step that fails. -/
def proofFirst (seen : List (Fin 11 × ProofFlags)) : Option Nat := (List.range 11).find? fun i => !proofPasses seen i

/-! Resync (R344, R348). -/

/-- The lane in RESYNC. -/
def resyncLane (d : Dev) : Option Nat := (List.range 3).find? fun i => laneSt d i == .resync

/-- A halt request that waited for the end of a proof takes effect (R354, R364). -/
def debugHaltNow (d : Dev) : Dev :=
  let d := { d with imd := { d.imd with halted := true, haltReq := false } }
  ((d.putB pgIMD IMD.DBG.HALTED true).ev pgIMD Ev.IMD.DBGHALT).raise pgIMD Cz.IMD.DBGHALT 0xFF

/-- A proof has ended (R352, R354). -/
def proofEnded (d : Dev) : Dev :=
  let d := d.putB pgIMD IMD.PROOF_STAT.ACTIVE false
  if d.imd.haltReq then debugHaltNow d else d

/-- RESYNC_TRANSFER (R344, R348): the excluded lane takes the state of a running lane; a second bad CRC puts it OUT. -/
def resyncTransfer (crcOk : Bool) (t10 : Nat) (d : Dev) : Dev :=
  match resyncLane d with
  | none => d
  | some i =>
    if crcOk then
      let after := d.imd.afterProof
      let good := vget d.imd.core ((runLanes d).headD 0) {}
      let d := { d with imd := { d.imd with core := vmod d.imd.core i (fun _ => good), crcRetry := false, afterProof := false } }
      let d := ((setLane i .run d).incSat pgIMD IMD.LANE_TOT.RSYNCS).ev pgIMD Ev.IMD.RESYNC
      let d := (d.put pgIMD IMD.RSYNC_T.LASTT t10).put pgIMD IMD.RSYNC_T.MAXT (max t10 (d.get pgIMD IMD.RSYNC_T.MAXT))
      if after then proofEnded (d.ev pgIMD Ev.IMD.PROOFEND) else d
    else if d.imd.crcRetry then
      let after := d.imd.afterProof
      let d := { d with imd := { d.imd with crcRetry := false, afterProof := false } }
      (laneOut i Cz.IMD.RSYNCF d).iff_ after proofEnded
    else { d with imd := { d.imd with crcRetry := true } }

/-! The rotating proof (R350 to R354). -/

/-- 20 minutes in MOTCLK counts. -/
abbrev proofPeriod : Nat := 300000000000

/-- PROOF_DUE (R350): each multiple of 20 minutes since the end of start-up, one after another. -/
def proofDue (d : Dev) : Dev :=
  let m := d.imd
  let k := m.dues + 1
  let at_ := m.startAt + k * proofPeriod
  if m.started && decide (at_ ≤ d.tim.mot) then
    if d.on pgIMD IMD.PROOF_CFG.PROOFEN then
      let first := m.waiting = 0
      ({ d with imd := { m with dues := k, waiting := m.waiting + 1, dueAt := if first then at_ else m.dueAt,
                                dueQ := if first then [] else m.dueQ ++ [at_] } }).putB pgIMD IMD.PROOF_STAT.DEFER true
    else { d with imd := { m with dues := k } }
  else d

/-- A step state in which a proof may start (R351). -/
def stepQuiet (d : Dev) (k : Nat) : Bool :=
  let s := (d.stp k).st
  s == .unref || s == .retracted || s == .extended || s == .stopped || s == .inhibited || s == .fault

/-- An online change of the forme is pending: one is prepared, ready, or asked to switch. -/
def olcPending (d : Dev) : Bool := d.olc.st == 1 || d.olc.st == 2

/-- An impression switch is pending. -/
def switchPending (d : Dev) : Bool := d.boot.armed || d.boot.applying

/-- The first three conditions of R351. -/
def proofQuiet (d : Dev) : Bool :=
  (d.leaves.all fun n => leafRest d n && !(nth d.sy.hold n {}).on) && d.steps.all (stepQuiet d) &&
    !switchPending d && !olcPending d

/-- The last two conditions of R351, which keep a lane that is OUT from being joined by a second (R353). -/
def proofLanes (d : Dev) : Bool := (runLanes d).length == 3 && !d.imd.halted

/-- A waiting proof starts: its lane is excluded (R352). -/
def proofBegin (d : Dev) : Dev :=
  let lane := d.get pgIMD IMD.PROOF_STAT.NEXT
  let w := d.imd.waiting - 1
  let d := { d with imd := { d.imd with waiting := w, dueAt := d.imd.dueQ.headD 0, dueQ := d.imd.dueQ.tail, late := false } }
  let d := (d.putB pgIMD IMD.PROOF_STAT.DEFER (w != 0)).putB pgIMD IMD.PROOF_STAT.ACTIVE true
  (setLane lane .proof (d.put pgIMD IMD.PROOF_STAT.NEXT ((lane + 1) % 3))).ev pgIMD Ev.IMD.PROOFST

/-- PROOF_START (R351), at a program-cycle boundary. -/
def proofStart (d : Dev) : Dev :=
  if decide (0 < d.imd.waiting) && !d.imd.late && proofQuiet d && proofLanes d then proofBegin d else d

/-- PROOFLATE (R351), at a program-cycle boundary: where it is not quiet DEFMAX minutes after the due time, the proof starts at the next
boundary that the lanes allow, quiet or not. -/
def prooflate (d : Dev) : Dev :=
  let past := decide (d.imd.dueAt + msMot (60000 * d.get pgIMD IMD.PROOF_CFG.DEFMAX) ≤ d.tim.mot)
  let late := decide (0 < d.imd.waiting) && (d.imd.late || past && !proofQuiet d)
  if late && proofLanes d then (proofBegin (d.ev pgIMD Ev.IMD.PROOFLATE)).raise pgIMD Cz.IMD.PROOFLATE 0xFF
  else { d with imd := { d.imd with late := late } }

/-- BIST_END (R352). -/
def bistEnd (pass : Bool) (us : Nat) (d : Dev) : Dev :=
  match (List.range 3).find? fun i => laneSt d i == .proof with
  | none => d
  | some i =>
    let d := d.put pgIMD IMD.PROOF_T.BISTT us
    let d := d.put pgIMD IMD.PROOF_STAT.PASS (setBit (d.get pgIMD IMD.PROOF_STAT.PASS) i pass)
    let d := { d with imd := { d.imd with provedAt := vmod d.imd.provedAt i fun _ => d.tim.mot } }
    if pass then setLane i .resync { d with imd := { d.imd with afterProof := true, crcRetry := false } }
    else proofEnded (laneOut i Cz.IMD.PROOFFAIL d)

/-! The Service pair (R357 to R362). -/

/-- Whether S0 and S1 run as independent cores (R360). -/
def splitMode (d : Dev) : Bool := d.on pgSVC SVC.SVC_MODE.SPLIT

/-- Open Neltan sessions end at a restart of the pair (R359). -/
def endSessions (d : Dev) : Dev := { d with net := { d.net with nel := { d.net.nel with sess := [] } } }

/-- A fault of the pair, or in SPLIT of one core: nothing further is issued, the cores are reset and the firmware restarts (R358 to
R360). -/
def svcRestart (code core : Nat) (d : Dev) : Dev :=
  let sp := splitMode d
  let one := sp && core == 1
  let d := (d.incSat pgSVC (if one then SVC.SVC_STAT.RST1 else SVC.SVC_STAT.RST0)).put pgSVC SVC.SVC_STAT.LASTCAUSE code
  let stop0 := !one
  let stop1 := !sp || one
  let d := { d with svc := { d.svc with up0 := d.svc.up0 && !stop0, up1 := d.svc.up1 && !stop1,
                                        halted := d.svc.halted && !stop0, replay := if stop0 then [] else d.svc.replay
                                        core := vmod (vmod d.svc.core 0 fun c => if stop0 then {} else c) 1 fun c => if stop1 then {} else c } }
  let d := d.iff_ stop0 fun d => ((d.putB pgSVC SVC.SVC_DBG.HALTED false).putB pgSVC SVC.SVC_DBG.FULL false).put
    pgSVC SVC.SVC_DBG.REPLAY 0
  endSessions (d.ev pgSVC Ev.SVC.RESTART)

/-- The restart with its fault (R358). -/
def svcFault (c : Cause) (core : Nat) (d : Dev) : Dev :=
  svcRestart c.code core (d.fault pgSVC c (if splitMode d then core else 0xFF))

/-- The cause of a Service pair fault (table "SVC fault causes"). -/
def svcCauseOf : SvcFault → Cause
  | .mismatch .. => Cz.SVC.SPMIS
  | .delay .. => Cz.SVC.SPDLY
  | .residue .. => Cz.SVC.SPRES
  | .ecc => Cz.SVC.SPECC
  | .memory => Cz.SVC.SVCMEM

/-- Whether a Service core runs; in lockstep both do or neither. -/
def svcUp (d : Dev) (core : Nat) : Bool := if splitMode d && core = 1 then d.svc.up1 else d.svc.up0

/-- Whether the pair finds a fault (R357, R358): transactions that differ at the comparator, which SPLIT has not (R360), an error in the
two stages of S1's delay register, a residue, an uncorrectable error. -/
def svcDetects (d : Dev) : SvcFault → Bool
  | .mismatch p0 p1 => !splitMode d && p0 != p1
  | .delay stages => (stages.take 2).any railBad
  | .residue a => residueBad a
  | .ecc => true
  | .memory => true

/-- SERVICE_PAIR_FAULT (R358, R360). -/
def servicePairFault (f : SvcFault) (core : Nat) (d : Dev) : Dev :=
  if svcUp d core && svcDetects d f then svcFault (svcCauseOf f) core d else d

/-- SERVICE_PAIR_RESTART_DONE (R358): the firmware runs again. -/
def servicePairRestartDone (d : Dev) : Dev :=
  if d.imd.held || d.svc.up0 && d.svc.up1 then d
  else
    let now := d.tim.mot
    let s := d.svc
    ({ d with svc := { s with up0 := true, up1 := true, kick0 := if s.up0 then s.kick0 else now,
                              kick1 := if s.up1 then s.kick1 else now } }).c2clr pgSVC

/-- SERVICE_WATCHDOG (R361). -/
def serviceWatchdog (core : Nat) (d : Dev) : Dev :=
  let sp := splitMode d
  let one := core = 1
  let en := if one then sp && d.on pgSVC SVC.SVC_WDOG.EN1 else d.on pgSVC SVC.SVC_WDOG.EN0
  let kick := if one then d.svc.kick1 else d.svc.kick0
  let halted := d.svc.halted && (!one || !sp)
  if en && !halted && svcUp d core && decide (kick + msMot (d.get pgSVC SVC.SVC_WDOG.TIMEOUT) ≤ d.tim.mot) then
    svcFault Cz.SVC.SVCWDOG core (d.ev pgSVC Ev.SVC.WDOG)
  else d

/-- The watchdogs that a write of `SVC_WDOG` enables count from then (R361). -/
def wdogEnabled (was0 was1 : Bool) (d : Dev) : Dev :=
  let now := d.tim.mot
  let k0 := d.on pgSVC SVC.SVC_WDOG.EN0 && !was0
  let k1 := d.on pgSVC SVC.SVC_WDOG.EN1 && !was1
  { d with svc := { d.svc with kick0 := if k0 then now else d.svc.kick0, kick1 := if k1 then now else d.svc.kick1 } }

/-- A write to `SVC_KICK` (R361): each core its own bit, and no other source; in lockstep KICK0 serves the pair. -/
def svcKickWrite (src : Src) (v : Nat) (d : Dev) : Dev :=
  let k0 := bit v 0 && src == .svc0
  let k1 := splitMode d && bit v 1 && src == .svc1
  { d with svc := { d.svc with kick0 := if k0 then d.tim.mot else d.svc.kick0, kick1 := if k1 then d.tim.mot else d.svc.kick1 } }

/-- A write of DTSET_CTRL.SET arms the value, in FN8D-N alone (R362). -/
def dtsetArm (v : Nat) (d : Dev) : Dev :=
  if d.part.hasNet then d.ev pgSYS Ev.SYS.WLOCK
  else if bit v 0 then
    { d with svc := { d.svc with dtArm := some (d.get pgSVC SVC.DTSET_LO.DT_LO + 4294967296 * d.get pgSVC SVC.DTSET_HI.DT_HI) } }
  else d

/-! Debug and replay (R363 to R366). -/

/-- Lifecycle BLANK or DEVELOP (R539). -/
def openLife (d : Dev) : Bool := d.otp.lc == 0 || d.otp.lc == 1

/-- Whether a proof runs: a lane in PROOF, or in the resync that ends it. -/
def proofRuns (d : Dev) : Bool := (List.range 3).any (fun i => laneSt d i == .proof) || d.imd.afterProof

/-- TRIPLET_DEBUG_HALT (R354, R364). -/
def tripletDebugHalt (d : Dev) : Dev :=
  if openLife d && !d.imd.halted then
    if proofRuns d then { d with imd := { d.imd with haltReq := true } } else debugHaltNow d
  else d

/-- SERVICE_DEBUG_HALT (R366). -/
def serviceDebugHalt (d : Dev) : Dev :=
  if (openLife d || (d.otp.lc == 2 && d.boot.unlocked)) && !d.svc.halted && d.svc.up0 then
    (({ d with svc := { d.svc with halted := true, haltAt := d.tim.mot } }).putB pgSVC SVC.SVC_DBG.HALTED true).ev pgSVC Ev.SVC.DBGHALT
  else d

/-- Apply a debugger's value to a core. A write to a control register or to local scratch memory enters the local-write signature with
its address and data (R342). -/
def CoreX.apply (e : ReplayEnt) (c : CoreX) : CoreX :=
  let sig := crc32cOn c.sig (wordLe e.idx ++ wordLe e.val)
  if e.kind = 0 then { c with g := vmod c.g e.idx fun _ => e.val }
  else if e.kind = 1 then { c with ctl := Cells.put c.ctl e.idx e.val 0, sig := sig }
  else { c with scratch := Cells.put c.scratch e.idx e.val 0, sig := sig }

/-- A debugger write to C0, or with `service` to S0: into the core and its replay log; a full log refuses it (R365, R366). In
SPLIT S1 is not kept in step. -/
def debugLocal (service : Bool) (kind idx val : Nat) (d : Dev) : Dev :=
  if service then
    let e : ReplayEnt := { at_ := (vget d.svc.core 0 {}).retire, kind := kind, idx := idx, val := val }
    if splitMode d then { d with svc := { d.svc with core := vmod d.svc.core 0 (CoreX.apply e) } }
    else if 256 ≤ d.svc.replay.length then d.putB pgSVC SVC.SVC_DBG.FULL true
    else
      let d := { d with svc := { d.svc with core := vmod d.svc.core 0 (CoreX.apply e), replay := d.svc.replay ++ [e] } }
      (d.put pgSVC SVC.SVC_DBG.REPLAY d.svc.replay.length).putB pgSVC SVC.SVC_DBG.FULL (d.svc.replay.length == 256)
  else
    let e : ReplayEnt := { at_ := (vget d.imd.core 0 {}).retire, kind := kind, idx := idx, val := val }
    if 256 ≤ d.imd.replay.length then d.putB pgIMD IMD.DBG.FULL true
    else
      let d := { d with imd := { d.imd with core := vmod d.imd.core 0 (CoreX.apply e), replay := d.imd.replay ++ [e] } }
      (d.put pgIMD IMD.DBG.REPLAY d.imd.replay.length).putB pgIMD IMD.DBG.FULL (d.imd.replay.length == 256)

/-- The other cores apply the log at its retire counts, and its entries are freed (R365, R366). -/
def replayAll (l : List ReplayEnt) (c : CoreX) : CoreX := l.foldl (fun c e => c.apply e) c

/-- The retire count after `n` more instructions. -/
def CoreX.retires (n : Nat) (c : CoreX) : CoreX := { c with retire := c.retire + n }

/-- DEBUG_RESUME (R364 to R366): a resume, or a step of `n` instructions after which the processor is halted again. -/
def debugResume (service : Bool) (n : Nat) (step : Bool) (d : Dev) : Dev :=
  if service then
    if d.svc.halted then
      let l := d.svc.replay
      let core := if splitMode d then vmod d.svc.core 0 (CoreX.retires n)
        else (vmod d.svc.core 1 (replayAll l)).map (CoreX.retires n)
      let now := d.tim.mot
      let d := { d with svc := { d.svc with core := core, replay := [], halted := step,
                                            kick0 := if step then d.svc.kick0 else d.svc.kick0 + (now - d.svc.haltAt) } }
      ((d.put pgSVC SVC.SVC_DBG.REPLAY 0).putB pgSVC SVC.SVC_DBG.FULL false).putB pgSVC SVC.SVC_DBG.HALTED step
    else d
  else if d.imd.halted then
    let l := d.imd.replay
    let takes (i : Nat) (c : CoreX) : CoreX := if laneSt d i == .run then replayAll l c else c
    let core := (vmod (vmod d.imd.core 1 (takes 1)) 2 (takes 2)).map (CoreX.retires n)
    let d := { d with imd := { d.imd with core := core, replay := [], halted := step } }
    ((d.put pgIMD IMD.DBG.REPLAY 0).putB pgIMD IMD.DBG.FULL false).putB pgIMD IMD.DBG.HALTED step
  else d

/-! The commands. -/

/-- RESYNC_TRANSFER (R344, R348). -/
def execResyncTransfer (crcOk : Bool) (t : W16) (s : State) : Host.Outcome State Fault Refusal :=
  doDev (Dev.live (resyncTransfer crcOk t.toNat)) s

/-- PROOF_DUE (R350). -/
def execProofDue (s : State) : Host.Outcome State Fault Refusal := doDev (Dev.live proofDue) s

/-- PROOF_START (R351, R352). -/
def execProofStart (s : State) : Host.Outcome State Fault Refusal := doDev (Dev.live (Dev.when_ (·.tim.cycleDue) proofStart)) s

/-- PROOFLATE (R351). -/
def execProoflate (s : State) : Host.Outcome State Fault Refusal := doDev (Dev.live (Dev.when_ (·.tim.cycleDue) prooflate)) s

/-- BIST_END (R352). -/
def execBistEnd (pass : Bool) (us : W16) (s : State) : Host.Outcome State Fault Refusal := doDev (Dev.live (bistEnd pass us.toNat)) s

/-- SERVICE_PAIR_FAULT (R358). -/
def execServicePairFault (f : SvcFault) (core : Fin 2) (s : State) : Host.Outcome State Fault Refusal :=
  doDev (Dev.live (servicePairFault f core.val)) s

/-- SERVICE_PAIR_RESTART_DONE (R358). -/
def execServicePairRestartDone (s : State) : Host.Outcome State Fault Refusal := doDev (Dev.live servicePairRestartDone) s

/-- SERVICE_WATCHDOG (R361). -/
def execServiceWatchdog (core : Fin 2) (s : State) : Host.Outcome State Fault Refusal :=
  doDev (Dev.live (serviceWatchdog core.val)) s

/-- TRIPLET_DEBUG_HALT (R354, R364). -/
def execTripletDebugHalt (s : State) : Host.Outcome State Fault Refusal := doDev (Dev.live tripletDebugHalt) s

/-- SERVICE_DEBUG_HALT (R366). -/
def execServiceDebugHalt (s : State) : Host.Outcome State Fault Refusal := doDev (Dev.live serviceDebugHalt) s

/-- DEBUG_RESUME (R364 to R366). -/
def execDebugResume (service : Bool) (retired : W32) (step : Bool) (s : State) : Host.Outcome State Fault Refusal :=
  doDev (Dev.live (debugResume service retired.toNat step)) s

end Sys2Proof.Machine
end

