-- ==== Sys2Proof/Machine/Numbers.lean ====
section
/-! DEFINITION. The type codes of the forme and arithmetic in a type (table "Type codes", R405): integers exactly, then
narrowed; REAL and LREAL as IEEE 754 binary32 and binary64 with rounding to nearest even. -/

namespace Sys2Proof.Machine

/-- Bytes of a type code, 0 where the code names no type. -/
def tySize (ty : Nat) : Nat :=
  if ty = 1 ∨ ty = 2 ∨ ty = 6 then 1 else if ty = 3 ∨ ty = 7 then 2 else if ty = 4 ∨ ty = 8 ∨ ty = 10 then 4
  else if ty = 5 ∨ ty = 9 ∨ ty = 11 ∨ ty = 12 then 8 else 0

/-- Bits of a type. -/
def tyBits (ty : Nat) : Nat := 8 * tySize ty

/-- Signed integer types: SINT to LINT and TIME. -/
def tySigned (ty : Nat) : Bool := (decide (2 ≤ ty) && decide (ty ≤ 5)) || ty == 12

/-- REAL and LREAL. -/
def tyFloat (ty : Nat) : Bool := ty == 10 || ty == 11

/-- Whether a type code names a type. -/
def tyOk (ty : Nat) : Bool := decide (1 ≤ ty) && decide (ty ≤ 12)

/-- The integer an entry holds in a type. -/
def tyInt (ty raw : Nat) : Int := if tySigned ty then sgn (tyBits ty) raw else (raw % 2 ^ tyBits ty : Nat)

/-- An integer wrapped into a type's entry. -/
def tyWrap (ty : Nat) (i : Int) : Nat := if ty = 1 then (i % 2).toNat else uns (tyBits ty) i

/-- The least and greatest value of an integer type. -/
def tyLo (ty : Nat) : Int := if tySigned ty then -((2 ^ (tyBits ty - 1) : Nat) : Int) else 0
def tyHi (ty : Nat) : Int :=
  if ty = 1 then 1 else if tySigned ty then ((2 ^ (tyBits ty - 1) : Nat) : Int) - 1 else ((2 ^ tyBits ty : Nat) : Int) - 1

/-- A floating value. -/
inductive Flt where
  | nan
  | inf (neg : Bool)
  | fin (neg : Bool) (m : Nat) (e : Int)
  deriving DecidableEq, Repr

/-- Exponent and fraction bits of a floating type. -/
def fltFmt (ty : Nat) : Nat × Nat := if ty = 10 then (8, 23) else (11, 52)

/-- Exponent bias of a floating type. -/
def fltBias (ty : Nat) : Int := if ty = 10 then 127 else 1023

/-- The value of a floating entry. -/
def fltOf (ty raw : Nat) : Flt :=
  let (eb, mb) := fltFmt ty
  let neg := bit raw (eb + mb)
  let e := bitsOf raw mb eb
  let m := bitsOf raw 0 mb
  if e = 2 ^ eb - 1 then (if m = 0 then .inf neg else .nan)
  else if e = 0 then .fin neg m (1 - fltBias ty - mb)
  else .fin neg (m + 2 ^ mb) ((e : Int) - fltBias ty - mb)

/-- A NaN: quiet, its sign and payload a free value (assumption log 5). -/
def fltNan (op ty a b : Nat) : Nat :=
  let (eb, mb) := fltFmt ty
  let f := Config.opFree op ty a b
  (2 ^ eb - 1) * 2 ^ mb + 2 ^ (mb - 1) + f % 2 ^ (mb - 1) + (if f / 2 ^ (mb - 1) % 2 = 1 then 2 ^ (eb + mb) else 0)

/-- An infinity. -/
def fltInf (ty : Nat) (neg : Bool) : Nat :=
  let (eb, mb) := fltFmt ty
  (2 ^ eb - 1) * 2 ^ mb + (if neg then 2 ^ (eb + mb) else 0)

/-- `n / d` to the nearest integer, ties to even. -/
def roundEven (n d : Nat) : Nat :=
  let q := n / d
  let r := n % d
  if 2 * r < d then q else if d < 2 * r then q + 1 else q + q % 2

/-- `n / d · 2^k` as numerator and denominator. -/
def scale2 (n d : Nat) (k : Int) : Nat × Nat := if 0 ≤ k then (n * 2 ^ k.toNat, d) else (n, d * 2 ^ (-k).toNat)

/-- The entry nearest to ±`n / d`, ties to even (R405). -/
def fltRound (ty : Nat) (neg : Bool) (n d : Nat) : Nat :=
  let (eb, mb) := fltFmt ty
  let s := if neg then 2 ^ (eb + mb) else 0
  if n = 0 then s
  else
    let e0 : Int := (Nat.log2 n : Int) - Nat.log2 d
    let t := scale2 n d (-e0)
    let e := if t.1 < t.2 then e0 - 1 else e0            -- 2^e ≤ n/d < 2^(e+1)
    let lo : Int := 1 - fltBias ty
    let q := (if e < lo then lo else e) - mb
    let u := scale2 n d (-q)
    let m := roundEven u.1 u.2
    -- a carry out of the fraction moves into the exponent field by plain addition
    let raw := if m < 2 ^ mb then m else ((q + mb + fltBias ty - 1).toNat) * 2 ^ mb + m
    if (2 ^ eb - 1) * 2 ^ mb ≤ raw then fltInf ty neg else s + raw

/-- A finite value as a signed numerator over a denominator. -/
def fltNum (neg : Bool) (m : Nat) (e : Int) : Int × Nat :=
  let t := scale2 m 1 e
  (if neg then -(t.1 : Int) else t.1, t.2)

/-- The entry of an exact rational; an exact zero takes the sign given. -/
def fltRat (ty : Nat) (n : Int) (d : Nat) (zneg : Bool) : Nat := fltRound ty (if n = 0 then zneg else decide (n < 0)) n.natAbs d

/-- Sum of two entries. -/
def fltAdd (op ty a b : Nat) : Nat :=
  match fltOf ty a, fltOf ty b with
  | .nan, _ => fltNan op ty a b
  | _, .nan => fltNan op ty a b
  | .inf x, .inf y => if x = y then fltInf ty x else fltNan op ty a b
  | .inf x, _ => fltInf ty x
  | _, .inf y => fltInf ty y
  | .fin s m e, .fin t n f =>
    let x := fltNum s m e
    let y := fltNum t n f
    fltRat ty (x.1 * y.2 + y.1 * x.2) (x.2 * y.2) (s && t)

/-- An entry with its sign changed. -/
def fltNeg (ty a : Nat) : Nat := setBit (a % 2 ^ tyBits ty) (tyBits ty - 1) (!bit a (tyBits ty - 1))

/-- Product of two entries. -/
def fltMul (op ty a b : Nat) : Nat :=
  match fltOf ty a, fltOf ty b with
  | .nan, _ => fltNan op ty a b
  | _, .nan => fltNan op ty a b
  | .inf x, .inf y => fltInf ty (x != y)
  | .inf x, .fin t n _ => if n = 0 then fltNan op ty a b else fltInf ty (x != t)
  | .fin s m _, .inf y => if m = 0 then fltNan op ty a b else fltInf ty (s != y)
  | .fin s m e, .fin t n f =>
    let r := scale2 (m * n) 1 (e + f)
    fltRound ty (s != t) r.1 r.2

/-- Quotient of two entries. -/
def fltDiv (op ty a b : Nat) : Nat :=
  match fltOf ty a, fltOf ty b with
  | .nan, _ => fltNan op ty a b
  | _, .nan => fltNan op ty a b
  | .inf _, .inf _ => fltNan op ty a b
  | .inf x, .fin t _ _ => fltInf ty (x != t)
  | .fin s _ _, .inf y => fltRound ty (s != y) 0 1
  | .fin s m e, .fin t n f =>
    if n = 0 then (if m = 0 then fltNan op ty a b else fltInf ty (s != t))
    else
      let r := scale2 m n (e - f)
      fltRound ty (s != t) r.1 r.2

/-- Comparison of two entries: `none` where one is a NaN. -/
def fltCmp (ty a b : Nat) : Option Ordering :=
  match fltOf ty a, fltOf ty b with
  | .nan, _ => none
  | _, .nan => none
  | .inf x, .inf y => some (if x = y then .eq else if x then .lt else .gt)
  | .inf x, _ => some (if x then .lt else .gt)
  | _, .inf y => some (if y then .gt else .lt)
  | .fin s m e, .fin t n f =>
    let x := fltNum s m e
    let y := fltNum t n f
    some (compare (x.1 * y.2) (y.1 * x.2))

/-- Comparison of two entries of any type. -/
def tyCmp (ty a b : Nat) : Option Ordering := if tyFloat ty then fltCmp ty a b else some (compare (tyInt ty a) (tyInt ty b))

/-- A floating value truncated toward zero. -/
def fltTrunc (neg : Bool) (m : Nat) (e : Int) : Int :=
  let t := scale2 m 1 e
  if neg then -((t.1 / t.2 : Nat) : Int) else (t.1 / t.2 : Nat)

/-- The number of the op in the op table, where a free value depends on it. -/
abbrev opADD : Nat := 0x10
abbrev opSUB : Nat := 0x11
abbrev opMUL : Nat := 0x12
abbrev opDIV : Nat := 0x13
abbrev opMOD : Nat := 0x14
abbrev opNEG : Nat := 0x15
abbrev opABS : Nat := 0x16
abbrev opSHL : Nat := 0x1C
abbrev opSHR : Nat := 0x1D
abbrev opCVT : Nat := 0x28

/-- A result that no rule states (assumption log 5). -/
def opOpen (op ty a b : Nat) : Nat := if ty = 1 then Config.opFree op ty a b % 2 else Config.opFree op ty a b % 2 ^ tyBits ty

/-- ADD, SUB and MUL (R405). -/
def tyAdd (ty a b : Nat) : Nat := if tyFloat ty then fltAdd opADD ty a b else tyWrap ty (tyInt ty a + tyInt ty b)
def tySub (ty a b : Nat) : Nat := if tyFloat ty then fltAdd opSUB ty a (fltNeg ty b) else tyWrap ty (tyInt ty a - tyInt ty b)
def tyMul (ty a b : Nat) : Nat := if tyFloat ty then fltMul opMUL ty a b else tyWrap ty (tyInt ty a * tyInt ty b)

/-- DIV with a divisor that is not integer 0 (R405): truncated; a quotient outside the type is not stated. -/
def tyDiv (ty a b : Nat) : Nat :=
  if tyFloat ty then fltDiv opDIV ty a b
  else
    let q := (tyInt ty a).tdiv (tyInt ty b)
    if tyLo ty ≤ q ∧ q ≤ tyHi ty then tyWrap ty q else opOpen opDIV ty a b

/-- MOD with a divisor that is not integer 0 (R405): the sign of the dividend; not stated for REAL and LREAL. -/
def tyMod (ty a b : Nat) : Nat := if tyFloat ty then opOpen opMOD ty a b else tyWrap ty ((tyInt ty a).tmod (tyInt ty b))

/-- NEG (R405). -/
def tyNeg (ty a : Nat) : Nat := if tyFloat ty then fltNeg ty a else tyWrap ty (-(tyInt ty a))

/-- ABS: the most negative value has none in its type, and no rule states the result. -/
def tyAbs (ty a : Nat) : Nat :=
  if tyFloat ty then setBit (a % 2 ^ tyBits ty) (tyBits ty - 1) false
  else if (tyInt ty a).natAbs ≤ tyHi ty then tyWrap ty (tyInt ty a).natAbs else opOpen opABS ty a 0

/-- NOT in a type; BOOL has the values 0 and 1. -/
def tyNot (ty a : Nat) : Nat := if ty = 1 then 1 - a % 2 else 2 ^ tyBits ty - 1 - a % 2 ^ tyBits ty

/-- SHL and SHR by a count below the width; a greater count has no stated result. -/
def tyShl (ty a n : Nat) : Nat :=
  let k := n % 2 ^ tyBits ty
  if k < tyBits ty then (if ty = 1 then opOpen opSHL ty a n else a % 2 ^ tyBits ty * 2 ^ k % 2 ^ tyBits ty) else opOpen opSHL ty a n
def tyShr (ty a n : Nat) : Nat :=
  let k := n % 2 ^ tyBits ty
  if k < tyBits ty then (if ty = 1 then opOpen opSHR ty a n else uns (tyBits ty) (tyInt ty a / (2 ^ k : Nat))) else opOpen opSHR ty a n

/-- CVT from `src` to `ty` (R405). An integer outside the target type has no stated result. -/
def tyCvt (ty src a : Nat) : Nat :=
  if tyFloat src then
    match fltOf src a with
    | .nan => if tyFloat ty then fltNan opCVT ty a src else 0
    | .inf s => if tyFloat ty then fltInf ty s else tyWrap ty (if s then tyLo ty else tyHi ty)
    | .fin s m e =>
      if tyFloat ty then (let t := scale2 m 1 e; fltRound ty s t.1 t.2)
      else tyWrap ty (clampI (tyLo ty) (tyHi ty) (fltTrunc s m e))
  else
    let v := tyInt src a
    if tyFloat ty then fltRat ty v 1 false
    else if tyLo ty ≤ v ∧ v ≤ tyHi ty then tyWrap ty v else opOpen opCVT ty a src

end Sys2Proof.Machine
end

