-- ==== Sys2Proof/Machine/Forme.lean ====
section
/-! DEFINITION. The forme: its image in the forme store (headings "Forme image", R404), its tasks and their faults (R387 to
R400), the ops but CALL (heading "Forme code", R405), forces (R411 to R413) and online change (R407 to R410). -/

namespace Sys2Proof.Machine

/-! The image. -/

/-- First address of a half of the forme store. -/
def halfBase (h : Nat) : Nat := 0x10000000 + h * 0x200000

/-- A little-endian number of `n` bytes in a half. -/
def imgN (s : State) (h ofs n : Nat) : Nat := Memory.getW sramEmpty s.mem (halfBase h + ofs) n

/-- Bytes of a half. -/
def imgL (s : State) (h ofs n : Nat) : List Nat := Memory.getL sramEmpty s.mem (halfBase h + ofs) n

/-- The header of a forme image (table "Forme header"). -/
structure FormeHdr where
  magic : Nat
  ver : Nat
  hlen : Nat
  imgLen : Nat
  id : Nat
  build : Nat
  nmin : Nat
  flags : Nat
  nblk : Nat
  blkOfs : Nat
  ntag : Nat
  tagOfs : Nat
  codeOfs : Nat
  codeLen : Nat
  initOfs : Nat
  initLen : Nat
  entInit : Nat
  entMain : Nat
  entMsync : Nat
  entErr : Nat
  mapHash : Nat
  stack : Nat
  safeCrc : Nat
  crcOk : Bool
  deriving DecidableEq, Repr

/-- The header of the image in a half. -/
def formeHdr (s : State) (h : Nat) : FormeHdr :=
  let g := imgN s h
  { magic := g 0x00 4, ver := g 0x04 2, hlen := g 0x06 2, imgLen := g 0x08 4, id := g 0x0C 4, build := g 0x10 4
    nmin := g 0x14 1, flags := g 0x15 1, nblk := g 0x16 2, blkOfs := g 0x18 4, ntag := g 0x1C 4, tagOfs := g 0x20 4
    codeOfs := g 0x24 4, codeLen := g 0x28 4, initOfs := g 0x2C 4, initLen := g 0x30 4, entInit := g 0x34 2
    entMain := g 0x36 2, entMsync := g 0x38 2, entErr := g 0x3A 2, mapHash := g 0x3C 4, stack := g 0x40 2
    safeCrc := g 0x44 4, crcOk := crc32c (imgL s h 0 0x7C) == g 0x7C 4 }

/-- A block-table entry (table "Block-table entry"). -/
structure FormeBlk where
  codeOfs : Nat
  codeLen : Nat
  instOfs : Nat
  instLen : Nat
  type : Nat
  flags : Nat
  deriving DecidableEq, Repr

/-- Block `i` of the image in a half. -/
def formeBlk (s : State) (h i : Nat) : FormeBlk :=
  let b := imgN s h 0x18 4 + 20 * i
  let g (o n : Nat) : Nat := imgN s h (b + o) n
  { codeOfs := g 0 4, codeLen := g 4 4, instOfs := g 8 4, instLen := g 12 4, type := g 16 2, flags := g 18 1 }

/-- Index, within the half, of the first code word of block `i`. -/
def blkWord (s : State) (h i : Nat) : Nat := (imgN s h 0x24 4 + (formeBlk s h i).codeOfs) / 4

/-- A tag-table entry (table "Tag-table entry"). -/
structure FormeTag where
  tag : Nat
  ofs : Nat
  len : Nat
  type : Nat
  kind : Nat
  safe : Bool
  deriving DecidableEq, Repr

/-- The tags of the image in a half. -/
def formeTags (s : State) (h : Nat) : List FormeTag :=
  (List.range (imgN s h 0x1C 4 % 65536)).map fun i =>
    let b := imgN s h 0x20 4 + 12 * i
    let g (o n : Nat) : Nat := imgN s h (b + o) n
    { tag := g 0 4, ofs := g 4 4, len := g 8 2, type := g 10 1, kind := g 11 1 % 4, safe := bit (g 11 1) 2 }

/-- An op with its place in the block's code, in words. -/
structure FormeOp where
  pos : Nat
  op : Nat
  ty : Nat
  arg : Nat
  ext : Nat
  len : Nat
  deriving DecidableEq, Repr

/-- Ops to which the op table gives ARG 0. -/
def opArgless (op : Nat) : Bool :=
  op == 0x00 || op == 0x02 || (decide (0x09 ≤ op) && decide (op < 0x28)) || op == 0x39

/-- Whether OP, TY and ARG are those of an op of the op table. -/
def opKnown (op ty arg : Nat) : Bool :=
  let typed := tyOk ty
  (!opArgless op || arg == 0) &&
  (if op = 0x00 ∨ (0x09 ≤ op ∧ op ≤ 0x0B) ∨ (0x30 ≤ op ∧ op ≤ 0x32) ∨ op = 0x38 ∨ op = 0x39 ∨ op = 0x3F then ty == 0
  else ((0x01 ≤ op ∧ op ≤ 0x08) ∨ (0x10 ≤ op ∧ op ≤ 0x16) ∨ (0x18 ≤ op ∧ op ≤ 0x1D) ∨ (0x20 ≤ op ∧ op ≤ 0x25) ∨ op = 0x28) && typed)

/-- Words that follow an op's own word: the constant of LDK, the element count of LDX and STX. -/
def opExt (op ty : Nat) : Nat := if op = 0x02 then (if tySize ty = 8 then 2 else 1) else if op = 0x07 ∨ op = 0x08 then 1 else 0

/-- The ops in a block's code words, `none` where they do not decode into ops of the op table; `fuel` bounds their number. -/
def codeOps : Nat → Nat → List Nat → Option (List FormeOp)
  | _, _, [] => some []
  | 0, _, _ :: _ => none
  | fuel + 1, pos, w :: ws =>
    let op := bitsOf w 24 8
    let ty := bitsOf w 20 4
    let n := opExt op ty
    if opKnown op ty (bitsOf w 0 20) && decide (n ≤ ws.length) then
      match codeOps fuel (pos + 1 + n) (ws.drop n) with
      | some l => some ({ pos := pos, op := op, ty := ty, arg := bitsOf w 0 20, ext := ws.headD 0, len := 1 + n } :: l)
      | none => none
    else none

/-- The code words of a block. -/
def blkCode (s : State) (h i : Nat) : List Nat :=
  (List.range ((formeBlk s h i).codeLen / 4)).map fun k => imgN s h (4 * (blkWord s h i + k)) 4

/-- The ops of a block. -/
def blkOps (s : State) (h i : Nat) : Option (List FormeOp) :=
  let c := blkCode s h i
  codeOps c.length 0 c

/-- An image access of `n` bytes lies within an item of the image map with its direction (R404). -/
def inItem (map : List ImgItem) (out : Bool) (ofs n : Nat) : Bool :=
  map.any fun it => it.out == out && decide (it.ofs ≤ ofs) && decide (ofs + n ≤ it.ofs + it.len)

/-- One op passes the static checks of R404; `map` is `none` where they leave the image map out (R407). -/
def opFits (b : FormeBlk) (nblk : Nat) (map : Option (List ImgItem)) (o : FormeOp) : Bool :=
  let inMap (out : Bool) : Bool := match map with
    | some m => inItem m out o.arg (tySize o.ty)
    | none => true
  if o.op = 0x03 ∨ o.op = 0x04 then decide (o.arg + tySize o.ty ≤ b.instLen)
  else if o.op = 0x07 ∨ o.op = 0x08 then decide (o.arg + o.ext * tySize o.ty ≤ b.instLen)
  else if o.op = 0x05 then inMap false
  else if o.op = 0x06 then inMap true
  else if 0x30 ≤ o.op ∧ o.op ≤ 0x32 then
    let t := (o.pos : Int) + 1 + sgn 20 o.arg
    decide (0 ≤ t) && decide (t < (b.codeLen / 4 : Nat))
  else if o.op = 0x38 then decide (o.arg < nblk)
  else if o.op = 0x28 then tyOk (o.arg % 16)
  else true

/-- The calls from block `i` nest at most `fuel` deep, so none is recursive (R404). -/
def callsFit (s : State) (h : Nat) : Nat → Nat → Bool
  | 0, _ => false
  | fuel + 1, i => match blkOps s h i with
    | some l => l.all fun o => o.op != 0x38 || callsFit s h fuel o.arg
    | none => false

/-- Whether STOUT is reachable from block `i`. -/
def stoutFrom (s : State) (h : Nat) : Nat → Nat → Bool
  | 0, _ => false
  | fuel + 1, i => match blkOps s h i with
    | some l => l.any fun o => o.op == 0x06 || (o.op == 0x38 && stoutFrom s h fuel o.arg)
    | none => false

/-- Two ranges do not meet. -/
def apart (a b : Nat × Nat) : Bool := decide (a.1 + a.2 ≤ b.1) || decide (b.1 + b.2 ≤ a.1) || a.2 == 0 || b.2 == 0

/-- The sections of an image, its colophon the last, lie in it and do not overlap (R404, R532). -/
def sectionsFit (f : FormeHdr) : Bool :=
  let l : List (Nat × Nat) := [(0, 0x80), (f.blkOfs, 20 * f.nblk), (f.tagOfs, 12 * f.ntag), (f.codeOfs, f.codeLen), (f.initOfs, f.initLen),
    (f.imgLen - 256, 256)]
  l.all (fun x => decide (x.1 + x.2 ≤ f.imgLen) && x.1 % 8 == 0) &&
  l.zipIdx.all fun x => l.zipIdx.all fun y => x.2 == y.2 || apart x.1 y.1

/-- An entry index names an existing block with FLAGS.TASK set; `none` allowed where 0xFFFF is. -/
def entryFits (s : State) (h nblk e : Nat) (opt : Bool) : Bool :=
  (opt && e == 0xFFFF) || (decide (e < nblk) && bit (formeBlk s h e).flags 1)

/-- The safe blocks' code, in block order, matches SAFECRC (R404). -/
def safeCrcOk (s : State) (h : Nat) (f : FormeHdr) : Bool :=
  let safe := (List.range f.nblk).filter fun i => bit (formeBlk s h i).flags 0
  let code := safe.flatMap fun i => imgL s h (f.codeOfs + (formeBlk s h i).codeOfs) (formeBlk s h i).codeLen
  if safe.isEmpty then f.safeCrc == 0 else crc32c code == f.safeCrc

/-- The load checks of R404; an online change leaves the checks against the image map out (R407). -/
def formeOk (s : State) (h : Nat) (withMap : Bool) : Bool :=
  let f := formeHdr s h
  let map := if withMap then some s.dev.forme.map else none
  let blks := List.range f.nblk
  f.magic == 0x4D524F46 && f.ver / 256 == 1 && f.hlen == 0x80 && f.crcOk && decide (f.imgLen ≤ 0x200000) &&
  decide (4 ≤ f.nmin) && decide (f.nmin ≤ 64) && decide (1 ≤ f.nblk) && decide (f.nblk ≤ 4096) && decide (f.ntag ≤ 65535) &&
  decide (f.initLen ≤ 0xD0000) && decide (1 ≤ f.stack) && decide (f.stack ≤ 128) && f.codeLen % 4 == 0 && sectionsFit f &&
  entryFits s h f.nblk f.entInit true && entryFits s h f.nblk f.entMain false && entryFits s h f.nblk f.entMsync true &&
  entryFits s h f.nblk f.entErr true &&
  blks.all (fun i =>
    let b := formeBlk s h i
    decide (b.codeOfs + b.codeLen ≤ f.codeLen) && b.codeOfs % 4 == 0 && b.instOfs % 8 == 0 &&
    (match blkOps s h i with
      | some l => l.all (opFits b f.nblk map)
      | none => false)) &&
  ([f.entInit, f.entMain, f.entMsync, f.entErr].all fun e => e == 0xFFFF || callsFit s h 33 e) &&
  (f.entMsync == 0xFFFF || !stoutFrom s h 33 f.entMsync) && safeCrcOk s h f && bit s.dev.boot.mark h

/-! Galley (table "Galley map"). -/

def inBank (b : Nat) : Nat := 0x20000000 + b * 0x10000
def outBank (b : Nat) : Nat := 0x20020000 + b * 0x10000
def regionBase (r : Nat) : Nat := 0x20050000 + r * 0xD0000

/-- The frozen input bank, the working and the committed output bank. -/
def frozenBank (d : Dev) : Nat := inBank (1 - d.forme.inFill)
def fillBank (d : Dev) : Nat := inBank d.forme.inFill
def workBank (d : Dev) : Nat := outBank d.forme.outWork
def committedBank (d : Dev) : Nat := outBank (1 - d.forme.outWork)

/-- Store a little-endian number in the core's memories. -/
def State.poke (a n v : Nat) (s : State) : State := { s with mem := Memory.putW sramEmpty s.mem a n v }

/-- A little-endian number in the core's memories. -/
def State.peek (s : State) (a n : Nat) : Nat := Memory.getW sramEmpty s.mem a n

/-! Tasks. -/

/-- A task of the forme. -/
def Dev.task (d : Dev) : TaskId → TaskX
  | .main => d.forme.main
  | .msync => d.forme.msync
  | .error => d.forme.error
  | .init => d.forme.init

/-- Change a task. -/
def Dev.modTask (t : TaskId) (f : TaskX → TaskX) (d : Dev) : Dev :=
  match t with
  | .main => { d with forme := { d.forme with main := f d.forme.main } }
  | .msync => { d with forme := { d.forme with msync := f d.forme.msync } }
  | .error => { d with forme := { d.forme with error := f d.forme.error } }
  | .init => { d with forme := { d.forme with init := f d.forme.init } }

/-- Codes of `TRAPINFO.TASK`. -/
def TaskId.code : TaskId → Nat
  | .main => 1
  | .msync => 2
  | .error => 3
  | .init => 4

/-- The task that executes: the running task of the highest priority (R387). The init task runs at start-up, and for an
online change at the lowest priority. -/
def Dev.current (d : Dev) : Option TaskId :=
  let on (t : TaskId) : Bool := (d.task t).st == .running
  if d.forme.st = 2 then
    if on .msync then some .msync else if on .error then some .error else if on .main then some .main
    else if on .init then some .init else none
  else if d.forme.st = 1 then (if on .init then some .init else none) else none

/-- The half a task executes, and the instance region it uses: the new forme's for the init task of an online change. -/
def taskHalf (d : Dev) (t : TaskId) : Nat := if t == .init && d.olc.st == 1 then d.olc.half else d.forme.half
def taskRegion (d : Dev) (t : TaskId) : Nat := if t == .init && d.olc.st == 1 then 1 - d.forme.region else d.forme.region

/-- Whether the runtime executes the code of a safe block: safe context, besides its own start-up and system work (R402). The
forme in execution passed SAFECRC at its load check (R404). -/
def safeBlock (s : State) : Bool :=
  match s.dev.current with
  | some t => bit (formeBlk s (taskHalf s.dev t) (s.dev.task t).blk).flags 0
  | none => false

/-- The reasons of an error task (table "FRM registers", ERRINFO): bits 1 TRAP, 2 LATE, 3 MSOVR. -/
def addReason (b : Nat) (d : Dev) : Dev := { d with forme := { d.forme with reasons := setBit d.forme.reasons b true } }

/-- Publish `FORME_STAT` and `OLC_STAT`. -/
def publishForme (d : Dev) : Dev :=
  let f := d.forme
  let d := ((d.put pgFRM FRM.FORME_STAT.STATE f.st).put pgFRM FRM.FORME_STAT.HALF f.half).put pgFRM FRM.FORME_STAT.REGION f.region
  let d := ((d.putB pgFRM FRM.FORME_STAT.FACTORY f.factory).putB pgFRM FRM.FORME_STAT.MAINT f.maint).put pgFRM FRM.MAPHASH.HASH f.mapHash
  d.put pgFRM FRM.OLC_STAT.STATE d.olc.st

/-- µs between two MOTCLK counts (assumption log 3). -/
def usSince (a b : Nat) : Nat := (Num.quo 81 (((b : Int) - a) * 4) 1000).toNat

/-- The fields that record a trap (R395, R396). -/
def trapInfo (s : State) (t : TaskId) (code : Nat) (d : Dev) : Dev :=
  let w := (s.dev.task t).pc
  ((d.put pgFRM FRM.TRAPINFO.TASK t.code).put pgFRM FRM.TRAPINFO.CODE code).put pgFRM FRM.TRAPINFO.WORD w

/-- The running forme's tags by identity. -/
def findTag (s : State) (h tag : Nat) : Option FormeTag := (formeTags s h).find? fun t => t.tag == tag

/-! Forces (R411 to R413). -/

/-- The value of force entry `k` for a type, in `n` bytes (R413). -/
def forceVal (d : Dev) (k : Nat) (t : FormeTag) : Nat :=
  let v := d.get pgFRM (FRM.FORCE_VAL_LO.VAL.at k) + 4294967296 * d.get pgFRM (FRM.FORCE_VAL_HI.VAL.at k)
  if t.type = 1 then v % 2 else v % 2 ^ (8 * t.len)

/-- Apply the active forces of one kind to the tags of a half: 0 variables of an instance region, 1 frozen inputs, 2 working outputs
(R413). -/
def forcesTo (half region kind : Nat) (s : State) : State :=
  (s.dev.forme.force.zipIdx).foldl (fun s e =>
    if e.1.st ≠ 1 then s
    else match findTag s half e.1.tag with
      | none => s
      | some t =>
        if t.kind ≠ kind then s
        else
          let base := if kind = 0 then regionBase region else if kind = 1 then frozenBank s.dev else workBank s.dev
          s.poke (base + t.ofs) t.len (forceVal s.dev e.2 t)) s

/-- Apply the active forces of one kind to the running forme. -/
def applyForces (kind : Nat) (s : State) : State := forcesTo s.dev.forme.half s.dev.forme.region kind s

/-- Publish the states of the force entries. -/
def publishForces (d : Dev) : Dev :=
  let w (lo : Nat) : Nat := (List.range 16).foldl (fun v k => v + (nth d.forme.force (lo + k) {}).st * 4 ^ k) 0
  (d.put pgFRM FRM.FORCE_ST0.ST (w 0)).put pgFRM FRM.FORCE_ST1.ST (w 16)

/-- A change of entry `k` to refused or dropped (R412). -/
def forceMove (k : Nat) (x : ForceX) (d : Dev) : Dev :=
  let old := nth d.forme.force k {}
  let d := { d with forme := { d.forme with force := modNth (fun _ => x) d.forme.force k } }
  if x.st = 2 ∧ (old.st ≠ 2 ∨ old.tag ≠ x.tag) then d.ev pgFRM Ev.FRM.FREF
  else if x.st = 3 ∧ old.st ≠ 3 then (d.ev pgFRM Ev.FRM.FDROP).raise pgFRM Cz.FRM.FDROP 0xFF
  else d

/-- The state of force entry `k` (R412). `lost` says that an online change did not carry a tag. -/
def forceNext (s : State) (lost : Nat → Bool) (k : Nat) : ForceX :=
  let d := s.dev
  let tag := d.get pgFRM (FRM.FORCE_TAG.TAG.at k)
  let old := nth d.forme.force k {}
  if tag = 0 then {}
  else if old.st = 3 ∧ old.tag = tag then old
  else
    let ok := (match findTag s d.forme.half tag with
        | some t => tyOk t.type && !t.safe
        | none => false) && (List.range k).all fun j => d.get pgFRM (FRM.FORCE_TAG.TAG.at j) != tag
    let was := old.st == 1 && old.tag == tag
    if was && (!d.forme.maint || lost tag) then { st := 3, tag := tag }
    else if !ok then { st := 2, tag := tag }
    else if d.forme.maint && d.on pgFRM FRM.FORCE_CTRL.FEN then { st := 1, tag := tag }
    else { st := 0, tag := tag }

/-- Every force entry is resolved (R412). -/
def resolveForces (lost : Nat → Bool) (s : State) : State :=
  let l := (List.range 32).map (forceNext s lost)
  s.onDev fun d => publishForces (d.each l.zipIdx fun x => forceMove x.2 x.1)

/-- Zero speed in both channels (R411). -/
def zeroSpeed (d : Dev) : Bool :=
  let zs2 := match d.sx.rec? with
    | some r => r.zs2
    | none => false
  let both (i : Nat) : Bool := bit d.sx.tli i && (match d.sx.q with
    | some q => bit q.tli i
    | none => false)
  both 0 && (!zs2 || both 3)

/-- Maintenance mode and the forces at a servo boundary (R411, R412); an input force that becomes active reaches the frozen bank
(R413). -/
def formeServo (s : State) : State :=
  let d := s.dev
  let m := d.on pgFRM FRM.FORCE_CTRL.MAINTREQ && decide (d.otp.lc ≤ 2) && zeroSpeed d
  let s := s.onDev fun d =>
    (({ d with forme := { d.forme with maint := m } }).putB pgFRM FRM.FORME_STAT.MAINT m).evIf (m != d.forme.maint) pgFRM Ev.FRM.MAINT
  applyForces 1 (resolveForces (fun _ => false) s)

/-! The start and the end of tasks. -/

/-- A task starts at a block's first word, after the forces on variables (R413). -/
def startTask (t : TaskId) (blk : Nat) (s : State) : State :=
  let h := taskHalf s.dev t
  let w := blkWord s h blk
  let s := forcesTo h (taskRegion s.dev t) 0 s
  s.onDev (Dev.modTask t fun _ => { st := .running, blk := blk, pc := w, startMot := s.dev.tim.mot })

/-- The main task starts (R388). -/
def startMain (s : State) : State := startTask .main (formeHdr s s.dev.forme.half).entMain s

/-- The time of the motion-sync task goes to `MSYNC_T`, 0.1 µs (assumption log 3). -/
def msyncTime (d : Dev) : Dev :=
  let t := (Num.quo 82 (((d.tim.mot : Int) - d.forme.msync.startMot) * 4) 100).toNat
  (d.put pgFRM FRM.MSYNC_T.LASTT t).put pgFRM FRM.MSYNC_T.MAXT (max (t % 65536) (d.get pgFRM FRM.MSYNC_T.MAXT))

/-- The main task ends (R391, R413, table "FRM registers"). -/
def mainEnded (s : State) : State :=
  let s := applyForces 2 (applyForces 0 s)
  s.onDev fun d =>
    let t := usSince d.forme.mainStart d.tim.mot
    let d := { d with forme := { d.forme with mainEnd := some d.tim.mot, closeMot := none } }
    (d.put pgFRM FRM.MAIN_T.LASTT t).put pgFRM FRM.MAIN_T.MAXT (max (t % 65536) (d.get pgFRM FRM.MAIN_T.MAXT))

/-- The final RET of a task (R342, R389, R398, R401, R407). -/
def endTask (t : TaskId) (s : State) : State :=
  let s := s.onDev (Dev.modTask t fun x => { x with st := .ended, stack := [], frames := [] })
  match t with
  | .main => mainEnded s
  | .msync => s.onDev fun d => foldPoint (msyncTime d)
  | .error => startMain s
  | .init => s.onDev fun d =>
    if d.olc.st = 1 then d
    else { d with tim := { d.tim with enabled := d.forme.st == 1 } }

/-- The init task failed: BADFORME at start-up (R401), failure code 4 of an online change (R407). -/
def olcFail (code : Nat) (d : Dev) : Dev :=
  let d := { d with olc := { d.olc with st := 3, switchReq := false, carried := [] } }
  let d := ((d.put pgFRM FRM.OLC_STAT.FAILC code).putB pgFRM FRM.OLC_STAT.WAIT false).put pgFRM FRM.OLC_STAT.STATE 3
  (d.ev pgFRM Ev.FRM.OLCFAIL).raise pgFRM Cz.FRM.OLCFAIL 0xFF

/-- The forme in the store is not accepted, or its init task fails (R401). -/
def badForme (d : Dev) : Dev := d.raise pgFRM Cz.FRM.BADFORME 0xFF

/-- The init task of start-up exceeds t_INIT, 500 ms (R401): it stops, and the forme is bad. -/
def initTimeout (d : Dev) : Dev :=
  if d.forme.st = 1 ∧ (d.task .init).st = .running ∧ msMot 500 < d.tim.mot - (d.task .init).startMot then
    badForme (d.modTask .init fun x => { x with st := .aborted, stack := [], frames := [] })
  else d

/-- A trap aborts its task (R395, R399); after an aborted main task the next one waits for the next boundary. -/
def trapTask (t : TaskId) (code : Nat) (s : State) : State :=
  let s := s.onDev fun d =>
    let d := (trapInfo s t code (d.modTask t fun x => { x with st := .aborted, stack := [], frames := [] })).incSat pgFRM FRM.TASK_CNT.TRAPS
    let c := if t == .error then Cz.FRM.ERRTRAP else Cz.FRM.TRAP
    let d := (d.ev pgFRM Ev.FRM.TRAP).raise pgFRM c t.code
    if t == .error then { d with forme := { d.forme with errTrap := true } } else addReason 1 d
  match t with
  | .main => s.onDev fun d => { d with forme := { d.forme with mainDue := false, closeMot := none } }
  | .msync => s.onDev fun d => foldPoint (msyncTime d)
  | .error => startMain s
  | .init => s.onDev fun d => if d.olc.st = 1 then olcFail 4 d else badForme d

/-- The MOTCLK count of the latest servo boundary. -/
def servoMot (d : Dev) : Nat := d.tim.valley - 8000 * d.get pgCLK CLK.GRID.PWM

/-- Whether the motion-sync task of the servo period in progress still has to run. -/
def msyncWaits (s : State) : Bool :=
  s.dev.forme.st == 2 && s.dev.forme.msDue && s.dev.on pgFRM FRM.TASK_CFG.MSEN &&
    (formeHdr s s.dev.forme.half).entMsync != 0xFFFF

/-- MOTION_SYNC_TASK_START (R387, R389): 15 µs after a servo boundary or later. -/
def motionSyncStart (s : State) : State :=
  let d := s.dev
  let e := (formeHdr s d.forme.half).entMsync
  if msyncWaits s && decide (servoMot d + 3750 ≤ d.tim.mot) && (d.task .msync).st != .running then
    startTask .msync e (s.onDev fun d => { d with forme := { d.forme with msDue := false } })
  else s

/-- MSOVR (R394, R396): MSBUD µs after the motion-sync task began. -/
def msovr (s : State) : State :=
  let x := s.dev.task .msync
  if s.dev.forme.st = 2 ∧ x.st = .running ∧ x.startMot + 250 * s.dev.get pgFRM FRM.TASK_CFG.MSBUD ≤ s.dev.tim.mot then
    s.onDev fun d =>
      let d := (trapInfo s .msync 0 (d.modTask .msync fun x => { x with st := .aborted, stack := [], frames := [] })).incSat
        pgFRM FRM.TASK_CNT.MSOVR
      foldPoint (msyncTime (addReason 3 ((d.ev pgFRM Ev.FRM.MSOVR).raise pgFRM Cz.FRM.MSOVR 2)))
  else s

/-- Whether the error task is due: a task fault, or a dropout in the frozen image, since the previous main task (R398). -/
def errorDue (d : Dev) : Bool := d.forme.reasons != 0

/-- The error task begins: ERRINFO takes the reasons, which clear (R398). -/
def loadErrInfo (d : Dev) : Dev :=
  let r := d.forme.reasons
  let d := ((d.putB pgFRM FRM.ERRINFO.DROP (bit r 0)).putB pgFRM FRM.ERRINFO.TRAP (bit r 1)).putB pgFRM FRM.ERRINFO.LATE (bit r 2)
  let d := ((d.putB pgFRM FRM.ERRINFO.MSOVR (bit r 3)).putB pgFRM FRM.ERRINFO.ERRTRAP d.forme.errTrap).put pgFRM
    FRM.ERRINFO.DROPMASK d.forme.dropMask
  { d with forme := { d.forme with reasons := 0, errTrap := false, dropMask := 0 } }

/-- Whether the latest of the instants of R388 has passed: 19 µs after the boundary, by which a carry has ended too, the motion-sync
task at servo index 0, and the task before. -/
def mainMay (s : State) : Bool :=
  let d := s.dev
  let busy (t : TaskId) : Bool := (d.task t).st == .running
  decide (d.forme.bndMot + 4750 ≤ d.tim.mot) && !(msyncWaits s && d.get pgCLK CLK.GRID.SERVO == 0) && !busy .main && !busy .error &&
    !busy .msync

/-- MAIN_TASK_START (R388, R398): the error task first when it is due. -/
def mainTaskStart (s : State) : State :=
  let d := s.dev
  if d.forme.st = 2 ∧ d.forme.mainDue ∧ mainMay s then
    let s := s.onDev fun d =>
      { d with forme := { d.forme with mainBnd := d.forme.bndMot, mainStart := d.tim.mot, mainDue := false, closeMot := none } }
    if errorDue d then
      let e := (formeHdr s d.forme.half).entErr
      let s := s.onDev loadErrInfo
      if e = 0xFFFF then startMain s
      else startTask .error e (s.onDev fun d =>
        (d.incSat pgFRM FRM.TASK_CNT.ERRRUN).ev pgFRM Ev.FRM.ERRTASK)
    else startMain s
  else s

/-- The deadline of the main task whose cycle the boundary at `b` closed (R400), MOTCLK counts. -/
def mainDeadline (d : Dev) (b : Nat) : Nat := b + 64000 * d.get pgFRM FRM.TASK_CFG.GRACE

/-- OVERRUN (R400): a main task that has not ended at its deadline, GRACE servo periods after the boundary that closed its cycle. -/
def overrun (d : Dev) : Dev :=
  match d.forme.closeMot with
  | some b =>
    if d.forme.st = 2 ∧ mainDeadline d b ≤ d.tim.mot then
      let d := { d with forme := { d.forme with st := 3, overrun := true } }
      publishForme (d.raise pgFRM Cz.FRM.OVERRUN 1)
    else d
  | none => d

/-- CLRCNT (table "FRM registers"). -/
def taskClrcnt (d : Dev) : Dev :=
  let d := ((d.put pgFRM FRM.TASK_CNT.LATE 0).put pgFRM FRM.TASK_CNT.TRAPS 0).put pgFRM FRM.TASK_CNT.MSOVR 0
  let d := (d.put pgFRM FRM.TASK_CNT.ERRRUN 0).put pgFRM FRM.MAIN_T.MAXT 0
  (d.put pgFRM FRM.MSYNC_T.MAXT 0).put pgFRM FRM.SLACK.MINSLACK 0xFFFF

/-! Boundary (R391, R392, R397). -/

/-- Whether the ending cycle is entitled to the output commit (R391). -/
def commitEntitled (d : Dev) : Bool := d.forme.st == 2 && !d.flt.halt && (d.task .main).st == .ended

/-- The output commit with its carry, or the carry after an aborted main task (R391, R392). -/
def outputCommit (s : State) : State :=
  let d := s.dev
  if commitEntitled d then
    let s := s.onDev fun d => outputApply { d with forme := { d.forme with outWork := 1 - d.forme.outWork } }
    { s with mem := Memory.copy sramEmpty (committedBank s.dev) (workBank s.dev) 0x10000 s.mem }
  else if d.forme.st = 2 ∧ (d.task .main).st = .aborted then
    { s with mem := Memory.copy sramEmpty (committedBank d) (workBank d) 0x10000 s.mem }
  else s

/-- The slack of the latest main task, and LATE for one that has not ended, be it behind its error task or not begun (R394, R397). -/
def boundaryTasks (d : Dev) : Dev :=
  let late := d.forme.st == 2 && ((d.task .main).st == .running || (d.task .error).st == .running || d.forme.mainDue)
  let d := match d.forme.mainEnd with
    | some t =>
      let v := if late then 0 else usSince t d.tim.mot
      let d := { d with forme := { d.forme with mainEnd := none } }
      (d.put pgFRM FRM.SLACK.SLACK v).put pgFRM FRM.SLACK.MINSLACK (min v (d.get pgFRM FRM.SLACK.MINSLACK))
    | none => if late then (d.put pgFRM FRM.SLACK.SLACK 0).put pgFRM FRM.SLACK.MINSLACK 0 else d
  let d := if late then
      addReason 2 (((d.incSat pgFRM FRM.TASK_CNT.LATE).ev pgFRM Ev.FRM.LATE).raise pgFRM Cz.FRM.LATE 1)
    else d
  let now := d.tim.mot
  { d with forme := { d.forme with mainDue := d.forme.st == 2, bndMot := now
                                   closeMot := if late then some (d.forme.closeMot.getD now) else none } }

/-- The input freeze: the filled bank becomes the frozen one, and the bank to be filled begins with its content, so that an
item not written again keeps its latest write (R20, R21, R390; assumption log 19). -/
def freezeBanks (s : State) : State :=
  let s := s.onDev fun d => { d with forme := { d.forme with inFill := 1 - d.forme.inFill } }
  applyForces 1 { s with mem := Memory.copy sramEmpty (frozenBank s.dev) (fillBank s.dev) 0x10000 s.mem }

/-! Online change (R407 to R410). -/

/-- The initial data of a half fills an instance region. -/
def fillRegion (h r : Nat) (s : State) : State :=
  let f := formeHdr s h
  { s with mem := Memory.copy sramEmpty (halfBase h + f.initOfs) (regionBase r) f.initLen
                    (Memory.erase (regionBase r) 0xD0000 s.mem) }

/-- A PREP request (R407). -/
def olcPrep (half : Nat) (s : State) : State :=
  let d := s.dev
  let f := formeHdr s half
  if d.olc.st = 1 ∨ d.olc.st = 2 then s.onDev fun d => olcFail 8 (d.modTask .init fun _ => {})
  else if half = d.forme.half then s.onDev (olcFail 1)
  else if !formeOk s half false then s.onDev (olcFail 2)
  else if d.otp.lc = 2 ∧ f.safeCrc ≠ (formeHdr s d.forme.half).safeCrc then s.onDev (olcFail 3)
  else
    let s := fillRegion half (1 - d.forme.region) s
    let s := s.onDev fun d =>
      let d := { d with olc := { st := 1, half := half } }
      publishForme (((d.put pgFRM FRM.OLC_STAT.FAILC 0).putB pgFRM FRM.OLC_STAT.WAIT false).modTask .init fun _ => { st := .ended })
    if f.entInit = 0xFFFF then s else startTask .init f.entInit s

/-- A tag of the new forme matches one of the old (R408). -/
def tagCarries (a b : FormeTag) : Bool :=
  a.tag == b.tag && a.kind == 0 && b.kind == 0 && a.type == b.type && a.len == b.len && a.safe == b.safe

/-- OLC_READY (R407, R408): the init task has ended, the tags are matched. -/
def olcReady (s : State) : State :=
  let d := s.dev
  if d.olc.st = 1 ∧ (d.task .init).st = .ended then
    let old := formeTags s d.forme.half
    let new := formeTags s d.olc.half
    let carried := old.filterMap fun a => (new.find? (tagCarries a)).map fun b => (a.ofs, b.ofs, a.len, a.tag)
    let both := old.filter fun a => new.any fun b => a.tag == b.tag
    let bytes := carried.foldl (fun n c => n + c.2.2.1) 0
    let copyT := (bytes + 999) / 1000
    s.onDev fun d =>
      let d := (d.put pgFRM FRM.OLC_TAGS.CARRIED carried.length).put pgFRM FRM.OLC_TAGS.RETYPED (both.length - carried.length)
      let d := (d.put pgFRM FRM.OLC_DROP.DROPPED (old.length - both.length)).put pgFRM FRM.OLC_DROP.COPYT copyT
      if d.get pgFRM FRM.OLC_CFG.COPYMAX < copyT then olcFail 5 d
      else publishForme (({ d with olc := { d.olc with st := 2, carried := carried } }).ev pgFRM Ev.FRM.OLCREADY)
  else s

/-- A SWITCH request (R409). -/
def olcSwitch (d : Dev) : Dev :=
  if d.olc.st = 2 then { d with olc := { d.olc with switchReq := true } }
  else if d.olc.st = 1 then
    ((d.put pgFRM FRM.OLC_STAT.FAILC 10).ev pgFRM Ev.FRM.OLCFAIL).raise pgFRM Cz.FRM.OLCFAIL 0xFF
  else olcFail 9 d

/-- A CANCEL request (R410). -/
def olcCancel (d : Dev) : Dev :=
  if d.olc.st = 1 ∨ d.olc.st = 2 then
    let d := { d with olc := {} }
    publishForme ((d.modTask .init fun _ => {}).putB pgFRM FRM.OLC_STAT.WAIT false)
  else d

/-- Step 3 of the switch boundary (R409): `ended` says that the old forme's last main task ended normally. Answers whether the
switch goes on. -/
def switchCheck (ended : Bool) (s : State) : State × Bool :=
  let d := s.dev
  if !(d.olc.switchReq && d.olc.st == 2) then (s, false)
  else if !ended then (s.onDev (Dev.putB pgFRM FRM.OLC_STAT.WAIT true), false)
  else
    let f := formeHdr s d.olc.half
    if f.mapHash ≠ d.forme.mapHash then (s.onDev (olcFail 6), false)
    else if d.get pgFRM FRM.CYCLE_N.N < f.nmin then (s.onDev (olcFail 7), false)
    else (s, true)

/-- The running forme's identity goes to the FRM page. -/
def publishHdr (s : State) : State :=
  let f := formeHdr s s.dev.forme.half
  s.onDev fun d => publishForme ((d.put pgFRM FRM.FORME_ID.ID f.id).put pgFRM FRM.FORME_BUILD.BUILD f.build)

/-- Steps 5 to 7 of the switch boundary (R409); the motion-sync task at its servo index 0 does not run. -/
def formeSwitch (s : State) : State :=
  let d := s.dev
  let oldR := regionBase d.forme.region
  let newR := regionBase (1 - d.forme.region)
  let mem := d.olc.carried.foldl (fun m c => Memory.copy sramEmpty (oldR + c.1) (newR + c.2.1) c.2.2.1 m) s.mem
  let tags := d.olc.carried.map fun c => c.2.2.2
  let fac := bit (formeHdr s d.olc.half).flags 0
  let s := { s with mem := mem }.onDev fun d =>
    let d := { d with forme := { d.forme with half := d.olc.half, region := 1 - d.forme.region, factory := fac, noMs := true },
                      olc := { d.olc with st := 4, switchReq := false, carried := [] } }
    (d.putB pgFRM FRM.OLC_STAT.WAIT false).ev pgFRM Ev.FRM.OLCSWITCH
  applyForces 1 (resolveForces (fun t => !tags.contains t) (publishHdr s))

/-! Ops (heading "Forme code"). -/

/-- What an op makes of the operand stack: a new stack, or a trap. -/
inductive StackRes where
  | ok (l : List Nat)
  | trap (code : Nat)
  deriving DecidableEq, Repr

/-- Run an op on the current task: the stack it leaves, and the words it takes. A stack of more than 64 entries traps STACK. -/
def runOp (words : Nat) (f : State → TaskId → List Nat → StackRes × State) (s : State) : State :=
  match s.dev.current with
  | none => s
  | some t =>
    match f s t (s.dev.task t).stack with
    | (.trap c, s) => trapTask t c s
    | (.ok l, s) =>
      if 64 < l.length then trapTask t 3 s
      else s.onDev (Dev.modTask t fun x => { x with stack := l, pc := x.pc + words })

/-- An op that only changes the stack. -/
def pureOp (words : Nat) (f : List Nat → StackRes) (s : State) : State := runOp words (fun s _ l => (f l, s)) s

/-- Push one entry. -/
def push (v : Nat) (l : List Nat) : StackRes := .ok (v :: l)

/-- An op on the top entry in a type. -/
def op1 (ty : Nat) (f : Nat → Nat) (s : State) : State :=
  pureOp 1 (fun l => if !tyOk ty then .trap 4 else match l with
    | a :: l => .ok (f a :: l)
    | [] => .trap 3) s

/-- An op on the two top entries in a type: the lower is the left operand. -/
def op2 (ty : Nat) (f : Nat → Nat → StackRes) (s : State) : State :=
  pureOp 1 (fun l => if !tyOk ty then .trap 4 else match l with
    | b :: a :: l => match f a b with
      | .ok [v] => .ok (v :: l)
      | .ok _ => .ok l
      | .trap c => .trap c
    | _ => .trap 3) s

/-- DIV and MOD trap DIV0 on an integer divisor of 0. -/
def divOp (ty : Nat) (f : Nat → Nat → Nat) (a b : Nat) : StackRes :=
  if !tyFloat ty && tyInt ty b == 0 then .trap 1 else .ok [f a b]

/-- A comparison's BOOL. -/
def cmpOp (ty : Nat) (want : Ordering → Bool) (nan : Bool) (a b : Nat) : StackRes :=
  .ok [b2n (match tyCmp ty a b with
    | some o => want o
    | none => nan)]

/-- The immediate of LDI in a type. -/
def ldiVal (ty arg : Nat) : Nat := if tyFloat ty then fltRat ty (sgn 20 arg) 1 false else tyWrap ty (sgn 20 arg)

/-- Address of an instance offset of the block that executes, for `n` bytes; `none` where R404 would refuse it. -/
def instAddr (s : State) (t : TaskId) (ofs n : Nat) : Option Nat :=
  let b := formeBlk s (taskHalf s.dev t) (s.dev.task t).blk
  if ofs + n ≤ b.instLen then some (regionBase (taskRegion s.dev t) + b.instOfs + ofs) else none

/-- LDV. -/
def ldv (ty arg : Nat) (s : State) : State :=
  runOp 1 (fun s t l => if !tyOk ty then (.trap 4, s) else match instAddr s t arg (tySize ty) with
    | some a => (push (s.peek a (tySize ty)) l, s)
    | none => (.trap 4, s)) s

/-- STV. -/
def stv (ty arg : Nat) (s : State) : State :=
  runOp 1 (fun s t l => if !tyOk ty then (.trap 4, s) else match instAddr s t arg (tySize ty), l with
    | some a, v :: l => (.ok l, s.poke a (tySize ty) v)
    | some _, [] => (.trap 3, s)
    | none, _ => (.trap 4, s)) s

/-- LDIN. -/
def ldin (ty arg : Nat) (s : State) : State :=
  runOp 1 (fun s _ l =>
    if tyOk ty && inItem s.dev.forme.map false arg (tySize ty) then (push (s.peek (frozenBank s.dev + arg) (tySize ty)) l, s)
    else (.trap 4, s)) s

/-- STOUT; refused under the motion-sync entry (R389). -/
def stout (ty arg : Nat) (s : State) : State :=
  runOp 1 (fun s t l =>
    if tyOk ty && inItem s.dev.forme.map true arg (tySize ty) && t != .msync then
      match l with
      | v :: l => (.ok l, s.poke (workBank s.dev + arg) (tySize ty) v)
      | [] => (.trap 3, s)
    else (.trap 4, s)) s

/-- LDX. -/
def ldx (ty arg n : Nat) (s : State) : State :=
  runOp 2 (fun s t l => if !tyOk ty then (.trap 4, s) else match instAddr s t arg (n * tySize ty), l with
    | some a, i :: l => if n ≤ i then (.trap 2, s) else (push (s.peek (a + i * tySize ty) (tySize ty)) l, s)
    | some _, [] => (.trap 3, s)
    | none, _ => (.trap 4, s)) s

/-- STX. -/
def stx (ty arg n : Nat) (s : State) : State :=
  runOp 2 (fun s t l => if !tyOk ty then (.trap 4, s) else match instAddr s t arg (n * tySize ty), l with
    | some a, v :: i :: l => if n ≤ i then (.trap 2, s) else (.ok l, s.poke (a + i * tySize ty) (tySize ty) v)
    | some _, _ => (.trap 3, s)
    | none, _ => (.trap 4, s)) s

/-- Jump by a signed number of words relative to the next op, within the block's code (R404). -/
def jumpBy (t : TaskId) (arg : Nat) (s : State) : State :=
  let h := taskHalf s.dev t
  let x := s.dev.task t
  let w := blkWord s h x.blk
  let tgt : Int := (x.pc : Int) + 1 + sgn 20 arg
  if (w : Int) ≤ tgt ∧ tgt < (w + (formeBlk s h x.blk).codeLen / 4 : Nat) then s.onDev (Dev.modTask t fun x => { x with pc := tgt.toNat })
  else trapTask t 4 s

/-- JMP. -/
def jmp (arg : Nat) (s : State) : State :=
  match s.dev.current with
  | some t => jumpBy t arg s
  | none => s

/-- JZ and JNZ: pop a BOOL, jump when it is `want`. -/
def jcond (want arg : Nat) (s : State) : State :=
  match s.dev.current with
  | none => s
  | some t => match (s.dev.task t).stack with
    | [] => trapTask t 3 s
    | v :: l =>
      let s := s.onDev (Dev.modTask t fun x => { x with stack := l })
      if v % 2 = want then jumpBy t arg s else s.onDev (Dev.modTask t fun x => { x with pc := x.pc + 1 })

/-- RET (R389). -/
def retOp (s : State) : State :=
  match s.dev.current with
  | none => s
  | some t => match (s.dev.task t).frames with
    | [] => endTask t s
    | f :: fs => s.onDev (Dev.modTask t fun x => { x with frames := fs, blk := f.blk, pc := f.ret })

/-- TRAP (R395). -/
def trapOp (s : State) : State :=
  match s.dev.current with
  | some t => trapTask t 5 s
  | none => s

end Sys2Proof.Machine
end

