-- ==== Sys2Proof/Machine/Ring.lean ====
section
/-! DEFINITION. The rings of the packet buffer (R492 to R494) and the output items that the data plane sends (R393). -/

namespace Sys2Proof.Machine

/-- First address and size of the packet buffer (R41). -/
abbrev packetBase : Nat := 0x28000000
abbrev packetSize : Nat := 0x100000

/-- Bytes of an entry of ring `k`: SIZE × 64, 0 acting as 32. -/
def ringSize (d : Dev) (k : Nat) : Nat :=
  let z := d.get pgRING (RING.RING_CFG.SIZE.at k)
  64 * (if z = 0 then 32 else z)

/-- Entries of ring `k`. -/
def ringEntries (d : Dev) (k : Nat) : Nat := d.get pgRING (RING.RING_CFG.ENTRIES.at k)

/-- Address of ring `k`. -/
def ringBase (d : Dev) (k : Nat) : Nat := packetBase + d.get pgRING (RING.RING_BASE.BASE.at k)

/-- Whether ring `k` is active: enabled and not refused, on a page in service (R46, R494). -/
def ringActive (d : Dev) (k : Nat) : Bool := decide (k < 32) && bit (d.get pgRING RING.RING_STAT.ACT) k

/-- Producer index, consumer index and drop count of ring `k`. -/
def ringProd (s : State) (k : Nat) : Nat := s.peek (ringBase s.dev k) 4
def ringCons (s : State) (k : Nat) : Nat := s.peek (ringBase s.dev k + 4) 4
def ringDrop (s : State) (k : Nat) : Nat := s.peek (ringBase s.dev k + 8) 4

/-- Address of entry `e` of ring `k`. -/
def ringEntry (d : Dev) (k e : Nat) : Nat := ringBase d k + 16 + e * ringSize d k

/-- Whether ring `k` holds no free entry: the indices are modulo ENTRIES, so one entry stays free (assumption log 20). -/
def ringFull (s : State) (k : Nat) : Bool := (ringProd s k + 1) % max 1 (ringEntries s.dev k) == ringCons s k

/-- A producer writes an item with its status, or drops and counts it (R492, R493). Answers whether it was taken. -/
def ringPut (k status : Nat) (item : List Nat) (s : State) : State × Bool :=
  if ringFull s k || decide (ringSize s.dev k < item.length + 4) then
    (s.poke (ringBase s.dev k + 8) 4 ((ringDrop s k + 1) % 4294967296), false)
  else
    let p := ringProd s k
    let a := ringEntry s.dev k p
    let s := s.poke a 4 (item.length % 65536 + status % 65536 * 65536)
    let s := { s with mem := Memory.putL sramEmpty s.mem (a + 4) item }
    (s.poke (ringBase s.dev k) 4 ((p + 1) % max 1 (ringEntries s.dev k)), true)

/-- Address of the data of the entry that the consumer of ring `k` reads next. -/
def ringNext (s : State) (k : Nat) : Option Nat :=
  if ringProd s k = ringCons s k then none else some (ringEntry s.dev k (ringCons s k) + 4)

/-- The consumer advances (R493). -/
def ringTake (k : Nat) (s : State) : State :=
  if ringProd s k = ringCons s k then s
  else s.poke (ringBase s.dev k + 4) 4 ((ringCons s k + 1) % max 1 (ringEntries s.dev k))

/-- RING_INDEX_ADVANCE (R493): the producer or the consumer of an active ring. -/
def ringAdvance (k : Nat) (producer : Bool) (item : List Nat) (s : State) : State :=
  if ringActive s.dev k then (if producer then (ringPut k 0 item s).1 else ringTake k s) else s

/-- The bytes ring `k` occupies in the packet buffer, from BASE up to an end. -/
def ringSpan (d : Dev) (k : Nat) : Nat × Nat :=
  let b := d.get pgRING (RING.RING_BASE.BASE.at k)
  (b, b + 16 + ringEntries d k * ringSize d k)

/-- The commit of RING (R494): `changed` has the bit of each ring whose BASE or CFG the commit changed, whose indices are reset, and
`again` says that the page came into service or left it, so that every ring is judged. Model's choice: a ring that is refused leaves the
packet buffer alone, and of two that overlap the lower one stands (assumption log 88). -/
def ringCommit (changed : Nat) (again : Bool) (s : State) : State :=
  let was := s.dev.get pgRING RING.RING_STAT.ACT
  (List.range 32).foldl (fun s k =>
    let d := s.dev
    if !bit changed k && !again then s
    else
      let act := d.get pgRING RING.RING_STAT.ACT
      let x := ringSpan d k
      let clash := (List.range 32).any fun j => j != k &&
        (if j < k then bit act j else bit was j && !bit changed j && !again) &&
        (let y := ringSpan d j; decide (x.1 < y.2) && decide (y.1 < x.2))
      let en := d.enabled pgRING && d.on pgRING (RING.RING_CFG.EN.at k)
      let poor := clash || decide (packetSize < x.2)
      let bad := en && poor
      let d := (d.put pgRING RING.RING_STAT.ACT (setBit act k (en && !bad))).put pgRING RING.RING_BAD.BAD
        (setBit (d.get pgRING RING.RING_BAD.BAD) k bad)
      let d := if bad then (d.ev pgRING Ev.RING.RINGBAD).raise pgRING Cz.RING.RINGBAD k else d
      let s := { s with dev := d }
      if bit changed k && !poor then (s.poke (ringBase d k) 4 0).poke (ringBase d k + 4) 4 0 else s) s

/-- Whether the data plane builds its output items from their safe rules, as judged at the latest program-cycle boundary (R381, R393). -/
def safeItems (d : Dev) : Bool := d.forme.outSafe || !d.forme.everOut

/-- The bytes of an output item that starts at an image offset (R22, R393): from the committed bank, or by its safe rule. -/
def outItem (s : State) (ofs len : Nat) : List Nat :=
  let bank := Memory.getL sramEmpty s.mem (committedBank s.dev + ofs) len
  if safeItems s.dev then
    match s.dev.forme.map.find? fun it => it.out && it.ofs == ofs with
    | some it =>
      let fixed := (List.range len).map fun i => nth it.const i 0
      if it.rule = 1 then (if s.dev.forme.everOut then bank else fixed) else if it.rule = 2 then fixed else List.replicate len 0
    | none => List.replicate len 0
  else bank

/-- An input item is written into the filling bank as one write (R21). -/
def inItemPut (ofs : Nat) (bytes : List Nat) (s : State) : State :=
  { s with mem := Memory.putL sramEmpty s.mem (fillBank s.dev + ofs) bytes }

/-- The item of the image map of a kind and index, in one direction. -/
def findItem (d : Dev) (out : Bool) (kind idx : Nat) : Option ImgItem :=
  d.forme.map.find? fun it => it.out == out && it.kind == kind && it.idx == idx

end Sys2Proof.Machine
end

