-- ==== Sys2Proof/Machine/Can.lean ====
section
/-! DEFINITION. The CAN controllers (R447 to R458, R472, R473): objects, requests and cancels, frames received and sent, error
counters, bus-off, integration, and the commit of a CAN page. What starts on the leaf bus obeys its slot in progress (R463,
R464). -/

namespace Sys2Proof.Machine

/-- The mode in force: 5 to 7 act as 0, 4 as 1 on CAN1 and CAN2 (table "CANn registers", R459). -/
def canMode (d : Dev) (c : Nat) : Nat :=
  let m := d.get (pgCAN c) CAN.CTRL.MODE
  if 5 ≤ m then 0 else if m = 4 ∧ c ≠ 0 then 1 else m

/-- Whether the controller is in use. -/
def canEnabled (d : Dev) (c : Nat) : Bool := d.enabled (pgCAN c) && canMode d c != 0

/-- The state after integration in the mode in force, error-active in MODE 1 and 4. -/
def canActive (d : Dev) (c : Nat) : Nat := if canMode d c = 2 then 5 else if canMode d c = 3 then 6 else 2

/-- Whether the controller takes part in the traffic: error-active or -passive, restricted or monitoring. -/
def canOnBus (d : Dev) (c : Nat) : Bool :=
  let st := (d.cn c).st
  st == 2 || st == 3 || st == 5 || st == 6

/-- Whether the controller sends frames (R449): not from a transmit error counter of 256 on, where it goes bus-off. -/
def canSends (d : Dev) (c : Nat) : Bool := ((d.cn c).st == 2 || (d.cn c).st == 3) && decide ((d.cn c).tec < 256)

/-- The secondary sample point of the data phase, in CANCLK periods after the bit's start, while compensation is on: the
measured transmitter delay plus TDCO (R447). -/
def canSsp (d : Dev) (c : Nat) : Option Nat :=
  if d.on (pgCAN c) CAN.TDC.TDCEN then some (d.get (pgCAN c) CAN.PSR.TDCV + d.get (pgCAN c) CAN.TDC.TDCO) else none

/-- An object of a controller. -/
def canObj (d : Dev) (c j : Nat) : Option CanObj := (d.cn c).objs.find? fun o => o.num == j

/-- Bytes of a frame by its data length code. -/
def canBytes (fdf : Bool) (dlc : Nat) : Nat :=
  if dlc ≤ 8 then dlc
  else if !fdf then 8
  else nth [12, 16, 20, 24, 32, 48, 64] (dlc - 9) 64

/-- `PSR`, `ECS` as they change at each frame end (R474). Model's choice: ACT tells what the controller did with the frame that ended, 1
received it, 2 sent it, and 0 where it leaves or joins the bus (assumption log 87). -/
def canPublish (c act : Nat) (d : Dev) : Dev :=
  let x := d.cn c
  let d := (d.put (pgCAN c) CAN.PSR.STATE x.st).putB (pgCAN c) CAN.PSR.BOLATCH x.boLatched
  let d := d.put (pgCAN c) CAN.PSR.ACT act
  (d.put (pgCAN c) CAN.ECS.TEC (min 255 x.tec)).put (pgCAN c) CAN.ECS.REC (min 255 x.rec_)

/-- A transmit object's outcome. -/
def canStatus (c j v : Nat) (d : Dev) : Dev :=
  d.modCn c fun x => { x with status := modNth (fun _ => v) x.status j }

/-- An object is no longer pending, with its outcome. -/
def canDone (c j v : Nat) (d : Dev) : Dev := canStatus c j v (d.modCn c fun x => { x with pend := setBit x.pend j false })

/-- Objects 0 to 63 pending. -/
def canPending (d : Dev) (c : Nat) : List Nat := (List.range 64).filter (bit (d.cn c).pend)

/-- The error counters set the error-active and error-passive states (R449); entering the latter raises EPASS. -/
def canErrState (c : Nat) (d : Dev) : Dev :=
  let x := d.cn c
  if x.st = 2 ∧ (128 ≤ x.tec ∨ 128 ≤ x.rec_) then (d.modCn c fun x => { x with st := 3 }).ev (pgCAN c) Ev.CAN.EPASS
  else if x.st = 3 ∧ x.tec < 128 ∧ x.rec_ < 128 then d.modCn c fun x => { x with st := 2 }
  else d

/-! The imposition matrix and the slot in progress. -/

/-- MOTCLK counts of a program cycle: N servo periods of 64,000 (R35). -/
def cycleMot (d : Dev) : Nat := d.get pgFRM FRM.CYCLE_N.N * 64000

/-- MOTCLK counts of a slot, and of REFDLY. -/
def slotMot (d : Dev) : Nat := d.get pgIMPO IMPO.TT_CFG.SLOTW * 250
def refMot (d : Dev) : Nat := d.get pgIMPO IMPO.REF_T.REFDLY * 250

/-- A cell's byte as the matrix holds it; cells of slot 0 read 0 (R465). -/
def rawCell (d : Dev) (row slot : Nat) : Nat :=
  if slot = 0 then 0 else bitsOf (d.get pgIMPO (IMPO.MATRIX.CELLS.at (8 * row + slot / 4))) (8 * (slot % 4)) 8

/-- Whether a cell names nothing it may name (R465). REF 63 names no object (table "Cell kinds"); in an exclusive cell, which must name
one, that is the model's choice of a bad cell (assumption log 87). -/
def cellBad (d : Dev) (v : Nat) : Bool :=
  let ref := v % 64
  match v / 64 with
  | 1 => ref == 63 || (match canObj d 0 ref with | some o => !o.tx | none => true)
  | 2 => ref != 63 && (match canObj d 0 ref with | some o => !o.tx | none => true)
  | 3 => !d.on pgIMPO (IMPO.STN.EN.at (ref % 16))
  | _ => false

/-- The cell in force: a bad one takes effect as free (R465). -/
def cellOf (d : Dev) (row slot : Nat) : Nat := let v := rawCell d row slot; if cellBad d v then 0 else v

/-- Whether an object is named by a cell of the rows and slots in force (R464). -/
def canScheduled (d : Dev) (j : Nat) : Bool :=
  (List.range (min 64 (d.get pgIMPO IMPO.TT_CFG.NROW))).any fun r =>
    (List.range (min 32 (d.get pgIMPO IMPO.TT_CFG.NSLOT))).any fun sl =>
      let v := cellOf d r sl
      (v / 64 == 1 || v / 64 == 2) && v % 64 == j && j != 63

/-- Whether time-triggered operation binds a controller. -/
def canTT (d : Dev) (c : Nat) : Bool := c == 0 && d.net.lb.tt

/-- The station whose output object this is and which is dropped out (R470). -/
def dropStn (d : Dev) (j : Nat) : Option Nat :=
  (List.range 16).find? fun k => d.on pgIMPO (IMPO.STN.EN.at k) && d.get pgIMPO (IMPO.STN.TXOBJ.at k) == j && j != 63 &&
    (let st := (nth d.net.lb.stn k {}).st; st == 3 || st == 4)

/-- End of a slot in MOTCLK counts (R461). -/
def slotEndMot (d : Dev) (j : Nat) : Nat := d.net.lb.base + (j + 1) * slotMot d

/-! Frame durations (R464, assumption log 21), in units of 0.5 ns: a CANCLK period of 12.5 ns is 25. -/

/-- A nominal and a data bit. -/
def canNomBit (d : Dev) (c : Nat) : Nat :=
  25 * (d.get (pgCAN c) CAN.NBT.NBRP * (1 + d.get (pgCAN c) CAN.NBT.NTSEG1 + d.get (pgCAN c) CAN.NBT.NTSEG2))
def canDataBit (d : Dev) (c : Nat) : Nat :=
  25 * (d.get (pgCAN c) CAN.DBT.DBRP * (1 + d.get (pgCAN c) CAN.DBT.DTSEG1 + d.get (pgCAN c) CAN.DBT.DTSEG2))

/-- Worst-case duration of a frame with maximum stuffing. -/
def canWorst (d : Dev) (c : Nat) (f : CanFrame) : Nat :=
  let n := canBytes f.fdf f.dlc
  let nom := canNomBit d c
  if !f.fdf then
    let b := (if f.xtd then 54 else 34) + 8 * n
    (b + (b - 1) / 4 + 13) * nom
  else
    let arb := if f.xtd then 36 + 8 else 17 + 4
    let body := 5 + 8 * n
    let data := body + body / 4 + (if n ≤ 16 then 4 + 17 + 6 else 4 + 21 + 7) + 1
    arb * nom + data * (if f.brs then canDataBit d c else nom) + 12 * nom

/-- Whether a frame that starts now ends before the slot in progress does. -/
def canFits (d : Dev) (c : Nat) (f : CanFrame) : Bool :=
  match d.net.lb.slot with
  | some j => decide (8 * d.tim.mot + canWorst d c f ≤ 8 * slotEndMot d j)
  | none => false

/-! Loading and starting a frame. -/

/-- The frame of a transmit object, with the data of its output item (R452). -/
def canLoad (s : State) (c : Nat) (o : CanObj) : CanFrame :=
  { brs := o.brs, fdf := o.fdf, xtd := o.xtd, id := o.id, dlc := o.dlc, esi := o.fdf && (s.dev.cn c).st == 3,
    data := outItem s o.iofs (canBytes o.fdf o.dlc) }

/-- The frame of a frame record (table "Frame record"). -/
def recordFrame (s : State) (c a : Nat) : CanFrame :=
  let w := s.peek (a + 4) 4
  let dlc := s.peek (a + 8) 4 % 16
  { brs := bit w 31, fdf := bit w 30, xtd := bit w 29, id := w % 2 ^ 29, dlc := dlc,
    esi := bit w 30 && (s.dev.cn c).st == 3,
    data := Memory.getL sramEmpty s.mem (a + 20) (canBytes (bit w 30) dlc) }

/-- The transmit ring in use. -/
def canTxRing (d : Dev) (c : Nat) : Option Nat :=
  let k := d.get (pgCAN c) CAN.RINGSEL.TXRING
  if ringActive d k then some k else none

/-- The transmit status of a frame record (table "Frame record", R453). -/
def recordStatus (a v : Nat) (s : State) : State := s.poke a 4 (setBits (s.peek a 4) 4 4 v)

/-- The controller passes over cancelled records at the front of its transmit ring (R456, R457). -/
def ringSkip (k : Nat) : Nat → State → State
  | 0, s => s
  | n + 1, s =>
    match ringNext s k with
    | some a => if bit (s.peek a 4) 0 then ringSkip k n (ringTake k (recordStatus a 3 s)) else s
    | none => s

/-- Whether a controller sends the format of a frame (R447). -/
def canForm (d : Dev) (c : Nat) (fdf : Bool) : Bool := !fdf || d.on (pgCAN c) CAN.CTRL.FDEN

/-- Whether a frame may be sent in the slot in progress, or at any time outside time-triggered operation (R464). -/
def canMay (d : Dev) (c : Nat) (f : CanFrame) : Bool := canForm d c f.fdf && (!canTT d c || canFits d c f)

/-- Whether the slot in progress, if any binds, takes requested frames: a free cell (table "Cell kinds"). -/
def canFree (d : Dev) (c : Nat) : Bool :=
  !canTT d c || (match d.net.lb.slot with | some j => j != 0 && cellOf d d.net.lb.row j / 64 == 0 | none => false)

/-- Whether a controller's requests and received objects are served: the objects of CAN1 are its PDO objects, and are served
only while `PDOEN` is 1 (R472); one requested before waits. -/
def canPdo (d : Dev) (c : Nat) : Bool := c != 1 || d.on (pgCAN 1) CAN.CTRL.PDOEN

/-- The pending objects that could start now. A dropped station's is not sent (R470); in its arbitrating cell an object is tried once
whatever its length, and again only while it fits (R463). -/
def canReady (s : State) (c : Nat) : List CanObj :=
  let d := s.dev
  (canPending d c).filterMap fun j =>
    match canObj d c j with
    | some o =>
      let named := canTT d c && canScheduled d j
      let inCell := named && (match d.net.lb.slot with
        | some sl => cellOf d d.net.lb.row sl == 128 + j
        | none => false)
      let f := canLoad s c o
      let ok := if named then inCell && canForm d c f.fdf && (!(d.cn c).tried || canFits d c f) else canFree d c && canMay d c f
      if o.tx && ok && canPdo d c && !(c == 0 && (dropStn d j).isSome) then some o else none
    | none => none

/-- The start-of-frame bit of an object's frame is driven. -/
def canStartObj (c kind : Nat) (o : CanObj) (s : State) : State :=
  let f := canLoad s c o
  s.onDev fun d => d.modCn c fun x => { x with sof := some o.num, frame := f, txKind := kind, noRetry := false, ovrDone := false
                                               pend := setBit x.pend o.num true }

/-- The start-of-frame bit of the next frame record is driven. -/
def canStartRing (c a : Nat) (s : State) : State :=
  let f := recordFrame s c a
  (recordStatus a 1 s).onDev fun d =>
    d.modCn c fun x => { x with sof := some 64, ringAt := a, frame := f, txKind := 0, noRetry := false, ovrDone := false }

/-- Start a waiting frame: one of the objects that could start (the manual states no order among them: a FREE VALUE), else
the next frame record (R455). -/
def canStart (c : Nat) (s : State) : State :=
  if (s.dev.cn c).sof.isSome || !canSends s.dev c then s
  else
    match canReady s c with
    | [] =>
      if !canFree s.dev c then s
      else
        match canTxRing s.dev c with
        | some k =>
          let s := ringSkip k 256 s
          (match ringNext s k with
            | some a => if canMay s.dev c (recordFrame s c a) then canStartRing c a s else s
            | none => s)
        | none => s
    | l =>
      let o := nth l (s.dev.fresh 100 % l.length) default
      let kind := if canTT s.dev c && canScheduled s.dev o.num then 2 else 0
      (canStartObj c kind o s).onDev Dev.drew

/-- A frame begins to wait. Whether the bus is idle, so that its start-of-frame bit is driven at once, is the bus's: a FREE
VALUE (assumption log 22). In a free or arbitrating slot the same holds. -/
def canKick (c : Nat) (s : State) : State :=
  let now := s.dev.fresh 101 % 2 = 1
  let s := s.onDev Dev.drew
  if now then canStart c s else s

/-! Requests and cancels at the output commit (R454, R456, R457, R472). -/

/-- A request of an object. -/
def canRequest (c j : Nat) (d : Dev) : Dev :=
  match canObj d c j with
  | some o =>
    if o.tx && canEnabled d c && canPdo d c && !(canTT d c && canScheduled d j) && !bit (d.cn c).pend j then
      canStatus c j 1 (d.modCn c fun x => { x with pend := setBit x.pend j true })
    else d
  | none => d

/-- A cancel of an object (R456). -/
def canCancel (c j : Nat) (d : Dev) : Dev :=
  let x := d.cn c
  if !bit x.pend j || (canTT d c && canScheduled d j) then d
  else if x.sof = some j then (d.modCn c fun x => { x with noRetry := true }).ev (pgCAN c) Ev.CAN.TXCANREF
  else canDone c j 3 d

/-- The toggles of the TX control item that the latest output commit has committed: requests, then cancels, before any of
these frames can start. -/
def canCommitOut (c : Nat) (s : State) : State :=
  match findItem s.dev true 2 c with
  | some it =>
    let b := outItem s it.ofs 16
    let req := ofLe (b.take 8)
    let can := ofLe ((b.drop 8).take 8)
    let x := s.dev.cn c
    let dr := req ^^^ x.prevReq
    let dc := can ^^^ x.prevCan
    let s := s.onDev fun d =>
      let d := d.each ((List.range 64).filter (bit dr)) (canRequest c)
      let d := d.each ((List.range 64).filter (bit dc)) (canCancel c)
      d.modCn c fun x => { x with prevReq := req, prevCan := can }
    canKick c s
  | none => s

/-- FRAME_RECORD_CANCEL (R457): the write of a transmit record's CANCEL bit completes. -/
def recordCancel (c a : Nat) (s : State) : State :=
  if a < packetBase ∨ packetBase + packetSize < a + 84 then s
  else
    let s := s.poke a 4 (setBit (s.peek a 4) 0 true)
    let x := s.dev.cn c
    let st := bitsOf (s.peek a 4) 4 4
    if x.sof = some 64 ∧ x.ringAt = a then
      s.onDev fun d => (d.modCn c fun x => { x with noRetry := true }).ev (pgCAN c) Ev.CAN.TXCANREF
    else if st = 0 ∨ st = 1 then
      let s := recordStatus a 3 s
      match canTxRing s.dev c with
      | some k => ringSkip k 256 s
      | none => s
    else s

/-! The end of a transmission (R454, R456, R458, R463). -/

/-- A bit error in the DLC or data field counts toward an identifier collision (R458). -/
def canCollide (c j : Nat) (d : Dev) : Dev :=
  let x := d.cn c
  let pg := pgCAN c
  let win := msMot (d.get pg CAN.ICCFG.ICWIN)
  let l := (j, d.tim.mot) :: x.coll.filter fun e => e.1 != j || decide (d.tim.mot < e.2 + win)
  if d.get pg CAN.ICCFG.ICLIM ≤ (l.filter fun e => e.1 == j).length then
    let d := d.modCn c fun x => { x with coll := l.filter fun e => e.1 != j }
    let d := (d.put pg CAN.ICLAST.ID x.frame.id).putB pg CAN.ICLAST.XTD x.frame.xtd
    ((d.incSat pg CAN.CNT1.IDCOL).ev pg Ev.CAN.IDCOL).raise pg Cz.CAN.IDCOL j
  else d.modCn c fun x => { x with coll := l }

/-- The frame under way ends for good with an outcome: the object's or the frame record's status. -/
def canFinish (c v : Nat) (s : State) : State :=
  let x := s.dev.cn c
  let s := match x.sof with
    | some 64 =>
      let s := recordStatus x.ringAt v s
      (match canTxRing s.dev c with
        | some k => if ringNext s k = some x.ringAt then ringTake k s else s
        | none => s)
    | some j => s.onDev (canDone c j v)
    | none => s
  s.onDev fun d => d.modCn c fun x => { x with sof := none, noRetry := false, txKind := 0 }

/-- Error counting of a transmitter (R449): plus 8 per error, but for a missing acknowledge while error-passive whose flag met no
dominant bit and for a stuff error on a recessive stuff bit of the arbitration field; plus 8 for each further case in the flags; minus 1
per frame sent. -/
def canTxCount (c : Nat) (e : CanEnd) (d : Dev) : Dev :=
  d.modCn c fun x => match e with
    | .sent => { x with tec := x.tec - 1 }
    | .lost => x
    | .error code _ _ w =>
      let spared := (code.val = 3 ∧ x.st = 3 ∧ !w.flagDom) ∨ (code.val = 1 ∧ w.arb)
      { x with tec := x.tec + (if spared then 0 else 8) + 8 * w.more }

/-- What an error leaves in `PSR` and counts toward a collision. -/
def canTxError (c : Nat) (e : CanEnd) (d : Dev) : Dev :=
  match e with
  | .error code dataPhase inData _ =>
    let d := d.put (pgCAN c) (if dataPhase then CAN.PSR.DLEC else CAN.PSR.LEC) code.val
    (match (d.cn c).sof with
      | some j => if inData && (code.val == 4 || code.val == 5) && decide (j < 64) then canCollide c j d else d
      | none => d)
  | _ => d

/-- The transmitter delay that a frame with a data phase at the data rate measures, in CANCLK periods: what it is, the
transceiver's: a FREE VALUE (R447). -/
def canDelay (c : Nat) (d : Dev) : Dev :=
  if (d.cn c).frame.brs && d.on (pgCAN c) CAN.TDC.TDCEN then (d.put (pgCAN c) CAN.PSR.TDCV (d.fresh 130 % 256)).drew else d

/-- CAN_TX_COMPLETE: the attempt under way ends; a waiting frame that has not been said to have begun has begun (R452). -/
def canTxComplete (c : Nat) (e : CanEnd) (s : State) : State :=
  let s := canStart c s
  let x := s.dev.cn c
  if x.sof.isNone then s
  else
    let s := s.onDev fun d => canErrState c (canTxError c e (canTxCount c e (canDelay c d)))
    let pg := pgCAN c
    let s := match e with
      | .sent =>
        let s := canFinish c 2 s
        s.onDev fun d =>
          let d := d.inc pg CAN.CNT0.TXOK
          { d with net := { d.net with out := { d.net.out with can := modNth (fun _ => x.frame) d.net.out.can c } } }
      | _ =>
        let v := match e with | .lost => 4 | _ => 5
        if x.noRetry then (canFinish c v s).onDev (Dev.incSat pg CAN.CNT1.LOST)
        else if x.txKind = 1 ∨ (x.txKind = 2 ∧ !canFits s.dev c x.frame) then canFinish c 6 s
        else s.onDev fun d => d.modCn c fun x => { x with sof := none, tried := x.tried || x.txKind == 2 }
    let s := canKick c s
    if e == .lost then s else s.onDev (canPublish c 2)

/-! Reception (R447, R451, R455). -/

/-- Whether a receive object takes a frame's identifier (R451). -/
def canMatch (f : CanFrame) (o : CanObj) : Bool :=
  !o.tx && o.xtd == f.xtd && o.fdf == f.fdf && ((o.id ^^^ f.id) &&& o.mask) == 0

/-- The first matching object by number. -/
def canFind (d : Dev) (c : Nat) (f : CanFrame) : Option CanObj :=
  (List.range 64).findSome? fun j => (canObj d c j).bind fun o => if canMatch f o then some o else none

/-- A frame is dropped. -/
def canDrop (c : Nat) (d : Dev) : Dev := (d.incSat (pgCAN c) CAN.CNT1.RXDROP).ev (pgCAN c) Ev.CAN.RXDROP

/-- DT at the start-of-frame bit of a frame that ends now. -/
def sofDt (d : Dev) (f : CanFrame) : Nat := d.dt - 4 * f.len

/-- A received frame as a frame record. -/
def frameRecord (d : Dev) (c : Nat) (f : CanFrame) : List Nat :=
  let n := canBytes f.fdf f.dlc
  leBytes 4 (256 * c) ++ leBytes 4 (b2n f.brs * 2 ^ 31 + b2n f.fdf * 2 ^ 30 + b2n f.xtd * 2 ^ 29 + f.id % 2 ^ 29) ++
    leBytes 4 (16 * b2n f.esi + f.dlc % 16) ++ leBytes 8 (sofDt d f % 2 ^ 64) ++
    (List.range 64).map (fun i => if i < n then nth f.data i 0 % 256 else 0)

/-- Stations of the leaf bus whose receive object this is. -/
def rxStations (d : Dev) (j : Nat) : List Nat :=
  (List.range 16).filter fun k => d.on pgIMPO (IMPO.STN.EN.at k) && d.get pgIMPO (IMPO.STN.RXOBJ.at k) == j

/-- The station whose check in progress a frame meets: its start-of-frame bit lies within the check's slot (R467). A frame that
ends after the slot comes too late for the check, which is judged at the slot's end (R469). -/
def stnMet (d : Dev) (c j : Nat) (f : CanFrame) : Option Nat :=
  let lb := d.net.lb
  match lb.slot with
  | some sl =>
    let v := cellOf d lb.row sl
    let k := v % 16
    let at_ := d.tim.mot - f.len
    if canTT d c && v / 64 == 3 && d.get pgIMPO (IMPO.STN.RXOBJ.at k) == j &&
        decide (lb.base + sl * slotMot d ≤ at_) && decide (at_ < slotEndMot d sl) then some k
    else none
  | none => none

/-- A check in progress is met. -/
def stnMeet (c j : Nat) (f : CanFrame) (d : Dev) : Dev :=
  match stnMet d c j f with
  | some k => { d with net := { d.net with lb := { d.net.lb with stn := modNth (fun x => { x with met := true }) d.net.lb.stn k } } }
  | none => d

/-- Whether an accepted frame is kept out of its item: a station's while it is dropped out, but for the frame that meets the
check by which it returns from REJOIN to PRESENT (R468, R469). -/
def stnHolds (d : Dev) (c j : Nat) (f : CanFrame) : Bool :=
  c == 0 && (rxStations d j).any fun k =>
    let st := (nth d.net.lb.stn k {}).st
    st == 3 || (st == 4 && stnMet d c j f != some k)

/-- A received frame that is on the bus at the end of the slot in which it began (R463). -/
def slotOver (c : Nat) (f : CanFrame) (d : Dev) : Dev :=
  let lb := d.net.lb
  let at_ := d.tim.mot - f.len
  if canTT d c && decide (lb.base ≤ at_) && decide (0 < slotMot d) &&
      decide ((at_ - lb.base) / max 1 (slotMot d) < d.get pgIMPO IMPO.TT_CFG.NSLOT) &&
      decide (slotEndMot d ((at_ - lb.base) / max 1 (slotMot d)) < d.tim.mot) then
    (d.incSat pgIMPO IMPO.SLOT_CNT.OVR).ev pgIMPO Ev.IMPO.SLOTOVR
  else d

/-- A frame is accepted by an object. -/
def canAccept (c : Nat) (o : CanObj) (f : CanFrame) (s : State) : State :=
  let hold := stnHolds s.dev c o.num f
  let s := s.onDev fun d =>
    let d := (d.inc (pgCAN c) CAN.CNT0.RXOK).modCn c fun x =>
      { x with rxOvr := if bit x.rxNew o.num then setBit x.rxOvr o.num true else x.rxOvr, rxNew := setBit x.rxNew o.num true }
    stnMeet c o.num f d
  if hold then s else inItemPut o.iofs ((List.range (canBytes o.fdf o.dlc)).map fun i => nth f.data i 0) s

/-- CAN_FRAME_RECEIVED: a frame of another node ends, or an error `err`, coded as `PSR.LEC`, ends it: the receive error counter
counts 1, 8 more when the first bit after the error flag is dominant (`errDom`), and 8 for each further case in the flags (`errMore`,
R449). A recessive res bit is a form error
while PEX is 0. An FD frame while FDEN is 0 is dropped. -/
def canReceive (c : Nat) (f : CanFrame) (s : State) : State :=
  let d := s.dev
  let pg := pgCAN c
  if !canOnBus d c then s
  else
    let counts := canSends d c
    let s := s.onDev fun d => d.modCn c fun x => { x with ack := x.st != 6 && f.err == 0 && !(f.fdf && f.res) }
    if f.err ≠ 0 then
      s.onDev fun d => canPublish c 1 (canErrState c ((d.put pg (if f.errData then CAN.PSR.DLEC else CAN.PSR.LEC) (f.err % 8)).modCn c
        fun x => if counts then { x with rec_ := x.rec_ + (if f.errDom then 9 else 1) + 8 * f.errMore } else x))
    else if f.fdf && f.res && d.on pg CAN.CTRL.FDEN then
      if d.on pg CAN.CTRL.PEX then
        s.onDev fun d => canPublish c 1 (((d.modCn c fun x => { x with st := 1, pxInt := true, sof := none }).put pg CAN.PSR.PXE 1).ev
          pg Ev.CAN.PXE)
      else
        s.onDev fun d => canPublish c 1 (canErrState c ((d.put pg CAN.PSR.LEC 2).modCn c fun x =>
          if counts then { x with rec_ := x.rec_ + (if f.errDom then 9 else 1) + 8 * f.errMore } else x))
    else
      let s := s.onDev fun d =>
        if counts && decide (0 < (d.cn c).rec_) then
          let v := if 127 < (d.cn c).rec_ then 119 + d.fresh 102 % 9 else (d.cn c).rec_ - 1
          canErrState c ((d.modCn c fun x => { x with rec_ := v }).drew)
        else d
      let s := s.onDev (slotOver c f)
      let s :=
        if f.rtr || (f.fdf && !d.on pg CAN.CTRL.FDEN) then s.onDev (canDrop c)
        else
          match canFind s.dev c f with
          | some o =>
            if o.dlc = f.dlc && canPdo s.dev c then canAccept c o f s else s.onDev (canDrop c)
          | none =>
            let k := s.dev.get pg CAN.RINGSEL.RXRING
            if ringActive s.dev k then (ringPut k 0 (frameRecord s.dev c f) s).1 else s.onDev (canDrop c)
      (canKick c s).onDev (canPublish c 1)

/-! Bus-off, recovery and integration (R450, R473). -/

/-- Every pending transmission ends with the status MISSED: the frame under way, a frame record whose attempt has failed, the
pending objects. -/
def canMissAll (c : Nat) (s : State) : State :=
  let s := if (s.dev.cn c).sof.isSome then canFinish c 6 s else s
  let s := match canTxRing s.dev c with
    | some k =>
      (match ringNext s k with
        | some a => if bitsOf (s.peek a 4) 4 4 = 1 then ringTake k (recordStatus a 6 s) else s
        | none => s)
    | none => s
  s.onDev fun d => d.each (canPending d c) fun j => canDone c j 6

/-- BUS_OFF: the transmit error counter has passed 255. -/
def busOff (c : Nat) (s : State) : State :=
  let x := s.dev.cn c
  let pg := pgCAN c
  if (x.st = 2 ∨ x.st = 3) ∧ 256 ≤ x.tec then
    (canMissAll c s).onDev fun d =>
      let times := d.tim.mot :: x.boTimes.filter fun t => decide (d.tim.mot < t + msMot 60000)
      let latch := decide (d.get pg CAN.BOCFG.BOMAX ≤ times.length) || !d.on pg CAN.CTRL.BOAUTO
      let d := d.modCn c fun x => { x with st := 4, boTimes := times, boLatched := latch, boAt := d.tim.mot,
                                           boReset := false, boRec := false }
      let d := ((d.incSat pg CAN.CNT1.BOCNT).ev pg Ev.CAN.BUSOFF).raise pg Cz.CAN.BUSOFF 0xFF
      let d := if latch then d.fault pg Cz.CAN.BOLATCH 0xFF else d
      let d := if c = 0 then { d with net := { d.net with lb := { d.net.lb with tt := false, slot := none } } }.put pgIMPO
                                IMPO.REF_STAT.TTRUN 0 else d
      canPublish c 0 d
  else s

/-- BUS_OFF_RECOVERY_START: BOHOLD after an unlatched bus-off, or at once after BORST (DESIGN CHOICE, assumption log 76). -/
def busOffStart (c : Nat) (d : Dev) : Dev :=
  let x := d.cn c
  let pg := pgCAN c
  if x.st = 4 ∧ !x.boRec ∧ (x.boReset ∨ (!x.boLatched ∧ d.on pg CAN.CTRL.BOAUTO ∧
      x.boAt + msMot (d.get pg CAN.BOCFG.BOHOLD) ≤ d.tim.mot)) then
    d.modCn c fun x => { x with boRec := true, boReset := false }
  else d

/-- BUS_OFF_RECOVERY_END. -/
def busOffEnd (c : Nat) (s : State) : State :=
  if (s.dev.cn c).st = 4 ∧ (s.dev.cn c).boRec then
    let s := s.onDev fun d => (d.modCn c fun x => { x with st := canActive d c, tec := 0, rec_ := 0, boRec := false }).ev
      (pgCAN c) Ev.CAN.BOREC
    (canKick c s).onDev (canPublish c 0)
  else s

/-- CAN_INTEGRATION_END: 11 recessive bits have been seen (R473); after a protocol exception the counters stand (R447). -/
def canIntegrated (c : Nat) (s : State) : State :=
  let x := s.dev.cn c
  if x.st = 1 then
    let s := s.onDev fun d => canErrState c (d.modCn c fun x =>
      { x with st := canActive d c, pxInt := false, tec := if x.pxInt then x.tec else 0, rec_ := if x.pxInt then x.rec_ else 0 })
    (canKick c s).onDev (canPublish c 0)
  else s

/-- Put a controller through integration, or off (R473); a latched bus-off stands until BORST (R450). -/
def canReinit (c : Nat) (s : State) : State :=
  (canMissAll c s).onDev fun d =>
    let en := canEnabled d c
    let d := d.modCn c fun x => { x with st := if !en then 0 else if x.boLatched then 4 else 1, boRec := false, pxInt := false }
    let stop := c == 0 && d.net.lb.tt
    let d := if stop then { d with net := { d.net with lb := { d.net.lb with tt := false, slot := none } } }.put pgIMPO
                              IMPO.REF_STAT.TTRUN 0 else d
    canPublish c 0 d

/-! The commit of a CAN page (R448, R450, R473). -/

/-- The fields whose change puts the controller through integration. -/
def canTiming : List Fld := [CAN.NBT.NBRP, CAN.NBT.NTSEG1, CAN.NBT.NTSEG2, CAN.NBT.NSJW, CAN.DBT.DBRP, CAN.DBT.DTSEG1,
  CAN.DBT.DTSEG2, CAN.DBT.DSJW]
def canReint : List Fld := canTiming ++ [CAN.TDC.TDCEN, CAN.TDC.TDCF, CAN.TDC.TDCO, CAN.CTRL.FDEN, CAN.CTRL.MODE, HDR.EN, HDR.PARK]

/-- Whether the rates of the timing in force lie within R448. -/
def canRatesOk (d : Dev) (c : Nat) : Bool :=
  let n := canNomBit d c / 25
  let m := canDataBit d c / 25
  decide (80 ≤ n) && decide (n ≤ 640) && decide (10 ≤ m) && decide (m ≤ n) &&
  decide (8 ≤ 1 + d.get (pgCAN c) CAN.DBT.DTSEG1 + d.get (pgCAN c) CAN.DBT.DTSEG2)

/-- What a commit of page CANc does after the staged values have been applied; `old` is the device before. -/
def canCommit (c : Nat) (old : Dev) (s : State) : State :=
  let pg := pgCAN c
  let s := s.onDev fun d =>
    let d := if canRatesOk d c then d
      else (d.each canTiming fun f d => d.put pg f (old.get pg f)).ev pg Ev.CAN.CFGCLAMP
    if d.on pg CAN.CTRL.BORST then
      let d := d.put2 pg CAN.CTRL.BORST 0
      if (d.cn c).boLatched then
        (d.modCn c fun x => { x with boLatched := false, boReset := x.st == 4 }).c2off pg Cz.CAN.BOLATCH.code 0xFF
      else d
    else d
  if canReint.any fun f => s.dev.get pg f != old.get pg f then canReinit c s else s

/-! The status item at the input freeze (R453). -/

/-- The CAN status item is written as the freeze begins, and the per-freeze bits begin anew. -/
def canFreeze (c : Nat) (s : State) : State :=
  let x := s.dev.cn c
  let s := match (s.dev.forme.map.find? fun it => !it.out && it.kind == 2 && it.idx == c && it.sub == 0) with
    | some it =>
      let st := (List.range 32).map fun i => nth x.status (2 * i) 0 + 16 * nth x.status (2 * i + 1) 0
      inItemPut it.ofs (st ++ leBytes 8 x.rxNew ++ leBytes 8 x.rxOvr ++ [x.st, min 255 x.tec, min 255 x.rec_, 0]) s
    | none => s
  s.onDev fun d => d.modCn c fun x => { x with rxNew := 0, rxOvr := 0 }

/-! The commands. -/

/-- CAN_FRAME_RECEIVED. -/
def execCanFrameReceived (ctl : Fin 3) (f : CanFrame) (s : State) : Host.Outcome State Fault Refusal :=
  doState (State.live (canReceive ctl.val f)) s

/-- FRAME_RECORD_CANCEL. -/
def execFrameRecordCancel (ctl : Fin 3) (addr : W32) (s : State) : Host.Outcome State Fault Refusal :=
  doState (State.live (recordCancel ctl.val addr.toNat)) s

/-- BUS_OFF. -/
def execBusOff (ctl : Fin 3) (s : State) : Host.Outcome State Fault Refusal := doState (State.live (busOff ctl.val)) s

/-- BUS_OFF_RECOVERY_START. -/
def execBusOffRecoveryStart (ctl : Fin 3) (s : State) : Host.Outcome State Fault Refusal :=
  doDev (Dev.live (busOffStart ctl.val)) s

/-- BUS_OFF_RECOVERY_END. -/
def execBusOffRecoveryEnd (ctl : Fin 3) (s : State) : Host.Outcome State Fault Refusal :=
  doState (State.live (busOffEnd ctl.val)) s

/-- CAN_INTEGRATION_END. -/
def execCanIntegrationEnd (ctl : Fin 3) (s : State) : Host.Outcome State Fault Refusal :=
  doState (State.live (canIntegrated ctl.val)) s

end Sys2Proof.Machine
end

