-- ==== Sys2Proof/Machine/LeafBus.lean ====
section
/-! DEFINITION. The time-triggered leaf bus on CAN0 (R459 to R471): the boundary, the reference message, slots and cells, stations
and their dropout, and the commit of page IMPO. -/

namespace Sys2Proof.Machine

/-- Change the leaf bus. -/
def Dev.modLb (f : LeafBusX → LeafBusX) (d : Dev) : Dev := { d with net := { d.net with lb := f d.net.lb } }

/-- Change a station. -/
def Dev.modStn (k : Nat) (f : StnX → StnX) (d : Dev) : Dev := d.modLb fun l => { l with stn := modNth f l.stn k }

/-- A station, and whether it is enabled. -/
def Dev.stn (d : Dev) (k : Nat) : StnX := nth d.net.lb.stn k {}
def stnEn (d : Dev) (k : Nat) : Bool := d.on pgIMPO (IMPO.STN.EN.at k)

/-- `LB_STAT`, `STN_STATk`, `REF_STAT` as they change at each slot end (R474). -/
def lbPublish (d : Dev) : Dev :=
  let mask (p : Nat → Bool) := (List.range 16).foldl (fun m k => if stnEn d k && p (d.stn k).st then m + 2 ^ k else m) 0
  let d := d.each (List.range 16) fun k d =>
    let x := d.stn k
    ((d.put pgIMPO (IMPO.STN_STAT.STATE.at k) (if stnEn d k then x.st else 0)).put pgIMPO (IMPO.STN_STAT.MISS.at k) x.miss).put pgIMPO
      (IMPO.STN_STAT.DROPS.at k) x.drops
  let d := (d.put pgIMPO IMPO.LB_STAT.PRESENT (mask fun st => st == 2 || st == 4)).put pgIMPO IMPO.LB_STAT.DROPPED
    (mask fun st => st == 3 || st == 4)
  (d.putB pgIMPO IMPO.REF_STAT.TTRUN d.net.lb.tt).put pgIMPO IMPO.REF_STAT.ROW d.net.lb.row

/-! Stations (R467 to R471). -/

/-- The substitute word into a station's input item in the filling bank (R469). -/
def stnSubstitute (k : Nat) (s : State) : State :=
  match canObj s.dev 0 (s.dev.get pgIMPO (IMPO.STN.RXOBJ.at k)) with
  | some o => inItemPut o.iofs (leBytes 4 (s.dev.get pgIMPO (IMPO.STN_SUB.SUB.at k))) s
  | none => s

/-- Dropout of a station (R469). -/
def stnDrop (k : Nat) (s : State) : State :=
  (stnSubstitute k s).onDev fun d =>
    let d := (d.modStn k fun x => { x with st := 3, drops := min 255 (x.drops + 1) }).modLb fun l =>
      { l with newDrop := setBit l.newDrop k true }
    (d.ev pgIMPO Ev.IMPO.STNDROP).fault pgIMPO Cz.IMPO.STNDROP k

/-- A check of station `k` is judged (table "Station states"). -/
def stnCheck (k : Nat) (met : Bool) (s : State) : State :=
  let x := s.dev.stn k
  let pres (d : Dev) : Dev := (d.modStn k fun x => { x with st := 2, miss := 0 }).c2off pgIMPO Cz.IMPO.STNDROP.code k
  let s := match x.st, met with
    | 1, true => s.onDev pres
    | 2, true => s.onDev fun d => d.modStn k fun x => { x with miss := 0 }
    | 2, false =>
      let m := x.miss + 1
      let s := s.onDev fun d => d.modStn k fun x => { x with miss := m }
      if s.dev.get pgIMPO (IMPO.STN.KMISS.at k) ≤ m then stnDrop k s else s
    | 3, true => s.onDev fun d => d.modStn k fun x => { x with st := 4 }
    | 4, true => s.onDev fun d => (pres d).ev pgIMPO Ev.IMPO.STNJOIN
    | 4, false => s.onDev fun d => d.modStn k fun x => { x with st := 3 }
    | _, _ => s
  s.onDev fun d => d.modStn k fun x => { x with met := false }

/-- An output message of a dropped station is discarded where it would have been sent (R470). -/
def stnDiscard (k j : Nat) (s : State) : State :=
  let w := match canObj s.dev 0 j with | some o => ofLe (outItem s o.iofs 4) | none => 0
  s.onDev fun d =>
    let d := (canDone 0 j 7 d).incSat pgIMPO (IMPO.STN_STAT.DISC.at k)
    (d.put pgIMPO (IMPO.STN_DISC.WORD.at k) w).ev pgIMPO Ev.IMPO.DISC

/-- STNWAIT (R468): a station not met in time after the start of time-triggered operation. -/
def stnWait (k : Nat) (s : State) : State :=
  let d := s.dev
  if d.net.lb.tt && stnEn d k && (d.stn k).st == 1 &&
      decide (d.net.lb.startMot + msMot (100 * d.get pgIMPO IMPO.REF_T.STNWAIT) ≤ d.tim.mot) then
    stnDrop k s
  else s

/-! The reference message (R460, R462). -/

/-- The reference message's frame. -/
def refFrame (d : Dev) : CanFrame :=
  let lb := d.net.lb
  { fdf := d.on pgIMPO IMPO.REF_CFG.FD, xtd := d.on pgIMPO IMPO.REF_CFG.XTD, id := d.get pgIMPO IMPO.REF_CFG.ID, dlc := 8,
    esi := d.on pgIMPO IMPO.REF_CFG.FD && (d.cn 0).st == 3,
    data := [lb.row % 64 + 64 * b2n d.flt.halt + 128 * b2n lb.newMat, d.get pgIMPO IMPO.TT_CFG.NSLOT] ++
      leBytes 2 (d.get pgIMPO IMPO.TT_CFG.SLOTW) ++ leBytes 4 (d.get pgCLK CLK.CYCLE_CNT.COUNT) }

/-- REFERENCE_MESSAGE: in slot 0, from REFDLY after the boundary and on an idle bus, the reference's start-of-frame bit is
driven; the attempt sends the frame, or it is lost or ends in an error and is retransmitted. -/
def refMessage (e : CanEnd) (d : Dev) : Dev :=
  let lb := d.net.lb
  if lb.tt && lb.slot == some 0 && !lb.refSent && canSends d 0 && (d.cn 0).sof.isNone &&
      canForm d 0 (d.on pgIMPO IMPO.REF_CFG.FD) && decide (lb.bnd + refMot d ≤ d.tim.mot) then
    let d := canErrState 0 (canTxError 0 e (canTxCount 0 e d))
    let d := (match e with
      | .sent =>
        let d := { d with net := { d.net with lb := { d.net.lb with refSent := true, base := d.tim.mot },
                                              out := { d.net.out with can := modNth (fun _ => refFrame d) d.net.out.can 0 } } }
        d.inc (pgCAN 0) CAN.CNT0.TXOK
      | _ => d)
    if e == .lost then d else canPublish 0 2 d
  else d

/-- The reference of the basic cycle has been sent, or is counted missed, as slot 0 ends (R462). -/
def refJudge (d : Dev) : Dev :=
  if d.net.lb.refSent then
    (d.modLb fun l => { l with missRun := 0, refFail := false }).c2off pgIMPO Cz.IMPO.REFFAIL.code 0xFF
  else
    let d := d.modLb fun l => { l with missRun := l.missRun + 1, refMiss := true }
    ((d.incSat pgIMPO IMPO.REF_STAT.MISS).ev pgIMPO Ev.IMPO.REFMISS).raise pgIMPO Cz.IMPO.REFMISS 0xFF

/-- REFFAIL (R462): the references of three consecutive basic cycles are missed. -/
def refFail (d : Dev) : Dev :=
  if 3 ≤ d.net.lb.missRun ∧ !d.net.lb.refFail then
    (d.modLb fun l => { l with refFail := true }).fault pgIMPO Cz.IMPO.REFFAIL 0xFF
  else d

/-! Slots (R461, R463 to R465). -/

/-- Whether R461 skips a slot: its end would fall less than 20 µs before the next boundary. -/
def slotSkips (d : Dev) (j : Nat) : Bool := decide (d.net.lb.bnd + cycleMot d < slotEndMot d j + 5000)

/-- A skipped slot is counted (R461). -/
def slotSkip (d : Dev) : Dev := (d.incSat pgIMPO IMPO.SLOT_CNT.SKIP).ev pgIMPO Ev.IMPO.SLOTSKIP

/-- SLOT_START: the slot is skipped, or begins with its cell. -/
def slotStart (j : Nat) (s : State) : State :=
  let d := s.dev
  let lb := d.net.lb
  if lb.tt && lb.slot.isNone && decide (lb.last < j) && decide (j < d.get pgIMPO IMPO.TT_CFG.NSLOT) &&
      decide (lb.base + j * slotMot d ≤ d.tim.mot) then
    if slotSkips d j then s.onDev fun d => slotSkip (d.modLb fun l => { l with last := j })
    else
      let v := cellOf d lb.row j
      let o := canObj d 0 (v % 64)
      let o := if v % 64 = 63 then none else o
      let drop := (v / 64 == 1 || v / 64 == 2) && o.isSome && (dropStn d (v % 64)).isSome
      let s := s.onDev fun d => d.modLb fun l =>
        { l with slot := some j, last := j, disc := drop, stn := l.stn.map fun x => { x with met := false } }
      match v / 64, o, drop with
      | 1, some o, false =>
        let s := s.onDev fun d => canStatus 0 o.num 1 (d.modCn 0 fun x => { x with pend := setBit x.pend o.num true })
        if (s.dev.cn 0).sof.isNone && canSends s.dev 0 && canForm s.dev 0 o.fdf then canStartObj 0 1 o s else s
      | 2, some o, false =>
        let s := s.onDev fun d => canStatus 0 o.num 1 (d.modCn 0 fun x => { x with pend := setBit x.pend o.num true, tried := false })
        canKick 0 s
      | 0, _, _ => canKick 0 s
      | _, _, _ => s
  else s

/-- What a slot's end settles: its check, a frame not begun, frames of dropped stations. -/
def slotSettle (j : Nat) (s : State) : State :=
  let d := s.dev
  let v := cellOf d d.net.lb.row j
  match v / 64 with
  | 3 => stnCheck (v % 16) (d.stn (v % 16)).met s
  | 0 =>
    (canPending d 0).foldl (fun s o =>
      match dropStn s.dev o with
      | some k => if (s.dev.cn 0).sof = some o || canScheduled s.dev o then s else stnDiscard k o s
      | none => s) s
  | _ =>
    let waits := bit (d.cn 0).pend (v % 64) && (d.cn 0).sof != some (v % 64)
    if d.net.lb.disc || waits then
      match dropStn d (v % 64) with
      | some k => stnDiscard k (v % 64) s
      | none => if waits then s.onDev (canDone 0 (v % 64) 6) else s
    else s

/-- SLOT_END. -/
def slotEnd (j : Nat) (s : State) : State :=
  let d := s.dev
  if d.net.lb.tt && d.net.lb.slot == some j && decide (slotEndMot d j ≤ d.tim.mot) then
    let s := if j = 0 then s.onDev refJudge else slotSettle j s
    s.onDev fun d =>
      let d := if j != 0 && (d.cn 0).sof.isSome && !(d.cn 0).ovrDone then
          ((d.modCn 0 fun x => { x with ovrDone := true }).incSat pgIMPO IMPO.SLOT_CNT.OVR).ev pgIMPO Ev.IMPO.SLOTOVR
        else d
      lbPublish (d.modLb fun l => { l with slot := none, disc := false })
  else s

/-! The program-cycle boundary. -/

/-- The leaf-bus status item, and NEWDROP for the error task (R452, R471, R398), as the freeze begins. -/
def lbFreeze (s : State) : State :=
  let d := s.dev
  let lb := d.net.lb
  let mask := (List.range 16).foldl (fun m k =>
    if stnEn d k && ((d.stn k).st == 2 || (d.stn k).st == 4) then m + 2 ^ k else m) 0
  let s := match (d.forme.map.find? fun it => !it.out && it.kind == 2 && it.idx == 0 && it.sub == 1) with
    | some it => inItemPut it.ofs (leBytes 2 mask ++ leBytes 2 lb.newDrop ++ [b2n lb.refMiss + 2 * b2n lb.tt, 0, 0, 0]) s
    | none => s
  s.onDev fun d =>
    let d := if lb.newDrop ≠ 0 then addReason 0 { d with forme := { d.forme with dropMask := d.forme.dropMask ||| lb.newDrop } } else d
    d.modLb fun l => { l with newDrop := 0, refMiss := false }

/-- Whether time-triggered operation can run (R459). -/
def ttReady (d : Dev) : Bool :=
  canMode d 0 == 4 && d.enabled (pgCAN 0) && d.pgState pgIMPO == 2 && d.enabled pgIMPO

/-- What the basic cycle that a boundary ends leaves: a reference still not sent is missed (R462), and slots that R461 skips and that have
not come are counted. -/
def lbCycleEnd (d : Dev) : Dev :=
  let lb := d.net.lb
  let d := if lb.slot == some 0 then refJudge d else d
  d.each ((List.range (d.get pgIMPO IMPO.TT_CFG.NSLOT)).filter fun j => decide (lb.last < j) && decide (j < 32) &&
    decide (lb.bnd + cycleMot d < slotEndMot d j + 5000)) fun _ d => slotSkip d

/-- Slot 0 of the basic cycle that begins, where R461 skips it: it is counted, and its reference is sent all the same (R460; model's
choice, assumption log 87). -/
def lbSkip0 (d : Dev) : Dev := if slotSkips d 0 then slotSkip d else d

/-- The basic cycle that begins at a boundary: the start of time-triggered operation, also its resumption after bus-off, or the
next row (R459, R466). -/
def lbBoundary (s : State) : State :=
  let s := if s.dev.net.lb.tt then s.onDev lbCycleEnd else s
  let d := s.dev
  let lb := d.net.lb
  if lb.tt && ttReady d then
    let row := if lb.newMat then 0 else (lb.row + 1) % max 1 (d.get pgIMPO IMPO.TT_CFG.NROW)
    s.onDev fun d => lbSkip0 (d.modLb fun l =>
      { l with row := row, slot := some 0, last := 0, disc := false, bnd := d.tim.mot, base := d.tim.mot + refMot d, refSent := false })
  else if ttReady d && (d.cn 0).st == 2 then
    let s := s.onDev fun d => d.modLb fun l =>
      { l with tt := true, row := 0, slot := some 0, last := 0, disc := false, bnd := d.tim.mot, base := d.tim.mot + refMot d,
               refSent := false, missRun := 0, startMot := d.tim.mot,
               stn := (List.range 16).map fun k => { st := if stnEn d k then 1 else 0, drops := (d.stn k).drops } }
    let s := s.onDev fun d => d.each ((List.range 16).filter (stnEn d)) fun k => Dev.c2off pgIMPO Cz.IMPO.STNDROP.code k
    (((List.range 16).filter (stnEn s.dev)).foldl (fun s k => stnSubstitute k s) s).onDev lbSkip0
  else if lb.tt then s.onDev fun d => lbPublish (d.modLb fun l => { l with tt := false, slot := none })
  else s

/-- NEWMAT has been sent with the first basic cycle under a matrix, and ends with that cycle (R460). -/
def lbNewMatEnd (d : Dev) : Dev := d.modLb fun l => { l with newMat := l.newMat && !l.tt }

/-! The commit of page IMPO (R461, R465, R466). -/

/-- The fields that apply only at a program-cycle boundary. -/
def impoBoundary : List Fld := [IMPO.TT_CFG.NROW, IMPO.TT_CFG.NSLOT, IMPO.TT_CFG.SLOTW, IMPO.REF_CFG.FD, IMPO.REF_CFG.XTD,
  IMPO.REF_CFG.ID] ++ (List.range 512).map IMPO.MATRIX.CELLS.at

/-- Cells that name what they may not name raise MAPBAD, with their row. -/
def impoMapBad (d : Dev) : Dev :=
  d.each (List.range 64) fun r d => d.each (List.range 8) fun w d =>
    if d.get pgIMPO (IMPO.MATRIX.CELLS.at (8 * r + w)) = 0 then d
    else d.each (List.range 4) fun i d =>
      if cellBad d (rawCell d r (4 * w + i)) then (d.ev pgIMPO Ev.IMPO.MAPBAD).raise pgIMPO Cz.IMPO.MAPBAD r else d

/-- The fit check of a commit of IMPO or a change of `FRM.CYCLE_N` (R461), while the page is in use: a page that is OFF has no
slots to fit (DEDUCED, assumption log 76). -/
def impoFit (d : Dev) : Dev :=
  if d.enabled pgIMPO ∧ cycleMot d < refMot d + d.get pgIMPO IMPO.TT_CFG.NSLOT * slotMot d + 5000 then
    d.raise pgIMPO Cz.IMPO.IMPFIT 0xFF
  else d

/-- After staged values of IMPO have been applied: `all` says that the matrix, `TT_CFG` and `REF_CFG` were among them. Every
commit judges the cells, which name stations that it may disable (R465). A station enabled begins ABSENT (R468). -/
def impoCommit (all : Bool) (d : Dev) : Dev :=
  let d := impoMapBad (d.modLb fun l => { l with newMat := l.newMat || all })
  let stnOf (k : Nat) : StnX :=
    if !stnEn d k then { drops := (d.stn k).drops }
    else if (d.stn k).st == 0 then { st := 1, drops := (d.stn k).drops } else d.stn k
  let l := (List.range 16).map stnOf
  let d := d.modLb fun lb => { lb with stn := l }
  let d := d.each ((List.range 16).filter fun k => !stnEn d k) fun k => Dev.c2off pgIMPO Cz.IMPO.STNDROP.code k
  impoFit (if d.net.lb.tt then d else lbPublish d)

/-! The commands. -/

/-- REFERENCE_MESSAGE. -/
def execReferenceMessage (e : CanEnd) (s : State) : Host.Outcome State Fault Refusal := doDev (Dev.live (refMessage e)) s

/-- SLOT_END. -/
def execSlotEnd (slot : Fin 32) (s : State) : Host.Outcome State Fault Refusal := doState (State.live (slotEnd slot.val)) s

/-- REFFAIL. -/
def execReffail (s : State) : Host.Outcome State Fault Refusal := doDev (Dev.live refFail) s

/-- STNWAIT. -/
def execStnwait (stn : Fin 16) (s : State) : Host.Outcome State Fault Refusal := doState (State.live (stnWait stn.val)) s

end Sys2Proof.Machine
end

