-- ==== Sys2Proof/Machine/Switch.lean ====
section
/-! DEFINITION. The telegram engine with its orientation (R482 to R491) and the Ethernet switch (R475 to R478). -/

namespace Sys2Proof.Machine

/-! Change helpers. -/

def Dev.modEth (f : EthX → EthX) (d : Dev) : Dev := { d with net := { d.net with eth := f d.net.eth } }
def Dev.modTrdp (f : TrdpX → TrdpX) (d : Dev) : Dev := { d with net := { d.net with trdp := f d.net.trdp } }

/-! Ports (R475). Ports are 0 for P0, 1 for P1, 2 for P2. -/

/-- `PxSPD` in force: 0 and 3 as 2. -/
def ethSpd (d : Dev) (p : Nat) : Nat :=
  let v := d.get pgETH (if p = 1 then ETH.PORTCFG.P1SPD else ETH.PORTCFG.P2SPD)
  if v = 1 then 1 else 2

/-- Whether a port reports link up. -/
def ethLink (d : Dev) (p : Nat) : Bool := d.on pgETH (if p = 1 then ETH.PORTSTAT.P1LINK else ETH.PORTSTAT.P2LINK)

/-- Whether an external port passes frames: unit and port enabled, link up at the speed configured. -/
def ethUp (d : Dev) (p : Nat) : Bool :=
  d.part.hasNet && d.enabled pgETH && d.net.eth.vio1 && ethLink d p &&
  d.on pgETH (if p = 1 then ETH.PORTCFG.P1EN else ETH.PORTCFG.P2EN) &&
  !d.on pgETH (if p = 1 then ETH.PORTSTAT.P1MIS else ETH.PORTSTAT.P2MIS)

/-- A port's in-band link state and speed change (R475): 0 no link, 1 100 Mbit/s, 2 1000 Mbit/s. -/
def ethLinkSet (p speed : Nat) (d : Dev) : Dev :=
  let fl := if p = 1 then ETH.PORTSTAT.P1LINK else ETH.PORTSTAT.P2LINK
  let fs := if p = 1 then ETH.PORTSTAT.P1SPD else ETH.PORTSTAT.P2SPD
  let fm := if p = 1 then ETH.PORTSTAT.P1MIS else ETH.PORTSTAT.P2MIS
  let was := d.on pgETH fl
  let chg := d.get pgETH fs != speed || was != (speed != 0)
  let d := ((d.put pgETH fs speed).putB pgETH fl (speed != 0)).putB pgETH fm (speed != 0 && speed != ethSpd d p)
  let d := d.evIf chg pgETH Ev.ETH.LINK
  let d := if was && speed == 0 then d.raise pgETH Cz.ETH.LINKDN p else d
  if speed = 0 then d.modEth fun e => { e with q := e.q.filter fun x => x.port != p } else d

/-- ETH_LINK_CHANGE: codes 0 to 2; a link that comes up shows that VIO1 stands again (R570). -/
def ethLinkChange (p speed : Nat) (d : Dev) : Dev :=
  if d.part.hasNet ∧ speed ≤ 2 then
    ethLinkSet p speed { d with net := { d.net with eth := { d.net.eth with vio1 := d.net.eth.vio1 || speed != 0 } } }
  else d

/-! Frames and VLANs (R477). -/

/-- The enabled VLAN entry of a VID that lists a port as a member. -/
def vlanEntry (d : Dev) (vid p : Nat) : Option Nat :=
  (List.range 16).find? fun k => d.on pgETH (ETH.VLAN.EN.at k) && d.get pgETH (ETH.VLAN.VID.at k) == vid &&
    bit (d.get pgETH (ETH.VLAN.MEMBER.at k)) p

/-- Whether a frame is a PTP event message (IEEE 1588: message types 0 to 3). -/
def ptpEvent (f : EthFrame) : Bool := f.etype == 0x88F7 && decide (nth f.data 0 0 % 16 < 4)

/-- The queue of a port for a frame: that of its PCP, and before them all that of PTP event frames (R477). -/
def ethQueueOf (d : Dev) (pcp : Nat) (f : EthFrame) : Nat := if ptpEvent f then 4 else bitsOf (d.get pgETH ETH.QMAP.QMAP) (2 * pcp) 2

/-- Whether a queue of a port holds 64 frames (R477). -/
def ethFull (d : Dev) (p q : Nat) : Bool := q != 4 && decide (64 ≤ (d.net.eth.q.filter fun x => x.port == p && x.queue == q).length)

/-- MOTCLK counts from the start-of-frame delimiter of a frame to its end on the line of a port, at the port's speed. -/
def frameMot (d : Dev) (p : Nat) (f : EthFrame) : Nat :=
  (max 60 (14 + (if f.tag.isSome then 4 else 0) + f.data.length) + 4) * (if ethSpd d p = 1 then 20 else 2)

/-- A frame for an egress port goes into its queue, or is dropped where the queue holds 64 (R477); `tc` is the time of its
start-of-frame delimiter at the ingress port where the transparent clock corrects it. -/
def ethQueue (p pcp : Nat) (f : EthFrame) (tc : Option Nat) (d : Dev) : Dev :=
  let q := ethQueueOf d pcp f
  if ethFull d p q then
    (d.incSat pgETH ETH.DROPS.QDROP).ev pgETH Ev.ETH.QDROP
  else d.modEth fun e => { e with q := e.q ++ [{ port := p, queue := q, frame := f, at_ := tc.getD d.tim.mot, tc := tc.isSome }] }

/-- A frame leaves through a member port, untagged where the entry says so. -/
def ethEgress (k p vid pcp : Nat) (f : EthFrame) (tc : Option Nat) (d : Dev) : Dev :=
  if ethUp d p && bit (d.get pgETH (ETH.VLAN.MEMBER.at k)) p then
    let tag := if bit (d.get pgETH (ETH.VLAN.UNTAG.at k)) p then none else some (vid, pcp)
    ethQueue p pcp { f with tag := tag } tc d
  else d

/-- The transparent clock adds the residence time, in 8 ns steps of the two timestamps, to the correctionField (R480). -/
def tcCorrect (f : EthFrame) (t0 t1 : Nat) : EthFrame :=
  let res := (t1 / 2 - t0 / 2) * 8
  let c := (ofBe ((f.data.drop 8).take 8) + res * 65536) % 2 ^ 64
  { f with data := f.data.take 8 ++ beBytes 8 c ++ f.data.drop 16 }

/-- A PTP timestamp: seconds and nanoseconds of DT. -/
def ptpStamp (ns : Nat) : List Nat := beBytes 6 (ns / 1000000000) ++ beBytes 4 (ns % 1000000000)

/-- A message that answers a Pdelay_Req: Pdelay_Resp (3) or Pdelay_Resp_Follow_Up (10), with a correction, a timestamp and the
requester's port identity (R479: sent two-step; the layout is that of IEEE 1588, assumption log 24). -/
def peerFrame (d : Dev) (p kind : Nat) (req : List Nat) (corr ns : Nat) : EthFrame :=
  let mac := d.get pgETH ETH.MAC_LO.MAC + 2 ^ 32 * d.get pgETH ETH.MAC_HI.MAC
  let m := leBytes 6 mac
  let hdr := [kind, 0x12] ++ beBytes 2 54 ++ [d.get pgPTP PTP.PTP_CFG.DOMAIN, 0, if kind = 3 then 2 else 0, 0] ++ beBytes 8 corr ++
    [0, 0, 0, 0] ++ m.take 3 ++ [0xFF, 0xFE] ++ m.drop 3 ++ beBytes 2 p ++ (req.drop 30).take 2 ++ [5, 0x7F]
  { dst := ofLe [0x01, 0x80, 0xC2, 0, 0, 0x0E], src := mac, etype := 0x88F7, data := hdr ++ ptpStamp ns ++ (req.drop 20).take 10 }

/-- Once a Pdelay_Resp of the unit leaves, its follow-up with the time of departure is queued (R479, R480). Model's choice: the
correction of the request goes back in the response (assumption log 24). -/
def peerFollow (p : Nat) (f : EthFrame) (d : Dev) : Dev :=
  let mac := d.get pgETH ETH.MAC_LO.MAC + 2 ^ 32 * d.get pgETH ETH.MAC_HI.MAC
  if f.etype == 0x88F7 && nth f.data 0 0 % 16 == 3 && f.src == mac then
    ethQueue p 0 (peerFrame d p 10 (f.data.take 20 ++ (f.data.drop 44).take 10 ++ (f.data.drop 30).take 2) 0
      (d.dt / 8 * 8)) none d
  else d

/-- Each external port sends, once its line is free, the frame that strict priority puts first: a PTP event frame, then queue 3 down
to 0, each in order of arrival (R477). On the line a frame is preceded by 8 bytes and followed by a gap of 12. -/
def ethDrainPort (p : Nat) (d : Dev) : Dev :=
  let busy := if p = 1 then d.net.eth.busy1 else d.net.eth.busy2
  if !ethUp d p || decide (d.tim.mot < busy) then d
  else
    match [4, 3, 2, 1, 0].findSome? fun k => d.net.eth.q.findIdx? fun x => x.port == p && x.queue == k with
    | some i =>
      (match d.net.eth.q[i]? with
        | some x =>
          let f := if x.tc then tcCorrect x.frame x.at_ d.tim.mot else x.frame
          let free := d.tim.mot + frameMot d p f + (if ethSpd d p = 1 then 400 else 40)
          let d := d.modEth fun e => { e with q := e.q.take i ++ e.q.drop (i + 1), busy1 := if p = 1 then free else e.busy1,
                                              busy2 := if p = 1 then e.busy2 else free }
          let d := d.inc pgETH (if p = 1 then ETH.CNT_P1.TXOK else ETH.CNT_P2.TXOK)
          peerFollow p f { d with net := { d.net with out := { d.net.out with eth := modNth (fun _ => f) d.net.out.eth p } } }
        | none => d)
    | none => d

/-- The external ports send. -/
def ethDrain (d : Dev) : Dev := ethDrainPort 2 (ethDrainPort 1 d)

/-! The telegram engine (R482 to R491). -/

/-- Whether the telegram engine works. -/
def trdpOn (d : Dev) : Bool := d.part.hasNet && d.enabled pgTRDP

/-- The orientation that the engine reports: the delivered one, before the first delivery `ORI.INIT` (R490). -/
def oriNow (d : Dev) : Bool :=
  match d.net.trdp.delivered with
  | some v => v == 1
  | none => d.on pgTRDP TRDP.ORI.INIT

/-- ORIOK (R490). -/
def oriOk (d : Dev) : Bool :=
  d.net.trdp.delivered.isSome &&
  (match d.net.trdp.subs[d.get pgTRDP TRDP.ORI.IDX]? with | some x => x.valid | none => false)

/-- `TRDP_STAT`. -/
def trdpPublish (d : Dev) : Dev :=
  let t := d.net.trdp
  let d := d.put pgTRDP TRDP.TRDP_STAT.SUBVALID ((t.subs.filter fun x => x.valid).length)
  let d := d.put pgTRDP TRDP.TRDP_STAT.PUBACT ((t.pubs.filter fun x => x.ok && x.d.en).length)
  (d.putB pgTRDP TRDP.TRDP_STAT.ORIOK (oriOk d)).putB pgTRDP TRDP.TRDP_STAT.ORI (oriNow d)

/-- Whether the image map has an item with a descriptor's offset and length (R488). -/
def mapHas (d : Dev) (out : Bool) (ofs len : Nat) : Bool := d.forme.map.any fun it => it.out == out && it.ofs == ofs && it.len == len

/-- MAPBAD (R488). -/
def trdpMapBad (d : Dev) : Dev := (d.ev pgTRDP Ev.TRDP.MAPBAD).raise pgTRDP Cz.TRDP.MAPBAD 0xFF

/-- A publisher's descriptor is loaded; the engine ignores a bad one (R488). Its sequence counter runs from 0 at start-up, so a
publisher of the same COMID and group goes on counting at an impression switch (DEDUCED, assumption log 77). -/
def pubLoad (old : List PubX) (p : PubD) (d : Dev) : Dev :=
  let ok := mapHas d true p.iofs p.dlen && decide (p.phase < p.cyc)
  let d := if p.en && !ok then trdpMapBad d else d
  let seq := ((old.find? fun x => x.d.comid == p.comid && x.d.dstIp == p.dstIp).map fun x => x.seq).getD 0
  d.modTrdp fun t => { t with pubs := t.pubs ++ [{ d := p, ok := ok, seq := seq }] }

/-- A subscriber's descriptor is loaded; a descriptor out of use is no earlier subscriber (R488). At an impression switch one whose COMID, SRCIP and IOFS are unchanged keeps its
validity and latest reception (R489). -/
def subLoad (old : List SubX) (p : SubD) (d : Dev) : Dev :=
  let dup := d.net.trdp.subs.any fun x => x.d.en && x.d.comid == p.comid && x.d.srcIp == p.srcIp
  let ok := mapHas d false p.iofs p.dlen && !dup
  let d := if p.en && !ok then trdpMapBad d else d
  let x : SubX := match old.find? fun x => ok && x.ok && x.d.comid == p.comid && x.d.srcIp == p.srcIp && x.d.iofs == p.iofs with
    | some x => { x with d := p, ok := ok }
    | none => { d := p, ok := ok }
  d.modTrdp fun t => { t with subs := t.subs ++ [x] }

/-- The descriptors of a network map are loaded. -/
def trdpLoad (pubs : List PubD) (subs : List SubD) (d : Dev) : Dev :=
  if !d.part.hasNet then d
  else
    let old := d.net.trdp.subs
    let oldP := d.net.trdp.pubs
    let d := d.modTrdp fun t => { t with pubs := [], subs := [] }
    trdpPublish ((d.each pubs (pubLoad oldP)).each subs (subLoad old))

/-- Whether a received topography counter passes (R487). -/
def topoPass (got have_ : Nat) : Bool := got == 0 || got == have_

/-- What keeps a telegram from a subscriber whose COMID and source match: 1 length, 2 topography, 3 duplicate, 0 nothing. -/
def subRefuse (d : Dev) (t : Telegram) (x : SubX) : Nat :=
  if t.dlen ≠ x.d.dlen ∨ t.data.length ≠ x.d.dlen then 1
  else if x.d.topoChk && !(topoPass t.etbTopo (d.get pgTRDP TRDP.TOPO_ETB.CNT) && topoPass t.opTopo (d.get pgTRDP TRDP.TOPO_OP.CNT))
  then 2
  else if x.lastSeq = some t.seq then 3 else 0

/-- The orientation bit of a telegram accepted by the subscriber named in `ORI` (R490). -/
def oriTake (i : Nat) (t : Telegram) (d : Dev) : Dev :=
  if !d.on pgTRDP TRDP.ORI.EN || d.get pgTRDP TRDP.ORI.IDX != i then d
  else
    let v := b2n (bit (nth t.data (d.get pgTRDP TRDP.ORI.BYTE) 0) (d.get pgTRDP TRDP.ORI.BIT))
    let o := d.net.trdp
    if o.delivered = some v then d.modTrdp fun o => { o with oriN := 0 }
    else
      let n := if o.oriN ≠ 0 ∧ o.oriVal = v then o.oriN + 1 else 1
      if d.get pgTRDP TRDP.ORI.STAB ≤ n then
        (d.modTrdp fun o => { o with delivered := some v, oriN := 0, oriVal := v }).ev pgTRDP Ev.TRDP.ORICHG
      else d.modTrdp fun o => { o with oriN := n, oriVal := v }

/-- TELEGRAM_RECEIVED (R484): accepted by the first subscriber that it passes, else dropped and counted. -/
def teleReceive (t : Telegram) (s : State) : State :=
  let d := s.dev
  if !trdpOn d then s
  else if !(t.fcsOk && t.ver / 256 == 1 && t.msgType == 0x5064) then s.onDev fun d => d.incSat pgTRDP TRDP.RXDROP.FCS
  else
    let cand := (List.range d.net.trdp.subs.length).filterMap fun i => (d.net.trdp.subs[i]?).bind fun x =>
      if x.ok && x.d.en && x.d.comid == t.comId && (x.d.srcIp == 0 || x.d.srcIp == t.srcIp) then some (i, x) else none
    match cand.find? fun c => subRefuse d t c.2 == 0 with
    | some (i, x) =>
      let s := inItemPut x.d.iofs t.data s
      s.onDev fun d =>
        let d := d.modTrdp fun r => { r with subs := modNth (fun x =>
          { x with valid := true, lastSeq := some t.seq, rxDt := some (d.dt - 4 * t.len), new := true, tmoRep := false }) r.subs i }
        trdpPublish (oriTake i t (d.inc pgTRDP TRDP.RXCNT.COUNT))
    | none =>
      let why := (cand.map fun c => subRefuse d t c.2).foldl max 0
      s.onDev fun d =>
        if why = 3 then d.incSat pgTRDP TRDP.RXDROP.DUP
        else if why = 2 then (d.incSat pgTRDP TRDP.RXDROP.TOPO).ev pgTRDP Ev.TRDP.TOPODROP
        else if why = 1 then d.incSat pgTRDP TRDP.RXDROP.LEN
        else d

/-! Published telegrams (R482, R483). -/

/-- One's complement sum of 16-bit words, complemented (RFC 791, RFC 768). -/
def inetSum (l : List Nat) : Nat :=
  let ws := (List.range ((l.length + 1) / 2)).map fun i => 256 * nth l (2 * i) 0 + nth l (2 * i + 1) 0
  let a := ws.foldl (· + ·) 0
  let b := a % 65536 + a / 65536
  65535 - (b % 65536 + b / 65536) % 65536

/-- The process-data header of a publisher's next telegram (table "Process-data header"). -/
def teleHeader (d : Dev) (x : PubX) : List Nat :=
  let h := beBytes 4 x.seq ++ beBytes 2 0x0100 ++ beBytes 2 0x5064 ++ beBytes 4 x.d.comid ++
    beBytes 4 (d.get pgTRDP TRDP.TOPO_ETB.CNT) ++ beBytes 4 (d.get pgTRDP TRDP.TOPO_OP.CNT) ++ beBytes 4 x.d.dlen ++
    List.replicate 12 0
  h ++ beBytes 4 (Config.trdpFcs h)

/-- The datagram of a telegram: IPv4 without options, TTL and DSCP of R482, UDP from port 17224 to port 17224. The IPv4
identification is a FREE VALUE. -/
def teleFrame (d : Dev) (x : PubX) (body : List Nat) : EthFrame :=
  let src := d.get pgETH ETH.IPADDR.IP
  let udpLen := 8 + body.length
  let pseudo := beBytes 4 src ++ beBytes 4 x.d.dstIp ++ [0, 17] ++ beBytes 2 udpLen
  let udp0 := beBytes 2 17224 ++ beBytes 2 17224 ++ beBytes 2 udpLen
  let ck := inetSum (pseudo ++ udp0 ++ [0, 0] ++ body)
  let ip0 := [0x45, 32 * x.d.pcp] ++ beBytes 2 (20 + udpLen) ++ beBytes 2 (d.fresh 103) ++ [0x40, 0, d.get pgTRDP TRDP.TRDP_CFG.TTL, 17]
  let ipck := inetSum (ip0 ++ [0, 0] ++ beBytes 4 src ++ beBytes 4 x.d.dstIp)
  { dst := ofLe ([0x01, 0x00, 0x5E] ++ beBytes 3 (x.d.dstIp % 2 ^ 23)),
    src := d.get pgETH ETH.MAC_LO.MAC + 2 ^ 32 * d.get pgETH ETH.MAC_HI.MAC,
    tag := some (x.d.vid, x.d.pcp), etype := 0x0800,
    data := ip0 ++ beBytes 2 ipck ++ beBytes 4 src ++ beBytes 4 x.d.dstIp ++ udp0 ++ beBytes 2 (if ck = 0 then 65535 else ck) ++ body }

/-- One due telegram is sent: its payload is read from the committed bank, and it leaves by the ports named (R483, R477). -/
def teleSend (i : Nat) (s : State) : State :=
  match s.dev.net.trdp.pubs[i]? with
  | none => s
  | some x =>
    if !x.due then s
    else
      let pay := outItem s x.d.iofs x.d.dlen
      s.onDev fun d =>
        let f := teleFrame d x (teleHeader d x ++ pay)
        let t : Telegram := { srcIp := d.get pgETH ETH.IPADDR.IP, seq := x.seq, comId := x.d.comid,
                              etbTopo := d.get pgTRDP TRDP.TOPO_ETB.CNT, opTopo := d.get pgTRDP TRDP.TOPO_OP.CNT,
                              dlen := x.d.dlen, data := pay }
        let d := (d.modTrdp fun r => { r with pubs := modNth (fun x => { x with due := false, seq := (x.seq + 1) % 2 ^ 32 })
                                                r.pubs i }).drew
        let d := { d with net := { d.net with out := { d.net.out with tele := some t } } }
        let d := d.inc pgTRDP TRDP.TXCNT.COUNT
        match vlanEntry d x.d.vid 0 with
        | some k => d.each ([1, 2].filter fun p => bit (2 * x.d.ports) p) fun p => ethEgress k p x.d.vid x.d.pcp f none
        | none => d.incSat pgETH ETH.DROPS.FILT

/-- Whether a telegram of a publisher can start: every queue it goes to has room (model's choice, assumption log 88). -/
def teleRoom (d : Dev) (x : PubX) : Bool :=
  [1, 2].all fun p => !(bit (2 * x.d.ports) p && ethUp d p && ethFull d p (bitsOf (d.get pgETH ETH.QMAP.QMAP) (2 * x.d.pcp) 2))

/-- The due telegrams are sent in descriptor order, up to the first that cannot start yet (R483). -/
def teleRun : List Nat → State → State
  | [], s => s
  | i :: l, s =>
    match s.dev.net.trdp.pubs[i]? with
    | some x => if x.due && !teleRoom s.dev x then s else teleRun l (teleSend i s)
    | none => s

/-- The engine sends while it runs. -/
def teleGo (s : State) : State :=
  if trdpOn s.dev && s.dev.net.trdp.run then teleRun (List.range s.dev.net.trdp.pubs.length) s else s

/-- TELEGRAM_PUBLISH: TXDLY after the boundary the engine begins to send (R483). -/
def telePublish (s : State) : State :=
  let d := s.dev
  if trdpOn d && decide (d.net.trdp.bnd + d.get pgTRDP TRDP.TRDP_CFG.TXDLY * 250 ≤ d.tim.mot) then
    teleGo (s.onDev (Dev.modTrdp fun t => { t with run := t.pubs.any fun x => x.due }))
  else s

/-- At a program-cycle boundary a telegram still due is skipped, and the publishers of the new cycle become due (R483). -/
def trdpBoundary (d : Dev) : Dev :=
  if !trdpOn d then d.modTrdp fun t => { t with run := false, pubs := t.pubs.map fun x => { x with due := false } }
  else
    let late := (d.net.trdp.pubs.filter fun x => x.due).length
    let d := d.each (List.range late) fun _ d =>
      ((d.incSat pgTRDP TRDP.TXLATE.COUNT).ev pgTRDP Ev.TRDP.TXLATE).raise pgTRDP Cz.TRDP.TXLATE 0xFF
    let c := d.get pgCLK CLK.CYCLE_CNT.COUNT
    d.modTrdp fun t => { t with bnd := d.tim.mot, run := false,
                                pubs := t.pubs.map fun x => { x with due := x.ok && x.d.en && c % max 1 x.d.cyc == x.d.phase } }

/-- Subscribers whose latest telegram is older than TMO as the freeze begins (R485). -/
def subTimeout (i : Nat) (s : State) : State :=
  match s.dev.net.trdp.subs[i]? with
  | none => s
  | some x =>
    let old := match x.rxDt with | some t => decide (t + x.d.tmo * 1000000 < s.dev.dt) | none => false
    if x.valid && old then
      let s := if x.d.tob then inItemPut x.d.iofs (List.replicate x.d.dlen 0) s else s
      s.onDev fun d =>
        let d := d.modTrdp fun r => { r with subs := modNth (fun x => { x with valid := false, tmoRep := true }) r.subs i }
        let d := (d.incSat pgTRDP TRDP.TMOCNT.COUNT).ev pgTRDP Ev.TRDP.SUBTMO
        if x.tmoRep then d else d.raise pgTRDP Cz.TRDP.SUBTMO 0xFF
    else s

/-- The entry of a subscriber in the TRDP status item (R486). -/
def subEntry (d : Dev) (i : Nat) : List Nat :=
  match d.net.trdp.subs[i]? with
  | some x =>
    let age := match x.rxDt with
      | some t => min 0xFFFFFFFF (Num.quo 110 ((d.dt : Int) - t) 1000).toNat
      | none => 0xFFFFFFFF
    [b2n x.valid + 2 * b2n x.new, 0, 0, 0] ++ leBytes 4 age
  | none => [0, 0, 0, 0] ++ leBytes 4 0xFFFFFFFF

/-- The network orientation that the control plane takes: 0 while EN is 0 and in FN8D-N (R491). -/
def netOri (v : Bool) (d : Dev) : Dev :=
  { d with sy := { d.sy with net := v && d.part.hasNet && d.on pgTRDP TRDP.ORI.EN } }

/-- The engine at the input freeze (R485, R486, R491): timeouts, the status item, and the network orientation that it
carries to the control plane. -/
def trdpFreeze (s : State) : State :=
  if !trdpOn s.dev then s.onDev fun d => netOri d.sy.net d
  else
    let s := (List.range s.dev.net.trdp.subs.length).foldl (fun s i => subTimeout i s) s
    let d := s.dev
    let s := match findItem d false 4 0 with
      | some it =>
        let bytes := [b2n (oriNow d) + 2 * b2n (oriOk d), 0, 0, 0] ++ leBytes 4 (d.get pgTRDP TRDP.TOPO_ETB.CNT) ++
          leBytes 4 (d.get pgTRDP TRDP.TOPO_OP.CNT) ++ [0, 0, 0, 0] ++ (List.range 512).flatMap (subEntry d)
        (inItemPut it.ofs bytes s).onDev fun d => netOri (oriNow d) d
      | none => s.onDev fun d => netOri d.sy.net d
    s.onDev fun d => trdpPublish (d.modTrdp fun t => { t with subs := t.subs.map fun x => { x with new := false } })

/-! The switch (R475 to R478). -/

/-- The bytes of a frame as it goes into a ring: addresses, tag, Ethertype, payload. -/
def ethBytes (f : EthFrame) : List Nat :=
  leBytes 6 f.dst ++ leBytes 6 f.src ++
    (match f.tag with | some (vid, pcp) => [0x81, 0x00] ++ beBytes 2 (pcp * 8192 + vid) | none => []) ++
    beBytes 2 f.etype ++ f.data

/-- A frame from the bytes of a ring entry. -/
def ethOfBytes (l : List Nat) : EthFrame :=
  let ty := ofBe ((l.drop 12).take 2)
  if ty = 0x8100 then
    let tci := ofBe ((l.drop 14).take 2)
    { dst := ofLe (l.take 6), src := ofLe ((l.drop 6).take 6), tag := some (tci % 4096, tci / 8192),
      etype := ofBe ((l.drop 16).take 2), data := l.drop 18 }
  else { dst := ofLe (l.take 6), src := ofLe ((l.drop 6).take 6), etype := ty, data := l.drop 14 }

/-- Whether an address is a group address, and the broadcast address. -/
def macGroup (a : Nat) : Bool := a % 2 == 1
def macAll : Nat := 0xFFFFFFFFFFFF

/-- Whether P0 accepts a frame (R478). -/
def p0Accepts (d : Dev) (f : EthFrame) : Bool :=
  f.dst == d.get pgETH ETH.MAC_LO.MAC + 2 ^ 32 * d.get pgETH ETH.MAC_HI.MAC || f.dst == macAll || f.etype == 0x88F7 ||
  (f.dst % 2 ^ 24 == 0x5E0001 && f.etype == 0x0800 &&
    (let g := ofBe ((f.data.drop 16).take 4)
     (List.range 32).any fun k => g != 0 && d.get pgETH (ETH.MCAST.GROUP.at k) == g))

/-- The telegram in a UDP datagram to port 17224. -/
def teleOfFrame (f : EthFrame) : Option Telegram :=
  let ihl := nth f.data 0 0 % 16 * 4
  let u := f.data.drop ihl
  let h := u.drop 8
  if f.etype == 0x0800 && nth f.data 9 0 == 17 && ofBe ((u.drop 2).take 2) == 17224 then
    some { srcIp := ofBe ((f.data.drop 12).take 4), seq := ofBe (h.take 4), ver := ofBe ((h.drop 4).take 2),
           msgType := ofBe ((h.drop 6).take 2), comId := ofBe ((h.drop 8).take 4), etbTopo := ofBe ((h.drop 12).take 4),
           opTopo := ofBe ((h.drop 16).take 4), dlen := ofBe ((h.drop 20).take 4),
           fcsOk := ofBe ((h.drop 36).take 4) == Config.trdpFcs (h.take 36) % 2 ^ 32, data := (h.drop 40).take (ofBe ((h.drop 20).take 4)) }
  else none

/-- Whether the PTP unit works. -/
def ptpOn (d : Dev) : Bool := d.part.hasNet && d.enabled pgPTP

/-- An Announce message of the unit's domain names a foreign master for three announce intervals (R479; the layout and the count
of intervals are those of IEEE 1588, assumption log 24). -/
def ptpAnnounce (port : Nat) (f : EthFrame) (d : Dev) : Dev :=
  let be (o n : Nat) : Nat := ofBe ((f.data.drop o).take n)
  if ptpOn d && nth f.data 0 0 % 16 == 11 && be 4 1 == d.get pgPTP PTP.PTP_CFG.DOMAIN && decide (64 ≤ f.data.length) then
    let lg := be 33 1
    let iv := if lg < 128 then 250000000 * 2 ^ min lg 10 else 250000000 / 2 ^ (256 - lg)
    let a : Announce := { port := port, sender := be 20 10, prio1 := be 47 1, cls := be 48 1, acc := be 49 1, var := be 50 2,
                          prio2 := be 52 1, gm := be 53 8, steps := be 61 2, until_ := d.tim.mot + 3 * iv }
    { d with net := { d.net with ptp := { d.net.ptp with masters := a :: d.net.ptp.masters.filter fun x =>
        !(x.port == port && x.sender == a.sender) && decide (d.tim.mot < x.until_) } } }
  else d

/-- A Pdelay_Req of the unit's domain is answered where DELAY is 1, with the time its start-of-frame delimiter came (R479, R480). -/
def ptpPeer (port : Nat) (f : EthFrame) (d : Dev) : Dev :=
  if ptpOn d && d.on pgPTP PTP.PTP_CFG.DELAY && nth f.data 0 0 % 16 == 2 && nth f.data 4 0 == d.get pgPTP PTP.PTP_CFG.DOMAIN then
    ethQueue port 0 (peerFrame d port 3 f.data (ofBe ((f.data.drop 8).take 8)) ((d.dt - 4 * frameMot d port f) / 8 * 8)) none d
  else d

/-- P0 passes a frame to the PTP unit (its Announce and Pdelay_Req messages; a Sync is the command PTP_SYNC), the telegram engine or
the receive ring. -/
def p0Take (port : Nat) (f : EthFrame) (s : State) : State :=
  if f.etype = 0x88F7 then s.onDev fun d => ptpPeer port f (ptpAnnounce port f d)
  else
    match teleOfFrame f with
    | some t => teleReceive { t with len := frameMot s.dev port f } s
    | none =>
      let k := s.dev.get pgETH ETH.RINGSEL.RXRING
      let r := if ringActive s.dev k then ringPut k 0 (ethBytes f) s else (s, false)
      if r.2 then r.1 else r.1.onDev fun d => (d.incSat pgETH ETH.DROPS.RING).ev pgETH Ev.ETH.RINGDROP

/-- A source address is learned at an external port (R476). -/
def macLearn (a p : Nat) (d : Dev) : Dev :=
  if macGroup a then d
  else d.modEth fun e =>
    let rest := e.mac.filter fun x => x.mac != a && decide (d.tim.mot < x.at_ + msMot 300000)
    if rest.length < 1024 then { e with mac := { mac := a, port := p, at_ := d.tim.mot } :: rest } else e

/-- A frame that has passed its ingress check goes to P0 and out of the ports that its address names. -/
def ethForward (k ingress vid pcp : Nat) (f : EthFrame) (s : State) : State :=
  let d := s.dev
  let own := d.get pgETH ETH.MAC_LO.MAC + 2 ^ 32 * d.get pgETH ETH.MAC_HI.MAC
  let s := if ingress != 0 && p0Accepts d f && bit (d.get pgETH (ETH.VLAN.MEMBER.at k)) 0 then
      p0Take ingress { f with tag := if bit (d.get pgETH (ETH.VLAN.UNTAG.at k)) 0 then none else some (vid, pcp) } s
    else s
  let known := if macGroup f.dst then none
    else (d.net.eth.mac.find? fun x => x.mac == f.dst && decide (d.tim.mot < x.at_ + msMot 300000)).map fun x => x.port
  let outs := [1, 2].filter fun p => p != ingress && (ingress == 0 || d.on pgETH ETH.PORTCFG.FWD) && f.dst != own &&
    (match known with | some q => p == q | none => true)
  let tc := if ingress != 0 && d.on pgPTP PTP.PTP_CFG.TC && ptpEvent f then some (d.tim.mot - frameMot d ingress f) else none
  s.onDev fun d => d.each outs fun p => ethEgress k p vid pcp f tc

/-- ETH_FRAME_RECEIVED on P1 or P2; a frame longer than R475 allows is one with an error. -/
def ethReceive (p : Nat) (f : EthFrame) (err : Bool) (s : State) : State :=
  if !ethUp s.dev p then s
  else if err || decide (1500 < f.data.length) then s.onDev fun d => (d.incSat pgETH ETH.DROPS.RXERR).ev pgETH Ev.ETH.RXERR
  else
    let s := s.onDev fun d => d.inc pgETH (if p = 1 then ETH.CNT_P1.RXOK else ETH.CNT_P2.RXOK)
    let d := s.dev
    let pvid := d.get pgETH (if p = 1 then ETH.PVID.P1PVID else ETH.PVID.P2PVID)
    let vp : Nat × Nat := match f.tag with | some (v, q) => if v = 0 then (pvid, 0) else (v, q % 8) | none => (pvid, 0)
    match vlanEntry d vp.1 p with
    | none => s.onDev fun d => d.incSat pgETH ETH.DROPS.FILT
    | some k => ethForward k p vp.1 vp.2 f (s.onDev (macLearn f.src p))

/-- One frame of the transmit ring is sent through P0 (R478): it carries its own tag; an untagged one VID 1 and PCP 0. -/
def ethTxRing : Nat → State → State
  | 0, s => s
  | n + 1, s =>
    let k := s.dev.get pgETH ETH.RINGSEL.TXRING
    if !(ringActive s.dev k && s.dev.part.hasNet && s.dev.enabled pgETH) then s
    else
      match ringNext s k with
      | none => s
      | some a =>
        let f := ethOfBytes (Memory.getL sramEmpty s.mem a (s.peek (a - 4) 2))
        let s := ringTake k s
        let vp : Nat × Nat := match f.tag with | some (v, q) => (v, q % 8) | none => (1, 0)
        let s := match vlanEntry s.dev vp.1 0 with
          | none => s.onDev fun d => d.incSat pgETH ETH.DROPS.FILT
          | some e => ethForward e 0 vp.1 vp.2 f s
        ethTxRing n s

/-- ADDRESS_AGING (R476). -/
def macAge (a : Nat) (d : Dev) : Dev :=
  d.modEth fun e => { e with mac := e.mac.filter fun x => x.mac != a || decide (d.tim.mot < x.at_ + msMot 300000) }

/-- What the units attached to the rings do once an index has advanced: the switch and the CAN controllers send. -/
def ringService (s : State) : State := [0, 1, 2].foldl (fun s c => canKick c s) (ethTxRing 1024 s)

/-! The commands. -/

/-- ETH_FRAME_RECEIVED. -/
def execEthFrameReceived (port : Fin 2) (f : EthFrame) (err : Bool) (s : State) : Host.Outcome State Fault Refusal :=
  doState (State.live (ethReceive (port.val + 1) f err)) s

/-- ETH_LINK_CHANGE. -/
def execEthLinkChange (port : Fin 2) (speed : Fin 3) (s : State) : Host.Outcome State Fault Refusal :=
  doDev (Dev.live (ethLinkChange (port.val + 1) speed.val)) s

/-- ADDRESS_AGING. -/
def execAddressAging (mac : BitVec 48) (s : State) : Host.Outcome State Fault Refusal := doDev (Dev.live (macAge mac.toNat)) s

/-- TELEGRAM_RECEIVED. -/
def execTelegramReceived (t : Telegram) (s : State) : Host.Outcome State Fault Refusal := doState (State.live (teleReceive t)) s

end Sys2Proof.Machine
end

