-- ==== Sys2Proof/Machine/Ptp.lean ====
section
/-! DEFINITION. The PTP unit (R479 to R481) and steps of device time at the program-cycle boundary (R38, R362). -/

namespace Sys2Proof.Machine

def Dev.modPtp (f : PtpX → PtpX) (d : Dev) : Dev := { d with net := { d.net with ptp := f d.net.ptp } }

/-- Whether a port is a slave candidate (`PORTSEL`, 0 as 3). -/
def ptpPort (d : Dev) (p : Nat) : Bool :=
  let v := d.get pgPTP PTP.PTP_CFG.PORTSEL
  bit (if v = 0 then 3 else v) (p - 1)

/-- Set `SYS.DT_STAT.SRC`, raising DTSRC on a change. -/
def setDtSrc (v : Nat) (d : Dev) : Dev :=
  if d.get pgSYS SYS.DT_STAT.SRC = v then d else (d.put pgSYS SYS.DT_STAT.SRC v).ev pgSYS Ev.SYS.DTSRC

/-- Set the state code of `PTP_STAT`. -/
def ptpState (st : Nat) (d : Dev) : Dev := (d.modPtp fun p => { p with st := st }).put pgPTP PTP.PTP_STAT.STATE st

/-- Set the DT rate trim within R37, in parts per billion. -/
def dtTrim (r : Int) (d : Dev) : Dev := { d with tim := { d.tim with ppb := clampI (-200000) 200000 r } }

/-! The best master clock algorithm over the ports of PORTSEL (R479), as IEEE 1588 compares data sets (assumption log 24). -/

/-- Lists compared in order of their items. -/
def lexLt : List Nat → List Nat → Bool
  | a :: l, b :: m => decide (a < b) || (a == b && lexLt l m)
  | _, _ => false

/-- Whether a foreign master is better: by its grandmaster's data set, and for one grandmaster by steps removed and sender. -/
def masterBetter (a b : Announce) : Bool :=
  if a.gm = b.gm then lexLt [a.steps, a.sender, a.port] [b.steps, b.sender, b.port]
  else lexLt [a.prio1, a.cls, a.acc, a.var, a.prio2, a.gm] [b.prio1, b.cls, b.acc, b.var, b.prio2, b.gm]

/-- The best of the foreign masters that still count on a candidate port. -/
def bestMaster (d : Dev) : Option Announce :=
  (d.net.ptp.masters.filter fun a => ptpPort d a.port && decide (d.tim.mot < a.until_)).foldl
    (fun b a => match b with | some x => if masterBetter a x then some a else b | none => some a) none

/-- Whether a Sync comes from the master selected: any, where no Announce has been received. -/
def syncFrom (e : SyncEnv) (d : Dev) : Bool :=
  match bestMaster d with | some a => a.port == e.port.val + 1 && a.gm == e.gm.toNat | none => true

/-- The mean path delay, ns: half the round trip of the latest delay exchange, by whichever mechanism DELAY selects (R479); its
four timestamps in the order of travel. -/
def syncMpd (e : SyncEnv) (d : Dev) : Int :=
  match e.delay with
  | some (t1, t2, t3, t4) => (((t2 : Int) - t1) + ((t4 : Int) - t3)) / 2
  | none => d.net.ptp.mpd

/-- DT at the start-of-frame delimiter of a Sync `ageNs` ago, with 8 ns resolution (R480). -/
def syncDt (e : SyncEnv) (d : Dev) : Int := ((d.dt : Int) - e.ageNs) / 8 * 8

/-- The offset of DT from the grandmaster at a Sync, ns: the timestamp less the origin timestamp, the correction (in 1/65,536 ns)
and the mean path delay (R481). -/
def syncOffset (e : SyncEnv) (d : Dev) : Int := syncDt e d - e.origin.toNat - e.corr / 65536 - syncMpd e d

/-- The rate trim that the unit sets at a Sync: how it follows from the offsets the manual leaves to the unit: a FREE VALUE within
R37. -/
def syncRate (d : Dev) : Int := (d.fresh 131 % 400001 : Nat) - 200000

/-- PTP_SYNC (R481): a Sync of the selected master, one-step or with its Follow_Up, has been received. -/
def ptpSync (e : SyncEnv) (d : Dev) : Dev :=
  let port := e.port.val + 1
  if !(ptpOn d && ptpPort d port && ethUp d port && syncFrom e d) then d
  else
    let x := d.net.ptp
    let chg := x.lastSync.isSome && x.gm != e.gm.toNat
    let offset := syncOffset e d
    let d := d.modPtp fun p => { p with gm := e.gm.toNat, lastSync := some d.tim.mot, interval := e.intervalNs, mpd := syncMpd e d,
                                        holdAt := none, lostRep := false }
    let d := d.evIf chg pgPTP Ev.PTP.GMCHG
    let d := (d.put pgPTP PTP.OFFSET.NS (satS 32 offset)).put pgPTP PTP.MPD.NS (d.net.ptp.mpd.toNat % 2 ^ 32)
    let d := (d.put pgPTP PTP.GM_LO.ID (e.gm.toNat % 2 ^ 32)).put pgPTP PTP.GM_HI.ID (e.gm.toNat / 2 ^ 32)
    let d := (d.inc pgPTP PTP.SYNCCNT.COUNT).put pgPTP PTP.PTP_STAT.PORT port
    let d := ptpState (if e.slave then 3 else 2) d
    if (d.get pgPTP PTP.PTP_LIM.STEPTH * 1000 : Int) < absI offset then
      let d := d.modPtp fun p => { p with stepBy := some (-offset), lockN := 0 }
      (dtTrim 0 d).puti pgPTP PTP.RATE.PPB 0
    else
      let d := (dtTrim (syncRate d) d).drew
      let d := (d.modPtp fun p => { p with
          lockN := if e.slave && decide (absI offset < 1000) then p.lockN + 1 else 0 }).puti pgPTP PTP.RATE.PPB d.tim.ppb
      if 16 ≤ d.net.ptp.lockN && d.get pgSYS SYS.DT_STAT.SRC != 3 then (setDtSrc 3 d).ev pgPTP Ev.PTP.LOCK else d

/-- PTP_SYNC_TIMEOUT (R481): no Sync for three announced intervals, or the slave port has lost its link. -/
def ptpTimeout (d : Dev) : Dev :=
  let x := d.net.ptp
  let port := d.get pgPTP PTP.PTP_STAT.PORT
  let due := match x.lastSync with
    | some t => decide (t * 4 + 3 * x.interval ≤ d.tim.mot * 4) || !ethUp d port
    | none => false
  if ptpOn d && (x.st == 2 || x.st == 3) && due then
    let d := ptpState 4 (d.modPtp fun p => { p with lockN := 0, holdAt := some d.tim.mot })
    (setDtSrc 4 d).ev pgPTP Ev.PTP.HOLD
  else d

/-- PTPLOST (R481): HOLDT seconds in holdover. -/
def ptpLost (d : Dev) : Dev :=
  match d.net.ptp.holdAt with
  | some t =>
    if ptpOn d && !d.net.ptp.lostRep && decide (t + msMot (1000 * d.get pgPTP PTP.PTP_LIM.HOLDT) ≤ d.tim.mot) then
      (d.modPtp fun p => { p with lostRep := true }).raise pgPTP Cz.PTP.PTPLOST 0xFF
    else d
  | none => d

/-- A Delay_Req or Pdelay_Req message: header fields of IEEE 1588-2019 with message type 1 or 2, version 2.1, domain, source
port identity from the MAC address and the port, sequence number; timestamps 0, since it is two-step (assumption log 24). -/
def delayFrame (d : Dev) (port : Nat) : EthFrame :=
  let p2p := d.on pgPTP PTP.PTP_CFG.DELAY
  let mac := d.get pgETH ETH.MAC_LO.MAC + 2 ^ 32 * d.get pgETH ETH.MAC_HI.MAC
  let m := leBytes 6 mac
  let len := if p2p then 54 else 44
  let hdr := [if p2p then 2 else 1, 0x12] ++ beBytes 2 len ++ [d.get pgPTP PTP.PTP_CFG.DOMAIN] ++ List.replicate 15 0 ++
    m.take 3 ++ [0xFF, 0xFE] ++ m.drop 3 ++ beBytes 2 port ++ beBytes 2 (d.net.ptp.reqN % 65536) ++ [0, 0x7F]
  { dst := ofLe (if p2p then [0x01, 0x80, 0xC2, 0, 0, 0x0E] else [0x01, 0x1B, 0x19, 0, 0, 0]), src := mac, etype := 0x88F7,
    data := hdr ++ List.replicate (len - 34) 0 }

/-- DELAY_REQ (R479): a request leaves by every slave-candidate port that passes frames. -/
def delayReq (d : Dev) : Dev :=
  if !ptpOn d then d
  else
    let d := d.each ([1, 2].filter fun p => ptpPort d p && ethUp d p) fun p d => ethQueue p 0 (delayFrame d p) none d
    d.modPtp fun p => { p with reqN := p.reqN + 1 }

/-- After a commit of page PTP: the unit starts to listen, or stops. -/
def ptpCommit (d : Dev) : Dev :=
  if ptpOn d then (if d.net.ptp.st = 0 then ptpState 1 d else d)
  else (ptpState 0 { d with net := { d.net with ptp := { reqN := d.net.ptp.reqN, masters := d.net.ptp.masters } } }).put pgPTP PTP.PTP_STAT.PORT 0

/-- After a commit of page ETH: the speeds configured are compared afresh (R475). -/
def ethCommit (d : Dev) : Dev :=
  d.each [1, 2] fun p d =>
    let sp := d.get pgETH (if p = 1 then ETH.PORTSTAT.P1SPD else ETH.PORTSTAT.P2SPD)
    d.putB pgETH (if p = 1 then ETH.PORTSTAT.P1MIS else ETH.PORTSTAT.P2MIS) (sp != 0 && sp != ethSpd d p)

/-- Steps of device time at a program-cycle boundary (R38): that of a Sync beyond STEPTH (R481), and that of `DTSET` (R362). -/
def dtBoundary (d : Dev) : Dev :=
  let d := match d.net.ptp.stepBy with
    | some k =>
      let v := (d.tim.dtF : Int) + k * 1000000000
      let d := { d with tim := { d.tim with dtF := v.toNat } }.modPtp fun p => { p with stepBy := none }
      ((d.ev pgSYS Ev.SYS.DTSTEP).ev pgPTP Ev.PTP.STEP).raise pgPTP Cz.PTP.PTPSTEP 0xFF
    | none => d
  match d.svc.dtArm with
  | some v =>
    let d := { d with tim := { d.tim with dtF := v * 1000000000 }, svc := { d.svc with dtArm := none } }
    setDtSrc 2 ((d.ev pgSYS Ev.SYS.DTSTEP).ev pgSVC Ev.SVC.DTSET)
  | none => d

/-! The commands. -/

/-- PTP_SYNC. -/
def execPtpSync (e : SyncEnv) (s : State) : Host.Outcome State Fault Refusal := doDev (Dev.live (ptpSync e)) s

/-- PTP_SYNC_TIMEOUT. -/
def execPtpSyncTimeout (s : State) : Host.Outcome State Fault Refusal := doDev (Dev.live ptpTimeout) s

/-- PTPLOST. -/
def execPtplost (s : State) : Host.Outcome State Fault Refusal := doDev (Dev.live ptpLost) s

/-- DELAY_REQ. -/
def execDelayReq (s : State) : Host.Outcome State Fault Refusal := doDev (Dev.live delayReq) s

end Sys2Proof.Machine
end

