-- ==== Sys2Proof/Machine/Slug.lean ====
section
/-! DEFINITION. Movements and their slugs as the motion engines produce them (R262, R501 to R503), and the capture of proof
traces (R504, R505). -/

namespace Sys2Proof.Machine

def Dev.modRec (f : RecSt → RecSt) (d : Dev) : Dev := { d with rec_ := f d.rec_ }
def Dev.modTrc (n : Nat) (f : TraceX → TraceX) (d : Dev) : Dev := d.modRec fun r => { r with trace := modNth f r.trace n }
def Dev.trc (d : Dev) (n : Nat) : TraceX := nth d.rec_.trace n {}

/-- The movement record of an axis: leaves 0 to 7, steps 8 to 11. -/
def Dev.mvx (d : Dev) (a : Nat) : RecX := if a < 8 then d.mov_ a else nth d.rec_.smov (a - 8) {}
def Dev.modMvx (a : Nat) (f : RecX → RecX) (d : Dev) : Dev :=
  if a < 8 then d.modMov a f else d.modRec fun r => { r with smov := modNth f r.smov (a - 8) }

/-- Change the open movement of an axis. -/
def Dev.modMv (a : Nat) (f : MoveRec → MoveRec) (d : Dev) : Dev := d.modMvx a fun r => { r with mv := r.mv.map f }

/-! The slug (table "Slug layout"). -/

/-- Mean, root mean square and largest residual in 0.1 N (R503). -/
def residuals (m : MoveRec) : Int × Nat × Int :=
  if m.rN = 0 then (0, 0, 0)
  else (Num.quo 111 m.rSum (m.rN * 65536), (Num.quo 112 (isqrt (m.rSq / m.rN)) 65536).toNat, Num.quo 113 m.rMax 65536)

/-- Temperature of a slug in 0.1 °C: T of R161, the junction of the field die when TSRC gives none, and for steps. -/
def slugTemp (d : Dev) (a : Nat) : Int :=
  if a < 8 ∧ d.get (pgOBS a) OBS.OBS_CFG.TSRC = 2 then d.geti (pgOBS a) OBS.TEMP.TEMP else (d.di (dieOf a)).samp.tj

/-- The flags of a slug; NORES is a leaf's (R503). -/
def slugFlags (d : Dev) (a : Nat) (m : MoveRec) (anom pfcut : Bool) : Nat :=
  let trunc := a < 8 && m.trace && (d.trc a).trunc
  b2n m.opening + 2 * b2n anom + 4 * b2n m.trace + 8 * b2n trunc + 16 * b2n (d.get pgCFG CFG.IMPRESSION.IMPNUM != m.imp) +
    32 * b2n pfcut + 64 * b2n (decide (a < 8) && m.rN == 0) + 128 * b2n m.deg

/-- The 64 bytes of the slug of a movement that ends now. -/
def slugBytes (d : Dev) (a : Nat) (m : MoveRec) (result lockT : Nat) (anom pfcut : Bool) : List Nat :=
  let r := residuals m
  let us := min 0xFFFFFFFF (Num.quo 114 (((d.tim.mot : Int) - m.mot0) * 4) 1000).toNat
  let body := leBytes 8 (m.dt0 % 2 ^ 64) ++ leBytes 4 m.seq ++
    [a + 16 * d.get pgSEAL SEAL.PROFILE.VPOS, m.kind, result, slugFlags d a m anom pfcut] ++ leBytes 4 us ++
    leBytes 4 (satS 32 m.p0) ++ leBytes 4 (satS 32 (d.fbk a).p) ++
    leBytes 2 (satU 16 (Num.quo 115 m.vPeak 1000)) ++ leBytes 2 (satS 16 (Num.quo 116 (m.fPeak.getD 0) 65536)) ++
    leBytes 2 (satS 16 r.1) ++ leBytes 2 (satU 16 r.2.1) ++ leBytes 2 (satS 16 r.2.2) ++
    [m.rBin, if a < 8 then min 255 (d.get (pgOBS a) OBS.WEAR.WEAR) else 0, min 255 m.det, m.detKind] ++
    leBytes 2 (satS 16 (Num.quo 117 m.detPos 1000)) ++ leBytes 2 m.unlkT ++ leBytes 2 lockT ++
    leBytes 2 (satS 16 (slugTemp d a)) ++ leBytes 2 m.vfMin ++ leBytes 2 m.vbMin ++ leBytes 2 (min 65535 m.iPeak) ++ leBytes 4 m.imp
  body ++ leBytes 4 (crc32c body)

/-! Proof traces (R504, R505). -/

/-- A traced movement begins: its header opens the trace (R506). -/
def traceBegin (a : Nat) (m : MoveRec) (d : Dev) : Dev :=
  let hdr := leBytes 4 m.seq ++ [a, 0, 0, 0] ++ leBytes 8 (m.dt0 % 2 ^ 64) ++ leBytes 4 (satS 32 m.p0) ++ [0, 0, 0, 0]
  d.modTrc a fun t => { t with on := true, hdr := hdr, mot := m.mot0, lastP := m.p0, samples := [], trunc := false,
                               buf := t.buf ++ hdr }

/-- A trace is closed before its movement ends (R505). -/
def traceCut (a : Nat) (d : Dev) : Dev :=
  ((d.modTrc a fun t => { t with on := false, trunc := true }).incSat pgREC REC.LOSTCNT.TRUNC).ev pgREC Ev.REC.TRUNC

/-- First address of trace staging of a leaf (R508). -/
def stagingBase (n : Nat) : Nat := 0x24040000 + n * 0x4000

/-- TRACE_SAMPLE (R504): sample k, 250 µs × k after the movement's start. The sample that reaches the limit closes the trace (R505). -/
def traceSample (n : Nat) (s : State) : State :=
  let t := s.dev.trc n
  let k := t.samples.length
  if t.on && decide (t.mot + 62500 * k ≤ s.dev.tim.mot) then
    if 16384 < t.buf.length + 4 then s.onDev (traceCut n)
    else
      let d := s.dev
      let y := if (d.drv n).mode == mSERVO && !obsBlind d n then satS 16 (Num.quo 118 (d.ob n).y 65536) else 0x8000
      let p := (d.fbk n).p
      let w := y * 65536 + satS 16 (p - t.lastP)
      (s.poke (stagingBase n + 4 * (k % 4096)) 4 w).onDev fun d =>
        let d := d.modTrc n fun t => { t with lastP := p, samples := t.samples ++ [w], buf := t.buf ++ leBytes 4 w }
        if k = 32767 then traceCut n d else d
  else s

/-! Beginning and ending movements. -/

/-- Whether the final commit runs or the power failure that began it stands: normal operation resumes after both (R527). -/
def powerFailing (d : Dev) : Bool := d.on pgREC REC.REC_STAT.FC || d.vfld.pf

/-- A movement of an axis begins at this servo boundary (R502, R504). -/
def mvBegin (a kind : Nat) (opening : Bool) (d : Dev) : Dev :=
  let unlk := if a < 8 ∧ kind = 1 then (d.mov_ a).unlkT else 0
  let tr := decide (a < 8) && bit (d.get pgREC REC.TRCFG.TRLEAVES) a && d.enabled pgREC && !powerFailing d
  let m : MoveRec := { seq := d.rec_.seq, kind := kind, opening := opening, dt0 := d.dt, mot0 := d.tim.mot, p0 := (d.fbk a).p,
                       imp := d.get pgCFG CFG.IMPRESSION.IMPNUM, unlkT := unlk, trace := tr,
                       learn := decide (a < 8) && (d.seq a).st == .learn,
                       fric := if a < 8 then (List.range 256).map fun b =>
                         d.get (pgOBS a) (if opening then OBS.KTO.FRIC.at b else OBS.KTC.FRIC.at b) else [] }
  let d := d.modRec fun r => { r with seq := (r.seq + 1) % 2 ^ 32 }
  let d := d.modMvx a fun r => { r with mv := some m, unlkT := if kind = 1 then 0 else r.unlkT, lockT := 0 }
  if tr then traceBegin a m d else d

/-- The slug of an ended movement is complete; the trailer closes its trace, which is kept for the anomalous-trace ring where
the movement is anomalous (R506, R507). -/
def mvEnd (a result : Nat) (anom pfcut : Bool) (d : Dev) : Dev :=
  match (d.mvx a).mv with
  | none => d
  | some m =>
    let lk := if a < 8 ∧ (m.kind = 2 ∨ m.kind = 4 ∨ m.kind = 5) then (d.mvx a).lockT else 0
    let b := slugBytes d a m result lk anom pfcut
    let d := d.modMvx a fun r => { r with mv := none, ended := r.ended ++ [b], offP := (d.fbk a).p, lockT := 0 }
    if a < 8 && m.trace then
      let t := d.trc a
      let whole := t.hdr ++ t.samples.flatMap (leBytes 4) ++ b
      let d := d.modTrc a fun t => { t with on := false, buf := if pfcut then [] else t.buf ++ b }
      if anom && !pfcut then d.modRec fun r => { r with tcopy := r.tcopy ++ [(a, whole)] } else d
    else d

/-- The kind of a leaf movement that the set-point begins (table "Movement kinds"). -/
def leafKind (d : Dev) (n : Nat) : Nat :=
  match (d.seq n).st with
  | .opening => 1
  | .closing => if (d.seq n).recloseRun then 4 else 2
  | .reversing => 3
  | .learn => if (d.lrn n).phase = 3 ∧ !(d.lrn n).kind then 6 else 5
  | _ => 7

/-- The result of a leaf movement that ends (table "Movement results"). -/
def leafResult (d : Dev) (n : Nat) (m : MoveRec) : Nat :=
  let st := (d.seq n).st
  if st == .emerg then 5
  else if m.learn && ((d.lrn n).abort || st == .unref) then 6
  else if st == .fault then 4
  else if m.det ≠ 0 then 1
  else if m.stopSeen then 2
  else 0

/-- A leaf movement is anomalous (R164): not clean in the observer's account, or of a kind that no clean movement is. -/
def leafAnom (d : Dev) (n : Nat) : Bool :=
  let k := d.kn n
  k.anom || k.inMove || !k.endedOk

/-- What a leaf movement accumulates at a servo boundary (R503): a residual is taken against FRIC as the bin stood when the movement
began. -/
def mvTrack (n : Nat) (d : Dev) : Dev :=
  let v := (absI (d.fbk n).v).toNat
  let servo := (d.drv n).mode == mSERVO
  let s := d.get (pgOBS n) OBS.STROKE.STROKE
  let b := binOf s (d.fbk n).p
  let fr := nth ((d.mov_ n).mv.map (·.fric) |>.getD []) b 0xFFFF
  let take := servo && (d.kn n).inMove && (d.seq n).st != .learn && s != 0 &&
    decide (ocfg d n OBS.KERN.KMINV * 1000 ≤ v) && fr != 0xFFFF
  let r := (d.ob n).fraw - fr * 65536
  let y := (d.ob n).y
  let l := if ligFormed d n then ligLeader d n else n
  let stop := decide ((d.prf l).stopKind ≠ 0) && !(d.prf l).stopOwn && !(d.ob n).detPath
  d.modMv n fun m =>
    let m := { m with vPeak := max m.vPeak v, vfMin := min m.vfMin (d.get (pgFIO 0) FIO.VFLD_STAT.VMIN),
                      vbMin := min m.vbMin (d.di (dieOf n)).samp.vbr, deg := m.deg || (d.fbk n).deg,
                      stopSeen := m.stopSeen || stop }
    let m := if servo then { m with fPeak := some (match m.fPeak with | some f => maxI f y | none => y) } else m
    if take then
      { m with rN := m.rN + 1, rSum := m.rSum + r, rSq := m.rSq + (r * r).toNat,
               rMax := if m.rN = 0 ∨ absI m.rMax < absI r then r else m.rMax,
               rBin := if m.rN = 0 ∨ absI m.rMax < absI r then b else m.rBin }
    else m

/-- Whether a closing movement goes on through LOCKING. -/
def inLocking (d : Dev) (n : Nat) (m : MoveRec) : Bool :=
  (m.kind == 2 || m.kind == 4 || m.kind == 5) && (d.seq n).st == .locking

/-- The leaf's set-point stands at the end position that the sequencer commanded, of its leader in a formed ligature (R164). -/
def atGoal (d : Dev) (n : Nat) : Bool :=
  let m := if ligFormed d n then ligLeader d n else n
  match (d.kn m).goal with
  | some t => decide (t * 65536 = (d.prf m).sp.p)
  | none => false

/-- The movement stage of a leaf at a servo boundary, after its sequencer (R262, R501). -/
def recLeaf (n : Nat) (d : Dev) : Dev :=
  let stand := (d.prf n).still
  let d := if stand && (d.kn n).inMove then obsMoveEnd n (atGoal d n) d else d
  let v := (d.prf n).sp.v
  let off := (d.drv n).mode == mOFF
  let d := if off && !(d.mov_ n).off then d.modMov n fun r => { r with offP := (d.fbk n).p } else d
  let d := d.modMov n fun r => { r with off := off }
  match (d.mov_ n).mv with
  | some m =>
    let d := mvTrack n d
    let m := ((d.mov_ n).mv).getD m
    let turned := (v > 0 && !m.opening) || (v < 0 && m.opening)
    let ovs := match (d.prf (if ligFormed d n then ligLeader d n else n)).plan with
      | some q => q.ovs
      | none => false
    if m.kind != 8 && (d.prf n).stopKind == 3 then mvEnd n (leafResult d n { m with stopSeen := true }) true false d
    else if v ≠ 0 && m.kind != 8 && turned && ((d.prf n).prev.v != 0 || ovs) then
      mvTrack n (mvBegin n (leafKind d n) (v > 0) (mvEnd n 3 true false d))
    else if v ≠ 0 && (m.kind == 8 || ((d.prf n).prev.v == 0 && decide (m.mot0 < d.tim.mot))) then
      mvTrack n (mvBegin n (leafKind d n) (v > 0) (mvEnd n (leafResult d n m) (leafAnom d n) false d))
    else if v = 0 && stand && !inLocking d n m then mvEnd n (leafResult d n m) (leafAnom d n || m.kind == 8) false d
    else d
  | none =>
    if v ≠ 0 then mvTrack n (mvBegin n (leafKind d n) (v > 0) d)
    else if off && decide (5000 < absI ((d.fbk n).p - (d.mov_ n).offP)) then
      mvTrack n (mvBegin n 8 ((d.fbk n).p > (d.mov_ n).offP) d)
    else d

/-- The kind of a step movement (table "Slug layout"). -/
def stepKind (d : Dev) (k : Nat) : Nat :=
  match (d.stp k).st with
  | .external => 19
  | .homing => 18
  | _ => if (d.stp k).sp.v > 0 then 16 else 17

/-- What a step movement accumulates at a servo boundary (R503). -/
def stepTrack (k : Nat) (d : Dev) : Dev :=
  let a := 8 + k
  let w := (absI (d.fbk a).v).toNat
  d.modMv a fun m => { m with vPeak := max m.vPeak w, vfMin := min m.vfMin (d.get (pgFIO 0) FIO.VFLD_STAT.VMIN),
                              vbMin := min m.vbMin (d.di (dieOf a)).samp.vbr, deg := m.deg || (d.fbk a).deg,
                              stopSeen := m.stopSeen || decide ((d.stp k).stopKind ≠ 0) }

/-- The movement stage of a step axis at a servo boundary (R501); in EXTERNAL a change of M in the period that ends is movement. -/
def recStep (k : Nat) (d : Dev) : Dev :=
  let a := 8 + k
  let x := d.stp k
  let stand := d.on (pgSTEP k) STEP.STP_STAT.STANDSTILL
  let v := x.sp.v
  let moves := decide (v ≠ 0) || (x.st == .external && decide (d.tim.mot < x.mMoved + 64000))
  match (d.mvx a).mv with
  | some _ =>
    let d := stepTrack k d
    let m := ((d.mvx a).mv).getD { seq := 0, kind := 0 }
    let turned := (v > 0 && !m.opening) || (v < 0 && m.opening)
    if x.st == .fault || x.st == .unref then mvEnd a 4 false false d
    else if x.freeze then mvEnd a 2 false false d
    else if moves && turned then stepTrack k (mvBegin a (stepKind d k) (v > 0) (mvEnd a 3 false false d))
    else if !moves && stand then mvEnd a (if m.stopSeen then 2 else 0) false false d
    else d
  | none => if moves then stepTrack k (mvBegin a (stepKind d k) (v > 0) d) else d

/-- The movement stage of every axis at a servo boundary: leaves, then steps. -/
def recServo (d : Dev) : Dev := (d.each d.leaves recLeaf).each d.steps recStep

/-- The peak currents at a PWM period (table "Slug layout", IPEAK). -/
def recPwm (d : Dev) : Dev :=
  let d := d.each d.leaves fun n d => d.modMv n fun m => { m with iPeak := max m.iPeak (absI (d.geti (pgLEAF n) LEAF.IDQ.IQ)).toNat }
  d.each d.steps fun k d => d.modMv (8 + k) fun m =>
    { m with iPeak := max m.iPeak (max (absI (d.geti (pgSTEP k) STEP.I_AB.IA)).toNat (absI (d.geti (pgSTEP k) STEP.I_AB.IB)).toNat) }

/-- TRACE_SAMPLE. -/
def execTraceSample (leaf : LeafNo) (s : State) : Host.Outcome State Fault Refusal := doState (State.live (traceSample leaf.val)) s

end Sys2Proof.Machine
end

