-- ==== Sys2Proof/Machine/Record.lean ====
section
/-! DEFINITION. The record engine (R506 to R528): the slug queue, publication, the record memory on XS1, folio counters, the
hold-up check and the final commit. -/

namespace Sys2Proof.Machine

/-! Slug queue and publication (R508, R509, R518, R521). -/

/-- Address of a place of the slug queue. -/
def slugPlace (slot : Nat) : Nat := 0x24000000 + 64 * (slot % 4096)

/-- The bytes of a queued slug. -/
def slugOf (s : State) (q : SlugQ) : List Nat := Memory.getL sramEmpty s.mem (slugPlace q.slot) 64

/-- `REC_STAT`, `SEQS`, `QFILL` (R528). -/
def recPublish (d : Dev) : Dev :=
  let n := d.rec_.queue.length
  let d := (d.put pgREC REC.QFILL.FILL n).put pgREC REC.QFILL.MAXFILL (max n (d.get pgREC REC.QFILL.MAXFILL))
  (d.putB pgREC REC.REC_STAT.FULL (decide (4096 ≤ n))).putB pgREC REC.REC_STAT.DEFER d.rec_.defer.isSome

/-- Change the folio counters (R518). -/
def Dev.modFol (f : FolioX → FolioX) (d : Dev) : Dev := d.modRec fun r => { r with folio := f r.folio }

/-- A little-endian field of a slug. -/
def slugGet (b : List Nat) (ofs n : Nat) : Nat := ofLe ((b.drop ofs).take n)

/-- A slug is counted (R518): opening movements are those of kind OPEN, closing ones CLOSE and RECLOSE, a completed locking is
one with a lock time. -/
def folioCount (b : List Nat) (f : FolioX) : FolioX :=
  let axis := slugGet b 0x0C 1 % 16
  let kind := slugGet b 0x0D 1
  let inc (c : Bool) (v : Nat) : Nat := if c then (v + 1) % 2 ^ 32 else v
  let f := { f with all := (f.all + 1) % 2 ^ 64, slugSeq := max f.slugSeq (slugGet b 8 4), dirty := true }
  if axis < 8 then
    { f with leaf := modNth (fun l =>
        [inc (kind == 1) (nth l 0 0), inc (kind == 2 || kind == 4) (nth l 1 0), (nth l 2 0 + slugGet b 0x28 1) % 2 ^ 32,
         inc (slugGet b 0x2E 2 != 0) (nth l 3 0)]) f.leaf axis }
  else { f with step := modNth (fun l => [inc (kind == 16) (nth l 0 0), inc (kind == 17) (nth l 1 0)]) f.step (axis - 8) }

/-- The slug in the first place that no page under way holds is displaced (R509). -/
def slugDisplace (d : Dev) : Dev :=
  let busy := match d.rec_.op with | some (.slugPage n, _) => n | _ => 0
  let d := d.modRec fun r => { r with queue := r.queue.take busy ++ r.queue.drop (busy + 1) }
  ((d.incSat pgREC REC.LOSTCNT.SLUG).ev pgREC Ev.REC.LOST).raise pgREC Cz.REC.SLUGLOST 0xFF

/-- A slug arrives at the record engine (R501, R509, R518, R521). -/
def slugArrive (b : List Nat) (s : State) : State :=
  if !s.dev.enabled pgREC then s
  else
    let sq := slugGet b 8 4
    let s := s.onDev fun d => if 4096 ≤ d.rec_.queue.length then slugDisplace d else d
    let slot := s.dev.rec_.qNext
    let s := { s with mem := Memory.putL sramEmpty s.mem (slugPlace slot) b }
    let s := s.onDev fun d =>
      let d := d.modRec fun r => { r with queue := r.queue ++ [{ seq := sq, slot := slot, at_ := d.tim.mot }], qNext := slot + 1 }
      let d := d.put pgREC REC.SEQS.LAST (max sq (d.get pgREC REC.SEQS.LAST))
      recPublish ((d.modFol (folioCount b)).ev pgREC Ev.REC.SLUG)
    let k := s.dev.get pgREC REC.SLUGCFG.PUBRING
    if ringActive s.dev k then (ringPut k 0 b s).1 else s

/-- SLUG_HANDOFF: the oldest completed slug of an axis goes to the record engine. -/
def slugHandoff (a : Nat) (s : State) : State :=
  match (s.dev.mvx a).ended with
  | b :: l => slugArrive b (s.onDev fun d => d.modMvx a fun r => { r with ended := l })
  | [] => s

/-- SLUG_PAGE_FLUSH (R514). -/
def slugFlush (d : Dev) : Dev :=
  match d.rec_.queue with
  | q :: _ => if q.at_ + msMot (1000 * d.get pgREC REC.SLUGCFG.FLUSHT) ≤ d.tim.mot then d.modRec fun r => { r with pageDue := true } else d
  | [] => d

/-! The folio record (table "Folio record"). -/

/-- The 256 bytes of a folio record. -/
def folioBytes (f : FolioX) (fseq : Nat) : List Nat :=
  let b := leBytes 4 fseq ++ leBytes 4 f.slugSeq ++ f.leaf.flatMap (fun l => l.flatMap (leBytes 4)) ++
    f.step.flatMap (fun l => l.flatMap (leBytes 4)) ++ leBytes 8 f.all ++ leBytes 4 f.minutes ++ leBytes 4 f.powerUps ++
    leBytes 4 f.commits ++ leBytes 4 f.halts ++ List.replicate 60 0
  b ++ leBytes 4 (crc32c b)

/-- Word `i` of `REC.FOLIO`, which mirrors the current record (R518). -/
def folioWord (d : Dev) (i : Nat) : Nat := ofLe (((folioBytes d.rec_.folio d.rec_.folio.fseq).drop (4 * i)).take 4)

/-- Address of a record of the folio area (R519, R530). -/
def folioAddr (d : Dev) (i : Nat) : Nat := 0x1740000 + 256 * (i % (256 * d.get pgREC REC.FOLCFG.FOLSECT))

/-! The record memory (R511 to R513). -/

/-- Blocks of the part. -/
def nandBlocks (d : Dev) : Nat := 1024 * 2 ^ d.get pgREC REC.MEMCFG.DENS

/-- The physical block that serves a block: a retired one is replaced by its spare. -/
def nandPhys (x : NandX) (b : Nat) : Nat :=
  match x.bad.find? fun r => r.1 == b with
  | some r => r.2
  | none => b

/-- Address on XS1 of a page of a block. -/
def nandAddr (x : NandX) (b p : Nat) : Nat := nandPhys x b * 131072 + p * 2048

/-- Block and page in it at a ring's head. -/
def ringHeadBlk (r : NandRing) : Nat := r.first + r.head / 64
def ringHeadPage (r : NandRing) : Nat := r.head % 64

/-- A ring by number: 0 slug, 1 clean trace, 2 anomalous trace. -/
def NandX.ring (x : NandX) : Nat → NandRing
  | 0 => x.slug
  | 1 => x.clean
  | _ => x.anom
def NandX.setRing (x : NandX) (i : Nat) (r : NandRing) : NandX :=
  match i with
  | 0 => { x with slug := r }
  | 1 => { x with clean := r }
  | _ => { x with anom := r }

/-- Blocks kept erased ahead of a ring's head (R513). -/
def aheadOf (i : Nat) : Nat := if i = 0 then 2 else 1

/-- Whether a ring's head has an erased page: within a block, or at the start of one that is erased. -/
def headReady (r : NandRing) : Bool := ringHeadPage r != 0 || r.erased != 0

/-- The head advances by one page; entering a block uses up an erased one. -/
def headNext (r : NandRing) : NandRing :=
  let e := if ringHeadPage r = 0 then r.erased - 1 else r.erased
  let h := r.head + 1
  if 64 * r.blks ≤ h then { r with head := 0, erased := e, wrapped := true } else { r with head := h, erased := e }

/-- The block to be erased next ahead of a ring's head. -/
def eraseBlk (r : NandRing) : Nat :=
  let ahead := if ringHeadPage r = 0 then r.erased else r.erased + 1
  r.first + (r.head / 64 + ahead) % max 1 r.blks

/-- The layout in force: slug, clean-trace and anomalous-trace blocks, from block 2 (table "Record memory layout"). -/
def nandLayout (a b c : Nat) (x : NandX) : NandX :=
  { x with slug := { x.slug with first := 2, blks := a }, clean := { x.clean with first := 2 + a, blks := b },
           anom := { x.anom with first := 2 + a + b, blks := c }, spareAt := max x.spareAt (2 + a + b + c) }

/-- The header's bytes: layout, bad-block table, DT of formatting, CRC-32C (the order and widths are assumption log 25). -/
def nandHeader (x : NandX) : List Nat :=
  let b := leBytes 4 x.slug.blks ++ leBytes 4 x.clean.blks ++ leBytes 4 x.anom.blks ++ leBytes 8 x.fmtDt ++ leBytes 4 x.bad.length ++
    x.bad.flatMap fun r => leBytes 4 r.1 ++ leBytes 4 r.2
  b ++ leBytes 4 (crc32c b)

/-- A valid header at a block: layout, bad blocks, DT. -/
def nandHeaderAt (s : State) (blk : Nat) : Option ((Nat × Nat × Nat) × List (Nat × Nat) × Nat) :=
  let a := blk * 131072
  let g (o n : Nat) : Nat := Memory.getW flashEmpty s.xs1 (a + o) n
  let k := g 20 4
  if 252 < k then none
  else
    let n := 24 + 8 * k
    if crc32c (Memory.getL flashEmpty s.xs1 a n) = g n 4 then
      some ((g 0 4, g 4 4, g 8 4), (List.range k).map (fun i => (g (24 + 8 * i) 4, g (28 + 8 * i) 4)), g 12 8)
    else none

/-- Whether no byte of an address range of a flash is programmed. -/
def flashBlank (m : Memory) (a n : Nat) : Bool := !(m.any fun c => decide (a ≤ c.1) && decide (c.1 < a + n))

/-! The hold-up check (R523, R524). -/

/-- Operations on XS0. -/
def MemOp.onXs0 : MemOp → Bool
  | .folio => true
  | .kern _ _ => true
  | .xsErase _ => true
  | _ => false

/-- The worst-case energy of an operation in 0.1 mJ (R523). -/
def opEnergy (d : Dev) : MemOp → Nat
  | .erase _ => d.get pgREC REC.HOLDE.EERASE
  | .xsErase _ => d.get pgREC REC.HOLDE.EERASE
  | .header _ prog => if prog then d.get pgREC REC.HOLDE.EPAGE else d.get pgREC REC.HOLDE.EERASE
  | .format => d.get pgREC REC.HOLDE.EERASE
  | .folio => d.get pgREC REC.HOLDE2.EFOLIO
  | .kern _ _ => d.get pgREC REC.HOLDE2.EFOLIO
  | _ => d.get pgREC REC.HOLDE.EPAGE

/-- E × 2,000,000 in 0.1 mJ for a VHOLD in 10 mV: HOLDC × (VHOLD² − VMIN²). -/
def holdE (d : Dev) (vhold : Nat) : Int :=
  let c := d.get pgREC REC.HOLD.HOLDC
  let m := d.get pgREC REC.HOLD.VMIN
  (c : Int) * ((vhold : Int) * vhold - (m : Int) * m)

/-- `HOLDMEAS` takes a measurement. -/
def holdMeas (vhold : Nat) (d : Dev) : Dev :=
  (d.put pgREC REC.HOLDMEAS.VHOLD vhold).put pgREC REC.HOLDMEAS.EAVAIL (satU 16 (Num.quo 119 (holdE d vhold) 2000000))

/-- Whether the check passes: never while HOLDC is 0. -/
def holdPass (d : Dev) (vhold : Nat) (o : MemOp) : Bool :=
  d.get pgREC REC.HOLD.HOLDC != 0 && decide ((opEnergy d o * 2000000 : Int) ≤ holdE d vhold)

/-! Starting an operation. A started operation always completes (R525), so its bytes are in the memory from its start. -/

/-- Erase a block ahead of ring `i`. -/
def startErase (i : Nat) (s : State) : State :=
  let x := s.dev.rec_.nand
  let b := eraseBlk (x.ring i)
  { s with xs1 := Memory.erase (nandPhys x b * 131072) 131072 s.xs1 }.onDev fun d => d.modRec fun r => { r with op := some (.erase i, b) }

/-- Program a page at the head of ring `i`. -/
def startPage (i : Nat) (o : MemOp) (bytes : List Nat) (s : State) : State :=
  let x := s.dev.rec_.nand
  let r := x.ring i
  { s with xs1 := Memory.program s.xs1 (nandAddr x (ringHeadBlk r) (ringHeadPage r)) bytes }.onDev fun d => d.modRec fun rr =>
    { rr with op := some (o, ringHeadBlk r), nand := x.setRing i (headNext r) }

/-- The kerning record of a leaf (R537). -/
def kernBytes (d : Dev) (n : Nat) : List Nat :=
  let pg := pgOBS n
  let w (i : Nat) : List Nat :=
    if i < 256 then leBytes 2 (d.get pg (OBS.KTO.FRIC.at i)) ++ leBytes 2 (d.get pg (OBS.KTO.VAR.at i))
    else if i < 512 then leBytes 2 (d.get pg (OBS.KTC.FRIC.at (i - 256))) ++ leBytes 2 (d.get pg (OBS.KTC.VAR.at (i - 256)))
    else leBytes 2 (d.get pg (OBS.KTB.BASEO.at (i - 512))) ++ leBytes 2 (d.get pg (OBS.KTB.BASEC.at (i - 512)))
  let b := leBytes 4 n ++ leBytes 4 (d.get pg OBS.KTVER.VER) ++ leBytes 4 (d.get pg OBS.STROKE.STROKE) ++
    leBytes 4 (d.get (pgPOS n) POS.REFOFS.REFOFS) ++ (List.range 768).flatMap w ++ List.replicate 1004 0
  b ++ leBytes 4 (crc32c b)

/-- Address of a record of the kerning area (R530). -/
def kernAddr (i : Nat) : Nat := 0x1640000 + 4096 * (i % 256)

/-- Format the record memory with the active layout, and run (R515). The manual gives no order of the erases and programs of a
formatting: it is one operation here, with the check of its first erase (DESIGN CHOICE, assumption log 78). Blocks retired before stay
retired, each with a spare of the layout that applies. -/
def nandFormat (s : State) : State :=
  let d := s.dev
  let bad := d.rec_.nand.bad.map (·.1)
  let x := nandLayout (d.get pgREC REC.LAYOUT.SLUGBLK) (d.get pgREC REC.LAYOUT.CTRBLK) (d.get pgREC REC.LAYOUT2.ATRBLK) { fmtDt := d.dt }
  let first := x.spareAt
  let x := { x with bad := (bad.filter fun b => decide (b < first)).mapIdx fun i b =>
                      (b, nth ((List.range (2 * bad.length)).map (first + ·) |>.filter fun p => !bad.contains p) i first),
                    spareAt := first + (if bad.isEmpty then 0 else 2 * bad.length) }
  let ring (i : Nat) (x : NandX) : NandX := x.setRing i { x.ring i with head := 0, erased := aheadOf i, wrapped := false }
  let x := ring 2 (ring 1 (ring 0 x))
  let h := nandHeader x
  { s with xs1 := Memory.program (Memory.program [] 0 h) 131072 h }.onDev fun d =>
    (((d.putB pgREC REC.REC_STAT.LAYMIS false).putB pgREC REC.REC_STAT.RUN true).setPg pgREC 2).put2 pgREC REC.REC_CTRL.FORMAT 0
      |>.modRec fun r => { r with nand := x, todo := r.todo.filter MemOp.onXs0 }

/-- An operation starts. -/
def startOp (o : MemOp) (s : State) : State :=
  let d := s.dev
  let x0 (s : State) : State := s.onDev fun d => d.modRec fun r => { r with xop := some o }
  match o with
  | .erase i => startErase i s
  | .slugPage n => startPage 0 o ((d.rec_.queue.take n).flatMap (slugOf s)) s
  | .tracePage k =>
    (startPage 1 o ((d.trc k).buf.take 2048) s).onDev fun d => d.modTrc k fun t => { t with buf := t.buf.drop 2048 }
  | .anomPage => (startPage 2 o (d.rec_.anom.take 2048) s).onDev fun d => d.modRec fun r => { r with anom := r.anom.drop 2048 }
  | .header k prog =>
    let m := if prog then Memory.program s.xs1 (k * 131072) (nandHeader d.rec_.nand) else Memory.erase (k * 131072) 131072 s.xs1
    { s with xs1 := m }.onDev fun d => d.modRec fun r => { r with op := some (o, k) }
  | .format => nandFormat s
  | .folio =>
    let f := d.rec_.folio
    let s := x0 { s with xs0 := Memory.program s.xs0 (folioAddr d f.next) (folioBytes f (f.fseq + 1)) }
    s.onDev fun d => d.modFol fun f => { f with fseq := f.fseq + 1, next := (f.next + 1) % (256 * d.get pgREC REC.FOLCFG.FOLSECT),
                                                dirty := false }
  | .kern n p =>
    let b := if p = 0 then kernBytes d n else d.rec_.kernBuf
    let s := x0 { s with xs0 := Memory.program s.xs0 (kernAddr d.rec_.kernNext + 256 * p) ((b.drop (256 * p)).take 256) }
    s.onDev fun d => d.modRec fun r => { r with kernBuf := b }
  | .xsErase a => x0 { s with xs0 := Memory.erase a 65536 s.xs0 }

/-- Whether an operation can start: none is deferred, none under way on its memory, storage not stopped, no power failure under way. -/
def opFree (d : Dev) (o : MemOp) : Bool :=
  d.rec_.defer.isNone && !powerFailing d && (if o.onXs0 then d.rec_.xop.isNone else d.rec_.op.isNone && !d.on pgREC REC.REC_STAT.MEMFAIL)

/-- The check is made and the operation starts, or it is deferred (R523, R524). -/
def tryOp (o : MemOp) (vhold : Nat) (s : State) : State :=
  if !opFree s.dev o then s
  else
    let s := s.onDev (holdMeas vhold)
    if holdPass s.dev vhold o then (startOp o s).onDev recPublish
    else s.onDev fun d => recPublish (((d.modRec fun r => { r with defer := some (o, d.tim.mot, d.tim.mot), defRep := false }).inc
      pgREC REC.DEFCNT.COUNT).ev pgREC Ev.REC.DEFER)

/-- HOLDUP_RETRY (R524): the check is repeated every 1 ms and the operation keeps its place. -/
def holdRetry (vhold : Nat) (s : State) : State :=
  match s.dev.rec_.defer with
  | some (o, since, last) =>
    if s.dev.tim.mot < last + msMot 1 then s
    else
      let s := s.onDev (holdMeas vhold)
      if holdPass s.dev vhold o then
        (startOp o (s.onDev fun d => d.modRec fun r => { r with defer := none, defRep := false })).onDev recPublish
      else s.onDev fun d => d.modRec fun r => { r with defer := some (o, since, d.tim.mot) }
  | none => s

/-- HOLDDEF (R524). -/
def holdDef (d : Dev) : Dev :=
  match d.rec_.defer with
  | some (_, since, _) =>
    if !d.rec_.defRep && d.get pgREC REC.HOLD.HOLDC != 0 && decide (since + msMot 10000 < d.tim.mot) then
      (d.modRec fun r => { r with defRep := true }).raise pgREC Cz.REC.HOLDDEF 0xFF
    else d
  | none => d

/-! The engine's own order of work on XS1 (R513, R514). -/

/-- Slugs of the next slug page. -/
def slugPageSize (d : Dev) : Nat := min 32 d.rec_.queue.length

/-- Whether a slug page is due. -/
def slugDue (d : Dev) : Bool := decide (32 ≤ d.rec_.queue.length) || (d.rec_.pageDue && !d.rec_.queue.isEmpty)

/-- The next operation on XS1: what a ring's head needs, then slug pages before trace pages, then erases ahead, then what waits. -/
def nextOp (d : Dev) : Option MemOp :=
  let x := d.rec_.nand
  let page (i : Nat) (o : MemOp) : MemOp := if headReady (x.ring i) then o else .erase i
  let tr := (List.range 8).find? fun k => decide (2048 ≤ (d.trc k).buf.length)
  if !d.on pgREC REC.REC_STAT.RUN then none
  else if slugDue d then some (page 0 (.slugPage (slugPageSize d)))
  else match tr with
    | some k => some (page 1 (.tracePage k))
    | none =>
      if 2048 ≤ d.rec_.anom.length then some (page 2 .anomPage)
      else match d.rec_.todo.find? fun o => !o.onXs0 with
        | some o => some o
        | none => ([0, 1, 2].find? fun i => decide ((x.ring i).erased < aheadOf i)).map MemOp.erase

/-- SLUG_PAGE_WRITE: the record engine starts its next operation on XS1. -/
def slugPageWrite (vhold : Nat) (s : State) : State :=
  match nextOp s.dev with
  | some o => (tryOp o vhold s).onDev fun d => if d.rec_.todo.contains o then d.modRec fun r => { r with todo := r.todo.erase o } else d
  | none => s

/-- Storage stops (R513). -/
def memFail (d : Dev) : Dev :=
  ((d.putB pgREC REC.REC_STAT.MEMFAIL true).ev pgREC Ev.REC.MEMFAIL).raise pgREC Cz.REC.MEMFAIL 0xFF

/-- What a completed operation on XS1 settles. -/
def opSettle (o : MemOp) (d : Dev) : Dev :=
  match o with
  | .slugPage n =>
    let top := (d.rec_.queue.take n).foldl (fun m q => max m q.seq) (d.get pgREC REC.STORED.SEQ)
    (d.put pgREC REC.STORED.SEQ top).modRec fun r => { r with queue := r.queue.drop n, pageDue := false }
  | .erase i => d.modRec fun r => { r with nand := r.nand.setRing i { r.nand.ring i with erased := (r.nand.ring i).erased + 1 } }
  | .header k false => d.modRec fun r => { r with todo := .header k true :: r.todo }
  | _ => d

/-- A block that fails is retired to a spare, with its content, and entered in both header copies (R513). -/
def retire (blk : Nat) (s : State) : State :=
  let x := s.dev.rec_.nand
  let sp := x.spareAt
  if nandBlocks s.dev ≤ sp then s.onDev memFail
  else
    let src := nandPhys x blk * 131072
    State.onDev (s := { s with xs1 := Memory.copy flashEmpty src (sp * 131072) 131072 s.xs1 }) fun d =>
      let bad := (d.rec_.nand.bad.filter fun z => z.1 != blk) ++ [(blk, sp)]
      let d := d.modRec fun r => { r with nand := { r.nand with bad := bad, spareAt := sp + 1 },
                                          todo := r.todo ++ [MemOp.header 0 false, MemOp.header 1 false] }
      ((d.inc pgREC REC.ANOMCNT.BAD).ev pgREC Ev.REC.BADBLK).raise pgREC Cz.REC.BADBLK 0xFF

/-- The next write of the final commit (R526): after the operations under way, the folio record and then slug pages, oldest first,
into the erased blocks kept ahead, each where the check of R523 passes; the first refusal, or nothing left, ends it. -/
def fcNext (vhold : Nat) (s : State) : State :=
  let d := s.dev
  if !d.on pgREC REC.REC_STAT.FC || d.rec_.op.isSome || d.rec_.xop.isSome then s
  else
    let o : MemOp := if d.rec_.fcFolio then .slugPage (slugPageSize d) else .folio
    let left := !d.rec_.fcFolio || (!d.rec_.queue.isEmpty && headReady d.rec_.nand.slug && d.on pgREC REC.REC_STAT.RUN &&
      !d.on pgREC REC.REC_STAT.MEMFAIL)
    let s := if left then s.onDev (holdMeas vhold) else s
    if left && holdPass s.dev vhold o then (startOp o (s.onDev fun d => d.modRec fun r => { r with fcFolio := true })).onDev recPublish
    else s.onDev fun d => recPublish (((d.putB pgREC REC.REC_STAT.FC false).putB pgREC REC.REC_STAT.FCEND true).ev pgREC Ev.REC.FCEND)

/-- NAND_OPERATION_COMPLETE: it has worked, or failed, or the part does not answer; the next operation follows. -/
def nandDone (ok answers : Bool) (vhold : Nat) (s : State) : State :=
  match s.dev.rec_.op with
  | some (o, blk) =>
    let s := s.onDev fun d => d.modRec fun r => { r with op := none }
    let s := if !answers then s.onDev memFail else if ok then s else retire blk s
    let s := if answers && !s.dev.on pgREC REC.REC_STAT.MEMFAIL then s.onDev (opSettle o) else s
    (if s.dev.on pgREC REC.REC_STAT.FC then fcNext vhold s else slugPageWrite vhold s).onDev recPublish
  | none => s

/-! The anomalous-trace ring (R507). -/

/-- TRACE_COPY. -/
def traceCopy (d : Dev) : Dev :=
  match d.rec_.tcopy with
  | (leaf, b) :: l =>
    let r := d.rec_.nand.anom
    let above := r.wrapped || decide (64 * (r.blks - 1) * 2048 < r.head * 2048 + d.rec_.anom.length + b.length)
    let d := d.modRec fun x => { x with tcopy := l, anom := x.anom ++ b }
    if above then ((d.incSat pgREC REC.ANOMCNT.WRAP).ev pgREC Ev.REC.ANOMWRAP).raise pgREC Cz.REC.ANOMWRAP leaf else d
  | [] => d

/-! Start-up, formatting, heads (R502, R515, R520). -/

/-- The head of a ring: after the last programmed page before the erased blocks ahead of it. -/
def findHead (s : State) (i : Nat) (x : NandX) : NandX :=
  let r := x.ring i
  let blank (b : Nat) : Bool := flashBlank s.xs1 (nandPhys x (r.first + b) * 131072) 131072
  match (List.range r.blks).find? fun b => !blank b && blank ((b + 1) % max 1 r.blks) with
  | some b =>
    let p := ((List.range 64).reverse.find? fun p => !flashBlank s.xs1 (nandAddr x (r.first + b) p) 2048).map (· + 1)
    let h := 64 * b + p.getD 0
    let h := if 64 * r.blks ≤ h then 0 else h
    let e := (List.range (aheadOf i)).takeWhile fun k => blank ((b + 1 + k) % max 1 r.blks)
    x.setRing i { r with head := h, erased := e.length, wrapped := !blank (r.blks - 1) && b + 1 ≠ r.blks }
  | none =>
    let e := (List.range (aheadOf i)).takeWhile blank
    x.setRing i { r with head := 0, erased := e.length, wrapped := false }

/-- The slugs stored in the slug ring, with a good CRC (R502, R520). -/
def storedSlugs (s : State) (x : NandX) : List (List Nat) :=
  (List.range x.slug.blks).flatMap fun b =>
    if flashBlank s.xs1 (nandPhys x (x.slug.first + b) * 131072) 131072 then []
    else (List.range 64).flatMap fun p =>
      if flashBlank s.xs1 (nandAddr x (x.slug.first + b) p) 2048 then []
      else (List.range 32).filterMap fun i =>
        let l := Memory.getL flashEmpty s.xs1 (nandAddr x (x.slug.first + b) p + 64 * i) 64
        if crc32c (l.take 60) = slugGet l 60 4 then some l else none

/-- A valid folio record: its place and its fields. -/
def folioAt (s : State) (i : Nat) : Option FolioX :=
  let a := folioAddr s.dev i
  if flashBlank s.xs0 a 256 then none
  else
    let l := Memory.getL flashEmpty s.xs0 a 256
    let g := slugGet l
    if crc32c (l.take 252) = g 252 4 then
      some { fseq := g 0 4, slugSeq := g 4 4,
             leaf := (List.range 8).map (fun n => (List.range 4).map fun k => g (8 + 16 * n + 4 * k) 4),
             step := (List.range 4).map (fun n => (List.range 2).map fun k => g (0x88 + 8 * n + 4 * k) 4),
             all := g 0xA8 8, minutes := g 0xB0 4, powerUps := g 0xB4 4, commits := g 0xB8 4, halts := g 0xBC 4,
             next := i + 1 }
    else none

/-- The folio counters at start-up (R520): the record with the highest FSEQ. -/
def folioLoad (s : State) : FolioX :=
  ((List.range (256 * s.dev.get pgREC REC.FOLCFG.FOLSECT)).filterMap (folioAt s)).foldl
    (fun f x => if f.next = 0 ∨ f.fseq ≤ x.fseq then x else f) {}

/-- The header in force: of copy 0, else of copy 1. -/
def nandHeaderOf (s : State) : Option ((Nat × Nat × Nat) × List (Nat × Nat) × Nat) :=
  (nandHeaderAt s 0).orElse fun _ => nandHeaderAt s 1

/-- What the engine takes at start-up from its memories: folio counters with the slugs stored after them, a power-up counted where one
began it, and the next SEQ. -/
def recStart (s : State) : State :=
  let x : NandX := match nandHeaderOf s with
    | some h => { nandLayout h.1.1 h.1.2.1 h.1.2.2 {} with bad := h.2.1, fmtDt := h.2.2 }
    | none => {}
  let slugs := storedSlugs s x
  let f := folioLoad s
  let late := slugs.filter fun b => f.next = 0 || decide (f.slugSeq < slugGet b 8 4)
  let f2 := late.foldl (fun f b => folioCount b f) f
  let top := slugs.foldl (fun m b => max m (slugGet b 8 4)) (if f.next = 0 then 0 else f.slugSeq)
  let any := !slugs.isEmpty || f.next != 0
  s.onDev fun d => d.modRec fun r =>
    { r with folio := { f2 with powerUps := f2.powerUps + b2n (d.on pgSYS SYS.RSTCAUSE.POR), dirty := true, at_ := d.tim.mot, next := f2.next % (256 * d.get pgREC REC.FOLCFG.FOLSECT) },
             seq := if any then (top + 1) % 2 ^ 32 else 0 }

/-- RECORD_MEMORY_RUN (R515): the engine formats a memory without a valid header once the hold-up check passes, or takes the
header's layout, finds the heads and runs. -/
def recRun (vhold : Nat) (s : State) : State :=
  let d := s.dev
  if !d.enabled pgREC || d.on pgREC REC.REC_STAT.RUN || d.on pgREC REC.REC_STAT.MEMFAIL then s
  else
    match nandHeaderOf s with
    | some h =>
      let a := h.1
      let same := a.1 == d.get pgREC REC.LAYOUT.SLUGBLK && a.2.1 == d.get pgREC REC.LAYOUT.CTRBLK &&
        a.2.2 == d.get pgREC REC.LAYOUT2.ATRBLK
      let x := { nandLayout a.1 a.2.1 a.2.2 {} with bad := h.2.1, fmtDt := h.2.2 }
      let x := { x with spareAt := h.2.1.foldl (fun m r => max m (r.2 + 1)) x.spareAt }
      let x := findHead s 2 (findHead s 1 (findHead s 0 x))
      let s := s.onDev fun d =>
        let d := d.modRec fun r => { r with nand := x }
        if same then d
        else ((d.putB pgREC REC.REC_STAT.LAYMIS true).ev pgREC Ev.REC.LAYMIS).raise pgREC Cz.REC.LAYMIS 0xFF
      s.onDev fun d => recPublish ((d.putB pgREC REC.REC_STAT.RUN true).setPg pgREC 2)
    | none => tryOp .format vhold s

/-- REC_CTRL_FORMAT (R515): after a commit has applied FORMAT = 1. The reformatting passes the hold-up check. -/
def recFormat (vhold : Nat) (s : State) : State :=
  if s.dev.on pgREC REC.REC_CTRL.FORMAT && s.dev.on pgREC REC.REC_STAT.RUN then tryOp .format vhold s else s

/-- RECORD_READ_REQUEST (R517): the oldest request entry is answered; requests yield to every write that is under way or due and
not deferred. -/
def recRead (uncorr : Bool) (s : State) : State :=
  let d := s.dev
  let q := d.get pgREC REC.RDRINGS.REQRING
  let p := d.get pgREC REC.RDRINGS.RSPRING
  if ringActive d q && ringActive d p && d.enabled pgREC && d.rec_.op.isNone &&
      (d.rec_.defer.isSome || d.on pgREC REC.REC_STAT.MEMFAIL || (nextOp d).isNone) then
    match ringNext s q with
    | some a =>
      let blk := s.peek a 4
      let page := s.peek (a + 4) 4
      let half := s.peek (a + 8) 4
      let out := decide (nandBlocks d ≤ blk) || decide (64 ≤ page) || decide (2 ≤ half)
      let st := if out then 2 else if uncorr then 1 else 0
      let data := if out then List.replicate 1024 0 else Memory.getL flashEmpty s.xs1 (blk * 131072 + page * 2048 + half * 1024) 1024
      (ringPut p st (leBytes 4 blk ++ leBytes 4 page ++ leBytes 4 half ++ data) (ringTake q s)).1
    | none => s
  else s

/-! XS0 on the 8D's own account (R519, R537). -/

/-- FOLIO_WRITE: the folio interval has passed while a counter has changed; an erase that waits goes first. -/
def folioWrite (vhold : Nat) (s : State) : State :=
  let d := s.dev
  match d.rec_.todo.find? MemOp.onXs0 with
  | some o => (tryOp o vhold s).onDev fun d => d.modRec fun r => { r with todo := r.todo.erase o }
  | none =>
    let f := d.rec_.folio
    if d.enabled pgREC && f.dirty && decide (f.at_ + msMot (1000 * d.get pgREC REC.FOLCFG.FOLIOT) ≤ d.tim.mot) then tryOp .folio vhold s
    else s

/-- Whether parts of a kerning record are still to be written. -/
def kernBusy (d : Dev) : Bool := d.rec_.todo.any fun o => match o with | .kern _ _ => true | _ => false

/-- KERNING_RECORD_SAVE (R537), by the Service pair firmware: the first of the sixteen programs of the record. -/
def kernSave (n vhold : Nat) (s : State) : State :=
  let d := s.dev
  let v := d.get (pgOBS n) OBS.KTVER.VER
  let due := match nth d.rec_.savedAt n none with
    | some t => decide (t + msMot (1000 * d.get pgCFG CFG.KT_CFG.KTSAVE) ≤ d.tim.mot)
    | none => true
  if d.part.hasLeaf n && v % 2 == 0 && nth d.rec_.savedVer n none != some v && due && opFree d (.kern n 0) && !kernBusy d then tryOp (.kern n 0) vhold s
  else s

/-- The sector ahead of a record that has opened a new sector is to be erased. -/
def eraseAhead (base per sects i : Nat) : List MemOp :=
  if i % per = 0 then [.xsErase (base + 65536 * ((i / per + 1) % max 1 sects))] else []

/-- SETTINGS_OPERATION_COMPLETE (R519, R537): an operation of the 8D's own on XS0 ends. -/
def settingsDone (ok : Bool) (vhold : Nat) (s : State) : State :=
  match s.dev.rec_.xop with
  | none => s
  | some o =>
    let s := s.onDev fun d =>
      let d := d.modRec fun r => { r with xop := none }
      let sects := d.get pgREC REC.FOLCFG.FOLSECT
      match o with
      | .folio =>
        let i := (d.rec_.folio.next + 256 * sects - 1) % max 1 (256 * sects)
        let d := d.modFol fun f => { f with at_ := d.tim.mot, dirty := f.dirty || !ok }
        let d := d.modRec fun r => { r with todo := r.todo ++ eraseAhead 0x1740000 256 sects i }
        if ok then d else d.raise pgREC Cz.REC.FOLIOFAIL 0xFF
      | .kern n p =>
        let i := d.rec_.kernNext
        let v := slugGet d.rec_.kernBuf 4 4
        if ok && decide (p < 15) then d.modRec fun r => { r with todo := .kern n (p + 1) :: r.todo }
        else d.modRec fun r => { r with kernNext := (i + 1) % 256, todo := r.todo ++ eraseAhead 0x1640000 16 16 i,
                                        savedVer := if ok then modNth (fun _ => some v) r.savedVer n else r.savedVer,
                                        savedAt := modNth (fun _ => some d.tim.mot) r.savedAt n }
      | _ => d
    if s.dev.on pgREC REC.REC_STAT.FC then fcNext vhold s
    else match s.dev.rec_.todo.find? MemOp.onXs0 with
    | some o => (tryOp o vhold s).onDev fun d => d.modRec fun r => { r with todo := r.todo.erase o }
    | none => s

/-! The record status item (R522). -/

/-- The record status item as the freeze begins. -/
def recFreeze (s : State) : State :=
  match findItem s.dev false 6 0 with
  | some it =>
    let d := s.dev
    let b (f : Fld) : Nat := d.get pgREC f
    let flags := b REC.REC_STAT.RUN + 2 * b REC.REC_STAT.DEFER + 4 * b REC.REC_STAT.FC + 8 * b REC.REC_STAT.MEMFAIL + 16 * b REC.REC_STAT.FULL
    inItemPut it.ofs (leBytes 4 (b REC.SEQS.LAST) ++ leBytes 4 (b REC.STORED.SEQ) ++ leBytes 2 (b REC.QFILL.FILL) ++ [flags, 0] ++
      leBytes 4 (b REC.LOSTCNT.SLUG)) s
  | none => s

/-! The final commit (R526, R527). -/

/-- Close the movement of an axis for the final commit: PFCUT, result 2. -/
def mvCut (a : Nat) (d : Dev) : Dev := mvEnd a 2 (a < 8) true d

/-- Every completed slug of an axis is handed over. -/
def handAll (a : Nat) : Nat → State → State
  | 0, s => s
  | n + 1, s => if (s.dev.mvx a).ended.isEmpty then s else handAll a n (slugHandoff a s)

/-- The final commit begins (R526): trace capture stops and staged samples are abandoned, an operation that was deferred loses its
place, and every movement in progress is closed; its writes follow one after another. -/
def finalCommit (vhold : Nat) (s : State) : State :=
  if !s.dev.enabled pgREC || s.dev.on pgREC REC.REC_STAT.FC then s
  else
    let s := s.onDev fun d =>
      let d := (d.modRec fun r => { r with defer := none, fcFolio := false }).putB pgREC REC.REC_STAT.FC true |>.ev pgREC Ev.REC.FCSTART
      let d := d.modFol fun f => { f with commits := f.commits + 1, dirty := true }
      d.each (List.range 8) fun n => Dev.modTrc n fun t => { t with on := false, buf := [] }
    let s := s.onDev fun d => d.each d.axes mvCut
    let s := s.dev.axes.foldl (fun s a => handAll a 64 s) s
    (fcNext vhold s).onDev recPublish

/-- VFLD_PF_SET (R441, R526): every axis quick-stops and the outputs are shed, and the record engine makes its final commit. -/
def pfSet (vhold : Nat) (s : State) : State :=
  if s.dev.vfld.pf || !vstood s.dev 4 25000 then s else finalCommit vhold (s.onDev vfldPfSet)

/-- OPERATING_TIME_MINUTE (R518). -/
def minuteTick (d : Dev) : Dev := if d.enabled pgREC then d.modFol fun f => { f with minutes := f.minutes + 1, dirty := true } else d

/-! The commit of page REC (R512, R515). -/

/-- After the staged values of REC have been applied: a layout with too few spares is not taken. -/
def recCommit (old : Dev) (d : Dev) : Dev :=
  let sum := 2 + d.get pgREC REC.LAYOUT.SLUGBLK + d.get pgREC REC.LAYOUT.CTRBLK + d.get pgREC REC.LAYOUT2.ATRBLK
  let l := [REC.MEMCFG.DENS, REC.LAYOUT.SLUGBLK, REC.LAYOUT.CTRBLK, REC.LAYOUT2.ATRBLK]
  let d := if nandBlocks d < sum + 16 then (d.each l fun f d => d.put pgREC f (old.get pgREC f)).ev pgREC Ev.REC.CFGCLAMP else d
  if d.enabled pgREC then (if d.pgState pgREC = 0 then d.setPg pgREC 1 else d)
  else (d.setPg pgREC 0).putB pgREC REC.REC_STAT.RUN false

/-! The commands. -/

/-- SLUG_HANDOFF. -/
def execSlugHandoff (axis : AxisNo) (s : State) : Host.Outcome State Fault Refusal := doState (State.live (slugHandoff axis.val)) s

/-- TRACE_COPY. -/
def execTraceCopy (s : State) : Host.Outcome State Fault Refusal := doDev (Dev.live traceCopy) s

/-- SLUG_PAGE_FLUSH. -/
def execSlugPageFlush (s : State) : Host.Outcome State Fault Refusal := doDev (Dev.live slugFlush) s

/-- NAND_OPERATION_COMPLETE. -/
def execNandOperationComplete (ok answers : Bool) (vhold : W16) (s : State) : Host.Outcome State Fault Refusal :=
  doState (State.live (nandDone ok answers vhold.toNat)) s

/-- RECORD_MEMORY_RUN. -/
def execRecordMemoryRun (vhold : W16) (s : State) : Host.Outcome State Fault Refusal := doState (State.live (recRun vhold.toNat)) s

/-- REC_CTRL_FORMAT. -/
def execRecCtrlFormat (vhold : W16) (s : State) : Host.Outcome State Fault Refusal := doState (State.live (recFormat vhold.toNat)) s

/-- RECORD_READ_REQUEST. -/
def execRecordReadRequest (uncorr : Bool) (s : State) : Host.Outcome State Fault Refusal := doState (State.live (recRead uncorr)) s

/-- FOLIO_WRITE. -/
def execFolioWrite (vhold : W16) (s : State) : Host.Outcome State Fault Refusal := doState (State.live (folioWrite vhold.toNat)) s

/-- HOLDUP_RETRY. -/
def execHoldupRetry (vhold : W16) (s : State) : Host.Outcome State Fault Refusal := doState (State.live (holdRetry vhold.toNat)) s

/-- HOLDDEF. -/
def execHolddef (s : State) : Host.Outcome State Fault Refusal := doDev (Dev.live holdDef) s

/-- KERNING_RECORD_SAVE. -/
def execKerningRecordSave (leaf : LeafNo) (vhold : W16) (s : State) : Host.Outcome State Fault Refusal :=
  doState (State.live (kernSave leaf.val vhold.toNat)) s

/-- OPERATING_TIME_MINUTE. -/
def execOperatingTimeMinute (s : State) : Host.Outcome State Fault Refusal := doDev (Dev.live minuteTick) s

/-- SETTINGS_OPERATION_COMPLETE. -/
def execSettingsOperationComplete (ok : Bool) (vhold : W16) (s : State) : Host.Outcome State Fault Refusal :=
  doState (State.live (settingsDone ok vhold.toNat)) s

/-- VFLD_PF_SET. -/
def execVfldPfSet (vhold : W16) (s : State) : Host.Outcome State Fault Refusal := doState (State.live (pfSet vhold.toNat)) s

end Sys2Proof.Machine
end

