-- ==== Sys2Proof/Machine/Commit.lean ====
section
/-! DEFINITION. The staged and active values of a page (R52 to R57), what each page does when its staged values apply, and
the page states that EN and PARK bring (R47, R48, R108, R112 to R116, R220, R288, R594). -/

namespace Sys2Proof.Machine

/-! The stored fields of a page. -/

/-- The elements of a field array. -/
def Fld.elems (f : Fld) : List Fld := (List.range f.n).map f.at

/-- Offsets of the POS page that the POSK pages replace or reserve (table "POSK*k* registers"). -/
def poskGone : List Nat := [0x040, 0x04C, 0x050, 0x054, 0x058, 0x05C, 0x098, 0x0A0, 0x0AC, 0x0B0]

/-- The stored fields of a unit, arrays expanded: the common header and its own. -/
def unitFields (u : Unit_) : List Fld :=
  let l := match u with
    | .posk _ => (POS.fields.filter fun (f : Fld) => !poskGone.contains f.off) ++ POSK.fields
    | _ => u.own
  HDR.fields ++ l.flatMap Fld.elems

/-- The shadowed fields of a unit. -/
def unitRwp (u : Unit_) : List Fld := (unitFields u).filter fun f => f.acc == .rwp

/-- The pages whose `PG_CTRL.EN` always reads 1 and whose `PARK` reads 0 (R47). -/
def fixedPage (pg : Nat) : Bool :=
  [pgSYS, pgCLK, pgFLT, pgIMD, pgSVC, pgFRM, pgCFG, pgSEC, pgSEAL, pgPLT, pgSAFE].contains pg

/-- The commit point armed on a page: leaf rest only in pages LEAFn, OBSn and POSn, 3 to 15 treated as 0 (R56, table
"SH_CTRL"). -/
def commitPoint (d : Dev) (pg : Nat) : Nat :=
  let c := d.get pg HDR.CPSEL
  let leafPage := match unitOf pg with
    | some (.leaf _) => true
    | some (.obs _) => true
    | some (.pos _) => true
    | _ => false
  if c = 2 then 2 else if c == 1 && leafPage then 1 else 0

/-- Staged values are discarded: each is reloaded from its active value, and PEND clears (R53, R57). -/
def shAbort (pg : Nat) (u : Unit_) (d : Dev) : Dev :=
  (d.each (unitRwp u) fun f d => d.sput pg f (d.get pg f)).putB pg HDR.PEND false

/-- Every staged value becomes active, `SH_EPOCH` is loaded and PEND clears (R55); a TEST of 1 is discarded outside BLANK and
DEVELOP (R48). -/
def applyCells (pg : Nat) (u : Unit_) (d : Dev) : Dev :=
  let d := if d.otp.lc ≤ 1 ∨ d.sget pg HDR.TEST = 0 then d else d.sput pg HDR.TEST (d.get pg HDR.TEST)
  let d := d.each (unitRwp u) fun f d => d.put pg f (d.sget pg f)
  (d.put pg HDR.EPOCH (d.get pgCFG CFG.IMPRESSION.IMPNUM)).putB pg HDR.PEND false

/-! Page states. -/

/-- The state code that EN and PARK of a page out of service give: 3 PARKED, else 0 OFF. A fall of EN gives OFF (R116), a rise
of PARK gives PARKED (R112, R594). -/
def outState (old d : Dev) (pg : Nat) : Nat :=
  if !d.on pg HDR.PARK then 0
  else if d.on pg HDR.EN then 3
  else if old.on pg HDR.EN then 0
  else if !old.on pg HDR.PARK then 3
  else old.pgState pg

/-- The state of a page without STARTING steps of its own. -/
def plainService (old : Dev) (pg : Nat) (d : Dev) : Dev :=
  if fixedPage pg then d
  else if d.enabled pg then (if d.pgState pg = 2 then d else d.setPg pg 2)
  else d.setPg pg (outState old d pg)

/-- A parked or disabled leaf page is at its end: gates off, engine halted, PARKED or OFF; OFF clears the set-point state and
the sequencer state (R112, R116). Where PARK has become 0 again meanwhile, STARTING follows (R115). -/
def leafParkDone (n : Nat) (d : Dev) : Dev :=
  let p := (d.drv n).parkPend
  if p = 0 ∨ (d.drv n).cal.on then d
  else
    let d := (setMode n mOFF (gatesOff n d)).modDrv n fun x => { x with parkPend := 0, step := .none }
    let d := (d.putB (pgLEAF n) LEAF.DRV_STAT.BEN false).modPrf n fun p => { p with plan := none, req := none, stopReq := 0 }
    if d.enabled (pgLEAF n) then leafStarting n d
    else sendLock n (idleMember n (if p = 1 then d.setPg (pgLEAF n) 3 else prfClear n (d.setPg (pgLEAF n) 0)))

/-- Whether a pending park may complete: a mode without PWM, or the stop path over at standstill (R112, R113). -/
def leafParkReady (d : Dev) (n : Nat) : Bool :=
  let p := d.prf n
  d.pgState (pgLEAF n) == 1 || (d.drv n).mode == mOFF || (d.drv n).mode == mBRAKE ||
    ((d.prf n).still && p.stopKind == 0 && p.stopReq == 0)

/-- A pending park of a leaf completes where it may. -/
def leafParkCheck (n : Nat) (d : Dev) : Dev :=
  if (d.drv n).parkPend != 0 && leafParkReady d n then leafParkDone n d else d

/-- The active PARK became 1 (`kind` 1) or EN became 0 (`kind` 2) on a leaf page (R111 to R113, R116). -/
def leafPark (n kind : Nat) (d : Dev) : Dev :=
  let m := (d.drv n).mode
  let d := d.modDrv n fun x => { x with parkPend := kind }
  if (d.drv n).cal.on then d
  else if d.pgState (pgLEAF n) = 1 ∨ m = mOFF ∨ m = mBRAKE then leafParkDone n d
  else reqStop n 1 false d

/-- A page of a leaf after its EN or PARK may have changed (R108, R112 to R116). PARK back to 0 before standstill cancels the pending
park (R113). Model's choice: EN back to 1 before the end of the stop that its 0 began waits for that end, and STARTING follows
(assumption log 54). -/
def leafService (old : Dev) (n : Nat) (d : Dev) : Dev :=
  let pg := pgLEAF n
  let on := d.enabled pg
  let was := old.enabled pg
  let kind := if outState old d pg = 3 then 1 else 2
  if on && was then d
  else if on then
    if (d.drv n).parkPend = 1 then d.modDrv n fun x => { x with parkPend := 0 }
    else if (d.drv n).parkPend ≠ 0 then d else leafStarting n d
  else if was then leafPark n kind d
  else if (d.drv n).parkPend ≠ 0 then d.modDrv n fun x => { x with parkPend := kind }
  else if outState old d pg = old.pgState pg then d
  else leafParkDone n (d.modDrv n fun x => { x with parkPend := kind })

/-- A page of a step after its EN or PARK may have changed (R115, R116, R288). -/
def stepService (old : Dev) (k : Nat) (d : Dev) : Dev :=
  let pg := pgSTEP k
  let on := d.enabled pg
  let was := old.enabled pg
  let off := outState old d pg != 3
  if on && was then d
  else if on then
    if (d.drv (8 + k)).parkPend ≠ 0 then d else stepStarting k d
  else if was then stepPark k off d
  else if (d.drv (8 + k)).parkPend ≠ 0 then d.modDrv (8 + k) fun x => { x with parkPend := if off then 2 else 1 }
  else if outState old d pg = old.pgState pg then d
  else stepPark k off d

/-- The fields whose change puts a feedback page back into STARTING (R220). -/
def posRestart (a : Nat) : List Fld :=
  if a < 8 then
    [POS.POS_CFG.PSRC, POS.POS_CFG.ANGSRC, POS.POS_CFG.COMPAT, POS.POS_CFG.DIRINV, POS.CPR.CPR, POS.HALL.HALLOFS, POS.HALL.HALLFLT,
      POS.HALL.HSEQ, POS.SSI_CFG.CLKDIV, POS.SSI_CFG.DLY, POS.SSI_CFG.CRCSEL, POS.SSI_CFG.CRCINV, POS.SSI_CFG.ERRPOL,
      POS.SSI_CFG.ERREN, POS.SSI_CFG.GRAY, POS.SSI_CFG.DBITS, POS.SSI_CFG.JUMPTOL, POS.SSI_SCALE.SCALE, POS.SSIREF.SSIREF]
  else [POSK.POS_CFG.COMPAT, POSK.POS_CFG.DIRINV, POS.CPR.CPR]

/-- A feedback page after a commit (R116, R197, R219, R220, R594). -/
def posService (old : Dev) (a : Nat) (d : Dev) : Dev :=
  let pg := pgPOS a
  let d := if a < 8 ∧ d.get pg POS.POS_CFG.HALLPOL ≠ old.get pg POS.POS_CFG.HALLPOL then hallPol a d else d
  if d.enabled pg then
    if !old.enabled pg || (posRestart a).any fun f => d.get pg f != old.get pg f then posStarting a d else d
  else
    let d := if decide (8 ≤ a) && old.enabled pg then stepPosOff (a - 8) d else d
    d.setPg pg (outState old d pg)

/-- An observer page after a commit: it has no STARTING steps; the direction of a page that starts is opening (R116, R159,
R594). -/
def obsService (old : Dev) (n : Nat) (d : Dev) : Dev :=
  let d := if d.enabled (pgOBS n) && !old.enabled (pgOBS n) then d.modOb n fun o => { o with dir := 1 } else d
  plainService old (pgOBS n) d

/-! What the pages do with values that apply. -/

/-- A request bit of `FRM.OLC_CTRL` applies and returns to 0 (chapter "Online change"). -/
def olcRequest (f : Fld) (act : State → State) (s : State) : State :=
  if s.dev.on pgFRM f then act (s.onDev (Dev.put2 pgFRM f 0)) else s

/-- The commit of FRM (R36, R407 to R410, R414): bounds of N and GRACE, a new cycle length, the requests of `OLC_CTRL`. -/
def frmCommit (old : Dev) (s : State) : State :=
  let nmin := (formeHdr s s.dev.forme.half).nmin
  let s := s.onDev fun d =>
    let n := d.get pgFRM FRM.CYCLE_N.N
    let d := if d.forme.st != 0 && decide (n < nmin) then (d.put pgFRM FRM.CYCLE_N.N nmin).ev pgFRM Ev.FRM.CFGCLAMP else d
    let n := d.get pgFRM FRM.CYCLE_N.N
    let d := if n ≤ d.get pgFRM FRM.TASK_CFG.GRACE then (d.put pgFRM FRM.TASK_CFG.GRACE (n - 1)).ev pgFRM Ev.FRM.CFGCLAMP else d
    if n = old.get pgFRM FRM.CYCLE_N.N then d else impoFit ((d.put pgCLK CLK.GRID.SERVO 0).ev pgCLK Ev.CLK.CYCLEN)
  let half := s.dev.get pgFRM FRM.OLC_CTRL.HALF
  let s := olcRequest FRM.OLC_CTRL.CANCEL (State.onDev olcCancel) s
  let s := olcRequest FRM.OLC_CTRL.PREP (olcPrep half) s
  let s := olcRequest FRM.OLC_CTRL.SWITCH (State.onDev olcSwitch) s
  resolveForces (fun _ => false) s

/-- The rings whose configuration a commit changed (R494). -/
def ringChanged (old d : Dev) : Nat :=
  (List.range 32).foldl (fun m k =>
    let fs := [RING.RING_BASE.BASE, RING.RING_CFG.EN, RING.RING_CFG.OWN, RING.RING_CFG.DIR, RING.RING_CFG.SIZE, RING.RING_CFG.ENTRIES]
    if fs.any fun f => d.get pgRING (f.at k) != old.get pgRING (f.at k) then m + 2 ^ k else m) 0

/-- What a page does after its staged values have applied; `old` is the device before. -/
def unitCommit (u : Unit_) (pg : Nat) (old : Dev) (s : State) : State :=
  match u with
  | .frm => frmCommit old s
  | .leaf n => s.onDev fun d => cfgCheck (leafService old n (publishCaps n d))
  | .obs n => s.onDev (obsService old n)
  | .pos n => s.onDev (posService old n)
  | .posk k => s.onDev (posService old (8 + k))
  | .emu => s.onDev fun d => (plainService old pg d).each [0, 1, 2, 3] emuCommit
  | .step k => s.onDev fun d => cfgCheck (stepService old k d)
  | .fio x => s.onDev fun d =>
      let g := old.get (pgFIO 0)
      plainService old pg (vfldCommit (g FIO.VFLDCFG.VWARN, g FIO.VFLDCFG.VLOW, g FIO.VFLDCFG.VPF) (grpCommit x d))
  | .limp => s.onDev fun d => plainService old pg (limpCommit d)
  | .can c => canCommit c old (s.onDev (plainService old pg))
  | .impo => s.onDev fun d =>
      let d := plainService old pg d
      impoCommit (impoBoundary.any fun f => d.get pgIMPO f != old.get pgIMPO f) d
  | .eth => s.onDev fun d => ethCommit (plainService old pg d)
  | .ptp => s.onDev fun d => ptpCommit (plainService old pg d)
  | .ring => ringCommit (ringChanged old s.dev) (s.dev.enabled pgRING != old.enabled pgRING) (s.onDev (plainService old pg))
  | .recE => s.onDev fun d =>
      let d := recCommit old d
      if d.enabled pgREC then d else d.setPg pgREC (outState old d pgREC)
  | _ => s.onDev (plainService old pg)

/-- A page applies its staged values at its commit point (R55). -/
def commitPage (pg : Nat) (s : State) : State :=
  match unitOf pg with
  | none => s
  | some u =>
    if s.dev.part.has u && s.dev.on pg HDR.PEND then unitCommit u pg s.dev (s.onDev (applyCells pg u)) else s

/-- The pages of leaf `n` with leaf rest as commit point. -/
def restPages (n : Nat) : List Nat := [pgLEAF n, pgOBS n, pgPOS n]

/-- The pages of a leaf armed for leaf rest apply once the leaf is at rest (R56). -/
def restCommit (n : Nat) (s : State) : State :=
  if s.dev.part.hasLeaf n && leafRest s.dev n then
    (restPages n).foldl (fun s pg => if commitPoint s.dev pg = 1 then commitPage pg s else s) s
  else s

/-- The pages armed for the program-cycle boundary apply (R25, R55). Model's choice: pages armed for one boundary, and the pages
of one leaf rest, apply in ascending page number (assumption log 68). -/
def boundaryCommit (s : State) : State :=
  allPages.foldl (fun s pg => if commitPoint s.dev pg = 0 then commitPage pg s else s) s

/-- A write of `SH_CTRL` (R53, R54, table "SH_CTRL"): answers the device and whether CPSEL was kept against the write. -/
def shCtrl (pg : Nat) (u : Unit_) (v : Nat) (d : Dev) : Dev × Bool :=
  let pend := d.on pg HDR.PEND
  let cp := v / 16 % 16
  let busy := pend && cp != d.get pg HDR.CPSEL
  let d := if pend then d else d.put pg HDR.CPSEL cp
  if bit v 1 then (shAbort pg u d, busy)
  else (d.putB pg HDR.PEND (pend || bit v 0), busy)

/-- LEAF_REST_COMMIT (R56). -/
def execLeafRestCommit (leaf : LeafNo) (s : State) : Host.Outcome State Fault Refusal := doState (State.live (restCommit leaf.val)) s

end Sys2Proof.Machine
end

