-- ==== Sys2Proof/Machine/Image.lean ====
section
/-! DEFINITION. The settings memory on XS0: the layout, the colophon of an image and its verification, boot policies and
selector records (R529 to R536). -/

namespace Sys2Proof.Machine

/-- A little-endian word of `n` bytes of XS0. -/
def xs0W (s : State) (a n : Nat) : Nat := Memory.getW flashEmpty s.xs0 a n

/-- Bytes of XS0. -/
def xs0L (s : State) (a n : Nat) : List Nat := Memory.getL flashEmpty s.xs0 a n

/-! The layout (table "Settings memory layout"). -/

def hdrBase (c : Nat) : Nat := 0x10000 * c
def fwBase (slot : Nat) : Nat := 0x40000 + 0x800000 * slot
def frmBase (slot : Nat) : Nat := 0x1040000 + 0x200000 * slot
def impBase (slot : Nat) : Nat := 0x1440000 + 0x100000 * slot
abbrev keyBase : Nat := 0x20000
abbrev ticketBase : Nat := 0x30000
abbrev integBase : Nat := 0x1B40000

/-- Where the image of a KIND and slot lies, with the size of its region (tables "Settings memory layout", "Colophon"). -/
def imgRegion (kind slot : Nat) : Nat × Nat :=
  if kind = 1 then (hdrBase slot, 0x1000) else if kind = 2 then (fwBase slot, 0x800000)
  else if kind = 3 then (frmBase slot, 0x200000) else if kind = 4 then (impBase slot, 0x100000)
  else if kind = 5 then (keyBase, 0x10000) else (ticketBase, 0x10000)

/-! The colophon (table "Colophon", R532, R533). -/

/-- A colophon and where it stands. -/
structure Colo where
  at_ : Nat
  slot : Nat
  kind : Nat
  fmt : Nat
  len : Nat
  ver : Nat
  digest : List Nat
  sig : List Nat
  pub : List Nat
  deriving DecidableEq, Repr

/-- The colophon at an address, `none` where its magic does not stand there. -/
def coloAt (s : State) (a : Nat) : Option Colo :=
  if xs0W s a 4 = 0x4F4C4F43 then
    some { at_ := a, slot := xs0W s (a + 4) 1, kind := xs0W s (a + 5) 1, fmt := xs0W s (a + 6) 2, len := xs0W s (a + 8) 4
           ver := xs0W s (a + 12) 4, digest := xs0L s (a + 0x10) 48, sig := xs0L s (a + 0x40) 96, pub := xs0L s (a + 0xA0) 96 }
  else none

/-- The colophon of the image at `base`: at the first 256-byte boundary after the image's last byte. -/
def coloFind (s : State) (base size : Nat) : Option Colo :=
  (List.range (size / 256)).findSome? fun i =>
    match coloAt s (base + 256 * i) with
    | some c => if (c.len + 255) / 256 = i then some c else none
    | none => none

/-- The integrator keys that the lifecycle state accepts (R539). -/
def keysAccepted (d : Dev) : List IntegKey :=
  if d.otp.lc < 2 then d.boot.keys else if d.otp.lc = 2 then d.boot.keys.filter (·.prod) else []

/-- The key under which a colophon may verify: root keys for firmware and the key block, integrator keys for the others
(R532). -/
def coloKey (d : Dev) (c : Colo) : Option (List Nat) :=
  let root := c.kind == 2 || c.kind == 5
  if c.slot = 0xFF then (if root && d.otp.rootOk && Config.sha384 c.pub == d.otp.root then some c.pub else none)
  else if root then none
  else ((keysAccepted d).find? fun k => k.slot == c.slot).map (·.key)

/-- The check of R532 and R533 on the image of a region, as a `VER_STAT.RESULT` code: 0 OK, 1 no image, 2 digest, 3 signature,
4 key not accepted, 5 rollback, 6 kind. -/
def imgCheck (s : State) (base size kind : Nat) : Nat × Option Colo :=
  match coloFind s base size with
  | none => (1, none)
  | some c =>
    let r :=
      if c.fmt ≠ 0x0100 then 1
      else if c.kind ≠ kind then 6
      else if Config.sha384 (xs0L s base c.len ++ xs0L s c.at_ 16) ≠ c.digest then 2
      else match coloKey s.dev c with
        | none => 4
        | some k =>
          if !Config.ecdsaVerify k c.digest c.sig then 3
          else if kind = 2 ∧ (c.ver / 0x1000000 < s.dev.otp.fwMin ∨ c.ver < s.dev.boot.fwMinV) then 5
          else 0
    (r, some c)

/-- The check of the image of a KIND in a slot. -/
def slotCheck (s : State) (kind slot : Nat) : Nat × Option Colo :=
  imgCheck s (imgRegion kind slot).1 (imgRegion kind slot).2 kind

/-! Boot policies (table "Boot policy", R535). -/

/-- A boot policy that verifies: colophon version, target lifecycle, SPLIT, INTEGID, lowest firmware version, its 4 KB. -/
structure Policy where
  ver : Nat
  target : Nat
  split : Bool
  integ : Nat
  fwMinV : Nat
  bytes : List Nat
  deriving DecidableEq, Repr

/-- The policy at an address, with the code of its check. -/
def policyAt (s : State) (a : Nat) : Nat × Option Policy :=
  match imgCheck s a 0x1000 1 with
  | (0, some c) =>
    if c.at_ = a + 0xF00 ∧ xs0W s a 4 = 0x544F4F42 ∧ xs0W s (a + 4) 2 = 0x0100 then
      (0, some { ver := c.ver, target := xs0W s (a + 6) 1, split := bit (xs0W s (a + 7) 1) 0, integ := xs0W s (a + 8) 4
                 fwMinV := xs0W s (a + 12) 4, bytes := xs0L s a 0x1000 })
    else (1, none)
  | (r, _) => (r, none)

/-- The boot policy in force (R535): copy 0 when it verifies, else copy 1; of two that differ, the higher version. -/
def policyNow (s : State) : Option Policy :=
  match (policyAt s (hdrBase 0)).2, (policyAt s (hdrBase 1)).2 with
  | some a, some b => if a.ver < b.ver then some b else some a
  | some a, none => some a
  | none, b => b

/-- Both header sectors read all 0xFF (R546). -/
def hdrBlank (s : State) : Bool := s.xs0.all fun c => decide (0x20000 ≤ c.1)

/-- What a boot policy sets while it is in force. -/
def policyUse (p : Policy) (d : Dev) : Dev :=
  { d with boot := { d.boot with fwMinV := p.fwMinV, polTarget := p.target, polInteg := p.integ, polVer := some p.ver, split := p.split } }

/-! Selector records (table "Selector record", R535). -/

/-- The 64 bytes of a selector record. -/
def selBytes (x : Select) : List Nat :=
  let b := leBytes 4 x.sseq ++ [x.fw, x.frm, x.imp, x.trial, x.tries] ++ List.replicate 51 0
  b ++ leBytes 4 (crc32c b)

/-- Places of the journal of a header copy. -/
def selPlaces (c : Nat) : List Nat := (List.range 960).map fun i => hdrBase c + 0x1000 + 64 * i

/-- The selector record at a place, where its CRC is good. -/
def selAt (s : State) (a : Nat) : Option Select :=
  let b := xs0L s a 60
  if crc32c b = xs0W s (a + 60) 4 ∧ !(b.all (· == 0xFF)) then
    some { sseq := ofLe (b.take 4), fw := nth b 4 0, frm := nth b 5 0, imp := nth b 6 0, trial := nth b 7 0, tries := nth b 8 0 }
  else none

/-- The selection in force: the record with the highest SSEQ and a good CRC in either copy; slots A where there is none. -/
def selNow (s : State) : Select :=
  ((selPlaces 0 ++ selPlaces 1).filterMap (selAt s)).foldl
    (fun (best : Option Select) (x : Select) => match best with
      | some b => if b.sseq < x.sseq then some x else some b
      | none => some x) none |>.getD {}

/-- Append a selector record to one copy, whose full journal is erased and begun again after its policy (R535). -/
def selAppendTo (c : Nat) (x : Select) (s : State) : State :=
  match (selPlaces c).find? fun a => (xs0L s a 64).all (· == 0xFF) with
  | some a => { s with xs0 := Memory.program s.xs0 a (selBytes x) }
  | none =>
    let pol := xs0L s (hdrBase c) 0x1000
    let m := Memory.erase (hdrBase c) 0x10000 s.xs0
    { s with xs0 := Memory.program (Memory.program m (hdrBase c) pol) (hdrBase c + 0x1000) (selBytes x) }

/-- A new selection is recorded in both copies, copy 0 first, and is in force. -/
def selAppend (f : Select → Select) (s : State) : State :=
  let x := f s.dev.boot.sel
  let x := { x with sseq := s.dev.boot.sel.sseq + 1 }
  let s := selAppendTo 1 x (selAppendTo 0 x s)
  s.onDev fun d => { d with boot := { d.boot with sel := x } }

/-- A header copy is erased and receives a policy and the latest selector record (R536). -/
def hdrRewrite (c : Nat) (p : Policy) (s : State) : State :=
  let m := Memory.program (Memory.erase (hdrBase c) 0x10000 s.xs0) (hdrBase c) p.bytes
  { s with xs0 := if s.dev.boot.sel.sseq = 0 then m else Memory.program m (hdrBase c + 0x1000) (selBytes s.dev.boot.sel) }

/-- Place of the kerning area that the next record takes: after the records written, the first of an empty area (R537). -/
def kernStart (s : State) : Nat :=
  let blank (i : Nat) : Bool := flashBlank s.xs0 (kernAddr i) 4096
  ((List.range 256).find? fun i => blank i && !blank ((i + 255) % 256)).getD 0

end Sys2Proof.Machine
end

