-- ==== Sys2Proof/Machine/Impress.lean ====
section
/-! DEFINITION. The range rules of the pages, and the loading of an impression and of the factory impression into the
registers (R61, R118, R187, R188, R221, R263, R292, R367, R414, R445, R474, R500, R528, R549, R552, R560, R593). -/

namespace Sys2Proof.Machine

/-! Range rules. -/

/-- The event of a page's range rule for a field at an offset; none on the pages that have no such rule. -/
def clampEv (u : Unit_) (off : Nat) : Option Nat :=
  match u with
  | .leaf _ => some (if off < 0x100 then Ev.LEAF.CFGCLAMP else Ev.LEAF.PCLAMP)
  | .obs _ => some Ev.OBS.OCLAMP
  | .pos _ => some Ev.POS.CFGCLAMP
  | .posk _ => some Ev.POS.CFGCLAMP
  | .emu => some Ev.POS.CFGCLAMP
  | .step _ => some Ev.STEP.PCLAMP
  | .imd => some Ev.IMD.CFGCLAMP
  | .svc => some Ev.SVC.CFGCLAMP
  | .flt => some Ev.FLT.CFGCLAMP
  | .frm => some Ev.FRM.CFGCLAMP
  | .fio _ => some Ev.FIO.CFGCLAMP
  | .lsw _ => some Ev.LSW.CFGCLAMP
  | .limp => some Ev.LIMP.CFGCLAMP
  | .can _ => some Ev.CAN.CFGCLAMP
  | .impo => some Ev.IMPO.CFGCLAMP
  | .eth => some Ev.ETH.CFGCLAMP
  | .ptp => some Ev.PTP.CFGCLAMP
  | .trdp => some Ev.TRDP.CFGCLAMP
  | .ring => some Ev.RING.CFGCLAMP
  | .recE => some Ev.REC.CFGCLAMP
  | .cfg => some Ev.CFG.CFGCLAMP
  | .sec => some Ev.SEC.CFGCLAMP
  | _ => none

/-- The value a field takes for a value written: the nearest in range. `OBS_CFG.FALPHA` has 0 besides its range (R188),
`SSI_SCALE` excludes only 0, which leaves the staged value (R221), IHOLD is bounded by IRUN (table "STEP*k* registers"), and a
ring selection is 0 to 31 or 0xFF (table "CAN*n* registers"). -/
def rangeVal (u : Unit_) (pg : Nat) (f : Fld) (v : Nat) (d : Dev) : Nat :=
  let v := v % 2 ^ f.w
  match u with
  | .obs _ => if f.off = OBS.OBS_CFG.FALPHA.off ∧ f.lo = OBS.OBS_CFG.FALPHA.lo ∧ v = 0 then 0 else f.clamp v
  | .pos _ => if f.off = POS.SSI_SCALE.SCALE.off ∧ v = 0 then d.sget pg f else f.clamp v
  | .step _ => if f.off = STEP.CUR.IHOLD.off ∧ f.lo = STEP.CUR.IHOLD.lo then min v (d.sget pg STEP.CUR.IRUN) else f.clamp v
  | .can _ => if f.off = CAN.RINGSEL.TXRING.off ∧ 31 < v ∧ v < 255 then 31 else f.clamp v
  | .ring => if f.w = RING.RING_BASE.BASE.w then min (v + 31) 0xFFFFF / 64 * 64 else f.clamp v
  | _ => f.clamp v

/-- Raise the range event of a page where the value taken differs from the value written. -/
def clampTell (u : Unit_) (pg : Nat) (f : Fld) (v taken : Nat) (d : Dev) : Dev :=
  if taken = v % 2 ^ f.w then d
  else match clampEv u f.off with
    | some e => d.ev pg e
    | none => d

/-! Loading values (R549). -/

/-- One entry of the page values: page, offset, value, mask. The value goes into both copies of each field that the mask
touches, within its range. -/
def loadEntry (ok : Fld → Bool) (e : Nat × Nat × Nat × Nat) (d : Dev) : Dev :=
  let (pg, off, v, m) := e
  match unitOf pg with
  | none => d
  | some u =>
    if !d.part.has u then d
    else d.each ((unitFields u).filter fun f => f.off == off && ok f && bitsOf m f.lo f.w != 0).reverse fun f d =>
      let mk := bitsOf m f.lo f.w
      let old := d.get pg f
      let new := (bitsOf v f.lo f.w &&& mk) ||| (old &&& (2 ^ f.w - 1 - mk))
      let t := rangeVal u pg f new d
      clampTell u pg f new t (d.put2 pg f t)

/-- A field that page values may set (chapter "Impressions"). -/
def rwpOrRws (f : Fld) : Bool := f.acc == .rwp || f.acc == .rws

/-- A field that a safety profile may set: the read-only fields marked "profile" (R187, R331). -/
def profileFld (f : Fld) : Bool := f.acc == .ro && decide (0x040 ≤ f.off)

/-- The profile fields of one page from the active profile (R187, R554). -/
def loadProfile (pg : Nat) (d : Dev) : Dev :=
  let p := nth d.boot.profiles (d.get pgSEAL SEAL.PROFILE.PROFILE) {}
  d.each (p.fields.filter fun e => e.1 == pg) (loadEntry profileFld)

/-- The pages that hold profile fields. -/
def profilePages : List Nat := (List.range 8).map pgOBS

/-- The maps of an impression: image map, bus objects, descriptors, kerning save interval (chapter "Impressions"). -/
def loadMaps (i : ImpImg) (d : Dev) : Dev :=
  let d := { d with forme := { d.forme with map := i.map, mapHash := i.mapHash } }
  let d := d.put pgFRM FRM.MAPHASH.HASH i.mapHash
  let d := d.each [0, 1, 2] fun c => Dev.modCn c fun x => { x with objs := (i.can.filter fun e => e.1 == c).map (·.2) }
  let k := CFG.KT_CFG.KTSAVE.clamp i.ktSave
  trdpLoad i.pubs i.subs (clampTell .cfg pgCFG CFG.KT_CFG.KTSAVE i.ktSave k (d.put pgCFG CFG.KT_CFG.KTSAVE k))

/-- Every page's `SH_EPOCH` and `CFG.IMPRESSION` take the impression's number (R549). -/
def loadNumber (n : Nat) (d : Dev) : Dev :=
  (d.put pgCFG CFG.IMPRESSION.IMPNUM n).each allPages fun pg d => d.put pg HDR.EPOCH n

/-- Step 10 of start-up for the registers (R549): page values, profile fields, maps, number. -/
def loadImpression (i : ImpImg) (d : Dev) : Dev :=
  let d := { d with boot := { d.boot with profiles := i.profiles } }
  let d := d.each i.values (loadEntry rwpOrRws)
  loadNumber i.num (loadMaps i (d.each profilePages loadProfile))

/-! The factory set (table "Factory impression and forme"). -/

/-- Doorway `k` as the table gives it: pairing, side, switches, speeds, energy cap, detection. -/
def factoryDoor (k : Nat) (d : Dev) : Dev :=
  let e := pgLEAF (2 * k)
  let d := ((d.put2 e LEAF.SEQ_CFG.DWMODE 1).put2 e LEAF.LIG.LEN 1).put2 e LEAF.LIG.RATIO 16384
  d.each [2 * k, 2 * k + 1] fun n d =>
    let pg := pgLEAF n
    let d := (d.put2 pg LEAF.SEQ_CFG.CARSIDE (if k < 2 then 0 else 1)).put2 pg LEAF.LIMCFG.LIMC_SRC (0x40 + 2 * k)
    let d := ((d.put2 pg LEAF.LIMCFG.LIMC_MODE 1).put2 pg LEAF.SEQ_IN.LKSW (0x41 + 2 * k)).put2 pg LEAF.LIMCFG.LIMO_SRC 255
    let d := ((d.put2 pg LEAF.SET0_V.VMAX 250000).put2 pg LEAF.SET1_V.VMAX 250000).put2 pg LEAF.SET2_V.VMAX 250000
    let d := (d.put2 pg LEAF.ECAP.EMAXC 4000).each [pg, pgPOS n, pgOBS n] fun p d => d.put2 p HDR.EN 1
    let o := pgOBS n
    let d := d.each (List.range 8) fun j d =>
      (((d.put o (OBS.FTHO.HI.at j) 800).put o (OBS.FTHO.LO.at j) 800).put o (OBS.FTHC.HI.at j) 800).put o (OBS.FTHC.LO.at j) 800
    let d := (((d.put o OBS.FLIM.FLIMO 1500).put o OBS.FLIM.FLIMC 1500).put o OBS.FCEIL.FCEIL 1200).put o OBS.FCEIL.REVD 100
    let d := ((d.put o OBS.REACT.REACT_C 0).put o OBS.REACT.REACT_O 0).put o OBS.REACT.IQHOLD 1000
    (d.put o OBS.REACT.EN_C 1).put o OBS.REACT.EN_O 1

/-- The factory impression over the values of its image in boot ROM. -/
def loadFactory (d : Dev) : Dev :=
  let d := loadImpression { Config.factoryImp with num := 0, nibble := 0 } d
  let d := d.each ((List.range 4).filter fun k => d.part.hasLeaf (2 * k)) factoryDoor
  let d := d.each [pgFIO 0, pgFIO 1, pgLSW 0, pgLSW 1] fun p d => if d.part.has (if p < pgLSW 0 then .fio (p - pgFIO 0) else .lsw (p - pgLSW 0)) then d.put2 p HDR.EN 1 else d
  let off := (List.range 4).map pgSTEP ++ [pgCAN 0, pgCAN 1, pgCAN 2, pgIMPO, pgETH, pgTRDP, pgPTP, pgRING, pgREC]
  let d := d.each (off.filter fun p => match unitOf p with | some u => d.part.has u | none => false) fun p d => d.put2 p HDR.EN 0
  d.put2 pgREC REC.HOLD.HOLDC 0

end Sys2Proof.Machine
end

