-- ==== Sys2Proof/Machine/Boot.lean ====
section
/-! DEFINITION. Reset of the core die, start-up from power-good to ready, and in-service change of images, keys, policies and
impressions (R37 to R40, R321 to R327, R355, R401, R529 to R560). -/

namespace Sys2Proof.Machine

def Dev.modBoot (f : BootX → BootX) (d : Dev) : Dev := { d with boot := f d.boot }

/-! Fuses and keys as the SEC page shows them (table "SEC registers"). -/

/-- The fields of SEC that repeat fuses, keys and the unlock. -/
def publishSec (d : Dev) : Dev :=
  let o := d.otp
  let rows := (List.range 4).foldl (fun a k => a + (4 - nth o.rows k 0) * 16 ^ k) 0
  let enrolled := (List.range 4).foldl (fun a k => if (nth o.keys k none).isSome then a + 2 ^ k else a) 0
  let accepted := (keysAccepted d).foldl (fun m k => setBit m (k.slot % 4) true) 0
  let d := (((d.put pgSEC SEC.SEC_STAT.NKEYS enrolled).put pgSEC SEC.SEC_STAT.IKEYS accepted).putB pgSEC SEC.SEC_STAT.DBGUNL d.boot.unlocked).putB
    pgSEC SEC.SEC_STAT.ROOTOK o.rootOk
  let d := ((d.putB pgSEC SEC.SEC_STAT.INTEGSET o.integ.isSome).put pgSEC SEC.INTEGID.ID (o.integ.getD 0)).put pgSEC SEC.FWMIN.MIN o.fwMin
  let d := ((d.put pgSEC SEC.UID_LO.UID d.part.uid).put pgSEC SEC.UID_HI.UID (d.part.uid / 2 ^ 32)).put pgSEC SEC.NKEYSTAT.ROWS rows
  ((d.put pgSEC SEC.VER_STAT.FMARK0 (d.boot.mark % 2)).put pgSEC SEC.VER_STAT.FMARK1 (d.boot.mark / 2 % 2)).putB pgSVC SVC.SVC_MODE.DBGUNL d.boot.unlocked

/-! Reset of the core die. -/

/-- What the core die holds of a field die is reset; the die's own side stays. -/
def dieUnheld (y : DieX) : DieX := { y with lost := 0, lostRep := false, unrel := false, goodAt := none, fresh := false, downSeq := 0, coreExp := none }

/-- The core die in reset: registers, engines and memories at their reset values; the fuses, the keep-alive domain, the Platen
die, the field dies and the external memories keep theirs. `cause` is the bit of `SYS.RSTCAUSE` that names the source, where
one does; HALT is set after a halt (R382). -/
def coreReset (cause : Option Fld) (s : State) : State :=
  let o := s.dev
  let die := (o.die).map dieUnheld
  let diey := (o.diey).map fun y => { y with lkCmd := 0 }
  let d : Dev := { part := o.part, keep := o.keep, act := resetCells, stg := resetCells, otp := o.otp, px := o.px, py := o.py,
                   die := die, diey := diey, tap := o.tap, free := o.free, boot := { up := false },
                   tim := { mot := o.tim.mot } }
  let d := match cause with
    | some c => (d.putB pgSYS SYS.RSTCAUSE.POR false).putB pgSYS c true
    | none => d.putB pgSYS SYS.RSTCAUSE.POR false
  let d := if o.flt.halt then d.putB pgSYS SYS.RSTCAUSE.HALT true else d
  { pending := s.pending, dev := publishSec d, mem := [], xs0 := s.xs0, xs1 := s.xs1 }

/-- Power-up out of reset: device time starts from the keep-alive count, or from 0 where it was lost (R40, R574). -/
def powerUp (d : Dev) : Dev :=
  let lost := d.keep.lost
  let secs := if lost then 0 else d.keep.secs
  let tim := { d.tim with dtF := secs * 1000000000000000000, bk := false }
  let tap := { d.tap with porst := false, vio3 := true }
  let d := { d with tim := tim, tap := tap }.modBoot fun b => { b with up := true }
  let d := (d.put pgSYS SYS.DT_STAT.SRC (if lost then 0 else 1)).iff_ lost (Dev.putB pgSYS SYS.RSTCAUSE.KEEP true)
  { d with keep := { d.keep with lost := false } }

/-! Loss of PLL lock (R30). -/

/-- The derived clocks stop, and device safe halt with cause PLLLOSS follows. -/
def pllLoss (d : Dev) : Dev :=
  if d.tim.bk then d
  else
    let d := (d.raise pgCLK Cz.CLK.PLLLOSS 0xFF).putB pgCLK CLK.STAT.PLL_LOCK false
    { d with tim := { d.tim with bk := true } }.putB pgCLK CLK.STAT.BKACT true

/-! The start-up sequence (R546). Each step answers whether start-up goes on. -/

/-- Start-up ends in boot hold with the class C3 fault of the step that failed. -/
def bootHold (pg : Nat) (c : Cause) (inst : Nat) (s : State) : State × Bool :=
  (s.onDev fun d => (d.raise pg c inst).modBoot fun b => { b with hold := true }, false)

/-- Go on with a step where the one before passed; a sequence that ends keeps the number of its last step (R551). -/
def bootThen (phase : Nat) (f : State → State × Bool) (r : State × Bool) : State × Bool :=
  if r.2 then
    let at_ (s : State) : State := s.onDev (Dev.modBoot fun b => { b with phase := phase })
    let q := f (at_ (r.1.onDev (Dev.put pgCFG CFG.BOOT_STAT.PHASE phase)))
    (at_ q.1, q.2)
  else r

/-- Step 1: PLL lock, with the clocks monitored from then on (R29, R31). -/
def bootPll (e : PowerGoodEnv) (s : State) : State × Bool :=
  let s := s.onDev fun d => ((d.putB pgCLK CLK.STAT.XIN_OK true).putB pgCLK CLK.STAT.PLT_OK true).put pgCLK CLK.PLTFREQ.KHZ e.pltKhz.toNat
  if e.pll then (s.onDev (Dev.putB pgCLK CLK.STAT.PLL_LOCK true), true)
  else ((s.onDev pllLoss).onDev (Dev.modBoot fun b => { b with hold := true }), false)

/-- Step 2: the proof pass (R355, R356). Its duration is a free value (assumption log 4). -/
def bootProof (e : PowerGoodEnv) (s : State) : State × Bool :=
  let s := s.onDev fun d => ((d.putB pgIMD IMD.PPASS.DONE true).put pgIMD IMD.PPASS_T.PPT (d.fresh 104)).drew
  match proofFirst e.proofSeen with
  | some i =>
    bootHold pgIMD Cz.IMD.PPASS i (s.onDev fun d =>
      let d := d.put pgIMD IMD.PPASS.STEP (2 ^ i - 1)
      { d with imd := { d.imd with held := true }, svc := { d.svc with up0 := false, up1 := false } })
  | none =>
    (s.onDev fun d => publishLanes ((d.putB pgIMD IMD.PPASS.PASS true).put pgIMD IMD.PPASS.STEP 2047), true)

/-- The keys of the key block, as steps 3 and 4 read them. -/
def keysRead (s : State) : List IntegKey :=
  match coloFind s keyBase 0x10000 with
  | some c => Config.keyBlock (xs0L s keyBase c.len)
  | none => []

/-- Step 3: the header copies (R535, R546). In RETIRED the Neltan key store is erased and no image starts (R542). -/
def bootHeader (s : State) : State × Bool :=
  if s.dev.otp.lc = 3 then
    (s.onDev fun d => haltOrders (publishSec
      { d with otp := { d.otp with keys := [none, none, none, none] }, boot := { d.boot with hold := true }, flt := { d.flt with halt := true } }), false)
  else if hdrBlank s then (s.onDev (Dev.modBoot fun b => { b with factory := true }), true)
  else
    let s := s.onDev (Dev.modBoot fun b => { b with keys := keysRead s })
    match policyNow s with
    | some p => (s.onDev fun d => (policyUse p d).modBoot fun b => { b with sel := selNow s }, true)
    | none => bootHold pgSEC Cz.SEC.HDRBAD 0xFF s

/-- Step 4: the key block, and the binding to an integrator (R541). -/
def bootKeys (s : State) : State × Bool :=
  if s.dev.boot.factory then (s, true)
  else if (slotCheck s 5 0).1 ≠ 0 then bootHold pgSEC Cz.SEC.KEYBAD 0xFF (s.onDev (Dev.modBoot fun b => { b with keys := [] }))
  else
    let s := s.onDev fun d => publishSec (d.putB pgSEC SEC.SEC_STAT.KEYBLK true)
    match s.dev.otp.integ with
    | some i =>
      if s.dev.boot.keys.any fun k => k.integ != i then
        bootHold pgSEC Cz.SEC.LCBIND 0xFF (s.onDev fun d => publishSec (d.modBoot fun b => { b with keys := [] }))
      else (s, true)
    | none => (s, true)

/-- A trial selection begins a start-up, or has had its two tries and reverts (R557). -/
def bootTrial (s : State) : State :=
  let x := s.dev.boot.sel
  let other (b v : Nat) : Nat := if bit x.trial b then 1 - v else v
  if x.trial = 0 then s
  else if 2 ≤ x.tries then
    (selAppend (fun x => { x with fw := other 0 x.fw, frm := other 1 x.frm, imp := other 2 x.imp, trial := 0, tries := 0 }) s).onDev
      fun d => d.raise pgCFG Cz.CFG.TRIALREV 0xFF
  else selAppend (fun x => { x with tries := x.tries + 1 }) s

/-- The fallback bit of a kind: 0 firmware, 1 forme, 2 impression. -/
def setFallback (k : Nat) (d : Dev) : Dev := d.put pgCFG CFG.BOOT_STAT.FALLBACK (setBit (d.get pgCFG CFG.BOOT_STAT.FALLBACK) k true)

/-- Step 5: the selected firmware slot, or the other (R547). -/
def bootFirmware (s : State) : State × Bool :=
  if s.dev.boot.factory then (s, true)
  else
    let s := bootTrial s
    let slot := s.dev.boot.sel.fw % 2
    let a := slotCheck s 2 slot
    let b := slotCheck s 2 (1 - slot)
    let use (slot : Nat) (c : Option Colo) (s : State) : State :=
      s.onDev fun d => (d.modBoot fun x => { x with fwVer := (c.map (·.ver)).getD 0 }).put pgCFG CFG.BOOT_STAT.FWSLOT slot
    if a.1 = 0 then (use slot a.2 s, true)
    else if b.1 = 0 then
      let s := selAppend (fun x => { x with fw := 1 - slot, trial := setBit x.trial 0 false }) s
      let s := s.onDev fun d => (setFallback 0 d).raise pgSEC (if a.1 = 5 then Cz.SEC.ROLLBACK else Cz.SEC.FWBAD) 0xFF
      (use (1 - slot) b.2 s, true)
    else bootHold pgSEC Cz.SEC.FWNONE 0xFF s

/-- The impression of a slot. -/
def impAt (s : State) (slot : Nat) : ImpImg :=
  match (slotCheck s 4 slot).2 with
  | some c => Config.impression (xs0L s (impBase slot) c.len)
  | none => {}

/-- Step 6: the selected impression slot, or the other (R547). -/
def bootImpression (s : State) : State × Bool :=
  if s.dev.boot.factory then (s, true)
  else
    let slot := s.dev.boot.sel.imp % 2
    let use (slot : Nat) (s : State) : State :=
      s.onDev fun d => (d.modBoot fun x => { x with decl := some (impAt s slot) }).put pgCFG CFG.BOOT_STAT.IMPSLOT slot
    if (slotCheck s 4 slot).1 = 0 then (use slot s, true)
    else if (slotCheck s 4 (1 - slot)).1 = 0 then
      let s := selAppend (fun x => { x with imp := 1 - slot, trial := setBit x.trial 2 false }) s
      (use (1 - slot) (s.onDev fun d => (setFallback 2 d).raise pgSEC Cz.SEC.IMPBAD 0xFF), true)
    else bootHold pgSEC Cz.SEC.IMPNONE 0xFF s

/-- The impression that start-up loads. -/
def bootImp (d : Dev) : ImpImg := if d.boot.factory then { Config.factoryImp with num := 0, nibble := 0 } else d.boot.decl.getD {}

/-- The boot value of the seal switches goes to the SEAL page (R321). -/
def sealLoad (v nib : Nat) (d : Dev) : Dev :=
  let p := pgSEAL
  let d := (d.put p SEAL.RAW.RAW v).put p SEAL.BOOT.BOOT v
  let d := (((d.put p SEAL.PROFILE.PROFILE v).put p SEAL.PROFILE.VPOS (v / 16)).put p SEAL.PROFILE.ORIBASE (v / 256)).put p SEAL.PROFILE.ORIFIX (v / 512)
  let d := ((d.put p SEAL.PROFILE.TLSWAP (v / 1024)).put p SEAL.PROFILE.B11 (v / 2048)).put p SEAL.PROFILE.CHECK (v / 4096)
  ((d.put p SEAL.NIBBLE.NIB nib).putB p SEAL.STAT.SCANOK true).putB p SEAL.STAT.CHKOK (v / 4096 % 16 == nib && !bit v 11)

/-- The switches that fail the strobe check in one scan of start-up (R321). -/
def fourBad (r : SealFour) : Nat := scanBad r.both.toNat r.onlyA.toNat r.onlyB.toNat r.off.toNat

/-- Step 7: two scans that agree, and the seal nibble (R321, R322); with blank headers the conditions of the factory set
(R552). The boot value is valid once it is checked. -/
def bootSeal (e : PowerGoodEnv) (s : State) : State × Bool :=
  let v := e.scan1.both.toNat
  let bad := fourBad e.scan1 ||| fourBad e.scan2
  if bad ≠ 0 ∨ e.scan1.both ≠ e.scan2.both then
    let s := s.onDev fun d => ((d.put pgSEAL SEAL.STAT.BAD bad).putB pgSEAL SEAL.STAT.STRFLT (bad != 0)).ev pgSEAL Ev.SEAL.SEALFLT
    bootHold pgSEAL Cz.SEAL.SEALFLT 0xFF s
  else
    let nib := (bootImp s.dev).nibble % 16
    let s := s.onDev (sealLoad v nib)
    let fails (c : Cause) : State × Bool := bootHold pgSEAL c 0xFF (s.onDev (Dev.ev pgSEAL Ev.SEAL.CHKFAIL))
    let valid : State × Bool := (s.onDev (Dev.putB pgSEAL SEAL.PROFILE.VALID true), true)
    if s.dev.boot.factory then (if v % 16 = 0 ∧ v / 4096 = 0 ∧ !bit v 11 then valid else fails Cz.SEAL.SEALCHK)
    else if bit v 11 then fails Cz.SEAL.SEALRSV
    else if v / 4096 ≠ nib then fails Cz.SEAL.SEALCHK
    else valid

/-- A verified forme goes into a half of the forme store, which gets its mark (R548, R556). -/
def formeCopy (bytes : List Nat) (half : Nat) (slot : Option Nat) (s : State) : State :=
  let m := Memory.putL sramEmpty (Memory.erase (halfBase half) 0x200000 s.mem) (halfBase half) bytes
  { s with mem := m }.onDev fun d => publishSec (d.modBoot fun b =>
    { b with mark := setBit b.mark half true, halfSlot := modNth (fun _ => slot) b.halfSlot half })

/-- The bytes of the forme in a slot when it verifies and fits the image map in force (R548). -/
def formeFor (s : State) (slot : Nat) : Option (List Nat) :=
  match slotCheck s 3 slot with
  | (0, some c) =>
    let b := xs0L s (frmBase slot) c.len
    if (formeHdr (formeCopy b 0 none s) 0).mapHash = (bootImp s.dev).mapHash then some b else none
  | _ => none

/-- Step 8: the selected forme, or the other (R548). -/
def bootForme (s : State) : State × Bool :=
  if s.dev.boot.factory then (formeCopy Config.factoryForme 0 none s, true)
  else
    let slot := s.dev.boot.sel.frm % 2
    let use (slot : Nat) (b : List Nat) (s : State) : State :=
      (formeCopy b 0 (some slot) s).onDev (Dev.put pgCFG CFG.BOOT_STAT.FRMSLOT slot)
    match formeFor s slot, formeFor s (1 - slot) with
    | some b, _ => (use slot b s, true)
    | none, some b => (use (1 - slot) b (s.onDev fun d => (setFallback 1 d).raise pgSEC Cz.SEC.FRMBAD 0xFF), true)
    | none, none => bootHold pgSEC Cz.SEC.FRMNONE 0xFF s

/-- Step 9: the service firmware, and SPLIT (R360). -/
def bootService (s : State) : State × Bool :=
  (s.onDev fun d =>
    let d := { d with svc := { kick0 := d.tim.mot, kick1 := d.tim.mot } }
    (d.putB pgSVC SVC.SVC_MODE.SPLIT d.boot.split).putB pgCFG CFG.BOOT_STAT.TRIAL (d.boot.sel.trial != 0), true)

/-- The newest valid kerning record of a leaf: its address and KTVER (R538). -/
def kernFind (s : State) (n : Nat) : Option (Nat × Nat) :=
  (List.range 256).foldl (fun best i =>
    let a := kernAddr i
    if xs0W s a 4 = n ∧ !((xs0L s a 16).all (· == 0xFF)) ∧ crc32c (xs0L s a 4092) = xs0W s (a + 4092) 4 then
      let v := xs0W s (a + 4) 4
      match best with
      | some b => if b.2 < v then some (a, v) else best
      | none => some (a, v)
    else best) none

/-- The kerning records are loaded into the OBS windows (R538); the next record follows those written (R537). -/
def kernLoad (s : State) : State :=
  s.onDev fun d => (d.modRec fun r => { r with kernNext := kernStart s }).each d.leaves fun n d =>
    match kernFind s n with
    | none => d
    | some (a, v) =>
      let pg := pgOBS n
      let w (i k : Nat) : Nat := xs0W s (a + 16 + 4 * i + 2 * k) 2
      let d := d.each (List.range 256) fun i d =>
        let d := (d.put pg (OBS.KTO.FRIC.at i) (w i 0)).put pg (OBS.KTO.VAR.at i) (w i 1)
        let d := (d.put pg (OBS.KTC.FRIC.at i) (w (256 + i) 0)).put pg (OBS.KTC.VAR.at i) (w (256 + i) 1)
        (d.put pg (OBS.KTB.BASEO.at i) (w (512 + i) 0)).put pg (OBS.KTB.BASEC.at i) (w (512 + i) 1)
      let d := (d.put pg OBS.KTVER.VER v).put pg OBS.STROKE.STROKE (xs0W s (a + 8) 4)
      let d := d.modRec fun r => { r with savedVer := modNth (fun _ => some v) r.savedVer n }
      if d.get (pgPOS n) POS.POS_CFG.PSRC = 2 ∧ d.on (pgPOS n) POS.POS_CFG.SSIREFV then
        d.put2 (pgPOS n) POS.SSIREF.SSIREF (xs0W s (a + 12) 4)
      else d

/-- Step 10: the impression, the kerning records, and what the record engine finds (R502, R520, R538, R549). -/
def bootLoad (s : State) : State × Bool :=
  let i := bootImp s.dev
  let s := s.onDev fun d => if d.boot.factory then (loadFactory d).putB pgCFG CFG.BOOT_STAT.FACTORY true else loadImpression i d
  (recStart (kernLoad (s.onDev (Dev.modBoot fun b => { b with decl := none }))), true)

/-- The RESTART frame of start-up (R327). Model's choice: one that the Platen die discards, its sequence number not the next after the
core die's reset, is sent again (assumption log 84). -/
def restartPlaten (d : Dev) : Dev :=
  let d := pFrameRestart d
  if d.py.pSeq.isNone then pFrameRestart d else d

/-- Step 4 of the bring-up (R327): in TEST each bridge-disable line is released and asserted, each lock enable line and each coil
switched on and off, one at a time; a mirror that did not follow its coil is LOOPMIR in both channels. -/
def bringUp (mirBad : Nat) (d : Dev) : Dev :=
  let d := d.each (List.range 8) fun n d => pFrameTest 0 0 (pFrameTest 1 n d)
  let d := d.each (List.range 8) fun n d => pFrameTest 0 0 (pFrameTest 2 n d)
  d.each (List.range 4) fun r d =>
    let left := decide (r < 2)
    let d := if r % 2 = 0 then coilsA false false (coilsA left (!left) d) else pFrameTest 0 0 (pFrameTest 3 (r / 2) d)
    if bit mirBad r then
      pltWeigh { (relayFault r true d).fault pgSAFE Cz.SAFE.LOOPMIR r with px := { d.px with mirF := setBit d.px.mirF r true } }
    else d

/-- Step 11: the two-channel functions are brought up (R327). The Platen die takes RESTART, the record, the output tests and RUN; a
line that reads back wrong ends start-up. -/
def bootSafety (e : PowerGoodEnv) (s : State) : State × Bool :=
  let d := s.dev
  let p := nth d.boot.profiles (d.get pgSEAL SEAL.PROFILE.PROFILE) {}
  let r := recParse d p.record
  let s := s.onDev fun d =>
    let d := restartPlaten (loadSafePage r { d with sx := { d.sx with rec? := some r } })
    d.each (List.range 8) fun i d => pFrameConfig i ((p.record.drop (8 * i)).take 8) d
  if s.dev.px.st ≠ 2 ∨ !recFits s.dev r then bootHold pgSAFE Cz.SAFE.PCRBAD 0xFF s
  else
    let s := s.onDev fun d =>
      let d := { d with sx := { d.sx with si := procSi d, tli := procTli d, mir := procMir d }, sy := { d.sy with cfg8 := none } }
      bringUp e.mirBad.toNat d
    if e.lineBad ≠ 0 then bootHold pgSAFE Cz.SAFE.LINERB 0xFF s
    else (s.onDev pFrameRun, true)

/-- Every present page leaves reset under the configuration loaded; `old` is the device with none (R47, R546 step 12). -/
def pagesStart (s : State) : State :=
  let old := { s.dev with act := resetCells, stg := resetCells }
  allPages.foldl (fun s pg => match unitOf pg with
    | none => s
    | some u =>
      if !s.dev.part.has u then s
      else if fixedPage pg then s.onDev (Dev.setPg pg 2)
      else unitCommit u pg old s) s

/-- Step 12: the forme starts, then the motion engines are enabled (R401); pages run STARTING. -/
def bootStart (s : State) : State × Bool :=
  let s := pagesStart s
  if !formeOk s 0 true then bootHold pgFRM Cz.FRM.BADFORME 0xFF s
  else
    let f := formeHdr s 0
    let s := (fillRegion 0 0 s).onDev fun d =>
      { d with forme := { d.forme with st := 1, half := 0, region := 0, factory := bit f.flags 0 } }
    let s := publishHdr s
    (if f.entInit = 0xFFFF then s.onDev fun d => { d with tim := { d.tim with enabled := true } } else startTask .init f.entInit s, true)

/-- POWER_GOOD (R546): the start-up sequence up to the forme start; step 13 is READY. It acts once after each reset. -/
def powerGood (e : PowerGoodEnv) (s : State) : State :=
  if s.dev.boot.phase ≠ 0 then s
  else
    let s := s.onDev fun d => publishSec ((if d.boot.up then d else powerUp d).modBoot fun b => { b with pgMot := d.tim.mot })
    let r := bootThen 1 (bootPll e) (s, true)
    let r := bootThen 2 (bootProof e) r
    let r := bootThen 3 bootHeader r
    let r := bootThen 4 bootKeys r
    let r := bootThen 5 bootFirmware r
    let r := bootThen 6 bootImpression r
    let r := bootThen 7 (bootSeal e) r
    let r := bootThen 8 bootForme r
    let r := bootThen 9 bootService r
    let r := bootThen 10 bootLoad r
    let r := bootThen 11 (bootSafety e) r
    (bootThen 12 bootStart r).1

/-! Ready (R540, R550) and the start-up supervisor (R551). -/

/-- The lifecycle transition of the boot policy is burnt (R2, R540). -/
def lifeBurn (d : Dev) : Dev :=
  let t := d.boot.polTarget
  if t ≤ d.otp.lc ∨ 3 < t then d
  else if t = 2 ∧ d.part.gradeD then d.raise pgSEC Cz.SEC.LCREF 0xFF
  else
    let i := if d.otp.lc ≤ 1 ∧ d.otp.integ.isNone then some d.boot.polInteg else d.otp.integ
    publishSec (({ d with otp := { d.otp with lc := t, integ := i } }).ev pgSEC Ev.SEC.LCCHG)

/-- READY (R550): the first main task has ended and no enabled page is in STARTING. -/
def ready (d : Dev) : Dev :=
  let ended := (d.task .main).st == .ended || d.forme.everOut
  let still := allPages.any fun pg => d.enabled pg && d.pgState pg == 1
  if d.boot.phase = 12 ∧ !d.boot.ready ∧ !d.boot.hold ∧ !d.flt.halt ∧ ended ∧ !still then
    let ms := (d.tim.mot - d.boot.pgMot) / 250000
    let d := d.modBoot fun b => { b with ready := true, phase := 13 }
    let d := ((d.putB pgCFG CFG.BOOT_STAT.READY true).put pgCFG CFG.BOOT_STAT.PHASE 13).put pgCFG CFG.BOOT_T.READYT (min ms 65535)
    lifeBurn ({ d with imd := { d.imd with started := true, startAt := d.tim.mot } }.ev pgCFG Ev.CFG.READY)
  else d

/-- START_UP_SUPERVISOR (R551): 10 s after power-good with neither ready nor boot hold. -/
def supervisor (s : State) : State :=
  let d := s.dev
  if d.boot.phase = 0 ∨ d.boot.ready ∨ d.boot.hold ∨ d.tim.mot < d.boot.pgMot + msMot 10000 then s
  else
    let recent := d.keep.sups.filter fun t => d.keep.secs < t + 3600
    if 3 ≤ recent.length then (bootHold pgSEC Cz.SEC.BOOTTO 0xFF s).1
    else coreReset (some SYS.RSTCAUSE.WDOG) (s.onDev fun d => { d with keep := { d.keep with sups := (d.keep.secs :: recent).take 3 } })

/-- AUTOMATIC_RESET (R382): HALTDLY after the halt order, judged once, when it falls due; a reset withheld then is not made later. -/
def automaticReset (s : State) : State :=
  let d := s.dev
  let dly := d.get pgFLT FLT.FLT_CFG.HALTDLY
  let recent := d.keep.autos.filter fun t => d.keep.secs < t + 3600
  if d.boot.up ∧ d.flt.halt ∧ !d.flt.withheld ∧ dly ≠ 0 ∧ d.flt.haltMot + msMot (1000 * dly) ≤ d.tim.mot then
    if noAutoReset d.flt.haltCause ∨ 3 ≤ recent.length then s.onDev fun d => { d with flt := { d.flt with withheld := true } }
    else coreReset (some SYS.RSTCAUSE.HALT) (s.onDev fun d => { d with keep := { d.keep with autos := (d.keep.secs :: recent).take 3 } })
  else s

/-! Impression switch (R553 to R555). -/

/-- `CFG.ISTAT` from the switch in progress. -/
def publishIstat (d : Dev) : Dev :=
  let b := d.boot
  let mask := b.defer.foldl (fun m pg => setBit m (pg % 8) true) 0
  (d.put pgCFG CFG.ISTAT.STATE (if b.applying then 2 else if b.armed then 1 else 0)).put pgCFG CFG.ISTAT.DEFER mask

/-- The impression the Service pair has declared for the next switch: one that verified and carries the number. -/
def declared (d : Dev) : Option ImpImg :=
  match d.boot.decl with
  | some i => if i.num = d.get pgCFG CFG.IMP_NEXT.IMPNUM then some i else none
  | none => none

/-- CFG_CTRL_SWITCH (R553): arm, or refuse with a code. -/
def cfgSwitch (d : Dev) : Dev :=
  let code :=
    if d.boot.armed || d.boot.applying then 1
    else if d.get pgCFG CFG.IMP_NEXT.IMPNUM = d.get pgCFG CFG.IMPRESSION.IMPNUM then 2
    else if (match declared d with
      | some i => i.nibble % 16 != d.get pgSEAL SEAL.PROFILE.CHECK
      | none => false) then 3
    else if !d.boot.ready then 4
    else 0
  if code = 0 then publishIstat (d.modBoot fun b => { b with armed := true })
  else ((d.put pgCFG CFG.ISTAT.REFC code).ev pgCFG Ev.CFG.SWREF).raise pgCFG Cz.CFG.SWREF 0xFF

/-- The unit order of a switch (table "Unit order at an impression switch"). Model's choice: the pages that the table does not
name apply after its last row, in ascending number (assumption log 80). -/
def switchOrder : List Nat :=
  [pgFRM, pgFIO 0, pgFIO 1, pgLSW 0, pgLSW 1, pgLIMP] ++ (List.range 12).map pgPOS ++ [pgEMU] ++ (List.range 8).map pgLEAF ++
  (List.range 8).map pgOBS ++ (List.range 4).map pgSTEP ++ [pgCAN 0, pgCAN 1, pgCAN 2, pgIMPO, pgETH, pgTRDP, pgPTP, pgRING, pgREC] ++
  [pgSYS, pgCLK, pgFLT, pgIMD, pgSVC, pgCFG, pgSEC, pgSEAL, pgPLT, pgSAFE]

/-- The leaf whose rest a page waits for at a switch. -/
def restLeaf (pg : Nat) : Option Nat :=
  match unitOf pg with
  | some (.leaf n) => some n
  | some (.obs n) => some n
  | some (.pos n) => some n
  | _ => none

/-- A page applies at a switch, an OBS page with its profile fields (R187, R554). -/
def switchPage (pg : Nat) (s : State) : State :=
  let s := if profilePages.contains pg then s.onDev (loadProfile pg) else s
  if commitPoint s.dev pg = 2 then commitPage pg s else s

/-- No deferred page remains: IDLE, APPLIED, and the selector follows an impression image (R555, table "In-service changes"). -/
def switchDone (s : State) : State :=
  let d := s.dev
  if d.boot.applying && d.boot.defer.isEmpty then
    let s := if d.boot.swImg then selAppend (fun x => { x with imp := 1 - d.get pgCFG CFG.BOOT_STAT.IMPSLOT }) s else s
    s.onDev fun d =>
      let d := if d.boot.swImg then d.put pgCFG CFG.BOOT_STAT.IMPSLOT (1 - d.get pgCFG CFG.BOOT_STAT.IMPSLOT) else d
      publishIstat (d.modBoot fun b => { b with applying := false, swImg := false }) |>.ev pgCFG Ev.CFG.APPLIED
  else s

/-- The switch boundary (R554): number first, then the armed pages in unit order; a page of a leaf not at rest defers. -/
def impressionSwitch (s : State) : State :=
  if !s.dev.boot.armed then s
  else
    let img := declared s.dev
    let s := s.onDev fun d =>
      let d := d.put pgCFG CFG.IMPRESSION.IMPNUM (d.get pgCFG CFG.IMP_NEXT.IMPNUM)
      let d := (d.put pgCFG CFG.ISW_DT_LO.DT_LO d.dt).put pgCFG CFG.ISW_DT_HI.DT_HI (d.dt / 2 ^ 32)
      let d := match img with
        | some i =>
          let d := loadMaps i (d.modBoot fun b => { b with profiles := i.profiles })
          recordPending (parseRec (d.on pgSEAL SEAL.PROFILE.TLSWAP) (nth i.profiles (d.get pgSEAL SEAL.PROFILE.PROFILE) {}).record) d
        | none => d
      (d.modBoot fun b => { b with armed := false, applying := true, swImg := img.isSome, decl := none }).ev pgCFG Ev.CFG.SWITCHED
    let s := switchOrder.foldl (fun s pg =>
      let wanted := commitPoint s.dev pg == 2 && s.dev.on pg HDR.PEND || profilePages.contains pg && img.isSome
      match restLeaf pg with
      | some n =>
        if wanted && s.dev.part.hasLeaf n && !leafRest s.dev n then s.onDev (Dev.modBoot fun b => { b with defer := b.defer ++ [pg] })
        else switchPage pg s
      | none => switchPage pg s) s
    switchDone (s.onDev publishIstat)

/-- DEFERRED_PAGE_APPLY (R554, R555): the deferred pages of a leaf at rest. -/
def deferredApply (n : Nat) (s : State) : State :=
  let mine := s.dev.boot.defer.filter fun pg => restLeaf pg == some n
  if !mine.isEmpty && leafRest s.dev n then
    let s := mine.foldl (fun s pg => switchPage pg s) s
    switchDone (s.onDev fun d => publishIstat (d.modBoot fun b => { b with defer := b.defer.filter fun pg => restLeaf pg != some n }))
  else s

/-- After an online change the selector follows the slot that the running forme came from (table "In-service changes"). -/
def formeSelect (s : State) : State :=
  match nth s.dev.boot.halfSlot s.dev.forme.half none with
  | some k =>
    if k = s.dev.boot.sel.frm then s
    else (selAppend (fun x => { x with frm := k }) s).onDev (Dev.put pgCFG CFG.BOOT_STAT.FRMSLOT k)
  | none => s

/-! Requests through `CFG_CTRL` (R553, R557, R558). -/

/-- CANCEL: an armed switch or a reset request is withdrawn. -/
def cfgCancel (d : Dev) : Dev :=
  publishIstat ((d.modBoot fun b => { b with armed := false, rstPend := false, rstHost := false }).putB pgCFG CFG.BOOT_STAT.RSTPEND false)

/-- RSTREQ: a reset when quiet. -/
def cfgRstreq (host : Bool) (d : Dev) : Dev :=
  (d.modBoot fun b => { b with rstPend := true, rstHost := b.rstHost || host }).putB pgCFG CFG.BOOT_STAT.RSTPEND true

/-- CONFIRM after ready: a record with every trial bit cleared. -/
def cfgConfirm (s : State) : State :=
  if s.dev.boot.ready ∧ !s.dev.boot.factory then
    (selAppend (fun x => { x with trial := 0, tries := 0 }) s).onDev (Dev.putB pgCFG CFG.BOOT_STAT.TRIAL false)
  else s

/-- The conditions of a quiet reset (R558). -/
def quiet (d : Dev) : Bool :=
  let q := match d.sx.q with
    | some f => f.dec % 4 == 0
    | none => false
  zeroSpeed d && d.sx.dec % 4 == 0 && q &&
    (d.leaves.all fun n => let st := (d.seq n).st
      st == .closedLocked || st == .isolated || st == .unref || st == .fault) &&
    d.steps.all fun k => d.on (pgSTEP k) STEP.STP_STAT.RETR

/-- QUIET_RESET (R558). -/
def quietReset (s : State) : State :=
  if s.dev.boot.rstPend && s.dev.tim.grid && quiet s.dev then
    coreReset (if s.dev.boot.rstHost then some SYS.RSTCAUSE.HOST else none) s
  else s

/-! Verification, policies, keys (R531, R534, R536, R543 to R545, R556). -/

/-- VER_CTRL_GO (R556): the verification that `VER_CTRL` names begins. -/
def verGo (d : Dev) : Dev :=
  if d.boot.ver.isSome then d
  else
    let j : VerJob := { kind := d.get pgSEC SEC.VER_CTRL.KIND, slot := d.get pgSEC SEC.VER_CTRL.SLOT
                        copy := if d.on pgSEC SEC.VER_CTRL.COPY then some (d.get pgSEC SEC.VER_CTRL.HALF) else none }
    ((d.modBoot fun b => { b with ver := some j }).putB pgSEC SEC.VER_STAT.BUSY true).putB pgSEC SEC.VER_STAT.DONE false

/-- A verification reports (R536, R556). Model's choice: a policy that is installed while VER_CTRL's verification runs leaves that one
running (assumption log 90). -/
def verReport (r : Nat) (ver : Option Nat) (d : Dev) : Dev :=
  let d := ((d.put pgSEC SEC.VER_STAT.RESULT r).putB pgSEC SEC.VER_STAT.DONE true).putB pgSEC SEC.VER_STAT.BUSY d.boot.ver.isSome
  let d := match ver with
    | some v => d.put pgSEC SEC.VER_NUM.VERNUM v
    | none => d
  d.ev pgSEC Ev.SEC.VERDONE

/-- Whether a half of the forme store is in execution. -/
def halfRuns (d : Dev) (h : Nat) : Bool := d.forme.st != 0 && d.forme.half == h

/-- VERIFICATION_DONE (R556): the result; a forme is copied where asked; verified firmware in the inactive slot is selected on
trial, a verified impression there is declared for a switch. -/
def verificationDone (s : State) : State :=
  match s.dev.boot.ver with
  | none => s
  | some j =>
    let s := s.onDev (Dev.modBoot fun b => { b with ver := none })
    let c := slotCheck s j.kind j.slot
    let busyHalf := match j.copy with
      | some h => j.kind == 3 && halfRuns s.dev h
      | none => false
    let r := if c.1 == 0 && busyHalf then 7 else c.1
    let s := match r, j.kind, j.copy, c.2 with
      | 0, 3, some h, some k => formeCopy (xs0L s (frmBase j.slot) k.len) h (some j.slot) s
      | 0, 2, _, _ =>
        if j.slot ≠ s.dev.get pgCFG CFG.BOOT_STAT.FWSLOT ∧ !s.dev.boot.factory then
          selAppend (fun x => { x with fw := j.slot, trial := setBit x.trial 0 true, tries := 0 }) s
        else s
      | 0, 4, _, _ =>
        if j.slot ≠ s.dev.get pgCFG CFG.BOOT_STAT.IMPSLOT then s.onDev (Dev.modBoot fun b => { b with decl := some (impAt s j.slot) }) else s
      | _, _, _, _ => s
    s.onDev (verReport r (c.2.map (·.ver)))

/-- SEC_CTRL_POLINST (R536). -/
def policyInstall (s : State) : State :=
  let c := policyAt s integBase
  match c.2 with
  | none => s.onDev (verReport c.1 none)
  | some p =>
    let old := match s.dev.boot.polVer with
      | some v => decide (p.ver ≤ v)
      | none => false
    let other := match s.dev.otp.integ with
      | some i => i != p.integ
      | none => false
    if old then s.onDev (verReport 5 (some p.ver))
    else if other then s.onDev (verReport 8 (some p.ver))
    else (hdrRewrite 0 p (hdrRewrite 1 p s)).onDev fun d => verReport 0 (some p.ver) (policyUse p d)

/-- SEC_CTRL_ROLLFWD (R545): FWMIN rises to the rollback epoch of the running firmware, at most 32. -/
def rollForward (d : Dev) : Dev :=
  publishSec { d with otp := { d.otp with fwMin := max d.otp.fwMin (min 32 (d.boot.fwVer / 0x1000000)) } }

/-- SEC_CTRL_UNLOCK (R544): a debug ticket for this module under a PROD key. -/
def debugUnlock (s : State) : State :=
  match slotCheck s 6 0 with
  | (0, some c) =>
    let prod := s.dev.boot.keys.any fun k => k.slot == c.slot && k.prod
    if prod ∧ xs0W s ticketBase 8 = s.dev.part.uid then
      s.onDev fun d => publishSec (d.modBoot fun b => { b with unlocked := true }) |>.ev pgSEC Ev.SEC.UNLOCK
    else s
  | _ => s

/-- NKEYCTRL_WR by the host port (R543): the next unused row of the slot takes the key. -/
def keyEnrol (slot : Nat) (d : Dev) : Dev :=
  if (d.otp.lc = 1 ∨ d.otp.lc = 2) ∧ nth d.otp.rows slot 4 < 4 then
    let k := ofLe (d.boot.nkey.flatMap (leBytes 4))
    let o := { d.otp with rows := modNth (· + 1) d.otp.rows slot, keys := modNth (fun _ => some k) d.otp.keys slot }
    publishSec ({ d with otp := o }.modBoot fun b => { b with nkey := [0, 0, 0, 0] }) |>.ev pgSEC Ev.SEC.NKEY
  else d

/-- Whether two address ranges share a byte. -/
def overlap (a n b m : Nat) : Bool := decide (a < b + m) && decide (b < a + n)

/-- Whether the XS0 port refuses a management program or erase of `n` bytes at `a` (R531). -/
def xsRefuses (s : State) (a n : Nat) : Bool :=
  let b := s.dev.boot
  let out := b.phase != 0 && !b.hold
  let fixed := [(keyBase, 0x10000), (ticketBase, 0x10000)]
  let slots := if b.factory then [] else
    [imgRegion 2 (s.dev.get pgCFG CFG.BOOT_STAT.FWSLOT), imgRegion 3 (s.dev.get pgCFG CFG.BOOT_STAT.FRMSLOT),
      imgRegion 4 (s.dev.get pgCFG CFG.BOOT_STAT.IMPSLOT)]
  let hdr := overlap a n 0 0x20000 && (policyNow s).isSome
  (out && (fixed ++ slots).any fun r => overlap a n r.1 r.2) || hdr

/-- SETTINGS_WRITE (R531): a program, or the erase of the sector that holds the address, by a management source; in boot hold the
loader serves the host port alone (R546), in RETIRED the host port only reads (R542). -/
def settingsWrite (src : Src) (a : Nat) (erase : Bool) (data : List Nat) (s : State) : State :=
  let mgmt := src == .svc0 || src == .svc1 || src == .host || src == .neltan || src == .debug
  let base := if erase then a / 65536 * 65536 else a
  let n := if erase then 65536 else data.length
  if !mgmt || s.dev.otp.lc == 3 || (s.dev.boot.hold && src != .host) then s
  else if xsRefuses s base n then s.onDev (Dev.ev pgSEC Ev.SEC.XSREF)
  else { s with xs0 := if erase then Memory.erase base n s.xs0 else Memory.program s.xs0 a data }

/-- FW_CODE_PAGE_FETCH (R534): a 4 KB code page of the active firmware slot, closed by its CRC-32C. -/
def codeFetch (page : Nat) (s : State) : State :=
  if s.dev.boot.factory ∨ s.dev.boot.phase < 5 ∨ s.dev.boot.hold ∨ 2048 ≤ page then s
  else
    let a := fwBase (s.dev.get pgCFG CFG.BOOT_STAT.FWSLOT) + 4096 * page
    if crc32c (xs0L s a 4092) = xs0W s (a + 4092) 4 then s else s.onDev fun d => d.raise pgSEC Cz.SEC.FWFETCH 0xFF

/-! The commands that are not register writes. -/

/-- POWER_GOOD. -/
def execPowerGood (e : PowerGoodEnv) (s : State) : Host.Outcome State Fault Refusal := doState (powerGood e) s

/-- READY. -/
def execReady (s : State) : Host.Outcome State Fault Refusal := doDev (Dev.live ready) s

/-- START_UP_SUPERVISOR. -/
def execStartUpSupervisor (s : State) : Host.Outcome State Fault Refusal := doState supervisor s

/-- AUTOMATIC_RESET. -/
def execAutomaticReset (s : State) : Host.Outcome State Fault Refusal := doState automaticReset s

/-- PLL_LOSS. -/
def execPllLoss (s : State) : Host.Outcome State Fault Refusal := doDev (Dev.live pllLoss) s

/-- DEFERRED_PAGE_APPLY, at a servo boundary (R554). -/
def execDeferredPageApply (leaf : LeafNo) (s : State) : Host.Outcome State Fault Refusal := doState (State.live fun s => if s.dev.tim.servoDue then deferredApply leaf.val s else s) s

/-- QUIET_RESET, at a program-cycle boundary (R558). -/
def execQuietReset (s : State) : Host.Outcome State Fault Refusal := doState (State.live fun s => if s.dev.tim.cycleDue then quietReset s else s) s

/-- VERIFICATION_DONE. -/
def execVerificationDone (s : State) : Host.Outcome State Fault Refusal := doState (State.live verificationDone) s

/-- SETTINGS_WRITE. -/
def execSettingsWrite (src : Src) (addr : W32) (erase : Bool) (data : List Byte) (s : State) : Host.Outcome State Fault Refusal :=
  doState (State.live (settingsWrite src addr.toNat erase (data.map BitVec.toNat))) s

/-- FW_CODE_PAGE_FETCH. -/
def execFwCodePageFetch (page : W32) (s : State) : Host.Outcome State Fault Refusal := doState (State.live (codeFetch page.toNat)) s

end Sys2Proof.Machine
end

