-- ==== Sys2Proof/Machine/Lands.lean ====
section
/-! DEFINITION. Supplies, reset lands, the keep-alive domain, clock monitors, the scrubber, the indication lands and the test
access port (R31, R32, R40 to R43, R341, R510, R570, R571, R574, R586, R587). -/

namespace Sys2Proof.Machine

/-! Reset lands and supplies. -/

/-- PORST_N held low for 10 µs: a power-on reset (R571). -/
def porstN (s : State) : State :=
  (coreReset (some SYS.RSTCAUSE.POR) s).onDev fun d => { d with tap := { d.tap with porst := true } }

/-- A supply monitored under R570 stays low: VDD_CORE, VDD_AUX, VIO2, VIO3, VIO4 by number. -/
def supplyLoss (which : Nat) (s : State) : State :=
  (coreReset (some SYS.RSTCAUSE.POR) s).onDev fun d => { d with tap := { d.tap with vio3 := d.tap.vio3 && which != 3 } }

/-- VIO1 below V_IORST (R570). -/
def vio1Loss (d : Dev) : Dev :=
  if d.part.hasNet then
    let d := ethLinkSet 2 0 (ethLinkSet 1 0 d)
    { d with net := { d.net with eth := { d.net.eth with vio1 := false } } }
  else d

/-- Both supplies of the keep-alive domain are lost (R574). -/
def keepLoss (d : Dev) : Dev := { d with keep := { lost := true } }

/-- A second of the keep-alive counter (R40). -/
def keepSecond (d : Dev) : Dev := { d with keep := { d.keep with secs := d.keep.secs + 1 } }

/-- Level of the land READY (R587). -/
def Dev.readyLand (d : Dev) : Bool := d.boot.up && d.on pgCFG CFG.BOOT_STAT.READY && !d.flt.halt

/-- Whether the land FAULT_N is driven low (R587). -/
def Dev.faultLow (d : Dev) : Bool := d.tap.vio3 && (!d.boot.up || d.boot.hold || d.flt.halt)

/-! Clock monitors. -/

/-- The measured PLTCLK frequency, outside f_PLTMON in two consecutive windows (R31). -/
def pltclk (khz : Nat) (d : Dev) : Dev :=
  let d := d.put pgCLK CLK.PLTFREQ.KHZ khz
  if 14400 ≤ khz ∧ khz ≤ 17600 then d
  else ((d.putB pgCLK CLK.STAT.PLT_OK false).ev pgCLK Ev.CLK.PLTRANGE).raise pgCLK Cz.CLK.PLTCLK 0xFF

/-- The Platen die loses the core reference (R32): everything safe, diagnosis bit REFLOSS. -/
def coreReferenceLoss (d : Dev) : Dev := pltSafe 32 d

/-! Memory errors (R41 to R43). -/

/-- An entry of a class for which the manual names no page, instance or cause: those are free values (assumption log 28). -/
def eccEntry (cls : Nat) (d : Dev) : Dev :=
  (d.report cls (d.fresh 105 % 256) (d.fresh 106 % 256) (d.fresh 107 % 4096)).drew

/-- A number that names a word of a memory. -/
def eccKey (h : EccHit) : Nat :=
  let site := match h.site with
    | .forme => 0 | .galley => 1 | .record => 2 | .packet => 3 | .service => 4 | .bootRom => 5
    | .kerning n => 16 + n.val
    | .coeff a => 32 + a.val
    | .lane n => 48 + n.val
    | .svcCore n => 52 + n.val
  site * 2 ^ 32 + h.word.toNat

/-- A corrected single-bit error: class C0, and class C1 at the third correction of the word within an hour (R43); a
core-local one counts in `CORE_ECC` (R341). Model's choice beside R43: the count of three starts afresh after the C1 entry
(assumption log 68). -/
def eccSingle (h : EccHit) (d : Dev) : Dev :=
  let k := eccKey h
  let d := eccEntry 0 d
  let d := match h.site with
    | .lane n =>
      (d.incSat pgIMD (if n.val = 0 then IMD.CORE_ECC.ECC0 else if n.val = 1 then IMD.CORE_ECC.ECC1 else IMD.CORE_ECC.ECC2)).ev pgIMD Ev.IMD.ECCCOR
    | _ => d
  let recent := d.tim.eccHist.filter fun e => decide (d.tim.mot < e.2 + msMot 3600000)
  let n : Nat := (recent.filter fun e => e.1 == k).length + 1
  if 3 ≤ n then eccEntry 1 { d with tim := { d.tim with eccHist := recent.filter fun e => e.1 != k } }
  else { d with tim := { d.tim with eccHist := (k, d.tim.mot) :: recent } }

/-- Entry `j` places behind the consumer of ring `k` is discarded; the entries after it move up. -/
def ringDiscard (k j : Nat) (s : State) : State :=
  let n := max 1 (ringEntries s.dev k)
  let c := ringCons s k
  let used := (ringProd s k + n - c) % n
  if used ≤ j then s
  else
    let m := (List.range (used - 1 - j)).foldl (fun m i =>
      Memory.copy sramEmpty (ringEntry s.dev k ((c + j + i + 1) % n)) (ringEntry s.dev k ((c + j + i) % n)) (ringSize s.dev k) m) s.mem
    { s with mem := m }.poke (ringBase s.dev k) 4 ((c + used - 1) % n)

/-- The frame whose entry holds a word of the packet buffer is discarded (R41). -/
def packetDiscard (a : Nat) (s : State) : State :=
  (List.range 32).foldl (fun s k =>
    if !ringActive s.dev k then s
    else
      let n := max 1 (ringEntries s.dev k)
      let c := ringCons s k
      match (List.range n).find? fun j => decide (ringEntry s.dev k ((c + j) % n) ≤ a) &&
          decide (a < ringEntry s.dev k ((c + j) % n) + ringSize s.dev k) with
      | some j => ringDiscard k j s
      | none => s) s

/-- An uncorrectable error: the class and the effect of the memory (R41, R193, R340, R358, R510, table "Core-die address
map"). -/
def eccDouble (h : EccHit) (s : State) : State :=
  let w := h.word.toNat
  match h.site with
  | .bootRom => s.onDev (eccEntry 3)
  | .forme => s.onDev (eccEntry 3)
  | .galley => s.onDev (eccEntry 3)
  | .record => s.onDev fun d =>
      let kept := d.rec_.queue.filter fun q => !(decide (slugPlace q.slot ≤ w) && decide (w < slugPlace q.slot + 64))
      recPublish ((d.modRec fun r => { r with queue := kept }).raise pgREC Cz.REC.RBECC 0xFF)
  | .packet => (packetDiscard w s).onDev (eccEntry 0)
  | .service => s.onDev fun d => servicePairFault .memory (if splitMode d && decide (0x30200000 ≤ w) then 1 else 0) d
  | .kerning n => s.onDev (ktEcc n.val)
  | .coeff a => s.onDev (coefEcc a.val)
  | .lane n => s.onDev (laneFault n.val Cz.IMD.LANEECC)
  | .svcCore n => s.onDev (servicePairFault .ecc n.val)

/-- One finding: a single-bit error is corrected, a double-bit error reported. -/
def eccMeet (h : EccHit) (s : State) : State := if h.double then eccDouble h s else s.onDev (eccSingle h)

/-- One pass of the scrubber: it reads every word, so it meets every upset that State holds and those that the pass brings
(R42). -/
def scrub (hits : List EccHit) (s : State) : State :=
  let l := s.dev.tim.upsets ++ hits
  l.foldl (fun s h => eccMeet h s) (s.onDev fun d => { d with tim := { d.tim with upsets := [] } })

/-- The memory of the core die that holds an address, as a place of errors. -/
def eccSiteAt (a : Nat) : Option EccSite :=
  if a < 0x10000 then some .bootRom else if 0x10000000 ≤ a ∧ a < 0x10400000 then some .forme
  else if 0x20000000 ≤ a ∧ a < 0x20200000 then some .galley else if 0x24000000 ≤ a ∧ a < 0x24080000 then some .record
  else if 0x28000000 ≤ a ∧ a < 0x28100000 then some .packet else if 0x30000000 ≤ a ∧ a < 0x30400000 then some .service else none

/-- Whether an upset lies in a 64-bit word that `n` bytes at `a` touch (R42). -/
def eccTouches (a n : Nat) (h : EccHit) : Bool :=
  eccSiteAt a == some h.site && decide (a / 8 ≤ h.word.toNat / 8) && decide (h.word.toNat / 8 ≤ (a + n - 1) / 8)

/-- An access to `n` bytes meets the upsets of the words it touches: a single-bit error is corrected and the corrected word
written back, a double-bit error is reported (R42, R43). -/
def eccAccess (a n : Nat) (s : State) : State :=
  let l := s.dev.tim.upsets.filter (eccTouches a n)
  let s := s.onDev fun d => { d with tim := { d.tim with upsets := d.tim.upsets.filter fun h => !eccTouches a n h } }
  l.foldl (fun s h => eccMeet h s) s

/-! The test access port (R586). -/

/-- `IDCODE` of the part. -/
def Dev.idcode (d : Dev) : Nat := d.part.silrev / 16 % 16 * 2 ^ 28 + 0x08D0 * 2 ^ 12 + 0x5A7 * 2 + 1

/-- An instruction is loaded; EXTEST, CLAMP and HIGHZ only in reset by PORST_N in BLANK or DEVELOP, else BYPASS in their place. -/
def tapLoad (ir : Nat) (d : Dev) : Dev :=
  let i := if 3 ≤ ir ∧ !(d.tap.porst && decide (d.otp.lc ≤ 1)) then 0 else ir
  { d with tap := { d.tap with ir := i, dr := if i = 1 then d.idcode else 0 } }

/-- SAMPLE/PRELOAD loads the boundary cells. -/
def tapPreload (cells : List Nat) (d : Dev) : Dev :=
  let d := tapLoad 2 d
  { d with tap := { d.tap with cells := cells } }

/-! The commands. -/

/-- PORST_N. -/
def execPorstN (s : State) : Host.Outcome State Fault Refusal := doState porstN s

/-- SUPPLY_LOSS. -/
def execSupplyLoss (which : Fin 5) (s : State) : Host.Outcome State Fault Refusal := doState (supplyLoss which.val) s

/-- VIO1_LOSS. -/
def execVio1Loss (s : State) : Host.Outcome State Fault Refusal := doDev vio1Loss s

/-- KEEP_ALIVE_LOSS. -/
def execKeepAliveLoss (s : State) : Host.Outcome State Fault Refusal := doDev keepLoss s

/-- KEEP_ALIVE_SECOND. -/
def execKeepAliveSecond (s : State) : Host.Outcome State Fault Refusal := doDev keepSecond s

/-- PLTCLK_OUT_OF_WINDOW: the clock monitors also run from BKCLK (R30, R31). -/
def execPltclkOutOfWindow (khz : W16) (s : State) : Host.Outcome State Fault Refusal :=
  doDev (fun d => if d.boot.up then pltclk khz.toNat d else d) s

/-- CORE_REFERENCE_LOSS. -/
def execCoreReferenceLoss (s : State) : Host.Outcome State Fault Refusal := doDev coreReferenceLoss s

/-- SCRUB. -/
def execScrub (hits : List EccHit) (s : State) : Host.Outcome State Fault Refusal := doState (State.live (scrub hits)) s

/-- TAP_BYPASS. -/
def execTapBypass (s : State) : Host.Outcome State Fault Refusal := doDev (tapLoad 0) s

/-- TAP_IDCODE. -/
def execTapIdcode (s : State) : Host.Outcome State Fault Refusal := doDev (tapLoad 1) s

/-- TAP_SAMPLE_PRELOAD. -/
def execTapSamplePreload (cells : List Byte) (s : State) : Host.Outcome State Fault Refusal := doDev (tapPreload (cells.map BitVec.toNat)) s

/-- TAP_EXTEST. -/
def execTapExtest (s : State) : Host.Outcome State Fault Refusal := doDev (tapLoad 3) s

/-- TAP_CLAMP. -/
def execTapClamp (s : State) : Host.Outcome State Fault Refusal := doDev (tapLoad 4) s

/-- TAP_HIGHZ. -/
def execTapHighz (s : State) : Host.Outcome State Fault Refusal := doDev (tapLoad 5) s

end Sys2Proof.Machine
end

