-- ==== Sys2Proof/Machine/Reads.lean ====
section
/-! DEFINITION. What the units read from the memories as they work: the upsets that those reads meet are corrected or reported first
(R42). -/

namespace Sys2Proof.Machine

/-- A unit acts after the reads of byte ranges that its work takes. -/
def reading (at_ : State → List (Nat × Nat)) (f : State → State) (s : State) : State :=
  f ((at_ s).foldl (fun s x => eccAccess x.1 x.2 s) s)

/-! The forme. -/

/-- The code words of the op that the executing task takes. -/
def codeReads (words : Nat) (s : State) : List (Nat × Nat) :=
  match s.dev.current with
  | some t => [(halfBase (taskHalf s.dev t) + 4 * (s.dev.task t).pc, 4 * words)]
  | none => []

/-- An op with its code words read. -/
def opReads (words : Nat) (f : State → State) : State → State := reading (codeReads words) f

/-- An op on `n` elements of a type from an instance offset on, with its code words and the instance data read; a store reads the
64-bit words it changes a part of. -/
def opInst (words ofs n ty : Nat) (f : State → State) : State → State :=
  reading (fun s => codeReads words s ++ (match s.dev.current with
    | some t => (match instAddr s t ofs (n * tySize ty) with
      | some a => [(a, n * tySize ty)]
      | none => [])
    | none => [])) f

/-- An op on an image item, with its code word and the item read. -/
def opItem (bank : Dev → Nat) (ofs ty : Nat) (f : State → State) : State → State :=
  reading (fun s => codeReads 1 s ++ [(bank s.dev + ofs, tySize ty)]) f

/-! The data plane. -/

/-- The output items of the telegrams that are due. -/
def teleReads (s : State) : List (Nat × Nat) :=
  (s.dev.net.trdp.pubs.filter fun x => x.due).map fun x => (committedBank s.dev + x.d.iofs, x.d.dlen)

/-- The engine's work with no command waiting: it goes on with the telegrams that could not start (R483). -/
def teleWork (s : State) : State := if s.dev.net.trdp.run then reading teleReads teleGo s else s

/-- The header and the next entry of a ring. -/
def ringReads (k : Nat) (s : State) : List (Nat × Nat) :=
  (ringBase s.dev k, 16) :: (match ringNext s k with
    | some a => [(a - 4, ringSize s.dev k)]
    | none => [])

/-- What a CAN controller reads to start a frame: the items of its pending objects and its transmit ring. -/
def canReads (c : Nat) (s : State) : List (Nat × Nat) :=
  ((s.dev.cn c).objs.filter fun o => o.tx && bit (s.dev.cn c).pend o.num).map (fun o => (committedBank s.dev + o.iofs, canBytes o.fdf o.dlc)) ++
    (match canTxRing s.dev c with
      | some k => ringReads k s
      | none => [])

/-- The slugs that the record engine writes next. -/
def slugReads (s : State) : List (Nat × Nat) :=
  if (nextOp s.dev) = some (.slugPage (slugPageSize s.dev)) then
    (s.dev.rec_.queue.take (slugPageSize s.dev)).map fun q => (slugPlace q.slot, 64)
  else []

/-! The axes. -/

/-- Whether the work of a servo period reads the word of an upset: the coefficients of an axis whose bridge works, and the kerning bin
of each direction in which an observed leaf stands. -/
def servoReads (d : Dev) (h : EccHit) : Bool :=
  match h.site with
  | .coeff a => d.hasAxis a.val && d.pgState (pgDRV a.val) == 2 && (d.drv a.val).mode != mOFF
  | .kerning n =>
    let b := binOf (d.get (pgOBS n.val) OBS.STROKE.STROKE) (d.fbk n.val).p
    d.part.hasLeaf n.val && (d.drv n.val).mode == mSERVO && !obsBlind d n.val &&
      (h.word.toNat / 8 == 4 * b / 8 || h.word.toNat / 8 == (1024 + 4 * b) / 8)
  | _ => false

/-- The upsets that a servo period's work meets. -/
def servoUpsets (s : State) : State :=
  let l := s.dev.tim.upsets.filter (servoReads s.dev)
  let s := s.onDev fun d => { d with tim := { d.tim with upsets := d.tim.upsets.filter fun h => !l.contains h } }
  l.foldl (fun s h => eccMeet h s) s

/-! The commands. -/

/-- TELEGRAM_PUBLISH. -/
def execTelegramPublish (s : State) : Host.Outcome State Fault Refusal := doState (State.live (reading teleReads telePublish)) s

/-- RING_INDEX_ADVANCE. -/
def execRingIndexAdvance (ring : Fin 32) (producer : Bool) (item : List Byte) (s : State) : Host.Outcome State Fault Refusal :=
  doState (State.live (reading (ringReads ring.val) fun s => ringService (ringAdvance ring.val producer (item.map BitVec.toNat) s))) s

/-- CAN_TX_COMPLETE. -/
def execCanTxComplete (ctl : Fin 3) (e : CanEnd) (s : State) : Host.Outcome State Fault Refusal :=
  doState (State.live (reading (canReads ctl.val) (canTxComplete ctl.val e))) s

/-- SLUG_PAGE_WRITE. -/
def execSlugPageWrite (vhold : W16) (s : State) : Host.Outcome State Fault Refusal :=
  doState (State.live (reading slugReads (slugPageWrite vhold.toNat))) s

/-- SLOT_START. -/
def execSlotStart (slot : Fin 32) (s : State) : Host.Outcome State Fault Refusal :=
  doState (State.live (reading (canReads 0) (slotStart slot.val))) s

end Sys2Proof.Machine
end

