-- ==== Sys2Proof/Machine/View.lean ====
section
/-! DEFINITION. What a read of a register returns (R6, R7, R10 to R12, R39, R44 to R47, R51, R386 and the status registers that
repeat a unit's state). -/

namespace Sys2Proof.Machine

/-! Fields that a page does not have. -/

/-- Fields that read 0 on a page although its unit's table lists them, and whose writes are ignored: LIG and SYNC of odd leaves
(R154), the VFLD and SI fields of FIOB (R446), LIG of odd load switches (R435), the SVC fields outside SPLIT (R369), DTRATE in
variants with the network (R362), PDOEN outside CAN1 (table "CAN*n* registers"). -/
def fieldGone (d : Dev) (u : Unit_) (f : Fld) : Bool :=
  match u with
  | .leaf n => n % 2 == 1 && (f.off == LEAF.LIG.LEN.off || f.off == LEAF.SYNC.SYNCN.off || f.off == LEAF.LIG_ERR.ERR.off)
  | .fio x => x == 1 && (f.off == FIO.VFLDCFG.VWARN.off || f.off == FIO.VFLD_STAT.WARN.off ||
      (decide (FIO.SDEB.HI.off + 16 ≤ f.off) && decide (f.off < FIO.SDEB.HI.off + 32)))
  | .lsw _ => f.lo == LSW.LS_CFG.LIG.lo && f.w == 1 && decide (f.off < LSW.LS_CFG.LIG.off + 24) && f.off / 4 % 2 == 1
  | .svc => !splitMode d && ((f.off == SVC.SVC_WDOG.EN1.off && f.lo == SVC.SVC_WDOG.EN1.lo) || f.off == SVC.IRQROUTE.DEV.off) ||
      (d.part.hasNet && f.off == SVC.DTRATE.PPB.off)
  | .can c => c != 1 && f.off == CAN.CTRL.PDOEN.off && f.lo == CAN.CTRL.PDOEN.lo
  | _ => false

/-- Bits of a stored value that read 0 on a page: bits 31:24 of the inputs of FIOB (R446), the cells of slot 0 (R465). -/
def fieldCut (u : Unit_) (f : Fld) (v : Nat) : Nat :=
  match u with
  | .fio x => if x = 1 ∧ (f.off = FIO.IN_NOW.IN.off ∨ f.off = FIO.IN_FRZ.IN.off ∨ f.off = FIO.IN_RAW.IN.off) then v % 2 ^ 24 else v
  | .impo => if 0x800 ≤ f.off ∧ f.off % 32 = 0 then v / 256 * 256 else v
  | _ => v

/-- The 32-bit word at an offset from the stored fields: staged values of shadowed fields, 0 for write-only fields (R12). -/
def storedWord (d : Dev) (pg : Nat) (u : Unit_) (off : Nat) : Nat :=
  ((unitFields u).filter fun f => f.off == off && f.acc != .wo && !fieldGone d u f).foldl
    (fun w f => w + fieldCut u f (if f.acc == .rwp then d.sget pg f else d.get pg f) % 2 ^ f.w * 2 ^ f.lo) 0

/-! Events onward (R51). -/

/-- Whether a page has a latched and enabled event. -/
def evPending (d : Dev) (pg : Nat) : Bool := (d.get pg HDR.EV_EN &&& d.get pg HDR.EV_STAT) != 0

/-- The pages with a latched and enabled event, ascending. -/
def evPages (d : Dev) : List Nat := allPages.filter fun pg => evPending d pg

/-- Whether an interrupt to the runtime stands: a latched and enabled event of a control-plane or device-wide page (R51). -/
def irqRuntime (d : Dev) : Bool := (evPages d).any fun pg =>
  match unitOf pg with
  | some u => u.plane == .control || u.plane == .device
  | none => false

/-- The Service core that an event page interrupts: S0, or in SPLIT the core that `SVC.IRQROUTE` names for the class of the
page (R51, R360). -/
def irqCore (d : Dev) (u : Unit_) : Nat :=
  if !splitMode d then 0
  else match u.plane with
    | .data => d.get pgSVC SVC.IRQROUTE.DATA
    | .mgmt => d.get pgSVC SVC.IRQROUTE.MGMT
    | _ => d.get pgSVC SVC.IRQROUTE.DEV

/-- Whether an interrupt to a Service core stands: a latched and enabled event of a management-plane, data-plane or device-wide
page (R51). -/
def irqService (d : Dev) (core : Nat) : Bool := (evPages d).any fun pg =>
  match unitOf pg with
  | some u => (u.plane == .mgmt || u.plane == .data || u.plane == .device) && irqCore d u == core
  | none => false

/-- `SYS.EVSUM`. -/
def evSum (d : Dev) : Nat :=
  match evPages d with
  | [] => 0
  | p :: l => 2 ^ 31 + min 255 (l.length + 1) * 65536 + p

/-- `SYS.EVMAPk`. -/
def evMap (d : Dev) (k : Nat) : Nat := (evPages d).foldl (fun m p => if p / 32 = k then setBit m (p % 32) true else m) 0

/-- The bits of `EV_RAW` whose source is a condition that stands in State; a source that is a moment reads 0
(assumption log 29). -/
def evRaw (d : Dev) (pg : Nat) (u : Unit_) : Nat :=
  let m (l : List (Nat × Bool)) : Nat := l.foldl (fun w e => setBit w e.1 e.2) 0
  match u with
  | .clk => m [(Ev.CLK.PLTRANGE, !d.on pg CLK.STAT.PLT_OK), (Ev.CLK.REFLOSS, !d.on pg CLK.STAT.REF_OK)]
  | .flt => m [(Ev.FLT.HALT, d.flt.halt)]
  | .imd => m [(Ev.IMD.DBGHALT, d.imd.halted), (Ev.IMD.DUPLEX, d.get pg IMD.LANE_STAT.MODE == 2)]
  | .svc => m [(Ev.SVC.DBGHALT, d.svc.halted)]
  | .leaf n =>
      let c := (d.drv n).cond
      m [(Ev.LEAF.OCLATCH, bit (d.drv n).latch Cz.LEAF.OCLATCH.code), (Ev.LEAF.BSTUV, bit c Cz.LEAF.BSTUV.code),
        (Ev.LEAF.VGDUV, bit c Cz.LEAF.VGDUV.code), (Ev.LEAF.VBRUV, bit c Cz.LEAF.VBRUV.code),
        (Ev.LEAF.VBROV, bit c Cz.LEAF.VBROV.code), (Ev.LEAF.REGEN, (d.drv n).regen),
        (Ev.LEAF.PLTDIS, d.on pg LEAF.DRV_STAT.PLTDIS), (Ev.LEAF.LIMO, (d.prf n).limO), (Ev.LEAF.LIMC, (d.prf n).limC)]
  | .step k =>
      let c := (d.drv (8 + k)).cond
      m [(Ev.LEAF.OCLATCH, bit (d.drv (8 + k)).latch Cz.LEAF.OCLATCH.code), (Ev.LEAF.BSTUV, bit c Cz.LEAF.BSTUV.code),
        (Ev.LEAF.VGDUV, bit c Cz.LEAF.VGDUV.code), (Ev.LEAF.VBRUV, bit c Cz.LEAF.VBRUV.code),
        (Ev.LEAF.VBROV, bit c Cz.LEAF.VBROV.code)]
  | .obs _ => m [(Ev.OBS.EDGE, d.get pg OBS.OBS_STAT.EDGEACT != 0), (Ev.OBS.DEGR, d.on pg OBS.OBS_STAT.DEG),
      (Ev.OBS.TSTALE, d.on pg OBS.OBS_STAT.TSTALE)]
  | .pos _ => m [(Ev.POS.DEGR, d.on pg POS.POS_STAT.DEG), (Ev.POS.INVAL, !d.on pg POS.POS_STAT.VALID)]
  | .posk _ => m [(Ev.POS.DEGR, d.on pg POS.POS_STAT.DEG), (Ev.POS.INVAL, !d.on pg POS.POS_STAT.VALID)]
  | .can c => m [(Ev.CAN.EPASS, (d.cn c).st == 3), (Ev.CAN.BUSOFF, (d.cn c).st == 4), (Ev.CAN.PXE, d.on pg CAN.PSR.PXE)]
  | .ptp => m [(Ev.PTP.LOCK, d.get pg PTP.PTP_STAT.STATE == 3), (Ev.PTP.HOLD, d.get pg PTP.PTP_STAT.STATE == 4)]
  | _ => 0

/-! The fault page (R386). -/

/-- Entry of an optional fault entry. -/
def entryOf (e : Option FEnt) : FEnt := e.getD { val := 0, dt := 0 }

/-- Automatic resets within the last 3,600 s (R382). -/
def autoCount (d : Dev) : Nat := (d.keep.autos.filter fun t => d.keep.secs < t + 3600).length

/-- The registers of the fault page that read the fault manager. -/
def fltWord (d : Dev) (off : Nat) : Option Nat :=
  let f := d.flt
  let h := entryOf f.head
  if off = 0x044 then some h.val
  else if off = 0x048 then some (h.dt % 2 ^ 32)
  else if off = 0x04C then some (h.dt / 2 ^ 32 % 2 ^ 32)
  else if off = 0x050 then some (h.rep % 65536)
  else if off = 0x058 then some (b2n f.halt * 2 ^ 31 + f.drop % 256 * 65536 + f.maxLvl % 256 * 256 + f.queue.length % 64)
  else if off = 0x05C then some f.haltCause
  else if off = 0x060 then some (f.haltDt % 2 ^ 32)
  else if off = 0x064 then some (f.haltDt / 2 ^ 32 % 2 ^ 32)
  else if off = 0x070 then some (autoCount d)
  else if 0x100 ≤ off ∧ off < 0x180 then some (entryOf (f.queue[(off - 0x100) / 4]?)).val
  else none

/-! The common header (tables "PG_ID" to "SH_EPOCH"). -/

/-- The unit-specific status of `PG_STAT`, which repeats eight bits of the unit's own status register. -/
def uStat (d : Dev) (pg : Nat) (u : Unit_) : Nat :=
  match u with
  | .leaf _ => storedWord d pg u LEAF.DRV_STAT.MODE.off % 256
  | .obs _ => storedWord d pg u OBS.OBS_STAT.DET.off % 256
  | .pos _ => storedWord d pg u POS.POS_STAT.VALID.off % 256
  | .posk _ => storedWord d pg u POS.POS_STAT.VALID.off % 256
  | .step _ => storedWord d pg u STEP.STP_STAT.STATE.off % 256
  | .imd => storedWord d pg u IMD.LANE_STAT.MODE.off % 256
  | .flt => d.flt.queue.length
  | .frm => storedWord d pg u FRM.FORME_STAT.STATE.off % 256
  | .can _ => storedWord d pg u CAN.PSR.STATE.off % 256
  | .recE => storedWord d pg u REC.REC_STAT.FC.off % 256
  | _ => 0

/-- Whether fields of the page are fixed by the active seal profile (table "PG_LOCK", R187, R331): from the load of the seal
value on. -/
def sealedPg (d : Dev) (u : Unit_) : Bool :=
  d.on pgSEAL SEAL.PROFILE.VALID && (match u with
    | .obs _ => true
    | .safe => true
    | _ => false)

/-- The header registers that are views. -/
def hdrWord (src : Src) (d : Dev) (pg : Nat) (u : Unit_) (off : Nat) : Option Nat :=
  if off = 0x000 then some (u.code.1 * 65536 + u.code.2 * 256 + pg)
  else if off = 0x004 then some (Config.pgRev u.code.1 % 65536)
  else if off = 0x008 then some 0
  else if off = 0x010 ∧ fixedPage pg then some (1 + 4 * d.sget pg HDR.TEST)
  else if off = 0x014 then some (uStat d pg u * 256 + (if fixedPage pg && d.stateView pg == 0 then 2 else d.stateView pg))
  else if off = 0x018 then some (b2n u.safety + 2 * b2n (src != .runtimeSafe) + 4 * b2n (sealedPg d u))
  else if off = 0x020 then some (evRaw d pg u)
  else if off = 0x02C then some 0
  else none

/-! IMD. -/

/-- Whole minutes since a MOTCLK count, saturating in 8 bits. -/
def minutesSince (d : Dev) (t : Nat) : Nat := min 255 ((d.tim.mot - t) / 15000000000)

/-- The registers of IMD that follow time: lane faults of the last 3,600 s (R349), minutes since the due time of a waiting proof
(R351) and since each lane's last proof. -/
def imdWord (d : Dev) (pg off : Nat) : Option Nat :=
  if off = IMD.LANE_CNT.CNT0.off then
    some (min 255 (laneCnt d 0) + 256 * min 255 (laneCnt d 1) + 65536 * min 255 (laneCnt d 2))
  else if off = IMD.PROOF_STAT.NEXT.off then
    some (storedWord d pg .imd off % 65536 + 65536 * (if d.imd.waiting = 0 then 0 else minutesSince d d.imd.dueAt))
  else if off = IMD.PROOF_AGE.AGE0.off then
    let a (i : Nat) : Nat := minutesSince d (vget d.imd.provedAt i 0)
    some (a 0 + 256 * a 1 + 65536 * a 2)
  else none

/-! SYS. -/

/-- The index of a source among those that capture DT (R39): the runtime is one source in and out of safe context. -/
def srcCap : Src → Nat
  | .runtime => 0 | .runtimeSafe => 0 | .svc0 => 1 | .svc1 => 2 | .host => 3 | .neltan => 4 | .debug => 5

/-- The registers of SYS that are views (R1 to R5, R39, R51, R539). -/
def sysWord (src : Src) (d : Dev) (off : Nat) : Option Nat :=
  if off = 0x040 then
    some (0x08D0 * 65536 + (d.part.variant + 1) % 16 * 4096 + (1 + b2n d.part.gradeD) * 256 + d.part.silrev % 256)
  else if off = 0x044 then some d.part.unitMap
  else if off = 0x048 then some (d.otp.lc % 4)
  else if off = 0x050 then some (d.dt % 2 ^ 32)
  else if off = 0x054 then some (nth d.tim.hiCap (srcCap src) 0 % 2 ^ 32)
  else if off = 0x060 then some (evSum d)
  else if 0x080 ≤ off ∧ off < 0x0A0 then some (evMap d ((off - 0x080) / 4))
  else none

/-! IMPO. -/

/-- Cells of slot 0 read 0 (R465): the lowest byte of every eighth word of the matrix. -/
def impoWord (d : Dev) (pg off : Nat) : Option Nat :=
  if 0x800 ≤ off ∧ off % 32 = 0 then some (storedWord d pg .impo off / 256 * 256) else none

/-! The word of a register. -/

/-- What a read of offset `off` of a present page returns. -/
def pageWord (src : Src) (d : Dev) (pg : Nat) (u : Unit_) (off : Nat) : Nat :=
  match hdrWord src d pg u off with
  | some v => v
  | none =>
    let own := match u with
      | .sys => sysWord src d off
      | .flt => fltWord d off
      | .imd => imdWord d pg off
      | .impo => impoWord d pg off
      | .recE => if 0x100 ≤ off ∧ off < 0x200 then some (folioWord d ((off - 0x100) / 4)) else none
      | _ => none
    match own with
    | some v => v
    | none => storedWord d pg u off

/-- What the read itself changes: `DT_LO` captures DT for its source (R39), `PSR` clears PXE (R447). -/
def readEffect (src : Src) (pg : Nat) (u : Unit_) (off : Nat) (d : Dev) : Dev :=
  match u with
  | .sys =>
    if off = 0x050 then
      { d with tim := { d.tim with hiCap := modNth (fun _ => d.dt / 2 ^ 32) d.tim.hiCap (srcCap src) } }
    else d
  | .can _ => if off = CAN.PSR.PXE.off then d.putB pg CAN.PSR.PXE false else d
  | _ => d

end Sys2Proof.Machine
end

