-- ==== Sys2Proof/Machine/Bus.lean ====
section
/-! DEFINITION. Access over the fabric: who may act, the checks of R6, R7, R10 to R12, R26 to R28, R41, R45, R54, R58, the effect
of a write of each register, and the memories. -/

namespace Sys2Proof.Machine

/-! Sources. -/

/-- The management-plane sources (R28). -/
def srcMgmt : Src → Bool
  | .runtime => false
  | .runtimeSafe => false
  | _ => true

/-- The runtime in either context. -/
def srcRt (s : Src) : Bool := !srcMgmt s

/-- Whether a page is one that the host port still reaches from BKCLK: the clock monitors, the fault manager and the device
page that reports them (R30). -/
def bkPage (addr : Nat) : Bool := decide (0x40000000 ≤ addr) && decide (addr < 0x40003000)

/-- Whether a source acts at all: its processor runs (R358, R364, R366), the core is out of reset; in boot hold only host and
debug act (R356, R551), in RETIRED only the host and only to read (R539); after a loss of lock only the host, on the pages that
BKCLK serves (R30). -/
def srcMay (d : Dev) (src : Src) (write : Bool) (addr : Nat) : Bool :=
  let cpu := match src with
    | .runtime => !d.imd.halted && !d.boot.hold
    | .runtimeSafe => !d.imd.halted && !d.boot.hold
    | .svc0 => d.svc.up0 && !d.svc.halted && !d.boot.hold
    | .svc1 => splitMode d && d.svc.up1 && !d.boot.hold
    | .neltan => d.svc.up0 && !d.svc.halted && !d.boot.hold
    | .host => true
    | .debug => true
  d.boot.up && cpu && (!d.tim.bk || (src == .host && bkPage addr)) && (d.otp.lc != 3 || (src == .host && !write))

/-! Refusals (R58). -/

/-- A refused access: the SYS event, and `SYS.LASTREF` by page and word, or by address bits 11:2 where it names no page; PAGE is
then 0 by the model's choice (R58, assumption log 68). -/
def refuse (e : Nat) (mem : Bool) (pg word : Nat) (d : Dev) : Dev :=
  let d := (d.putB pgSYS SYS.LASTREF.MEM mem).put pgSYS SYS.LASTREF.PAGE (if mem then 0 else pg)
  (d.put pgSYS SYS.LASTREF.WORD word).ev pgSYS e

/-- Where an address lies (R41). -/
inductive Region where
  | bootRom | forme | galley | record | packet | service | pages | none
  deriving DecidableEq, Repr

/-- The region that holds `n` bytes at an address. -/
def regionOf (a n : Nat) : Region :=
  let inn (base size : Nat) : Bool := decide (base ≤ a) && decide (a + n ≤ base + size)
  if inn 0 0x10000 then .bootRom else if inn 0x10000000 0x400000 then .forme else if inn 0x20000000 0x200000 then .galley
  else if inn 0x24000000 0x80000 then .record else if inn packetBase packetSize then .packet
  else if inn 0x30000000 0x400000 then .service
  else if 0x40000000 ≤ a ∧ a < 0x40100000 then .pages else .none

/-- Whether a register access is narrow or unaligned (R10). -/
def badShape (addr size : Nat) : Bool := size != 4 || addr % 4 != 0

/-- The checks before a page is reached: its number, and `none` where the access is refused, with the device then. Both rules
raise their event where both hold. -/
def pageCheck (addr size : Nat) (d : Dev) : Dev × Option Unit_ :=
  let pg := addr / 4096 % 256
  let word := addr % 4096 / 4
  let u := (unitOf pg).filter fun u => d.part.has u
  let d := if badShape addr size then refuse Ev.SYS.BADACC false pg word d else d
  let d := if u.isNone then refuse Ev.SYS.NOUNIT false pg word d else d
  (d, if badShape addr size then none else u)

/-! Writes to registers. -/

/-- The write-only fields of the common header, which hold nothing. -/
def hdrWo : List Fld := [fld .wo 0x02C 0 32 0, fld .wo 0x030 1 1 0, fld .wo 0x030 0 1 0]

/-- The fields of a register that a write can name. -/
def writeFields (d : Dev) (u : Unit_) (off : Nat) : List Fld :=
  (hdrWo ++ unitFields u).filter fun f => f.off == off && f.acc != .ro && !fieldGone d u f

/-- Whether a source may write a field: R28 for management sources on the control and data planes, RWS otherwise (R12). -/
def fieldMay (u : Unit_) (src : Src) (f : Fld) : Bool :=
  if srcMgmt src && (u.plane == .control || u.plane == .data) then
    f.acc == .rwp || f.off == 0x030 || (u.plane == .data && (f.off == 0x024 || f.off == 0x028))
  else f.acc != .rws || src == .runtimeSafe

/-- Whether a source is the host port of a part in RETIRED, which reads registers only (R542). -/
def hostReads (d : Dev) (src : Src) : Bool := src == .host && d.otp.lc == 3

/-- Whether a whole page or register refuses a source: R27, R45, R542, the registers of R362 in variants with the network, and
`NKEYCTRL` from any source but the host (R543). -/
def pageLocked (d : Dev) (u : Unit_) (src : Src) (off : Nat) : Bool :=
  (u.safety && (src == .host || src == .neltan)) || hostReads d src ||
  (srcRt src && (u.plane == .data || u.plane == .mgmt)) ||
  (u == .svc && d.part.hasNet && (off == 0x050 || off == 0x054 || off == 0x058 || off == 0x05C)) ||
  (u == .sec && off == 0x080 && src != .host)

/-- A request bit that a unit takes and does not hold: the five requests of `SAFE_CTRL` (table "SAFE registers"). -/
def notHeld (u : Unit_) (f : Fld) : Bool := u == .safe && f.off == 0x080 && decide (f.lo < 8)

/-- Fields of `PG_CTRL` that the pages of R47 fix. -/
def fixedField (pg : Nat) (f : Fld) : Bool := fixedPage pg && f.off == 0x010 && decide (f.lo < 2)

/-- One field of a write takes the bits written (R12, R50 and the range rules). -/
def takeField (u : Unit_) (pg : Nat) (v : Nat) (f : Fld) (d : Dev) : Dev :=
  let raw := bitsOf v f.lo f.w
  match f.acc with
  | .w1c =>
    let keep := if f.off = 0x028 then d.evCycle pg else 0
    d.put pg f ((2 ^ f.w - 1 - (raw - (raw &&& keep))) &&& d.get pg f)
  | .wo => d
  | .ro => d
  | _ =>
    if fixedField pg f || notHeld u f then d
    else
      let t := rangeVal u pg f raw d
      clampTell u pg f raw t (if f.acc = .rwp then d.sput pg f t else d.put pg f t)

/-- Whether a write of a shadowed field is held off by PEND (R54). -/
def heldOff (d : Dev) (pg : Nat) (f : Fld) : Bool := f.acc == .rwp && d.on pg HDR.PEND

/-- Whether a register holds a field that only reads, the views of the header and of REC included. -/
def readOnlyReg (d : Dev) (u : Unit_) (off : Nat) : Bool :=
  [0x000, 0x004, 0x008, 0x014, 0x018, 0x020, 0x034].contains off || (u == .recE && decide (0x100 ≤ off) && decide (off < 0x200)) ||
    ((unitFields u).any fun f => f.off == off && f.acc == .ro && !fieldGone d u f)

/-- Whether a write of a management source names a field of the control or data plane that R28 does not list, a read-only one;
`SH_CTRL` is listed whole. -/
def roRefused (d : Dev) (u : Unit_) (src : Src) (off : Nat) : Bool :=
  srcMgmt src && (u.plane == .control || u.plane == .data) && off != 0x030 && readOnlyReg d u off

/-- The bits of a write that its fields take, each field in its place. -/
def takenBits (l : List Fld) (v : Nat) : Nat := l.foldl (fun m f => m + bitsOf v f.lo f.w * 2 ^ f.lo) 0

/-- Set one key word, or have the unit act, on a write of SEC (R536, R543 to R545, R556). -/
def secWrite (off v : Nat) (s : State) : State :=
  if off = 0x054 then (if bit v 7 then s.onDev verGo else s)
  else if off = 0x060 then
    let s := if bit v 0 then policyInstall s else s
    let s := if bit v 1 then s.onDev rollForward else s
    if bit v 2 then debugUnlock s else s
  else if 0x070 ≤ off ∧ off < 0x080 then
    s.onDev fun d => { d with boot := { d.boot with nkey := modNth (fun _ => v) d.boot.nkey ((off - 0x070) / 4) } }
  else if off = 0x080 then (if bit v 8 then s.onDev (keyEnrol (v % 4)) else s)
  else s

/-- Requests of `CFG_CTRL` (R553, R557, R558), in the order of their bits. -/
def cfgWrite (src : Src) (v : Nat) (s : State) : State :=
  let s := if bit v 0 then s.onDev cfgSwitch else s
  let s := if bit v 1 then s.onDev (cfgRstreq (src == .host)) else s
  let s := if bit v 2 then s.onDev cfgCancel else s
  if bit v 3 then cfgConfirm s else s

/-- The leaf registers that act (R106, R110, R136, R155, chapter "Leaf and doorway sequences"). -/
def leafWrite (n off v : Nat) (d : Dev) : Dev :=
  if off = LEAF.DRV_CTRL.CAL.off then
    let d := if bit v 2 then clrCnt n d else d
    let d := if bit v 1 then clrLatch n d else d
    if bit v 0 then calRequest n d else d
  else if off = LEAF.SPQ_P.P.off then d.modPrf n fun p => { p with spqP := v }
  else if off = LEAF.SPQ_V.V.off then d.modPrf n fun p => { p with spqV := v }
  else if off = LEAF.SPQ_A.A.off then spqPush n v d
  else if off = LEAF.MOVE_CMD.GO.off then moveCmd n v d
  else if off = LEAF.SEQ_CMD.OPEN.off then seqCmd n v d
  else d

/-- What the register does with a write that it took; `v` holds the bits taken. -/
def regEffect (src : Src) (pg : Nat) (u : Unit_) (off v : Nat) (s : State) : State :=
  if off = 0x02C then
    if s.dev.on pg HDR.TEST then s.onDev fun d => d.put pg HDR.EV_STAT (d.get pg HDR.EV_STAT ||| v) else s
  else match u with
    | .flt => if off = FLT.ACK.ENTRY.off then s.onDev (fltAckWrite v) else s
    | .svc =>
      if off = SVC.SVC_KICK.KICK0.off then s.onDev (svcKickWrite src v)
      else if off = SVC.DTSET_CTRL.SET.off then s.onDev (dtsetArm v)
      else if off = SVC.DTRATE.PPB.off then s.onDev fun d => dtTrim (d.geti pgSVC SVC.DTRATE.PPB) d
      else s
    | .frm => if off = FRM.TASK_CTRL.CLRCNT.off ∧ bit v 0 then s.onDev taskClrcnt else s
    | .cfg => if off = CFG.CFG_CTRL.SWITCH.off then cfgWrite src v s else s
    | .sec => secWrite off v s
    | .leaf n => s.onDev (leafWrite n off v)
    | .obs n =>
      if off = OBS.OBS_CTRL.CLRDET.off then s.onDev (obsCtrl n v)
      else if off = OBS.TEMP.TEMP.off then s.onDev (tempWritten n) else s
    | .pos n => if off = POS.POS_CTRL.SETREF.off then s.onDev (posCtrl n v) else s
    | .posk k => if off = POS.POS_CTRL.SETREF.off then s.onDev (posCtrl (8 + k) v) else s
    | .step k =>
      if off = STEP.DRV_CTRL.CAL.off then s.onDev (stepDrvCtrl k v)
      else if off = STEP.STP_CMD.EXTEND.off then s.onDev (stpCmd k v) else s
    | .safe => if off = SAFE.SAFE_CTRL.LMASK.off then s.onDev (safeCtrl v) else s
    | .fio x =>
      if off = FIO.DO_CLR.CLR.off then s.onDev (doClr x v)
      else if off = FIO.TPO_CLR.CLR.off then s.onDev (tpoClr x v)
      else if off = FIO.LK_CLR.CLR.off then s.onDev (lkClr x v)
      else if off = FIO.FIO_CTRL.RELEASE.off ∧ bit v 0 then s.onDev (fioRelease x) else s
    | .lsw x => if off = LSW.LS_CLR.CLR.off then s.onDev fun d => lsClrTh x (bitsOf v 8 6) (lsClr x (v % 64) d) else s
    | _ => s

/-- Whether a write of a register, or of a field in it, is barred to its source (R27, R28, R402). -/
def regLocked (d : Dev) (u : Unit_) (src : Src) (off : Nat) : Bool :=
  pageLocked d u src off || ((writeFields d u off).any fun f => !fieldMay u src f) || roRefused d u src off

/-- Whether KEYCTRL names a slot with no unused row (R543). -/
def noKeyRow (d : Dev) (u : Unit_) (off v : Nat) : Bool :=
  u == .sec && off == 0x080 && bit v 8 && !((d.otp.lc == 1 || d.otp.lc == 2) && decide (nth d.otp.rows (v % 4) 4 < 4))

/-- Whether a write would change a staged value that PEND holds (R54). -/
def regBusy (d : Dev) (u : Unit_) (src : Src) (pg off v : Nat) : Bool :=
  ((writeFields d u off).filter fun f => fieldMay u src f).any fun f =>
    heldOff d pg f && !fixedField pg f && bitsOf v f.lo f.w != d.sget pg f

/-- A write of a present page's register: the fields a source may write take their bits, the register acts, and a refused field
raises WLOCK, a held one SHBUSY where its bits differ. Model's choice beside R47 and R54: EN and PARK of a page of R47, whose
writes are ignored, are left out of that comparison (assumption log 68). Answers whether a word was refused. -/
def regWrite (src : Src) (pg : Nat) (u : Unit_) (off v : Nat) (s : State) : State × Bool :=
  let word := off / 4
  if pageLocked s.dev u src off then (s.onDev (refuse Ev.SYS.WLOCK false pg word), true)
  else
    let fs := writeFields s.dev u off
    let may := fs.filter fun f => fieldMay u src f
    let take := may.filter fun f => !heldOff s.dev pg f
    let locked := regLocked s.dev u src off
    let busy := regBusy s.dev u src pg off v
    let eff := takenBits take v
    if off = 0x030 then
      let r := shCtrl pg u v s.dev
      let s := { s with dev := r.1 }
      if r.2 then (s.onDev (refuse Ev.SYS.SHBUSY false pg word), true) else (s, false)
    else
      let norow := noKeyRow s.dev u off v
      let en0 := s.dev.on pgSVC SVC.SVC_WDOG.EN0
      let en1 := s.dev.on pgSVC SVC.SVC_WDOG.EN1
      let s := s.onDev fun d => d.each take.reverse fun f d => takeField u pg v f d
      let s := if u == .svc && off == SVC.SVC_WDOG.EN0.off then s.onDev (wdogEnabled en0 en1) else s
      let s := if take.isEmpty then s else regEffect src pg u off eff s
      let s := s.onDev fun d =>
        let d := if busy then refuse Ev.SYS.SHBUSY false pg word d else d
        if locked then refuse Ev.SYS.WLOCK false pg word d else d
      (s, locked || busy || norow)

/-- Whether PEND alone refuses a write (R54). -/
def heldOnly (src : Src) (a v : Nat) (s : State) : Bool :=
  match unitOf (a / 4096 % 256) with
  | some u => !regLocked s.dev u src (a % 4096) && !noKeyRow s.dev u (a % 4096) v &&
      s.dev.on (a / 4096 % 256) HDR.PEND && (a % 4096 == 0x030 || regBusy s.dev u src (a / 4096 % 256) (a % 4096) v)
  | none => false

/-! The memories (R18, R41, R360). -/

/-- Whether the byte at an address of the packet buffer lies in an active ring that the management plane owns, or with `own`
false in one of the data plane. -/
def inRing (d : Dev) (own : Bool) (a : Nat) : Bool :=
  (List.range 32).any fun k => ringActive d k && d.on pgRING (RING.RING_CFG.OWN.at k) == own &&
    decide ((ringSpan d k).1 ≤ a - packetBase) && decide (a - packetBase < (ringSpan d k).2)

/-- The half of the forme store that holds an address. -/
def formeHalf (a : Nat) : Nat := (a - 0x10000000) / 0x200000

/-- The bytes of a memory take a write. -/
def memStore (a n v : Nat) (s : State) : State := { s with mem := Memory.putL sramEmpty s.mem a (leBytes n v) }

/-- The transmit records whose CANCEL bit a write of `n` bytes sets (R457), with their controllers. -/
def cancelsOf (a n : Nat) (old new : State) : List (Nat × Nat) :=
  (List.range n).flatMap fun i => [0, 1, 2].filterMap fun c =>
    (canTxRing old.dev c).bind fun k =>
      let e := ringEntry old.dev k 0 + 4
      let r := a + i
      if e ≤ r ∧ (r - e) % max 1 (ringSize old.dev k) = 0 ∧ (r - e) / max 1 (ringSize old.dev k) < ringEntries old.dev k ∧
          bit (new.peek r 1) 0 && !bit (old.peek r 1) 0 then some (c, r)
      else none

/-- A write of the packet buffer: the rings are served, after the cancels that it makes (R457). -/
def packetWrite (a n v : Nat) (s : State) : State :=
  let t := memStore a n v s
  ringService ((cancelsOf a n s t).foldl (fun s x => recordCancel x.1 x.2 s) t)

/-- A write to a memory takes effect where the map lets its source write (R18, R41); elsewhere it changes nothing. A write of a
Service core into the other's half raises BADACC (R360). Answers whether it was refused. -/
def memWrite (src : Src) (r : Region) (a n v : Nat) (s : State) : State × Bool :=
  match r with
  | .forme =>
    let hs := [formeHalf a, formeHalf (a + max 1 n - 1)]
    if srcMgmt src && hs.all fun h => !halfRuns s.dev h then
      ((memStore a n v s).onDev fun d =>
        publishSec { d with boot := { d.boot with mark := hs.foldl (fun m h => setBit m h false) d.boot.mark } }, false)
    else (s, false)
  | .galley => if srcRt src then (memStore a n v s, false) else (s, false)
  | .packet =>
    if srcMgmt src && (List.range n).all fun i => inRing s.dev true (a + i) then (packetWrite a n v s, false) else (s, false)
  | .service =>
    let upper := decide (0x30200000 ≤ a)
    if !srcMgmt src then (s, false)
    else if splitMode s.dev && ((src == .svc0 && upper) || (src == .svc1 && !upper)) then
      (s.onDev (refuse Ev.SYS.BADACC true 0 (a / 4 % 1024)), true)
    else (memStore a n v s, false)
  | _ => (s, false)

/-- Whether an access touches a byte of a ring of another plane than the source's: the runtime's plane owns none (R18). -/
def foreignRing (d : Dev) (src : Src) (a n : Nat) : Bool :=
  (List.range n).any fun i => inRing d false (a + i) || (!srcMgmt src && inRing d true (a + i))

/-- What a read of a memory returns, the errors of the words it touches corrected or reported (R42); an access that touches a
ring of another plane answers a free value (R18, assumption log 30). -/
def memRead (src : Src) (r : Region) (a n : Nat) (s : State) : State × Nat :=
  let s := eccAccess a n s
  match r with
  | .bootRom => (s, ofLe ((List.range n).map fun i => Config.bootRom (a + i) % 256))
  | .packet =>
    if foreignRing s.dev src a n then (s.onDev Dev.drew, s.dev.fresh 108 % 2 ^ (8 * n)) else (s, s.peek a n)
  | _ => (s, s.peek a n)

/-! The fabric. -/

/-- A write of `size` bytes at an address. Answers whether it was refused. -/
def busWrite (src : Src) (addr size v : Nat) (s : State) : State × Bool :=
  if !srcMay s.dev src true addr then (s, true)
  else match regionOf addr size with
    | .pages =>
      let c := pageCheck addr size s.dev
      let s := { s with dev := c.1 }
      match c.2 with
      | none => (s, true)
      | some u => regWrite src (addr / 4096 % 256) u (addr % 4096) (v % 2 ^ 32) s
    | .none => (s.onDev (refuse Ev.SYS.BADACC true 0 (addr / 4 % 1024)), true)
    | r => if hostReads s.dev src then (s, true) else memWrite src r addr size v s

/-- The word of a register as a source reads it: LOCKED reads 0 on every page while the runtime executes a safe block (R402). -/
def readWord (src : Src) (s : State) (pg : Nat) (u : Unit_) (off : Nat) : Nat :=
  let v := pageWord src s.dev pg u off
  if off = 0x018 ∧ safeBlock s then setBit v 1 false else v

/-- A read of `size` bytes at an address: the value and whether it was refused. -/
def busRead (src : Src) (addr size : Nat) (s : State) : State × Nat × Bool :=
  if !srcMay s.dev src false addr then (s, 0, true)
  else match regionOf addr size with
    | .pages =>
      let c := pageCheck addr size s.dev
      let s := { s with dev := c.1 }
      match c.2 with
      | none => (s, 0, true)
      | some u =>
        let pg := addr / 4096 % 256
        let off := addr % 4096
        (s.onDev (readEffect src pg u off), readWord src s pg u off, false)
    | .none => (s.onDev (refuse Ev.SYS.BADACC true 0 (addr / 4 % 1024)), 0, true)
    | r => if hostReads s.dev src then (s, 0, true) else let m := memRead src r addr size s; (m.1, m.2, false)

/-- The value read leaves the fabric. -/
def tellRead (r : State × Nat × Bool) : State :=
  r.1.onDev fun d => { d with net := { d.net with out := { d.net.out with read := r.2.1 } } }

/-- The address of a register. -/
def regAddr (pg off : Nat) : Nat := 0x40000000 + pg * 4096 + off

/-- A write of a register by a source. -/
def wr (src : Src) (pg : Nat) (f : Fld) (v : Nat) (s : State) : State := (busWrite src (regAddr pg f.off) 4 v s).1

end Sys2Proof.Machine
end

