-- ==== Sys2Proof/Machine/Window.lean ====
section
/-! DEFINITION. The ways into the register space from outside and from the Control triplet: the Neltan window (R495 to R497), the
host port (R498, R499, R585), debugger writes (R365, R366) and voted transactions (R333 to R346). -/

namespace Sys2Proof.Machine

/-- Words from an address upward are read in turn; a refused one reads 0 (R6, R10, R497, R498). -/
def readWords (src : Src) : Nat → Nat → State → State × List Nat
  | 0, _, s => (s, [])
  | n + 1, a, s =>
    let r := busRead src a 4 s
    let t := readWords src n (a + 4) r.1
    (t.1, r.2.1 :: t.2)

/-- Words are written in address order; answers the index of the first that was refused (R497, R498). -/
def writeWords (src : Src) : List Nat → Nat → Nat → State → State × Option Nat
  | [], _, _, s => (s, none)
  | v :: l, i, a, s =>
    let r := busWrite src a 4 v s
    let t := writeWords src l (i + 1) (a + 4) r.1
    (t.1, if r.2 then some i else t.2)

/-! The Neltan window. -/

def Dev.modNel (f : NelX → NelX) (d : Dev) : Dev := { d with net := { d.net with nel := f d.net.nel } }

/-- 60 s in MOTCLK counts. -/
abbrev nelMinute : Nat := 15000000000

/-- A message before its tag (table "Neltan message"). -/
def nelMsg (op result session seq addr count : Nat) (data : List Nat) : List Nat :=
  [1, op % 256, result % 256, count % 256] ++ leBytes 2 session ++ [0, 0] ++ leBytes 4 seq ++ leBytes 4 addr ++ data.flatMap (leBytes 4)

/-- The request's bytes before its tag. -/
def nelReqMsg (op : Nat) (r : NelReq) : List Nat :=
  nelMsg op 0 r.session.toNat r.seq.toNat r.addr.toNat r.count (r.data.map BitVec.toNat)

/-- The session key: NIST SP 800-108 in counter mode with AES-CMAC (R495). The counter, the separator and the length are placed as
that standard's text has them (assumption log 31). -/
def nelKey (slotKey : Nat) (client device : List Nat) : Nat :=
  Config.aesCmac slotKey ([0, 0, 0, 1] ++ [78, 69, 76, 84, 65, 78] ++ [0] ++ client ++ device ++ [0, 0, 0, 128])

/-- A response under a key leaves and is kept. -/
def nelSend (key : Nat) (msg : List Nat) (s : State) : State :=
  s.onDev (Dev.modNel fun n => { n with resp := msg ++ leBytes 16 (Config.aesCmac key msg % 2 ^ 128) })

/-- Whether OPEN is blocked on a transport (R496). -/
def nelBlocked (d : Dev) (trans : Nat) : Bool := d.net.nel.block.any fun b => b.1 == trans && decide (d.tim.mot < b.2)

/-- A failed OPEN tag; the sixteenth within 60 s blocks the transport for 60 s (R496). -/
def nelOpenFail (trans : Nat) (d : Dev) : Dev :=
  let now := d.tim.mot
  d.modNel fun n =>
    let l := (trans, now) :: n.fails.filter fun f => decide (now < f.2 + nelMinute)
    if 16 ≤ (l.filter fun f => f.1 == trans).length then
      { n with fails := l.filter (fun f => f.1 != trans), block := (trans, now + nelMinute) :: n.block.filter fun b => b.1 != trans }
    else { n with fails := l }

/-- A session number not in use: the next count, from 1 to 65,535 (assumption log 31). -/
def nelNumber (n : NelX) : Nat :=
  (((List.range 5).map fun i => (n.next + i + 65534) % 65535 + 1).find? fun c => !(n.sess.any fun x => x.num == c)).getD n.next

/-- OPEN (R495): the tag under the slot's key, fewer than four sessions; the device nonce is a free value (assumption log 4). -/
def nelOpen (r : NelReq) (s : State) : State :=
  let d := s.dev
  let trans := r.trans.val
  let words := r.data.map BitVec.toNat
  let slot := words.headD 4
  match nth d.otp.keys slot none with
  | none => if nelBlocked d trans then s else s.onDev (nelOpenFail trans)
  | some key =>
    let msg := nelReqMsg 1 r
    if nelBlocked d trans then s
    else if r.count ≠ 5 ∨ words.length ≠ 5 ∨ Config.aesCmac key msg % 2 ^ 128 ≠ r.tag.toNat then s.onDev (nelOpenFail trans)
    else if 4 ≤ (d.net.nel.sess.filter fun x => decide (d.tim.mot < x.lastAt + nelMinute)).length then nelSend key (nelMsg 0x81 2 0 r.seq.toNat r.addr.toNat 0 []) s
    else
      let nonce := (List.range 4).map fun i => Config.free 109 (4 * d.free + i) % 2 ^ 32
      let k := nelKey key (words.tail.flatMap (leBytes 4)) (nonce.flatMap (leBytes 4))
      let num := nelNumber d.net.nel
      let x : NelSess := { num := num, trans := trans, slot := slot, key := k, lastAt := d.tim.mot }
      let s := s.onDev fun d => (d.modNel fun n => { n with sess := n.sess ++ [x], next := num % 65535 + 1 }).drew
      nelSend k (nelMsg 0x81 0 num r.seq.toNat r.addr.toNat 4 nonce) s

/-- Change the session with a number. -/
def modSess (num : Nat) (f : NelSess → NelSess) (d : Dev) : Dev :=
  d.modNel fun n => { n with sess := n.sess.map fun x => if x.num = num then f x else x }

/-- A session closes. -/
def closeSess (num : Nat) (d : Dev) : Dev := d.modNel fun n => { n with sess := n.sess.filter fun x => x.num != num }

/-- A failed tag or sequence number: no response, and the third in a row closes the session (R496). -/
def nelFail (x : NelSess) (d : Dev) : Dev :=
  if 3 ≤ x.fails + 1 then closeSess x.num d else modSess x.num (fun y => { y with fails := y.fails + 1, total := y.total + 1 }) d

/-- A request of an open session (R496): a repeat is answered as before, the next number is executed, all else fails. `run`
executes it and answers the device, the result and the data words. -/
def nelRequest (op : Nat) (run : NelSess → State → State × Nat × List Nat) (r : NelReq) (s : State) : State :=
  match s.dev.net.nel.sess.find? fun x => x.num == r.session.toNat && decide (s.dev.tim.mot < x.lastAt + nelMinute) with
  | none => s
  | some x =>
    let tag := r.tag.toNat
    if Config.aesCmac x.key (nelReqMsg op r) % 2 ^ 128 ≠ tag then s.onDev (nelFail x)
    else if r.seq.toNat = x.seq ∧ tag = x.tag ∧ x.resp ≠ [] then s.onDev (Dev.modNel fun n => { n with resp := x.resp })
    else if r.seq.toNat ≠ (x.seq + 1) % 2 ^ 32 then s.onDev (nelFail x)
    else
      let y := run x s
      let msg := nelMsg (op + 0x80) y.2.1 x.num r.seq.toNat r.addr.toNat y.2.2.length y.2.2
      let s := nelSend x.key msg y.1
      s.onDev fun d => modSess x.num (fun z => { z with seq := r.seq.toNat, tag := tag, resp := d.net.nel.resp, fails := 0,
                                                        lastAt := d.tim.mot }) d

/-- READ of COUNT words (R497); more than 64 is no such request. -/
def nelRead (r : NelReq) (_ : NelSess) (s : State) : State × Nat × List Nat :=
  if 64 < r.count then (s, 3, []) else let t := readWords .neltan r.count r.addr.toNat s; (t.1, 0, t.2)

/-- WRITE of each word (R497). -/
def nelWrite (r : NelReq) (_ : NelSess) (s : State) : State × Nat × List Nat :=
  if r.count ≠ r.data.length ∨ 64 < r.count then (s, 3, [])
  else
    let t := writeWords .neltan (r.data.map BitVec.toNat) 0 r.addr.toNat s
    match t.2 with
    | none => (t.1, 0, [])
    | some i => (t.1, 1, [i])

/-- STATUS: the failures in a row and in all, then the open session numbers (R497; the words' order: assumption log 31). -/
def nelStatus (x : NelSess) (s : State) : State × Nat × List Nat := (s, 0, [x.fails, x.total] ++ s.dev.net.nel.sess.map (·.num))

/-- CLOSE. -/
def nelClose (x : NelSess) (s : State) : State × Nat × List Nat := (s.onDev (closeSess x.num), 0, [])

/-- NELTAN_SESSION_TIMEOUT (R496). -/
def nelTimeout (num : Nat) (d : Dev) : Dev :=
  d.modNel fun n => { n with sess := n.sess.filter fun x => x.num != num || decide (d.tim.mot < x.lastAt + nelMinute) }

/-- NELTAN_OPEN_BLOCK_END (R496). -/
def nelBlockEnd (trans : Nat) (d : Dev) : Dev :=
  d.modNel fun n => { n with block := n.block.filter fun b => b.1 != trans || decide (d.tim.mot < b.2) }

/-- The window is served by the Service pair's firmware: nothing happens while it does not run. -/
def nelServed (f : State → State) (s : State) : State :=
  if s.dev.alive && s.dev.svc.up0 && !s.dev.svc.halted && !s.dev.boot.hold then f s else s

/-! The host port. -/

def Dev.modHpi (f : HpiX → HpiX) (d : Dev) : Dev := { d with net := { d.net with hpi := f d.net.hpi } }

/-- `t_HEXE` at its most, 2 µs, in MOTCLK counts (R585, assumption log 32). -/
abbrev hexe : Nat := 500

/-- Whether a frame starts too soon after a write frame (R585). -/
def hpiSoon (d : Dev) : Bool :=
  match d.net.hpi.lastEnd with
  | some t => decide (d.tim.mot < t + hexe)
  | none => false

/-- The status byte (R499). -/
def hpiStatus (d : Dev) : Nat :=
  b2n d.net.hpi.exec + 2 * b2n d.net.hpi.rej + 4 * b2n d.net.hpi.ref + 128 * b2n d.flt.halt

/-- A rejected frame: HPI_MISO high, reported in the next status byte (R499, R585). -/
def hpiReject (n : Nat) (d : Dev) : Dev := d.modHpi fun h => { h with rej := true, resp := List.replicate n 0xFF }

/-- HPI_READ (R498, R499). -/
def hpiRead (addr n : Nat) (s : State) : State :=
  if hpiSoon s.dev then s.onDev (hpiReject (4 * n + 3))
  else
    let st := hpiStatus s.dev
    let t := readWords .host n addr s
    let body := st :: t.2.flatMap (leBytes 4)
    let c := crc16 body
    t.1.onDev (Dev.modHpi fun h => { h with rej := false, resp := body ++ [c / 256, c % 256] })

/-- The bytes of a write frame before its CRC (R498). -/
def hpiFrame (addr n : Nat) (data : List Nat) : List Nat :=
  [2, addr / 2 ^ 24 % 256, addr / 2 ^ 16 % 256, addr / 2 ^ 8 % 256, addr % 256, n - 1] ++ data.flatMap (leBytes 4)

/-- HPI_WRITE (R498, R499, R585). -/
def hpiWrite (addr n : Nat) (data : List Nat) (crc : Nat) (s : State) : State :=
  let now := s.dev.tim.mot
  let done (h : HpiX) : HpiX := { h with lastEnd := some now }
  if hpiSoon s.dev then s.onDev fun d => (hpiReject 0 d).modHpi fun h => done { h with exec := false, ref := false }
  else if data.length ≠ n ∨ crc16 (hpiFrame addr n data) ≠ crc then
    s.onDev fun d => (hpiReject 0 d).modHpi fun h => done { h with exec := false, ref := false }
  else
    let t := writeWords .host data 0 addr s
    t.1.onDev (Dev.modHpi fun h => done { h with exec := true, rej := false, ref := t.2.isSome })

/-! Debugger writes. -/

/-- DEBUGGER_WRITE (R363, R365, R366): to the halted core's own registers through its replay log, to an address as a fabric
write of the debug source. -/
def debuggerWrite (service : Bool) (t : DbgTarget) (v : Nat) (s : State) : State :=
  let halted := if service then s.dev.svc.halted else s.dev.imd.halted
  if !halted then s
  else match t with
    | .general n => s.onDev (debugLocal service 0 n.val v)
    | .control n => s.onDev (debugLocal service 1 n.toNat v)
    | .scratch n => s.onDev (debugLocal service 2 n.toNat v)
    | .bus a => (busWrite .debug a.toNat 4 v s).1

/-! Voted transactions. -/

/-- The accesses that byte enables stand for, as (offset, bytes). -/
def laneBytes (be : Nat) : List (Nat × Nat) :=
  if be = 15 then [(0, 4)] else if be = 3 then [(0, 2)] else if be = 12 then [(2, 2)]
  else ((List.range 4).filter (bit be)).map fun i => (i, 1)

/-- A voted transaction is issued once (R333, R335). Model's choice: the low two address bits count for nothing, the byte enables
name the bytes of the word, and what they name is one access of 4, 2 or 1 bytes or several of 1 (assumption log 80). -/
def issue (safe : Bool) (p : LanePres) (s : State) : State :=
  let src : Src := if safe then .runtimeSafe else .runtime
  let a := p.addr.toNat / 4 * 4
  let l := laneBytes p.be.toNat
  if p.kind == .write then l.foldl (fun s b => (busWrite src (a + b.1) b.2 (p.data.toNat / 2 ^ (8 * b.1)) s).1) s
  else l.foldl (fun s b => tellRead (busRead src (a + b.1) b.2 s)) s

/-- TRIPLET_TRANSACTION (R333 to R342, R346). An interrupt acknowledge is issued, and no rule gives it an effect on the device. -/
def tripletTransaction (v : VoteEnv) (s : State) : State :=
  if s.dev.imd.halted || s.dev.imd.held then s
  else
    let r := vote v s.dev
    let s := { s with dev := r.1 }
    match r.2 with
    | none => s
    | some p => match p.kind with
      | .fold => s.onDev (foldDone p.data.toNat)
      | .intAck => s
      | _ => issue v.safeCtx p s

/-! The commands. -/

/-- TRIPLET_TRANSACTION. -/
def execTripletTransaction (v : VoteEnv) (s : State) : Host.Outcome State Fault Refusal := doState (State.live (tripletTransaction v)) s

/-- DEBUGGER_WRITE. -/
def execDebuggerWrite (service : Bool) (t : DbgTarget) (val : W32) (s : State) : Host.Outcome State Fault Refusal :=
  doState (State.live (debuggerWrite service t val.toNat)) s

/-- NELTAN_OPEN. -/
def execNeltanOpen (r : NelReq) (s : State) : Host.Outcome State Fault Refusal := doState (nelServed (nelOpen r)) s

/-- NELTAN_READ. -/
def execNeltanRead (r : NelReq) (s : State) : Host.Outcome State Fault Refusal := doState (nelServed (nelRequest 2 (nelRead r) r)) s

/-- NELTAN_WRITE. -/
def execNeltanWrite (r : NelReq) (s : State) : Host.Outcome State Fault Refusal := doState (nelServed (nelRequest 3 (nelWrite r) r)) s

/-- NELTAN_STATUS. -/
def execNeltanStatus (r : NelReq) (s : State) : Host.Outcome State Fault Refusal := doState (nelServed (nelRequest 4 nelStatus r)) s

/-- NELTAN_CLOSE. -/
def execNeltanClose (r : NelReq) (s : State) : Host.Outcome State Fault Refusal := doState (nelServed (nelRequest 5 nelClose r)) s

/-- NELTAN_SESSION_TIMEOUT. -/
def execNeltanSessionTimeout (session : W16) (s : State) : Host.Outcome State Fault Refusal :=
  doDev (Dev.live (nelTimeout session.toNat)) s

/-- NELTAN_OPEN_BLOCK_END. -/
def execNeltanOpenBlockEnd (trans : Fin 2) (s : State) : Host.Outcome State Fault Refusal := doDev (Dev.live (nelBlockEnd trans.val)) s

/-- HPI_READ. The number of words is one more than its byte 5 says (R498). -/
def execHpiRead (addr : W32) (words : Fin 64) (s : State) : Host.Outcome State Fault Refusal :=
  doState (fun s => if s.dev.boot.up then hpiRead addr.toNat (words.val + 1) s else s) s

/-- HPI_WRITE. -/
def execHpiWrite (addr : W32) (words : Fin 64) (data : List W32) (crc : W16) (s : State) : Host.Outcome State Fault Refusal :=
  doState (fun s => if s.dev.boot.up then hpiWrite addr.toNat (words.val + 1) (data.map BitVec.toNat) crc.toNat s else s) s

end Sys2Proof.Machine
end

