-- ==== Sys2Proof/Machine/Blocks.lean ====
section
/-! DEFINITION. CALL: user blocks and the device blocks of the block library (R402 to R406, table "Device blocks"). -/

namespace Sys2Proof.Machine

/-! Pins. The manual names a device block's inputs and outputs; where they lie in the instance is open (assumption log 34). Pins 0
to 15 are the inputs and 16 to 31 the outputs, in the table's order; pin 32 + `i` keeps the level that input `i` had at the
block's previous call. -/

/-- A device block in execution: its code, where its instance lies and how long it is, and whose access it makes. -/
structure BlkCall where
  type : Nat
  base : Nat
  len : Nat
  src : Src
  deriving DecidableEq, Repr

/-- Address and bytes of a pin, `none` where the instance has no room for it. -/
def BlkCall.pin (b : BlkCall) (p : Nat) : Option (Nat × Nat) :=
  let o := Config.pinOfs b.type p
  let n := Config.pinLen b.type p
  if o + n ≤ b.len then some (b.base + o, n) else none

/-- The value of a pin. -/
def BlkCall.get (b : BlkCall) (s : State) (p : Nat) : Nat :=
  match b.pin p with
  | some (a, n) => s.peek a n
  | none => 0

/-- Store into a pin. -/
def BlkCall.put (b : BlkCall) (p v : Nat) (s : State) : State :=
  match b.pin p with
  | some (a, n) => s.poke a n v
  | none => s

/-- Store a list of outputs, from pin 16 on. -/
def BlkCall.outs (b : BlkCall) (l : List Nat) (s : State) : State :=
  (List.range l.length).foldl (fun s i => b.put (16 + i) (nth l i 0) s) s

/-- Whether command input `i` rises in this call. -/
def BlkCall.rise (b : BlkCall) (s : State) (i : Nat) : Bool := bit (b.get s i) 0 && !bit (b.get s (32 + i)) 0

/-- The levels of the command inputs, kept for the next call. -/
def BlkCall.keep (b : BlkCall) (l : List Nat) (s : State) : State :=
  l.foldl (fun s i => b.put (32 + i) (b2n (bit (b.get s i) 0)) s) s

/-- The bits of a command register: input `i` of the list at bit `p` where it rises. -/
def BlkCall.cmd (b : BlkCall) (s : State) (l : List (Nat × Nat)) : Nat :=
  l.foldl (fun m ip => setBit m ip.2 (b.rise s ip.1)) 0

/-- The word of a register, read by the block. -/
def BlkCall.rd (b : BlkCall) (pg off : Nat) (s : State) : State × Nat :=
  let r := busRead b.src (regAddr pg off) 4 s
  (r.1, r.2.1)

/-- A write of a register by the block, made where there is something to write. -/
def BlkCall.wrIf (b : BlkCall) (c : Bool) (pg off v : Nat) (s : State) : State :=
  if c then (busWrite b.src (regAddr pg off) 4 v s).1 else s

/-- A field of a register word. -/
def ofWord (f : Fld) (w : Nat) : Nat := bitsOf w f.lo f.w

/-- A value that the manual does not state for an output (assumption log 34). -/
def freeOut (site : Nat) (s : State) : State × Nat := (s.onDev Dev.drew, s.dev.fresh site)

/-- Outputs of a block whose number input names no unit: `n` open values. -/
def BlkCall.noUnit (b : BlkCall) (n : Nat) (s : State) : State :=
  (List.range n).foldl (fun s i => let r := freeOut 120 s; b.put (16 + i) r.2 r.1) s

/-! The blocks, one for each row of the table. -/

/-- FN_LEAF: LEAF, OPEN, CLOSE, ACK, LEARN, REFRUN, CLRSUSP. -/
def fnLeaf (b : BlkCall) (s : State) : State :=
  let n := b.get s 0
  let c := b.cmd s [(1, 0), (2, 1), (3, 4), (4, 2), (5, 3), (6, 5)]
  let s := b.keep [1, 2, 3, 4, 5, 6] s
  if 8 ≤ n then b.noUnit 7 s
  else
    let s := b.wrIf (c != 0) (pgLEAF n) LEAF.SEQ_CMD.OPEN.off c s
    let (s, w) := b.rd (pgLEAF n) LEAF.SEQ_STAT.STATE.off s
    let (s, p) := b.rd (pgPOS n) POS.P.P.off s
    let f (x : Fld) : Nat := ofWord x w
    b.outs [f LEAF.SEQ_STAT.STATE, f LEAF.SEQ_STAT.DWST, f LEAF.SEQ_STAT.REL, f LEAF.SEQ_STAT.WARN, f LEAF.SEQ_STAT.BLOCK, p,
      b2n (f LEAF.SEQ_STAT.STATE == LeafState.fault.code)] s

/-- FN_DOORWAY: DW, OPEN, CLOSE, ACK, on the even page of the pair (R257). -/
def fnDoorway (b : BlkCall) (s : State) : State :=
  let n := 2 * b.get s 0
  let c := b.cmd s [(1, 0), (2, 1), (3, 4)]
  let s := b.keep [1, 2, 3] s
  if 8 ≤ n then b.noUnit 4 s
  else
    let s := b.wrIf (c != 0) (pgLEAF n) LEAF.SEQ_CMD.OPEN.off c s
    let (s, w) := b.rd (pgLEAF n) LEAF.SEQ_STAT.STATE.off s
    let (s, v) := b.rd (pgLEAF (n + 1)) LEAF.SEQ_STAT.STATE.off s
    b.outs [ofWord LEAF.SEQ_STAT.DWST w, ofWord LEAF.SEQ_STAT.STATE w, ofWord LEAF.SEQ_STAT.STATE v, ofWord LEAF.SEQ_STAT.WARN w] s

/-- FN_MOVE: LEAF, GO, TGT, SET, STOP, QSTOP, HSTOP. -/
def fnMove (b : BlkCall) (s : State) : State :=
  let n := b.get s 0
  let go := b.rise s 1
  let c := b.cmd s [(1, 4), (4, 5), (5, 6), (6, 7)]
  let tgt := b.get s 2
  let set := b.get s 3 % 4
  let s := b.keep [1, 4, 5, 6] s
  if 8 ≤ n then b.noUnit 3 s
  else
    let s := b.wrIf go (pgLEAF n) LEAF.MOVE_TGT.TGT.off tgt s
    let s := b.wrIf (c != 0) (pgLEAF n) LEAF.MOVE_CMD.GO.off (c + set) s
    let (s, w) := b.rd (pgLEAF n) LEAF.PRF_STAT.MOVING.off s
    let (s, done) := freeOut 121 s
    b.outs [ofWord LEAF.PRF_STAT.REFUSED w, done, ofWord LEAF.PRF_STAT.MOVING w] s

/-- FN_SPQ: LEAF, P, V, A, PUSH. -/
def fnSpq (b : BlkCall) (s : State) : State :=
  let n := b.get s 0
  let push := b.rise s 4
  let v (i : Nat) : Nat := b.get s i
  let s1 := b.keep [4] s
  if 8 ≤ n then b.noUnit 1 s1
  else
    let s1 := b.wrIf push (pgLEAF n) LEAF.SPQ_P.P.off (v 1) s1
    let s1 := b.wrIf push (pgLEAF n) LEAF.SPQ_V.V.off (v 2) s1
    let s1 := b.wrIf push (pgLEAF n) LEAF.SPQ_A.A.off (v 3) s1
    let (s1, w) := b.rd (pgLEAF n) LEAF.PRF_STAT.SPQLVL.off s1
    b.outs [ofWord LEAF.PRF_STAT.SPQLVL w] s1

/-- FN_STEP: STEP, EXTEND, RETRACT, INHIBIT, UNINH, HOME, ACK. -/
def fnStep (b : BlkCall) (s : State) : State :=
  let k := b.get s 0
  let c := b.cmd s [(1, 0), (2, 1), (3, 2), (4, 3), (5, 4), (6, 5)]
  let s := b.keep [1, 2, 3, 4, 5, 6] s
  if 4 ≤ k then b.noUnit 4 s
  else
    let s := b.wrIf (c != 0) (pgSTEP k) STEP.STP_CMD.EXTEND.off c s
    let (s, w) := b.rd (pgSTEP k) STEP.STP_STAT.STATE.off s
    b.outs [ofWord STEP.STP_STAT.STATE w, ofWord STEP.STP_STAT.RETR w, ofWord STEP.STP_STAT.EXTD w, ofWord STEP.STP_STAT.INHB w] s

/-- FN_DI: the 32 general inputs and the 16 safety inputs as frozen (R417). -/
def fnDi (b : BlkCall) (s : State) : State :=
  let (s, v) := b.rd (pgFIO 0) FIO.IN_FRZ.IN.off s
  let (s, w) := b.rd (pgFIO 1) FIO.IN_FRZ.IN.off s
  b.outs [v % 65536 + w % 65536 * 65536, bitsOf v 16 8 + bitsOf w 16 8 * 256] s

/-- FN_DO: CH, VAL; one bit of `DO_CMD`. -/
def fnDo (b : BlkCall) (s : State) : State :=
  let ch := b.get s 0
  if 16 ≤ ch then b.noUnit 1 s
  else
    let pg := pgFIO (ch / 8)
    let val := bit (b.get s 1) 0
    let (s, w) := b.rd pg FIO.DO_CMD.ON.off s
    let s := b.wrIf true pg FIO.DO_CMD.ON.off (setBit w (ch % 8) val) s
    let (s, st) := freeOut 122 s
    b.outs [st] s

/-- FN_LSW: CH, ON, CLR. -/
def fnLsw (b : BlkCall) (s : State) : State :=
  let ch := b.get s 0
  let on := bit (b.get s 1) 0
  let clr := b.rise s 2
  let s := b.keep [2] s
  if 12 ≤ ch then b.noUnit 2 s
  else
    let pg := pgLSW (ch / 6)
    let c := ch % 6
    let (s, w) := b.rd pg LSW.LS_CMD.ON.off s
    let s := b.wrIf true pg LSW.LS_CMD.ON.off (setBit w c on) s
    let s := b.wrIf clr pg LSW.LS_CLR.CLR.off (2 ^ c) s
    let (s, st) := b.rd pg (LSW.LS_STAT.STATE.at c).off s
    let (s, i) := b.rd pg (LSW.LS_I.I.at c).off s
    b.outs [st, ofWord LSW.LS_I.I i] s

/-- FN_STATION: STN, OUTW; the station's items of the images and the leaf-bus status item. -/
def fnStation (b : BlkCall) (s : State) : State :=
  let k := b.get s 0
  if 16 ≤ k then b.noUnit 3 s
  else
    let obj (f : Fld) : Option CanObj := canObj s.dev 0 (s.dev.get pgIMPO (f.at k))
    let inw := match obj IMPO.STN.RXOBJ with
      | some o => s.peek (frozenBank s.dev + o.iofs) 4
      | none => 0
    let mask := match s.dev.forme.map.find? fun it => !it.out && it.kind == 2 && it.idx == 0 && it.sub == 1 with
      | some it => s.peek (frozenBank s.dev + it.ofs) 4
      | none => 0
    let s := match obj IMPO.STN.TXOBJ with
      | some o => s.poke (workBank s.dev + o.iofs) 4 (b.get s 1)
      | none => s
    b.outs [inw, b2n (bit mask k), b2n (bit mask (16 + k))] s

/-- The input or output telegram item at an image offset. -/
def telegramAt (d : Dev) (out : Bool) (ofs : Nat) : Option ImgItem :=
  d.forme.map.find? fun it => it.out == out && it.kind == 0 && it.ofs == ofs

/-- FN_TRDP_PUB: ITEM, DATA; ITEM is the item's image offset. -/
def fnTrdpPub (b : BlkCall) (s : State) : State :=
  match telegramAt s.dev true (b.get s 0), b.pin 1 with
  | some it, some (a, n) =>
    { s with mem := Memory.putL sramEmpty s.mem (workBank s.dev + it.ofs) (Memory.getL sramEmpty s.mem a (min n it.len)) }
  | _, _ => s

/-- FN_TRDP_SUB: ITEM; the payload, with VALID and AGE of the TRDP status item (R486). -/
def fnTrdpSub (b : BlkCall) (s : State) : State :=
  let ofs := b.get s 0
  match telegramAt s.dev false ofs with
  | none => b.noUnit 3 s
  | some it =>
    let s := match b.pin 16 with
      | some (a, n) =>
        { s with mem := Memory.putL sramEmpty s.mem a (Memory.getL sramEmpty s.mem (frozenBank s.dev + ofs) (min n it.len)) }
      | none => s
    match findItem s.dev false 4 0, s.dev.net.trdp.subs.findIdx? fun x => x.d.iofs == ofs with
    | some st, some i =>
      let e := frozenBank s.dev + st.ofs + 16 + 8 * i
      b.put 18 (s.peek (e + 4) 4) (b.put 17 (s.peek e 1 % 2) s)
    | _, _ =>
      let (s, v) := freeOut 120 s
      let (s, a) := freeOut 120 s
      b.put 18 a (b.put 17 v s)

/-- FN_RECSTAT: FILL, LASTSEQ, STAT of the record status item (R522). -/
def fnRecstat (b : BlkCall) (s : State) : State :=
  match findItem s.dev false 6 0 with
  | some it =>
    let a := frozenBank s.dev + it.ofs
    b.outs [s.peek (a + 8) 2, s.peek a 4, s.peek (a + 10) 1] s
  | none => b.noUnit 3 s

/-- Whether an address lies in the register space (R406). -/
def regAddrIn (a : Nat) : Bool := decide (0x40000000 ≤ a) && decide (a < 0x40100000)

/-- FN_REGRD: ADDR, REQ (R406). -/
def fnRegrd (b : BlkCall) (s : State) : State :=
  let a := b.get s 0
  let go := b.rise s 1
  let s := b.keep [1] s
  if !go then s
  else if !regAddrIn a then b.put 18 1 (b.put 17 1 s)
  else
    let r := busRead b.src a 4 s
    b.outs [r.2.1, 1, b2n r.2.2] r.1

/-- FN_REGWR: ADDR, VAL, REQ (R406). -/
def fnRegwr (b : BlkCall) (s : State) : State :=
  let a := b.get s 0
  let v := b.get s 1
  let go := b.rise s 2
  let s := b.keep [2] s
  if !go then s
  else if !regAddrIn a then b.outs [1, 1] s
  else
    let r := busWrite b.src a 4 (v % 2 ^ 32) s
    b.outs [1, b2n (r.2 && (a % 4 != 0 || !heldOnly b.src a (v % 2 ^ 32) s))] r.1

/-- FN_FAULT: ACK acknowledges the entry at the head; `HEAD` stands at 0x044 and `FLT_STAT` at 0x058. -/
def fnFault (b : BlkCall) (s : State) : State :=
  let go := b.rise s 0
  let s := b.keep [0] s
  let (s, h) := b.rd pgFLT 0x044 s
  let s := b.wrIf go pgFLT FLT.ACK.ENTRY.off h s
  let (s, h) := b.rd pgFLT 0x044 s
  let (s, w) := b.rd pgFLT 0x058 s
  b.outs [h, bitsOf w 0 6, bitsOf w 31 1] s

/-- FN_CYCLE: CYCLE, DT, N, ERRINFO, DROPMASK. -/
def fnCycle (b : BlkCall) (s : State) : State :=
  let (s, c) := b.rd pgCLK CLK.CYCLE_CNT.COUNT.off s
  let (s, lo) := b.rd pgCLK CLK.CYCLE_DT_LO.DT_LO.off s
  let (s, hi) := b.rd pgCLK CLK.CYCLE_DT_HI.DT_HI.off s
  let (s, n) := b.rd pgFRM FRM.CYCLE_N.N.off s
  let (s, e) := b.rd pgFRM FRM.ERRINFO.DROP.off s
  b.outs [c, lo + hi * 4294967296, ofWord FRM.CYCLE_N.N n, e, bitsOf e 16 16] s

/-- The device block of a code. -/
def devBlock (type : Nat) : Option (BlkCall → State → State) :=
  if type = 0x8001 then some fnLeaf else if type = 0x8002 then some fnDoorway else if type = 0x8003 then some fnMove
  else if type = 0x8004 then some fnSpq else if type = 0x8005 then some fnStep else if type = 0x8010 then some fnDi
  else if type = 0x8011 then some fnDo else if type = 0x8012 then some fnLsw else if type = 0x8020 then some fnStation
  else if type = 0x8030 then some fnTrdpPub else if type = 0x8031 then some fnTrdpSub else if type = 0x8040 then some fnRecstat
  else if type = 0x8050 then some fnRegrd else if type = 0x8051 then some fnRegwr else if type = 0x8060 then some fnFault
  else if type = 0x8061 then some fnCycle else none

/-- CALL: a user block begins with its own instance and a frame to return to; a device block acts and is over in the call (R402,
R404, R406). More than 32 nested calls trap STACK; no such block traps BADOP. -/
def callOp (i : Nat) (s : State) : State :=
  match s.dev.current with
  | none => s
  | some t =>
    let h := taskHalf s.dev t
    let x := s.dev.task t
    if (formeHdr s h).nblk ≤ i then trapTask t 4 s
    else if 32 ≤ x.frames.length then trapTask t 3 s
    else
      let e := formeBlk s h i
      if e.type < 0x8000 then
        s.onDev (Dev.modTask t fun x => { x with frames := { blk := x.blk, ret := x.pc + 1 } :: x.frames, blk := i, pc := blkWord s h i })
      else match devBlock e.type with
        | none => trapTask t 4 s
        | some f =>
          let src := if safeBlock s then Src.runtimeSafe else Src.runtime
          let b : BlkCall := { type := e.type, base := regionBase (taskRegion s.dev t) + e.instOfs, len := e.instLen, src := src }
          (f b s).onDev (Dev.modTask t fun x => { x with pc := x.pc + 1 })

/-- What a CALL reads: its code word and, of a device block, the instance (R42). -/
def callReads (i : Nat) (s : State) : List (Nat × Nat) :=
  codeReads 1 s ++ (match s.dev.current with
    | some t =>
      let e := formeBlk s (taskHalf s.dev t) i
      if e.type < 0x8000 then [] else [(regionBase (taskRegion s.dev t) + e.instOfs, e.instLen)]
    | none => [])

/-- OP_CALL (R404, R406). -/
def execOpCall (block : BitVec 20) (s : State) : Host.Outcome State Fault Refusal :=
  doState (State.live (reading (callReads block.toNat) (callOp block.toNat))) s

end Sys2Proof.Machine
end

