-- ==== Sys2Proof/Machine/Grid.lean ====
section
/-! DEFINITION. The motion time grid: valleys, servo boundaries and program-cycle boundaries, with what each sets going in its
order (R25, R33 to R38, R59, R387), and the idle cycle. -/

namespace Sys2Proof.Machine

/-! Time. -/

/-- `n` FABCLK cycles pass: MOTCLK and FABCLK run alike at 250 MHz, device time advances 4 ns a cycle under its trim (R37); it
stands still after a loss of lock (R30). -/
def TimeX.pass (n : Nat) (t : TimeX) : TimeX :=
  let dt := (t.dtF : Int) + n * (4000000000 + 4 * t.ppb)
  { t with mot := t.mot + n, dtF := if t.bk then t.dtF else dt.toNat }

/-- One PWM period in MOTCLK counts. -/
abbrev pwmMot : Nat := 8000

/-- GRID_START (R35): the first valley after the motion engines are enabled. The forme runs from there (R401). -/
def gridStart (d : Dev) : Dev :=
  if d.tim.grid || !d.tim.enabled then d
  else
    let d := { d with tim := { d.tim with grid := true, started := false, cycled := false, valley := d.tim.mot } }
    publishForme { d with forme := { d.forme with st := if d.forme.st = 1 then 2 else d.forme.st } }

/-- The grid reaches its next valley: the indices advance, and the boundaries that fall on it become due (R34, R35). The valley at
which the counter starts is the first of each. -/
def nextValley (d : Dev) : Dev :=
  if !d.tim.started then
    let d := (d.put pgCLK CLK.GRID.PWM 0).put pgCLK CLK.GRID.SERVO 0
    { d with tim := { d.tim with started := true, servoDue := true, cycleDue := true } }
  else
    let v := d.tim.valley + pwmMot
    let d := { d with tim := { (d.tim.pass (v - d.tim.mot)) with valley := v } }
    let p := (d.get pgCLK CLK.GRID.PWM + 1) % 8
    let d := d.put pgCLK CLK.GRID.PWM p
    if p ≠ 0 then d
    else
      let k := (d.get pgCLK CLK.GRID.SERVO + 1) % max 1 (d.get pgFRM FRM.CYCLE_N.N)
      let d := d.put pgCLK CLK.GRID.SERVO k
      { d with tim := { d.tim with servoDue := true, cycleDue := d.tim.cycleDue || k == 0 } }

/-! A PWM period. -/

/-- What goes wrong in the engines and pre-drivers in the period that ends (R67, R101). -/
def pwmFaults (e : PwmEnv) (d : Dev) : Dev :=
  let d := d.each (d.axes.filter fun a => e.residue.getLsbD a) residueHit
  d.each (d.axes.flatMap fun a => (List.range 4).map fun p => (a, p)) fun k d =>
    if e.xcmd.getLsbD (4 * k.1 + k.2) then xcmdHit k.1 k.2 d else d

/-- What a leaf axis does at its valley (R63, R76 to R88, R91, R108, R148, R179, R201): the hard stop, the feedback latch, the end of a
servo period's clamp count, and the PWM period. The new current reference of a servo boundary comes into use at the valley after it. -/
def leafValley (n : Nat) (d : Dev) : Dev :=
  let p := d.get pgCLK CLK.GRID.PWM
  let d := takeHard n (if p = 1 then takeIq n d else d)
  let d := if posOn d n then posPwm n d else d
  let d := prechargeStep n d
  obsPwm n (pwmLeaf n (if p = 0 then vlimCount n d else d))

/-- What a step axis does at its valley (R201, R267 to R275). -/
def stepValley (k : Nat) (d : Dev) : Dev :=
  let d := if posOn d (8 + k) then posPwm (8 + k) d else d
  pwmStep d.tim.chop k (prechargeStep (8 + k) d)

/-- What follows the last axis valley of a period: the emulation ports (R226), the record of peaks, the count of link frames (R15). -/
def valleyTail (d : Dev) : Dev := recPwm (linkPwm (d.each [0, 1, 2, 3] emuPwm))

/-- The next axis whose valley of the present period is to come: the earliest, then the lowest number. -/
def nextAxis (d : Dev) : Option Nat :=
  ((List.range 12).filter (bit d.tim.axv)).foldl (fun b a =>
    match b with
    | some c => if axisValley d a < axisValley d c then some a else b
    | none => some a) none

/-- Time passes up to a MOTCLK count. -/
def passTo (t : Nat) (d : Dev) : Dev := { d with tim := d.tim.pass (t - d.tim.mot) }

/-- The axis valleys that have come act, in the order of their time; with `all`, time passes up to the last of the period. -/
def runAxes (all : Bool) : Nat → Dev → Dev
  | 0, d => d
  | n + 1, d =>
    match nextAxis d with
    | none => d
    | some a =>
      if !all && decide (d.tim.mot < axisValley d a) then d
      else
        let d := passTo (axisValley d a) d
        let d := { d with tim := { d.tim with axv := setBit d.tim.axv a false } }
        let d := if a < 8 then leafValley a d else stepValley (a - 8) d
        runAxes all n (if d.tim.axv = 0 then valleyTail d else d)

/-- The period's axis valleys are over: what follows by its place in the period finds them done (table "Timing within one PWM
period"). -/
def settleAxes (d : Dev) : Dev := runAxes true 12 d

/-- PWM_PERIOD_START (R33, R63, R66, R151): every valley of the grid. The limit switches and safety edges are read, and each axis acts
at its own valley. A HALT frame on its way since the latest valley has arrived by now (R298). -/
def pwmPeriod (e : PwmEnv) (d : Dev) : Dev :=
  if !d.tim.grid then d
  else
    let d := pwmFaults e (nextValley (pFrameHalt (settleAxes d)))
    let d := d.each d.leaves fun n d => edgePwm n (switchPwm n (limPwm n d))
    let d := { d with tim := { d.tim with axv := d.axes.foldl (fun m a => setBit m a true) 0, chop := e.chop.toNat } }
    runAxes false 12 (if d.tim.axv = 0 then valleyTail d else d)

/-- FIELD_LINK_FRAME (R14, R15): the frames of a period start after its last axis valley. -/
def execFieldLinkFrame (die : DieNo) (f : LinkFrame) (s : State) : Host.Outcome State Fault Refusal :=
  doDev (fun d => fieldLinkFrame die.val f (Dev.live settleAxes d)) s

/-! A program-cycle boundary. -/

/-- The clock registers of a boundary change together; the first boundary is not counted (R59). -/
def cycleClock (d : Dev) : Dev :=
  let d := (d.put pgCLK CLK.CYCLE_DT_LO.DT_LO d.dt).put pgCLK CLK.CYCLE_DT_HI.DT_HI (d.dt / 2 ^ 32)
  let d := if d.tim.cycled then d.inc pgCLK CLK.CYCLE_CNT.COUNT else d
  { d with tim := { d.tim with cycled := true } }

/-- The input word of station `k` in the frozen bank (R179). -/
def stationWord (s : State) (k : Nat) : Nat :=
  match canObj s.dev 0 (s.dev.get pgIMPO (IMPO.STN.RXOBJ.at k)) with
  | some o => s.peek (frozenBank s.dev + o.iofs) 4
  | none => 0

/-- The latched and enabled events of the data-plane pages go into the status words of the input image (R51). The layouts of the
status items that the manual gives hold no place for them, so State holds the words beside the image (assumption log 68). -/
def freezeEvents (d : Dev) : Dev :=
  let l := ((evPages d).filter fun pg => (unitOf pg).any fun u => u.plane == .data).map fun pg =>
    (pg, d.get pg HDR.EV_EN &&& d.get pg HDR.EV_STAT)
  { d with forme := { d.forme with evWords := l } }

/-- The input freeze: the status items are written, the inputs are copied and the banks swap (R20, R21, R51, R417). -/
def inputFreeze (s : State) : State :=
  let s := recFreeze (trdpFreeze (lbFreeze ([0, 1, 2].foldl (fun s c => canFreeze c s) s)))
  let s := freezeBanks (s.onDev fun d => freezeEvents (freezeInputs d))
  s.onDev fun d => d.each d.leaves (edgeFreeze (stationWord s))

/-- The means of the ending cycle (R104, R105, R192). -/
def cycleMeans (d : Dev) : Dev := d.each d.leaves fun n d => obsBoundary n (avgBoundary n d)

/-- PROGRAM_CYCLE_BOUNDARY (R25): the output commit, the staged values, the input freeze; around them the clock, the steps of device
time, a new orientation (R261), a proof that is due (R351), the online change, the fold, the fault head and the data plane's cycle; then a reset that waits for rest (R558). -/
def programBoundary (s : State) : State :=
  if !s.dev.tim.cycleDue then s
  else
    let s := s.onDev fun d => cycleMeans { d with tim := { d.tim with cycleDue := false } }
    let ended := commitEntitled s.dev
    let s := (outputCommit s).onDev fun d => { d with forme := { d.forme with outSafe := safeValues d } }
    let s := if ended then [0, 1, 2].foldl (fun s c => canCommitOut c s) s else s
    let s := impressionSwitch (boundaryCommit (s.onDev lbNewMatEnd))
    let s := s.onDev fun d => cycleClock (dtBoundary d)
    let (s, go) := switchCheck ended s
    let s := inputFreeze s
    let s := if go then formeSelect (formeSwitch s) else s
    let s := s.onDev fun d =>
      let d := fltBoundary (boundaryTasks (proofStart (prooflate (orientationApply d))))
      let d := if d.imd.halted then d else foldPoint d
      trdpBoundary d
    quietReset (lbBoundary s)

/-! A servo boundary. -/

/-- The leaves, leaders of formed ligatures before their followers (R141). -/
def leadersFirst (d : Dev) : List Nat := d.leaves.filter (fun n => !isFollower d n) ++ d.leaves.filter (isFollower d)

/-- The pages that wait for leaf rest apply at a servo boundary at which their leaf is at rest (R56, R554). -/
def restPagesApply (s : State) : State := s.dev.leaves.foldl (fun s n => deferredApply n (restCommit n s)) s

/-- The axes, leaves and functions at a servo boundary. -/
def servoStages (s : State) : State :=
  let s := s.onDev fun d =>
    let d := { d with tim := { d.tim with servoDue := false } }
    let d := d.each (d.axes.filter fun a => posOn d a || (d.fbk a).valid) posServo
    let d := d.each d.steps stepServo
    let d := d.each (leadersFirst d) setPointLeaf
    let d := (d.each [0, 1, 2, 3] ligServo).each d.leaves publishProfile
    let d := d.each d.leaves fun n d => servoLoop n (iqLimits d n) d
    let d := d.each d.leaves obsServo
    let d := seqServo d
    let d := d.each d.leaves leafParkCheck
    let d := recServo d
    let d := lowStops (safeServo d)
    { d with forme := { d.forme with msDue := !d.forme.noMs, noMs := false } }
  formeServo s

/-- SERVO_PERIOD_BOUNDARY (R387 and the chapters of its parts), after the commit of a program-cycle boundary at the same valley
(R120), the pages that wait for leaf rest and the axis valleys of its period (R91, R201): feedback, steps, set-points, servo loops, observers, sequencers,
records, system work with the P-frame, maintenance and forces. -/
def servoBoundary (s : State) : State :=
  if !s.dev.tim.servoDue then s
  else
    let s := servoUpsets (if s.dev.tim.cycleDue then programBoundary s else s)
    if s.dev.boot.up then servoStages ((restPagesApply s).onDev settleAxes) else s

/-! The idle cycle. -/

/-- With no command waiting, one FABCLK cycle passes (assumption log 33): time stops short of the next valley, which
PWM_PERIOD_START brings, while the grid runs (R30); the axis valleys that come act (R63), the external Ethernet ports send (R477). A HALT
frame that waits with no period to come reaches the Platen die (R298), and the init task meets t_INIT (R401). -/
def idle (s : State) : State :=
  teleWork <| s.onDev fun d =>
    let t := d.tim
    let held := t.grid && t.started && !t.bk && decide (t.valley + pwmMot ≤ t.mot + 1)
    let d := initTimeout (if held then d else { d with tim := t.pass 1 })
    let d := if t.grid && t.started && !t.bk then d else pFrameHalt d
    if d.alive then ethDrain (runAxes false 12 d) else d

/-! The commands. -/

/-- GRID_START. -/
def execGridStart (s : State) : Host.Outcome State Fault Refusal := doDev (Dev.live gridStart) s

/-- PWM_PERIOD_START. -/
def execPwmPeriodStart (e : PwmEnv) (s : State) : Host.Outcome State Fault Refusal := doDev (Dev.live (pwmPeriod e)) s

/-- SERVO_PERIOD_BOUNDARY. -/
def execServoPeriodBoundary (s : State) : Host.Outcome State Fault Refusal := doState (State.live servoBoundary) s

/-- PROGRAM_CYCLE_BOUNDARY. -/
def execProgramCycleBoundary (s : State) : Host.Outcome State Fault Refusal := doState (State.live programBoundary) s

end Sys2Proof.Machine
end

