-- ==== Sys2Proof/Machine/Channels.lean ====
section
/-! DEFINITION. The commands of the two-channel safety function: frames of the Platen link, events of the Platen die, which needs
no running core die, and events of the processor channel, which does. -/

namespace Sys2Proof.Machine

/-- Bit of an input in the two-channel vector. -/
def inBit : SafeIn → Nat
  | .si n => n.val
  | .tli n => 16 + n.val
  | .mir n => 20 + n.val

/-- Make a change on the Platen die, or on the core die while it runs. -/
def byDie (platen : Bool) (f : Dev → Dev) (d : Dev) : Dev := if platen then f d else Dev.live f d

/-- A discrepancy in both channels; in the Platen die alone while the core die does not run (R308). -/
def discrepancyBoth (i : Nat) (d : Dev) : Dev := if d.alive then discrepancy i d else pltDiscrepancy i d

/-- Q_FRAME_SEND (R595). -/
def execQFrameSend (s : State) : Host.Outcome State Fault Refusal := doDev qFrameSend s

/-- Q_FRAME_RECEIVE (R595). -/
def execQFrameReceive (good : Bool) (s : State) : Host.Outcome State Fault Refusal := doDev (Dev.live (qFrameReceive good)) s

/-- ORIMIS (R329). -/
def execOrimis (s : State) : Host.Outcome State Fault Refusal := doDev (Dev.live orimis) s

/-- P_FRAME_STATUS (R294). -/
def execPFrameStatus (good : Bool) (s : State) : Host.Outcome State Fault Refusal := doDev (pFrameStatus good) s

/-- P_FRAME_CONFIG (R324). -/
def execPFrameConfig (idx : Fin 8) (bytes : List Byte) (s : State) : Host.Outcome State Fault Refusal := doDev (Dev.live (pFrameConfig idx.val (bytes.map (·.toNat)))) s

/-- P_FRAME_TEST (R327). -/
def execPFrameTest (code : Fin 4) (arg : Fin 8) (s : State) : Host.Outcome State Fault Refusal := doDev (Dev.live (pFrameTest code.val arg.val)) s

/-- P_FRAME_RUN (R294). -/
def execPFrameRun (s : State) : Host.Outcome State Fault Refusal := doDev (Dev.live pFrameRun) s

/-- P_FRAME_RESTART (R294). -/
def execPFrameRestart (s : State) : Host.Outcome State Fault Refusal := doDev (Dev.live pFrameRestart) s

/-- P_FRAME_HALT (R298). -/
def execPFrameHalt (s : State) : Host.Outcome State Fault Refusal := doDev (Dev.when_ (·.boot.up) pFrameHalt) s

/-- XLINK (R296). -/
def execXlink (s : State) : Host.Outcome State Fault Refusal := doDev (Dev.live xlink) s

/-- P_FRAME_LOSS (R297). -/
def execPFrameLoss (s : State) : Host.Outcome State Fault Refusal := doDev pFrameLoss s

/-- VPLT_VALID (R299). -/
def execVpltValid (s : State) : Host.Outcome State Fault Refusal := doDev vpltValid s

/-- VPLT_LOW (R300). -/
def execVpltLow (s : State) : Host.Outcome State Fault Refusal := doDev vpltLow s

/-- PLATEN_INPUT_ACCEPT (R304). -/
def execPlatenInputAccept (i : SafeIn) (level : Bool) (s : State) : Host.Outcome State Fault Refusal := doDev (pltAccept i level) s

/-- PLATEN_HALL_CHANGE (R316). -/
def execPlatenHallChange (leaf : LeafNo) (code : BitVec 3) (s : State) : Host.Outcome State Fault Refusal := doDev (pltHall leaf.val code.toNat) s

/-- PLATEN_RECORD_CRC_CHECK (R326). -/
def execPlatenRecordCrcCheck (corrupt : Bool) (s : State) : Host.Outcome State Fault Refusal := doDev (recordCrcCheck corrupt) s

/-- PLATEN_COMPARATOR_CHECK (R595). -/
def execPlatenComparatorCheck (pass : Bool) (s : State) : Host.Outcome State Fault Refusal := doDev (comparatorCheck pass) s

/-- STATE_ENCODING_CHECK (R595). -/
def execStateEncodingCheck (s : State) : Host.Outcome State Fault Refusal := doDev stateEncodingCheck s

/-- DARK_PULSE (R305). -/
def execDarkPulse (tpo : Fin 8) (falls : W16) (s : State) : Host.Outcome State Fault Refusal := doDev (darkPulse tpo.val falls.toNat) s

/-- DISCREPANCY (R308). -/
def execDiscrepancy (i : SafeIn) (s : State) : Host.Outcome State Fault Refusal := doDev (discrepancyBoth (inBit i)) s

/-- XDEC (R310). -/
def execXdec (s : State) : Host.Outcome State Fault Refusal := doDev (Dev.live xdec) s

/-- LOOP_CLOSE_DELAY (R313). -/
def execLoopCloseDelay (left : Bool) (platen : Bool) (s : State) : Host.Outcome State Fault Refusal := doDev (byDie platen (loopCloseDelay left platen)) s

/-- MIRROR_CHECK (R314). -/
def execMirrorCheck (relay : Fin 4) (s : State) : Host.Outcome State Fault Refusal := doDev (byDie (relay.val % 2 == 1) (mirrorCheck relay.val)) s

/-- COIL_READBACK (R315). -/
def execCoilReadback (relay : Fin 4) (on : Bool) (s : State) : Host.Outcome State Fault Refusal := doDev (byDie (relay.val % 2 == 1) (coilReadback relay.val on)) s

/-- LOCK_SWITCH_TEST (R319). -/
def execLockSwitchTest (leaf : LeafNo) (high : Bool) (s : State) : Host.Outcome State Fault Refusal := doDev (Dev.live (lockSwitchTest leaf.val high)) s

/-- LOCK_TEST_PULSE_END (R319). -/
def execLockTestPulseEnd (leaf : LeafNo) (milliamps : W16) (s : State) : Host.Outcome State Fault Refusal := doDev (Dev.live (lockTestPulseEnd leaf.val milliamps.toNat)) s

/-- HOLDING_TEST_START (R320). -/
def execHoldingTestStart (leaf : LeafNo) (s : State) : Host.Outcome State Fault Refusal := doDev (Dev.live (holdingTestStart leaf.val)) s

/-- HOLDING_TEST_END (R320). -/
def execHoldingTestEnd (leaf : LeafNo) (s : State) : Host.Outcome State Fault Refusal := doDev (Dev.live (holdingTestEnd leaf.val)) s

/-- SEAL_SCAN (R321). -/
def execSealScan (word : SealRead) (off : W16) (s : State) : Host.Outcome State Fault Refusal :=
  doDev (Dev.live (sealScan word.both.toNat word.onlyA.toNat word.onlyB.toNat off.toNat)) s

/-- PCRBAD (R324). -/
def execPcrbad (s : State) : Host.Outcome State Fault Refusal := doDev (Dev.live pcrbad) s

end Sys2Proof.Machine
end

