-- ==== Sys2Proof/Machine/Commands.lean ====
section
/-! DEFINITION. The commands that are one access to a register: each is the write, or the read, of its register by its source,
with every check of the fabric. -/

namespace Sys2Proof.Machine

/-- REGISTER_WRITE (R10 to R12, R26 to R28, R41, R45, R54, R58). -/
def execRegisterWrite (src : Src) (addr : W32) (size : Fin 5) (val : W32) (s : State) : Host.Outcome State Fault Refusal :=
  doState (fun s => (busWrite src addr.toNat size.val val.toNat s).1) s

/-- REGISTER_READ (R6, R7, R10 to R12, R39, R41, R58): the value read leaves the fabric. -/
def execRegisterRead (src : Src) (addr : W32) (size : Fin 5) (s : State) : Host.Outcome State Fault Refusal :=
  doState (fun s => tellRead (busRead src addr.toNat size.val s)) s

/-- SYS_DT_LO_READ (R39). -/
def execSysDtLoRead (src : Src) (s : State) : Host.Outcome State Fault Refusal :=
  doState (fun s => tellRead (busRead src (regAddr pgSYS 0x050) 4 s)) s

/-- EV_SET_WRITE (R49, table "Event registers"). -/
def execEvSetWrite (src : Src) (page : BitVec 8) (val : W32) (s : State) : Host.Outcome State Fault Refusal :=
  doState (fun s => (busWrite src (regAddr page.toNat 0x02C) 4 val.toNat s).1) s

/-- SH_CTRL_COMMIT (R52, R54). -/
def execShCtrlCommit (src : Src) (page : BitVec 8) (cpsel : BitVec 4) (s : State) : Host.Outcome State Fault Refusal :=
  doState (fun s => (busWrite src (regAddr page.toNat 0x030) 4 (16 * cpsel.toNat + 1) s).1) s

/-- SH_CTRL_ABORT (R53, R57): the write carries the CPSEL that stands. -/
def execShCtrlAbort (src : Src) (page : BitVec 8) (s : State) : Host.Outcome State Fault Refusal :=
  doState (fun s => (busWrite src (regAddr page.toNat 0x030) 4 (16 * s.dev.get page.toNat HDR.CPSEL + 2) s).1) s

/-- Offset of `DRV_CTRL` on the drive page of an axis. -/
def drvCtrlFld (a : Nat) : Fld := if a < 8 then LEAF.DRV_CTRL.CAL else STEP.DRV_CTRL.CAL

/-- DRV_CTRL_CAL (R110). -/
def execDrvCtrlCal (src : Src) (leaf : LeafNo) (s : State) : Host.Outcome State Fault Refusal :=
  doState (wr src (pgLEAF leaf.val) LEAF.DRV_CTRL.CAL 1) s

/-- STEP_DRV_CTRL_CAL (R268). -/
def execStepDrvCtrlCal (src : Src) (step : StepNo) (s : State) : Host.Outcome State Fault Refusal :=
  doState (wr src (pgSTEP step.val) STEP.DRV_CTRL.CAL 1) s

/-- DRV_CTRL_CLRLATCH (R106). -/
def execDrvCtrlClrlatch (src : Src) (axis : AxisNo) (s : State) : Host.Outcome State Fault Refusal :=
  doState (wr src (pgDRV axis.val) (drvCtrlFld axis.val) 2) s

/-- DRV_CTRL_CLRCNT (R106). -/
def execDrvCtrlClrcnt (src : Src) (axis : AxisNo) (s : State) : Host.Outcome State Fault Refusal :=
  doState (wr src (pgDRV axis.val) (drvCtrlFld axis.val) 4) s

/-- MOVE_CMD_GO (R134). -/
def execMoveCmdGo (src : Src) (leaf : LeafNo) (set : Fin 4) (s : State) : Host.Outcome State Fault Refusal :=
  doState (wr src (pgLEAF leaf.val) LEAF.MOVE_CMD.GO (16 + set.val)) s

/-- MOVE_CMD_STOP (R149). -/
def execMoveCmdStop (src : Src) (leaf : LeafNo) (s : State) : Host.Outcome State Fault Refusal :=
  doState (wr src (pgLEAF leaf.val) LEAF.MOVE_CMD.STOP 32) s

/-- MOVE_CMD_QSTOP (R149). -/
def execMoveCmdQstop (src : Src) (leaf : LeafNo) (s : State) : Host.Outcome State Fault Refusal :=
  doState (wr src (pgLEAF leaf.val) LEAF.MOVE_CMD.QSTOP 64) s

/-- MOVE_CMD_HSTOP (R148). -/
def execMoveCmdHstop (src : Src) (leaf : LeafNo) (s : State) : Host.Outcome State Fault Refusal :=
  doState (wr src (pgLEAF leaf.val) LEAF.MOVE_CMD.HSTOP 128) s

/-- SPQ_A_PUSH (R136, R139). -/
def execSpqAPush (src : Src) (leaf : LeafNo) (a : W32) (s : State) : Host.Outcome State Fault Refusal :=
  doState (wr src (pgLEAF leaf.val) LEAF.SPQ_A.A a.toNat) s

/-- OBS_CTRL_REBASE (R191). -/
def execObsCtrlRebase (src : Src) (leaf : LeafNo) (s : State) : Host.Outcome State Fault Refusal :=
  doState (wr src (pgOBS leaf.val) OBS.OBS_CTRL.REBASE 2) s

/-- OBS_CTRL_CLRDET (R180). -/
def execObsCtrlClrdet (src : Src) (leaf : LeafNo) (s : State) : Host.Outcome State Fault Refusal :=
  doState (wr src (pgOBS leaf.val) OBS.OBS_CTRL.CLRDET 1) s

/-- POS_CTRL_SETREF (R206). -/
def execPosCtrlSetref (src : Src) (axis : AxisNo) (s : State) : Host.Outcome State Fault Refusal :=
  doState (wr src (pgPOS axis.val) POS.POS_CTRL.SETREF 1) s

/-- POS_CTRL_CLRFLT (R214). -/
def execPosCtrlClrflt (src : Src) (axis : AxisNo) (s : State) : Host.Outcome State Fault Refusal :=
  doState (wr src (pgPOS axis.val) POS.POS_CTRL.CLRFLT 2) s

/-- POS_CTRL_CLRCNT (R214). -/
def execPosCtrlClrcnt (src : Src) (axis : AxisNo) (s : State) : Host.Outcome State Fault Refusal :=
  doState (wr src (pgPOS axis.val) POS.POS_CTRL.CLRCNT 4) s

/-- SEQ_CMD_OPEN (R243). -/
def execSeqCmdOpen (src : Src) (leaf : LeafNo) (s : State) : Host.Outcome State Fault Refusal :=
  doState (wr src (pgLEAF leaf.val) LEAF.SEQ_CMD.OPEN 1) s

/-- SEQ_CMD_CLOSE (R242). -/
def execSeqCmdClose (src : Src) (leaf : LeafNo) (s : State) : Host.Outcome State Fault Refusal :=
  doState (wr src (pgLEAF leaf.val) LEAF.SEQ_CMD.CLOSE 2) s

/-- SEQ_CMD_LEARN (R253). -/
def execSeqCmdLearn (src : Src) (leaf : LeafNo) (s : State) : Host.Outcome State Fault Refusal :=
  doState (wr src (pgLEAF leaf.val) LEAF.SEQ_CMD.LEARN 4) s

/-- SEQ_CMD_REFRUN (R255). -/
def execSeqCmdRefrun (src : Src) (leaf : LeafNo) (s : State) : Host.Outcome State Fault Refusal :=
  doState (wr src (pgLEAF leaf.val) LEAF.SEQ_CMD.REFRUN 8) s

/-- SEQ_CMD_ACK (R244). -/
def execSeqCmdAck (src : Src) (leaf : LeafNo) (s : State) : Host.Outcome State Fault Refusal :=
  doState (wr src (pgLEAF leaf.val) LEAF.SEQ_CMD.ACK 16) s

/-- SEQ_CMD_CLRSUSP (R238). -/
def execSeqCmdClrsusp (src : Src) (leaf : LeafNo) (s : State) : Host.Outcome State Fault Refusal :=
  doState (wr src (pgLEAF leaf.val) LEAF.SEQ_CMD.CLRSUSP 32) s

/-- STP_CMD_EXTEND (R285). -/
def execStpCmdExtend (src : Src) (step : StepNo) (s : State) : Host.Outcome State Fault Refusal :=
  doState (wr src (pgSTEP step.val) STEP.STP_CMD.EXTEND 1) s

/-- STP_CMD_RETRACT (R283). -/
def execStpCmdRetract (src : Src) (step : StepNo) (s : State) : Host.Outcome State Fault Refusal :=
  doState (wr src (pgSTEP step.val) STEP.STP_CMD.RETRACT 2) s

/-- STP_CMD_INHIBIT (R285). -/
def execStpCmdInhibit (src : Src) (step : StepNo) (s : State) : Host.Outcome State Fault Refusal :=
  doState (wr src (pgSTEP step.val) STEP.STP_CMD.INHIBIT 4) s

/-- STP_CMD_UNINH (R285). -/
def execStpCmdUninh (src : Src) (step : StepNo) (s : State) : Host.Outcome State Fault Refusal :=
  doState (wr src (pgSTEP step.val) STEP.STP_CMD.UNINH 8) s

/-- STP_CMD_HOME (R286). -/
def execStpCmdHome (src : Src) (step : StepNo) (s : State) : Host.Outcome State Fault Refusal :=
  doState (wr src (pgSTEP step.val) STEP.STP_CMD.HOME 16) s

/-- STP_CMD_ACK (R285). -/
def execStpCmdAck (src : Src) (step : StepNo) (s : State) : Host.Outcome State Fault Refusal :=
  doState (wr src (pgSTEP step.val) STEP.STP_CMD.ACK 32) s

/-- STP_CMD_STOP (R280). -/
def execStpCmdStop (src : Src) (step : StepNo) (s : State) : Host.Outcome State Fault Refusal :=
  doState (wr src (pgSTEP step.val) STEP.STP_CMD.STOP 64) s

/-- STP_CMD_QSTOP (R280). -/
def execStpCmdQstop (src : Src) (step : StepNo) (s : State) : Host.Outcome State Fault Refusal :=
  doState (wr src (pgSTEP step.val) STEP.STP_CMD.QSTOP 128) s

/-- STP_CMD_HSTOP (R280). -/
def execStpCmdHstop (src : Src) (step : StepNo) (s : State) : Host.Outcome State Fault Refusal :=
  doState (wr src (pgSTEP step.val) STEP.STP_CMD.HSTOP 256) s

/-- STP_CMD_CLRSUSP (R281). -/
def execStpCmdClrsusp (src : Src) (step : StepNo) (s : State) : Host.Outcome State Fault Refusal :=
  doState (wr src (pgSTEP step.val) STEP.STP_CMD.CLRSUSP 512) s

/-- SAFE_CTRL_TCLR (R307): the write carries the LMASK that stands. -/
def execSafeCtrlTclr (src : Src)  (s : State) : Host.Outcome State Fault Refusal :=
  doState (fun s => wr src pgSAFE SAFE.SAFE_CTRL.LMASK (256 * s.dev.get pgSAFE SAFE.SAFE_CTRL.LMASK + 16) s) s

/-- SAFE_CTRL_DCLR (R309): the write carries the LMASK that stands. -/
def execSafeCtrlDclr (src : Src)  (s : State) : Host.Outcome State Fault Refusal :=
  doState (fun s => wr src pgSAFE SAFE.SAFE_CTRL.LMASK (256 * s.dev.get pgSAFE SAFE.SAFE_CTRL.LMASK + 1) s) s

/-- SAFE_CTRL_MCLR (R314): the write carries the LMASK that stands. -/
def execSafeCtrlMclr (src : Src)  (s : State) : Host.Outcome State Fault Refusal :=
  doState (fun s => wr src pgSAFE SAFE.SAFE_CTRL.LMASK (256 * s.dev.get pgSAFE SAFE.SAFE_CTRL.LMASK + 4) s) s

/-- SAFE_CTRL_GCLR (R317). -/
def execSafeCtrlGclr (src : Src) (lmask : BitVec 8) (s : State) : Host.Outcome State Fault Refusal :=
  doState (wr src pgSAFE SAFE.SAFE_CTRL.LMASK (256 * lmask.toNat + 2)) s

/-- SAFE_CTRL_HTREQ (R320). -/
def execSafeCtrlHtreq (src : Src) (lmask : BitVec 8) (s : State) : Host.Outcome State Fault Refusal :=
  doState (wr src pgSAFE SAFE.SAFE_CTRL.LMASK (256 * lmask.toNat + 8)) s

/-- SVC_KICK (R361). -/
def execSvcKick (src : Src) (val : BitVec 2) (s : State) : Host.Outcome State Fault Refusal :=
  doState (wr src pgSVC SVC.SVC_KICK.KICK0 val.toNat) s

/-- DTSET_CTRL_SET (R362). -/
def execDtsetCtrlSet (src : Src)  (s : State) : Host.Outcome State Fault Refusal :=
  doState (wr src pgSVC SVC.DTSET_CTRL.SET 1) s

/-- FLT_ACK (R378). -/
def execFltAck (src : Src) (val : W32) (s : State) : Host.Outcome State Fault Refusal :=
  doState (wr src pgFLT FLT.ACK.ENTRY val.toNat) s

/-- TASK_CTRL_CLRCNT (R414). -/
def execTaskCtrlClrcnt (src : Src)  (s : State) : Host.Outcome State Fault Refusal :=
  doState (wr src pgFRM FRM.TASK_CTRL.CLRCNT 1) s

/-- TPO_CLR (R420). -/
def execTpoClr (src : Src) (die : DieNo) (mask : BitVec 4) (s : State) : Host.Outcome State Fault Refusal :=
  doState (wr src (pgFIO die.val) FIO.TPO_CLR.CLR mask.toNat) s

/-- DO_CLR (R426). -/
def execDoClr (src : Src) (die : DieNo) (mask : BitVec 8) (s : State) : Host.Outcome State Fault Refusal :=
  doState (wr src (pgFIO die.val) FIO.DO_CLR.CLR mask.toNat) s

/-- LS_CLR_CLR (R429). -/
def execLsClrClr (src : Src) (die : DieNo) (mask : BitVec 6) (s : State) : Host.Outcome State Fault Refusal :=
  doState (wr src (pgLSW die.val) LSW.LS_CLR.CLR mask.toNat) s

/-- LS_CLR_CLRTH (R432). -/
def execLsClrClrth (src : Src) (die : DieNo) (mask : BitVec 6) (s : State) : Host.Outcome State Fault Refusal :=
  doState (wr src (pgLSW die.val) LSW.LS_CLR.CLR (256 * mask.toNat)) s

/-- LK_CLR (R437). -/
def execLkClr (src : Src) (die : DieNo) (mask : BitVec 4) (s : State) : Host.Outcome State Fault Refusal :=
  doState (wr src (pgFIO die.val) FIO.LK_CLR.CLR mask.toNat) s

/-- FIO_CTRL_RELEASE (R444). -/
def execFioCtrlRelease (src : Src) (die : DieNo) (s : State) : Host.Outcome State Fault Refusal :=
  doState (wr src (pgFIO die.val) FIO.FIO_CTRL.RELEASE 1) s

/-- CFG_CTRL_SWITCH (R553). -/
def execCfgCtrlSwitch (src : Src)  (s : State) : Host.Outcome State Fault Refusal :=
  doState (wr src pgCFG CFG.CFG_CTRL.SWITCH 1) s

/-- CFG_CTRL_RSTREQ (R558). -/
def execCfgCtrlRstreq (src : Src)  (s : State) : Host.Outcome State Fault Refusal :=
  doState (wr src pgCFG CFG.CFG_CTRL.SWITCH 2) s

/-- CFG_CTRL_CANCEL (R555, R558). -/
def execCfgCtrlCancel (src : Src)  (s : State) : Host.Outcome State Fault Refusal :=
  doState (wr src pgCFG CFG.CFG_CTRL.SWITCH 4) s

/-- CFG_CTRL_CONFIRM (R557). -/
def execCfgCtrlConfirm (src : Src)  (s : State) : Host.Outcome State Fault Refusal :=
  doState (wr src pgCFG CFG.CFG_CTRL.SWITCH 8) s

/-- VER_CTRL_GO (R556). -/
def execVerCtrlGo (src : Src) (kind : Fin 8) (slot copy half : Bool) (s : State) : Host.Outcome State Fault Refusal :=
  doState (wr src pgSEC SEC.VER_CTRL.GO (128 + 16 * kind.val + 8 * b2n slot + 4 * b2n copy + 2 * b2n half)) s

/-- SEC_CTRL_POLINST (R536). -/
def execSecCtrlPolinst (src : Src)  (s : State) : Host.Outcome State Fault Refusal :=
  doState (wr src pgSEC SEC.SEC_CTRL.POLINST 1) s

/-- SEC_CTRL_ROLLFWD (R545). -/
def execSecCtrlRollfwd (src : Src)  (s : State) : Host.Outcome State Fault Refusal :=
  doState (wr src pgSEC SEC.SEC_CTRL.POLINST 2) s

/-- SEC_CTRL_UNLOCK (R544). -/
def execSecCtrlUnlock (src : Src)  (s : State) : Host.Outcome State Fault Refusal :=
  doState (wr src pgSEC SEC.SEC_CTRL.POLINST 4) s

/-- NKEYCTRL_WR (R543). -/
def execNkeyctrlWr (src : Src) (slot : Fin 4) (s : State) : Host.Outcome State Fault Refusal :=
  doState (wr src pgSEC SEC.NKEYCTRL.WR (256 + slot.val)) s

end Sys2Proof.Machine
end

