-- ==== Sys2Proof/Machine/Events.lean ====
section
/-! DEFINITION. The commands that are events of the axes: conditions of drives, profiles, Observers, feedback, sequencers and
steps. Each is its engine's operation, made while the core die runs. -/

namespace Sys2Proof.Machine

/-! Reports of class C2 (R370, R373, R380): the function of the page goes to its safe state at the report. Model's choice: a
cause that the page's cause table does not give C2 leaves its condition alone (assumption log 86). -/

/-- A leaf whose page reports a C2 fault: the stop path of the cause, then FAULT (R241). -/
def leafAsks (pg c inst n : Nat) (d : Dev) : Dev :=
  if leafOut d n || !d.part.hasLeaf n || (0x043 ≤ c && c ≤ 0x045) then d
  else seqFault n c (reqStop n (causePath pg c) false (d.c2on pg c inst))

/-- A step whose page reports one (R285). -/
def stepAsks (pg c inst k : Nat) (d : Dev) : Dev :=
  if d.part.hasStepAxis k && c != Cz.STEP.LOSTREF.code then (d.c2on pg c inst).modStp k fun s => { s with fault := true } else d

/-- A relay with a fault: both coils of its loop are off in both channels (R314, R315). -/
def relayAsks (r : Nat) (mirror : Bool) (d : Dev) : Dev :=
  let d := dropLoop (decide (r < 2)) (relayFault r mirror d)
  pltWeigh (if mirror then { d with px := { d.px with mirF := setBit d.px.mirF r true } }
    else { d with px := { d.px with coilF := setBit d.px.coilF r true } })

/-- A leaf in FAULT for a cause of SAFE. -/
def leafFails (c n : Nat) (d : Dev) : Dev := if d.part.hasLeaf n then seqFault n c (reqStop n 3 false d) else d

/-- The reaction of the two-channel functions to a cause of table "SAFE fault causes". -/
def safeAsks (c inst : Nat) (d : Dev) : Dev :=
  let is (k : Cause) : Bool := c == k.code
  let sx (f : SafeX → SafeX) (d : Dev) : Dev := { d with sx := f d.sx }
  if is Cz.SAFE.DISC then sx (fun x => { x with latch := setBit x.latch inst true }) d
  else if is Cz.SAFE.TPSTUCK then sx (fun x => { x with tpStuck := setBit x.tpStuck inst true }) d
  else if is Cz.SAFE.TPXSHORT then sx (fun x => { x with tpShort := setBit x.tpShort inst true }) d
  else if is Cz.SAFE.LOOPMIR then relayAsks inst true d
  else if is Cz.SAFE.COILA then relayAsks inst false d
  else if is Cz.SAFE.LKHSTUCK || is Cz.SAFE.LKLSTUCK then leafFails c inst (sx (fun x => { x with lkf := setBit x.lkf inst true }) d)
  else if is Cz.SAFE.HOLDFAIL then leafFails c inst (sx (fun x => { x with htf := setBit x.htf inst true }) d)
  else if is Cz.SAFE.GUARD then pltWeigh { leafFails c inst d with py := { d.py with guard := setBit d.py.guard inst true } }
  else if is Cz.SAFE.ORIMIS then setDec 0 { d with sy := { d.sy with oriMis := true } }
  else if is Cz.SAFE.CFGMIS then
    let d := sx (fun x => { x with cfgMis := setBit x.cfgMis inst true }) d
    if inst < 8 then leafFails c inst d else d.modStp (inst - 8) fun s => { s with fault := true }
  else d

/-- The reaction of a field die's functions to a cause of table "FIO fault causes". -/
def fioAsks (x c inst : Nat) (d : Dev) : Dev :=
  let is (k : Cause) : Bool := c == k.code
  if is Cz.FIO.DOOC then doDrive x (d.modDi x fun y => { y with oc := setBit y.oc (inst % 8) true })
  else if is Cz.FIO.DOTH then doDrive x (d.modDi x fun y => { y with th := setBit y.th (inst % 8) true })
  else if is Cz.FIO.TPOSC then
    d.modDy x fun y => { y with tpoSc := setBit y.tpoSc (inst % 4) true, tpoOn := setBit y.tpoOn (inst % 4) false }
  else if is Cz.FIO.TPORB then d.modDy x fun y => { y with tpoRb := setBit y.tpoRb (inst % 4) true }
  else if is Cz.FIO.LKOC then lockDrive x (d.modDy x fun y => { y with lkOc := setBit y.lkOc (inst % 4) true })
  else if is Cz.FIO.FLDLOST then linkGone x d
  else if is Cz.FIO.PFAIL then powerFails d
  else d

/-- The latch of a load switch for a cause of table "LSW fault causes". -/
def lswAsks (x c inst : Nat) (d : Dev) : Dev :=
  let lead := lsLead (d.di x) (inst % 6)
  let set (f : LsX → LsX) : Dev := modLs x lead (fun l => f { l with run := .off }) d
  if c = Cz.LSW.LSOC.code then set fun l => { l with oc := true, pauseEnd := none, dueAt := none }
  else if c = Cz.LSW.LSFUSE.code then set fun l => { l with fuse := true, pauseEnd := none, dueAt := none }
  else if c = Cz.LSW.LSTHERM.code then set fun l => { l with th := true, thPause := l.pauseEnd.isSome }
  else d

/-- A controller that a report holds bus-off (R450). -/
def canAsks (c code : Nat) (s : State) : State :=
  if code = Cz.CAN.BOLATCH.code then
    (canMissAll c s).onDev fun d => canPublish c 0 (d.modCn c fun x => { x with st := 4, boLatched := true, boAt := d.tim.mot, boReset := false, boRec := false })
  else s

/-- A station that a report drops, or the references that it finds to fail (R462, R468). -/
def impoAsks (code inst : Nat) (s : State) : State :=
  if code = Cz.IMPO.STNDROP.code then
    (stnSubstitute inst s).onDev fun d =>
      (d.modStn inst fun x => { x with st := 3, drops := min 255 (x.drops + 1) }).modLb fun l => { l with newDrop := setBit l.newDrop inst true }
  else if code = Cz.IMPO.REFFAIL.code then s.onDev (Dev.modLb fun l => { l with refFail := true })
  else s

/-- What a C2 report does to the function of its page (R373, R380). -/
def reportAsks (r : Report) (s : State) : State :=
  let pg := r.page.toNat
  let c := r.cause.toNat
  let i := r.inst.toNat
  let cond (s : State) : State := s.onDev (Dev.c2on pg c i)
  if r.cls.val ≠ 2 then s
  else match unitOf pg with
    | some (.leaf n) => s.onDev (leafAsks pg c i n) | some (.obs n) => s.onDev (leafAsks pg c i n) | some (.pos n) => s.onDev (leafAsks pg c i n)
    | some (.step k) => s.onDev (stepAsks pg c i k) | some (.posk k) => s.onDev (stepAsks pg c i k)
    | some .safe => (cond s).onDev (safeAsks c i)
    | some .plt => (cond s).onDev fun d => if c = Cz.PLT.COILB.code then relayAsks i false d else d
    | some .svc => (cond s).onDev (svcRestart c (if i = 1 then 1 else 0))
    | some (.fio x) => if s.dev.dies.contains x then (cond s).onDev (fioAsks x c i) else s
    | some (.lsw x) => if s.dev.dies.contains x then (cond s).onDev (lswAsks x c i) else s
    | some (.can k) => canAsks k c (cond s)
    | some .impo => impoAsks c i (cond s)
    | _ => s

/-- FAULT_REPORT (R372, R376): the reports of one FABCLK cycle arrive. -/
def execFaultReport (rs : List Report) (s : State) : Host.Outcome State Fault Refusal :=
  doState (fun s => (rs.foldl (fun s r => reportAsks r s) s).onDev (Dev.reportMany
    (rs.map fun r => (r.cls.val, r.page.toNat, r.inst.toNat, r.cause.toNat)))) s

/-- A calibration of three current channels on a leaf, two on a step (R109, R268), then a park that waited for it (R113). -/
def calibrationEnd (a : Nat) (d : Dev) : Dev :=
  if a < 8 then leafParkCheck a (calEnd a 3 d) else stepParkCheck (a - 8) (calEnd a 2 d)

/-- Standstill of an axis (R146, R149), then a park that waited for it (R112, R113). A step, whose standstill is set-point speed 0
(R282), ends its stop paths at its servo boundary (R284); a park that waited completes here. -/
def standstill (a : Nat) (d : Dev) : Dev :=
  if a < 8 then leafParkCheck a (leafStandstill a d) else stepParkCheck (a - 8) d

/-- Chatter of a switch: closed, open end and lock belong to a leaf, retracted and extended to a step (R237, R281). -/
def switchChatter (a : Nat) (sw : SwitchNo) (d : Dev) : Dev :=
  match sw with
  | .closed => if a < 8 then leafChatter a 0 d else d
  | .openEnd => if a < 8 then leafChatter a 1 d else d
  | .lock => if a < 8 then leafChatter a 2 d else d
  | .retracted => if a < 8 then d else stepChatter (a - 8) false d
  | .extended => if a < 8 then d else stepChatter (a - 8) true d

/-- ORIENTATION_APPLY (R261). -/
def execOrientationApply (s : State) : Host.Outcome State Fault Refusal := doDev (Dev.live fun d => if d.tim.cycleDue then orientationApply d else d) s

/-- BRIDGE_DISABLE_ASSERT (R69). -/
def execBridgeDisableAssert (leaf : LeafNo) (s : State) : Host.Outcome State Fault Refusal := doDev (Dev.live (bridgeDisable leaf.val)) s

/-- BOOTSTRAP_UV (R72). -/
def execBootstrapUv (axis : AxisNo) (phase : Fin 4) (s : State) : Host.Outcome State Fault Refusal := doDev (Dev.live (bootstrapUv axis.val phase.val)) s

/-- VGD_UV (R73). -/
def execVgdUv (die : DieNo) (s : State) : Host.Outcome State Fault Refusal := doDev (Dev.live (vgdUv die.val)) s

/-- VDS_TRIP (R74). -/
def execVdsTrip (axis : AxisNo) (e : VdsReading) (phase : Fin 4) (s : State) : Host.Outcome State Fault Refusal := doDev (Dev.live (vdsTrip axis.val e.high phase.val e.mv e.t)) s

/-- OVERCURRENT_TRIP (R96). -/
def execOvercurrentTrip (c : OverCurrent) (s : State) : Host.Outcome State Fault Refusal := doDev (Dev.live (overcurrentTrip c.axis.val c.ma)) s

/-- OCLATCH (R97). -/
def execOclatch (axis : AxisNo) (s : State) : Host.Outcome State Fault Refusal := doDev (Dev.live (oclatch axis.val)) s

/-- VBRUV (R99). -/
def execVbruv (axis : AxisNo) (s : State) : Host.Outcome State Fault Refusal := doDev (Dev.live (vbruv axis.val)) s

/-- VBROV (R100). -/
def execVbrov (axis : AxisNo) (s : State) : Host.Outcome State Fault Refusal := doDev (Dev.live (vbrov axis.val)) s

/-- ISUM (R102). -/
def execIsum (leaf : LeafNo) (s : State) : Host.Outcome State Fault Refusal := doDev (Dev.live (isumFault leaf.val)) s

/-- VPH (R103). -/
def execVph (axis : AxisNo) (s : State) : Host.Outcome State Fault Refusal := doDev (Dev.live (vphFault axis.val)) s

/-- SHADOW (R105). -/
def execShadow (leaf : LeafNo) (s : State) : Host.Outcome State Fault Refusal := doDev (Dev.live (shadowFault leaf.val)) s

/-- OSHADOW (R192). -/
def execOshadow (leaf : LeafNo) (s : State) : Host.Outcome State Fault Refusal := doDev (Dev.live (oshadow leaf.val)) s

/-- PAGE_START_WAIT_END (R108). -/
def execPageStartWaitEnd (axis : AxisNo) (s : State) : Host.Outcome State Fault Refusal := doDev (Dev.live (pageStartWaitEnd axis.val)) s

/-- STARTING_TIMEOUT (R108). -/
def execStartingTimeout (axis : AxisNo) (s : State) : Host.Outcome State Fault Refusal := doDev (Dev.live (startingTimeout axis.val)) s

/-- BOOTSTRAP_PRECHARGE_END (R108). -/
def execBootstrapPrechargeEnd (axis : AxisNo) (s : State) : Host.Outcome State Fault Refusal := doDev (Dev.live (bootstrapPrechargeEnd axis.val)) s

/-- CALIBRATION_END (R109). -/
def execCalibrationEnd (axis : AxisNo) (s : State) : Host.Outcome State Fault Refusal := doDev (Dev.live (calibrationEnd axis.val)) s

/-- SPQ_UNDERRUN (R139). -/
def execSpqUnderrun (leaf : LeafNo) (s : State) : Host.Outcome State Fault Refusal := doDev (Dev.live (spqUnderrun leaf.val)) s

/-- LIGATURE_FORM (R140). -/
def execLigatureForm (pair : Fin 4) (s : State) : Host.Outcome State Fault Refusal := doDev (Dev.live (ligForm pair.val)) s

/-- SYNCERR (R142). -/
def execSyncerr (pair : Fin 4) (s : State) : Host.Outcome State Fault Refusal := doDev (Dev.live (syncErr pair.val)) s

/-- KEOVER (R126). -/
def execKeover (leaf : LeafNo) (s : State) : Host.Outcome State Fault Refusal := doDev (Dev.live (keOver leaf.val)) s

/-- STANDSTILL (R146). -/
def execStandstill (axis : AxisNo) (s : State) : Host.Outcome State Fault Refusal := doDev (Dev.live (standstill axis.val)) s

/-- STOPTO (R147). -/
def execStopto (leaf : LeafNo) (s : State) : Host.Outcome State Fault Refusal := doDev (Dev.live (stopTimeout leaf.val)) s

/-- LIMIT_SWITCH (R150). -/
def execLimitSwitch (leaf : LeafNo) (openEnd : Bool) (s : State) : Host.Outcome State Fault Refusal := doDev (Dev.live (limTrip leaf.val openEnd)) s

/-- TSTALE (R162). -/
def execTstale (leaf : LeafNo) (s : State) : Host.Outcome State Fault Refusal := doDev (Dev.live (tstale leaf.val)) s

/-- KT_UPDATE (R165). -/
def execKtUpdate (leaf : LeafNo) (s : State) : Host.Outcome State Fault Refusal := doDev (Dev.live (ktUpdate leaf.val)) s

/-- FORCE_DETECTION (R176). -/
def execForceDetection (leaf : LeafNo) (s : State) : Host.Outcome State Fault Refusal := doDev (Dev.live (forceDetection leaf.val)) s

/-- STALL_DETECTION (R177). -/
def execStallDetection (leaf : LeafNo) (s : State) : Host.Outcome State Fault Refusal := doDev (Dev.live (stallDetection leaf.val)) s

/-- STIFFNESS_DETECTION (R178). -/
def execStiffnessDetection (leaf : LeafNo) (s : State) : Host.Outcome State Fault Refusal := doDev (Dev.live (stiffnessDetection leaf.val)) s

/-- EDGE_DETECTION (R179). -/
def execEdgeDetection (leaf : LeafNo) (s : State) : Host.Outcome State Fault Refusal := doDev (Dev.live (edgeDetection leaf.val)) s

/-- ENCODER_EDGE (R196). -/
def execEncoderEdge (axis : AxisNo) (e : LineSamples) (s : State) : Host.Outcome State Fault Refusal :=
  doDev (Dev.live (encoderEdge axis.val e.s0.toNat e.s1.toNat)) s

/-- HALL_EDGE (R197). -/
def execHallEdge (leaf : LeafNo) (code : HallLines) (s : State) : Host.Outcome State Fault Refusal :=
  doDev (Dev.live (hallEdge leaf.val code.lines.toNat fun i => if i = 0 then code.tu else if i = 1 then code.tv else code.tw)) s

/-- HALL_INVALID (R197). -/
def execHallInvalid (leaf : LeafNo) (code : BitVec 3) (s : State) : Host.Outcome State Fault Refusal := doDev (Dev.live (hallInvalid leaf.val code.toNat)) s

/-- INDEX_EDGE (R211). -/
def execIndexEdge (e : IndexSamples) (s : State) : Host.Outcome State Fault Refusal :=
  doDev (Dev.live (indexEdge e.axis.val e.z0 e.z1)) s

/-- SSI_TRANSFER_END (R199). -/
def execSsiTransferEnd (leaf : LeafNo) (e : SsiWord) (s : State) : Host.Outcome State Fault Refusal :=
  doDev (Dev.live (ssiTransferEnd leaf.val e.high e.bits.toNat)) s

/-- SSI_FAULT (R214). -/
def execSsiFault (leaf : LeafNo) (s : State) : Host.Outcome State Fault Refusal := doDev (Dev.live (ssiFault leaf.val)) s

/-- XCHK (R212). -/
def execXchk (leaf : LeafNo) (s : State) : Host.Outcome State Fault Refusal := doDev (Dev.live (xchkFault leaf.val)) s

/-- SLIP (R213). -/
def execSlip (leaf : LeafNo) (s : State) : Host.Outcome State Fault Refusal := doDev (Dev.live (slipFault leaf.val)) s

/-- POS_STARTING_DONE (R219). -/
def execPosStartingDone (axis : AxisNo) (s : State) : Host.Outcome State Fault Refusal := doDev (Dev.live (posStartingDone axis.val)) s

/-- TUNLK_EXPIRY (R243). -/
def execTunlkExpiry (leaf : LeafNo) (s : State) : Host.Outcome State Fault Refusal := doDev (Dev.live (tunlkExpiry leaf.val)) s

/-- TLOCK_EXPIRY (R243). -/
def execTlockExpiry (leaf : LeafNo) (s : State) : Host.Outcome State Fault Refusal := doDev (Dev.live (tlockExpiry leaf.val)) s

/-- TWARN_END (R248). -/
def execTwarnEnd (leaf : LeafNo) (s : State) : Host.Outcome State Fault Refusal := doDev (Dev.live (twarnEnd leaf.val)) s

/-- TRECL_EXPIRY (R250). -/
def execTreclExpiry (leaf : LeafNo) (s : State) : Host.Outcome State Fault Refusal := doDev (Dev.live (treclExpiry leaf.val)) s

/-- REFERENCE_PRESS_END (R255). -/
def execReferencePressEnd (leaf : LeafNo) (s : State) : Host.Outcome State Fault Refusal := doDev (Dev.live (referencePressEnd leaf.val)) s

/-- LEARN_STALL (R252). -/
def execLearnStall (leaf : LeafNo) (s : State) : Host.Outcome State Fault Refusal := doDev (Dev.live (learnStall leaf.val)) s

/-- SWITCH_CHATTER (R237). -/
def execSwitchChatter (axis : AxisNo) (sw : SwitchNo) (s : State) : Host.Outcome State Fault Refusal := doDev (Dev.live (switchChatter axis.val sw)) s

/-- STEP_INPUT_EDGE (R276). -/
def execStepInputEdge (step : StepNo) (e : StepLine) (gapNs : Nat) (widthNs : Nat) (s : State) : Host.Outcome State Fault Refusal :=
  doDev (Dev.live (stepInputEdge step.val e.rise e.dir gapNs widthNs)) s

/-- HOLD_DELAY_END (R271). -/
def execHoldDelayEnd (step : StepNo) (s : State) : Host.Outcome State Fault Refusal := doDev (Dev.live (holdDelayEnd step.val)) s

/-- OPENW (R275). -/
def execOpenw (step : StepNo) (winding : Bool) (s : State) : Host.Outcome State Fault Refusal := doDev (Dev.live (openWinding step.val winding)) s

/-- RETRACT_DEMAND_RELEASE (R283). -/
def execRetractDemandRelease (step : StepNo) (s : State) : Host.Outcome State Fault Refusal := doDev (Dev.live (retractRelease step.val)) s

end Sys2Proof.Machine
end

