-- ==== Sys2Proof/Machine/FormeOps.lean ====
section
/-! DEFINITION. The commands of the forme: the ops of the op table but CALL, the tasks and the online change. Each acts on the
task that executes (R387). -/

namespace Sys2Proof.Machine

/-- OP_NOP. -/
def execOpNop (s : State) : Host.Outcome State Fault Refusal := doState (State.live (opReads 1 (pureOp 1 fun l => .ok l))) s

/-- OP_LDI. -/
def execOpLdi (ty : Fin 16) (arg : BitVec 20) (s : State) : Host.Outcome State Fault Refusal := doState (State.live (opReads 1 (pureOp 1 fun l => if tyOk ty.val then push (ldiVal ty.val arg.toNat) l else .trap 4))) s

/-- OP_LDK: one word, or two low first when TY is 8 bytes. -/
def execOpLdk (ty : Fin 16) (lo hi : W32) (s : State) : Host.Outcome State Fault Refusal := doState (State.live (opReads (1 + opExt 2 ty.val) (pureOp (1 + opExt 2 ty.val) fun l =>
    if tyOk ty.val then push ((lo.toNat + 4294967296 * hi.toNat) % 2 ^ tyBits ty.val) l else .trap 4))) s

/-- OP_LDV. -/
def execOpLdv (ty : Fin 16) (arg : BitVec 20) (s : State) : Host.Outcome State Fault Refusal := doState (State.live (opInst 1 arg.toNat 1 ty.val (ldv ty.val arg.toNat))) s

/-- OP_STV. -/
def execOpStv (ty : Fin 16) (arg : BitVec 20) (s : State) : Host.Outcome State Fault Refusal := doState (State.live (opInst 1 arg.toNat 1 ty.val (stv ty.val arg.toNat))) s

/-- OP_LDIN. -/
def execOpLdin (ty : Fin 16) (arg : BitVec 20) (s : State) : Host.Outcome State Fault Refusal := doState (State.live (opItem frozenBank arg.toNat ty.val (ldin ty.val arg.toNat))) s

/-- OP_STOUT. -/
def execOpStout (ty : Fin 16) (arg : BitVec 20) (s : State) : Host.Outcome State Fault Refusal := doState (State.live (opItem workBank arg.toNat ty.val (stout ty.val arg.toNat))) s

/-- OP_LDX. -/
def execOpLdx (ty : Fin 16) (arg : BitVec 20) (n : W32) (s : State) : Host.Outcome State Fault Refusal := doState (State.live (opInst 2 arg.toNat n.toNat ty.val (ldx ty.val arg.toNat n.toNat))) s

/-- OP_STX. -/
def execOpStx (ty : Fin 16) (arg : BitVec 20) (n : W32) (s : State) : Host.Outcome State Fault Refusal := doState (State.live (opInst 2 arg.toNat n.toNat ty.val (stx ty.val arg.toNat n.toNat))) s

/-- OP_DUP. -/
def execOpDup (s : State) : Host.Outcome State Fault Refusal := doState (State.live (opReads 1 (pureOp 1 fun l => match l with
    | a :: l => .ok (a :: a :: l)
    | [] => .trap 3))) s

/-- OP_DROP. -/
def execOpDrop (s : State) : Host.Outcome State Fault Refusal := doState (State.live (opReads 1 (pureOp 1 fun l => match l with
    | _ :: l => .ok l
    | [] => .trap 3))) s

/-- OP_SWAP. -/
def execOpSwap (s : State) : Host.Outcome State Fault Refusal := doState (State.live (opReads 1 (pureOp 1 fun l => match l with
    | a :: b :: l => .ok (b :: a :: l)
    | _ => .trap 3))) s

/-- OP_ADD (R405). -/
def execOpAdd (ty : Fin 16) (s : State) : Host.Outcome State Fault Refusal := doState (State.live (opReads 1 (op2 ty.val fun a b => .ok [tyAdd ty.val a b]))) s

/-- OP_SUB (R405). -/
def execOpSub (ty : Fin 16) (s : State) : Host.Outcome State Fault Refusal := doState (State.live (opReads 1 (op2 ty.val fun a b => .ok [tySub ty.val a b]))) s

/-- OP_MUL (R405). -/
def execOpMul (ty : Fin 16) (s : State) : Host.Outcome State Fault Refusal := doState (State.live (opReads 1 (op2 ty.val fun a b => .ok [tyMul ty.val a b]))) s

/-- OP_DIV (R405). -/
def execOpDiv (ty : Fin 16) (s : State) : Host.Outcome State Fault Refusal := doState (State.live (opReads 1 (op2 ty.val (divOp ty.val (tyDiv ty.val))))) s

/-- OP_MOD (R405). -/
def execOpMod (ty : Fin 16) (s : State) : Host.Outcome State Fault Refusal := doState (State.live (opReads 1 (op2 ty.val (divOp ty.val (tyMod ty.val))))) s

/-- OP_NEG (R405). -/
def execOpNeg (ty : Fin 16) (s : State) : Host.Outcome State Fault Refusal := doState (State.live (opReads 1 (op1 ty.val (tyNeg ty.val)))) s

/-- OP_ABS (R405). -/
def execOpAbs (ty : Fin 16) (s : State) : Host.Outcome State Fault Refusal := doState (State.live (opReads 1 (op1 ty.val (tyAbs ty.val)))) s

/-- OP_AND (R405). -/
def execOpAnd (ty : Fin 16) (s : State) : Host.Outcome State Fault Refusal := doState (State.live (opReads 1 (op2 ty.val fun a b => .ok [(a &&& b) % 2 ^ tyBits ty.val]))) s

/-- OP_OR (R405). -/
def execOpOr (ty : Fin 16) (s : State) : Host.Outcome State Fault Refusal := doState (State.live (opReads 1 (op2 ty.val fun a b => .ok [(a ||| b) % 2 ^ tyBits ty.val]))) s

/-- OP_XOR (R405). -/
def execOpXor (ty : Fin 16) (s : State) : Host.Outcome State Fault Refusal := doState (State.live (opReads 1 (op2 ty.val fun a b => .ok [(a ^^^ b) % 2 ^ tyBits ty.val]))) s

/-- OP_NOT (R405). -/
def execOpNot (ty : Fin 16) (s : State) : Host.Outcome State Fault Refusal := doState (State.live (opReads 1 (op1 ty.val (tyNot ty.val)))) s

/-- OP_SHL (R405). -/
def execOpShl (ty : Fin 16) (s : State) : Host.Outcome State Fault Refusal := doState (State.live (opReads 1 (op2 ty.val fun a b => .ok [tyShl ty.val a b]))) s

/-- OP_SHR (R405). -/
def execOpShr (ty : Fin 16) (s : State) : Host.Outcome State Fault Refusal := doState (State.live (opReads 1 (op2 ty.val fun a b => .ok [tyShr ty.val a b]))) s

/-- OP_EQ (R405). -/
def execOpEq (ty : Fin 16) (s : State) : Host.Outcome State Fault Refusal := doState (State.live (opReads 1 (op2 ty.val (cmpOp ty.val (fun o => o == .eq) false)))) s

/-- OP_NE (R405). -/
def execOpNe (ty : Fin 16) (s : State) : Host.Outcome State Fault Refusal := doState (State.live (opReads 1 (op2 ty.val (cmpOp ty.val (fun o => o != .eq) true)))) s

/-- OP_LT (R405). -/
def execOpLt (ty : Fin 16) (s : State) : Host.Outcome State Fault Refusal := doState (State.live (opReads 1 (op2 ty.val (cmpOp ty.val (fun o => o == .lt) false)))) s

/-- OP_LE (R405). -/
def execOpLe (ty : Fin 16) (s : State) : Host.Outcome State Fault Refusal := doState (State.live (opReads 1 (op2 ty.val (cmpOp ty.val (fun o => o != .gt) false)))) s

/-- OP_GT (R405). -/
def execOpGt (ty : Fin 16) (s : State) : Host.Outcome State Fault Refusal := doState (State.live (opReads 1 (op2 ty.val (cmpOp ty.val (fun o => o == .gt) false)))) s

/-- OP_GE (R405). -/
def execOpGe (ty : Fin 16) (s : State) : Host.Outcome State Fault Refusal := doState (State.live (opReads 1 (op2 ty.val (cmpOp ty.val (fun o => o != .lt) false)))) s

/-- OP_CVT (R405). -/
def execOpCvt (ty from_ : Fin 16) (s : State) : Host.Outcome State Fault Refusal := doState (State.live (opReads 1 (op1 (if tyOk from_.val then ty.val else 0) (tyCvt ty.val from_.val)))) s

/-- OP_JMP. -/
def execOpJmp (arg : BitVec 20) (s : State) : Host.Outcome State Fault Refusal := doState (State.live (opReads 1 (jmp arg.toNat))) s

/-- OP_JZ. -/
def execOpJz (arg : BitVec 20) (s : State) : Host.Outcome State Fault Refusal := doState (State.live (opReads 1 (jcond 0 arg.toNat))) s

/-- OP_JNZ. -/
def execOpJnz (arg : BitVec 20) (s : State) : Host.Outcome State Fault Refusal := doState (State.live (opReads 1 (jcond 1 arg.toNat))) s

/-- OP_RET (R389). -/
def execOpRet (s : State) : Host.Outcome State Fault Refusal := doState (State.live (opReads 1 (retOp))) s

/-- OP_TRAP (R395): trap USER; the op's code is the forme's own. -/
def execOpTrap (_code : BitVec 20) (s : State) : Host.Outcome State Fault Refusal := doState (State.live (opReads 1 (trapOp))) s

/-- MOTION_SYNC_TASK_START (R389). -/
def execMotionSyncTaskStart (s : State) : Host.Outcome State Fault Refusal := doState (State.live (motionSyncStart)) s

/-- MSOVR (R396). -/
def execMsovr (s : State) : Host.Outcome State Fault Refusal := doState (State.live (msovr)) s

/-- MAIN_TASK_START (R388, R398). -/
def execMainTaskStart (s : State) : Host.Outcome State Fault Refusal := doState (State.live (mainTaskStart)) s

/-- OVERRUN (R400). -/
def execOverrun (s : State) : Host.Outcome State Fault Refusal := doState (State.live (State.onDev overrun)) s

/-- OLC_PREP (R407). -/
def execOlcPrep (half : Fin 2) (s : State) : Host.Outcome State Fault Refusal := doState (State.live (olcPrep half.val)) s

/-- OLC_READY (R407, R408). -/
def execOlcReady (s : State) : Host.Outcome State Fault Refusal := doState (State.live (olcReady)) s

/-- OLC_SWITCH (R409). -/
def execOlcSwitch (s : State) : Host.Outcome State Fault Refusal := doState (State.live (State.onDev olcSwitch)) s

/-- OLC_CANCEL (R410). -/
def execOlcCancel (s : State) : Host.Outcome State Fault Refusal := doState (State.live (State.onDev olcCancel)) s

end Sys2Proof.Machine
end

