-- ==== Sys2Proof/Machine/Dispatch.lean ====
section
/-! DEFINITION. What each command does: one arm per row of the opcode table, each a call of the row's meaning. -/

namespace Sys2Proof.Machine

/-- The effect of a command on everything but the queue. -/
def exec (i : Instr) (s : State) : Host.Outcome State Fault Refusal :=
  match i with
  | .powerGood e => Sys2Proof.Machine.execPowerGood e s
  | .supplyLoss which => Sys2Proof.Machine.execSupplyLoss which s
  | .fieldDieReset die => Sys2Proof.Machine.execFieldDieReset die s
  | .fieldDiePowerUp die => Sys2Proof.Machine.execFieldDiePowerUp die s
  | .pltclkOutOfWindow khz => Sys2Proof.Machine.execPltclkOutOfWindow khz s
  | .pwmPeriodStart e => Sys2Proof.Machine.execPwmPeriodStart e s
  | .fieldLinkFrame die f => Sys2Proof.Machine.execFieldLinkFrame die f s
  | .fieldLinkLossDie die => Sys2Proof.Machine.execFieldLinkLossDie die s
  | .fieldLinkLossCore die => Sys2Proof.Machine.execFieldLinkLossCore die s
  | .scrub hits => Sys2Proof.Machine.execScrub hits s
  | .registerWrite src addr size val => Sys2Proof.Machine.execRegisterWrite src addr size val s
  | .sysDtLoRead src => Sys2Proof.Machine.execSysDtLoRead src s
  | .evSetWrite src page val => Sys2Proof.Machine.execEvSetWrite src page val s
  | .shCtrlCommit src page cpsel => Sys2Proof.Machine.execShCtrlCommit src page cpsel s
  | .shCtrlAbort src page => Sys2Proof.Machine.execShCtrlAbort src page s
  | .leafRestCommit leaf => Sys2Proof.Machine.execLeafRestCommit leaf s
  | .bridgeDisableAssert leaf => Sys2Proof.Machine.execBridgeDisableAssert leaf s
  | .bootstrapUv axis phase => Sys2Proof.Machine.execBootstrapUv axis phase s
  | .vgdUv die => Sys2Proof.Machine.execVgdUv die s
  | .vdsTrip axis e phase => Sys2Proof.Machine.execVdsTrip axis e phase s
  | .overcurrentTrip c => Sys2Proof.Machine.execOvercurrentTrip c s
  | .oclatch axis => Sys2Proof.Machine.execOclatch axis s
  | .vbruv axis => Sys2Proof.Machine.execVbruv axis s
  | .vbrov axis => Sys2Proof.Machine.execVbrov axis s
  | .isum leaf => Sys2Proof.Machine.execIsum leaf s
  | .vph axis => Sys2Proof.Machine.execVph axis s
  | .shadow leaf => Sys2Proof.Machine.execShadow leaf s
  | .oshadow leaf => Sys2Proof.Machine.execOshadow leaf s
  | .pageStartWaitEnd axis => Sys2Proof.Machine.execPageStartWaitEnd axis s
  | .startingTimeout axis => Sys2Proof.Machine.execStartingTimeout axis s
  | .bootstrapPrechargeEnd axis => Sys2Proof.Machine.execBootstrapPrechargeEnd axis s
  | .calibrationEnd axis => Sys2Proof.Machine.execCalibrationEnd axis s
  | .drvCtrlCal src leaf => Sys2Proof.Machine.execDrvCtrlCal src leaf s
  | .stepDrvCtrlCal src step => Sys2Proof.Machine.execStepDrvCtrlCal src step s
  | .drvCtrlClrlatch src axis => Sys2Proof.Machine.execDrvCtrlClrlatch src axis s
  | .drvCtrlClrcnt src axis => Sys2Proof.Machine.execDrvCtrlClrcnt src axis s
  | .moveCmdGo src leaf set => Sys2Proof.Machine.execMoveCmdGo src leaf set s
  | .moveCmdStop src leaf => Sys2Proof.Machine.execMoveCmdStop src leaf s
  | .moveCmdQstop src leaf => Sys2Proof.Machine.execMoveCmdQstop src leaf s
  | .moveCmdHstop src leaf => Sys2Proof.Machine.execMoveCmdHstop src leaf s
  | .spqAPush src leaf a => Sys2Proof.Machine.execSpqAPush src leaf a s
  | .spqUnderrun leaf => Sys2Proof.Machine.execSpqUnderrun leaf s
  | .ligatureForm pair => Sys2Proof.Machine.execLigatureForm pair s
  | .syncerr pair => Sys2Proof.Machine.execSyncerr pair s
  | .keover leaf => Sys2Proof.Machine.execKeover leaf s
  | .standstill axis => Sys2Proof.Machine.execStandstill axis s
  | .stopto leaf => Sys2Proof.Machine.execStopto leaf s
  | .limitSwitch leaf openEnd => Sys2Proof.Machine.execLimitSwitch leaf openEnd s
  | .tstale leaf => Sys2Proof.Machine.execTstale leaf s
  | .ktUpdate leaf => Sys2Proof.Machine.execKtUpdate leaf s
  | .forceDetection leaf => Sys2Proof.Machine.execForceDetection leaf s
  | .stallDetection leaf => Sys2Proof.Machine.execStallDetection leaf s
  | .stiffnessDetection leaf => Sys2Proof.Machine.execStiffnessDetection leaf s
  | .edgeDetection leaf => Sys2Proof.Machine.execEdgeDetection leaf s
  | .obsCtrlRebase src leaf => Sys2Proof.Machine.execObsCtrlRebase src leaf s
  | .obsCtrlClrdet src leaf => Sys2Proof.Machine.execObsCtrlClrdet src leaf s
  | .encoderEdge axis e => Sys2Proof.Machine.execEncoderEdge axis e s
  | .hallEdge leaf code => Sys2Proof.Machine.execHallEdge leaf code s
  | .hallInvalid leaf code => Sys2Proof.Machine.execHallInvalid leaf code s
  | .indexEdge e => Sys2Proof.Machine.execIndexEdge e s
  | .ssiTransferEnd leaf e => Sys2Proof.Machine.execSsiTransferEnd leaf e s
  | .ssiFault leaf => Sys2Proof.Machine.execSsiFault leaf s
  | .xchk leaf => Sys2Proof.Machine.execXchk leaf s
  | .slip leaf => Sys2Proof.Machine.execSlip leaf s
  | .posCtrlSetref src axis => Sys2Proof.Machine.execPosCtrlSetref src axis s
  | .posCtrlClrflt src axis => Sys2Proof.Machine.execPosCtrlClrflt src axis s
  | .posCtrlClrcnt src axis => Sys2Proof.Machine.execPosCtrlClrcnt src axis s
  | .posStartingDone axis => Sys2Proof.Machine.execPosStartingDone axis s
  | .seqCmdOpen src leaf => Sys2Proof.Machine.execSeqCmdOpen src leaf s
  | .seqCmdClose src leaf => Sys2Proof.Machine.execSeqCmdClose src leaf s
  | .seqCmdLearn src leaf => Sys2Proof.Machine.execSeqCmdLearn src leaf s
  | .seqCmdRefrun src leaf => Sys2Proof.Machine.execSeqCmdRefrun src leaf s
  | .seqCmdAck src leaf => Sys2Proof.Machine.execSeqCmdAck src leaf s
  | .seqCmdClrsusp src leaf => Sys2Proof.Machine.execSeqCmdClrsusp src leaf s
  | .tunlkExpiry leaf => Sys2Proof.Machine.execTunlkExpiry leaf s
  | .tlockExpiry leaf => Sys2Proof.Machine.execTlockExpiry leaf s
  | .twarnEnd leaf => Sys2Proof.Machine.execTwarnEnd leaf s
  | .treclExpiry leaf => Sys2Proof.Machine.execTreclExpiry leaf s
  | .referencePressEnd leaf => Sys2Proof.Machine.execReferencePressEnd leaf s
  | .learnStall leaf => Sys2Proof.Machine.execLearnStall leaf s
  | .switchChatter axis sw => Sys2Proof.Machine.execSwitchChatter axis sw s
  | .stpCmdExtend src step => Sys2Proof.Machine.execStpCmdExtend src step s
  | .stpCmdRetract src step => Sys2Proof.Machine.execStpCmdRetract src step s
  | .stpCmdInhibit src step => Sys2Proof.Machine.execStpCmdInhibit src step s
  | .stpCmdUninh src step => Sys2Proof.Machine.execStpCmdUninh src step s
  | .stpCmdHome src step => Sys2Proof.Machine.execStpCmdHome src step s
  | .stpCmdAck src step => Sys2Proof.Machine.execStpCmdAck src step s
  | .stpCmdStop src step => Sys2Proof.Machine.execStpCmdStop src step s
  | .stpCmdQstop src step => Sys2Proof.Machine.execStpCmdQstop src step s
  | .stpCmdHstop src step => Sys2Proof.Machine.execStpCmdHstop src step s
  | .stpCmdClrsusp src step => Sys2Proof.Machine.execStpCmdClrsusp src step s
  | .stepInputEdge step e gapNs widthNs => Sys2Proof.Machine.execStepInputEdge step e gapNs widthNs s
  | .holdDelayEnd step => Sys2Proof.Machine.execHoldDelayEnd step s
  | .openw step winding => Sys2Proof.Machine.execOpenw step winding s
  | .retractDemandRelease step => Sys2Proof.Machine.execRetractDemandRelease step s
  | .qFrameReceive good => Sys2Proof.Machine.execQFrameReceive good s
  | .pFrameStatus good => Sys2Proof.Machine.execPFrameStatus good s
  | .pFrameConfig idx bytes => Sys2Proof.Machine.execPFrameConfig idx bytes s
  | .pFrameTest code arg => Sys2Proof.Machine.execPFrameTest code arg s
  | .platenInputAccept inp level => Sys2Proof.Machine.execPlatenInputAccept inp level s
  | .platenHallChange leaf code => Sys2Proof.Machine.execPlatenHallChange leaf code s
  | .platenRecordCrcCheck corrupt => Sys2Proof.Machine.execPlatenRecordCrcCheck corrupt s
  | .platenComparatorCheck pass => Sys2Proof.Machine.execPlatenComparatorCheck pass s
  | .darkPulse tpo falls => Sys2Proof.Machine.execDarkPulse tpo falls s
  | .discrepancy inp => Sys2Proof.Machine.execDiscrepancy inp s
  | .loopCloseDelay left platen => Sys2Proof.Machine.execLoopCloseDelay left platen s
  | .mirrorCheck relay => Sys2Proof.Machine.execMirrorCheck relay s
  | .coilReadback relay on => Sys2Proof.Machine.execCoilReadback relay on s
  | .safeCtrlTclr src => Sys2Proof.Machine.execSafeCtrlTclr src s
  | .safeCtrlDclr src => Sys2Proof.Machine.execSafeCtrlDclr src s
  | .safeCtrlMclr src => Sys2Proof.Machine.execSafeCtrlMclr src s
  | .safeCtrlGclr src lmask => Sys2Proof.Machine.execSafeCtrlGclr src lmask s
  | .safeCtrlHtreq src lmask => Sys2Proof.Machine.execSafeCtrlHtreq src lmask s
  | .lockSwitchTest leaf high => Sys2Proof.Machine.execLockSwitchTest leaf high s
  | .lockTestPulseEnd leaf milliamps => Sys2Proof.Machine.execLockTestPulseEnd leaf milliamps s
  | .holdingTestStart leaf => Sys2Proof.Machine.execHoldingTestStart leaf s
  | .holdingTestEnd leaf => Sys2Proof.Machine.execHoldingTestEnd leaf s
  | .sealScan word off => Sys2Proof.Machine.execSealScan word off s
  | .tripletTransaction v => Sys2Proof.Machine.execTripletTransaction v s
  | .resyncTransfer crcOk time10ns => Sys2Proof.Machine.execResyncTransfer crcOk time10ns s
  | .bistEnd pass timeUs => Sys2Proof.Machine.execBistEnd pass timeUs s
  | .servicePairFault f core => Sys2Proof.Machine.execServicePairFault f core s
  | .serviceWatchdog core => Sys2Proof.Machine.execServiceWatchdog core s
  | .svcKick src val => Sys2Proof.Machine.execSvcKick src val s
  | .dtsetCtrlSet src => Sys2Proof.Machine.execDtsetCtrlSet src s
  | .debuggerWrite service t val => Sys2Proof.Machine.execDebuggerWrite service t val s
  | .faultReport rs => Sys2Proof.Machine.execFaultReport rs s
  | .fltAck src val => Sys2Proof.Machine.execFltAck src val s
  | .opLdi ty arg => Sys2Proof.Machine.execOpLdi ty arg s
  | .opLdk ty lo hi => Sys2Proof.Machine.execOpLdk ty lo hi s
  | .opLdv ty arg => Sys2Proof.Machine.execOpLdv ty arg s
  | .opStv ty arg => Sys2Proof.Machine.execOpStv ty arg s
  | .opLdin ty arg => Sys2Proof.Machine.execOpLdin ty arg s
  | .opStout ty arg => Sys2Proof.Machine.execOpStout ty arg s
  | .opLdx ty arg n => Sys2Proof.Machine.execOpLdx ty arg n s
  | .opStx ty arg n => Sys2Proof.Machine.execOpStx ty arg n s
  | .opAdd ty => Sys2Proof.Machine.execOpAdd ty s
  | .opSub ty => Sys2Proof.Machine.execOpSub ty s
  | .opMul ty => Sys2Proof.Machine.execOpMul ty s
  | .opDiv ty => Sys2Proof.Machine.execOpDiv ty s
  | .opMod ty => Sys2Proof.Machine.execOpMod ty s
  | .opNeg ty => Sys2Proof.Machine.execOpNeg ty s
  | .opAbs ty => Sys2Proof.Machine.execOpAbs ty s
  | .opAnd ty => Sys2Proof.Machine.execOpAnd ty s
  | .opOr ty => Sys2Proof.Machine.execOpOr ty s
  | .opXor ty => Sys2Proof.Machine.execOpXor ty s
  | .opNot ty => Sys2Proof.Machine.execOpNot ty s
  | .opShl ty => Sys2Proof.Machine.execOpShl ty s
  | .opShr ty => Sys2Proof.Machine.execOpShr ty s
  | .opEq ty => Sys2Proof.Machine.execOpEq ty s
  | .opNe ty => Sys2Proof.Machine.execOpNe ty s
  | .opLt ty => Sys2Proof.Machine.execOpLt ty s
  | .opLe ty => Sys2Proof.Machine.execOpLe ty s
  | .opGt ty => Sys2Proof.Machine.execOpGt ty s
  | .opGe ty => Sys2Proof.Machine.execOpGe ty s
  | .opCvt ty from_ => Sys2Proof.Machine.execOpCvt ty from_ s
  | .opJmp arg => Sys2Proof.Machine.execOpJmp arg s
  | .opJz arg => Sys2Proof.Machine.execOpJz arg s
  | .opJnz arg => Sys2Proof.Machine.execOpJnz arg s
  | .opCall block => Sys2Proof.Machine.execOpCall block s
  | .opTrap code => Sys2Proof.Machine.execOpTrap code s
  | .olcPrep half => Sys2Proof.Machine.execOlcPrep half s
  | .taskCtrlClrcnt src => Sys2Proof.Machine.execTaskCtrlClrcnt src s
  | .fieldInputChange inp level => Sys2Proof.Machine.execFieldInputChange inp level s
  | .tpoOvercurrent tpo => Sys2Proof.Machine.execTpoOvercurrent tpo s
  | .tpoClr src die mask => Sys2Proof.Machine.execTpoClr src die mask s
  | .doOverload ch thermal => Sys2Proof.Machine.execDoOverload ch thermal s
  | .doClr src die mask => Sys2Proof.Machine.execDoClr src die mask s
  | .doReadback ch => Sys2Proof.Machine.execDoReadback ch s
  | .doOpenLoad ch => Sys2Proof.Machine.execDoOpenLoad ch s
  | .switchTick die => Sys2Proof.Machine.execSwitchTick die s
  | .lsInrushEnd die ch => Sys2Proof.Machine.execLsInrushEnd die ch s
  | .lsHardShort die ch => Sys2Proof.Machine.execLsHardShort die ch s
  | .lsOvercurrentTrip die ch => Sys2Proof.Machine.execLsOvercurrentTrip die ch s
  | .lsPauseEnd die ch => Sys2Proof.Machine.execLsPauseEnd die ch s
  | .lsRetry die ch => Sys2Proof.Machine.execLsRetry die ch s
  | .lsTryReset die ch => Sys2Proof.Machine.execLsTryReset die ch s
  | .lsFuseUpdate die ch milliamps => Sys2Proof.Machine.execLsFuseUpdate die ch milliamps s
  | .lsThermalLatch die ch => Sys2Proof.Machine.execLsThermalLatch die ch s
  | .lsClrClr src die mask => Sys2Proof.Machine.execLsClrClr src die mask s
  | .lsClrClrth src die mask => Sys2Proof.Machine.execLsClrClrth src die mask s
  | .lockPullInEnd leaf => Sys2Proof.Machine.execLockPullInEnd leaf s
  | .lkoc leaf => Sys2Proof.Machine.execLkoc leaf s
  | .lkClr src die mask => Sys2Proof.Machine.execLkClr src die mask s
  | .vfldPfSet vhold => Sys2Proof.Machine.execVfldPfSet vhold s
  | .limpInput active => Sys2Proof.Machine.execLimpInput active s
  | .fioCtrlRelease src die => Sys2Proof.Machine.execFioCtrlRelease src die s
  | .canFrameReceived ctl f => Sys2Proof.Machine.execCanFrameReceived ctl f s
  | .canTxComplete ctl e => Sys2Proof.Machine.execCanTxComplete ctl e s
  | .frameRecordCancel ctl addr => Sys2Proof.Machine.execFrameRecordCancel ctl addr s
  | .busOff ctl => Sys2Proof.Machine.execBusOff ctl s
  | .busOffRecoveryStart ctl => Sys2Proof.Machine.execBusOffRecoveryStart ctl s
  | .busOffRecoveryEnd ctl => Sys2Proof.Machine.execBusOffRecoveryEnd ctl s
  | .canIntegrationEnd ctl => Sys2Proof.Machine.execCanIntegrationEnd ctl s
  | .referenceMessage e => Sys2Proof.Machine.execReferenceMessage e s
  | .slotStart slot => Sys2Proof.Machine.execSlotStart slot s
  | .slotEnd slot => Sys2Proof.Machine.execSlotEnd slot s
  | .stnwait stn => Sys2Proof.Machine.execStnwait stn s
  | .ethFrameReceived port f err => Sys2Proof.Machine.execEthFrameReceived port f err s
  | .ethLinkChange port speed => Sys2Proof.Machine.execEthLinkChange port speed s
  | .addressAging mac => Sys2Proof.Machine.execAddressAging mac s
  | .ptpSync e => Sys2Proof.Machine.execPtpSync e s
  | .telegramReceived t => Sys2Proof.Machine.execTelegramReceived t s
  | .ringIndexAdvance ring producer item => Sys2Proof.Machine.execRingIndexAdvance ring producer item s
  | .neltanOpen r => Sys2Proof.Machine.execNeltanOpen r s
  | .neltanRead r => Sys2Proof.Machine.execNeltanRead r s
  | .neltanWrite r => Sys2Proof.Machine.execNeltanWrite r s
  | .neltanStatus r => Sys2Proof.Machine.execNeltanStatus r s
  | .neltanClose r => Sys2Proof.Machine.execNeltanClose r s
  | .neltanSessionTimeout session => Sys2Proof.Machine.execNeltanSessionTimeout session s
  | .neltanOpenBlockEnd transport => Sys2Proof.Machine.execNeltanOpenBlockEnd transport s
  | .hpiRead addr words => Sys2Proof.Machine.execHpiRead addr words s
  | .hpiWrite addr words data crc => Sys2Proof.Machine.execHpiWrite addr words data crc s
  | .slugHandoff axis => Sys2Proof.Machine.execSlugHandoff axis s
  | .traceSample leaf => Sys2Proof.Machine.execTraceSample leaf s
  | .slugPageWrite vhold => Sys2Proof.Machine.execSlugPageWrite vhold s
  | .nandOperationComplete ok answers vhold => Sys2Proof.Machine.execNandOperationComplete ok answers vhold s
  | .recordMemoryRun vhold => Sys2Proof.Machine.execRecordMemoryRun vhold s
  | .recCtrlFormat vhold => Sys2Proof.Machine.execRecCtrlFormat vhold s
  | .recordReadRequest uncorr => Sys2Proof.Machine.execRecordReadRequest uncorr s
  | .folioWrite vhold => Sys2Proof.Machine.execFolioWrite vhold s
  | .holdupRetry vhold => Sys2Proof.Machine.execHoldupRetry vhold s
  | .kerningRecordSave leaf vhold => Sys2Proof.Machine.execKerningRecordSave leaf vhold s
  | .fwCodePageFetch page => Sys2Proof.Machine.execFwCodePageFetch page s
  | .settingsWrite src addr erase data => Sys2Proof.Machine.execSettingsWrite src addr erase data s
  | .cfgCtrlSwitch src => Sys2Proof.Machine.execCfgCtrlSwitch src s
  | .deferredPageApply leaf => Sys2Proof.Machine.execDeferredPageApply leaf s
  | .cfgCtrlCancel src => Sys2Proof.Machine.execCfgCtrlCancel src s
  | .cfgCtrlRstreq src => Sys2Proof.Machine.execCfgCtrlRstreq src s
  | .cfgCtrlConfirm src => Sys2Proof.Machine.execCfgCtrlConfirm src s
  | .verCtrlGo src kind slot copy half => Sys2Proof.Machine.execVerCtrlGo src kind slot copy half s
  | .secCtrlPolinst src => Sys2Proof.Machine.execSecCtrlPolinst src s
  | .secCtrlRollfwd src => Sys2Proof.Machine.execSecCtrlRollfwd src s
  | .secCtrlUnlock src => Sys2Proof.Machine.execSecCtrlUnlock src s
  | .nkeyctrlWr src slot => Sys2Proof.Machine.execNkeyctrlWr src slot s
  | .tapSamplePreload cells => Sys2Proof.Machine.execTapSamplePreload cells s
  | .registerRead src addr size => Sys2Proof.Machine.execRegisterRead src addr size s
  | .debugResume service retired step => Sys2Proof.Machine.execDebugResume service retired step s
  | .darkPulseEnd tpo high => Sys2Proof.Machine.execDarkPulseEnd tpo high s
  | .settingsOperationComplete ok vhold => Sys2Proof.Machine.execSettingsOperationComplete ok vhold s
  | .gridStart => Sys2Proof.Machine.execGridStart s
  | .ready => Sys2Proof.Machine.execReady s
  | .startUpSupervisor => Sys2Proof.Machine.execStartUpSupervisor s
  | .porstN => Sys2Proof.Machine.execPorstN s
  | .vio1Loss => Sys2Proof.Machine.execVio1Loss s
  | .keepAliveLoss => Sys2Proof.Machine.execKeepAliveLoss s
  | .keepAliveSecond => Sys2Proof.Machine.execKeepAliveSecond s
  | .pllLoss => Sys2Proof.Machine.execPllLoss s
  | .coreReferenceLoss => Sys2Proof.Machine.execCoreReferenceLoss s
  | .servoPeriodBoundary => Sys2Proof.Machine.execServoPeriodBoundary s
  | .programCycleBoundary => Sys2Proof.Machine.execProgramCycleBoundary s
  | .orientationApply => Sys2Proof.Machine.execOrientationApply s
  | .qFrameSend => Sys2Proof.Machine.execQFrameSend s
  | .orimis => Sys2Proof.Machine.execOrimis s
  | .pFrameRun => Sys2Proof.Machine.execPFrameRun s
  | .pFrameRestart => Sys2Proof.Machine.execPFrameRestart s
  | .pFrameHalt => Sys2Proof.Machine.execPFrameHalt s
  | .xlink => Sys2Proof.Machine.execXlink s
  | .pFrameLoss => Sys2Proof.Machine.execPFrameLoss s
  | .vpltValid => Sys2Proof.Machine.execVpltValid s
  | .vpltLow => Sys2Proof.Machine.execVpltLow s
  | .xdec => Sys2Proof.Machine.execXdec s
  | .pcrbad => Sys2Proof.Machine.execPcrbad s
  | .proofDue => Sys2Proof.Machine.execProofDue s
  | .proofStart => Sys2Proof.Machine.execProofStart s
  | .prooflate => Sys2Proof.Machine.execProoflate s
  | .servicePairRestartDone => Sys2Proof.Machine.execServicePairRestartDone s
  | .tripletDebugHalt => Sys2Proof.Machine.execTripletDebugHalt s
  | .serviceDebugHalt => Sys2Proof.Machine.execServiceDebugHalt s
  | .automaticReset => Sys2Proof.Machine.execAutomaticReset s
  | .motionSyncTaskStart => Sys2Proof.Machine.execMotionSyncTaskStart s
  | .msovr => Sys2Proof.Machine.execMsovr s
  | .mainTaskStart => Sys2Proof.Machine.execMainTaskStart s
  | .overrun => Sys2Proof.Machine.execOverrun s
  | .opNop => Sys2Proof.Machine.execOpNop s
  | .opDup => Sys2Proof.Machine.execOpDup s
  | .opDrop => Sys2Proof.Machine.execOpDrop s
  | .opSwap => Sys2Proof.Machine.execOpSwap s
  | .opRet => Sys2Proof.Machine.execOpRet s
  | .olcReady => Sys2Proof.Machine.execOlcReady s
  | .olcSwitch => Sys2Proof.Machine.execOlcSwitch s
  | .olcCancel => Sys2Proof.Machine.execOlcCancel s
  | .vfldWarnSet => Sys2Proof.Machine.execVfldWarnSet s
  | .vfldWarnClear => Sys2Proof.Machine.execVfldWarnClear s
  | .vfldLowSet => Sys2Proof.Machine.execVfldLowSet s
  | .vfldLowClear => Sys2Proof.Machine.execVfldLowClear s
  | .vfldPfClear => Sys2Proof.Machine.execVfldPfClear s
  | .shedStep => Sys2Proof.Machine.execShedStep s
  | .reffail => Sys2Proof.Machine.execReffail s
  | .ptpSyncTimeout => Sys2Proof.Machine.execPtpSyncTimeout s
  | .ptplost => Sys2Proof.Machine.execPtplost s
  | .telegramPublish => Sys2Proof.Machine.execTelegramPublish s
  | .traceCopy => Sys2Proof.Machine.execTraceCopy s
  | .slugPageFlush => Sys2Proof.Machine.execSlugPageFlush s
  | .holddef => Sys2Proof.Machine.execHolddef s
  | .quietReset => Sys2Proof.Machine.execQuietReset s
  | .verificationDone => Sys2Proof.Machine.execVerificationDone s
  | .tapBypass => Sys2Proof.Machine.execTapBypass s
  | .tapIdcode => Sys2Proof.Machine.execTapIdcode s
  | .tapExtest => Sys2Proof.Machine.execTapExtest s
  | .tapClamp => Sys2Proof.Machine.execTapClamp s
  | .tapHighz => Sys2Proof.Machine.execTapHighz s
  | .delayReq => Sys2Proof.Machine.execDelayReq s
  | .stateEncodingCheck => Sys2Proof.Machine.execStateEncodingCheck s
  | .operatingTimeMinute => Sys2Proof.Machine.execOperatingTimeMinute s

end Sys2Proof.Machine
end

