-- ==== Sys2Proof/Machine/Step.lean ====
section
/-! DEFINITION. One step: the command at the front of the queue acts; with no command waiting, a cycle of FABCLK passes. -/

namespace Sys2Proof.Machine

/-- One step of the 8D. The command at the front leaves the queue and acts; on an empty queue one FABCLK cycle passes
(assumption log 33). -/
def step (s : State) : Host.Outcome State Fault Refusal :=
  match s.pending with
  | c :: rest => exec c { s with pending := rest }
  | [] => .next (idle s)

/-- The state with the command that a word spells put at the front of the queue: no row of the table gives bits, so no word
spells one and the state is unchanged (assumption log 35). -/
def State.withFetchWord (s : State) (nbits w : Nat) : State :=
  match decodeTableWord nbits w with
  | some c => { s with pending := c :: s.pending }
  | none => s

end Sys2Proof.Machine
end

