-- ==== Sys2Proof/Safety.lean ====
section
/-! DEFINITION. What counts as a safe run: every step answers a next state, and the memories keep their canonical form. Also what the
device shows after a command: an event that stands, an entry that stands. -/

namespace Sys2Proof.Machine

/-- The memories are in their canonical form: the on-die SRAM, the settings memory and the record memory. -/
def State.wf (s : State) : Bool :=
  Memory.wf sramEmpty s.mem && Memory.wf flashEmpty s.xs0 && Memory.wf flashEmpty s.xs1

/-- The step of a state completes. -/
def StepsOn (s : State) : Prop := ∃ t, step s = .next t

/-- A run of `n` steps completes, and the memories are canonical at its end. -/
def SafeRun (n : Nat) (s : State) : Prop := ∃ t, Sys2Proof.core.run n s = .next t ∧ t.wf = true

/-- Event `n` of a page stands in its `EV_STAT` (R49). -/
def Dev.raised (d : Dev) (pg n : Nat) : Bool := bit (d.get pg HDR.EV_STAT) n

/-- A fault entry with this value is the head or waits in the queue (R370, R376). -/
def Dev.standing (d : Dev) (v : Nat) : Bool :=
  (d.flt.head.any fun h => h.val == v) || d.flt.queue.any fun q => q.val == v

/-- The cause stands as an entry of the page: its value by class, page, instance and cause (R370). -/
def Dev.entryOf (d : Dev) (pg : Nat) (c : Cause) (inst : Nat) : Bool := d.standing (entryVal c.cls pg inst c.code)

/-- The queue of entries has a free place (R379). -/
def Dev.queueRoom (d : Dev) : Bool := decide (d.flt.queue.length < 32)

/-- The runtime issues accesses: the core runs on its grid clock, the triplet is not halted and start-up holds nothing, outside
RETIRED (R30, R356, R364, R539). -/
def Dev.runtimeActs (d : Dev) : Bool :=
  d.boot.up && !d.tim.bk && !d.imd.halted && !d.boot.hold && d.otp.lc != 3

/-- The host port reaches every page: the core runs on its grid clock, outside RETIRED (R30, R539). -/
def Dev.hostActs (d : Dev) : Bool := d.boot.up && !d.tim.bk && d.otp.lc != 3

/-- A fault event of an axis waits for its sequencer (R241, R285). -/
def Dev.faultEvent (d : Dev) (a : Nat) : Bool :=
  if a < 8 then (d.seq a).fault.isSome else (d.stp (a - 8)).fault || (d.stp (a - 8)).faultQ

/-- The page of an axis is in service: neither OFF nor PARKED (R107, R114). -/
def Dev.inService (d : Dev) (a : Nat) : Bool := d.hasAxis a && (d.pgState (pgDRV a) == 1 || d.pgState (pgDRV a) == 2)

/-- What a latched drive fault leaves (R106, R241, R285): the event, the latch, mode OFF with every gate command low, and a fault event for the
sequencer; where the queue of entries has room and no calibration aborts, the entry stands and no other axis's drive engine changes. -/
abbrev Tripped (s t : State) (a ev : Nat) (c : Cause) (inst : Nat) : Prop :=
  t.dev.raised (pgDRV a) ev = true ∧ bit (t.dev.drv a).latch c.code = true ∧ (t.dev.drv a).mode = mOFF ∧ (t.dev.drv a).cmp = {} ∧
  t.dev.get (pgDRV a) (drvReg a LEAF.DRV_STAT.LATCH) = 1 ∧ t.dev.faultEvent a = true ∧ t.mem = s.mem ∧
  (s.dev.queueRoom = true → (s.dev.drv a).cal.on = false →
    t.dev.entryOf (pgDRV a) c inst = true ∧ ∀ b : AxisNo, b.val ≠ a → t.dev.drv b.val = s.dev.drv b.val)

/-- All Platen outputs safe (R299): both coils and every lock enable line off, every bridge-disable line asserted, no release. -/
def Dev.platenSafe (d : Dev) : Bool := d.px.coil == 0 && d.py.lken == 0 && d.py.bdis == 255 && d.px.dec == 0

/-- The Platen die takes the processor channel's next frame: it is powered, no HALT frame waits and the sequence number follows (R295, R298). -/
def Dev.platenTakes (d : Dev) : Bool :=
  d.px.st != 0 && !(d.sx.sent && d.sx.p.typ == 5) && (match d.py.pSeq with
    | some q => (d.sx.p.seq + 1) % 16 == (q + 1) % 16
    | none => true)

/-- What device safe halt leaves (R381): every axis in mode OFF with its gates low, a hard stop requested of or running on every leaf, every lock high side and coil A off, the forme stopped. -/
def Dev.safeHalted (d : Dev) : Bool :=
  d.flt.halt && ((List.range 12).all fun a => (d.drv a).mode == mOFF && (d.drv a).cmp == {}) &&
  ((List.range 8).all fun n => (d.prf n).stopReq == 3 || (d.prf n).stopKind == 3) &&
  ([0, 1].all fun x => (d.dy x).lkHs == 0) && d.sx.coil == 0 && (d.forme.st == 0 || d.forme.st == 3)

/-- The three lanes present a write or a fold at one address with these data. -/
def votes (kind : PresKind) (addr a b c : W32) : VoteEnv :=
  { p0 := some ⟨kind, addr, 15, a⟩, p1 := some ⟨kind, addr, 15, b⟩, p2 := some ⟨kind, addr, 15, c⟩ }

/-- The core after a reset (R571 to R573): down, its memory cleared, no fault entry, no halt, nothing started. -/
def State.afterReset (t : State) : Bool :=
  !t.dev.boot.up && t.dev.boot.phase == 0 && !t.dev.boot.ready && t.mem.isEmpty && t.dev.flt == {} && !t.dev.tim.grid && t.dev.forme == {}

/-- What a reset of the core leaves alone: the part, the fuses, the keep-alive domain, the Platen die, the two external memories (R539, R571, R574). -/
abbrev KeptOverReset (s t : State) : Prop :=
  t.dev.part = s.dev.part ∧ t.dev.otp = s.dev.otp ∧ t.dev.px = s.dev.px ∧ t.dev.py = s.dev.py ∧ t.xs0 = s.xs0 ∧ t.xs1 = s.xs1

/-- The conditions of an automatic reset, but for the number of those that took place (R382). -/
def Dev.autoDue (d : Dev) : Bool :=
  d.boot.up && d.flt.halt && !d.flt.withheld && d.get pgFLT FLT.FLT_CFG.HALTDLY != 0 &&
  decide (d.flt.haltMot + msMot (1000 * d.get pgFLT FLT.FLT_CFG.HALTDLY) ≤ d.tim.mot)

/-- Start-up has run for 10 s without an end (R551). -/
def Dev.bootLate (d : Dev) : Bool :=
  d.boot.phase != 0 && !d.boot.ready && !d.boot.hold && decide (d.boot.pgMot + msMot 10000 ≤ d.tim.mot)

/-- Entries of a history of the keep-alive domain that lie within the last 3,600 s (R382, R551). -/
def Dev.within (d : Dev) (l : List Nat) : List Nat := l.filter fun t => decide (d.keep.secs < t + 3600)

/-- The Service pair's firmware serves the Neltan window (R495). -/
def Dev.nelServes (d : Dev) : Bool := d.alive && d.svc.up0 && !d.svc.halted && !d.boot.hold

/-- A request of an open session whose tag verifies under the session key (R496). -/
def NelSess.tagged (x : NelSess) (op : Nat) (r : NelReq) : Bool := Config.aesCmac x.key (nelReqMsg op r) % 2 ^ 128 == r.tag.toNat

/-- The session that a request names, open until a minute without an accepted request. -/
def Dev.sessOf (d : Dev) (r : NelReq) : Option NelSess :=
  d.net.nel.sess.find? fun x => x.num == r.session.toNat && decide (d.tim.mot < x.lastAt + nelMinute)

/-- The response to an accepted request: the message with its tag under the session key (R496, table "Neltan message"). -/
def nelAnswer (x : NelSess) (op result : Nat) (r : NelReq) (data : List Nat) : List Nat :=
  let m := nelMsg (op + 0x80) result x.num r.seq.toNat r.addr.toNat data.length data
  m ++ leBytes 16 (Config.aesCmac x.key m % 2 ^ 128)

/-- A request that is not accepted: no response; the third failure in a row closes the session (R496). -/
abbrev NelRefused (s t : State) (x : NelSess) : Prop :=
  t.dev.net.nel.resp = s.dev.net.nel.resp ∧ t.dev.act = s.dev.act ∧ t.mem = s.mem ∧
  (2 ≤ x.fails → ∀ y ∈ t.dev.net.nel.sess, y.num ≠ x.num)

/-- No upset waits in a memory for the reads that meet it (R42). -/
abbrev State.clean (s : State) : Prop := s.dev.tim.upsets = []

/-- An op of the forme has run on task `k`: its stack is `l`, its code word moved by `n`, and no register or memory changed. -/
abbrev OpDone (s t : State) (k : TaskId) (n : Nat) (l : List Nat) : Prop :=
  t.dev.task k = { s.dev.task k with stack := l, pc := (s.dev.task k).pc + n } ∧ t.dev.act = s.dev.act ∧ t.mem = s.mem

/-- A trap has aborted task `k` (R395): its code and code word in TRAPINFO, its count and its event. -/
abbrev OpTrapped (s t : State) (k : TaskId) (code : Nat) : Prop :=
  (k ≠ .error → (t.dev.task k).st = .aborted) ∧ t.dev.get pgFRM FRM.TRAPINFO.CODE = code ∧ t.dev.get pgFRM FRM.TRAPINFO.TASK = k.code ∧
  t.dev.get pgFRM FRM.TRAPINFO.WORD = (s.dev.task k).pc % 2 ^ FRM.TRAPINFO.WORD.w ∧ t.dev.raised pgFRM Ev.FRM.TRAP = true

/-- A subscriber that a received telegram names: loaded, enabled, of its COMID and of its source or any (R484). -/
def SubX.named (x : SubX) (t : Telegram) : Bool := x.ok && x.d.en && x.d.comid == t.comId && (x.d.srcIp == 0 || x.d.srcIp == t.srcIp)

/-- No unit waits for a ring's index: neither the switch's transmit ring nor a CAN controller's is active. -/
def Dev.ringsQuiet (d : Dev) : Bool :=
  !ringActive d (d.get pgETH ETH.RINGSEL.TXRING) && [0, 1, 2].all fun c => canTxRing d c == none

/-- Commands that act outside the core die, or on it while it is down: power and resets, the keep-alive domain, the Platen die, the
field dies, the test access port; with them the two rows that tell a reading and the reports to the fault manager. -/
def actsOutside : Instr → Bool
  | .faultReport _ => true
  | .powerGood _ => true
  | .startUpSupervisor => true
  | .qFrameSend => true
  | .pFrameStatus _ => true
  | .pFrameLoss => true
  | .vpltValid => true
  | .vpltLow => true
  | .platenInputAccept _ _ => true
  | .platenHallChange _ _ => true
  | .platenRecordCrcCheck _ => true
  | .platenComparatorCheck _ => true
  | .stateEncodingCheck => true
  | .discrepancy _ => true
  | .darkPulse _ _ => true
  | .loopCloseDelay _ _ => true
  | .mirrorCheck _ => true
  | .coilReadback _ _ => true
  | .fieldLinkFrame _ _ => true
  | .fieldLinkLossDie _ => true
  | .fieldDieReset _ => true
  | .fieldDiePowerUp _ => true
  | .fieldInputChange _ _ => true
  | .tpoOvercurrent _ => true
  | .darkPulseEnd _ _ => true
  | .doOverload _ _ => true
  | .doReadback _ => true
  | .doOpenLoad _ => true
  | .switchTick _ => true
  | .lsInrushEnd _ _ => true
  | .lsHardShort _ _ => true
  | .lsOvercurrentTrip _ _ => true
  | .lsPauseEnd _ _ => true
  | .lsRetry _ _ => true
  | .lsTryReset _ _ => true
  | .lsFuseUpdate _ _ _ => true
  | .lsThermalLatch _ _ => true
  | .lockPullInEnd _ => true
  | .lkoc _ => true
  | .limpInput _ => true
  | .porstN => true
  | .supplyLoss _ => true
  | .vio1Loss => true
  | .keepAliveLoss => true
  | .keepAliveSecond => true
  | .coreReferenceLoss => true
  | .tapBypass => true
  | .tapIdcode => true
  | .tapSamplePreload _ => true
  | .tapExtest => true
  | .tapClamp => true
  | .tapHighz => true
  | .registerRead _ _ _ => true
  | .sysDtLoRead _ => true
  | _ => false

/-- Commands that may write the record memory: those on which the record engine starts or settles an operation, and the two losses of
supply that end in its final commit. -/
def writesRecords : Instr → Bool
  | .slugPageWrite _ => true
  | .nandOperationComplete _ _ _ => true
  | .recordMemoryRun _ => true
  | .recCtrlFormat _ => true
  | .holdupRetry _ => true
  | .vfldPfSet _ => true
  | .supplyLoss _ => true
  | _ => false

/-! Frames: what a command may write. A part of the state is a kind and a number (of an axis, a leaf, a die, a controller, or of a register's
cell); a scope covers one part, all parts of a kind, or the cells of one page. -/

/-- The kinds of state of which a frame speaks. `tim` is the device time without the events of the cycle; `ecc` the upsets met; `reg` and `stg` the active
and the staged register cells. -/
inductive Kind where
  | part | keep | otp | tim | ecc | boot | flt | c2 | sx | sy | px | py | vfld | imd | svc | forme | olc | tap | free
  | lb | eth | ptp | trdp | nel | hpi | out | can | records | mem | xs0 | xs1
  | drv | prf | seq | lig | lrn | mv | stp | win | obs | kern | pos | fb | emu | die | diey | reg | stg
  deriving DecidableEq, Repr

/-- The part of kind `k` and number `i` is the same in both states. -/
def Kind.same (i : Nat) (s t : State) : Kind → Prop
  | .part => t.dev.part = s.dev.part
  | .keep => t.dev.keep = s.dev.keep
  | .otp => t.dev.otp = s.dev.otp
  | .tim => { t.dev.tim with evAt := 0, evNow := [], upsets := [], eccHist := [] } = { s.dev.tim with evAt := 0, evNow := [], upsets := [], eccHist := [] }
  | .ecc => t.dev.tim.upsets = s.dev.tim.upsets ∧ t.dev.tim.eccHist = s.dev.tim.eccHist
  | .boot => t.dev.boot = s.dev.boot
  | .flt => t.dev.flt = s.dev.flt
  | .c2 => t.dev.c2 = s.dev.c2
  | .sx => t.dev.sx = s.dev.sx
  | .sy => t.dev.sy = s.dev.sy
  | .px => t.dev.px = s.dev.px
  | .py => t.dev.py = s.dev.py
  | .vfld => t.dev.vfld = s.dev.vfld
  | .imd => t.dev.imd = s.dev.imd
  | .svc => t.dev.svc = s.dev.svc
  | .forme => t.dev.forme = s.dev.forme
  | .olc => t.dev.olc = s.dev.olc
  | .tap => t.dev.tap = s.dev.tap
  | .free => t.dev.free = s.dev.free
  | .lb => t.dev.net.lb = s.dev.net.lb
  | .eth => t.dev.net.eth = s.dev.net.eth
  | .ptp => t.dev.net.ptp = s.dev.net.ptp
  | .trdp => t.dev.net.trdp = s.dev.net.trdp
  | .nel => t.dev.net.nel = s.dev.net.nel
  | .hpi => t.dev.net.hpi = s.dev.net.hpi
  | .out => t.dev.net.out = s.dev.net.out
  | .can => t.dev.cn i = s.dev.cn i
  | .records => t.dev.rec_ = s.dev.rec_
  | .mem => t.mem = s.mem
  | .xs0 => t.xs0 = s.xs0
  | .xs1 => t.xs1 = s.xs1
  | .drv => t.dev.drv i = s.dev.drv i
  | .prf => t.dev.prf i = s.dev.prf i
  | .seq => t.dev.seq i = s.dev.seq i
  | .lig => (t.dev.lf i).lig = (s.dev.lf i).lig
  | .lrn => t.dev.lrn i = s.dev.lrn i
  | .mv => t.dev.mov_ i = s.dev.mov_ i
  | .stp => t.dev.stp i = s.dev.stp i
  | .win => t.dev.win i = s.dev.win i
  | .obs => t.dev.ob i = s.dev.ob i
  | .kern => t.dev.kn i = s.dev.kn i
  | .pos => t.dev.ps i = s.dev.ps i
  | .fb => t.dev.fbk i = s.dev.fbk i
  | .emu => t.dev.em i = s.dev.em i
  | .die => t.dev.di i = s.dev.di i
  | .diey => t.dev.dy i = s.dev.dy i
  | .reg => ∀ v : Nat, Cells.get t.dev.act i v = Cells.get s.dev.act i v
  | .stg => ∀ v : Nat, Cells.get t.dev.stg i v = Cells.get s.dev.stg i v

/-- A set of parts: every part of a kind, one part, or the register cells of a page. -/
inductive Scope where
  | all (k : Kind)
  | one (k : Kind) (i : Nat)
  | page (k : Kind) (pg : Nat)

/-- The scope covers part `i` of kind `k`. A page holds 32,768 cells. -/
def Scope.covers (k : Kind) (i : Nat) : Scope → Bool
  | .all x => x == k
  | .one x n => x == k && n == i
  | .page x pg => x == k && pg == i / 32768

/-- The two states differ at most in what the scopes cover. -/
def SameBut (l : List Scope) (s t : State) : Prop :=
  ∀ (k : Kind) (i : Nat), (l.any (Scope.covers k i)) = false → k.same i s t

/-- The cell of a register field. -/
abbrev cell (k : Kind) (pg : Nat) (f : Fld) : Scope := .one k (f.key pg)

/-- The cells of fields of one page. -/
abbrev regs (pg : Nat) (l : List Fld) : List Scope := l.map (cell .reg pg)

/-- The scopes of the first `n` units. -/
abbrev each (n : Nat) (f : Nat → List Scope) : List Scope := (List.range n).flatMap f

/-- Scopes that an axis has as a leaf. -/
abbrev onLeaf (a : Nat) (l : List Scope) : List Scope := if a < 8 then l else []

/-- Scopes that an axis has as a step. -/
abbrev onStep (a : Nat) (l : List Scope) : List Scope := if a < 8 then [] else l

/-- What a report to the fault manager writes (R370, R376). -/
abbrev reportTouch : List Scope := [.all .flt] ++ regs pgFLT [FLT.INFO.ENTRY, FLT.INFO_CNT.COUNT, HDR.EV_STAT]

/-- What ordering device safe halt writes besides (R381). -/
def haltTouch : List Scope :=
  [.all .diey, .all .drv, .all .forme, .all .prf, .all .py, .all .records, .all .seq, .all .sx, .all .sy] ++ regs pgFRM [FRM.FORME_STAT.STATE] ++ (each
    12 fun a => regs (pgDRV a) [drvReg a LEAF.DRV_STAT.MODE])

/-- What taking an axis out of service with a fault event writes. -/
def tripTouch (a : Nat) : List Scope := reportTouch ++
  [.all .c2, .one .drv a] ++ regs (pgDRV a) [drvReg a LEAF.DRV_STAT.BEN, drvReg a LEAF.DRV_STAT.CALST, drvReg a LEAF.DRV_STAT.MODE, HDR.EV_STAT,
    HDR.STATE] ++ onLeaf a ([.one .kern (a), .one .prf (partnerOf a), .one .prf a, .one .seq a]) ++ onStep a ([.one .stp (a - 8)])

/-- What the bridge-disable lines write. -/
def disableTouch : List Scope := reportTouch ++
  [.all .diey, .all .drv, .all .kern, .all .prf, .all .seq, .all .stp] ++ (each 12 fun a => regs (pgDRV a) [HDR.EV_STAT, HDR.STATE, drvReg a
    LEAF.DRV_STAT.BEN, drvReg a LEAF.DRV_STAT.CALST, drvReg a LEAF.DRV_STAT.MODE]) ++ (each 8 fun a => regs (pgLEAF a) [HDR.EV_STAT,
    LEAF.DRV_STAT.BEN, LEAF.DRV_STAT.PLTDIS])

/-- What an op of the forme writes, its trap and its task's end included. -/
def opTouch : List Scope :=
  [.all .flt, .all .forme, .all .free, .all .imd, .all .mem, .all .olc] ++ regs pgFLT [FLT.INFO.ENTRY, FLT.INFO_CNT.COUNT, HDR.EV_STAT] ++ regs pgFRM
    [FRM.MSYNC_T.LASTT, FRM.MSYNC_T.MAXT, FRM.OLC_STAT.FAILC, FRM.OLC_STAT.STATE, FRM.OLC_STAT.WAIT, FRM.TASK_CNT.TRAPS, FRM.TRAPINFO.CODE,
    FRM.TRAPINFO.TASK, FRM.TRAPINFO.WORD, HDR.EV_STAT] ++ regs pgIMD [HDR.EV_STAT, IMD.FOLD.CRC, IMD.FOLD_CNT.COUNT, IMD.LANE_STAT.LANE0,
    IMD.LANE_STAT.LANE1, IMD.LANE_STAT.LANE2, IMD.LANE_STAT.LASTODD, IMD.LANE_STAT.MODE, IMD.LANE_TOT.LFLTS, IMD.LAST_LF.CAUSE, IMD.LAST_LF.LANE,
    IMD.LAST_LF_HI.DT_HI, IMD.LAST_LF_LO.DT_LO]

/-- What a write to a register may write, whichever it is. -/
def writeTouch : List Scope :=
  [.all .boot, .all .c2, .all .can, .all .die, .all .diey, .all .drv, .all .eth, .all .fb, .all .flt, .all .forme, .all .free, .all .kern, .all .mem,
    .all .otp, .all .pos, .all .prf, .all .ptp, .all .py, .all .records, .all .reg, .all .seq, .all .stg, .all .stp, .all .svc, .all .sx, .all .sy,
    .all .tim, .all .trdp, .all .xs0]

/-- What a reset of the core writes. -/
def resetTouch : List Scope :=
  [.all .boot, .all .c2, .all .can, .all .die, .all .diey, .all .drv, .all .ecc, .all .emu, .all .eth, .all .fb, .all .flt, .all .forme, .all .hpi, .all
    .imd, .all .kern, .all .lb, .all .lig, .all .lrn, .all .mem, .all .mv, .all .nel, .all .obs, .all .olc, .all .out, .all .pos, .all .prf, .all
    .ptp, .all .records, .all .reg, .all .seq, .all .stg, .all .stp, .all .svc, .all .sx, .all .sy, .all .tim, .all .trdp, .all .vfld, .all .win]

/-- What a command of the drives, profiles, Observers, feedback, sequencers and steps may write; nothing is said of the others. -/
def touchesMotion : Instr → Option (List Scope)
  | .bridgeDisableAssert leaf => some (reportTouch ++ [.one .drv leaf.val, .one .kern leaf.val, .one .prf (partnerOf leaf.val), .one .prf leaf.val, .one
      .seq leaf.val] ++ regs (pgDRV leaf.val) [drvReg leaf.val LEAF.DRV_STAT.BEN, drvReg leaf.val LEAF.DRV_STAT.CALST, drvReg leaf.val
      LEAF.DRV_STAT.MODE, HDR.EV_STAT, HDR.STATE] ++ regs (pgLEAF leaf.val) [HDR.EV_STAT, LEAF.DRV_STAT.BEN, LEAF.DRV_STAT.PLTDIS])
  | .bootstrapUv axis _ => some (tripTouch axis.val ++ regs (pgDRV axis.val) [drvReg axis.val LEAF.DRV_STAT.BSTOK, drvReg axis.val LEAF.DRV_STAT.LATCH])
  | .vgdUv die => some (reportTouch ++ [.all .c2, .all .drv, .all .kern, .all .prf, .all .seq, .all .stp, .one .die die.val] ++ (each 12 fun a => regs
      (pgDRV a) [HDR.EV_STAT, HDR.STATE, drvReg a LEAF.DRV_STAT.BEN, drvReg a LEAF.DRV_STAT.CALST, drvReg a LEAF.DRV_STAT.LATCH, drvReg a
      LEAF.DRV_STAT.MODE, drvReg a LEAF.DRV_STAT.VGDOK]))
  | .vdsTrip axis _ _ | .oclatch axis | .vbrov axis | .vph axis => some (tripTouch axis.val ++ regs (pgDRV axis.val) [drvReg axis.val
      LEAF.DRV_STAT.LATCH])
  | .overcurrentTrip c => some ([.one .drv c.axis.val] ++ regs (pgDRV c.axis.val) [drvReg c.axis.val LEAF.DIAG.OCCBC, HDR.EV_STAT])
  | .vbruv axis => some (tripTouch axis.val)
  | .isum leaf => some (reportTouch ++ [.all .c2, .one .drv leaf.val, .one .kern leaf.val, .one .prf (partnerOf leaf.val), .one .prf leaf.val, .one .seq
      leaf.val] ++ regs (pgDRV leaf.val) [drvReg leaf.val LEAF.DRV_STAT.BEN, drvReg leaf.val LEAF.DRV_STAT.CALST, drvReg leaf.val LEAF.DRV_STAT.LATCH,
      drvReg leaf.val LEAF.DRV_STAT.MODE, HDR.EV_STAT, HDR.STATE])
  | .shadow leaf => some (reportTouch ++ [.all .c2, .one .drv leaf.val, .one .kern leaf.val, .one .prf (partnerOf leaf.val), .one .prf leaf.val, .one
      .seq leaf.val] ++ regs (pgLEAF leaf.val) [HDR.EV_STAT])
  | .oshadow leaf => some (reportTouch ++ [.all .c2, .one .kern leaf.val, .one .prf (partnerOf leaf.val), .one .prf leaf.val, .one .seq leaf.val] ++
      regs (pgOBS leaf.val) [HDR.EV_STAT])
  | .pageStartWaitEnd axis => some ([.all .c2, .one .drv axis.val] ++ regs (pgDRV axis.val) [drvReg axis.val LEAF.DRV_STAT.VGDOK, LEAF.DRV_STAT.BSTOK])
  | .startingTimeout axis => some (reportTouch ++ [.all .c2, .one .drv axis.val] ++ regs (pgDRV axis.val) [HDR.EV_STAT] ++ onLeaf axis.val ([.one .kern
      axis.val, .one .prf (partnerOf axis.val), .one .prf axis.val, .one .seq axis.val]) ++ onStep axis.val ([.one .stp (axis.val - 8)]))
  | .bootstrapPrechargeEnd axis => some ([.one .drv axis.val] ++ regs (pgDRV axis.val) [drvReg axis.val LEAF.DRV_STAT.BEN, drvReg axis.val
      LEAF.DRV_STAT.CALST, drvReg axis.val LEAF.DRV_STAT.MODE])
  | .calibrationEnd axis => some (reportTouch ++ [.one .diey (axis.val / 4), .one .drv axis.val, .one .fb axis.val] ++ regs (pgDRV axis.val) [drvReg
      axis.val LEAF.DRV_STAT.BEN, drvReg axis.val LEAF.DRV_STAT.CALST, drvReg axis.val LEAF.DRV_STAT.MODE, drvReg axis.val LEAF.OFS_UV.OFSU, drvReg
      axis.val LEAF.OFS_UV.OFSV, HDR.EV_STAT, HDR.STATE] ++ onLeaf axis.val ([.one .kern (axis.val), .one .lrn axis.val, .one .obs axis.val, .one .prf
      (partnerOf axis.val), .one .prf axis.val, .one .seq (partnerOf axis.val), .one .seq axis.val, cell .stg (pgLEAF axis.val) LEAF.SOFTMAX.SOFTMAX,
      cell .stg (pgLEAF axis.val) LEAF.SOFTMIN.SOFTMIN, cell .stg (pgOBS axis.val) OBS.STROKE.STROKE] ++ regs (pgLEAF axis.val) [HDR.STATE,
      LEAF.DRV_STAT.BEN, LEAF.PRF_STAT.KECAP, LEAF.PRF_STAT.LIGOK, LEAF.PRF_STAT.LIGPEND, LEAF.PRF_STAT.LIMC, LEAF.PRF_STAT.LIMO,
      LEAF.PRF_STAT.MOVING, LEAF.PRF_STAT.OVS, LEAF.PRF_STAT.PHASE, LEAF.PRF_STAT.REFUSED, LEAF.PRF_STAT.SPQLVL, LEAF.PRF_STAT.SRC,
      LEAF.PRF_STAT.STANDSTILL, LEAF.PRF_STAT.STOPK, LEAF.REMAIN.COUNT, LEAF.SOFTMAX.SOFTMAX, LEAF.SOFTMIN.SOFTMIN, LEAF.SPQ_CFG.SPMODE, LEAF.SP_A.A,
      LEAF.SP_P.P, LEAF.SP_V.V] ++ regs (pgOBS axis.val) [OBS.STROKE.STROKE]) ++ onStep axis.val ([.one .stp (axis.val - 8), .one .win (axis.val - 8)]
      ++ regs (pgSTEP (axis.val - 8)) [HDR.EV_STAT, HDR.STATE, STEP.DRV_STAT.BEN]))
  | .drvCtrlCal _ _ | .stepDrvCtrlCal _ _ | .drvCtrlClrlatch _ _ | .drvCtrlClrcnt _ _ | .moveCmdGo _ _ _ | .moveCmdStop _ _ | .moveCmdQstop _ _ |
      .moveCmdHstop _ _ | .spqAPush _ _ _ | .obsCtrlRebase _ _ | .obsCtrlClrdet _ _ | .posCtrlSetref _ _ | .posCtrlClrflt _ _ | .posCtrlClrcnt _ _ |
      .seqCmdOpen _ _ | .seqCmdClose _ _ | .seqCmdLearn _ _ | .seqCmdRefrun _ _ | .seqCmdAck _ _ | .seqCmdClrsusp _ _ | .stpCmdExtend _ _ |
      .stpCmdRetract _ _ | .stpCmdInhibit _ _ | .stpCmdUninh _ _ | .stpCmdHome _ _ | .stpCmdAck _ _ | .stpCmdStop _ _ | .stpCmdQstop _ _ |
      .stpCmdHstop _ _ | .stpCmdClrsusp _ _ => some (writeTouch)
  | .spqUnderrun leaf | .stopto leaf => some (reportTouch ++ [.all .c2, .one .kern leaf.val, .one .prf (partnerOf leaf.val), .one .prf leaf.val, .one
      .seq leaf.val] ++ regs (pgLEAF leaf.val) [HDR.EV_STAT])
  | .ligatureForm pair => some ([.one .lig (2 * pair.val), .one .prf (2 * pair.val + 1), .one .prf (2 * pair.val)] ++ regs (pgLEAF (2 * pair.val + 1))
      [HDR.EV_STAT] ++ regs (pgLEAF (2 * pair.val)) [HDR.EV_STAT])
  | .syncerr pair => some (reportTouch ++ [.all .c2, .one .kern (2 * pair.val), .one .lig (2 * pair.val), .one .prf (2 * pair.val), .one .prf (partnerOf
      (2 * pair.val)), .one .seq (2 * pair.val)] ++ regs (pgLEAF (2 * pair.val + 1)) [HDR.EV_STAT] ++ regs (pgLEAF (2 * pair.val)) [HDR.EV_STAT])
  | .keover leaf => some (reportTouch ++ [.all .c2, .one .kern leaf.val, .one .prf (partnerOf leaf.val), .one .prf leaf.val, .one .seq leaf.val])
  | .standstill axis => some ([.all .seq, .one .diey (axis.val / 4), .one .drv axis.val, .one .fb axis.val] ++ regs (pgDRV axis.val) [drvReg axis.val
      LEAF.DRV_STAT.BEN, drvReg axis.val LEAF.DRV_STAT.MODE, HDR.STATE] ++ onLeaf axis.val ([.one .kern axis.val, .one .lrn axis.val, .one .obs
      axis.val, .one .prf (partnerOf axis.val), .one .prf axis.val, cell .stg (pgLEAF axis.val) LEAF.SOFTMAX.SOFTMAX, cell .stg (pgLEAF axis.val)
      LEAF.SOFTMIN.SOFTMIN, cell .stg (pgOBS axis.val) OBS.STROKE.STROKE] ++ regs (pgLEAF axis.val) [HDR.EV_STAT, HDR.STATE, LEAF.DRV_STAT.BEN,
      LEAF.PRF_STAT.KECAP, LEAF.PRF_STAT.LIGOK, LEAF.PRF_STAT.LIGPEND, LEAF.PRF_STAT.LIMC, LEAF.PRF_STAT.LIMO, LEAF.PRF_STAT.MOVING,
      LEAF.PRF_STAT.OVS, LEAF.PRF_STAT.PHASE, LEAF.PRF_STAT.REFUSED, LEAF.PRF_STAT.SPQLVL, LEAF.PRF_STAT.SRC, LEAF.PRF_STAT.STANDSTILL,
      LEAF.PRF_STAT.STOPK, LEAF.REMAIN.COUNT, LEAF.SOFTMAX.SOFTMAX, LEAF.SOFTMIN.SOFTMIN, LEAF.SPQ_CFG.SPMODE, LEAF.SP_A.A, LEAF.SP_P.P, LEAF.SP_V.V]
      ++ regs (pgOBS axis.val) [OBS.STROKE.STROKE]) ++ onStep axis.val ([.one .stp (axis.val - 8), .one .win (axis.val - 8)] ++ regs (pgSTEP (axis.val
      - 8)) [HDR.EV_STAT, HDR.STATE, STEP.DRV_STAT.BEN]))
  | .limitSwitch leaf _ => some (reportTouch ++ [.all .c2, .one .kern leaf.val, .one .lrn leaf.val, .one .prf (partnerOf leaf.val), .one .prf leaf.val,
      .one .seq leaf.val] ++ regs (pgLEAF leaf.val) [HDR.EV_STAT, LEAF.LIMC_CAP.POS, LEAF.LIMO_CAP.POS])
  | .tstale leaf => some (reportTouch ++ [.one .kern leaf.val] ++ regs (pgOBS leaf.val) [HDR.EV_STAT, OBS.OBS_STAT.TSTALE])
  | .ktUpdate leaf => some (reportTouch ++ [.one .kern leaf.val, .page .reg (pgOBS leaf.val)])
  | .forceDetection leaf | .stallDetection leaf | .stiffnessDetection leaf | .edgeDetection leaf => some (reportTouch ++ [.one .kern leaf.val, .one .mv
      leaf.val, .one .obs leaf.val, .one .prf (partnerOf leaf.val), .one .prf leaf.val, .one .seq leaf.val] ++ regs (pgOBS leaf.val) [HDR.EV_STAT,
      OBS.DETF.COUNT, OBS.DETF.F, OBS.DETPOS.POS, OBS.OBS_STAT.DET, OBS.OBS_STAT.KIND])
  | .encoderEdge axis _ => some (reportTouch ++ [.one .pos axis.val, .page .reg (pgPOS axis.val)] ++ onLeaf axis.val ([.one .kern (axis.val)]))
  | .hallEdge leaf _ | .hallInvalid leaf _ => some (reportTouch ++ [.one .kern leaf.val, .one .pos leaf.val, .page .reg (pgPOS leaf.val)])
  | .indexEdge e => some (reportTouch ++ [.one .pos e.axis.val, .page .reg (pgPOS e.axis.val)] ++ onLeaf e.axis.val ([.one .kern (e.axis.val)]))
  | .ssiTransferEnd leaf _ => some (reportTouch ++ [.one .kern leaf.val, .one .pos leaf.val] ++ regs (pgPOS leaf.val) [HDR.EV_STAT, POS.DIAG.SSIC,
      POS.SSIRAW.WORD])
  | .ssiFault leaf => some ([.one .pos leaf.val])
  | .xchk leaf | .slip leaf => some (reportTouch ++ [.one .kern leaf.val, .one .pos leaf.val] ++ regs (pgPOS leaf.val) [HDR.EV_STAT])
  | .posStartingDone axis => some ([.one .fb axis.val, .one .pos axis.val] ++ regs (pgPOS axis.val) [HDR.STATE, POS.REFOFS.REFOFS] ++ onStep axis.val
      ([.one .stp (axis.val - 8)]))
  | .tunlkExpiry leaf | .tlockExpiry leaf | .twarnEnd leaf | .treclExpiry leaf => some ([.one .seq leaf.val])
  | .referencePressEnd leaf | .learnStall leaf => some ([.one .lrn leaf.val])
  | .switchChatter axis _ => some (reportTouch ++ onLeaf axis.val ([.one .kern axis.val, .one .lrn axis.val, .one .seq axis.val]) ++ onStep axis.val
      ([.one .stp (axis.val - 8)]))
  | .stepInputEdge step _ _ _ => some ([.all .free, .one .win step.val] ++ regs (pgSTEP step.val) [HDR.EV_STAT])
  | .holdDelayEnd step => some ([.one .win step.val])
  | .openw step _ => some (reportTouch ++ [.all .c2, .one .stp step.val, .one .win step.val] ++ regs (pgSTEP step.val) [HDR.EV_STAT])
  | .retractDemandRelease step => some ([.one .stp step.val, .one .win step.val] ++ regs (pgSTEP step.val) [HDR.EV_STAT])
  | .orientationApply => some ([.all .sy] ++ regs pgSAFE [HDR.EV_STAT])
  | _ => none

/-- What a command of the Platen, the interlocks, IMDEL, the resets and supplies may write; nothing is said of the others. -/
def touchesSafety : Instr → Option (List Scope)
  | .powerGood _ => some ([.all .boot, .all .c2, .all .can, .all .diey, .all .drv, .all .emu, .all .fb, .all .flt, .all .forme, .all .free, .all .imd,
      .all .keep, .all .kern, .all .lb, .all .lrn, .all .mem, .all .obs, .all .olc, .all .otp, .all .pos, .all .prf, .all .ptp, .all .px, .all .py,
      .all .records, .all .reg, .all .seq, .all .stg, .all .stp, .all .svc, .all .sx, .all .sy, .all .tap, .all .tim, .all .trdp, .all .win, .all
      .xs0])
  | .supplyLoss _ | .porstN => some (resetTouch ++ [.all .tap])
  | .pltclkOutOfWindow _ => some (reportTouch ++ regs pgCLK [CLK.PLTFREQ.KHZ, CLK.STAT.PLT_OK, HDR.EV_STAT])
  | .pwmPeriodStart _ => some (disableTouch ++ [.all .c2, .all .die, .all .emu, .all .fb, .all .lig, .all .lrn, .all .mv, .all .obs, .all .pos, .all
      .px, .all .py, .all .records, .all .sx, .all .tim, .all .win] ++ regs pgCLK [CLK.GRID.PWM, CLK.GRID.SERVO] ++ (each 12 fun a => regs (pgDRV a)
      [drvReg a LEAF.DIAG.STALE, drvReg a LEAF.DIAG.VLIM, drvReg a LEAF.DRV_STAT.LATCH]) ++ (each 12 fun a => regs (pgPOS a) [POS.ANG.ANG]) ++ (each 4
      fun a => regs (pgSTEP a) [HDR.EV_STAT, STEP.DIAG.STALE, STEP.DRV_STAT.HOLDI, STEP.IREF_AB.IAREF, STEP.IREF_AB.IBREF, STEP.I_AB.IA,
      STEP.I_AB.IB]) ++ (each 8 fun a => regs (pgLEAF a) [LEAF.DIAG.OCCBC, LEAF.DIAG.STALE, LEAF.DIAG.VLIM, LEAF.IDQ.ID, LEAF.IDQ.IQ, LEAF.I_UV.IU,
      LEAF.I_UV.IV, LEAF.I_W.IW, LEAF.I_W.VBR, LEAF.OFS_UV.OFSU, LEAF.OFS_UV.OFSV, LEAF.OFS_W.OFSW, LEAF.SPQ_CFG.SPMODE, LEAF.SRV_EP.PERR,
      LEAF.SRV_IQ.IQREF, LEAF.VDQ.VD, LEAF.VDQ.VQ, LEAF.VPH_UV.VPHU, LEAF.VPH_UV.VPHV, LEAF.VPH_W.VPHW]) ++ (each 8 fun a => regs (pgOBS a)
      [HDR.EV_STAT, OBS.OBS_STAT.EDGEACT]) ++ (EMU.CNT.CNT.elems.map (cell .reg (pgEMU))) ++ (EMU.STAT.FRZ.elems.map (cell .reg (pgEMU))) ++
      (EMU.STAT.LAG.elems.map (cell .reg (pgEMU))) ++ (EMU.STAT.UNREF.elems.map (cell .reg (pgEMU))))
  | .scrub _ => some (reportTouch ++ [.all .c2, .all .drv, .all .ecc, .all .free, .all .imd, .all .kern, .all .mem, .all .nel, .all .prf, .all .records,
      .all .seq, .all .stp, .all .svc, .page .reg pgIMD, .page .reg pgSVC] ++ regs pgREC [REC.QFILL.FILL, REC.QFILL.MAXFILL, REC.REC_STAT.DEFER,
      REC.REC_STAT.FULL] ++ (each 12 fun a => regs (pgDRV a) [HDR.EV_STAT, HDR.STATE, drvReg a LEAF.DRV_STAT.BEN, drvReg a LEAF.DRV_STAT.CALST, drvReg
      a LEAF.DRV_STAT.LATCH, drvReg a LEAF.DRV_STAT.MODE]) ++ (each 8 fun a => regs (pgOBS a) [OBS.KTVER.VER]) ++ ((List.range 8).flatMap fun a =>
      OBS.KTC.FRIC.elems.map (cell .reg (pgOBS a))) ++ ((List.range 8).flatMap fun a => OBS.KTO.FRIC.elems.map (cell .reg (pgOBS a))))
  | .qFrameReceive _ => some (reportTouch ++ [.all .c2, .all .kern, .all .sx, .all .sy] ++ regs pgCLK [CLK.STAT.REF_OK, HDR.EV_STAT] ++ regs pgPLT
      [HDR.EV_STAT, PLT.CRC.CRC, PLT.DIAG.CMPCHK, PLT.DIAG.COILB, PLT.DIAG.PCRCRC, PLT.DIAG.REFLOSS, PLT.DIAG.STATECHK, PLT.DIAG.VPLTLO,
      PLT.GUARD.LATCH, PLT.GUARD.LSTST, PLT.IO.COIL, PLT.IO.COILOK, PLT.IO.DEC, PLT.IO.MIR, PLT.IO.ORI, PLT.IO.TLI, PLT.LINES.BDIS, PLT.LINES.LKEN,
      PLT.LINK.CRCERR, PLT.LINK.GOOD, PLT.LINK.SEQERR, PLT.SI.SI, PLT.STATE.STATE] ++ regs pgSAFE [HDR.EV_STAT])
  | .pFrameStatus _ | .pFrameConfig _ _ | .pFrameRestart => some (disableTouch ++ [.all .px, .all .py, .all .sx, .all .sy])
  | .pFrameTest _ _ | .pFrameRun | .pFrameHalt => some (disableTouch ++ [.all .px, .all .py, .all .sx])
  | .platenInputAccept _ _ | .platenHallChange _ _ | .platenRecordCrcCheck _ | .platenComparatorCheck _ | .coreReferenceLoss | .pFrameLoss | .vpltValid
    | .vpltLow | .stateEncodingCheck => some (disableTouch ++ [.all .px, .all .py])
  | .darkPulse tpo _ => some (reportTouch ++ [.all .c2, .all .sx, .one .diey (tpo.val / 4)] ++ regs pgSAFE [HDR.EV_STAT, SAFE.SAFE_MASK.TPF])
  | .discrepancy _ | .mirrorCheck _ | .coilReadback _ _ => some (disableTouch ++ [.all .c2, .all .px, .all .py, .all .sx, .all .sy] ++ regs pgSAFE
      [HDR.EV_STAT])
  | .loopCloseDelay _ _ => some (disableTouch ++ [.all .px, .all .py, .all .sx, .all .sy] ++ regs pgSAFE [HDR.EV_STAT])
  | .safeCtrlTclr _ | .safeCtrlDclr _ | .safeCtrlMclr _ | .safeCtrlGclr _ _ | .safeCtrlHtreq _ _ | .svcKick _ _ | .dtsetCtrlSet _ | .fltAck _ _ => some
      (writeTouch)
  | .lockSwitchTest _ _ => some (disableTouch ++ [.all .px, .all .py, .all .sy])
  | .lockTestPulseEnd leaf _ => some (disableTouch ++ [.all .c2, .all .px, .all .py, .all .sx, .all .sy, .one .die (leaf.val / 4)] ++ regs pgSAFE
      [HDR.EV_STAT])
  | .holdingTestStart _ => some ([.all .drv, .all .prf, .all .sy] ++ regs pgSAFE [SAFE.SAFE_HT.RUN])
  | .holdingTestEnd leaf => some (reportTouch ++ [.all .c2, .all .sx, .all .sy, .one .drv leaf.val, .one .prf (partnerOf leaf.val), .one .prf leaf.val,
      .one .seq leaf.val] ++ regs pgSAFE [HDR.EV_STAT, SAFE.SAFE_HT.MOVE, SAFE.SAFE_HT.PASS, SAFE.SAFE_HT.RUN])
  | .sealScan _ _ => some (reportTouch ++ regs pgSEAL [HDR.EV_STAT, SEAL.RAW.RAW, SEAL.STAT.BAD, SEAL.STAT.SCANOK, SEAL.STAT.STRFLT, SEAL.STAT.TAMPER])
  | .tripletTransaction _ => some (writeTouch ++ [.all .ecc, .all .imd, .all .nel, .all .out])
  | .resyncTransfer _ _ => some (reportTouch ++ [.all .imd] ++ regs pgIMD [HDR.EV_STAT, IMD.DBG.HALTED, IMD.LANE_STAT.LANE0, IMD.LANE_STAT.LANE1,
      IMD.LANE_STAT.LANE2, IMD.LANE_STAT.MODE, IMD.LANE_TOT.RSYNCS, IMD.PROOF_STAT.ACTIVE, IMD.RSYNC_T.LASTT, IMD.RSYNC_T.MAXT])
  | .bistEnd _ _ => some (reportTouch ++ [.all .imd] ++ regs pgIMD [HDR.EV_STAT, IMD.DBG.HALTED, IMD.LANE_STAT.LANE0, IMD.LANE_STAT.LANE1,
      IMD.LANE_STAT.LANE2, IMD.LANE_STAT.MODE, IMD.PROOF_STAT.ACTIVE, IMD.PROOF_STAT.PASS, IMD.PROOF_T.BISTT])
  | .servicePairFault _ _ | .serviceWatchdog _ => some (reportTouch ++ [.all .c2, .all .nel, .all .svc, .page .reg pgSVC])
  | .debuggerWrite _ _ _ => some (writeTouch ++ [.all .imd])
  | .faultReport _ => some (disableTouch ++ [.all .c2, .all .can, .all .die, .all .lb, .all .mem, .all .nel, .all .px, .all .py, .all .svc, .all .sx,
      .all .sy, .all .vfld, .page .reg pgSVC] ++ regs (pgFIO 0) [FIO.VFLD_STAT.LOW, FIO.VFLD_STAT.PF, FIO.VFLD_STAT.SHEDLVL, FIO.VFLD_STAT.WARN,
      HDR.EV_STAT] ++ regs pgSAFE [HDR.EV_STAT] ++ (each 2 fun a => regs (pgFIO a) [FIO.LINK.LOST]) ++ (each 3 fun a => regs (pgCAN a) [CAN.ECS.REC,
      CAN.ECS.TEC, CAN.PSR.ACT, CAN.PSR.BOLATCH, CAN.PSR.STATE]))
  | .tapSamplePreload _ | .tapBypass | .tapIdcode | .tapExtest | .tapClamp | .tapHighz => some ([.all .tap])
  | .debugResume _ _ _ => some ([.all .imd, .all .svc] ++ regs pgIMD [IMD.DBG.FULL, IMD.DBG.HALTED, IMD.DBG.REPLAY] ++ regs pgSVC [SVC.SVC_DBG.FULL,
      SVC.SVC_DBG.HALTED, SVC.SVC_DBG.REPLAY])
  | .gridStart => some ([.all .forme, .all .tim] ++ regs pgFRM [FRM.FORME_STAT.FACTORY, FRM.FORME_STAT.HALF, FRM.FORME_STAT.MAINT,
      FRM.FORME_STAT.REGION, FRM.FORME_STAT.STATE, FRM.MAPHASH.HASH, FRM.OLC_STAT.STATE])
  | .ready => some (reportTouch ++ [.all .boot, .all .imd, .all .otp] ++ regs pgCFG [CFG.BOOT_STAT.PHASE, CFG.BOOT_STAT.READY, CFG.BOOT_T.READYT,
      HDR.EV_STAT] ++ regs pgSEC [HDR.EV_STAT, SEC.FWMIN.MIN, SEC.INTEGID.ID, SEC.NKEYSTAT.ROWS, SEC.SEC_STAT.DBGUNL, SEC.SEC_STAT.IKEYS,
      SEC.SEC_STAT.INTEGSET, SEC.SEC_STAT.NKEYS, SEC.SEC_STAT.ROOTOK, SEC.UID_HI.UID, SEC.UID_LO.UID, SEC.VER_STAT.FMARK0, SEC.VER_STAT.FMARK1] ++
      regs pgSVC [SVC.SVC_MODE.DBGUNL])
  | .startUpSupervisor | .automaticReset => some (resetTouch ++ [.all .keep])
  | .vio1Loss => some (reportTouch ++ [.all .eth] ++ regs pgETH [ETH.PORTSTAT.P1LINK, ETH.PORTSTAT.P1MIS, ETH.PORTSTAT.P1SPD, ETH.PORTSTAT.P2LINK,
      ETH.PORTSTAT.P2MIS, ETH.PORTSTAT.P2SPD, HDR.EV_STAT])
  | .keepAliveLoss | .keepAliveSecond => some ([.all .keep])
  | .pllLoss => some (reportTouch ++ [.all .tim] ++ regs pgCLK [CLK.STAT.BKACT, CLK.STAT.PLL_LOCK])
  | .servoPeriodBoundary | .programCycleBoundary => some (resetTouch ++ [.all .free, .all .xs0])
  | .qFrameSend => some ([.all .py])
  | .orimis => some (reportTouch ++ [.all .c2, .all .sx, .all .sy] ++ regs pgSAFE [HDR.EV_STAT])
  | .xlink | .xdec | .pcrbad => some (reportTouch ++ [.all .sy])
  | .proofDue => some ([.all .imd] ++ regs pgIMD [IMD.PROOF_STAT.DEFER])
  | .proofStart => some ([.all .imd] ++ regs pgIMD [HDR.EV_STAT, IMD.LANE_STAT.LANE0, IMD.LANE_STAT.LANE1, IMD.LANE_STAT.LANE2, IMD.LANE_STAT.MODE,
      IMD.PROOF_STAT.ACTIVE, IMD.PROOF_STAT.DEFER, IMD.PROOF_STAT.NEXT])
  | .prooflate => some (reportTouch ++ [.all .imd] ++ regs pgIMD [HDR.EV_STAT, IMD.LANE_STAT.LANE0, IMD.LANE_STAT.LANE1, IMD.LANE_STAT.LANE2,
      IMD.LANE_STAT.MODE, IMD.PROOF_STAT.ACTIVE, IMD.PROOF_STAT.DEFER, IMD.PROOF_STAT.NEXT])
  | .servicePairRestartDone => some ([.all .c2, .all .svc])
  | .tripletDebugHalt => some (reportTouch ++ [.all .imd] ++ regs pgIMD [HDR.EV_STAT, IMD.DBG.HALTED])
  | .serviceDebugHalt => some ([.all .svc] ++ regs pgSVC [HDR.EV_STAT, SVC.SVC_DBG.HALTED])
  | .quietReset => some (resetTouch)
  | _ => none

/-- What a command of the registers, the field dies and the configuration may write; nothing is said of the others. -/
def touchesRegisters : Instr → Option (List Scope)
  | .fieldDieReset die | .fieldLinkLossDie die => some (reportTouch ++ [.all .drv, .all .kern, .all .stp, .one .die die.val, .one .diey die.val] ++
      (each 12 fun a => regs (pgDRV a) [HDR.EV_STAT, HDR.STATE, drvReg a LEAF.DRV_STAT.BEN, drvReg a LEAF.DRV_STAT.CALST, drvReg a
      LEAF.DRV_STAT.MODE]))
  | .fieldDiePowerUp die => some ([.one .die die.val, .one .diey die.val])
  | .fieldLinkFrame _ _ => some ([.all .c2, .all .die, .all .diey, .all .drv, .all .emu, .all .fb, .all .flt, .all .kern, .all .lig, .all .mv, .all
      .obs, .all .pos, .all .prf, .all .records, .all .reg, .all .seq, .all .stp, .all .tim, .all .vfld, .all .win])
  | .fieldLinkLossCore die => some (reportTouch ++ [.all .c2, .all .prf, .all .seq, .all .stp, .one .die die.val] ++ regs (pgFIO die.val)
      [FIO.LINK.LOST])
  | .registerWrite _ _ _ _ | .evSetWrite _ _ _ | .shCtrlCommit _ _ _ | .shCtrlAbort _ _ | .tpoClr _ _ _ | .doClr _ _ _ | .lsClrClr _ _ _ | .lsClrClrth _
      _ _ | .lkClr _ _ _ | .fioCtrlRelease _ _ | .cfgCtrlSwitch _ | .cfgCtrlCancel _ | .cfgCtrlRstreq _ | .cfgCtrlConfirm _ | .verCtrlGo _ _ _ _ _ |
      .secCtrlPolinst _ | .secCtrlRollfwd _ | .secCtrlUnlock _ | .nkeyctrlWr _ _ => some (writeTouch)
  | .sysDtLoRead _ | .registerRead _ _ _ => some ([.all .free, .all .out, .all .reg, .all .tim])
  | .leafRestCommit _ => some ([.all .c2, .all .can, .all .diey, .all .drv, .all .emu, .all .fb, .all .flt, .all .forme, .all .kern, .all .lb, .all
      .lrn, .all .mem, .all .obs, .all .olc, .all .pos, .all .prf, .all .ptp, .all .reg, .all .seq, .all .stg, .all .stp, .all .sx, .all .win])
  | .fieldInputChange _ _ | .limpInput _ => some ([.all .die])
  | .tpoOvercurrent tpo => some ([.one .die (tpo.val / 4), .one .diey (tpo.val / 4)])
  | .doOverload ch _ | .doReadback ch | .doOpenLoad ch => some ([.one .die (ch.val / 8)])
  | .switchTick die => some ([.all .c2, .one .die die.val])
  | .lsInrushEnd die _ | .lsHardShort die _ | .lsOvercurrentTrip die _ | .lsPauseEnd die _ | .lsRetry die _ | .lsTryReset die _ | .lsFuseUpdate die _ _
    | .lsThermalLatch die _ => some ([.one .die die.val])
  | .lockPullInEnd leaf => some ([.one .diey (leaf.val / 4)])
  | .lkoc leaf => some ([.one .die (leaf.val / 4), .one .diey (leaf.val / 4)])
  | .vfldPfSet _ => some (reportTouch ++ [.all .c2, .all .mem, .all .mv, .all .prf, .all .records, .all .seq, .all .stp, .all .vfld, .all .xs0, .all
      .xs1, cell .stg pgREC REC.REC_CTRL.FORMAT] ++ regs (pgFIO 0) [FIO.VFLD_STAT.LOW, FIO.VFLD_STAT.PF, FIO.VFLD_STAT.SHEDLVL, FIO.VFLD_STAT.WARN,
      HDR.EV_STAT] ++ regs pgREC [HDR.EV_STAT, HDR.STATE, REC.HOLDMEAS.EAVAIL, REC.HOLDMEAS.VHOLD, REC.LOSTCNT.SLUG, REC.QFILL.FILL,
      REC.QFILL.MAXFILL, REC.REC_CTRL.FORMAT, REC.REC_STAT.DEFER, REC.REC_STAT.FC, REC.REC_STAT.FCEND, REC.REC_STAT.FULL, REC.REC_STAT.LAYMIS,
      REC.REC_STAT.RUN, REC.SEQS.LAST])
  | .neltanOpen _ => some ([.all .free, .all .nel])
  | .neltanRead _ => some ([.all .free, .all .nel, .all .reg, .all .tim])
  | .neltanWrite _ => some (writeTouch ++ [.all .nel])
  | .neltanStatus _ | .neltanClose _ | .neltanSessionTimeout _ | .neltanOpenBlockEnd _ => some ([.all .nel])
  | .hpiRead _ _ => some ([.all .free, .all .hpi, .all .reg, .all .tim])
  | .hpiWrite _ _ _ _ => some (writeTouch ++ [.all .hpi])
  | .fwCodePageFetch _ => some (reportTouch)
  | .settingsWrite _ _ _ _ => some ([.all .xs0] ++ regs pgSEC [HDR.EV_STAT])
  | .deferredPageApply _ => some ([.all .boot, .all .c2, .all .can, .all .diey, .all .drv, .all .emu, .all .fb, .all .flt, .all .forme, .all .kern, .all
      .lb, .all .lrn, .all .mem, .all .obs, .all .olc, .all .pos, .all .prf, .all .ptp, .all .reg, .all .seq, .all .stg, .all .stp, .all .sx, .all
      .win, .all .xs0])
  | .darkPulseEnd tpo _ => some ([.all .c2, .one .die (tpo.val / 4), .one .diey (tpo.val / 4)])
  | .settingsOperationComplete _ _ => some (reportTouch ++ [.all .records, .all .xs0, .all .xs1, cell .stg pgREC REC.REC_CTRL.FORMAT] ++ regs pgREC
      [HDR.EV_STAT, HDR.STATE, REC.DEFCNT.COUNT, REC.HOLDMEAS.EAVAIL, REC.HOLDMEAS.VHOLD, REC.QFILL.FILL, REC.QFILL.MAXFILL, REC.REC_CTRL.FORMAT,
      REC.REC_STAT.DEFER, REC.REC_STAT.FC, REC.REC_STAT.FCEND, REC.REC_STAT.FULL, REC.REC_STAT.LAYMIS, REC.REC_STAT.RUN])
  | .vfldWarnSet => some (reportTouch ++ [.all .vfld] ++ regs (pgFIO 0) [FIO.VFLD_STAT.LOW, FIO.VFLD_STAT.PF, FIO.VFLD_STAT.SHEDLVL, FIO.VFLD_STAT.WARN,
      HDR.EV_STAT])
  | .vfldWarnClear | .vfldLowClear => some ([.all .vfld] ++ regs (pgFIO 0) [FIO.VFLD_STAT.LOW, FIO.VFLD_STAT.PF, FIO.VFLD_STAT.SHEDLVL,
      FIO.VFLD_STAT.WARN, HDR.EV_STAT])
  | .vfldLowSet => some (reportTouch ++ [.all .prf, .all .seq, .all .stp, .all .vfld] ++ regs (pgFIO 0) [FIO.VFLD_STAT.LOW, FIO.VFLD_STAT.PF,
      FIO.VFLD_STAT.SHEDLVL, FIO.VFLD_STAT.WARN, HDR.EV_STAT])
  | .vfldPfClear => some ([.all .c2, .all .vfld] ++ regs (pgFIO 0) [FIO.VFLD_STAT.LOW, FIO.VFLD_STAT.PF, FIO.VFLD_STAT.SHEDLVL, FIO.VFLD_STAT.WARN,
      HDR.EV_STAT])
  | .shedStep => some ([.all .vfld] ++ regs (pgFIO 0) [FIO.VFLD_STAT.LOW, FIO.VFLD_STAT.PF, FIO.VFLD_STAT.SHEDLVL, FIO.VFLD_STAT.WARN])
  | .verificationDone => some ([.all .boot, .all .mem, .all .xs0] ++ regs pgSEC [HDR.EV_STAT, SEC.FWMIN.MIN, SEC.INTEGID.ID, SEC.NKEYSTAT.ROWS,
      SEC.SEC_STAT.DBGUNL, SEC.SEC_STAT.IKEYS, SEC.SEC_STAT.INTEGSET, SEC.SEC_STAT.NKEYS, SEC.SEC_STAT.ROOTOK, SEC.UID_HI.UID, SEC.UID_LO.UID,
      SEC.VER_NUM.VERNUM, SEC.VER_STAT.BUSY, SEC.VER_STAT.DONE, SEC.VER_STAT.FMARK0, SEC.VER_STAT.FMARK1, SEC.VER_STAT.RESULT] ++ regs pgSVC
      [SVC.SVC_MODE.DBGUNL])
  | _ => none

/-- What a command of the forme may write; nothing is said of the others. -/
def touchesForme : Instr → Option (List Scope)
  | .opLdi _ _ | .opLdk _ _ _ | .opLdv _ _ | .opStv _ _ | .opLdin _ _ | .opStout _ _ | .opLdx _ _ _ | .opStx _ _ _ | .opAdd _ | .opSub _ | .opMul _ |
      .opDiv _ | .opMod _ | .opNeg _ | .opAbs _ | .opAnd _ | .opOr _ | .opXor _ | .opNot _ | .opShl _ | .opShr _ | .opEq _ | .opNe _ | .opLt _ | .opLe
      _ | .opGt _ | .opGe _ | .opCvt _ _ | .opJmp _ | .opJz _ | .opJnz _ | .opTrap _ | .opNop | .opDup | .opDrop | .opSwap => some (opTouch)
  | .opCall _ => some (writeTouch ++ [.all .ecc, .all .imd, .all .nel, .all .olc])
  | .olcPrep _ => some (reportTouch ++ [.all .forme, .all .mem, .all .olc] ++ regs pgFRM [FRM.FORME_STAT.FACTORY, FRM.FORME_STAT.HALF,
      FRM.FORME_STAT.MAINT, FRM.FORME_STAT.REGION, FRM.FORME_STAT.STATE, FRM.MAPHASH.HASH, FRM.OLC_STAT.FAILC, FRM.OLC_STAT.STATE, FRM.OLC_STAT.WAIT,
      HDR.EV_STAT])
  | .taskCtrlClrcnt _ => some (writeTouch)
  | .motionSyncTaskStart => some ([.all .forme, .all .mem])
  | .msovr => some (reportTouch ++ [.all .forme, .all .free, .all .imd] ++ regs pgFRM [FRM.MSYNC_T.LASTT, FRM.MSYNC_T.MAXT, FRM.TASK_CNT.MSOVR,
      FRM.TRAPINFO.CODE, FRM.TRAPINFO.TASK, FRM.TRAPINFO.WORD, HDR.EV_STAT] ++ regs pgIMD [HDR.EV_STAT, IMD.FOLD.CRC, IMD.FOLD_CNT.COUNT,
      IMD.LANE_STAT.LANE0, IMD.LANE_STAT.LANE1, IMD.LANE_STAT.LANE2, IMD.LANE_STAT.LASTODD, IMD.LANE_STAT.MODE, IMD.LANE_TOT.LFLTS, IMD.LAST_LF.CAUSE,
      IMD.LAST_LF.LANE, IMD.LAST_LF_HI.DT_HI, IMD.LAST_LF_LO.DT_LO])
  | .mainTaskStart => some ([.all .forme, .all .mem] ++ regs pgFRM [FRM.ERRINFO.DROP, FRM.ERRINFO.DROPMASK, FRM.ERRINFO.ERRTRAP, FRM.ERRINFO.LATE,
      FRM.ERRINFO.MSOVR, FRM.ERRINFO.TRAP, FRM.TASK_CNT.ERRRUN, HDR.EV_STAT])
  | .overrun => some (reportTouch ++ [.all .forme] ++ regs pgFRM [FRM.FORME_STAT.FACTORY, FRM.FORME_STAT.HALF, FRM.FORME_STAT.MAINT,
      FRM.FORME_STAT.REGION, FRM.FORME_STAT.STATE, FRM.MAPHASH.HASH, FRM.OLC_STAT.STATE])
  | .opRet => some (reportTouch ++ [.all .forme, .all .free, .all .imd, .all .mem, .all .tim] ++ regs pgFRM [FRM.MAIN_T.LASTT, FRM.MAIN_T.MAXT,
      FRM.MSYNC_T.LASTT, FRM.MSYNC_T.MAXT] ++ regs pgIMD [HDR.EV_STAT, IMD.FOLD.CRC, IMD.FOLD_CNT.COUNT, IMD.LANE_STAT.LANE0, IMD.LANE_STAT.LANE1,
      IMD.LANE_STAT.LANE2, IMD.LANE_STAT.LASTODD, IMD.LANE_STAT.MODE, IMD.LANE_TOT.LFLTS, IMD.LAST_LF.CAUSE, IMD.LAST_LF.LANE, IMD.LAST_LF_HI.DT_HI,
      IMD.LAST_LF_LO.DT_LO])
  | .olcReady => some (reportTouch ++ [.all .olc] ++ regs pgFRM [FRM.FORME_STAT.FACTORY, FRM.FORME_STAT.HALF, FRM.FORME_STAT.MAINT,
      FRM.FORME_STAT.REGION, FRM.FORME_STAT.STATE, FRM.MAPHASH.HASH, FRM.OLC_DROP.COPYT, FRM.OLC_DROP.DROPPED, FRM.OLC_STAT.FAILC, FRM.OLC_STAT.STATE,
      FRM.OLC_STAT.WAIT, FRM.OLC_TAGS.CARRIED, FRM.OLC_TAGS.RETYPED, HDR.EV_STAT])
  | .olcSwitch => some (reportTouch ++ [.all .olc] ++ regs pgFRM [FRM.OLC_STAT.FAILC, FRM.OLC_STAT.STATE, FRM.OLC_STAT.WAIT, HDR.EV_STAT])
  | .olcCancel => some ([.all .forme, .all .olc] ++ regs pgFRM [FRM.FORME_STAT.FACTORY, FRM.FORME_STAT.HALF, FRM.FORME_STAT.MAINT,
      FRM.FORME_STAT.REGION, FRM.FORME_STAT.STATE, FRM.MAPHASH.HASH, FRM.OLC_STAT.STATE, FRM.OLC_STAT.WAIT])
  | _ => none

/-- What a command of the networks and the records may write; nothing is said of the others. -/
def touchesNetwork : Instr → Option (List Scope)
  | .canFrameReceived ctl _ => some ([.all .free, .all .lb, .all .mem, .one .can ctl.val] ++ regs (pgCAN ctl.val) [CAN.CNT0.RXOK, CAN.CNT1.RXDROP,
      CAN.ECS.REC, CAN.ECS.TEC, CAN.PSR.ACT, CAN.PSR.BOLATCH, CAN.PSR.DLEC, CAN.PSR.LEC, CAN.PSR.PXE, CAN.PSR.STATE, HDR.EV_STAT] ++ regs pgIMPO
      [HDR.EV_STAT, IMPO.SLOT_CNT.OVR])
  | .canTxComplete ctl _ => some (reportTouch ++ [.all .free, .all .mem, .all .out, .one .can ctl.val, .page .reg (pgCAN ctl.val)])
  | .frameRecordCancel ctl _ => some ([.all .mem, .one .can ctl.val] ++ regs (pgCAN ctl.val) [HDR.EV_STAT])
  | .busOff ctl => some (reportTouch ++ [.all .c2, .all .lb, .all .mem, .one .can ctl.val] ++ regs (pgCAN ctl.val) [CAN.CNT1.BOCNT, CAN.ECS.REC,
      CAN.ECS.TEC, CAN.PSR.ACT, CAN.PSR.BOLATCH, CAN.PSR.STATE, HDR.EV_STAT] ++ regs pgIMPO [IMPO.REF_STAT.TTRUN])
  | .busOffRecoveryStart ctl => some ([.one .can ctl.val])
  | .busOffRecoveryEnd ctl | .canIntegrationEnd ctl => some ([.all .free, .all .mem, .one .can ctl.val] ++ regs (pgCAN ctl.val) [CAN.ECS.REC,
      CAN.ECS.TEC, CAN.PSR.ACT, CAN.PSR.BOLATCH, CAN.PSR.STATE, HDR.EV_STAT])
  | .referenceMessage _ => some (reportTouch ++ [.all .lb, .all .out, .one .can 0, .page .reg (pgCAN 0)])
  | .slotStart _ => some ([.all .free, .all .lb, .all .mem, .one .can 0] ++ regs pgIMPO [HDR.EV_STAT, IMPO.SLOT_CNT.SKIP])
  | .slotEnd _ => some (reportTouch ++ [.all .c2, .all .lb, .all .mem, .one .can 0] ++ regs pgIMPO [HDR.EV_STAT, IMPO.LB_STAT.DROPPED,
      IMPO.LB_STAT.PRESENT, IMPO.REF_STAT.MISS, IMPO.REF_STAT.ROW, IMPO.REF_STAT.TTRUN, IMPO.SLOT_CNT.OVR] ++ (IMPO.STN_DISC.WORD.elems.map (cell .reg
      (pgIMPO))) ++ (IMPO.STN_STAT.DISC.elems.map (cell .reg (pgIMPO))) ++ (IMPO.STN_STAT.DROPS.elems.map (cell .reg (pgIMPO))) ++
      (IMPO.STN_STAT.MISS.elems.map (cell .reg (pgIMPO))) ++ (IMPO.STN_STAT.STATE.elems.map (cell .reg (pgIMPO))))
  | .stnwait _ => some (reportTouch ++ [.all .c2, .all .lb, .all .mem] ++ regs pgIMPO [HDR.EV_STAT])
  | .ethFrameReceived _ _ _ => some ([.all .eth, .all .mem, .all .ptp, .all .trdp] ++ regs pgETH [ETH.CNT_P1.RXOK, ETH.CNT_P2.RXOK, ETH.DROPS.FILT,
      ETH.DROPS.QDROP, ETH.DROPS.RING, ETH.DROPS.RXERR, HDR.EV_STAT] ++ regs pgTRDP [HDR.EV_STAT, TRDP.RXCNT.COUNT, TRDP.RXDROP.DUP, TRDP.RXDROP.FCS,
      TRDP.RXDROP.LEN, TRDP.RXDROP.TOPO, TRDP.TRDP_STAT.ORI, TRDP.TRDP_STAT.ORIOK, TRDP.TRDP_STAT.PUBACT, TRDP.TRDP_STAT.SUBVALID])
  | .ethLinkChange _ _ => some (reportTouch ++ [.all .eth] ++ regs pgETH [ETH.PORTSTAT.P1LINK, ETH.PORTSTAT.P1MIS, ETH.PORTSTAT.P1SPD,
      ETH.PORTSTAT.P2LINK, ETH.PORTSTAT.P2MIS, ETH.PORTSTAT.P2SPD, HDR.EV_STAT])
  | .addressAging _ => some ([.all .eth])
  | .ptpSync _ => some ([.all .free, .all .ptp, .all .tim] ++ regs pgPTP [HDR.EV_STAT, PTP.GM_HI.ID, PTP.GM_LO.ID, PTP.MPD.NS, PTP.OFFSET.NS,
      PTP.PTP_STAT.PORT, PTP.PTP_STAT.STATE, PTP.RATE.PPB, PTP.SYNCCNT.COUNT] ++ regs pgSYS [HDR.EV_STAT, SYS.DT_STAT.SRC])
  | .telegramReceived _ => some ([.all .mem, .all .trdp] ++ regs pgTRDP [HDR.EV_STAT, TRDP.RXCNT.COUNT, TRDP.RXDROP.DUP, TRDP.RXDROP.FCS,
      TRDP.RXDROP.LEN, TRDP.RXDROP.TOPO, TRDP.TRDP_STAT.ORI, TRDP.TRDP_STAT.ORIOK, TRDP.TRDP_STAT.PUBACT, TRDP.TRDP_STAT.SUBVALID])
  | .ringIndexAdvance _ _ _ => some ([.all .can, .all .eth, .all .free, .all .mem, .all .ptp, .all .trdp] ++ regs pgETH [ETH.DROPS.FILT,
      ETH.DROPS.QDROP, ETH.DROPS.RING, HDR.EV_STAT] ++ regs pgTRDP [HDR.EV_STAT, TRDP.RXCNT.COUNT, TRDP.RXDROP.DUP, TRDP.RXDROP.FCS, TRDP.RXDROP.LEN,
      TRDP.RXDROP.TOPO, TRDP.TRDP_STAT.ORI, TRDP.TRDP_STAT.ORIOK, TRDP.TRDP_STAT.PUBACT, TRDP.TRDP_STAT.SUBVALID])
  | .slugHandoff axis => some (reportTouch ++ [.all .mem, .all .records] ++ regs pgREC [HDR.EV_STAT, REC.LOSTCNT.SLUG, REC.QFILL.FILL,
      REC.QFILL.MAXFILL, REC.REC_STAT.DEFER, REC.REC_STAT.FULL, REC.SEQS.LAST] ++ onLeaf axis.val ([.one .mv axis.val]))
  | .traceSample _ => some ([.all .mem, .all .records] ++ regs pgREC [HDR.EV_STAT, REC.LOSTCNT.TRUNC])
  | .slugPageWrite _ | .recCtrlFormat _ | .folioWrite _ | .kerningRecordSave _ _ => some ([.all .records, .all .xs0, .all .xs1, cell .stg pgREC
      REC.REC_CTRL.FORMAT] ++ regs pgREC [HDR.EV_STAT, HDR.STATE, REC.DEFCNT.COUNT, REC.HOLDMEAS.EAVAIL, REC.HOLDMEAS.VHOLD, REC.QFILL.FILL,
      REC.QFILL.MAXFILL, REC.REC_CTRL.FORMAT, REC.REC_STAT.DEFER, REC.REC_STAT.FULL, REC.REC_STAT.LAYMIS, REC.REC_STAT.RUN])
  | .nandOperationComplete _ _ _ => some (reportTouch ++ [.all .records, .all .xs0, .all .xs1, cell .stg pgREC REC.REC_CTRL.FORMAT] ++ regs pgREC
      [HDR.EV_STAT, HDR.STATE, REC.ANOMCNT.BAD, REC.DEFCNT.COUNT, REC.HOLDMEAS.EAVAIL, REC.HOLDMEAS.VHOLD, REC.QFILL.FILL, REC.QFILL.MAXFILL,
      REC.REC_CTRL.FORMAT, REC.REC_STAT.DEFER, REC.REC_STAT.FC, REC.REC_STAT.FCEND, REC.REC_STAT.FULL, REC.REC_STAT.LAYMIS, REC.REC_STAT.MEMFAIL,
      REC.REC_STAT.RUN, REC.STORED.SEQ])
  | .recordMemoryRun _ => some (reportTouch ++ [.all .records, .all .xs0, .all .xs1, cell .stg pgREC REC.REC_CTRL.FORMAT] ++ regs pgREC [HDR.EV_STAT,
      HDR.STATE, REC.DEFCNT.COUNT, REC.HOLDMEAS.EAVAIL, REC.HOLDMEAS.VHOLD, REC.QFILL.FILL, REC.QFILL.MAXFILL, REC.REC_CTRL.FORMAT,
      REC.REC_STAT.DEFER, REC.REC_STAT.FULL, REC.REC_STAT.LAYMIS, REC.REC_STAT.RUN])
  | .recordReadRequest _ => some ([.all .mem])
  | .holdupRetry _ => some ([.all .records, .all .xs0, .all .xs1, cell .stg pgREC REC.REC_CTRL.FORMAT] ++ regs pgREC [HDR.STATE, REC.HOLDMEAS.EAVAIL,
      REC.HOLDMEAS.VHOLD, REC.QFILL.FILL, REC.QFILL.MAXFILL, REC.REC_CTRL.FORMAT, REC.REC_STAT.DEFER, REC.REC_STAT.FULL, REC.REC_STAT.LAYMIS,
      REC.REC_STAT.RUN])
  | .reffail => some (reportTouch ++ [.all .c2, .all .lb])
  | .ptpSyncTimeout => some ([.all .ptp] ++ regs pgPTP [HDR.EV_STAT, PTP.PTP_STAT.STATE] ++ regs pgSYS [HDR.EV_STAT, SYS.DT_STAT.SRC])
  | .ptplost => some (reportTouch ++ [.all .ptp])
  | .telegramPublish => some ([.all .eth, .all .free, .all .out, .all .trdp] ++ regs pgETH [ETH.DROPS.FILT, ETH.DROPS.QDROP, HDR.EV_STAT] ++ regs pgTRDP
      [TRDP.TXCNT.COUNT])
  | .traceCopy => some (reportTouch ++ [.all .records] ++ regs pgREC [HDR.EV_STAT, REC.ANOMCNT.WRAP])
  | .slugPageFlush | .operatingTimeMinute => some ([.all .records])
  | .holddef => some (reportTouch ++ [.all .records])
  | .delayReq => some ([.all .eth, .all .ptp] ++ regs pgETH [ETH.DROPS.QDROP, HDR.EV_STAT])
  | _ => none

end Sys2Proof.Machine
end

