-- ==== Sys2Proof/WellFormed.lean ====
section
/-! DEFINITION. What a command's operands must satisfy beyond their types: the bounds that the manual states for what an operand
names. -/

namespace Sys2Proof

/-- A register access has one, two or four bytes (R7). -/
def wfSize (n : Fin 5) : Bool := n.val == 1 || n.val == 2 || n.val == 4

/-- A phase of an axis: U, V, W of a leaf; the four half bridges of a step (R67, R268). -/
def wfPhase (a : AxisNo) (ph : Fin 4) : Bool := decide (8 ≤ a.val) || decide (ph.val < 3)

/-- A switch belongs to the kind of axis it names (R237, R281). -/
def wfSwitch (a : AxisNo) : SwitchNo → Bool
  | .closed => decide (a.val < 8)
  | .openEnd => decide (a.val < 8)
  | .lock => decide (a.val < 8)
  | .retracted => decide (8 ≤ a.val)
  | .extended => decide (8 ≤ a.val)

/-- A data length code and an error code exist, and the data are bytes of at most the longest frame (R447, R451). -/
def wfCan (f : Machine.CanFrame) : Bool :=
  decide (f.dlc < 16) && decide (f.err < 7) && decide (f.data.length ≤ 64) && f.data.all (fun b => decide (b < 256))

/-- A Neltan message carries at most 64 words (table "Neltan message"). -/
def wfNel (r : NelReq) : Bool := decide (r.data.length ≤ 64)

/-- A command is well formed. -/
def Instr.wf : Instr → Bool
  | .registerWrite _ _ size _ => wfSize size
  | .registerRead _ _ size => wfSize size
  | .bootstrapUv a ph => wfPhase a ph
  | .vdsTrip a _ ph => wfPhase a ph
  | .switchChatter a sw => wfSwitch a sw
  | .pFrameConfig _ bytes => bytes.length == 8
  | .hpiRead _ words => decide (0 < words.val)
  | .hpiWrite _ words data _ => decide (0 < words.val) && data.length == words.val
  | .canFrameReceived _ f => wfCan f
  | .neltanOpen r => wfNel r
  | .neltanRead r => wfNel r
  | .neltanWrite r => wfNel r
  | .neltanStatus r => wfNel r
  | .neltanClose r => wfNel r
  | _ => true

end Sys2Proof
end

