-- ==== Sys2Proof/Certificates/Slice0/Obligations.lean ====
section
/-! DEFINITION. The statements for the provers. Each says what a group of commands does, under conditions on the state and the
operands alone, and names the rules of the manual that it formalises. -/

open Sys2Proof Sys2Proof.Machine

/-!  -/

/-- A step takes the command at the front of the queue and runs it on the state with the queue's rest. With no command waiting one cycle of FABCLK may
pass, which is the model's choice (assumption log 33): no staged value and, where no upset stands in the memories, no byte of them changes. -/
def Obligations.StepRunsFront : Prop :=
  (∀ (c : Instr) (rest : List Instr) (s : State), step { s with pending := c :: rest } = exec c { s with pending := rest }) ∧
  (∀ s : State, s.pending = [] → ∃ t, step s = .next t ∧ t.pending = [] ∧ t.xs0 = s.xs0 ∧ t.xs1 = s.xs1 ∧ (s.clean → t.mem = s.mem ∧ t.dev.stg = s.dev.stg) ∧
    s.dev.tim.mot ≤ t.dev.tim.mot ∧ t.dev.tim.mot ≤ s.dev.tim.mot + 1)

/-- Every command completes, and none touches the queue of those that wait. -/
def Obligations.CommandsComplete : Prop :=
  ∀ (s : State) (c : Instr), ∃ t, exec c s = .next t ∧ t.pending = s.pending

/-- While the core die is down, a command that acts inside it changes nothing (R546, R571). -/
def Obligations.CoreDown : Prop :=
  ∀ (s : State) (c : Instr), s.dev.boot.up = false → actsOutside c = false → exec c s = .next s

/-- The record memory changes only under the record engine (R511): every command that starts or settles no operation of its own leaves each byte of XS1. -/
def Obligations.RecordMemoryKept : Prop :=
  ∀ (s t : State) (c : Instr), writesRecords c = false → exec c s = .next t → t.xs1 = s.xs1

/-- Every step keeps the three memories canonical: from any state in that form, and whatever waits, the next state is in it. -/
def Obligations.StepKeepsMemories : Prop :=
  ∀ s t : State, s.wf = true → step s = .next t → t.wf = true

/-- The machine right after reset (R40, R107, R477, R543): the memories canonical, no command waiting, both copies of every register field at the value of
its table, but for the six fields of SYS, SEC and ETH whose tables give a value that the manual words otherwise. -/
def Obligations.ResetState : Prop :=
  State.reset.wf = true ∧ State.reset.pending = [] ∧ State.reset.mem = [] ∧
  (∀ (pg : Nat) (f : Fld), f.key pg ∉ [704, 263200, 2884352, 2884368, 2884372, 2884383] → State.reset.dev.get pg f = f.rst ∧ State.reset.dev.sget pg f = f.rst) ∧
  State.reset.dev.get pgSYS SYS.DT_STAT.SRC = 1 ∧ State.reset.dev.get pgETH (ETH.VLAN.EN.at 0) = 1 ∧ State.reset.dev.get pgETH (ETH.VLAN.VID.at 0) = 1

/-- Accesses to absent pages and narrow or unaligned ones (R6, R10), by every source that issues them: a read returns 0, a write changes no register of
any page but the event and its record in SYS, and each raises its event. -/
def Obligations.AccessRules : Prop :=
  ∀ (s : State) (src : Src) (p q : BitVec 8) (o : BitVec 12) (n : Fin 5) (v : W32),
    let a : W32 := BitVec.ofNat 32 (regAddr p.toNat o.toNat)
    ((∀ u ∈ unitOf p.toNat, s.dev.part.has u = false) →
      (srcMay s.dev src false a.toNat = true → ∃ t, exec (.registerRead src a 4) s = .next t ∧ t.dev.net.out.read = 0 ∧ t.dev.raised pgSYS Ev.SYS.NOUNIT = true ∧ t.dev.stg = s.dev.stg ∧ t.mem = s.mem) ∧
      (srcMay s.dev src true a.toNat = true → ∃ t, exec (.registerWrite src a 4 v) s = .next t ∧ t.dev.raised pgSYS Ev.SYS.NOUNIT = true ∧ t.dev.stg = s.dev.stg ∧ t.dev.leaf = s.dev.leaf ∧ t.dev.flt = s.dev.flt ∧ t.mem = s.mem ∧
        ∀ w ∈ unitOf q.toNat, ∀ f ∈ unitFields w, q.toNat ≠ pgSYS → t.dev.get q.toNat f = s.dev.get q.toNat f)) ∧
    ((n.val = 1 ∨ n.val = 2 ∨ (n.val = 4 ∧ o.toNat % 4 ≠ 0)) →
      (srcMay s.dev src false a.toNat = true → ∃ t, exec (.registerRead src a n) s = .next t ∧ t.dev.net.out.read = 0 ∧ t.dev.raised pgSYS Ev.SYS.BADACC = true ∧ t.dev.stg = s.dev.stg ∧ t.mem = s.mem) ∧
      (srcMay s.dev src true a.toNat = true → ∃ t, exec (.registerWrite src a n v) s = .next t ∧ t.dev.raised pgSYS Ev.SYS.BADACC = true ∧ t.dev.stg = s.dev.stg ∧ t.dev.leaf = s.dev.leaf ∧ t.dev.flt = s.dev.flt ∧ t.mem = s.mem ∧
        ∀ w ∈ unitOf q.toNat, ∀ f ∈ unitFields w, q.toNat ≠ pgSYS → t.dev.get q.toNat f = s.dev.get q.toNat f))

/-- A runtime write of 1 to `OBS_CTRL.REBASE` at standstill copies FRIC into BASE for both directions and clears WEARF, and at any other time is ignored
(R191). -/
def Obligations.RebaseRule : Prop :=
  ∀ (s : State) (n : LeafNo) (b : Fin 256) (h : Bool), s.dev.runtimeActs = true → s.dev.part.hasLeaf n.val = true →
    ((s.dev.prf n.val).still = true → ∃ t, exec (.obsCtrlRebase (if h then .runtimeSafe else .runtime) n) s = .next t ∧ t.dev.get (pgOBS n.val) OBS.OBS_STAT.WEARF = 0 ∧
      t.dev.get (pgOBS n.val) (OBS.KTB.BASEO.at b.val) = s.dev.get (pgOBS n.val) (OBS.KTO.FRIC.at b.val) % 2 ^ OBS.KTB.BASEO.w ∧
      t.dev.get (pgOBS n.val) (OBS.KTB.BASEC.at b.val) = s.dev.get (pgOBS n.val) (OBS.KTC.FRIC.at b.val) % 2 ^ OBS.KTB.BASEC.w ∧
      t.dev.obs = s.dev.obs ∧ t.dev.leaf = s.dev.leaf ∧ t.mem = s.mem) ∧
    ((s.dev.prf n.val).still = false → exec (.obsCtrlRebase (if h then .runtimeSafe else .runtime) n) s = .next s)

/-- A write to `SH_CTRL` with both COMMIT and ABORT set acts as ABORT (R53): nothing is armed, and every staged value is reloaded from its active value
(R57). Events by software and the staged values (R48, R49, R52 to R57). `EV_SET` sets events while TEST is 1 and none otherwise. COMMIT arms the page
with its commit point; while PEND stands, another commit point is refused with SHBUSY; ABORT reloads every staged value from its active value and
clears PEND. Leaf rest (R55, R56, R554, R555). A page of a leaf armed for leaf rest applies once its leaf is at rest, and takes the impression number;
a deferred page of a switch applies there too, and when none remains the switch is over and APPLIED is raised. -/
def Obligations.StagedValues : Prop :=
  (∀ (s : State) (p : BitVec 8) (cp : BitVec 4), s.dev.hostActs = true → ∀ u ∈ unitOf p.toNat, s.dev.part.has u = true → u.safety = false →
    ∃ t, exec (.registerWrite .host (BitVec.ofNat 32 (regAddr p.toNat 0x30)) 4 (BitVec.ofNat 32 (16 * cp.toNat + 3))) s = .next t ∧ t.dev.get p.toNat HDR.PEND = 0 ∧
      (∀ f ∈ unitRwp u, t.dev.sget p.toNat f = t.dev.get p.toNat f ∧ t.dev.get p.toNat f = s.dev.get p.toNat f) ∧ t.mem = s.mem) ∧
  (∀ (s : State) (p : BitVec 8) (cp : BitVec 4) (v : W32), s.dev.hostActs = true → ∀ u ∈ unitOf p.toNat, s.dev.part.has u = true → u.safety = false →
    (u.plane = .mgmt →
      (s.dev.on p.toNat HDR.TEST = true → ∃ t, exec (.evSetWrite .host p v) s = .next t ∧
        t.dev.get p.toNat HDR.EV_STAT = s.dev.get p.toNat HDR.EV_STAT ||| v.toNat ∧ t.dev.stg = s.dev.stg ∧ t.mem = s.mem) ∧
      (s.dev.on p.toNat HDR.TEST = false → ∃ t, exec (.evSetWrite .host p v) s = .next t ∧ t.dev.act = s.dev.act ∧ t.dev.stg = s.dev.stg ∧ t.mem = s.mem)) ∧
    (s.dev.on p.toNat HDR.PEND = false → ∃ t, exec (.shCtrlCommit .host p cp) s = .next t ∧ t.dev.get p.toNat HDR.PEND = 1 ∧
      t.dev.get p.toNat HDR.CPSEL = cp.toNat ∧ t.dev.stg = s.dev.stg ∧ t.dev.get pgSYS HDR.EV_STAT = s.dev.get pgSYS HDR.EV_STAT ∧ t.mem = s.mem) ∧
    (s.dev.on p.toNat HDR.PEND = true → s.dev.get p.toNat HDR.CPSEL ≠ cp.toNat → ∃ t, exec (.shCtrlCommit .host p cp) s = .next t ∧
      t.dev.on p.toNat HDR.PEND = true ∧ t.dev.get p.toNat HDR.CPSEL = s.dev.get p.toNat HDR.CPSEL ∧ t.dev.raised pgSYS Ev.SYS.SHBUSY = true ∧
      t.dev.stg = s.dev.stg ∧ t.mem = s.mem) ∧
    (∃ t, exec (.shCtrlAbort .host p) s = .next t ∧ t.dev.get p.toNat HDR.PEND = 0 ∧ (∀ f ∈ unitRwp u, t.dev.sget p.toNat f = t.dev.get p.toNat f) ∧ t.mem = s.mem)) ∧
  (∀ (s : State) (n : LeafNo), s.dev.alive = true → s.dev.part.hasLeaf n.val = true →
    (leafRest s.dev n.val = true → s.dev.on (pgOBS n.val) HDR.PEND = true → s.dev.get (pgOBS n.val) HDR.CPSEL = 1 → s.dev.on (pgLEAF n.val) HDR.PEND = false →
      s.dev.on (pgPOS n.val) HDR.PEND = false → ∃ t, exec (.leafRestCommit n) s = .next t ∧ t.dev.get (pgOBS n.val) HDR.PEND = 0 ∧
        t.dev.get (pgOBS n.val) HDR.EPOCH = s.dev.get pgCFG CFG.IMPRESSION.IMPNUM ∧
        t.dev.get (pgOBS n.val) HDR.EN = s.dev.sget (pgOBS n.val) HDR.EN ∧ t.dev.leaf = s.dev.leaf ∧ t.mem = s.mem) ∧
    (leafRest s.dev n.val = false → exec (.leafRestCommit n) s = .next s) ∧
    (leafRest s.dev n.val = false → exec (.deferredPageApply n) s = .next s) ∧
    (s.dev.tim.servoDue = true → leafRest s.dev n.val = true → s.dev.boot.defer = [pgOBS n.val] → s.dev.boot.applying = true → s.dev.boot.armed = false → s.dev.on (pgOBS n.val) HDR.PEND = false → (declared s.dev).isSome = false →
      ∃ t, exec (.deferredPageApply n) s = .next t ∧ t.dev.boot.defer = [] ∧ t.dev.boot.applying = false ∧ t.dev.get pgCFG CFG.ISTAT.STATE = 0 ∧
        t.dev.raised pgCFG Ev.CFG.APPLIED = true ∧ t.mem = s.mem))

/-!  -/

/-- Stop requests through `MOVE_CMD` (R149): while the leaf's page is in service, the request stands at the member on which the path is carried out (R143
for a ligature), unless an equal or harsher one already does or already runs; no register and no memory changes. A move command and the set-point
queue (R134, R135, R139). A move of a single leaf in a state of direct motion, released or toward the closed end, with no limit switch in the way, no
stop pending and its Observer in service, is given to the profile engine with its target clamped to the soft limits; while a stop or quick stop runs
it is kept; the set 3, which names none, refuses it with event REFUSE. A write of `SPQ_A` appends an entry of the staged position and speed while the
queue has room, and raises event SPQ and drops it otherwise. Sequencer commands (R240): written by the runtime to a leaf in service whose own page
gives its doorway's commands, a command is latched until the sequencer's next evaluation, and no register changes; on a page out of service it is
refused. `CLRSUSP` clears the suspicion of each switch whose transitions are over for one second (R238). -/
def Obligations.MoveAndSequencerCommands : Prop :=
  (∀ (s : State) (n : LeafNo), s.dev.runtimeActs = true → s.dev.part.hasLeaf n.val = true → leafOut s.dev n.val = false →
    (∃ t, exec (.moveCmdStop .runtime n) s = .next t ∧
      ((s.dev.prf (stopTarget s.dev n.val 1)).stopKind = 0 → (t.dev.prf (stopTarget s.dev n.val 1)).stopReq = max 1 (s.dev.prf (stopTarget s.dev n.val 1)).stopReq) ∧
      ((s.dev.prf (stopTarget s.dev n.val 1)).stopKind = 1 ∨ (s.dev.prf (stopTarget s.dev n.val 1)).stopKind = 2 → t.dev.prf (stopTarget s.dev n.val 1) = s.dev.prf (stopTarget s.dev n.val 1)) ∧
      t.dev.act = s.dev.act ∧ t.mem = s.mem) ∧
    (∃ t, exec (.moveCmdQstop .runtime n) s = .next t ∧
      ((s.dev.prf (stopTarget s.dev n.val 2)).stopKind ≤ 1 → (t.dev.prf (stopTarget s.dev n.val 2)).stopReq = max 2 (s.dev.prf (stopTarget s.dev n.val 2)).stopReq) ∧
      ((s.dev.prf (stopTarget s.dev n.val 2)).stopKind = 2 → t.dev.prf (stopTarget s.dev n.val 2) = s.dev.prf (stopTarget s.dev n.val 2)) ∧
      t.dev.act = s.dev.act ∧ t.mem = s.mem) ∧
    (∃ t, exec (.moveCmdHstop .runtime n) s = .next t ∧
      (t.dev.prf n.val).stopReq = max 3 (s.dev.prf n.val).stopReq ∧ t.dev.act = s.dev.act ∧ t.mem = s.mem)) ∧
  (∀ (s : State) (n : LeafNo) (set : Fin 4) (a : W32), s.dev.runtimeActs = true → s.dev.part.hasLeaf n.val = true →
    (set.val ≠ 3 → directState s.dev n.val = true → released s.dev n.val = true → s.dev.on (pgLEAF (evenOf n.val)) LEAF.LIG.LEN = false →
      ligFormed s.dev n.val = false → (s.dev.prf n.val).stopReq ≠ 3 → (s.dev.prf n.val).stopKind = 0 → (s.dev.prf n.val).stopReq = 0 →
      leafOut s.dev n.val = false → s.dev.vfld.low = false → obsBlind s.dev n.val = false →
      limBlocks s.dev n.val true = false → limBlocks s.dev n.val false = false →
      ∃ t, exec (.moveCmdGo .runtime n set) s = .next t ∧
        (t.dev.prf n.val).req = some (MoveReq.mk (clampI (s.dev.geti (pgLEAF n.val) LEAF.SOFTMIN.SOFTMIN)
          (s.dev.geti (pgLEAF n.val) LEAF.SOFTMAX.SOFTMAX) (s.dev.geti (pgLEAF n.val) LEAF.MOVE_TGT.TGT)) set.val false) ∧
        (t.dev.prf n.val).refused = false ∧ t.mem = s.mem) ∧
    (∃ t, exec (.moveCmdGo .runtime n 3) s = .next t ∧ (t.dev.prf n.val) = { s.dev.prf n.val with refused := true } ∧
      t.dev.raised (pgLEAF n.val) Ev.LEAF.REFUSE = true ∧ t.dev.step = s.dev.step ∧ t.mem = s.mem) ∧
    ((s.dev.prf n.val).queue.length < 16 →
      ∃ t, exec (.spqAPush .runtime n a) s = .next t ∧ (t.dev.prf n.val).queue = (s.dev.prf n.val).queue ++
        [{ p := sgn 32 (s.dev.prf n.val).spqP, v := sgn 32 (s.dev.prf n.val).spqV, a := sgn 32 a.toNat }] ∧ t.dev.act = s.dev.act) ∧
    (16 ≤ (s.dev.prf n.val).queue.length →
      ∃ t, exec (.spqAPush .runtime n a) s = .next t ∧ t.dev.leaf = s.dev.leaf ∧ t.dev.raised (pgLEAF n.val) Ev.LEAF.SPQ = true)) ∧
  (∀ (s : State) (n : LeafNo), s.dev.runtimeActs = true → s.dev.part.hasLeaf n.val = true →
    (leafOut s.dev n.val = false → dwPage s.dev n.val = n.val →
      (∃ t, exec (.seqCmdOpen .runtime n) s = .next t ∧ (t.dev.seq n.val).cmd = some .open_ ∧ t.dev.act = s.dev.act ∧ t.mem = s.mem) ∧
      (∃ t, exec (.seqCmdClose .runtime n) s = .next t ∧ (t.dev.seq n.val).cmd = some .close ∧ t.dev.act = s.dev.act ∧ t.mem = s.mem) ∧
      (∃ t, exec (.seqCmdLearn .runtime n) s = .next t ∧ (t.dev.seq n.val).cmd = some .learn ∧ t.dev.act = s.dev.act ∧ t.mem = s.mem) ∧
      (∃ t, exec (.seqCmdRefrun .runtime n) s = .next t ∧ (t.dev.seq n.val).cmd = some .refrun ∧ t.dev.act = s.dev.act ∧ t.mem = s.mem) ∧
      (∃ t, exec (.seqCmdAck .runtime n) s = .next t ∧ (t.dev.seq n.val).cmd = some .ack ∧ t.dev.act = s.dev.act ∧ t.mem = s.mem)) ∧
    (leafOut s.dev n.val = true → ∃ t, exec (.seqCmdOpen .runtime n) s = .next t ∧ t.dev.act = s.dev.act ∧
      t.dev.seq n.val = { s.dev.seq n.val with refused := true } ∧ t.mem = s.mem) ∧
    (∃ t, exec (.seqCmdClrsusp .runtime n) s = .next t ∧
      ((∀ x ∈ (s.dev.lrn n.val).histC.head?, x + msMot 1000 ≤ s.dev.tim.mot) → bit (t.dev.seq n.val).susp 0 = false) ∧
      ((∀ x ∈ (s.dev.lrn n.val).histO.head?, x + msMot 1000 ≤ s.dev.tim.mot) → bit (t.dev.seq n.val).susp 1 = false) ∧
      ((∀ x ∈ (s.dev.lrn n.val).histL.head?, x + msMot 1000 ≤ s.dev.tim.mot) → bit (t.dev.seq n.val).susp 2 = false) ∧
      (t.dev.seq n.val).cmd = (s.dev.seq n.val).cmd ∧ t.mem = s.mem))

/-- Step commands (R285): written by the runtime to a step page in service, the command is latched for the next evaluation and no register changes; a page
out of service refuses it with event REFUSE. `CLRSUSP` clears the suspicion of each switch whose transitions are over for one second (R281). Step axes
(R271, R275, R276, R283). An edge of STEP that `SDPOL` does not select changes nothing. An active edge of normal width and spacing, toward a released
side and inside the axis's range, moves the count by one; a pulse of 500 ns or less is a glitch and moves nothing; the hold delay that has run out
ends; a winding without current in 64 periods is a fault event with event OPENW; a retract demand that no leaf holds takes effect. -/
def Obligations.StepAxes : Prop :=
  (∀ (s : State) (k : StepNo), s.dev.runtimeActs = true → s.dev.part.hasStepAxis k.val = true →
    (s.dev.pgState (pgSTEP k.val) ≠ 0 → s.dev.pgState (pgSTEP k.val) ≠ 3 →
      (∃ t, exec (.stpCmdExtend .runtime k) s = .next t ∧ (t.dev.stp k.val).cmd = some .extend ∧ t.dev.act = s.dev.act ∧ t.mem = s.mem) ∧
      (∃ t, exec (.stpCmdRetract .runtime k) s = .next t ∧ (t.dev.stp k.val).cmd = some .retract ∧ t.dev.act = s.dev.act ∧ t.mem = s.mem) ∧
      (∃ t, exec (.stpCmdInhibit .runtime k) s = .next t ∧ (t.dev.stp k.val).cmd = some .inhibit ∧ t.dev.act = s.dev.act ∧ t.mem = s.mem) ∧
      (∃ t, exec (.stpCmdUninh .runtime k) s = .next t ∧ (t.dev.stp k.val).cmd = some .uninh ∧ t.dev.act = s.dev.act ∧ t.mem = s.mem) ∧
      (∃ t, exec (.stpCmdHome .runtime k) s = .next t ∧ (t.dev.stp k.val).cmd = some .home ∧ t.dev.act = s.dev.act ∧ t.mem = s.mem) ∧
      (∃ t, exec (.stpCmdAck .runtime k) s = .next t ∧ (t.dev.stp k.val).cmd = some .ack ∧ t.dev.act = s.dev.act ∧ t.mem = s.mem) ∧
      (∃ t, exec (.stpCmdStop .runtime k) s = .next t ∧ (t.dev.stp k.val).cmd = some .stop ∧ t.dev.act = s.dev.act ∧ t.mem = s.mem) ∧
      (∃ t, exec (.stpCmdQstop .runtime k) s = .next t ∧ (t.dev.stp k.val).cmd = some .qstop ∧ t.dev.act = s.dev.act ∧ t.mem = s.mem) ∧
      (∃ t, exec (.stpCmdHstop .runtime k) s = .next t ∧ (t.dev.stp k.val).cmd = some .hstop ∧ t.dev.act = s.dev.act ∧ t.mem = s.mem)) ∧
    (s.dev.pgState (pgSTEP k.val) = 0 ∨ s.dev.pgState (pgSTEP k.val) = 3 →
      ∃ t, exec (.stpCmdExtend .runtime k) s = .next t ∧ t.dev.stp k.val = { s.dev.stp k.val with refused := true } ∧ t.mem = s.mem ∧ t.dev.raised (pgSTEP k.val) Ev.STEP.REFUSE = true) ∧
    (∃ t, exec (.stpCmdClrsusp .runtime k) s = .next t ∧
      ((∀ x ∈ (s.dev.stp k.val).histR.head?, x + msMot 1000 ≤ s.dev.tim.mot) → bit (t.dev.stp k.val).susp 0 = false) ∧
      ((∀ x ∈ (s.dev.stp k.val).histE.head?, x + msMot 1000 ≤ s.dev.tim.mot) → bit (t.dev.stp k.val).susp 1 = false) ∧
      (t.dev.stp k.val).cmd = (s.dev.stp k.val).cmd ∧ t.mem = s.mem)) ∧
  (∀ (s : State) (k : StepNo) (rise b : Bool) (w : Fin 501), s.dev.alive = true → s.dev.part.hasStepAxis k.val = true →
    (rise = s.dev.on (pgSTEP k.val) STEP.STP_CFG.SDPOL → exec (.stepInputEdge k ⟨rise, b⟩ 5000 2000) s = .next s) ∧
    (s.dev.on (pgSTEP k.val) STEP.STP_CFG.SRC = true → rise ≠ s.dev.on (pgSTEP k.val) STEP.STP_CFG.SDPOL →
      (∃ t, exec (.stepInputEdge k ⟨rise, b⟩ 5000 w.val) s = .next t ∧ t.dev.raised (pgSTEP k.val) Ev.STEP.SDGLT = true ∧
        t.dev.step = s.dev.step ∧ t.mem = s.mem) ∧
      (b ≠ s.dev.on (pgSTEP k.val) STEP.STP_CFG.DIRPOL →
        sideReleased s.dev (s.dev.on (pgSTEP k.val) STEP.STP_CFG.CARSIDE != s.dev.sy.ori) = true →
        mPos s.dev k.val ((s.dev.win k.val).sdBase + ((s.dev.win k.val).sdCnt + 1) * (s.dev.get (pgSTEP k.val) STEP.SDIR.SDMUL : Nat)) ≤
          (s.dev.get (pgSTEP k.val) STEP.EXTP.EXTP : Nat) * 65536 →
        ∃ t, exec (.stepInputEdge k ⟨rise, b⟩ 5000 2000) s = .next t ∧ t.dev.act = s.dev.act ∧
          (t.dev.win k.val).sdCnt = sgn 32 (uns 32 ((s.dev.win k.val).sdCnt + 1)) ∧ t.mem = s.mem)) ∧
    (due s.dev (s.dev.win k.val).hold = true → (s.dev.win k.val).ramp = none →
      ∃ t, exec (.holdDelayEnd k) s = .next t ∧ (t.dev.win k.val).holdEnd = true ∧ t.dev.act = s.dev.act ∧ t.mem = s.mem) ∧
    (64 ≤ (if b then (s.dev.win k.val).openB else (s.dev.win k.val).openA) →
      ∃ t, exec (.openw k b) s = .next t ∧ t.dev.raised (pgSTEP k.val) Ev.STEP.OPENW = true ∧ (t.dev.stp k.val).fault = true ∧
        t.dev.hasC2 (pgSTEP k.val) = true ∧ t.mem = s.mem) ∧
    (s.dev.pgState (pgSTEP k.val) = 2 → (s.dev.stp k.val).pend = true → demandRow (s.dev.stp k.val).st = true →
      (s.dev.stp k.val).stopPlan = none → stepBlocked s.dev k.val = false →
      ∃ t, exec (.retractDemandRelease k) s = .next t ∧ (t.dev.stp k.val).pend = false ∧ (t.dev.stp k.val).st = .retracting ∧ t.mem = s.mem))

/-- The start of a drive page and offset calibration (R108, R109). A valid supply ends the wait and begins the precharge; 64 precharge periods begin the
calibration; 500 ms of a missing supply are a fault event; 256 averaged periods end a calibration with event CAL, in mode OFF, and the result reads as
passed or failed. `DRV_CTRL` of the drive pages. CAL starts an offset calibration of a leaf in RUN with mode OFF or BRAKE, or in PARKED (R110), of a
step in PARKED or with its step unreferenced or in FAULT (R268): mode CAL, calibration under way. CLRLATCH clears exactly the latches whose condition
is absent (R106). CLRCNT zeroes the counters of `DIAG`. -/
def Obligations.DriveStartAndControl : Prop :=
  (∀ (s : State) (a : AxisNo), s.dev.alive = true → s.dev.hasAxis a.val = true →
    ((s.dev.drv a.val).step = .wait → supplyOk s.dev a.val = true →
      ∃ t, exec (.pageStartWaitEnd a) s = .next t ∧ (t.dev.drv a.val).step = .precharge ∧ (t.dev.drv a.val).pre = 0 ∧
        t.dev.get (pgDRV a.val) (drvReg a.val LEAF.DRV_STAT.VGDOK) = 1 ∧ t.mem = s.mem) ∧
    ((s.dev.drv a.val).step = .wait → supplyOk s.dev a.val = false → (s.dev.drv a.val).startRep = false →
      ∃ t, exec (.startingTimeout a) s = .next t ∧ (t.dev.drv a.val).startRep = true ∧ t.dev.faultEvent a.val = true ∧
        t.dev.raised (pgDRV a.val) (if (s.dev.di (dieOf a.val)).samp.vgd then Ev.LEAF.VBRUV else Ev.LEAF.VGDUV) = true) ∧
    ((s.dev.drv a.val).step = .precharge → 64 ≤ (s.dev.drv a.val).pre →
      ∃ t, exec (.bootstrapPrechargeEnd a) s = .next t ∧ (t.dev.drv a.val).step = .cal ∧ (t.dev.drv a.val).cal.on = true ∧
        (t.dev.drv a.val).mode = mCAL ∧ t.dev.get (pgDRV a.val) (drvReg a.val LEAF.DRV_STAT.CALST) = 1) ∧
    ((s.dev.drv a.val).cal.on = true → 256 ≤ (s.dev.drv a.val).cal.n →
      ∃ t, exec (.calibrationEnd a) s = .next t ∧ (t.dev.drv a.val).cal.on = false ∧ (t.dev.drv a.val).mode = mOFF ∧
        t.dev.raised (pgDRV a.val) Ev.LEAF.CAL = true ∧
        (t.dev.get (pgDRV a.val) (drvReg a.val LEAF.DRV_STAT.CALST) = 2 ∨ t.dev.get (pgDRV a.val) (drvReg a.val LEAF.DRV_STAT.CALST) = 3))) ∧
  (∀ (s : State), s.dev.runtimeActs = true →
    (∀ n : LeafNo, s.dev.part.hasLeaf n.val = true → (s.dev.drv n.val).cal.on = false →
      (s.dev.stateView (pgLEAF n.val) = 3 ∨ (s.dev.stateView (pgLEAF n.val) = 2 ∧ (s.dev.drv n.val).mode ≤ mBRAKE)) →
      ∃ t, exec (.drvCtrlCal .runtime n) s = .next t ∧ (t.dev.drv n.val).cal.on = true ∧ (t.dev.drv n.val).mode = mCAL ∧
        t.dev.get (pgLEAF n.val) LEAF.DRV_STAT.CALST = 1 ∧ t.mem = s.mem) ∧
    (∀ k : StepNo, s.dev.part.hasStepAxis k.val = true → (s.dev.drv (8 + k.val)).cal.on = false →
      (s.dev.stateView (pgSTEP k.val) = 3 ∨ (s.dev.stateView (pgSTEP k.val) = 2 ∧ (s.dev.drv (8 + k.val)).mode ≤ mBRAKE ∧
        ((s.dev.stp k.val).st = .unref ∨ (s.dev.stp k.val).st = .fault))) →
      ∃ t, exec (.stepDrvCtrlCal .runtime k) s = .next t ∧ (t.dev.drv (8 + k.val)).cal.on = true ∧
        (t.dev.drv (8 + k.val)).mode = mCAL ∧ t.mem = s.mem) ∧
    (∀ a : AxisNo, s.dev.hasAxis a.val = true →
      (∃ t, exec (.drvCtrlClrlatch .runtime a) s = .next t ∧
        (t.dev.drv a.val).latch = (s.dev.drv a.val).latch &&& (s.dev.drv a.val).cond ∧
        t.dev.get (pgDRV a.val) (drvReg a.val LEAF.DRV_STAT.LATCH) = b2n ((s.dev.drv a.val).latch &&& (s.dev.drv a.val).cond != 0) ∧
        (t.dev.drv a.val).mode = (s.dev.drv a.val).mode ∧ t.mem = s.mem) ∧
      (∃ t, exec (.drvCtrlClrcnt .runtime a) s = .next t ∧ t.dev.get (pgDRV a.val) (drvReg a.val LEAF.DIAG.VLIM) = 0 ∧
        t.dev.get (pgDRV a.val) (drvReg a.val LEAF.DIAG.STALE) = 0 ∧ t.dev.get (pgDRV a.val) (drvReg a.val LEAF.DIAG.OCCBC) = 0 ∧
        t.dev.drv a.val = { s.dev.drv a.val with diag := {} } ∧ t.dev.pos = s.dev.pos ∧ t.mem = s.mem)))

/-- `OBS_CTRL` and `POS_CTRL`. CLRDET clears the latched detection; REBASE at standstill copies the friction table into the base and zeroes WEARF, and is
ignored otherwise (R191). SETREF on a valid position at rest is taken at the next servo boundary, and otherwise raises REFNAK (R206); CLRCNT zeroes
the feedback counters; CLRFLT leaves only latches whose condition is present, and no cross-check or slip (R214). -/
def Obligations.ObserverAndFeedbackControl : Prop :=
  ∀ (s : State), s.dev.runtimeActs = true →
    (∀ n : LeafNo, s.dev.part.hasLeaf n.val = true →
      (∃ t, exec (.obsCtrlClrdet .runtime n) s = .next t ∧ t.dev.get (pgOBS n.val) OBS.OBS_STAT.DET = 0 ∧
        t.dev.get (pgOBS n.val) OBS.OBS_STAT.KIND = 0 ∧ t.dev.get (pgOBS n.val) OBS.DETPOS.POS = 0 ∧
        t.dev.get (pgOBS n.val) OBS.DETF.F = 0 ∧ t.dev.obs = s.dev.obs ∧ t.mem = s.mem) ∧
      ((s.dev.prf n.val).still = true →
        ∃ t, exec (.obsCtrlRebase .runtime n) s = .next t ∧ t.dev.get (pgOBS n.val) OBS.OBS_STAT.WEARF = 0 ∧
          ∀ b : Fin 256, t.dev.get (pgOBS n.val) (OBS.KTB.BASEO.at b.val) = s.dev.get (pgOBS n.val) (OBS.KTO.FRIC.at b.val) % 2 ^ OBS.KTB.BASEO.w ∧
            t.dev.get (pgOBS n.val) (OBS.KTB.BASEC.at b.val) = s.dev.get (pgOBS n.val) (OBS.KTC.FRIC.at b.val) % 2 ^ OBS.KTB.BASEC.w) ∧
      ((s.dev.prf n.val).still = false → exec (.obsCtrlRebase .runtime n) s = .next s)) ∧
    (∀ a : AxisNo, s.dev.hasAxis a.val = true →
      ((s.dev.fbk a.val).valid = true → (if a.val < 8 then (s.dev.prf a.val).src = 0 ∨ (s.dev.drv a.val).mode ≠ mSERVO
          else (s.dev.stp (a.val - 8)).plan = none ∧ (s.dev.stp (a.val - 8)).stopPlan = none) →
        ∃ t, exec (.posCtrlSetref .runtime a) s = .next t ∧
          (t.dev.fbk a.val).setRef = some (s.dev.geti (pgPOS a.val) POS.REFVAL.REFVAL) ∧ t.dev.act = s.dev.act ∧ t.mem = s.mem) ∧
      ((s.dev.fbk a.val).valid = false →
        ∃ t, exec (.posCtrlSetref .runtime a) s = .next t ∧ t.dev.fb = s.dev.fb ∧ t.dev.raised (pgPOS a.val) Ev.POS.REFNAK = true) ∧
      (∃ t, exec (.posCtrlClrcnt .runtime a) s = .next t ∧ t.dev.get (pgPOS a.val) POS.DIAG.XCHKC = 0 ∧
        t.dev.get (pgPOS a.val) POS.DIAG.SSIC = 0 ∧ t.dev.get (pgPOS a.val) POS.DIAG.HALLC = 0 ∧
        t.dev.get (pgPOS a.val) POS.DIAG.ENCC = 0 ∧ t.dev.pos = s.dev.pos ∧ t.mem = s.mem) ∧
      (∃ t, exec (.posCtrlClrflt .runtime a) s = .next t ∧ (t.dev.ps a.val).xchk = false ∧ (t.dev.ps a.val).slip = false ∧
        ((s.dev.ps a.val).code ≠ 0 → (s.dev.ps a.val).code ≠ 7 → bit (t.dev.ps a.val).latch 0 = false) ∧
        ((s.dev.ps a.val).miss = 0 → bit (t.dev.ps a.val).latch 4 = false) ∧ t.mem = s.mem))

/-!  -/

/-- Drive faults that latch and switch the gates off at once (R72, R74, R97, R100, R102, R103), on an axis whose page is in service: bootstrap
undervoltage, the drain-source monitor of a MOSFET whose gate is on, the overcurrent latch after 8 consecutive periods, bridge voltage above `OVTRIP`,
the current sum and the phase voltage after 4. Faults of a drive that do not latch (R96, R99, R105), gate supply undervoltage of a field die (R73) and
the bridge-disable line (R68, R69). An overcurrent cuts the rest of the period and counts; bridge voltage below `UVTRIP` is a fault event with a quick
stop; the shadow estimate one with a hard stop; gate undervoltage switches the gates of every axis of the die off; an asserted bridge-disable line
switches the leaf's gates off. -/
def Obligations.DriveFaults : Prop :=
  (∀ (s : State) (a : AxisNo) (n : LeafNo) (ph : Fin 4) (r : VdsReading), s.dev.alive = true →
    (s.dev.inService a.val = true →
      (∃ t, exec (.bootstrapUv a ph) s = .next t ∧ Tripped s t a.val Ev.LEAF.BSTUV Cz.LEAF.BSTUV ph.val) ∧
      (vdsOver s.dev a.val ph.val r.high r.mv r.t = true → ∃ t, exec (.vdsTrip a r ph) s = .next t ∧
        Tripped s t a.val Ev.LEAF.VDS (if r.high then Cz.LEAF.VDSHI else Cz.LEAF.VDSLO) ph.val) ∧
      (s.dev.get (pgDRV a.val) LEAF.VBROV.OVTRIP < (s.dev.di (dieOf a.val)).samp.vbr → ∃ t, exec (.vbrov a) s = .next t ∧ Tripped s t a.val Ev.LEAF.VBROV Cz.LEAF.VBROV 0xFF) ∧
      (8 ≤ (s.dev.drv a.val).nOc → ∃ t, exec (.oclatch a) s = .next t ∧ Tripped s t a.val Ev.LEAF.OCLATCH Cz.LEAF.OCLATCH 0xFF) ∧
      (4 ≤ (s.dev.drv a.val).nVph → ∃ t, exec (.vph a) s = .next t ∧ Tripped s t a.val Ev.LEAF.VPH Cz.LEAF.VPH 0xFF)) ∧
    (s.dev.inService n.val = true → 4 ≤ (s.dev.drv n.val).nIsum →
      ∃ t, exec (.isum n) s = .next t ∧ Tripped s t n.val Ev.LEAF.ISUM Cz.LEAF.ISUM 0xFF)) ∧
  (∀ (s : State) (a : AxisNo) (n : LeafNo) (x : DieNo) (ma : Nat), s.dev.alive = true →
    (s.dev.hasAxis a.val = true → (s.dev.drv a.val).mode ≠ mOFF → (s.dev.drv a.val).mode ≠ mCAL → overcurrent s.dev a.val ma = true →
      ∃ t, exec (.overcurrentTrip ⟨a, ma⟩) s = .next t ∧ (t.dev.drv a.val).cut = true ∧ (t.dev.drv a.val).mode = (s.dev.drv a.val).mode ∧
        t.dev.raised (pgDRV a.val) Ev.LEAF.OCCBC = true ∧
        (a.val < 8 → (t.dev.drv a.val).diag.occbc = min 255 ((s.dev.drv a.val).diag.occbc + 1)) ∧
        (8 ≤ a.val → t.dev.get (pgDRV a.val) (drvReg a.val LEAF.DIAG.OCCBC) =
          satInc LEAF.DIAG.OCCBC.w (s.dev.get (pgDRV a.val) (drvReg a.val LEAF.DIAG.OCCBC)) % 2 ^ LEAF.DIAG.OCCBC.w) ∧ t.mem = s.mem) ∧
    (s.dev.inService a.val = true → bit (s.dev.drv a.val).cond Cz.LEAF.VBRUV.code = false →
      (s.dev.di (dieOf a.val)).samp.vbr < s.dev.get (pgDRV a.val) LEAF.VBRUV.UVTRIP →
      ∃ t, exec (.vbruv a) s = .next t ∧ t.dev.raised (pgDRV a.val) Ev.LEAF.VBRUV = true ∧
        bit (t.dev.drv a.val).cond Cz.LEAF.VBRUV.code = true ∧ t.dev.faultEvent a.val = true ∧
        (t.dev.drv a.val).latch = (s.dev.drv a.val).latch ∧ t.mem = s.mem) ∧
    (s.dev.inService n.val = true → 3 ≤ (s.dev.drv n.val).nShadow →
      ∃ t, exec (.shadow n) s = .next t ∧ t.dev.raised (pgLEAF n.val) Ev.LEAF.SHADOW = true ∧ (t.dev.prf n.val).stopReq = 3 ∧
        t.dev.faultEvent n.val = true ∧ t.mem = s.mem) ∧
    (∃ t, exec (.vgdUv x) s = .next t ∧ t.mem = s.mem ∧ ∀ b : AxisNo, dieOf b.val = x.val → s.dev.hasAxis b.val = true →
      (t.dev.drv b.val).mode = mOFF ∧ t.dev.get (pgDRV b.val) (drvReg b.val LEAF.DRV_STAT.VGDOK) = 0) ∧
    (s.dev.part.hasLeaf n.val = true →
      ∃ t, exec (.bridgeDisableAssert n) s = .next t ∧ (t.dev.drv n.val).mode = mOFF ∧ (t.dev.drv n.val).pltDis = true ∧
        t.dev.get (pgLEAF n.val) LEAF.DRV_STAT.PLTDIS = 1 ∧ (s.dev.pgState (pgLEAF n.val) ≠ 3 → (s.dev.drv n.val).cal.on = false → t.dev.raised (pgLEAF n.val) Ev.LEAF.PLTDIS = true) ∧
        ((s.dev.drv n.val).mode ≠ mOFF → leafOut s.dev n.val = false → t.dev.faultEvent n.val = true)))

/-!  -/

/-- Faults of a leaf's motion (R126, R139, R142, R147): a kinetic-energy limit exceeded at four boundaries, a ligature's position error, an underrun that
has run its course, and a stop path that has stood at speed 0 for 64 servo periods without standstill are fault events, with the quick stop requested
or under way, or for STOPTO the hard stop requested. Ligatures form (R140), an axis reaches standstill (R146, R133) and a limit switch acts (R150).
Where both members of a pair are enabled, in RUN, at standstill without a stop path, and within `SYNCTOL` of each other, the ligature is formed and
event LIG raised on both pages. At standstill the status reads so, and a stop or quick stop whose set-point has ended is over. A switch that becomes
active captures the measured position. -/
def Obligations.MotionEvents : Prop :=
  (∀ (s : State) (n : LeafNo) (k : Fin 4), s.dev.alive = true →
    (s.dev.part.hasLeaf n.val = true →
      (leafOut s.dev n.val = false → 4 ≤ (s.dev.prf n.val).keo →
        ∃ t, exec (.keover n) s = .next t ∧ t.dev.faultEvent n.val = true ∧ (2 ≤ (t.dev.prf (stopTarget t.dev n.val 2)).stopReq ∨ (t.dev.prf (stopTarget t.dev n.val 2)).stopKind = 2) ∧
          (t.dev.prf n.val).keo = 0 ∧ t.mem = s.mem) ∧
      ((s.dev.prf n.val).ext = true → (s.dev.prf n.val).undStop = true →
        ∃ t, exec (.spqUnderrun n) s = .next t ∧ t.dev.faultEvent n.val = true ∧ t.dev.raised (pgLEAF n.val) Ev.LEAF.SPQ = true ∧
          (t.dev.prf n.val).undStop = false ∧ (2 ≤ (t.dev.prf (stopTarget t.dev n.val 2)).stopReq ∨ (t.dev.prf (stopTarget t.dev n.val 2)).stopKind = 2) ∧ t.mem = s.mem) ∧
      ((s.dev.prf n.val).stopKind = 1 ∨ (s.dev.prf n.val).stopKind = 2 → 64 ≤ (s.dev.prf n.val).zeroN →
        ∃ t, exec (.stopto n) s = .next t ∧ t.dev.faultEvent n.val = true ∧ t.dev.raised (pgLEAF n.val) Ev.LEAF.STOPTO = true ∧
          (t.dev.prf n.val).stopReq = 3 ∧ t.mem = s.mem)) ∧
    (ligFormed s.dev (2 * k.val) = true →
      s.dev.get (pgLEAF (2 * k.val)) LEAF.SYNC.SYNCN ≤ (s.dev.lf (2 * k.val)).lig.sync →
      ∃ t, exec (.syncerr k) s = .next t ∧ t.dev.faultEvent (2 * k.val) = true ∧
        t.dev.raised (pgLEAF (2 * k.val)) Ev.LEAF.SYNC = true ∧ t.dev.raised (pgLEAF (2 * k.val + 1)) Ev.LEAF.SYNC = true ∧ t.mem = s.mem)) ∧
  (∀ (s : State) (k : Fin 4) (n : LeafNo) (e : Bool), s.dev.alive = true →
    (ligFormed s.dev (2 * k.val) = false → s.dev.on (pgLEAF (2 * k.val)) LEAF.LIG.LEN = true → ligMember s.dev (2 * k.val) = true →
      ligMember s.dev (2 * k.val + 1) = true → ligClose s.dev (2 * k.val) = true →
      ∃ t, exec (.ligatureForm k) s = .next t ∧ ligFormed t.dev (2 * k.val) = true ∧
        (t.dev.prf (2 * k.val)).ligPend = false ∧ (t.dev.prf (2 * k.val + 1)).ligPend = false ∧
        t.dev.raised (pgLEAF (2 * k.val)) Ev.LEAF.LIG = true ∧ t.dev.raised (pgLEAF (2 * k.val + 1)) Ev.LEAF.LIG = true ∧ t.mem = s.mem) ∧
    (s.dev.part.hasLeaf n.val = true → leafOut s.dev n.val = false →
      (s.dev.get (pgLEAF n.val) LEAF.STAND.STANDN ≤ (s.dev.prf n.val).stand →
        ∃ t, exec (.standstill (n.castLE (by omega))) s = .next t ∧
          ((s.dev.drv n.val).parkPend = 0 → (t.dev.prf n.val).still = true) ∧
          (((s.dev.prf n.val).stopKind = 1 ∨ (s.dev.prf n.val).stopKind = 2) →
            ((s.dev.prf n.val).stopPlan.any fun p => decide (p.len ≤ p.elapsed)) = true →
            (t.dev.prf n.val).stopKind = 0 ∧ t.dev.raised (pgLEAF n.val) Ev.LEAF.STANDST = true) ∧ t.mem = s.mem) ∧
      (limLevel s.dev n.val e = true → (if e then (s.dev.prf n.val).capO else (s.dev.prf n.val).capC) = false →
        limActs s.dev n.val e ≠ 0 →
        ∃ t, exec (.limitSwitch n e) s = .next t ∧
          t.dev.geti (pgLEAF n.val) (if e then LEAF.LIMO_CAP.POS else LEAF.LIMC_CAP.POS) =
            sgn 32 (uns 32 (s.dev.fbk n.val).p) ∧
          t.dev.raised (pgLEAF n.val) (if e then Ev.LEAF.LIMO else Ev.LEAF.LIMC) = true ∧
          (if e then (t.dev.prf n.val).capO else (t.dev.prf n.val).capC) = true ∧
          (limActs s.dev n.val e = 1 → (if e then 0 < (s.dev.prf n.val).sp.v else (s.dev.prf n.val).sp.v < 0) →
            t.dev.faultEvent n.val = true))))

/-- Obstacle detection (R176 to R180). While the Observer of a leaf runs, the row of a kind whose condition has lasted its time latches the detection with
its kind, the lowest of the kinds that are met, and its position, raises OBST, requests a quick stop and tells the sequencer. The Observer's checks
and its table (R162, R165, R192). A temperature not written for 10 s is stale; three shadow failures are a fault event of the leaf with a quick stop;
a learn run that is done replaces the table and raises KTUPD; the end of a clean movement with learning allowed updates it and counts, and the end of
an anomalous one discards its samples. -/
def Obligations.ObserverEvents : Prop :=
  (∀ (s : State) (n : LeafNo), s.dev.alive = true → s.dev.part.hasLeaf n.val = true → detRuns s.dev n.val = true →
    (0 < (s.dev.ob n.val).tdet → ocfg s.dev n.val OBS.OBS_CFG.TDET ≤ (s.dev.ob n.val).tdet →
      ∃ t, exec (.forceDetection n) s = .next t ∧ t.dev.get (pgOBS n.val) OBS.OBS_STAT.DET = 1 ∧
        t.dev.get (pgOBS n.val) OBS.OBS_STAT.KIND = 1 ∧ (t.dev.seq n.val).det = true ∧
        t.dev.raised (pgOBS n.val) Ev.OBS.OBST = true ∧ (t.dev.ob n.val).inhibit = true ∧ t.mem = s.mem) ∧
    (0 < (s.dev.ob n.val).stall → ocfg s.dev n.val OBS.SEAL2.STALLN ≤ (s.dev.ob n.val).stall → (s.dev.ob n.val).tdet = 0 →
      ∃ t, exec (.stallDetection n) s = .next t ∧ t.dev.get (pgOBS n.val) OBS.OBS_STAT.DET = 1 ∧
        t.dev.get (pgOBS n.val) OBS.OBS_STAT.KIND = 2 ∧ (t.dev.seq n.val).det = true ∧ t.dev.raised (pgOBS n.val) Ev.OBS.OBST = true) ∧
    (0 < (s.dev.ob n.val).stiff → ocfg s.dev n.val OBS.SEAL3.STIFFN ≤ (s.dev.ob n.val).stiff → (s.dev.ob n.val).tdet = 0 →
      (s.dev.ob n.val).stall = 0 →
      ∃ t, exec (.stiffnessDetection n) s = .next t ∧ t.dev.get (pgOBS n.val) OBS.OBS_STAT.DET = 1 ∧
        t.dev.get (pgOBS n.val) OBS.OBS_STAT.KIND = 3 ∧ (t.dev.seq n.val).det = true ∧ t.dev.raised (pgOBS n.val) Ev.OBS.OBST = true) ∧
    ((s.dev.ob n.val).tdet = 0 → (s.dev.ob n.val).stall = 0 → (s.dev.ob n.val).stiff = 0 →
      edgeActs s.dev n.val 0 = true ∨ edgeActs s.dev n.val 1 = true →
      ∃ t, exec (.edgeDetection n) s = .next t ∧ t.dev.get (pgOBS n.val) OBS.OBS_STAT.DET = 1 ∧
        t.dev.get (pgOBS n.val) OBS.OBS_STAT.KIND = (if edgeActs s.dev n.val 0 then 4 else 5) ∧ (t.dev.seq n.val).det = true ∧
        t.dev.raised (pgOBS n.val) Ev.OBS.OBST = true)) ∧
  (∀ (s : State) (n : LeafNo), s.dev.alive = true → s.dev.part.hasLeaf n.val = true →
    (s.dev.enabled (pgOBS n.val) = true → ocfg s.dev n.val OBS.OBS_CFG.TSRC = 2 → (s.dev.kn n.val).stale = false →
      (s.dev.kn n.val).tempAt + msMot 10000 ≤ s.dev.tim.mot →
      ∃ t, exec (.tstale n) s = .next t ∧ (t.dev.kn n.val).stale = true ∧ t.dev.get (pgOBS n.val) OBS.OBS_STAT.TSTALE = 1 ∧
        t.dev.raised (pgOBS n.val) Ev.OBS.TSTALE = true ∧
        (s.dev.queueRoom = true → t.dev.entryOf (pgOBS n.val) Cz.OBS.TSTALE 0xFF = true) ∧ t.mem = s.mem) ∧
    (leafOut s.dev n.val = false → 3 ≤ (s.dev.kn n.val).nShadow →
      ∃ t, exec (.oshadow n) s = .next t ∧ t.dev.faultEvent n.val = true ∧ t.dev.raised (pgOBS n.val) Ev.OBS.OSHADOW = true ∧
        (t.dev.kn n.val).nShadow = 0 ∧ t.mem = s.mem) ∧
    ((s.dev.kn n.val).learnDone = true →
      ∃ t, exec (.ktUpdate n) s = .next t ∧ (t.dev.kn n.val).learnDone = false ∧ t.dev.raised (pgOBS n.val) Ev.OBS.KTUPD = true ∧
        t.dev.get (pgOBS n.val) OBS.OBS_STAT.SETTLE = 3 ∧ (t.dev.kn n.val).dirty = true ∧ t.mem = s.mem) ∧
    ((s.dev.kn n.val).learnDone = false → (s.dev.kn n.val).atEnd = true →
      ((s.dev.kn n.val).endedOk = true → (s.dev.kn n.val).anom = false → (s.dev.kn n.val).probation = 0 →
        s.dev.on (pgOBS n.val) OBS.OBS_CFG.FREEZE = false →
        ∃ t, exec (.ktUpdate n) s = .next t ∧ (t.dev.kn n.val).atEnd = false ∧ t.dev.raised (pgOBS n.val) Ev.OBS.KTUPD = true) ∧
      ((s.dev.kn n.val).anom = true →
        ∃ t, exec (.ktUpdate n) s = .next t ∧ (t.dev.kn n.val).bins = [] ∧ t.dev.raised (pgOBS n.val) Ev.OBS.KTFRZ = true ∧
          (t.dev.kn n.val).probation = mcfg s.dev n.val OBS.KERN.HOLDN ∧
          ∀ b : Fin 256, t.dev.get (pgOBS n.val) (OBS.KTO.FRIC.at b.val) = s.dev.get (pgOBS n.val) (OBS.KTO.FRIC.at b.val))))

/-- Edges of the sensors (R196, R197, R211), on a feedback page in service. Two equal samples of the encoder's channels are taken: one quadrature step
moves the count by one, against `DIRINV` where it is set, and a change of both channels latches ENCERR; unequal samples change nothing. A stable valid
Hall code is stored, its lines inverted by `HALLPOL`; an invalid one that stays for two PWM periods, and that the lines still show, latches HALLINV.
In RUN the first index edge stores its count as the reference. Checks of the feedback (R198, R199, R212 to R214, R219). An SSI frame whose check value
agrees is taken, decoded from Gray code where `GRAY` is set; one that does not agree, or whose line reads low at the end, is missing, counted and
reported; too many missing words latch; a failed cross-check and a slip are latched and reported; a page whose sensors and link are ready leaves
STARTING for RUN with a valid position unless one of these two is latched. -/
def Obligations.FeedbackEvents : Prop :=
  (∀ (s : State) (a : AxisNo) (n : LeafNo) (q : BitVec 2) (lines : BitVec 3) (ns : Nat), s.dev.alive = true →
    (posOn s.dev a.val = true → encFitted s.dev a.val = true → (s.dev.ps a.val).ab < 4 →
      (∃ t, exec (.encoderEdge a ⟨q, q⟩) s = .next t ∧ t.mem = s.mem ∧ (t.dev.ps a.val).ab = q.toNat ∧
        (quadStep (s.dev.ps a.val).ab q.toNat = some 1 → t.dev.act = s.dev.act ∧ (t.dev.ps a.val).ext = ext48 ((s.dev.ps a.val).ext + (if s.dev.on (pgPOS a.val) POS.POS_CFG.DIRINV then -1 else 1))) ∧
        (quadStep (s.dev.ps a.val).ab q.toNat = some (-1) → t.dev.act = s.dev.act ∧ (t.dev.ps a.val).ext = ext48 ((s.dev.ps a.val).ext - (if s.dev.on (pgPOS a.val) POS.POS_CFG.DIRINV then -1 else 1))) ∧
        (quadStep (s.dev.ps a.val).ab q.toNat = none → (t.dev.ps a.val).ext = (s.dev.ps a.val).ext ∧
          t.dev.raised (pgPOS a.val) Ev.POS.ENCERR = true ∧ bit (t.dev.ps a.val).latch 2 = true)) ∧
      (∃ t, exec (.encoderEdge a ⟨q, ~~~q⟩) s = .next t ∧ t.dev.ps a.val = s.dev.ps a.val ∧ t.dev.act = s.dev.act ∧ t.mem = s.mem) ∧
      (s.dev.on (pgPOS a.val) POS.POS_CFG.ZEN = true → (s.dev.ps a.val).idx = none → (s.dev.ps a.val).z = false → s.dev.pgState (pgPOS a.val) = 2 →
        ∃ t, exec (.indexEdge ⟨a, true, true⟩) s = .next t ∧ (t.dev.ps a.val).idx = some (((s.dev.ps a.val).ext % max 1 (s.dev.get (pgPOS a.val) POS.CPR.CPR)).toNat) ∧
          (t.dev.ps a.val).z = true ∧ t.mem = s.mem)) ∧
    (posOn s.dev n.val = true → (s.dev.di (dieOf n.val)).lost = 0 →
      (s.dev.get (pgPOS n.val) POS.HALL.HALLFLT ≤ ns → (s.dev.ps n.val).hraw % 8 ≠ lines.toNat → (lines.toNat ^^^ s.dev.get (pgPOS n.val) POS.POS_CFG.HALLPOL) % 8 ≠ (s.dev.ps n.val).code →
        ∃ t, exec (.hallEdge n ⟨lines, ns, ns, ns⟩) s = .next t ∧ (t.dev.ps n.val).code = (lines.toNat ^^^ s.dev.get (pgPOS n.val) POS.POS_CFG.HALLPOL) % 8 ∧ t.mem = s.mem) ∧
      ((lines.toNat ^^^ s.dev.get (pgPOS n.val) POS.POS_CFG.HALLPOL) % 8 ≠ (s.dev.ps n.val).code → exec (.hallInvalid n lines) s = .next s) ∧
      ((lines.toNat ^^^ s.dev.get (pgPOS n.val) POS.POS_CFG.HALLPOL) % 8 = (s.dev.ps n.val).code → (s.dev.ps n.val).code = 0 ∨ (s.dev.ps n.val).code = 7 →
        (s.dev.ps n.val).invRep = false → (s.dev.ps n.val).codeT + 16000 ≤ s.dev.tim.mot → ∃ t, exec (.hallInvalid n lines) s = .next t ∧ t.dev.raised (pgPOS n.val) Ev.POS.HALLINV = true ∧ bit (t.dev.ps n.val).latch 0 = true ∧ t.mem = s.mem))) ∧
  (∀ (s : State) (n : LeafNo) (a : AxisNo) (x : BitVec 41), s.dev.alive = true →
    (posOn s.dev n.val = true → (s.dev.ps n.val).ssiOn = true → ssiFrameNs s.dev n.val ≤ 7000 →
      let len := crcLen (s.dev.get (pgPOS n.val) POS.SSI_CFG.CRCSEL)
      let w := s.dev.get (pgPOS n.val) POS.SSI_CFG.DBITS
      let raw := x.toNat / 2 ^ len % 2 ^ w
      let crc := if s.dev.on (pgPOS n.val) POS.SSI_CFG.CRCINV then 2 ^ len - 1 - x.toNat % 2 ^ len else x.toNat % 2 ^ len
      (s.dev.get (pgPOS n.val) POS.SSI_CFG.ERREN = 0 → (s.dev.ps n.val).ssi = none → ssiCrc (s.dev.get (pgPOS n.val) POS.SSI_CFG.CRCSEL) raw w = crc →
        ∃ t, exec (.ssiTransferEnd n ⟨true, x⟩) s = .next t ∧ (t.dev.ps n.val).miss = 0 ∧ (t.dev.ps n.val).ssiGot = true ∧
          (t.dev.ps n.val).ssi = some (if s.dev.on (pgPOS n.val) POS.SSI_CFG.GRAY then grayToBin raw w else raw) ∧ t.mem = s.mem) ∧
      (s.dev.get (pgPOS n.val) POS.SSI_CFG.ERREN = 0 → ssiCrc (s.dev.get (pgPOS n.val) POS.SSI_CFG.CRCSEL) raw w ≠ crc →
        ∃ t, exec (.ssiTransferEnd n ⟨true, x⟩) s = .next t ∧ (t.dev.ps n.val).miss = (s.dev.ps n.val).miss + 1 ∧ (t.dev.ps n.val).ssi = (s.dev.ps n.val).ssi ∧
          t.dev.raised (pgPOS n.val) Ev.POS.SSICRC = true ∧ t.mem = s.mem) ∧
      (∃ t, exec (.ssiTransferEnd n ⟨false, x⟩) s = .next t ∧ (t.dev.ps n.val).miss = (s.dev.ps n.val).miss + 1 ∧
        t.dev.raised (pgPOS n.val) Ev.POS.SSITO = true ∧ (s.dev.queueRoom = true → Cz.POS.SSITO.cls ≠ 0 →
          t.dev.entryOf (pgPOS n.val) Cz.POS.SSITO 0xFF = true) ∧ t.mem = s.mem)) ∧
    (posOn s.dev n.val = true →
      (s.dev.get (pgPOS n.val) POS.XCHK.SSIMISS < (s.dev.ps n.val).miss →
        ∃ t, exec (.ssiFault n) s = .next t ∧ bit (t.dev.ps n.val).latch 4 = true ∧ t.dev.act = s.dev.act ∧ t.mem = s.mem) ∧
      (s.dev.get (pgPOS n.val) POS.XCHK.XN ≤ (s.dev.ps n.val).xchkN →
        ∃ t, exec (.xchk n) s = .next t ∧ (t.dev.ps n.val).xchk = true ∧ (t.dev.ps n.val).xchkN = 0 ∧
          t.dev.raised (pgPOS n.val) Ev.POS.XCHK = true ∧ t.mem = s.mem) ∧
      (4 ≤ (s.dev.ps n.val).slipN →
        ∃ t, exec (.slip n) s = .next t ∧ (t.dev.ps n.val).slip = true ∧ t.dev.raised (pgPOS n.val) Ev.POS.SLIP = true ∧ t.mem = s.mem)) ∧
    (s.dev.hasAxis a.val = true → s.dev.pgState (pgPOS a.val) = 1 → (s.dev.di (dieOf a.val)).alive = true →
      (s.dev.di (dieOf a.val)).standalone = false → (s.dev.di (dieOf a.val)).lost = 0 →
      (a.val < 8 → 8 ≤ (s.dev.ps a.val).codeOk) → (a.val < 8 → s.dev.get (pgPOS a.val) POS.POS_CFG.PSRC = 2 → 2 ≤ (s.dev.ps a.val).ssiRun) →
      ∃ t, exec (.posStartingDone a) s = .next t ∧ t.dev.pgState (pgPOS a.val) = 2 ∧ (t.dev.fbk a.val).valid = (!(s.dev.ps a.val).xchk && !(s.dev.ps a.val).slip) ∧
        (t.dev.fbk a.val).v = 0 ∧ t.mem = s.mem))

/-!  -/

/-- Timers of a leaf sequencer (R243, R248, R250, R252, R255): each row ends a timer that has run out, or finds the stall of a learn run, and changes
nothing else of the leaf's sequencer; the transition follows at the next evaluation. Chatter (R237, R281) and the application of a new orientation
(R261). A switch with four transitions within 50 ms becomes suspect and reports CHATTER, or SCHAT of a step; in a learn run chatter is left to the
run. At a program-cycle boundary a wanted orientation that differs is applied, with event ORICHG, once neither side is released by either channel and
every leaf is at rest. -/
def Obligations.SequencerEvents : Prop :=
  (∀ (s : State) (n : LeafNo), s.dev.alive = true →
    (due s.dev (s.dev.seq n.val).tunlk = true → ∃ t, exec (.tunlkExpiry n) s = .next t ∧
      t.dev.seq n.val = { s.dev.seq n.val with tunlkX := true } ∧ t.dev.act = s.dev.act ∧ t.mem = s.mem) ∧
    (due s.dev (s.dev.seq n.val).tlock = true → ∃ t, exec (.tlockExpiry n) s = .next t ∧
      t.dev.seq n.val = { s.dev.seq n.val with tlockX := true } ∧ t.dev.act = s.dev.act ∧ t.mem = s.mem) ∧
    (due s.dev (s.dev.seq n.val).warn = true → ∃ t, exec (.twarnEnd n) s = .next t ∧
      t.dev.seq n.val = { s.dev.seq n.val with warn := none } ∧ t.dev.act = s.dev.act ∧ t.mem = s.mem) ∧
    (due s.dev (s.dev.seq n.val).trecl = true → ∃ t, exec (.treclExpiry n) s = .next t ∧
      t.dev.seq n.val = { s.dev.seq n.val with treclX := true } ∧ t.dev.act = s.dev.act ∧ t.mem = s.mem) ∧
    (due s.dev (s.dev.lrn n.val).press = true → ∃ t, exec (.referencePressEnd n) s = .next t ∧
      t.dev.lrn n.val = { s.dev.lrn n.val with pressX := true } ∧ t.dev.seq n.val = s.dev.seq n.val ∧ t.mem = s.mem) ∧
    ((s.dev.seq n.val).st = .learn → s.dev.get (pgLEAF n.val) LEAF.SEQ_LRN3.LSTALLN ≤ (s.dev.lrn n.val).stallN →
      ∃ t, exec (.learnStall n) s = .next t ∧ t.dev.lrn n.val = { s.dev.lrn n.val with stallX := true } ∧
        t.dev.seq n.val = s.dev.seq n.val ∧ t.mem = s.mem)) ∧
  (∀ (s : State) (n : LeafNo) (k : StepNo), s.dev.alive = true →
    (s.dev.part.hasLeaf n.val = true → chatters s.dev.tim.mot (s.dev.lrn n.val).histC = true →
      ((s.dev.seq n.val).st ≠ .learn → bit (s.dev.seq n.val).susp 0 = false →
        ∃ t, exec (.switchChatter (n.castLE (by omega)) .closed) s = .next t ∧ bit (t.dev.seq n.val).susp 0 = true ∧
          (s.dev.queueRoom = true → t.dev.entryOf (pgLEAF n.val) Cz.LEAF.CHATTER 0xFF = true) ∧ t.mem = s.mem) ∧
      ((s.dev.seq n.val).st = .learn →
        ∃ t, exec (.switchChatter (n.castLE (by omega)) .closed) s = .next t ∧ (t.dev.lrn n.val).chat = true ∧
          t.dev.seq n.val = s.dev.seq n.val)) ∧
    (s.dev.part.hasStepAxis k.val = true → chatters s.dev.tim.mot (s.dev.stp k.val).histR = true → bit (s.dev.stp k.val).susp 0 = false →
      ∃ t, exec (.switchChatter (k.natAdd 8) .retracted) s = .next t ∧ bit (t.dev.stp k.val).susp 0 = true ∧ t.mem = s.mem) ∧
    (s.dev.tim.cycleDue = true → wantedOri s.dev ≠ s.dev.sy.ori → s.dev.sx.dec % 4 = 0 → qDec s.dev 0 = false → qDec s.dev 1 = false →
      (s.dev.leaves.all (leafRest s.dev)) = true → s.dev.sy.oriNew = false → s.dev.sy.oriBack = false → s.dev.sy.oriSent = none →
      ∃ t, exec .orientationApply s = .next t ∧ t.dev.sy.ori = wantedOri s.dev ∧ t.dev.raised pgSAFE Ev.SAFE.ORICHG = true ∧ t.mem = s.mem))

/-!  -/

/-- States of the Platen die (R297 to R300, R326, table "Platen states"). A valid V_PLT takes a die that is OFF to CONFIG with no record; a powered die
goes to SAFE with all outputs safe on a low V_PLT, a failed check of its states, comparators or record, the loss of the P-frames or of the core
reference, and a HALT frame that was sent; checks that pass change nothing. `SAFE_CTRL` in safe context (R307, R309, R314, R317, R320): each clear
request stands for 4 ms and begins with every latch as a candidate, a holding test is requested for each leaf of LMASK, and TCLR clears the test-pulse
masks whose condition was not found. The mask written is held. Outside safe context the write changes nothing but raises WLOCK (R12). -/
def Obligations.PlatenStatesAndRequests : Prop :=
  (∀ (s : State),
    (s.dev.px.st = 0 → ∃ t, exec .vpltValid s = .next t ∧ t.dev.px.st = 1 ∧ t.dev.px.rec? = none ∧ t.dev.platenSafe = true ∧
      t.dev.py.vplt = true ∧ t.mem = s.mem) ∧
    (s.dev.px.st ≠ 0 →
      (∃ t, exec .vpltLow s = .next t ∧ t.dev.px.st = 4 ∧ t.dev.platenSafe = true ∧ bit t.dev.py.diag 0 = true ∧ t.mem = s.mem) ∧
      (∃ t, exec .stateEncodingCheck s = .next t ∧ t.dev.px.st = 4 ∧ t.dev.platenSafe = true ∧ bit t.dev.py.diag 2 = true ∧ t.mem = s.mem) ∧
      (∃ t, exec (.platenComparatorCheck false) s = .next t ∧ t.dev.px.st = 4 ∧ t.dev.platenSafe = true ∧ bit t.dev.py.diag 1 = true ∧ t.mem = s.mem) ∧
      (s.dev.px.rec?.isSome = true → ∃ t, exec (.platenRecordCrcCheck true) s = .next t ∧ t.dev.px.st = 4 ∧
        t.dev.platenSafe = true ∧ bit t.dev.py.diag 4 = true ∧ t.mem = s.mem) ∧
      (∃ t, exec .pFrameLoss s = .next t ∧ t.dev.px.st = 4 ∧ t.dev.platenSafe = true ∧ t.dev.py.diag = s.dev.py.diag ∧ t.mem = s.mem) ∧
      (∃ t, exec .coreReferenceLoss s = .next t ∧ t.dev.px.st = 4 ∧ t.dev.platenSafe = true ∧ bit t.dev.py.diag 5 = true ∧ t.mem = s.mem) ∧
      (s.dev.boot.up = true → s.dev.sx.sent = true → s.dev.sx.p.typ = 5 → s.dev.py.pSeq = none ∨ s.dev.py.pSeq = some ((s.dev.sx.p.seq + 15) % 16) → s.dev.sx.p.seq < 16 →
        ∃ t, exec .pFrameHalt s = .next t ∧ t.dev.px.st = 4 ∧ t.dev.platenSafe = true ∧ t.mem = s.mem)) ∧
    (s.dev.sx.p.typ ≠ 5 → exec .pFrameHalt s = .next s) ∧ exec (.platenComparatorCheck true) s = .next s ∧ exec (.platenRecordCrcCheck false) s = .next s) ∧
  (∀ (s : State) (lmask : BitVec 8), s.dev.runtimeActs = true →
    (∃ t, exec (.safeCtrlDclr .runtimeSafe) s = .next t ∧ t.dev.sy.dclr = some (s.dev.tim.mot + msMot 4) ∧ t.dev.sy.dclrOk = s.dev.sx.latch ∧
      t.dev.sx = s.dev.sx ∧ t.mem = s.mem) ∧
    (∃ t, exec (.safeCtrlMclr .runtimeSafe) s = .next t ∧ t.dev.sy.mclr = some (s.dev.tim.mot + msMot 4) ∧ t.dev.sy.mclrOk = 15 ∧
      t.dev.sx = s.dev.sx ∧ t.mem = s.mem) ∧
    (∃ t, exec (.safeCtrlGclr .runtimeSafe lmask) s = .next t ∧ t.dev.sy.gclr = some (s.dev.tim.mot + msMot 4) ∧ t.dev.sy.gmask = lmask.toNat ∧
      t.dev.get pgSAFE SAFE.SAFE_CTRL.LMASK = lmask.toNat ∧ t.dev.sx = s.dev.sx ∧ t.mem = s.mem) ∧
    (s.dev.sy.hold.length = 8 → ∃ t, exec (.safeCtrlHtreq .runtimeSafe lmask) s = .next t ∧
      (∀ n : LeafNo, bit lmask.toNat n.val = true → (nth t.dev.sy.hold n.val {}).req = true) ∧
      (∀ n : LeafNo, bit lmask.toNat n.val = false → nth t.dev.sy.hold n.val {} = nth s.dev.sy.hold n.val {}) ∧ t.mem = s.mem) ∧
    (∃ t, exec (.safeCtrlTclr .runtimeSafe) s = .next t ∧ t.mem = s.mem ∧
      ∀ i : Fin 16, (nth s.dev.sx.tp i.val {}).found = 0 → bit t.dev.sx.tpStuck i.val = false ∧ bit t.dev.sx.tpShort i.val = false) ∧
    (∃ t, exec (.safeCtrlGclr .runtime lmask) s = .next t ∧ t.dev.sy = s.dev.sy ∧ t.dev.sx = s.dev.sx ∧ t.dev.raised pgSYS Ev.SYS.WLOCK = true ∧ t.mem = s.mem))

/-- P-frames and Q-frames (R294, R295, R324, R327). In CONFIG a CONFIG frame's eight bytes are held until the record is complete; in TEST a TEST frame
drives the test outputs and a RUN frame starts the functions of both channels; a RESTART clears record and latches and returns to CONFIG; a good
STATUS frame brings the processor channel's readings and masks; a powered Platen die answers with a Q-frame of its state under the next number.
Readings of the Platen die (R304, R316, R317). A powered die takes a level that its filter accepts; outside RUN it then releases nothing. A valid Hall
code is stored with its time; the fourth count toward opening of a leaf in use on a side that is not released latches the guard. The link as the
processor channel sees it (R295, R296, R310, R326, R327, R329). A Q-frame received well becomes the latest report and its time is noted; a bad one
raises LINKERR and counts; 1 ms without a good one is XLINK, once; orientations that differ for more than four frames drop every decision; decisions
that differ for 40 ms are reported; an echo that has not agreed within 2 ms of the last CONFIG frame is PCRBAD. -/
def Obligations.ProcessorAndPlatenChannels : Prop :=
  (∀ (s : State) (idx : Fin 8) (b : Byte) (code : Fin 4) (arg : Fin 8),
    (s.dev.alive = true → s.dev.platenTakes = true →
      (s.dev.px.st = 1 → (s.dev.px.buf.filter fun e => e.1 != idx.val).length < 7 →
        ∃ t, exec (.pFrameConfig idx (List.replicate 8 b)) s = .next t ∧ t.dev.px.st = 1 ∧
          t.dev.px.buf.head? = some (idx.val, List.replicate 8 (b.toNat % 256)) ∧ t.mem = s.mem) ∧
      (s.dev.px.st = 2 →
        (∃ t, exec (.pFrameTest code arg) s = .next t ∧ t.dev.px.st = 2 ∧ t.dev.py.test = some (code.val, arg.val) ∧
          t.dev.px.dec = 0 ∧ t.mem = s.mem) ∧
        (∃ t, exec .pFrameRun s = .next t ∧ t.dev.px.st = 3 ∧ t.dev.sx.run = true ∧ t.dev.py.test = none ∧ t.mem = s.mem)) ∧
      (∃ t, exec .pFrameRestart s = .next t ∧ t.dev.px.st = 1 ∧ t.dev.px.rec? = none ∧ t.dev.px.dsc = 0 ∧ t.dev.px.mirF = 0 ∧ t.dev.px.coilF = 0 ∧
        t.dev.platenSafe = true ∧ t.dev.sx.run = false ∧ t.dev.sx.dec = 0 ∧ t.dev.sx.coil = 0 ∧ t.mem = s.mem)) ∧
    (s.dev.px.st ≠ 0 → s.dev.sx.sent = true → s.dev.sx.p.typ = 0 → s.dev.py.pSeq = none →
      ∃ t, exec (.pFrameStatus true) s = .next t ∧ t.dev.px.siMask = s.dev.sx.p.siMask ∧ t.dev.px.tliMask = s.dev.sx.p.tliMask ∧
        t.dev.px.procSi = s.dev.sx.p.si ∧ t.dev.py.pSeq = some s.dev.sx.p.seq ∧ t.dev.px.st = s.dev.px.st ∧ t.mem = s.mem) ∧
    (s.dev.px.st ≠ 0 →
      ∃ t, exec .qFrameSend s = .next t ∧ t.dev.py.qSeq = (s.dev.py.qSeq + 1) % 16 ∧
        (t.dev.py.q.map fun f => (f.seq, f.st, f.si, f.dec, f.guard)) =
          some ((s.dev.py.qSeq + 1) % 16, s.dev.px.st, s.dev.px.si, s.dev.px.dec, s.dev.py.guard) ∧ t.dev.sx = s.dev.sx ∧ t.mem = s.mem)) ∧
  (∀ (s : State) (n : LeafNo) (i : Fin 16) (level : Bool) (code : BitVec 3), s.dev.px.st ≠ 0 →
    (∃ t, exec (.platenInputAccept (.si i) level) s = .next t ∧ bit t.dev.px.si i.val = level ∧ t.dev.px.tli = s.dev.px.tli ∧
      (s.dev.px.st ≠ 3 → t.dev.px.dec = 0) ∧ t.mem = s.mem) ∧
    (s.dev.py.code.length = 8 → s.dev.py.hallAt.length = 8 → code.toNat ≠ 0 → code.toNat ≠ 7 → code.toNat ≠ nth s.dev.py.code n.val 0 →
      ∃ t, exec (.platenHallChange n code) s = .next t ∧ nth t.dev.py.code n.val 0 = code.toNat ∧
        nth t.dev.py.hallAt n.val 0 = s.dev.tim.mot ∧ t.mem = s.mem) ∧
    (∀ r ∈ s.dev.px.rec?, s.dev.px.st = 3 → leafUsed s.dev r n.val = true → 3 ≤ nth s.dev.py.gcnt n.val 0 →
      0 < guardStep (nth r.leaf n.val {}).openSeq (nth s.dev.py.code n.val 0) code.toNat → code.toNat ≠ nth s.dev.py.code n.val 0 →
      bit s.dev.px.dec (if (nth r.leaf n.val {}).carB != s.dev.py.ori then 0 else 1) = false →
      ∃ t, exec (.platenHallChange n code) s = .next t ∧ bit t.dev.py.guard n.val = true ∧ bit t.dev.py.bdis n.val = true ∧
        bit t.dev.py.lken n.val = false)) ∧
  (∀ (s : State), s.dev.alive = true →
    (∀ f ∈ s.dev.py.q, (s.dev.sx.qSeq = none ∨ s.dev.sx.qSeq = some ((f.seq + 15) % 16)) → f.seq < 16 →
      ∃ t, exec (.qFrameReceive true) s = .next t ∧ t.dev.sx.q = some f ∧ t.dev.sx.qSeq = some f.seq ∧
        t.dev.sy.qAt = s.dev.tim.mot ∧ t.dev.sy.xlink = false ∧ t.mem = s.mem) ∧
    (s.dev.py.q.isSome = true →
      ∃ t, exec (.qFrameReceive false) s = .next t ∧ t.dev.raised pgPLT Ev.PLT.LINKERR = true ∧ t.dev.sx.qSeq = none ∧
        t.dev.sx.q = s.dev.sx.q ∧ t.mem = s.mem) ∧
    (s.dev.sy.armed = true → s.dev.sy.xlink = false → s.dev.sy.qAt + msMot 1 ≤ s.dev.tim.mot →
      ∃ t, exec .xlink s = .next t ∧ t.dev.sy.xlink = true ∧
        (s.dev.queueRoom = true → t.dev.entryOf pgSAFE Cz.SAFE.XLINK 0xFF = true) ∧ t.mem = s.mem) ∧
    (4 < s.dev.sy.oriN → s.dev.sy.oriMis = false →
      ∃ t, exec .orimis s = .next t ∧ t.dev.sy.oriMis = true ∧ t.dev.sx.dec = 0 ∧ t.dev.hasC2 pgSAFE = true ∧ t.mem = s.mem) ∧
    ((s.dev.sy.xd.any fun t => lasted s.dev t (msMot 40)) = true →
      ∃ t, exec .xdec s = .next t ∧ t.dev.sy.xd = List.replicate 4 none ∧
        (s.dev.queueRoom = true → t.dev.entryOf pgSAFE Cz.SAFE.XDEC 0xFF = true) ∧ t.mem = s.mem) ∧
    (lasted s.dev s.dev.sy.cfg8 (msMot 2) = true → echoOk s.dev = false →
      ∃ t, exec .pcrbad s = .next t ∧ t.dev.sy.cfg8 = none ∧
        (s.dev.queueRoom = true → t.dev.entryOf pgSAFE Cz.SAFE.PCRBAD 0xFF = true) ∧ t.mem = s.mem))

/-- Loops, relays and inputs (R306, R308, R313 to R315). A loop whose conditions have held for LOOPON is demanded by the channel asked; a mirror contact
that does not follow its relay by MIRT latches its fault and drops the loop; so does a coil readback that still disagrees 2 ms later; a discrepancy
that has lasted latches its input; a dark pulse in its time slot that leaves an assigned input active twice is a stuck test pulse. Tests of lock and
holding (R319, R320) and the seal scans (seal straps). While both switches of a lock have been on for 100 ms and the interval has passed, in the
leaf's turn, a test switches one off; 50 mA or more at its end is a fault event of the leaf with the hard stop. A holding test that is due starts in
mode CURRENT and shows as running, and one that ends with little movement passes. A scan stores the straps' word and every stray reading. -/
def Obligations.LoopsLocksAndSeal : Prop :=
  (∀ (s : State) (left : Bool) (i : Fin 16), s.dev.alive = true →
    (procLoopOk s.dev left = true →
      lasted s.dev (if left then s.dev.sy.condL else s.dev.sy.condR) (msMot (s.dev.sx.rec?.getD {}).loopOn) = true →
      ∃ t, exec (.loopCloseDelay left false) s = .next t ∧ bit t.dev.sx.dec (if left then 3 else 2) = true ∧
        bit t.dev.sx.coil (coilBit left) = true ∧ t.mem = s.mem) ∧
    (pltLoopOk s.dev left = true → s.dev.px.dec < 16 →
      ∃ t, exec (.loopCloseDelay left true) s = .next t ∧ bit t.dev.px.dec (if left then 3 else 2) = true ∧ t.mem = s.mem) ∧
    (s.dev.sx.rec?.isSome = true → (if left then s.dev.sy.coilAtL else s.dev.sy.coilAtR) + msMot (s.dev.sx.rec?.getD {}).mirt ≤ s.dev.tim.mot →
      bit s.dev.sx.mir (if left then 0 else 2) = bit s.dev.sx.coil (coilBit left) → bit s.dev.sx.mirF (if left then 0 else 2) = false →
      ∃ t, exec (.mirrorCheck (if left then 0 else 2)) s = .next t ∧ bit t.dev.sx.mirF (if left then 0 else 2) = true ∧
        bit t.dev.sx.dec (if left then 3 else 2) = false ∧ bit t.dev.sx.coil (coilBit left) = false ∧ t.dev.hasC2 pgSAFE = true ∧
        bit t.dev.px.mirF (if left then 0 else 2) = true ∧ t.mem = s.mem) ∧
    (bit s.dev.sx.coil (coilBit left) = false → bit s.dev.sx.coilF (if left then 0 else 2) = false →
      (if left then s.dev.sy.coilAtL else s.dev.sy.coilAtR) + msMot 2 ≤ s.dev.tim.mot →
      ∃ t, exec (.coilReadback (if left then 0 else 2) true) s = .next t ∧ bit t.dev.sx.coilF (if left then 0 else 2) = true ∧
        bit t.dev.sx.dec (if left then 3 else 2) = false ∧ bit t.dev.sx.coilOk (coilBit left) = false ∧ t.dev.hasC2 pgSAFE = true ∧ t.mem = s.mem) ∧
    (lasted s.dev (nth s.dev.sy.ds i.val none) (msMot (s.dev.sx.rec?.getD {}).disct) = true → bit s.dev.sx.latch i.val = false →
      ∃ t, exec (.discrepancy (.si i)) s = .next t ∧ bit t.dev.sx.latch i.val = true ∧ t.dev.raised pgSAFE Ev.SAFE.DISC = true ∧
        t.dev.hasC2 pgSAFE = true ∧ t.mem = s.mem) ∧
    (∀ r ∈ s.dev.sx.rec?, ∀ o : Fin 8, nth r.tp i.val none = some o.val → o.val / 4 = i.val / 8 → s.dev.sx.tp.length = 16 →
      darkDue o.val s.dev = true → bit (s.dev.di (i.val / 8)).deb (16 + i.val % 8) = true → 1 ≤ (nth s.dev.sx.tp i.val {}).noFall →
      ∃ t, exec (.darkPulse o 0) s = .next t ∧ bit t.dev.sx.tpStuck i.val = true ∧ bit (t.dev.dy (o.val / 4)).tpoDark (o.val % 4) = true ∧
        t.mem = s.mem)) ∧
  (∀ (s : State) (n : LeafNo) (ma word a b off : W16), s.dev.alive = true → s.dev.sy.hold.length = 8 →
    (safeLive s.dev = true → s.dev.part.hasLeaf n.val = true → (nth s.dev.sy.hold n.val {}).hsTest = false →
      (nth s.dev.sy.hold n.val {}).lsTest = false → lasted s.dev (nth s.dev.sy.hold n.val {}).bothAt (msMot 100) = true →
      lockTurn s.dev n.val (s.dev.sx.rec?.getD {}).lktint = true → (nth s.dev.sy.hold n.val {}).hsAt = 0 → (nth s.dev.sy.hold n.val {}).lsAt = 0 →
      (∃ t, exec (.lockSwitchTest n true) s = .next t ∧ (nth t.dev.sy.hold n.val {}).hsTest = true ∧
        bit (t.dev.dy (n.val / 4)).lkHs (n.val % 4) = false ∧ t.mem = s.mem) ∧
      (∃ t, exec (.lockSwitchTest n false) s = .next t ∧ (nth t.dev.sy.hold n.val {}).lsTest = true ∧ bit t.dev.py.lst n.val = true ∧
        t.mem = s.mem)) ∧
    ((nth s.dev.sy.hold n.val {}).hsTest = true → (nth s.dev.sy.hold n.val {}).hsAt + 2500 * (s.dev.sx.rec?.getD {}).lktpw ≤ s.dev.tim.mot →
      ∃ t, exec (.lockTestPulseEnd n ma) s = .next t ∧ (nth t.dev.sy.hold n.val {}).hsTest = false ∧ t.mem = s.mem ∧
        (50 ≤ ma.toNat → bit t.dev.sx.lkf n.val = true ∧ t.dev.raised pgSAFE Ev.SAFE.LKTEST = true ∧ t.dev.faultEvent n.val = true) ∧
        (ma.toNat < 50 → t.dev.sx.lkf = s.dev.sx.lkf ∧ t.dev.flt = s.dev.flt)) ∧
    (safeLive s.dev = true → s.dev.part.hasLeaf n.val = true → (nth s.dev.sy.hold n.val {}).req = true → ligFormed s.dev n.val = false →
      holdOk s.dev n.val = true → (nth s.dev.sy.hold n.val {}).on = false → leafOut s.dev n.val = false →
      ∃ t, exec (.holdingTestStart n) s = .next t ∧ (nth t.dev.sy.hold n.val {}).on = true ∧
        bit (t.dev.get pgSAFE SAFE.SAFE_HT.RUN) n.val = true ∧ (t.dev.drv n.val).modeReq.getD (t.dev.drv n.val).mode = mCURRENT ∧ t.mem = s.mem) ∧
    ((nth s.dev.sy.hold n.val {}).on = true → (nth s.dev.sy.hold n.val {}).t0 + msMot (10 * (s.dev.sx.rec?.getD {}).htdur) ≤ s.dev.tim.mot →
      ∃ t, exec (.holdingTestEnd n) s = .next t ∧ (nth t.dev.sy.hold n.val {}).on = false ∧ (nth t.dev.sy.hold n.val {}).req = false ∧
        t.dev.raised pgSAFE Ev.SAFE.HTDONE = true ∧ bit (t.dev.get pgSAFE SAFE.SAFE_HT.RUN) n.val = false ∧ t.mem = s.mem) ∧
    (∃ t, exec (.sealScan ⟨word, a, b⟩ off) s = .next t ∧ t.dev.get pgSEAL SEAL.RAW.RAW = word.toNat ∧
      (∀ j : Fin 16, bit (t.dev.get pgSEAL SEAL.STAT.BAD) j.val = ((word[j] != (if j.val % 2 = 0 then a[j] else b[j])) || (if j.val % 2 = 0 then b[j] else a[j]) || off[j])) ∧
      t.dev.get pgSEAL SEAL.STAT.SCANOK = b2n (t.dev.get pgSEAL SEAL.STAT.BAD == 0) ∧ t.mem = s.mem ∧
      (t.dev.get pgSEAL SEAL.STAT.BAD ≠ 0 → t.dev.raised pgSEAL Ev.SEAL.SEALFLT = true) ∧
      (s.dev.on pgSEAL SEAL.PROFILE.VALID = true → word.toNat ≠ s.dev.get pgSEAL SEAL.BOOT.BOOT → t.dev.raised pgSEAL Ev.SEAL.TAMPER = true)))

/-!  -/

/-- Voting (R333 to R346). A halted triplet issues nothing. With three lanes in RUN that agree, a fold reaches `IMD.FOLD` and is counted; where one lane
differs the other two are believed and the third goes to RESYNC with event LANEFLT; where no two agree, or where the voters differ, or where two
remaining lanes disagree, the device halts. -/
def Obligations.VotedTransactions : Prop :=
  ∀ (s : State) (addr data : W32) (k : Fin 3), s.dev.alive = true → s.dev.imd.held = false →
    (s.dev.imd.halted = true → exec (.tripletTransaction { p0 := none, p1 := none, p2 := none }) s = .next s) ∧
    (s.dev.imd.halted = false → runLanes s.dev = [0, 1, 2] →
      (∃ t, exec (.tripletTransaction (votes .fold addr data data data)) s = .next t ∧
        t.dev.get pgIMD IMD.FOLD.CRC = data.toNat ∧ t.dev.imd.lane = s.dev.imd.lane ∧
        t.dev.get pgIMD IMD.FOLD_CNT.COUNT = (s.dev.get pgIMD IMD.FOLD_CNT.COUNT + 1) % 2 ^ IMD.FOLD_CNT.COUNT.w ∧ t.mem = s.mem) ∧
      (laneCnt s.dev k.val = 0 →
        ∃ t, exec (.tripletTransaction (votes .fold addr (if k.val = 0 then data + 1 else data) (if k.val = 1 then data + 1 else data) (if k.val = 2 then data + 1 else data))) s = .next t ∧
          laneSt t.dev k.val = .resync ∧ (runLanes t.dev).length = 2 ∧ t.dev.raised pgIMD Ev.IMD.LANEFLT = true ∧
          t.dev.get pgIMD IMD.FOLD.CRC = data.toNat ∧ t.dev.get pgIMD IMD.LAST_LF.LANE = k.val) ∧
      (∃ t, exec (.tripletTransaction (votes .write addr data (data + 1) (data + 2))) s = .next t ∧ (s.dev.flt.halt = false → t.dev.safeHalted = true) ∧ t.mem = s.mem)) ∧
    (s.dev.imd.halted = false → s.dev.flt.halt = false →
      (∃ t, exec (.tripletTransaction { p0 := none, p1 := none, p2 := none, vchk := true }) s = .next t ∧ t.dev.safeHalted = true ∧ t.mem = s.mem) ∧
      (runLanes s.dev = [0, 1] →
        ∃ t, exec (.tripletTransaction { p0 := some ⟨.write, addr, 15, data⟩, p1 := some ⟨.write, addr, 15, data + 1⟩, p2 := none }) s = .next t ∧
          t.dev.safeHalted = true ∧ t.mem = s.mem))

/-- Resync and the rotating proof (R344, R348, R350 to R352). A good transfer takes the excluded lane back to RUN and counts it; a second bad CRC takes it
OUT. Every 20 minutes one proof more waits; at a program-cycle boundary quiet starts it on the next lane, or DEFMAX minutes after its due time it
starts anyhow; a lane that passes its BIST resyncs, one that fails is OUT. -/
def Obligations.ResyncAndProof : Prop :=
  ∀ (s : State) (k : Fin 3) (t10 : W16), s.dev.alive = true →
    (resyncLane s.dev = some k.val →
      (∃ t, exec (.resyncTransfer true t10) s = .next t ∧ laneSt t.dev k.val = .run ∧ t.dev.raised pgIMD Ev.IMD.RESYNC = true ∧
        t.dev.get pgIMD IMD.RSYNC_T.LASTT = t10.toNat ∧ t.mem = s.mem) ∧
      (s.dev.imd.crcRetry = false → ∃ t, exec (.resyncTransfer false t10) s = .next t ∧ t.dev.imd.crcRetry = true ∧
        laneSt t.dev k.val = .resync ∧ t.mem = s.mem) ∧
      (s.dev.imd.crcRetry = true → ∃ t, exec (.resyncTransfer false t10) s = .next t ∧ laneSt t.dev k.val = .out ∧
        t.dev.raised pgIMD Ev.IMD.DUPLEX = true ∧ t.mem = s.mem)) ∧
    (s.dev.imd.started = true → s.dev.imd.startAt + (s.dev.imd.dues + 1) * proofPeriod ≤ s.dev.tim.mot →
      s.dev.on pgIMD IMD.PROOF_CFG.PROOFEN = true →
      ∃ t, exec .proofDue s = .next t ∧ t.dev.imd.waiting = s.dev.imd.waiting + 1 ∧
        t.dev.imd.dues = s.dev.imd.dues + 1 ∧ (s.dev.imd.waiting = 0 → t.dev.imd.dueAt = s.dev.imd.startAt + (s.dev.imd.dues + 1) * proofPeriod) ∧ t.dev.get pgIMD IMD.PROOF_STAT.DEFER = 1 ∧ t.mem = s.mem) ∧
    (s.dev.tim.cycleDue = true → s.dev.imd.late = false → 0 < s.dev.imd.waiting → proofLanes s.dev = true → s.dev.get pgIMD IMD.PROOF_STAT.NEXT = k.val →
      (proofQuiet s.dev = true → ∃ t, exec .proofStart s = .next t ∧ laneSt t.dev k.val = .proof ∧
        t.dev.imd.waiting = s.dev.imd.waiting - 1 ∧ t.dev.get pgIMD IMD.PROOF_STAT.ACTIVE = 1 ∧
        t.dev.get pgIMD IMD.PROOF_STAT.NEXT = (k.val + 1) % 3 ∧ t.dev.raised pgIMD Ev.IMD.PROOFST = true ∧ t.mem = s.mem) ∧
      (proofQuiet s.dev = false → s.dev.imd.dueAt + msMot (60000 * s.dev.get pgIMD IMD.PROOF_CFG.DEFMAX) ≤ s.dev.tim.mot →
        ∃ t, exec .prooflate s = .next t ∧ laneSt t.dev k.val = .proof ∧ t.dev.raised pgIMD Ev.IMD.PROOFLATE = true ∧
          t.dev.get pgFLT FLT.INFO.ENTRY = entryVal 0 pgIMD 0xFF Cz.IMD.PROOFLATE.code ∧ t.mem = s.mem)) ∧
    (((List.range 3).find? fun i => laneSt s.dev i == .proof) = some k.val →
      (∃ t, exec (.bistEnd true t10) s = .next t ∧ laneSt t.dev k.val = .resync ∧ t.dev.imd.afterProof = true ∧
        bit (t.dev.get pgIMD IMD.PROOF_STAT.PASS) k.val = true ∧ t.dev.get pgIMD IMD.PROOF_T.BISTT = t10.toNat ∧ t.mem = s.mem) ∧
      (∃ t, exec (.bistEnd false t10) s = .next t ∧ laneSt t.dev k.val = .out ∧ t.dev.get pgIMD IMD.PROOF_STAT.ACTIVE = 0 ∧ t.mem = s.mem))

/-- The Service pair (R357 to R362). A fault of the pair in lockstep stops both cores, ends the Neltan sessions, counts, and its condition stands on SVC;
the watchdog does so when its time has passed without a kick; a restart done runs both again and clears SVC's conditions. A kick by the core restarts
the watchdog's time, and one by the host does not. In the variant without the network, `DTSET_CTRL.SET` arms the value of DTSET. Debug and replay
(R363 to R366), in BLANK and DEVELOP. A halt of the triplet outside a proof stands and is reported; of the Service pair likewise. A write of the
debugger to a general register of the halted C0 is applied there and logged while the log has room; a resume applies the log to the other lanes and
empties it. -/
def Obligations.ServicePairAndDebug : Prop :=
  (∀ (s : State) (core : Fin 2) (p0 p1 : LanePres), s.dev.alive = true →
    (splitMode s.dev = false → s.dev.svc.up0 = true →
      (p0 ≠ p1 → ∃ t, exec (.servicePairFault (.mismatch p0 p1) core) s = .next t ∧ t.dev.svc.up0 = false ∧ t.dev.svc.up1 = false ∧
        t.dev.net.nel.sess = [] ∧ t.dev.raised pgSVC Ev.SVC.RESTART = true ∧ t.dev.get pgSVC SVC.SVC_STAT.LASTCAUSE = Cz.SVC.SPMIS.code ∧
        t.dev.hasC2 pgSVC = true ∧ t.mem = s.mem) ∧
      (s.dev.on pgSVC SVC.SVC_WDOG.EN0 = true → s.dev.svc.halted = false →
        s.dev.svc.kick0 + msMot (s.dev.get pgSVC SVC.SVC_WDOG.TIMEOUT) ≤ s.dev.tim.mot →
        ∃ t, exec (.serviceWatchdog 0) s = .next t ∧ t.dev.svc.up0 = false ∧ t.dev.raised pgSVC Ev.SVC.WDOG = true ∧
          t.dev.get pgSVC SVC.SVC_STAT.LASTCAUSE = Cz.SVC.SVCWDOG.code ∧ t.mem = s.mem)) ∧
    (s.dev.svc.up0 = false → s.dev.imd.held = false → ∃ t, exec .servicePairRestartDone s = .next t ∧ t.dev.svc.up0 = true ∧ t.dev.svc.up1 = true ∧
      t.dev.hasC2 pgSVC = false ∧ t.dev.svc.kick0 = s.dev.tim.mot ∧ t.mem = s.mem) ∧
    (s.dev.svc.up0 = true → s.dev.svc.halted = false → s.dev.boot.hold = false → s.dev.otp.lc ≠ 3 →
      ∃ t, exec (.svcKick .svc0 1) s = .next t ∧ t.dev.svc.kick0 = s.dev.tim.mot ∧ t.dev.svc.kick1 = s.dev.svc.kick1 ∧ t.dev.act = s.dev.act ∧ t.mem = s.mem) ∧
    (s.dev.hostActs = true →
      (∃ t, exec (.svcKick .host 1) s = .next t ∧ t.dev.svc = s.dev.svc ∧ t.mem = s.mem) ∧
      (s.dev.part.hasNet = false → ∃ t, exec (.dtsetCtrlSet .host) s = .next t ∧
        t.dev.svc.dtArm = some (s.dev.get pgSVC SVC.DTSET_LO.DT_LO + 4294967296 * s.dev.get pgSVC SVC.DTSET_HI.DT_HI) ∧ t.mem = s.mem) ∧
      (s.dev.part.hasNet = true → ∃ t, exec (.dtsetCtrlSet .host) s = .next t ∧ t.dev.svc = s.dev.svc ∧
        t.dev.raised pgSYS Ev.SYS.WLOCK = true ∧ t.mem = s.mem))) ∧
  (∀ (s : State) (r : Fin 32) (v n : W32) (step : Bool), s.dev.alive = true →
    (openLife s.dev = true → s.dev.imd.halted = false →
      (proofRuns s.dev = false → ∃ t, exec .tripletDebugHalt s = .next t ∧ t.dev.imd.halted = true ∧
        t.dev.get pgIMD IMD.DBG.HALTED = 1 ∧ t.dev.raised pgIMD Ev.IMD.DBGHALT = true ∧ t.mem = s.mem) ∧
      (proofRuns s.dev = true → ∃ t, exec .tripletDebugHalt s = .next t ∧ t.dev.imd.halted = false ∧ t.dev.imd.haltReq = true ∧ t.dev.act = s.dev.act)) ∧
    (openLife s.dev = true → s.dev.svc.halted = false → s.dev.svc.up0 = true →
      ∃ t, exec .serviceDebugHalt s = .next t ∧ t.dev.svc.halted = true ∧ t.dev.get pgSVC SVC.SVC_DBG.HALTED = 1 ∧
        t.dev.raised pgSVC Ev.SVC.DBGHALT = true ∧ t.mem = s.mem) ∧
    (s.dev.imd.halted = true →
      (s.dev.imd.replay.length < 256 → ∃ t, exec (.debuggerWrite false (.general r) v) s = .next t ∧
        vget (vget t.dev.imd.core 0 {}).g r.val 0 = v.toNat ∧ t.dev.imd.replay.length = s.dev.imd.replay.length + 1 ∧
        vget t.dev.imd.core 1 {} = vget s.dev.imd.core 1 {} ∧ t.mem = s.mem) ∧
      (256 ≤ s.dev.imd.replay.length → ∃ t, exec (.debuggerWrite false (.general r) v) s = .next t ∧ t.dev.imd = s.dev.imd ∧
        t.dev.get pgIMD IMD.DBG.FULL = 1) ∧
      (∃ t, exec (.debugResume false n step) s = .next t ∧ t.dev.imd.halted = step ∧ t.dev.imd.replay = [] ∧
        (vget t.dev.imd.core 2 {}).retire = (vget s.dev.imd.core 2 {}).retire + n.toNat ∧
        t.dev.get pgIMD IMD.DBG.REPLAY = 0 ∧ t.mem = s.mem)) ∧
    (s.dev.imd.halted = false → exec (.debuggerWrite false (.general r) v) s = .next s))

/-- The fault manager (R370 to R379, R381). A report of class C1 that finds room stands as an entry; one of class C0 goes to the information log alone;
one of class C3 halts the device and `HALT_CAUSE` takes it; one of class C2 on a page of the device or of the leaf bus makes its condition stand
there. An acknowledgement of the head's value completes it and the first queued entry becomes the head; any other value raises ACKMIS and changes no
entry. The scrubber (R41, R43, R193, R340, R341, R510). A pass without findings changes nothing. A corrected error of a lane's array is counted and
noted; the third of one word within an hour is a fault of class C1. An uncorrectable error halts the device where it lies in the forme store or the
galley, takes its entry out of the record queue, gives the kerning profile up, or is a fault of the lane or of the Service pair. -/
def Obligations.FaultsAndScrubbing : Prop :=
  (∀ (s : State) (pg inst : BitVec 8) (c : BitVec 12) (v : W32), s.dev.alive = true →
    (s.dev.queueRoom = true → ∃ t, exec (.faultReport [⟨pg, c, 1, inst⟩]) s = .next t ∧
      t.dev.standing (entryVal 1 pg.toNat inst.toNat c.toNat) = true ∧ t.dev.c2 = s.dev.c2 ∧ t.dev.leaf = s.dev.leaf ∧ t.mem = s.mem) ∧
    (∃ t, exec (.faultReport [⟨pg, c, 0, inst⟩]) s = .next t ∧ t.dev.get pgFLT FLT.INFO.ENTRY = entryVal 0 pg.toNat inst.toNat c.toNat ∧
      t.dev.flt = s.dev.flt ∧ t.dev.raised pgFLT Ev.FLT.INFO = true ∧ t.mem = s.mem) ∧
    (s.dev.flt.halt = false → ∃ t, exec (.faultReport [⟨pg, c, 3, inst⟩]) s = .next t ∧ t.dev.safeHalted = true ∧
      t.dev.flt.haltCause = entryVal 3 pg.toNat inst.toNat c.toNat ∧ t.dev.raised pgFLT Ev.FLT.HALT = true ∧ t.mem = s.mem) ∧
    (pg.toNat ∈ [pgSAFE, pgPLT, pgSVC, pgIMPO, pgCAN 0, pgCAN 1, pgCAN 2] → ∃ t, exec (.faultReport [⟨pg, c, 2, inst⟩]) s = .next t ∧ t.dev.hasC2 pg.toNat = true) ∧
    (s.dev.hostActs = true →
      (∀ h ∈ s.dev.flt.head, h.val = v.toNat → ∃ t, exec (.fltAck .host v) s = .next t ∧
        t.dev.flt.head = s.dev.flt.queue.head? ∧ t.dev.flt.queue = s.dev.flt.queue.tail ∧ t.dev.act = s.dev.act ∧ t.mem = s.mem) ∧
      ((∀ h ∈ s.dev.flt.head, h.val ≠ v.toNat) → ∃ t, exec (.fltAck .host v) s = .next t ∧
        t.dev.flt = s.dev.flt ∧ t.dev.raised pgFLT Ev.FLT.ACKMIS = true ∧ t.mem = s.mem))) ∧
  (∀ (s : State) (w : W32) (n : LeafNo) (k : Fin 3), s.dev.alive = true → s.clean →
    exec (.scrub []) s = .next s ∧
    (s.dev.tim.eccHist = [] → ∃ t, exec (.scrub [⟨.lane k, w, false⟩]) s = .next t ∧ t.dev.flt = s.dev.flt ∧ t.dev.raised pgFLT Ev.FLT.INFO = true ∧
      t.dev.raised pgIMD Ev.IMD.ECCCOR = true ∧ t.dev.tim.eccHist.length = 1 ∧ t.mem = s.mem) ∧
    (s.dev.flt.halt = false → ∃ t, exec (.scrub [⟨.forme, w, true⟩]) s = .next t ∧ t.dev.safeHalted = true ∧ t.mem = s.mem) ∧
    (s.dev.flt.halt = false → ∃ t, exec (.scrub [⟨.galley, w, true⟩]) s = .next t ∧ t.dev.safeHalted = true ∧ t.mem = s.mem) ∧
    (∃ t, exec (.scrub [⟨.record, w, true⟩]) s = .next t ∧ (∀ q ∈ t.dev.rec_.queue, q ∈ s.dev.rec_.queue ∧ ¬ (slugPlace q.slot ≤ w.toNat ∧ w.toNat < slugPlace q.slot + 64)) ∧
      (s.dev.queueRoom = true → t.dev.entryOf pgREC Cz.REC.RBECC 0xFF = true) ∧ t.mem = s.mem) ∧
    (s.dev.part.hasLeaf n.val = true → ∃ t, exec (.scrub [⟨.kerning n, w, true⟩]) s = .next t ∧ t.dev.get (pgOBS n.val) (OBS.KTO.FRIC.at 255) = 0xFFFF ∧
      (t.dev.seq n.val).fault.isSome = true ∧ t.mem = s.mem) ∧
    (runLanes s.dev = [0, 1, 2] → laneCnt s.dev k.val = 0 → s.dev.queueRoom = true → ∃ t, exec (.scrub [⟨.lane k, w, true⟩]) s = .next t ∧
      laneSt t.dev k.val = .resync ∧ t.dev.entryOf pgIMD Cz.IMD.LANEECC k.val = true ∧ t.mem = s.mem) ∧
    (splitMode s.dev = false → s.dev.svc.up0 = true → ∃ t, exec (.scrub [⟨.service, w, true⟩]) s = .next t ∧ t.dev.svc.up0 = false ∧
      t.dev.raised pgSVC Ev.SVC.RESTART = true ∧ t.mem = s.mem))

/-!  -/

/-- Resets of the core (R382, R551, R558, R570, R571): PORST_N, a lost supply, a quiet reset, an automatic reset and the supervisor's reset leave the core
after reset with `SYS.RSTCAUSE` naming the source, the fuses and the Platen die as they were. The automatic reset and the supervisor's are counted;
after three within an hour neither comes: the automatic one is withheld for good, as it is after the causes that want none, and the supervisor's place
takes boot hold. -/
def Obligations.CoreResets : Prop :=
  ∀ (s : State) (which : Fin 5),
    (∃ t, exec .porstN s = .next t ∧ t.afterReset = true ∧ KeptOverReset s t ∧ t.dev.keep = s.dev.keep ∧ t.dev.get pgSYS SYS.RSTCAUSE.POR = 1 ∧
      t.dev.get pgSYS SYS.RSTCAUSE.HALT = b2n s.dev.flt.halt ∧ t.dev.tap.porst = true) ∧
    (∃ t, exec (.supplyLoss which) s = .next t ∧ t.afterReset = true ∧ KeptOverReset s t ∧ t.dev.keep = s.dev.keep ∧ t.dev.get pgSYS SYS.RSTCAUSE.POR = 1 ∧
      t.dev.readyLand = false) ∧
    (s.dev.alive = true → s.dev.tim.cycleDue = true → s.dev.boot.rstPend = true → s.dev.tim.grid = true → quiet s.dev = true →
      ∃ t, exec .quietReset s = .next t ∧ t.afterReset = true ∧ KeptOverReset s t ∧ t.dev.keep = s.dev.keep ∧
        t.dev.get pgSYS SYS.RSTCAUSE.HOST = b2n s.dev.boot.rstHost ∧ t.dev.get pgSYS SYS.RSTCAUSE.POR = 0) ∧
    (s.dev.boot.rstPend = false → exec .quietReset s = .next s) ∧
    (s.dev.autoDue = true →
      ((s.dev.within s.dev.keep.autos).length < 3 → noAutoReset s.dev.flt.haltCause = false → ∃ t, exec .automaticReset s = .next t ∧ t.afterReset = true ∧ KeptOverReset s t ∧
        t.dev.keep.autos = s.dev.keep.secs :: s.dev.within s.dev.keep.autos ∧ t.dev.get pgSYS SYS.RSTCAUSE.HALT = 1) ∧
      (3 ≤ (s.dev.within s.dev.keep.autos).length ∨ noAutoReset s.dev.flt.haltCause = true →
        ∃ t, exec .automaticReset s = .next t ∧ t = s.onDev (fun d => { d with flt := { d.flt with withheld := true } }))) ∧
    (s.dev.autoDue = false → exec .automaticReset s = .next s) ∧
    (s.dev.bootLate = true →
      ((s.dev.within s.dev.keep.sups).length < 3 → ∃ t, exec .startUpSupervisor s = .next t ∧ t.afterReset = true ∧ KeptOverReset s t ∧
        t.dev.keep.sups = s.dev.keep.secs :: s.dev.within s.dev.keep.sups ∧ t.dev.get pgSYS SYS.RSTCAUSE.WDOG = 1) ∧
      (3 ≤ (s.dev.within s.dev.keep.sups).length → ∃ t, exec .startUpSupervisor s = .next t ∧ t.dev.boot.hold = true ∧ t.dev.keep = s.dev.keep ∧
        t.mem = s.mem ∧ (s.dev.flt.halt = false → t.dev.flt.haltCause = entryVal 3 pgSEC 0xFF Cz.SEC.BOOTTO.code ∧ t.dev.safeHalted = true))) ∧
    (s.dev.bootLate = false → exec .startUpSupervisor s = .next s)

/-- Supplies and clocks (R30, R31, R40, R570, R574). VIO1 low takes the links of both ports down and resets nothing; the keep-alive domain loses its
content, or counts a second; loss of lock stops the derived clocks and halts the device; a PLTCLK outside its window halts it, one inside is reported
nowhere. The test access port (R586). Every instruction is accepted; EXTEST, CLAMP and HIGHZ only in reset by PORST_N in BLANK or DEVELOP, else BYPASS
is loaded in their place. -/
def Obligations.SuppliesAndTestAccess : Prop :=
  (∀ (s : State) (khz : W16),
    (s.dev.part.hasNet = true → ∃ t, exec .vio1Loss s = .next t ∧ t.dev.net.eth.vio1 = false ∧ t.dev.get pgETH ETH.PORTSTAT.P1LINK = 0 ∧
      t.dev.get pgETH ETH.PORTSTAT.P2LINK = 0 ∧ t.dev.boot = s.dev.boot ∧ t.mem = s.mem) ∧
    (s.dev.part.hasNet = false → exec .vio1Loss s = .next s) ∧
    (∃ t, exec .keepAliveLoss s = .next t ∧ t = s.onDev (fun d => { d with keep := { secs := 0, lost := true, autos := [], sups := [] } })) ∧
    (∃ t, exec .keepAliveSecond s = .next t ∧ t.dev.keep.secs = s.dev.keep.secs + 1 ∧ t.dev.keep.autos = s.dev.keep.autos ∧ t.dev.act = s.dev.act) ∧
    (s.dev.alive = true →
      (∃ t, exec .pllLoss s = .next t ∧ t.dev.alive = false ∧ t.dev.get pgCLK CLK.STAT.BKACT = 1 ∧ t.dev.get pgCLK CLK.STAT.PLL_LOCK = 0 ∧ t.mem = s.mem ∧
        (s.dev.flt.halt = false → t.dev.flt.haltCause = entryVal 3 pgCLK 0xFF Cz.CLK.PLLLOSS.code ∧ t.dev.safeHalted = true)) ∧
      (14400 ≤ khz.toNat → khz.toNat ≤ 17600 → ∃ t, exec (.pltclkOutOfWindow khz) s = .next t ∧ t.dev.get pgCLK CLK.PLTFREQ.KHZ = khz.toNat ∧
        t.dev.flt = s.dev.flt ∧ t.dev.get pgCLK CLK.STAT.PLT_OK = s.dev.get pgCLK CLK.STAT.PLT_OK) ∧
      (khz.toNat < 14400 ∨ 17600 < khz.toNat → ∃ t, exec (.pltclkOutOfWindow khz) s = .next t ∧ t.dev.get pgCLK CLK.STAT.PLT_OK = 0 ∧
        t.dev.raised pgCLK Ev.CLK.PLTRANGE = true ∧ t.mem = s.mem ∧
        (s.dev.flt.halt = false → t.dev.flt.haltCause = entryVal 3 pgCLK 0xFF Cz.CLK.PLTCLK.code ∧ t.dev.safeHalted = true)))) ∧
  (∀ (s : State) (cells : List Byte),
    (∃ t, exec .tapBypass s = .next t ∧ t.dev.tap.ir = 0 ∧ t.dev.act = s.dev.act) ∧
    (∃ t, exec .tapIdcode s = .next t ∧ t.dev.tap.ir = 1 ∧ t.dev.tap.dr % 4096 = 2 * 0x5A7 + 1 ∧ t.dev.tap.dr / 4096 % 65536 = 0x08D0 ∧ t.dev.act = s.dev.act) ∧
    (∃ t, exec (.tapSamplePreload cells) s = .next t ∧ t.dev.tap.ir = 2 ∧ t.dev.tap.cells = cells.map BitVec.toNat ∧ t.dev.act = s.dev.act) ∧
    (s.dev.tap.porst = true → s.dev.otp.lc ≤ 1 →
      (∃ t, exec .tapExtest s = .next t ∧ t.dev.tap.ir = 3 ∧ t.dev.tap.cells = s.dev.tap.cells) ∧
      (∃ t, exec .tapClamp s = .next t ∧ t.dev.tap.ir = 4 ∧ t.dev.tap.cells = s.dev.tap.cells) ∧
      (∃ t, exec .tapHighz s = .next t ∧ t.dev.tap.ir = 5 ∧ t.dev.tap.cells = s.dev.tap.cells)) ∧
    (s.dev.tap.porst = false ∨ 1 < s.dev.otp.lc →
      exec .tapExtest s = exec .tapBypass s ∧ exec .tapClamp s = exec .tapBypass s ∧ exec .tapHighz s = exec .tapBypass s))

/-- Start-up (R29, R355, R542, R546, R551). It acts once after each reset. Without lock it ends in boot hold with cause PLLLOSS, with a proof step whose
flags are not the expected ones with cause PPASS and the steps before it passed; a RETIRED part starts nothing and erases its Neltan keys. With blank
headers, both scans of the seal word alike, each fitting its strobes, and its conditions met, every step to the safety functions passes, and start-up
either reaches the forme start or stands in boot hold. READY (R550). When start-up has come to the forme, the first main task has ended, no page
starts and nothing is held or halted, the device is ready: `BOOT_STAT.READY` and the time since power-good are set, the event is raised and the proof
timetable begins. -/
def Obligations.StartUpAndReady : Prop :=
  (∀ (s : State) (i : Fin 11) (f : ProofFlags) (v : W16),
    (s.dev.boot.phase ≠ 0 → exec (.powerGood {}) s = .next s) ∧
    (s.dev.boot.phase = 0 → s.dev.tim.bk = false → s.dev.flt.halt = false →
      (∃ t, exec (.powerGood { pll := false }) s = .next t ∧ t.dev.boot.hold = true ∧ t.dev.boot.phase = 1 ∧ t.dev.boot.up = true ∧
        t.dev.flt.haltCause = entryVal 3 pgCLK 0xFF Cz.CLK.PLLLOSS.code ∧ t.dev.get pgCLK CLK.STAT.BKACT = 1 ∧ t.mem = s.mem) ∧
      (f ≠ proofExpected i.val → ∃ t, exec (.powerGood { proofSeen := [(i, f)] }) s = .next t ∧ t.dev.boot.hold = true ∧ t.dev.boot.phase = 2 ∧
        t.dev.flt.haltCause = entryVal 3 pgIMD i.val Cz.IMD.PPASS.code ∧ t.dev.get pgIMD IMD.PPASS.STEP = 2 ^ i.val - 1 ∧ t.mem = s.mem) ∧
      (s.dev.otp.lc = 3 → ∃ t, exec (.powerGood {}) s = .next t ∧ t.dev.boot.hold = true ∧ t.dev.boot.phase = 3 ∧ t.dev.safeHalted = true ∧
        t.dev.otp.keys = [none, none, none, none] ∧ t.mem = s.mem) ∧
      (s.dev.otp.lc ≠ 3 → hdrBlank s = true → v.toNat % 16 = 0 → v.toNat / 4096 = 0 → bit v.toNat 11 = false →
        ∃ t, exec (.powerGood { scan1 := ⟨v, v &&& 0x5555, v &&& 0xAAAA, 0⟩, scan2 := ⟨v, v &&& 0x5555, v &&& 0xAAAA, 0⟩ }) s = .next t ∧ t.dev.get pgIMD IMD.PPASS.PASS = 1 ∧ t.dev.boot.factory = true ∧
          (t.dev.boot.phase = 11 ∧ t.dev.boot.hold = true ∨ t.dev.boot.phase = 12)))) ∧
  (∀ (s : State), s.dev.alive = true → s.dev.boot.phase = 12 → s.dev.boot.ready = false → s.dev.boot.hold = false → s.dev.flt.halt = false →
    (s.dev.task .main).st = .ended ∨ s.dev.forme.everOut = true → (∀ pg ∈ allPages, ¬ (s.dev.enabled pg = true ∧ s.dev.pgState pg = 1)) →
    ∃ t, exec .ready s = .next t ∧ t.dev.boot.ready = true ∧ t.dev.get pgCFG CFG.BOOT_STAT.READY = 1 ∧ t.dev.get pgCFG CFG.BOOT_STAT.PHASE = 13 ∧
      t.dev.get pgCFG CFG.BOOT_T.READYT = min ((s.dev.tim.mot - s.dev.boot.pgMot) / 250000) 65535 ∧ t.dev.raised pgCFG Ev.CFG.READY = true ∧
      t.dev.imd.started = true ∧ t.dev.imd.startAt = s.dev.tim.mot ∧ t.mem = s.mem ∧ s.dev.otp.lc ≤ t.dev.otp.lc)

/-- The motion grid (R34, R35, R59, R387). The grid starts once, when the motion engines are enabled, and the forme runs from there. The first PWM period
start makes the first servo and the first program-cycle boundary due with both indices 0; each later one is 8,000 MOTCLK counts after the one before.
A boundary that is not due changes nothing; one that is due is taken, and with it the tasks fall due. -/
def Obligations.MotionGrid : Prop :=
  ∀ (s : State) (e : PwmEnv), s.dev.alive = true →
    (s.dev.tim.grid = false → s.dev.tim.enabled = true → ∃ t, exec .gridStart s = .next t ∧ t.dev.tim.grid = true ∧ t.dev.tim.started = false ∧
      t.dev.tim.valley = s.dev.tim.mot ∧ t.dev.forme.st = (if s.dev.forme.st = 1 then 2 else s.dev.forme.st) ∧ t.mem = s.mem) ∧
    (s.dev.tim.grid = true → exec .gridStart s = .next s) ∧
    (s.dev.tim.grid = true → s.dev.tim.started = false → ∃ t, exec (.pwmPeriodStart e) s = .next t ∧ t.dev.tim.started = true ∧ t.dev.tim.servoDue = true ∧
      t.dev.tim.cycleDue = true ∧ t.dev.get pgCLK CLK.GRID.PWM = 0 ∧ t.dev.get pgCLK CLK.GRID.SERVO = 0 ∧ t.dev.tim.mot = s.dev.tim.mot ∧ t.mem = s.mem) ∧
    (s.dev.tim.grid = true → s.dev.tim.started = true → s.dev.tim.mot ≤ s.dev.tim.valley + 8000 → ∃ t, exec (.pwmPeriodStart e) s = .next t ∧
      t.dev.tim.valley = s.dev.tim.valley + 8000 ∧ t.dev.tim.mot = t.dev.tim.valley ∧
      t.dev.get pgCLK CLK.GRID.PWM = (s.dev.get pgCLK CLK.GRID.PWM + 1) % 8 ∧ t.mem = s.mem) ∧
    (s.dev.tim.servoDue = false → exec .servoPeriodBoundary s = .next s) ∧
    (s.dev.tim.servoDue = true → ∃ t, exec .servoPeriodBoundary s = .next t ∧
      (s.dev.tim.cycleDue = false → t.dev.forme.msDue = !s.dev.forme.noMs) ∧ (s.dev.tim.cycleDue = true → t.dev.forme.bndMot = s.dev.tim.mot) ∧ t.dev.tim.servoDue = false ∧ t.dev.tim.mot = s.dev.tim.mot) ∧
    (s.dev.tim.cycleDue = false → exec .programCycleBoundary s = .next s) ∧
    (s.dev.tim.cycleDue = true → ∃ t, exec .programCycleBoundary s = .next t ∧ t.dev.forme.bndMot = s.dev.tim.mot ∧ t.dev.tim.cycled = true ∧
      t.dev.tim.cycleDue = false ∧ t.dev.boot.armed = false)

/-!  -/

/-- A register write by the host (R6, R7, R10, R12, R28, R41, R45, R50, R58). A narrow or unaligned write changes no register and raises BADACC; a page of
an absent unit raises NOUNIT; an address in no region raises BADACC with MEM; a write of the host to a safety page raises WLOCK; each shows in
`SYS.LASTREF`. On a page of the data plane the host writes `EV_EN`, and a 1 written to an event that did not occur in the same cycle clears it. -/
def Obligations.RegisterWrites : Prop :=
  ∀ (s : State) (p : BitVec 8) (w : Fin 1024) (v : W32), s.dev.hostActs = true →
    (unitOf p.toNat = none → ∃ t, exec (.registerWrite .host (BitVec.ofNat 32 (regAddr p.toNat (4 * w.val))) 4 v) s = .next t ∧
      t.dev.raised pgSYS Ev.SYS.NOUNIT = true ∧ t.dev.get pgSYS SYS.LASTREF.PAGE = p.toNat ∧ t.dev.get pgSYS SYS.LASTREF.WORD = w.val ∧
      t.dev.get pgSYS SYS.LASTREF.MEM = 0 ∧ t.mem = s.mem) ∧
    (∀ u ∈ unitOf p.toNat, s.dev.part.has u = true →
      (∃ t, exec (.registerWrite .host (BitVec.ofNat 32 (regAddr p.toNat (4 * w.val))) 2 v) s = .next t ∧ t.dev.raised pgSYS Ev.SYS.BADACC = true ∧
        t.dev.get pgSYS SYS.LASTREF.PAGE = p.toNat ∧ t.dev.get pgSYS SYS.LASTREF.WORD = w.val ∧ t.dev.stg = s.dev.stg ∧ t.mem = s.mem) ∧
      (u.safety = true → ∃ t, exec (.registerWrite .host (BitVec.ofNat 32 (regAddr p.toNat (4 * w.val))) 4 v) s = .next t ∧
        t.dev.raised pgSYS Ev.SYS.WLOCK = true ∧ t.dev.get pgSYS SYS.LASTREF.PAGE = p.toNat ∧ t.dev.stg = s.dev.stg ∧ t.mem = s.mem) ∧
      (u.plane = .data →
        (∃ t, exec (.registerWrite .host (BitVec.ofNat 32 (regAddr p.toNat 0x24)) 4 v) s = .next t ∧ t.dev.get p.toNat HDR.EV_EN = v.toNat ∧
          t.dev.get pgSYS HDR.EV_STAT = s.dev.get pgSYS HDR.EV_STAT ∧ t.dev.stg = s.dev.stg ∧ t.mem = s.mem) ∧
        (s.dev.evCycle p.toNat = 0 → ∃ t, exec (.registerWrite .host (BitVec.ofNat 32 (regAddr p.toNat 0x28)) 4 v) s = .next t ∧
          t.dev.get p.toNat HDR.EV_STAT = (2 ^ 32 - 1 - v.toNat) &&& s.dev.get p.toNat HDR.EV_STAT ∧ t.dev.stg = s.dev.stg ∧ t.mem = s.mem))) ∧
    (∃ t, exec (.registerWrite .host 0x3FFFFFF0#32 4 v) s = .next t ∧ t.dev.raised pgSYS Ev.SYS.BADACC = true ∧
      t.dev.get pgSYS SYS.LASTREF.MEM = 1 ∧ t.dev.get pgSYS SYS.LASTREF.WORD = 1020 ∧ t.mem = s.mem)

/-- A register read (R6, R10, R12, R39, R41, table "PG_ID"). The page's identity is read from offset 0; an absent page, a narrow read and an address in no
region read 0 with their event; reading `DT_LO` captures the upper half for the source, which `DT_HI` returns; the registers and the memories stay as
they are. The memories over the fabric (R18, R41, R360, table "Core-die address map"). The runtime writes the galley and reads back what it wrote; a
management source does not; a write of a core into the other half of the split service memory is refused with BADACC. -/
def Obligations.ReadsAndMemory : Prop :=
  (∀ (s : State) (p : BitVec 8), s.dev.hostActs = true →
    (∀ u ∈ unitOf p.toNat, s.dev.part.has u = true →
      (∃ t, exec (.registerRead .host (BitVec.ofNat 32 (regAddr p.toNat 0)) 4) s = .next t ∧
        t.dev.net.out.read = u.code.1 * 65536 + u.code.2 * 256 + p.toNat ∧ t.dev.act = s.dev.act ∧ t.dev.stg = s.dev.stg ∧ t.mem = s.mem) ∧
      (∃ t, exec (.registerRead .host (BitVec.ofNat 32 (regAddr p.toNat 0)) 1) s = .next t ∧ t.dev.net.out.read = 0 ∧
        t.dev.raised pgSYS Ev.SYS.BADACC = true ∧ t.mem = s.mem)) ∧
    (unitOf p.toNat = none → ∃ t, exec (.registerRead .host (BitVec.ofNat 32 (regAddr p.toNat 0)) 4) s = .next t ∧ t.dev.net.out.read = 0 ∧
      t.dev.raised pgSYS Ev.SYS.NOUNIT = true ∧ t.dev.get pgSYS SYS.LASTREF.PAGE = p.toNat ∧ t.mem = s.mem) ∧
    (∃ t, exec (.registerRead .host 0x60000000#32 4) s = .next t ∧ t.dev.net.out.read = 0 ∧ t.dev.raised pgSYS Ev.SYS.BADACC = true ∧
      t.dev.get pgSYS SYS.LASTREF.MEM = 1 ∧ t.mem = s.mem) ∧
    (s.dev.tim.hiCap.length = 7 → ∃ t, exec (.sysDtLoRead .host) s = .next t ∧ t.dev.net.out.read = s.dev.dt % 2 ^ 32 ∧ t.dev.act = s.dev.act ∧
      ∃ u, exec (.registerRead .host (BitVec.ofNat 32 (regAddr pgSYS 0x54)) 4) t = .next u ∧ u.dev.net.out.read = s.dev.dt / 2 ^ 32 % 2 ^ 32 ∧ u.dev.act = s.dev.act)) ∧
  (∀ (s : State) (a : BitVec 16) (v : W32), s.dev.runtimeActs = true →
    (∃ t, exec (.registerWrite .runtime (0x20000000#32 + a.zeroExtend 32) 4 v) s = .next t ∧ t.dev = s.dev ∧ t.mem = Memory.putL sramEmpty s.mem (0x20000000 + a.toNat) (leBytes 4 v.toNat) ∧
      ∃ u, exec (.registerRead .runtime (0x20000000#32 + a.zeroExtend 32) 4) t = .next u ∧ u.dev.net.out.read = v.toNat ∧ u.mem = t.mem) ∧
    exec (.registerWrite .host (0x20000000#32 + a.zeroExtend 32) 4 v) s = .next s ∧
    (splitMode s.dev = true → s.dev.svc.up0 = true → s.dev.svc.halted = false →
      ∃ t, exec (.registerWrite .svc0 (0x30200000#32 + a.zeroExtend 32) 4 v) s = .next t ∧ t.dev.raised pgSYS Ev.SYS.BADACC = true ∧
        t.dev.get pgSYS SYS.LASTREF.MEM = 1 ∧ t.mem = s.mem) ∧
    (∃ t, exec (.registerWrite .host (0x30000000#32 + a.zeroExtend 32) 4 v) s = .next t ∧ t.dev = s.dev ∧
      t.mem = Memory.putL sramEmpty s.mem (0x30000000 + a.toNat) (leBytes 4 v.toNat)))

/-- `CFG_CTRL` (R553, R555, R557, R558). A switch is armed when none is pending, the number differs, the seal nibble fits and the device is ready;
otherwise SWREF with its code. A reset request stands until CANCEL, which also withdraws an armed switch; CONFIRM after ready ends the trial.
Verification (R556). GO starts one where none runs and shows BUSY; its end shows DONE with the result and raises VERDONE. A verified impression of the
inactive slot is declared for the next switch; nothing is copied into a half in execution. -/
def Obligations.ConfigurationAndVerification : Prop :=
  (∀ (s : State), s.dev.hostActs = true →
    (s.dev.boot.armed = false → s.dev.boot.applying = false → s.dev.get pgCFG CFG.IMP_NEXT.IMPNUM ≠ s.dev.get pgCFG CFG.IMPRESSION.IMPNUM → declared s.dev = none →
      (s.dev.boot.ready = true → ∃ t, exec (.cfgCtrlSwitch .host) s = .next t ∧ t.dev.boot.armed = true ∧ t.dev.get pgCFG CFG.ISTAT.STATE = 1 ∧
        t.dev.get pgCFG HDR.EV_STAT = s.dev.get pgCFG HDR.EV_STAT ∧ t.mem = s.mem) ∧
      (s.dev.boot.ready = false → ∃ t, exec (.cfgCtrlSwitch .host) s = .next t ∧ t.dev.boot.armed = false ∧ t.dev.get pgCFG CFG.ISTAT.REFC = 4 ∧
        t.dev.raised pgCFG Ev.CFG.SWREF = true ∧ t.mem = s.mem)) ∧
    (s.dev.boot.armed = true → ∃ t, exec (.cfgCtrlSwitch .host) s = .next t ∧ t.dev.boot.armed = true ∧ t.dev.get pgCFG CFG.ISTAT.REFC = 1 ∧
      t.dev.raised pgCFG Ev.CFG.SWREF = true ∧ t.dev.get pgFLT FLT.INFO.ENTRY = entryVal 0 pgCFG 0xFF Cz.CFG.SWREF.code) ∧
    (∃ t, exec (.cfgCtrlRstreq .host) s = .next t ∧ t.dev.boot.rstPend = true ∧ t.dev.boot.rstHost = true ∧ t.dev.get pgCFG CFG.BOOT_STAT.RSTPEND = 1 ∧ t.mem = s.mem) ∧
    (∃ t, exec (.cfgCtrlCancel .host) s = .next t ∧ t.dev.boot.rstPend = false ∧ t.dev.boot.armed = false ∧ t.dev.get pgCFG CFG.BOOT_STAT.RSTPEND = 0 ∧
      t.dev.boot.applying = s.dev.boot.applying ∧ t.mem = s.mem) ∧
    (s.dev.boot.ready = true → s.dev.boot.factory = false → ∃ t, exec (.cfgCtrlConfirm .host) s = .next t ∧ t.dev.boot.sel.trial = 0 ∧ t.dev.boot.sel.tries = 0 ∧
      t.dev.boot.sel.sseq = s.dev.boot.sel.sseq + 1 ∧ t.dev.get pgCFG CFG.BOOT_STAT.TRIAL = 0 ∧ t.mem = s.mem) ∧
    (s.dev.boot.ready = false → ∃ t, exec (.cfgCtrlConfirm .host) s = .next t ∧ t.dev.boot = s.dev.boot ∧ t.xs0 = s.xs0)) ∧
  (∀ (s : State) (kind : Fin 8) (slot copy half : Bool), s.dev.hostActs = true →
    (s.dev.boot.ver = none → ∃ t, exec (.verCtrlGo .host kind slot copy half) s = .next t ∧ t.dev.boot.ver = some ⟨max 1 (min 6 kind.val), b2n slot, if copy then some (b2n half) else none⟩ ∧
      t.dev.get pgSEC SEC.VER_STAT.BUSY = 1 ∧ t.dev.get pgSEC SEC.VER_STAT.DONE = 0 ∧ t.mem = s.mem) ∧
    (s.dev.boot.ver = none → exec .verificationDone s = .next s) ∧
    (∀ j ∈ s.dev.boot.ver,
      (∃ t, exec .verificationDone s = .next t ∧ t.dev.boot.ver = none ∧ t.dev.get pgSEC SEC.VER_STAT.DONE = 1 ∧ t.dev.get pgSEC SEC.VER_STAT.BUSY = 0 ∧
        t.dev.raised pgSEC Ev.SEC.VERDONE = true) ∧
      ((slotCheck s j.kind j.slot).1 ≠ 0 → ∃ t, exec .verificationDone s = .next t ∧ t.dev.get pgSEC SEC.VER_STAT.RESULT = (slotCheck s j.kind j.slot).1 % 2 ^ SEC.VER_STAT.RESULT.w ∧
        t.mem = s.mem ∧ t.xs0 = s.xs0) ∧
      ((slotCheck s j.kind j.slot).1 = 0 → j.kind = 3 → (∃ h ∈ j.copy, halfRuns s.dev h = true) → ∃ t, exec .verificationDone s = .next t ∧
        t.dev.get pgSEC SEC.VER_STAT.RESULT = 7 ∧ t.mem = s.mem ∧ t.dev.boot.mark = s.dev.boot.mark) ∧
      ((slotCheck s j.kind j.slot).1 = 0 → j.kind = 4 → j.slot ≠ s.dev.get pgCFG CFG.BOOT_STAT.IMPSLOT → ∃ t, exec .verificationDone s = .next t ∧
        t.dev.boot.decl = some (impAt s j.slot) ∧ t.mem = s.mem ∧ t.xs0 = s.xs0)))

/-- Security requests (R536, R543 to R545). A policy that fails its check is reported and changes nothing, one that passes and is newer is in force; FWMIN
rises to the rollback epoch and never falls; the debug unlock stands when the ticket names this module under a PROD key; a Neltan key takes the slot's
next row through the host port alone. The settings memory (R531, R534). A management source programs bits to 0 and erases sectors, but for the sectors
the port refuses, with event XSREF; the runtime does neither. A code page that fails its CRC halts the device; one that passes is delivered and
changes nothing. The end of an operation of the 8D's own account completes it: the last part of a kerning save notes the version it holds. -/
def Obligations.SecurityAndSettings : Prop :=
  (∀ (s : State) (slot : Fin 4), s.dev.hostActs = true →
    ((policyAt s integBase).2 = none → ∃ t, exec (.secCtrlPolinst .host) s = .next t ∧ t.dev.raised pgSEC Ev.SEC.VERDONE = true ∧
      t.dev.get pgSEC SEC.VER_STAT.RESULT = (policyAt s integBase).1 % 2 ^ SEC.VER_STAT.RESULT.w ∧ t.dev.boot.polVer = s.dev.boot.polVer ∧ t.xs0 = s.xs0 ∧ t.mem = s.mem) ∧
    (∀ q ∈ (policyAt s integBase).2, s.dev.boot.polVer = none → s.dev.otp.integ = none → ∃ t, exec (.secCtrlPolinst .host) s = .next t ∧
      t.dev.get pgSEC SEC.VER_STAT.RESULT = 0 ∧ t.dev.boot.polVer = some q.ver ∧ t.dev.boot.polTarget = q.target ∧ t.mem = s.mem) ∧
    (∃ t, exec (.secCtrlRollfwd .host) s = .next t ∧ t.dev.otp.fwMin = max s.dev.otp.fwMin (min 32 (s.dev.boot.fwVer / 0x1000000)) ∧
      t.dev.otp.keys = s.dev.otp.keys ∧ t.dev.otp.lc = s.dev.otp.lc ∧ t.mem = s.mem) ∧
    ((slotCheck s 6 0).1 ≠ 0 → ∃ t, exec (.secCtrlUnlock .host) s = .next t ∧ t.dev.boot.unlocked = s.dev.boot.unlocked ∧ t.mem = s.mem) ∧
    (∀ c ∈ (slotCheck s 6 0).2, (slotCheck s 6 0).1 = 0 → (∃ k ∈ s.dev.boot.keys, k.slot = c.slot ∧ k.prod = true) → xs0W s ticketBase 8 = s.dev.part.uid →
      ∃ t, exec (.secCtrlUnlock .host) s = .next t ∧ t.dev.boot.unlocked = true ∧ t.dev.get pgSEC SEC.SEC_STAT.DBGUNL = 1 ∧ t.dev.raised pgSEC Ev.SEC.UNLOCK = true ∧ t.mem = s.mem) ∧
    (s.dev.otp.lc = 1 ∨ s.dev.otp.lc = 2 → nth s.dev.otp.rows slot.val 4 < 4 → slot.val < s.dev.otp.keys.length → slot.val < s.dev.otp.rows.length →
      ∃ t, exec (.nkeyctrlWr .host slot) s = .next t ∧
        nth t.dev.otp.keys slot.val none = some (ofLe (s.dev.boot.nkey.flatMap (leBytes 4))) ∧ nth t.dev.otp.rows slot.val 4 = nth s.dev.otp.rows slot.val 4 + 1 ∧
        t.dev.boot.nkey = [0, 0, 0, 0] ∧ t.dev.raised pgSEC Ev.SEC.NKEY = true ∧ t.mem = s.mem) ∧
    (s.dev.svc.up0 = true → s.dev.svc.halted = false → s.dev.boot.hold = false → ∃ t, exec (.nkeyctrlWr .svc0 slot) s = .next t ∧ t.dev.otp = s.dev.otp ∧
      t.dev.raised pgSYS Ev.SYS.WLOCK = true ∧ t.mem = s.mem)) ∧
  (∀ (s : State) (a page : W32) (data : List Byte) (n : LeafNo) (vhold : W16), s.dev.alive = true →
    (s.dev.otp.lc ≠ 3 →
      (xsRefuses s a.toNat data.length = false → ∃ t, exec (.settingsWrite .host a false data) s = .next t ∧
        t.xs0 = Memory.program s.xs0 a.toNat (data.map BitVec.toNat) ∧ t.dev = s.dev ∧ t.mem = s.mem ∧ t.xs1 = s.xs1) ∧
      (xsRefuses s (a.toNat / 65536 * 65536) 65536 = false → ∃ t, exec (.settingsWrite .host a true data) s = .next t ∧
        t.xs0 = Memory.erase (a.toNat / 65536 * 65536) 65536 s.xs0 ∧ t.dev = s.dev ∧ t.mem = s.mem ∧ t.xs1 = s.xs1) ∧
      (xsRefuses s a.toNat data.length = true → ∃ t, exec (.settingsWrite .host a false data) s = .next t ∧ t.dev.raised pgSEC Ev.SEC.XSREF = true ∧
        t.xs0 = s.xs0 ∧ t.mem = s.mem ∧ t.xs1 = s.xs1)) ∧
    exec (.settingsWrite .runtime a false data) s = .next s ∧
    (s.dev.boot.factory = false → 5 ≤ s.dev.boot.phase → s.dev.boot.hold = false → page.toNat < 2048 →
      let b := fwBase (s.dev.get pgCFG CFG.BOOT_STAT.FWSLOT) + 4096 * page.toNat
      (crc32c (xs0L s b 4092) = xs0W s (b + 4092) 4 → exec (.fwCodePageFetch page) s = .next s) ∧
      (crc32c (xs0L s b 4092) ≠ xs0W s (b + 4092) 4 → s.dev.flt.halt = false → ∃ t, exec (.fwCodePageFetch page) s = .next t ∧ t.dev.safeHalted = true ∧
        t.dev.flt.haltCause = entryVal 3 pgSEC 0xFF Cz.SEC.FWFETCH.code ∧ t.mem = s.mem ∧ t.xs0 = s.xs0)) ∧
    (s.dev.rec_.xop = none → exec (.settingsOperationComplete true vhold) s = .next s) ∧
    (s.dev.rec_.xop = some (.kern n.val 15) → n.val < s.dev.rec_.savedVer.length → ∃ t, exec (.settingsOperationComplete true vhold) s = .next t ∧
      nth t.dev.rec_.savedVer n.val none = some (slugGet s.dev.rec_.kernBuf 4 4) ∧ t.dev.rec_.kernNext = (s.dev.rec_.kernNext + 1) % 256 ∧ t.mem = s.mem) ∧
    (s.dev.rec_.xop = some .folio → s.dev.queueRoom = true → ∃ t, exec (.settingsOperationComplete false vhold) s = .next t ∧
      t.dev.rec_.folio.dirty = true ∧ t.dev.rec_.folio.at_ = s.dev.tim.mot ∧ t.dev.entryOf pgREC Cz.REC.FOLIOFAIL 0xFF = true ∧ t.mem = s.mem))

/-!  -/

/-- OPEN (R495, R496). While the window is served, a request whose tag verifies under its slot's key opens a session while fewer than four are open: a new
number, the derived key, no request yet; with four open it opens none. A failed tag is counted, and its transport is blocked at the sixteenth within
60 s. The ends of a session and of a block (R496): after 60 s without an accepted request, and 60 s after the sixteenth failure. READ, WRITE, STATUS
and CLOSE (R496, R497). A request with the session's next number and a good tag is executed once and answered; a repeat of the last gets the stored
response and executes nothing; any other number and any bad tag gets no response. -/
def Obligations.NeltanWindow : Prop :=
  (∀ (s : State) (r : NelReq), s.dev.nelServes = true →
    (∀ key ∈ nth s.dev.otp.keys ((r.data.map BitVec.toNat).headD 4) none,
      (nelBlocked s.dev r.trans.val = false → r.count = 5 → r.data.length = 5 → Config.aesCmac key (nelReqMsg 1 r) % 2 ^ 128 = r.tag.toNat →
        (s.dev.net.nel.sess.length < 4 → ∃ t, exec (.neltanOpen r) s = .next t ∧ t.dev.net.nel.sess.take s.dev.net.nel.sess.length = s.dev.net.nel.sess ∧
          t.dev.net.nel.sess.length = s.dev.net.nel.sess.length + 1 ∧
          (∃ x ∈ t.dev.net.nel.sess.getLast?, (∀ y ∈ s.dev.net.nel.sess, y.num ≠ x.num) ∧ x.num ≠ 0 ∧ x.seq = 0 ∧ x.trans = r.trans.val ∧ x.lastAt = s.dev.tim.mot) ∧ t.dev.act = s.dev.act ∧ t.mem = s.mem) ∧
        (4 ≤ s.dev.net.nel.sess.length → ∃ t, exec (.neltanOpen r) s = .next t ∧ t.dev.net.nel.sess = s.dev.net.nel.sess ∧ t.dev.act = s.dev.act ∧ t.mem = s.mem)) ∧
      (nelBlocked s.dev r.trans.val = false → Config.aesCmac key (nelReqMsg 1 r) % 2 ^ 128 ≠ r.tag.toNat → ∃ t, exec (.neltanOpen r) s = .next t ∧
        t = s.onDev (nelOpenFail r.trans.val) ∧ t.dev.net.nel.sess = s.dev.net.nel.sess ∧ t.dev.net.nel.resp = s.dev.net.nel.resp)) ∧
    ((s.dev.net.nel.fails.filter fun f => f.1 == r.trans.val && decide (s.dev.tim.mot < f.2 + nelMinute)).length = 15 → nth s.dev.otp.keys ((r.data.map BitVec.toNat).headD 4) none = none →
      ∃ t, exec (.neltanOpen r) s = .next t ∧ nelBlocked t.dev r.trans.val = true)) ∧
  (∀ (s : State) (num : W16) (tr : Fin 2), s.dev.alive = true →
    ((∀ x ∈ s.dev.net.nel.sess, x.num = num.toNat → x.lastAt + nelMinute ≤ s.dev.tim.mot) → ∃ t, exec (.neltanSessionTimeout num) s = .next t ∧
      (∀ x ∈ t.dev.net.nel.sess, x.num ≠ num.toNat) ∧ t.dev.act = s.dev.act ∧ t.mem = s.mem) ∧
    ((∀ x ∈ s.dev.net.nel.sess, x.num = num.toNat → s.dev.tim.mot < x.lastAt + nelMinute) → ∃ t, exec (.neltanSessionTimeout num) s = .next t ∧
      t.dev.net.nel.sess = s.dev.net.nel.sess) ∧
    (nelBlocked s.dev tr.val = false → ∃ t, exec (.neltanOpenBlockEnd tr) s = .next t ∧ (∀ b ∈ t.dev.net.nel.block, b.1 ≠ tr.val) ∧ t.dev.act = s.dev.act ∧ t.mem = s.mem) ∧
    (nelBlocked s.dev tr.val = true → ∃ t, exec (.neltanOpenBlockEnd tr) s = .next t ∧ nelBlocked t.dev tr.val = true)) ∧
  (∀ (s : State) (r : NelReq), s.dev.nelServes = true → ∀ x ∈ s.dev.sessOf r,
    (r.seq.toNat = (x.seq + 1) % 2 ^ 32 → r.seq.toNat ≠ x.seq →
      (x.tagged 2 r = true → r.count ≤ 64 → ∃ t, exec (.neltanRead r) s = .next t ∧ t.dev.net.nel.resp = nelAnswer x 2 0 r (readWords .neltan r.count r.addr.toNat s).2 ∧
        (∃ y ∈ t.dev.net.nel.sess, y.num = x.num ∧ y.seq = r.seq.toNat ∧ y.fails = 0 ∧ y.resp = t.dev.net.nel.resp)) ∧
      (x.tagged 3 r = true → r.count = r.data.length → r.count ≤ 64 → ∃ t, exec (.neltanWrite r) s = .next t ∧
        t.dev.act = (writeWords .neltan (r.data.map BitVec.toNat) 0 r.addr.toNat s).1.dev.act ∧ t.mem = (writeWords .neltan (r.data.map BitVec.toNat) 0 r.addr.toNat s).1.mem ∧
        t.dev.net.nel.resp = (match (writeWords .neltan (r.data.map BitVec.toNat) 0 r.addr.toNat s).2 with
          | none => nelAnswer x 3 0 r []
          | some i => nelAnswer x 3 1 r [i])) ∧
      (x.tagged 4 r = true → ∃ t, exec (.neltanStatus r) s = .next t ∧ t.dev.net.nel.resp = nelAnswer x 4 0 r ([x.fails, x.total] ++ s.dev.net.nel.sess.map (·.num)) ∧
        t.dev.act = s.dev.act ∧ t.mem = s.mem) ∧
      (x.tagged 5 r = true → ∃ t, exec (.neltanClose r) s = .next t ∧ t.dev.net.nel.resp = nelAnswer x 5 0 r [] ∧ (∀ y ∈ t.dev.net.nel.sess, y.num ≠ x.num) ∧
        t.dev.act = s.dev.act ∧ t.mem = s.mem)) ∧
    (r.seq.toNat = x.seq → r.tag.toNat = x.tag → x.resp ≠ [] → x.tagged 3 r = true → ∃ t, exec (.neltanWrite r) s = .next t ∧ t.dev.net.nel.resp = x.resp ∧
      t.dev.net.nel.sess = s.dev.net.nel.sess ∧ t.dev.act = s.dev.act ∧ t.dev.stg = s.dev.stg ∧ t.mem = s.mem) ∧
    (x.tagged 2 r = false → ∃ t, exec (.neltanRead r) s = .next t ∧ NelRefused s t x) ∧
    (r.seq.toNat ≠ x.seq → r.seq.toNat ≠ (x.seq + 1) % 2 ^ 32 → ∃ t, exec (.neltanClose r) s = .next t ∧ NelRefused s t x))

/-- The host port (R498, R499, R585). A read answers the status byte, the words and the CRC; a write whose CRC fits writes its words in turn and remembers
whether one was refused; a write with another CRC, and any frame too soon after a write, executes nothing and is reported as rejected. -/
def Obligations.HostPort : Prop :=
  ∀ (s : State) (a : W32) (n : Fin 64) (data : List W32) (crc : W16), s.dev.boot.up = true →
    (hpiSoon s.dev = true →
      (∃ t, exec (.hpiRead a n) s = .next t ∧ t.dev.net.hpi.rej = true ∧ (∀ b ∈ t.dev.net.hpi.resp, b = 0xFF) ∧ t.dev.act = s.dev.act ∧ t.mem = s.mem) ∧
      (∃ t, exec (.hpiWrite a n data crc) s = .next t ∧ t.dev.net.hpi.rej = true ∧ t.dev.act = s.dev.act ∧ t.dev.stg = s.dev.stg ∧ t.mem = s.mem)) ∧
    (hpiSoon s.dev = false →
      (∃ t, exec (.hpiRead a n) s = .next t ∧ t.dev.net.hpi.rej = false ∧
        let body := (b2n s.dev.net.hpi.exec + 2 * b2n s.dev.net.hpi.rej + 4 * b2n s.dev.net.hpi.ref + 128 * b2n s.dev.flt.halt) ::
          (readWords .host (n.val + 1) a.toNat s).2.flatMap (leBytes 4)
        t.dev.net.hpi.resp = body ++ [crc16 body / 256, crc16 body % 256] ∧ t.dev.act = (readWords .host (n.val + 1) a.toNat s).1.dev.act) ∧
      (data.length = n.val + 1 → crc16 (hpiFrame a.toNat (n.val + 1) (data.map BitVec.toNat)) = crc.toNat → ∃ t, exec (.hpiWrite a n data crc) s = .next t ∧
        t.dev.net.hpi.exec = true ∧ t.dev.net.hpi.rej = false ∧ t.dev.net.hpi.lastEnd = some s.dev.tim.mot ∧
        t.dev.net.hpi.ref = (writeWords .host (data.map BitVec.toNat) 0 a.toNat s).2.isSome ∧ t.dev.act = (writeWords .host (data.map BitVec.toNat) 0 a.toNat s).1.dev.act ∧
        t.mem = (writeWords .host (data.map BitVec.toNat) 0 a.toNat s).1.mem) ∧
      (crc16 (hpiFrame a.toNat (n.val + 1) (data.map BitVec.toNat)) ≠ crc.toNat → ∃ t, exec (.hpiWrite a n data crc) s = .next t ∧ t.dev.net.hpi.exec = false ∧
        t.dev.net.hpi.rej = true ∧ t.dev.act = s.dev.act ∧ t.dev.stg = s.dev.stg ∧ t.mem = s.mem))

/-!  -/

/-- A field die's states (R16, R17, R442, R444, R572). Below its reset voltage every output, TPO and gate of the die is off; it powers up with its inputs
inactive and its TPOs sourcing. Eight PWM periods without a frame put the die into its standalone state, gates off at once and the load switches at
their next tick; the core that hears nothing for as long reports FLDLOST and stops every leaf of the die. RELEASE after 100 ms of good link in both
directions ends both, with every output off. The limp-home input reaches every fitted die. The field link and the inputs (R14, R15, R416, R417, R446).
A good frame from the die brings its samples and its debounced inputs to the registers; what the die has to report comes with it; a good frame from
the core brings the die its commands; a frame with a bad CRC or number is discarded, counted and noted, and brings nothing. An input that has stood
for its debounce time changes in its die, and none that stood for less. -/
def Obligations.FieldDiesAndLink : Prop :=
  (∀ (s : State) (x : DieNo) (act : Bool), s.dev.dies.contains x.val = true →
    (∃ t, exec (.fieldDieReset x) s = .next t ∧ (t.dev.di x.val).alive = false ∧ (t.dev.di x.val).on = 0 ∧ (t.dev.dy x.val).tpoOn = 0 ∧ (t.dev.dy x.val).lkHs = 0 ∧
      (∀ l ∈ (t.dev.di x.val).ls, l.run = .off) ∧ (∀ a : AxisNo, a.val ∈ dieAxes x.val → s.dev.hasAxis a.val = true → (t.dev.drv a.val).cmp = {}) ∧ t.mem = s.mem) ∧
    ((s.dev.di x.val).alive = false → ∃ t, exec (.fieldDiePowerUp x) s = .next t ∧ (t.dev.di x.val).alive = true ∧ (t.dev.di x.val).deb = 0 ∧
      (t.dev.dy x.val).tpoOn = 15 ∧ (t.dev.di x.val).standalone = false ∧ t.dev.act = s.dev.act) ∧
    (dieRuns s.dev x.val = true → (s.dev.di x.val).standalone = false → 8 ≤ (s.dev.di x.val).dieLost →
      ∃ t, exec (.fieldLinkLossDie x) s = .next t ∧ (t.dev.di x.val).standalone = true ∧ (∀ c : Fin 6, c.val < (s.dev.di x.val).ls.length → bit (lsOf t.dev x.val c.val).pend 5 = true) ∧ (t.dev.dy x.val).lkHs = 0 ∧
        (∀ a : AxisNo, a.val ∈ dieAxes x.val → s.dev.hasAxis a.val = true → (t.dev.drv a.val).cmp = {}) ∧ t.mem = s.mem) ∧
    (s.dev.alive = true → 8 ≤ (s.dev.di x.val).lost → (s.dev.di x.val).lostRep = false → ∃ t, exec (.fieldLinkLossCore x) s = .next t ∧
      t.dev.get (pgFIO x.val) FIO.LINK.LOST = 1 ∧ (t.dev.di x.val).unrel = true ∧ t.dev.hasC2 (pgFIO x.val) = true ∧
      (s.dev.queueRoom = true → t.dev.entryOf (pgFIO x.val) Cz.FIO.FLDLOST 0xFF = true) ∧
      (∀ a : AxisNo, a.val ∈ dieAxes x.val → s.dev.hasAxis a.val = true → t.dev.faultEvent a.val = true) ∧ t.mem = s.mem) ∧
    (s.dev.hostActs = true → s.dev.imd.halted = false → s.dev.boot.hold = false → dieRuns s.dev x.val = true → (s.dev.di x.val).standalone = true →
      (∀ g ∈ (s.dev.di x.val).goodAt, ∀ h ∈ (s.dev.di x.val).dieGoodAt, g + msMot 100 ≤ s.dev.tim.mot → h + msMot 100 ≤ s.dev.tim.mot → ∃ t, exec (.fioCtrlRelease .runtimeSafe x) s = .next t ∧ (t.dev.di x.val).standalone = false ∧
        (t.dev.di x.val).unrel = false ∧ (t.dev.di x.val).on = 0 ∧ (∀ c : Fin 6, c.val < (s.dev.di x.val).ls.length → bit (lsOf t.dev x.val c.val).pend 5 = true) ∧ t.mem = s.mem) ∧
      ((s.dev.di x.val).goodAt = none ∨ (s.dev.di x.val).dieGoodAt = none → ∃ t, exec (.fioCtrlRelease .runtimeSafe x) s = .next t ∧ (t.dev.di x.val).standalone = true ∧ t.mem = s.mem)) ∧
    (∃ t, exec (.limpInput act) s = .next t ∧ (t.dev.di x.val).limpIn = act ∧ t.dev.act = s.dev.act ∧ t.mem = s.mem)) ∧
  (∀ (s : State) (x : DieNo) (i : FieldIn) (lv : Bool) (us : W32), s.dev.alive = true → dieRuns s.dev x.val = true →
    ((s.dev.di x.val).downSeq < 16 → (s.dev.di x.val).upSeq < 16 → (∀ e ∈ (s.dev.di x.val).coreExp, e = (s.dev.di x.val).upSeq) →
      ∃ t, exec (.fieldLinkFrame x { tx := 1 }) s = .next t ∧ t.dev.get (pgFIO x.val) FIO.IN_NOW.IN = (s.dev.di x.val).deb % 2 ^ 32 ∧
      t.dev.get (pgFIO x.val) FIO.LINK.LOST = 0 ∧ (t.dev.di x.val).lost = 0 ∧ (t.dev.di x.val).fresh = true ∧ (t.dev.di x.val).cfg = (s.dev.di x.val).cfg ∧
      t.dev.raised (pgFIO x.val) Ev.FIO.LINKERR = true ∧ t.mem = s.mem) ∧
    ((s.dev.di x.val).downSeq < 16 → (s.dev.di x.val).upSeq < 16 → (∀ e ∈ (s.dev.di x.val).dieExp, e = (s.dev.di x.val).downSeq) →
      (∃ e ∈ (s.dev.di x.val).coreExp, e ≠ (s.dev.di x.val).upSeq) → ∃ t, exec (.fieldLinkFrame x {}) s = .next t ∧ (t.dev.di x.val).cmd = dieCmdOf s.dev x.val ∧ (t.dev.di x.val).cfg = dieCfgOf s.dev x.val ∧
      (t.dev.di x.val).lost = (s.dev.di x.val).lost ∧ (t.dev.di x.val).samp = (s.dev.di x.val).samp ∧
      t.dev.get (pgFIO x.val) FIO.IN_NOW.IN = s.dev.get (pgFIO x.val) FIO.IN_NOW.IN ∧ t.dev.raised (pgFIO x.val) Ev.FIO.LINKERR = true ∧ t.mem = s.mem) ∧
    ((s.dev.di x.val).downSeq < 16 → (s.dev.di x.val).upSeq < 16 → (∀ e ∈ (s.dev.di x.val).dieExp, e = (s.dev.di x.val).downSeq) →
      (∀ e ∈ (s.dev.di x.val).coreExp, e = (s.dev.di x.val).upSeq) → ∃ t, exec (.fieldLinkFrame x {}) s = .next t ∧ (t.dev.di x.val).coreExp = some (s.dev.di x.val).upSeq ∧ (t.dev.di x.val).cmd = dieCmdOf s.dev x.val ∧ (t.dev.di x.val).lost = 0 ∧
      (t.dev.di x.val).tells = [] ∧ (∀ m ∈ (s.dev.di x.val).tells, (∀ e ∈ m.evs, e < 32 → t.dev.raised m.page e = true) ∧ (m.c2 = true → t.dev.hasC2 m.page = true)) ∧
      t.dev.get (pgFIO x.val) FIO.LINK.CRCERR = s.dev.get (pgFIO x.val) FIO.LINK.CRCERR ∧ t.mem = s.mem) ∧
    ((fieldInOf i).1 = x.val → siHeld s.dev (fieldInOf i).1 (fieldInOf i).2 = false → max 1 (nth (s.dev.di x.val).cfg.deb (fieldInOf i).2 1) ≤ us.toNat → ∃ t, exec (.fieldInputChange i ⟨lv, us⟩) s = .next t ∧
      bit (t.dev.di x.val).deb (fieldInOf i).2 = lv ∧ (∀ k : Fin 32, k.val ≠ (fieldInOf i).2 → bit (t.dev.di x.val).deb k.val = bit (s.dev.di x.val).deb k.val) ∧
      t.dev.act = s.dev.act ∧ t.mem = s.mem) ∧
    ((fieldInOf i).1 = x.val → (siHeld s.dev (fieldInOf i).1 (fieldInOf i).2 = true ∨ us.toNat < max 1 (nth (s.dev.di x.val).cfg.deb (fieldInOf i).2 1)) → exec (.fieldInputChange i ⟨lv, us⟩) s = .next s))

/-- High-side and test-pulse outputs (R305, R420, R426, R427). An overload latches its output off, and with its group, until it is cleared cool; a
readback that disagrees is reported once as DORB with the output on and as DOEXT with it off; an open load is reported once with the output on; each
report waits in its die for the next field-link frame. A TPO in overcurrent latches off until it is cleared; a dark pulse whose output stays high in
two periods running is a readback fault. -/
def Obligations.FieldOutputs : Prop :=
  ∀ (s : State) (x : DieNo) (c : Fin 8) (i : Fin 4), s.dev.hostActs = true → dieRuns s.dev x.val = true → s.dev.on (pgFIO x.val) FIO.LINK.LOST = false →
    (bit (s.dev.di x.val).on c.val = true →
      (∃ t, exec (.doOverload ⟨8 * x.val + c.val, by omega⟩ false) s = .next t ∧ bit (t.dev.di x.val).oc c.val = true ∧ bit (t.dev.di x.val).on c.val = false ∧
        (t.dev.di x.val).tells = (s.dev.di x.val).tells ++ [tellFault (pgFIO x.val) Cz.FIO.DOOC (8 * x.val + c.val) [Ev.FIO.DOFLT]] ∧ t.mem = s.mem) ∧
      (∃ t, exec (.doOverload ⟨8 * x.val + c.val, by omega⟩ true) s = .next t ∧ bit (t.dev.di x.val).th c.val = true ∧ bit (t.dev.di x.val).on c.val = false ∧
        (t.dev.di x.val).tells = (s.dev.di x.val).tells ++ [tellFault (pgFIO x.val) Cz.FIO.DOTH (8 * x.val + c.val) [Ev.FIO.DOFLT]] ∧ t.mem = s.mem) ∧
      (bit (s.dev.di x.val).openL c.val = false → ∃ t, exec (.doOpenLoad ⟨8 * x.val + c.val, by omega⟩) s = .next t ∧ bit (t.dev.di x.val).openL c.val = true ∧
        (t.dev.di x.val).tells = (s.dev.di x.val).tells ++ [tellFault (pgFIO x.val) Cz.FIO.DOOPEN (8 * x.val + c.val) []] ∧ t.mem = s.mem)) ∧
    (bit (s.dev.di x.val).rb c.val = false → ∃ t, exec (.doReadback ⟨8 * x.val + c.val, by omega⟩) s = .next t ∧ bit (t.dev.di x.val).rb c.val = true ∧
      (t.dev.di x.val).tells = (s.dev.di x.val).tells ++ [tellFault (pgFIO x.val) (if bit (s.dev.di x.val).on c.val then Cz.FIO.DORB else Cz.FIO.DOEXT) (8 * x.val + c.val) [Ev.FIO.DOFLT]] ∧ t.mem = s.mem) ∧
    (s.dev.imd.halted = false → s.dev.boot.hold = false →
      (∃ t, exec (.doClr .runtimeSafe x (BitVec.ofNat 8 (2 ^ c.val))) s = .next t ∧
        bit (t.dev.di x.val).oc c.val = (bit (s.dev.di x.val).oc c.val && !tjBelow (nth (s.dev.di x.val).samp.doTj c.val 250)) ∧
        (∀ k : Fin 8, k ≠ c → bit (t.dev.di x.val).oc k.val = bit (s.dev.di x.val).oc k.val) ∧ t.mem = s.mem) ∧
      (∃ t, exec (.tpoClr .runtimeSafe x (BitVec.ofNat 4 (2 ^ i.val))) s = .next t ∧ bit (t.dev.dy x.val).tpoSc i.val = false ∧
        (bit (s.dev.dy x.val).tpoSc i.val = true → bit (t.dev.dy x.val).tpoOn i.val = true) ∧ t.mem = s.mem)) ∧
    (bit (s.dev.dy x.val).tpoOn i.val = true → ∃ t, exec (.tpoOvercurrent ⟨4 * x.val + i.val, by omega⟩) s = .next t ∧ bit (t.dev.dy x.val).tpoSc i.val = true ∧
      bit (t.dev.dy x.val).tpoOn i.val = false ∧ (t.dev.di x.val).tells = (s.dev.di x.val).tells ++ [tellFault (pgFIO x.val) Cz.FIO.TPOSC (4 * x.val + i.val) [Ev.FIO.TPOFLT]] ∧ t.mem = s.mem) ∧
    (bit (s.dev.dy x.val).tpoDark i.val = true → darkUntil s.dev (4 * x.val + i.val) ≤ s.dev.tim.mot → bit (s.dev.dy x.val).tpoSc i.val = false →
      (∃ t, exec (.darkPulseEnd ⟨4 * x.val + i.val, by omega⟩ false) s = .next t ∧ bit (t.dev.dy x.val).tpoDark i.val = false ∧ bit (t.dev.dy x.val).tpoRb i.val = false ∧ t.mem = s.mem) ∧
      (i.val < (s.dev.dy x.val).tpoRbN.length → nth (s.dev.dy x.val).tpoRbN i.val 0 = 0 → ∃ t, exec (.darkPulseEnd ⟨4 * x.val + i.val, by omega⟩ true) s = .next t ∧ bit (t.dev.dy x.val).tpoDark i.val = false ∧
        bit (t.dev.dy x.val).tpoRb i.val = false ∧ nth (t.dev.dy x.val).tpoRbN i.val 0 = 1 ∧ t.mem = s.mem) ∧
      (nth (s.dev.dy x.val).tpoRbN i.val 0 = 1 → bit (s.dev.dy x.val).tpoRb i.val = false → ∃ t,
        exec (.darkPulseEnd ⟨4 * x.val + i.val, by omega⟩ true) s = .next t ∧ bit (t.dev.dy x.val).tpoRb i.val = true ∧
        (t.dev.di x.val).tells = (s.dev.di x.val).tells ++ [tellFault (pgFIO x.val) Cz.FIO.TPORB (4 * x.val + i.val) [Ev.FIO.TPOFLT]] ∧ t.mem = s.mem))

/-- Load switches (R428 to R434). A channel changes at a switch tick alone: the tick turns a wanted channel on into its inrush time, after which it is ON;
a short or an overcurrent found before a tick trips it there, after a thermal latch and a fuse trip, with a pause that doubles each time until the try
count latches it; the pause ends in a retry that falls due, and the retry turns it on again. Ten seconds without a trip forgive the tries. The wire's
heat and the chip's temperature latch it off, each until it is cleared cool at a tick. -/
def Obligations.LoadSwitches : Prop :=
  ∀ (s : State) (x : DieNo) (c : Fin 6) (ma : W16), dieRuns s.dev x.val = true → (s.dev.di x.val).ls.length = 6 → lsLead (s.dev.di x.val) c.val = c.val →
    let l := lsOf s.dev x.val c.val
    (lsWant (s.dev.di x.val) x.val c.val = true → l.latched = false → l.run = .off → l.pauseEnd = none → l.dueAt = none → l.pend = 0 → ∃ t, exec (.switchTick x) s = .next t ∧
      (lsOf t.dev x.val c.val).run = .inrush ∧ (lsOf t.dev x.val c.val).inrushEnd = s.dev.tim.mot + msMot (bitsOf (lsCfg (s.dev.di x.val) c.val) 0 8) ∧ t.mem = s.mem) ∧
    (lsWant (s.dev.di x.val) x.val c.val = false → ∃ t, exec (.switchTick x) s = .next t ∧ (lsOf t.dev x.val c.val).run = .off ∧ t.mem = s.mem) ∧
    (l.run = .inrush → l.inrushEnd ≤ s.dev.tim.mot → ∃ t, exec (.lsInrushEnd x c) s = .next t ∧ (lsOf t.dev x.val c.val).run = .on ∧
      (lsOf t.dev x.val c.val).sinceOn = s.dev.tim.mot ∧ t.dev.act = s.dev.act ∧ t.mem = s.mem) ∧
    (l.run = .on → ∃ t, exec (.lsOvercurrentTrip x c) s = .next t ∧ lsOf t.dev x.val c.val = { l with pend := setBit l.pend 2 true } ∧ t.dev.act = s.dev.act ∧ t.mem = s.mem) ∧
    (l.run ≠ .off → l.onAt + 50000 ≤ s.dev.tim.mot → s.dev.tim.mot < l.onAt + 75000 →
      ∃ t, exec (.lsHardShort x c) s = .next t ∧ lsOf t.dev x.val c.val = { l with pend := setBit l.pend 2 true } ∧ t.dev.act = s.dev.act ∧ t.mem = s.mem) ∧
    (l.run ≠ .off → l.pend = 4 →
      (l.tries + 1 < bitsOf (lsCfg (s.dev.di x.val) c.val) 8 4 → ∃ t, exec (.switchTick x) s = .next t ∧ (lsOf t.dev x.val c.val).run = .off ∧ (lsOf t.dev x.val c.val).tries = l.tries + 1 ∧
        (lsOf t.dev x.val c.val).pauseEnd = some (s.dev.tim.mot + min (msMot 10 * 2 ^ l.tries) (msMot 2560)) ∧ (lsOf t.dev x.val c.val).oc = l.oc ∧ t.mem = s.mem) ∧
      (bitsOf (lsCfg (s.dev.di x.val) c.val) 8 4 ≤ l.tries + 1 → ∃ t, exec (.switchTick x) s = .next t ∧ (lsOf t.dev x.val c.val).run = .off ∧
        (lsOf t.dev x.val c.val).oc = true ∧ (lsOf t.dev x.val c.val).pauseEnd = none ∧ t.mem = s.mem)) ∧
    (bit l.pend 3 = false → bit l.pend 4 = false →
      (bit l.pend 0 = true → l.th = false → ∃ t, exec (.switchTick x) s = .next t ∧ (lsOf t.dev x.val c.val).th = true ∧ (lsOf t.dev x.val c.val).run = .off ∧
        (lsOf t.dev x.val c.val).tries = l.tries ∧ (lsOf t.dev x.val c.val).fuse = l.fuse ∧ t.mem = s.mem) ∧
      (bit l.pend 0 = false → bit l.pend 1 = true → l.latched = false → ∃ t, exec (.switchTick x) s = .next t ∧ (lsOf t.dev x.val c.val).fuse = true ∧
        (lsOf t.dev x.val c.val).run = .off ∧ (lsOf t.dev x.val c.val).tries = l.tries ∧ t.mem = s.mem)) ∧
    (l.pend = 8 → ∃ t, exec (.switchTick x) s = .next t ∧ (lsOf t.dev x.val c.val).oc = false ∧
      (lsOf t.dev x.val c.val).fuse = (l.fuse && decide (8388608 < l.theta)) ∧ (lsOf t.dev x.val c.val).th = l.th ∧ t.mem = s.mem) ∧
    (l.pend = 16 → ∃ t, exec (.switchTick x) s = .next t ∧ (lsOf t.dev x.val c.val).oc = l.oc ∧
      (tjBelow (nth (s.dev.di x.val).samp.lsTj c.val 250) = true → lsLig (s.dev.di x.val) c.val = false → (lsOf t.dev x.val c.val).th = false) ∧
      (tjBelow (nth (s.dev.di x.val).samp.lsTj c.val 250) = false → (lsOf t.dev x.val c.val).th = l.th) ∧ t.mem = s.mem) ∧
    (l.th = false → (∀ p ∈ l.pauseEnd, p ≤ s.dev.tim.mot → ∃ t, exec (.lsPauseEnd x c) s = .next t ∧ (lsOf t.dev x.val c.val).pauseEnd = none ∧
      (lsOf t.dev x.val c.val).dueAt = (if lsWant (s.dev.di x.val) x.val c.val && !l.latched then some s.dev.tim.mot else none) ∧ t.dev.act = s.dev.act ∧ t.mem = s.mem)) ∧
    (∀ u ∈ l.dueAt, l.latched = false → lsWant (s.dev.di x.val) x.val c.val = true →
      (retryFree s.dev x.val c.val u = true → ∃ t, exec (.lsRetry x c) s = .next t ∧ (lsOf t.dev x.val c.val).run = .inrush ∧ (t.dev.di x.val).lastRetry = some s.dev.tim.mot ∧ t.mem = s.mem) ∧
      (retryFree s.dev x.val c.val u = false → exec (.lsRetry x c) s = .next s)) ∧
    (l.run = .on → l.th = false → l.sinceOn + msMot 10000 ≤ s.dev.tim.mot → ∃ t, exec (.lsTryReset x c) s = .next t ∧ (lsOf t.dev x.val c.val).tries = 0 ∧
      (lsOf t.dev x.val c.val).run = .on ∧ t.dev.act = s.dev.act ∧ t.mem = s.mem) ∧
    (bit (lsCfg (s.dev.di x.val) c.val) 20 = true → ∃ t, exec (.lsFuseUpdate x c ma) s = .next t ∧
      (lsOf t.dev x.val c.val).theta = fuseHeat (s.dev.di x.val) c.val ma.toNat l.theta ∧
      (121 * 16777216 ≤ 100 * fuseHeat (s.dev.di x.val) c.val ma.toNat l.theta → l.latched = false → bit (lsOf t.dev x.val c.val).pend 1 = true) ∧ t.mem = s.mem) ∧
    (l.th = false → ∃ t, exec (.lsThermalLatch x c) s = .next t ∧ lsOf t.dev x.val c.val = { l with pend := setBit l.pend 0 true } ∧ t.dev.act = s.dev.act ∧ t.mem = s.mem) ∧
    (s.dev.hostActs = true → s.dev.imd.halted = false → s.dev.boot.hold = false →
      (∃ t, exec (.lsClrClr .runtimeSafe x (BitVec.ofNat 6 (2 ^ c.val))) s = .next t ∧ lsOf t.dev x.val c.val = { l with pend := setBit l.pend 3 true } ∧ t.mem = s.mem) ∧
      (∃ t, exec (.lsClrClrth .runtimeSafe x (BitVec.ofNat 6 (2 ^ c.val))) s = .next t ∧ lsOf t.dev x.val c.val = { l with pend := setBit l.pend 4 true } ∧ t.mem = s.mem))

/-- Lock channels (R436, R437). After PULLT the high side goes over to holding; an overcurrent latches it off until it is cleared. Supply sag on VFLD
(R438 to R441). A level is set once VMIN has stood below its threshold for its time and cleared once it has stood 0.5 V above for 100 ms, with event
VLEVEL; LOW stops what moves, PF stops everything quickly and is a fault, and memory changes only where it begins the record's final commit; the
shedding level rises at once and falls one step at a time. -/
def Obligations.LocksAndSupply : Prop :=
  (∀ (s : State) (n : LeafNo), dieRuns s.dev (n.val / 4) = true →
    (bit (s.dev.dy (n.val / 4)).lkPull (n.val % 4) = true → nth (s.dev.dy (n.val / 4)).lkPullEnd (n.val % 4) 0 ≤ s.dev.tim.mot → ∃ t, exec (.lockPullInEnd n) s = .next t ∧
      bit (t.dev.dy (n.val / 4)).lkPull (n.val % 4) = false ∧ (t.dev.dy (n.val / 4)).lkHs = (s.dev.dy (n.val / 4)).lkHs ∧ t.dev.act = s.dev.act ∧ t.mem = s.mem) ∧
    (bit (s.dev.dy (n.val / 4)).lkHs (n.val % 4) = true → s.dev.alive = true → s.dev.on (pgFIO (n.val / 4)) FIO.LINK.LOST = false → ∃ t, exec (.lkoc n) s = .next t ∧
      bit (t.dev.dy (n.val / 4)).lkHs (n.val % 4) = false ∧ bit (t.dev.dy (n.val / 4)).lkOc (n.val % 4) = true ∧
      (t.dev.di (n.val / 4)).tells = (s.dev.di (n.val / 4)).tells ++ [tellFault (pgFIO (n.val / 4)) Cz.FIO.LKOC n.val [Ev.FIO.LKFLT]] ∧ t.mem = s.mem) ∧
    (s.dev.hostActs = true → s.dev.imd.halted = false → s.dev.boot.hold = false → s.dev.part.has (.fio (n.val / 4)) = true → ∃ t,
      exec (.lkClr .runtimeSafe ⟨n.val / 4, by omega⟩ (BitVec.ofNat 4 (2 ^ (n.val % 4)))) s = .next t ∧ bit (t.dev.dy (n.val / 4)).lkOc (n.val % 4) = false ∧
      (t.dev.dy (n.val / 4)).lkHs = (s.dev.dy (n.val / 4)).lkHs ∧ t.mem = s.mem)) ∧
  (∀ (s : State) (n : LeafNo) (v : W16), s.dev.alive = true →
    (s.dev.vfld.warn = false → vstood s.dev 0 (msMot 1) = true → ∃ t, exec .vfldWarnSet s = .next t ∧ t.dev.vfld.warn = true ∧ t.dev.vfld.warnAt = s.dev.tim.mot ∧
      t.dev.raised (pgFIO 0) Ev.FIO.VLEVEL = true ∧ t.dev.get (pgFIO 0) FIO.VFLD_STAT.WARN = 1 ∧ 1 ≤ t.dev.vfld.lvl ∧ t.mem = s.mem) ∧
    (s.dev.vfld.warn = true → vstood s.dev 1 (msMot 100) = true → ∃ t, exec .vfldWarnClear s = .next t ∧ t.dev.vfld.warn = false ∧ t.dev.raised (pgFIO 0) Ev.FIO.VLEVEL = true ∧
      t.dev.get (pgFIO 0) FIO.VFLD_STAT.WARN = 0 ∧ s.dev.vfld.lvl ≤ t.dev.vfld.lvl + 1 ∧ t.mem = s.mem) ∧
    (s.dev.vfld.low = false → vstood s.dev 2 (msMot 1) = true → ∃ t, exec .vfldLowSet s = .next t ∧ t.dev.vfld.low = true ∧ t.dev.raised (pgFIO 0) Ev.FIO.VLEVEL = true ∧
      3 ≤ t.dev.vfld.lvl ∧ (n.val ∈ s.dev.axes → (s.dev.prf n.val).sp.v ≠ 0 → 1 ≤ (t.dev.prf (stopTarget t.dev n.val 1)).stopReq ∨ 1 ≤ (t.dev.prf (stopTarget t.dev n.val 1)).stopKind) ∧ t.mem = s.mem) ∧
    (s.dev.vfld.low = true → vstood s.dev 3 (msMot 100) = true → ∃ t, exec .vfldLowClear s = .next t ∧ t.dev.vfld.low = false ∧ t.dev.raised (pgFIO 0) Ev.FIO.VLEVEL = true ∧ t.mem = s.mem) ∧
    (s.dev.vfld.pf = false → vstood s.dev 4 25000 = true → ∃ t, exec (.vfldPfSet v) s = .next t ∧ t.dev.vfld.pf = true ∧ t.dev.vfld.lvl = 4 ∧ t.dev.hasC2 (pgFIO 0) = true ∧
      (n.val ∈ s.dev.axes → 2 ≤ (t.dev.prf (stopTarget t.dev n.val 2)).stopReq ∨ (t.dev.prf (stopTarget t.dev n.val 2)).stopKind = 2) ∧
      (s.dev.enabled pgREC = false ∨ s.dev.on pgREC REC.REC_STAT.FC = true → t.mem = s.mem)) ∧
    (s.dev.vfld.pf = true → vstood s.dev 3 (msMot 100) = true → ∃ t, exec .vfldPfClear s = .next t ∧ t.dev.vfld.pf = false ∧ t.dev.raised (pgFIO 0) Ev.FIO.VLEVEL = true ∧ t.mem = s.mem) ∧
    (s.dev.vfld.lvl < shedWant s.dev → ∃ t, exec .shedStep s = .next t ∧ t.dev.vfld.lvl = shedWant s.dev ∧ t.mem = s.mem) ∧
    (shedWant s.dev < s.dev.vfld.lvl → s.dev.vfld.at_ + shedT s.dev ≤ s.dev.tim.mot → ∃ t, exec .shedStep s = .next t ∧ t.dev.vfld.lvl = s.dev.vfld.lvl - 1 ∧ t.mem = s.mem))

/-!  -/

/-- Integer ops of the forme (heading "Forme code", R405). On the two top entries of the executing task, ADD, SUB and MUL wrap in two's complement of TY,
DIV truncates toward zero where the quotient lies in TY and MOD takes the sign of the dividend; a divisor of 0 traps DIV0. NEG wraps, NOT inverts, ABS
takes the magnitude where TY holds it, AND, OR and XOR act bit by bit, SHL and SHR shift by a count below the width, and the comparisons push a BOOL. -/
def Obligations.FormeIntegerOps : Prop :=
  ∀ (s : State) (ty : Fin 16) (a b : Nat) (l : List Nat) (k : TaskId), s.dev.alive = true → s.clean → s.dev.current = some k → (s.dev.task k).stack = b :: a :: l → l.length < 62 →
    tyOk ty.val = true → tyFloat ty.val = false →
    ((∃ t, exec (.opAdd ty) s = .next t ∧ OpDone s t k 1 (tyWrap ty.val (tyInt ty.val a + tyInt ty.val b) :: l)) ∧
      (∃ t, exec (.opSub ty) s = .next t ∧ OpDone s t k 1 (tyWrap ty.val (tyInt ty.val a - tyInt ty.val b) :: l)) ∧
      (∃ t, exec (.opMul ty) s = .next t ∧ OpDone s t k 1 (tyWrap ty.val (tyInt ty.val a * tyInt ty.val b) :: l)) ∧
      (∃ t, exec (.opAnd ty) s = .next t ∧ OpDone s t k 1 ((a &&& b) % 2 ^ tyBits ty.val :: l)) ∧
      (∃ t, exec (.opOr ty) s = .next t ∧ OpDone s t k 1 ((a ||| b) % 2 ^ tyBits ty.val :: l)) ∧
      (∃ t, exec (.opXor ty) s = .next t ∧ OpDone s t k 1 ((a ^^^ b) % 2 ^ tyBits ty.val :: l)) ∧
      (∃ t, exec (.opEq ty) s = .next t ∧ OpDone s t k 1 (b2n (decide (tyInt ty.val a = tyInt ty.val b)) :: l)) ∧
      (∃ t, exec (.opNe ty) s = .next t ∧ OpDone s t k 1 (b2n (decide (tyInt ty.val a ≠ tyInt ty.val b)) :: l)) ∧
      (∃ t, exec (.opLt ty) s = .next t ∧ OpDone s t k 1 (b2n (decide (tyInt ty.val a < tyInt ty.val b)) :: l)) ∧
      (∃ t, exec (.opLe ty) s = .next t ∧ OpDone s t k 1 (b2n (decide (tyInt ty.val a ≤ tyInt ty.val b)) :: l)) ∧
      (∃ t, exec (.opGt ty) s = .next t ∧ OpDone s t k 1 (b2n (decide (tyInt ty.val b < tyInt ty.val a)) :: l)) ∧
      (∃ t, exec (.opGe ty) s = .next t ∧ OpDone s t k 1 (b2n (decide (tyInt ty.val b ≤ tyInt ty.val a)) :: l))) ∧
    (tyInt ty.val b ≠ 0 → (∃ t, exec (.opMod ty) s = .next t ∧ OpDone s t k 1 (tyWrap ty.val ((tyInt ty.val a).tmod (tyInt ty.val b)) :: l)) ∧
      (tyLo ty.val ≤ (tyInt ty.val a).tdiv (tyInt ty.val b) → (tyInt ty.val a).tdiv (tyInt ty.val b) ≤ tyHi ty.val →
        ∃ t, exec (.opDiv ty) s = .next t ∧ OpDone s t k 1 (tyWrap ty.val ((tyInt ty.val a).tdiv (tyInt ty.val b)) :: l))) ∧
    (tyInt ty.val b = 0 → (∃ t, exec (.opDiv ty) s = .next t ∧ OpTrapped s t k 1) ∧ (∃ t, exec (.opMod ty) s = .next t ∧ OpTrapped s t k 1)) ∧
    (ty.val ≠ 1 → b % 2 ^ tyBits ty.val < tyBits ty.val →
      (∃ t, exec (.opShl ty) s = .next t ∧ OpDone s t k 1 (a % 2 ^ tyBits ty.val * 2 ^ (b % 2 ^ tyBits ty.val) % 2 ^ tyBits ty.val :: l)) ∧
      (∃ t, exec (.opShr ty) s = .next t ∧ OpDone s t k 1 (uns (tyBits ty.val) (tyInt ty.val a / (2 ^ (b % 2 ^ tyBits ty.val) : Nat)) :: l))) ∧
    (∃ t, exec (.opNeg ty) s = .next t ∧ OpDone s t k 1 (tyWrap ty.val (-(tyInt ty.val b)) :: a :: l)) ∧
    ((tyInt ty.val b).natAbs ≤ tyHi ty.val → ∃ t, exec (.opAbs ty) s = .next t ∧ OpDone s t k 1 (tyWrap ty.val (tyInt ty.val b).natAbs :: a :: l)) ∧
    (ty.val ≠ 1 → ∃ t, exec (.opNot ty) s = .next t ∧ OpDone s t k 1 ((2 ^ tyBits ty.val - 1 - b % 2 ^ tyBits ty.val) :: a :: l)) ∧
    (ty.val = 1 → ∃ t, exec (.opNot ty) s = .next t ∧ OpDone s t k 1 ((1 - b % 2) :: a :: l))

/-- REAL and LREAL ops and conversion (R405). ADD, SUB, MUL and DIV of finite values give the exact result rounded to nearest even; a division by zero
does not trap; NEG and ABS change the sign bit alone; CVT to an integer truncates and saturates and takes NaN to 0, CVT from an integer rounds. -/
def Obligations.FormeFloatOps : Prop :=
  ∀ (s : State) (ty : Fin 16) (a b : Nat) (l : List Nat) (k : TaskId), s.dev.alive = true → s.clean → s.dev.current = some k → (s.dev.task k).stack = b :: a :: l → l.length < 62 →
    (tyFloat ty.val = true →
      (∀ (m n : Bool) (p q : Nat) (e f : Int), fltOf ty.val a = .fin m p e → fltOf ty.val b = .fin n q f →
        let x := fltNum m p e
        let y := fltNum n q f
        (∃ t, exec (.opAdd ty) s = .next t ∧ OpDone s t k 1 (fltRat ty.val (x.1 * y.2 + y.1 * x.2) (x.2 * y.2) (m && n) :: l)) ∧
        (q ≠ 0 → ∃ t, exec (.opDiv ty) s = .next t ∧ OpDone s t k 1 (fltRound ty.val (m != n) (scale2 p q (e - f)).1 (scale2 p q (e - f)).2 :: l)) ∧
        (q = 0 → p ≠ 0 → ∃ t, exec (.opDiv ty) s = .next t ∧ OpDone s t k 1 (fltInf ty.val (m != n) :: l)) ∧
        (∃ t, exec (.opSub ty) s = .next t ∧ OpDone s t k 1 (fltRat ty.val (x.1 * y.2 - y.1 * x.2) (x.2 * y.2) (m && !n) :: l)) ∧
        (∃ t, exec (.opMul ty) s = .next t ∧ OpDone s t k 1 (fltRound ty.val (m != n) (scale2 (p * q) 1 (e + f)).1 (scale2 (p * q) 1 (e + f)).2 :: l)) ∧
        (∃ t, exec (.opLt ty) s = .next t ∧ OpDone s t k 1 (b2n (decide (x.1 * y.2 < y.1 * x.2)) :: l))) ∧
      (∃ t, exec (.opNeg ty) s = .next t ∧ OpDone s t k 1 (setBit (b % 2 ^ tyBits ty.val) (tyBits ty.val - 1) (!bit b (tyBits ty.val - 1)) :: a :: l)) ∧
      (∃ t, exec (.opAbs ty) s = .next t ∧ OpDone s t k 1 (setBit (b % 2 ^ tyBits ty.val) (tyBits ty.val - 1) false :: a :: l)) ∧
      (∀ td : Fin 16, tyOk td.val = true → tyFloat td.val = false →
        (∀ (n : Bool) (q : Nat) (f : Int), fltOf ty.val b = .fin n q f → ∃ t, exec (.opCvt td ty) s = .next t ∧
          OpDone s t k 1 (tyWrap td.val (max (tyLo td.val) (min (tyHi td.val) (fltTrunc n q f))) :: a :: l)) ∧
        (fltOf ty.val b = .nan → ∃ t, exec (.opCvt td ty) s = .next t ∧ OpDone s t k 1 (0 :: a :: l)))) ∧
    (tyOk ty.val = true → tyFloat ty.val = false → ∀ td : Fin 16,
      (tyFloat td.val = true → ∃ t, exec (.opCvt td ty) s = .next t ∧ OpDone s t k 1 (fltRat td.val (tyInt ty.val b) 1 false :: a :: l)) ∧
      (tyOk td.val = true → tyFloat td.val = false → tyLo td.val ≤ tyInt ty.val b → tyInt ty.val b ≤ tyHi td.val → ∃ t, exec (.opCvt td ty) s = .next t ∧
        OpDone s t k 1 (tyWrap td.val (tyInt ty.val b) :: a :: l)))

/-- Stack and memory ops of the forme (heading "Forme code", R389, R404, R413). Constants and variables are pushed, a store takes the top entry to its
address and nothing else in memory; an input comes from the frozen bank, an output goes to the working bank; an index that reaches the element count
traps INDEX, a store under an empty stack traps STACK, and STOUT of the motion-sync task traps. -/
def Obligations.FormeDataOps : Prop :=
  ∀ (s : State) (ty : Fin 16) (arg : BitVec 20) (lo hi n : W32) (v : Nat) (l : List Nat) (k : TaskId), s.dev.alive = true → s.clean → s.dev.current = some k → (s.dev.task k).stack = v :: l →
    l.length < 62 → tyOk ty.val = true →
    (∃ t, exec .opNop s = .next t ∧ OpDone s t k 1 (v :: l)) ∧
    (∃ t, exec .opDup s = .next t ∧ OpDone s t k 1 (v :: v :: l)) ∧
    (∃ t, exec .opDrop s = .next t ∧ OpDone s t k 1 l) ∧
    (∀ w ∈ l.head?, ∃ t, exec .opSwap s = .next t ∧ OpDone s t k 1 (w :: v :: l.tail)) ∧
    (tyFloat ty.val = false → ∃ t, exec (.opLdi ty arg) s = .next t ∧ OpDone s t k 1 (tyWrap ty.val arg.toInt :: v :: l)) ∧
    (∃ t, exec (.opLdk ty lo hi) s = .next t ∧ OpDone s t k (if tySize ty.val = 8 then 3 else 2) ((lo.toNat + 4294967296 * hi.toNat) % 2 ^ tyBits ty.val :: v :: l)) ∧
    (∀ x ∈ instAddr s k arg.toNat (tySize ty.val),
      (∃ t, exec (.opLdv ty arg) s = .next t ∧ OpDone s t k 1 (s.peek x (tySize ty.val) :: v :: l)) ∧
      (∃ t, exec (.opStv ty arg) s = .next t ∧ (t.dev.task k).stack = l ∧ t.mem = Memory.putW sramEmpty s.mem x (tySize ty.val) v ∧ t.dev.act = s.dev.act)) ∧
    (inItem s.dev.forme.map false arg.toNat (tySize ty.val) = true → ∃ t, exec (.opLdin ty arg) s = .next t ∧ OpDone s t k 1 (s.peek (frozenBank s.dev + arg.toNat) (tySize ty.val) :: v :: l)) ∧
    (inItem s.dev.forme.map true arg.toNat (tySize ty.val) = true →
      (k ≠ .msync → ∃ t, exec (.opStout ty arg) s = .next t ∧ (t.dev.task k).stack = l ∧
        t.mem = Memory.putW sramEmpty s.mem (workBank s.dev + arg.toNat) (tySize ty.val) v ∧ t.dev.act = s.dev.act) ∧
      (k = .msync → ∃ t, exec (.opStout ty arg) s = .next t ∧ OpTrapped s t k 4)) ∧
    (∀ x ∈ instAddr s k arg.toNat (n.toNat * tySize ty.val),
      (v < n.toNat → ∃ t, exec (.opLdx ty arg n) s = .next t ∧ OpDone s t k 2 (s.peek (x + v * tySize ty.val) (tySize ty.val) :: l)) ∧
      (n.toNat ≤ v → ∃ t, exec (.opLdx ty arg n) s = .next t ∧ OpTrapped s t k 2) ∧
      (∀ j ∈ l.head?, j < n.toNat → ∃ t, exec (.opStx ty arg n) s = .next t ∧ (t.dev.task k).stack = l.tail ∧
        t.mem = Memory.putW sramEmpty s.mem (x + j * tySize ty.val) (tySize ty.val) v ∧ t.dev.act = s.dev.act) ∧
      (l = [] → ∃ t, exec (.opStx ty arg n) s = .next t ∧ OpTrapped s t k 3))

/-- Control ops of the forme (heading "Forme code", R389, R395). JMP and a jump whose condition holds move by the signed number of words from the next op,
within the block; a condition that fails goes on. CALL of a block of code opens a frame, at most 32 deep, and RET returns to the op after it; TRAP
aborts the task with code USER. -/
def Obligations.FormeControlOps : Prop :=
  ∀ (s : State) (arg blk : BitVec 20) (v : Nat) (l : List Nat) (k : TaskId), s.dev.alive = true → s.clean → s.dev.current = some k →
    let x := s.dev.task k
    let w := blkWord s (taskHalf s.dev k) x.blk
    let n := (formeBlk s (taskHalf s.dev k) x.blk).codeLen / 4
    ((w : Int) ≤ x.pc + 1 + arg.toInt → (x.pc : Int) + 1 + arg.toInt < (w + n : Nat) →
      (∃ t, exec (.opJmp arg) s = .next t ∧ t.dev.task k = { x with pc := ((x.pc : Int) + 1 + arg.toInt).toNat } ∧ t.dev.act = s.dev.act ∧ t.mem = s.mem) ∧
      (x.stack = v :: l →
        (∃ t, exec (.opJz arg) s = .next t ∧ t.dev.task k = { x with stack := l, pc := if v % 2 = 0 then ((x.pc : Int) + 1 + arg.toInt).toNat else x.pc + 1 } ∧
          t.dev.act = s.dev.act ∧ t.mem = s.mem) ∧
        (∃ t, exec (.opJnz arg) s = .next t ∧ t.dev.task k = { x with stack := l, pc := if v % 2 = 1 then ((x.pc : Int) + 1 + arg.toInt).toNat else x.pc + 1 } ∧
          t.dev.act = s.dev.act ∧ t.mem = s.mem))) ∧
    ((x.pc : Int) + 1 + arg.toInt < w → ∃ t, exec (.opJmp arg) s = .next t ∧ OpTrapped s t k 4) ∧
    (x.stack = [] → ∃ t, exec (.opJz arg) s = .next t ∧ OpTrapped s t k 3) ∧
    (blk.toNat < (formeHdr s (taskHalf s.dev k)).nblk → (formeBlk s (taskHalf s.dev k) blk.toNat).type < 0x8000 →
      (x.frames.length < 32 → ∃ t, exec (.opCall blk) s = .next t ∧ (t.dev.task k).blk = blk.toNat ∧ (t.dev.task k).pc = blkWord s (taskHalf s.dev k) blk.toNat ∧
        (t.dev.task k).frames = ⟨x.blk, x.pc + 1⟩ :: x.frames ∧ (t.dev.task k).stack = x.stack ∧ t.dev.act = s.dev.act ∧ t.mem = s.mem) ∧
      (x.frames.length = 32 → ∃ t, exec (.opCall blk) s = .next t ∧ OpTrapped s t k 3)) ∧
    (∀ f ∈ x.frames.head?, ∃ t, exec .opRet s = .next t ∧ t.dev.task k = { x with frames := x.frames.tail, blk := f.blk, pc := f.ret } ∧ t.dev.act = s.dev.act ∧ t.mem = s.mem) ∧
    (x.frames = [] → k = .main → ∃ t, exec .opRet s = .next t ∧ (t.dev.task k).st = .ended ∧ t.dev.forme.mainEnd = some s.dev.tim.mot) ∧
    (∃ t, exec (.opTrap arg) s = .next t ∧ OpTrapped s t k 5)

/-- Tasks of the forme (R388, R389, R396, R398, R400, R414). The motion-sync task starts at its due servo boundary where it is enabled; at its budget it
is aborted as MSOVR. The main task starts when it is due, 19 µs after its boundary and with no task running, the error task before it when a task
fault has occurred, with ERRINFO loaded. A main task past its deadline stops the forme and halts the device. -/
def Obligations.FormeTasks : Prop :=
  ∀ (s : State), s.dev.alive = true → s.dev.forme.st = 2 →
    let h := formeHdr s s.dev.forme.half
    (s.dev.forme.msDue = true → s.dev.on pgFRM FRM.TASK_CFG.MSEN = true → h.entMsync ≠ 0xFFFF → (s.dev.task .msync).st ≠ .running → ∃ t, exec .motionSyncTaskStart s = .next t ∧
      (t.dev.task .msync).st = .running ∧ (t.dev.task .msync).blk = h.entMsync ∧ t.dev.forme.msDue = false ∧ t.dev.task .main = s.dev.task .main ∧ t.dev.act = s.dev.act) ∧
    (s.dev.forme.msDue = false → exec .motionSyncTaskStart s = .next s) ∧
    ((s.dev.task .msync).st = .running → s.dev.tim.mot < (s.dev.task .msync).startMot + 250 * s.dev.get pgFRM FRM.TASK_CFG.MSBUD → exec .msovr s = .next s) ∧
    ((s.dev.task .msync).st = .running → (s.dev.task .msync).startMot + 250 * s.dev.get pgFRM FRM.TASK_CFG.MSBUD ≤ s.dev.tim.mot → ∃ t, exec .msovr s = .next t ∧ (t.dev.task .msync).st = .aborted ∧ t.dev.get pgFRM FRM.TRAPINFO.TASK = 2 ∧
      t.dev.get pgFRM FRM.TRAPINFO.CODE = 0 ∧ t.dev.raised pgFRM Ev.FRM.MSOVR = true ∧ bit t.dev.forme.reasons 3 = true ∧ t.mem = s.mem) ∧
    (mainMay s = false → exec .mainTaskStart s = .next s) ∧
    (s.dev.forme.mainDue = true → mainMay s = true →
      (s.dev.forme.reasons = 0 → ∃ t, exec .mainTaskStart s = .next t ∧ (t.dev.task .main).st = .running ∧ (t.dev.task .main).blk = h.entMain ∧
        t.dev.forme.mainDue = false ∧ t.dev.forme.mainStart = s.dev.tim.mot ∧ t.dev.act = s.dev.act) ∧
      (s.dev.forme.reasons ≠ 0 → h.entErr ≠ 0xFFFF → ∃ t, exec .mainTaskStart s = .next t ∧ (t.dev.task .error).st = .running ∧ (t.dev.task .error).blk = h.entErr ∧
        (t.dev.task .main).st = (s.dev.task .main).st ∧ t.dev.forme.reasons = 0 ∧ t.dev.raised pgFRM Ev.FRM.ERRTASK = true ∧
        t.dev.get pgFRM FRM.ERRINFO.TRAP = b2n (bit s.dev.forme.reasons 1) ∧ t.dev.get pgFRM FRM.ERRINFO.LATE = b2n (bit s.dev.forme.reasons 2))) ∧
    (∀ b ∈ s.dev.forme.closeMot, s.dev.flt.halt = false →
      (mainDeadline s.dev b ≤ s.dev.tim.mot → ∃ t, exec .overrun s = .next t ∧ t.dev.forme.st = 3 ∧ t.dev.forme.overrun = true ∧ t.dev.safeHalted = true ∧
        t.dev.flt.haltCause = entryVal 3 pgFRM 1 Cz.FRM.OVERRUN.code ∧ t.mem = s.mem) ∧
      (s.dev.tim.mot < mainDeadline s.dev b → exec .overrun s = .next s)) ∧
    (s.dev.forme.closeMot = none → exec .overrun s = .next s) ∧
    (s.dev.runtimeActs = true → ∃ t, exec (.taskCtrlClrcnt .runtime) s = .next t ∧ t.dev.get pgFRM FRM.TASK_CNT.LATE = 0 ∧ t.dev.get pgFRM FRM.TASK_CNT.TRAPS = 0 ∧
      t.dev.get pgFRM FRM.TASK_CNT.MSOVR = 0 ∧ t.dev.get pgFRM FRM.TASK_CNT.ERRRUN = 0 ∧ t.dev.get pgFRM FRM.MAIN_T.MAXT = 0 ∧ t.dev.get pgFRM FRM.SLACK.MINSLACK = 0xFFFF ∧
      t.dev.forme = s.dev.forme ∧ t.mem = s.mem)

/-- Online change (R407 to R410). PREP of the spare half with a forme that passes its checks fills the spare instance region with the initial data;
another half, a bad image or a change in progress fails with its code. With its init task ended and no tagged variable to copy, the change is READY.
SWITCH is taken in READY and refused elsewhere with its code; CANCEL discards the preparation. -/
def Obligations.OnlineChange : Prop :=
  ∀ (s : State) (h : Fin 2), s.dev.alive = true →
    (s.dev.olc.st ≠ 1 → s.dev.olc.st ≠ 2 →
      (h.val = s.dev.forme.half → ∃ t, exec (.olcPrep h) s = .next t ∧ t.dev.olc.st = 3 ∧ t.dev.get pgFRM FRM.OLC_STAT.FAILC = 1 ∧ t.dev.raised pgFRM Ev.FRM.OLCFAIL = true ∧ t.mem = s.mem) ∧
      (h.val ≠ s.dev.forme.half → formeOk s h.val false = false → ∃ t, exec (.olcPrep h) s = .next t ∧ t.dev.olc.st = 3 ∧ t.dev.get pgFRM FRM.OLC_STAT.FAILC = 2 ∧ t.mem = s.mem) ∧
      (h.val ≠ s.dev.forme.half → formeOk s h.val false = true → s.dev.otp.lc < 2 → ∃ t, exec (.olcPrep h) s = .next t ∧ t.dev.olc.st = 1 ∧ t.dev.olc.half = h.val ∧
        t.mem = (fillRegion h.val (1 - s.dev.forme.region) s).mem ∧ t.dev.get pgFRM FRM.OLC_STAT.STATE = 1 ∧ t.dev.get pgFRM FRM.OLC_STAT.FAILC = 0)) ∧
    (s.dev.olc.st = 1 → (s.dev.task .init).st = .ended → (formeTags s s.dev.forme.half) = [] → ∃ t, exec .olcReady s = .next t ∧ t.dev.olc.st = 2 ∧
      t.dev.get pgFRM FRM.OLC_STAT.STATE = 2 ∧ t.dev.raised pgFRM Ev.FRM.OLCREADY = true ∧ t.dev.get pgFRM FRM.OLC_TAGS.CARRIED = 0 ∧ t.mem = s.mem) ∧
    (s.dev.olc.st = 2 → ∃ t, exec .olcSwitch s = .next t ∧ t.dev.olc.switchReq = true ∧ t.dev.olc.st = 2 ∧ t.dev.act = s.dev.act ∧ t.mem = s.mem) ∧
    (s.dev.olc.st = 1 → ∃ t, exec .olcSwitch s = .next t ∧ t.dev.olc = s.dev.olc ∧ t.dev.get pgFRM FRM.OLC_STAT.FAILC = 10 ∧ t.dev.raised pgFRM Ev.FRM.OLCFAIL = true ∧ t.mem = s.mem) ∧
    (s.dev.olc.st = 0 ∨ s.dev.olc.st = 3 → ∃ t, exec .olcSwitch s = .next t ∧ t.dev.olc.st = 3 ∧ t.dev.get pgFRM FRM.OLC_STAT.FAILC = 9 ∧ t.dev.raised pgFRM Ev.FRM.OLCFAIL = true) ∧
    (s.dev.olc.st = 1 ∨ s.dev.olc.st = 2 → ∃ t, exec .olcCancel s = .next t ∧ t.dev.olc = {} ∧ t.dev.get pgFRM FRM.OLC_STAT.STATE = 0 ∧ t.dev.get pgFRM FRM.OLC_STAT.WAIT = 0 ∧ t.mem = s.mem) ∧
    (s.dev.olc.st = 0 → exec .olcCancel s = .next s)

/-!  -/

/-- Reception on CAN (R447, R449, R451, R455). A controller off the bus takes nothing. A data frame goes to the first matching object of its data length,
counted, marked new (and overrun when it was new) with its data in the object's item; with no object and no ring it is dropped, counted and noted, as
is a remote frame. A protocol exception enters integration where it is enabled and is a form error elsewhere. -/
def Obligations.CanReception : Prop :=
  ∀ (s : State) (c : Fin 3) (f : CanFrame), s.dev.alive = true →
    (canOnBus s.dev c.val = false → exec (.canFrameReceived c f) s = .next s) ∧
    (canOnBus s.dev c.val = true →
      (f.err = 0 → f.fdf = false → f.rtr = false → (∀ o ∈ canFind s.dev c.val f, o.dlc = f.dlc → o.num < 64 → canPdo s.dev c.val = true → stnHolds s.dev c.val o.num f = false → canTxRing s.dev c.val = none →
        ∃ t, exec (.canFrameReceived c f) s = .next t ∧ t.dev.get (pgCAN c.val) CAN.CNT0.RXOK = (s.dev.get (pgCAN c.val) CAN.CNT0.RXOK + 1) % 2 ^ CAN.CNT0.RXOK.w ∧
          bit (t.dev.cn c.val).rxNew o.num = true ∧ bit (t.dev.cn c.val).rxOvr o.num = (bit (s.dev.cn c.val).rxOvr o.num || bit (s.dev.cn c.val).rxNew o.num) ∧
          t.mem = (inItemPut o.iofs ((List.range (canBytes o.fdf o.dlc)).map fun i => nth f.data i 0) s).mem)) ∧
      (f.err = 0 → f.fdf = false → (f.rtr = true ∨ canFind s.dev c.val f = none ∧ ringActive s.dev (s.dev.get (pgCAN c.val) CAN.RINGSEL.RXRING) = false) → canTxRing s.dev c.val = none →
        ∃ t, exec (.canFrameReceived c f) s = .next t ∧ t.dev.raised (pgCAN c.val) Ev.CAN.RXDROP = true ∧ (t.dev.cn c.val).rxNew = (s.dev.cn c.val).rxNew ∧
          t.dev.get (pgCAN c.val) CAN.CNT0.RXOK = s.dev.get (pgCAN c.val) CAN.CNT0.RXOK ∧ t.mem = s.mem) ∧
      (f.err = 0 → f.fdf = true → f.res = true → s.dev.on (pgCAN c.val) CAN.CTRL.FDEN = true →
        (s.dev.on (pgCAN c.val) CAN.CTRL.PEX = true → ∃ t, exec (.canFrameReceived c f) s = .next t ∧ (t.dev.cn c.val).st = 1 ∧ t.dev.get (pgCAN c.val) CAN.PSR.PXE = 1 ∧
          t.dev.raised (pgCAN c.val) Ev.CAN.PXE = true ∧ (t.dev.cn c.val).tec = (s.dev.cn c.val).tec ∧ t.mem = s.mem) ∧
        (s.dev.on (pgCAN c.val) CAN.CTRL.PEX = false → ∃ t, exec (.canFrameReceived c f) s = .next t ∧ t.dev.get (pgCAN c.val) CAN.PSR.LEC = 2 ∧
          (t.dev.cn c.val).rec_ = (s.dev.cn c.val).rec_ + (if canSends s.dev c.val then 1 else 0) ∧ t.mem = s.mem)))

/-- The end of a transmission, and a cancel of a frame record (R449, R454, R456, R457). A frame sent is counted, is the bus's last frame and ends its
object's request with status 2, the error counter falling by one; a frame lost, or in error, stays to be sent again unless its cancel was too late,
when it ends as lost; an error adds 8. A record that waits is cancelled with status 3, one under way only marks the refusal. Bus-off and integration
(R449, R450, R473). Past 255 the transmit error counter takes the controller off the bus: counted, noted, every request missed, latched after BOMAX
times in a minute or without automatic recovery. After BOHOLD recovery begins, and at its end the counters are 0 and the mode's state returns, as it
does after integration. -/
def Obligations.CanSendingAndBusOff : Prop :=
  (∀ (s : State) (c : Fin 3) (j : Fin 64) (a : W32), s.dev.alive = true → s.clean →
    ((s.dev.cn c.val).sof = some j.val → j.val < (s.dev.cn c.val).status.length → c.val < s.dev.net.out.can.length →
      (∃ t, exec (.canTxComplete c .sent) s = .next t ∧ t.dev.get (pgCAN c.val) CAN.CNT0.TXOK = (s.dev.get (pgCAN c.val) CAN.CNT0.TXOK + 1) % 2 ^ CAN.CNT0.TXOK.w ∧
        nth (t.dev.cn c.val).status j.val 0 = 2 ∧ bit (t.dev.cn c.val).pend j.val = false ∧ (t.dev.cn c.val).tec = (s.dev.cn c.val).tec - 1 ∧
        nth t.dev.net.out.can c.val {} = (s.dev.cn c.val).frame) ∧
      ((s.dev.cn c.val).noRetry = true → ∃ t, exec (.canTxComplete c .lost) s = .next t ∧ nth (t.dev.cn c.val).status j.val 0 = 4 ∧ bit (t.dev.cn c.val).pend j.val = false ∧
        (t.dev.cn c.val).tec = (s.dev.cn c.val).tec) ∧
      ((s.dev.cn c.val).noRetry = false → (s.dev.cn c.val).txKind = 0 →
        (∃ t, exec (.canTxComplete c .lost) s = .next t ∧ nth (t.dev.cn c.val).status j.val 0 = nth (s.dev.cn c.val).status j.val 0 ∧
          (bit (s.dev.cn c.val).pend j.val = true → bit (t.dev.cn c.val).pend j.val = true)) ∧
        (∃ t, exec (.canTxComplete c (.error 1 false false {})) s = .next t ∧ (t.dev.cn c.val).tec = (s.dev.cn c.val).tec + 8 ∧ t.dev.get (pgCAN c.val) CAN.PSR.LEC = 1 ∧
          nth (t.dev.cn c.val).status j.val 0 = nth (s.dev.cn c.val).status j.val 0))) ∧
    (packetBase ≤ a.toNat → a.toNat + 84 ≤ packetBase + packetSize →
      ((s.dev.cn c.val).sof = some 64 → (s.dev.cn c.val).ringAt = a.toNat → ∃ t, exec (.frameRecordCancel c a) s = .next t ∧ (t.dev.cn c.val).noRetry = true ∧
        t.dev.raised (pgCAN c.val) Ev.CAN.TXCANREF = true ∧ bit (t.peek a.toNat 4) 0 = true) ∧
      ((s.dev.cn c.val).sof = none → bitsOf (s.peek a.toNat 4) 4 4 = 0 → canTxRing s.dev c.val = none → ∃ t, exec (.frameRecordCancel c a) s = .next t ∧
        bit (t.peek a.toNat 4) 0 = true ∧ bitsOf (t.peek a.toNat 4) 4 4 = 3 ∧ t.dev = s.dev)) ∧
    (a.toNat < packetBase → exec (.frameRecordCancel c a) s = .next s)) ∧
  (∀ (s : State) (c : Fin 3) (j : Fin 64), s.dev.alive = true →
    ((s.dev.cn c.val).st = 2 ∨ (s.dev.cn c.val).st = 3 → 256 ≤ (s.dev.cn c.val).tec → ∃ t, exec (.busOff c) s = .next t ∧ (t.dev.cn c.val).st = 4 ∧
      t.dev.raised (pgCAN c.val) Ev.CAN.BUSOFF = true ∧ t.dev.get (pgCAN c.val) CAN.PSR.STATE = 4 ∧ bit (t.dev.cn c.val).pend j.val = false ∧ (t.dev.cn c.val).sof = none ∧
      (s.dev.on (pgCAN c.val) CAN.CTRL.BOAUTO = false → (t.dev.cn c.val).boLatched = true)) ∧
    ((s.dev.cn c.val).tec ≤ 255 → exec (.busOff c) s = .next s) ∧
    ((s.dev.cn c.val).st = 4 → (s.dev.cn c.val).boRec = false → (s.dev.cn c.val).boLatched = false → (s.dev.cn c.val).boReset = false → s.dev.on (pgCAN c.val) CAN.CTRL.BOAUTO = true →
      ((s.dev.cn c.val).boAt + msMot (s.dev.get (pgCAN c.val) CAN.BOCFG.BOHOLD) ≤ s.dev.tim.mot → ∃ t, exec (.busOffRecoveryStart c) s = .next t ∧ (t.dev.cn c.val).boRec = true ∧
        (t.dev.cn c.val).st = 4 ∧ t.dev.act = s.dev.act ∧ t.mem = s.mem) ∧
      (s.dev.tim.mot < (s.dev.cn c.val).boAt + msMot (s.dev.get (pgCAN c.val) CAN.BOCFG.BOHOLD) → exec (.busOffRecoveryStart c) s = .next s)) ∧
    ((s.dev.cn c.val).st = 4 → (s.dev.cn c.val).boRec = true → ∃ t, exec (.busOffRecoveryEnd c) s = .next t ∧ (t.dev.cn c.val).st = canActive s.dev c.val ∧ (t.dev.cn c.val).tec = 0 ∧
      (t.dev.cn c.val).rec_ = 0 ∧ t.dev.raised (pgCAN c.val) Ev.CAN.BOREC = true ∧ t.dev.get (pgCAN c.val) CAN.ECS.TEC = 0) ∧
    ((s.dev.cn c.val).st = 1 → (s.dev.cn c.val).pxInt = false → ∃ t, exec (.canIntegrationEnd c) s = .next t ∧ (t.dev.cn c.val).st = canActive s.dev c.val ∧ (t.dev.cn c.val).tec = 0 ∧
      (t.dev.cn c.val).rec_ = 0 ∧ t.dev.get (pgCAN c.val) CAN.PSR.STATE = canActive s.dev c.val) ∧
    ((s.dev.cn c.val).st ≠ 1 → exec (.canIntegrationEnd c) s = .next s))

/-- The leaf bus (R460 to R463, R467 to R469). In slot 0, from REFDLY after the boundary, the reference goes out and the slots count from it; slot 0
without one counts a miss, and three in a row raise REFFAIL. A slot that would not end 20 µs before the boundary is skipped; another begins with its
cell. A station that is not met KMISS times running, or not in time after the start, drops out. -/
def Obligations.LeafBus : Prop :=
  ∀ (s : State) (j : Fin 32) (k : Fin 16), s.dev.alive = true → s.clean →
    (s.dev.net.lb.tt = true → s.dev.net.lb.slot = some 0 → s.dev.net.lb.refSent = false → canSends s.dev 0 = true → (s.dev.cn 0).sof = none → s.dev.net.lb.bnd + refMot s.dev ≤ s.dev.tim.mot → 0 < s.dev.net.out.can.length →
      (∃ t, exec (.referenceMessage .sent) s = .next t ∧ t.dev.net.lb.refSent = true ∧ t.dev.net.lb.base = s.dev.tim.mot ∧ nth t.dev.net.out.can 0 {} = refFrame s.dev ∧
        t.dev.get (pgCAN 0) CAN.CNT0.TXOK = (s.dev.get (pgCAN 0) CAN.CNT0.TXOK + 1) % 2 ^ CAN.CNT0.TXOK.w ∧ t.mem = s.mem) ∧
      (∃ t, exec (.referenceMessage .lost) s = .next t ∧ t.dev.net.lb = s.dev.net.lb ∧ t.mem = s.mem)) ∧
    (s.dev.net.lb.tt = true → s.dev.net.lb.slot = some 0 → slotEndMot s.dev 0 ≤ s.dev.tim.mot → s.dev.net.lb.refSent = false → ∃ t, exec (.slotEnd 0) s = .next t ∧
      t.dev.net.lb.slot = none ∧ t.dev.net.lb.missRun = s.dev.net.lb.missRun + 1 ∧ t.dev.raised pgIMPO Ev.IMPO.REFMISS = true ∧ t.mem = s.mem) ∧
    (3 ≤ s.dev.net.lb.missRun → s.dev.net.lb.refFail = false → ∃ t, exec .reffail s = .next t ∧ t.dev.net.lb.refFail = true ∧ t.dev.hasC2 pgIMPO = true ∧
      (s.dev.queueRoom = true → t.dev.entryOf pgIMPO Cz.IMPO.REFFAIL 0xFF = true) ∧ t.mem = s.mem) ∧
    (s.dev.net.lb.missRun < 3 → exec .reffail s = .next s) ∧
    (s.dev.net.lb.tt = true → s.dev.net.lb.slot = none → s.dev.net.lb.last < j.val → j.val < s.dev.get pgIMPO IMPO.TT_CFG.NSLOT → s.dev.net.lb.base + j.val * slotMot s.dev ≤ s.dev.tim.mot →
      (s.dev.net.lb.bnd + cycleMot s.dev < slotEndMot s.dev j.val + 5000 → ∃ t, exec (.slotStart j) s = .next t ∧ t.dev.net.lb.slot = none ∧ t.dev.net.lb.last = j.val ∧
        t.dev.raised pgIMPO Ev.IMPO.SLOTSKIP = true ∧ t.mem = s.mem) ∧
      (slotEndMot s.dev j.val + 5000 ≤ s.dev.net.lb.bnd + cycleMot s.dev → ∃ t, exec (.slotStart j) s = .next t ∧ t.dev.net.lb.slot = some j.val ∧ t.dev.net.lb.last = j.val)) ∧
    (s.dev.net.lb.tt = true → s.dev.net.lb.slot = some j.val → j.val ≠ 0 → slotEndMot s.dev j.val ≤ s.dev.tim.mot → cellOf s.dev s.dev.net.lb.row j.val = 192 + k.val → k.val < s.dev.net.lb.stn.length →
      (s.dev.stn k.val).st = 2 →
      ((s.dev.stn k.val).met = true → ∃ t, exec (.slotEnd j) s = .next t ∧ t.dev.net.lb.slot = none ∧ (t.dev.stn k.val).st = 2 ∧ (t.dev.stn k.val).miss = 0 ∧ t.mem = s.mem) ∧
      ((s.dev.stn k.val).met = false → s.dev.get pgIMPO (IMPO.STN.KMISS.at k.val) ≤ (s.dev.stn k.val).miss + 1 → ∃ t, exec (.slotEnd j) s = .next t ∧ (t.dev.stn k.val).st = 3 ∧
        t.dev.raised pgIMPO Ev.IMPO.STNDROP = true ∧ bit t.dev.net.lb.newDrop k.val = true)) ∧
    (s.dev.net.lb.tt = true → stnEn s.dev k.val = true → (s.dev.stn k.val).st = 1 →
      (s.dev.net.lb.startMot + msMot (100 * s.dev.get pgIMPO IMPO.REF_T.STNWAIT) ≤ s.dev.tim.mot → ∃ t, exec (.stnwait k) s = .next t ∧ (t.dev.stn k.val).st = 3 ∧
        t.dev.raised pgIMPO Ev.IMPO.STNDROP = true ∧ t.dev.hasC2 pgIMPO = true) ∧
      (s.dev.tim.mot < s.dev.net.lb.startMot + msMot (100 * s.dev.get pgIMPO IMPO.REF_T.STNWAIT) → exec (.stnwait k) s = .next s))

/-!  -/

/-- Ethernet frames, links and addresses (R475 to R478). A port that does not pass frames takes none; a frame in error is counted and dropped; one whose
VLAN has no entry with its port is counted in the port and filtered; another's source address is learned, and where forwarding is on it waits at the
other port. A link change shows in the port's state, and a link lost is a fault. An address unused for 300 s goes. -/
def Obligations.EthernetFrames : Prop :=
  ∀ (s : State) (p : Fin 2) (f : EthFrame) (v : Fin 3) (m : BitVec 48), s.dev.alive = true →
    (ethUp s.dev (p.val + 1) = false → ∀ e : Bool, exec (.ethFrameReceived p f e) s = .next s) ∧
    (ethUp s.dev (p.val + 1) = true →
      (∃ t, exec (.ethFrameReceived p f true) s = .next t ∧ t.dev.get pgETH ETH.DROPS.RXERR = satInc ETH.DROPS.RXERR.w (s.dev.get pgETH ETH.DROPS.RXERR) ∧
        t.dev.raised pgETH Ev.ETH.RXERR = true ∧ t.dev.net = s.dev.net ∧ t.mem = s.mem) ∧
      (f.data.length ≤ 1500 → f.tag = none →
        (vlanEntry s.dev (s.dev.get pgETH (if p.val = 0 then ETH.PVID.P1PVID else ETH.PVID.P2PVID)) (p.val + 1) = none → ∃ t, exec (.ethFrameReceived p f false) s = .next t ∧
          t.dev.get pgETH ETH.DROPS.FILT = satInc ETH.DROPS.FILT.w (s.dev.get pgETH ETH.DROPS.FILT) ∧ t.dev.net = s.dev.net ∧ t.mem = s.mem ∧
          (p.val = 0 → t.dev.get pgETH ETH.CNT_P1.RXOK = (s.dev.get pgETH ETH.CNT_P1.RXOK + 1) % 2 ^ ETH.CNT_P1.RXOK.w) ∧
          (p.val = 1 → t.dev.get pgETH ETH.CNT_P2.RXOK = (s.dev.get pgETH ETH.CNT_P2.RXOK + 1) % 2 ^ ETH.CNT_P2.RXOK.w)) ∧
        (∀ k ∈ vlanEntry s.dev (s.dev.get pgETH (if p.val = 0 then ETH.PVID.P1PVID else ETH.PVID.P2PVID)) (p.val + 1), p0Accepts s.dev f = false →
          ∃ t, exec (.ethFrameReceived p f false) s = .next t ∧ t.mem = s.mem ∧
            (macGroup f.src = false → s.dev.net.eth.mac.length < 1024 → ∃ x ∈ t.dev.net.eth.mac, x.mac = f.src ∧ x.port = p.val + 1 ∧ x.at_ = s.dev.tim.mot) ∧
            (s.dev.on pgETH ETH.PORTCFG.FWD = false → t.dev.net.eth.q = s.dev.net.eth.q) ∧
            (s.dev.on pgETH ETH.PORTCFG.FWD = true → ethUp s.dev (2 - p.val) = true → bit (s.dev.get pgETH (ETH.VLAN.MEMBER.at k)) (2 - p.val) = true →
              f.dst ≠ f.src → (∀ x ∈ s.dev.net.eth.mac, x.mac ≠ f.dst) → s.dev.net.eth.q.length < 64 →
              t.dev.net.eth.q = s.dev.net.eth.q ++ [EgressEnt.mk (2 - p.val) (bitsOf (s.dev.get pgETH ETH.QMAP.QMAP) 0 2)
                { f with tag := if bit (s.dev.get pgETH (ETH.VLAN.UNTAG.at k)) (2 - p.val) then none else some (s.dev.get pgETH (if p.val = 0 then ETH.PVID.P1PVID else ETH.PVID.P2PVID), 0) } s.dev.tim.mot false])))) ∧
    (s.dev.part.hasNet = true → ∃ t, exec (.ethLinkChange p v) s = .next t ∧ t.mem = s.mem ∧
      t.dev.get pgETH (if p.val = 0 then ETH.PORTSTAT.P1SPD else ETH.PORTSTAT.P2SPD) = v.val ∧ t.dev.on pgETH (if p.val = 0 then ETH.PORTSTAT.P1LINK else ETH.PORTSTAT.P2LINK) = (v.val != 0) ∧
      (s.dev.get pgETH (if p.val = 0 then ETH.PORTSTAT.P1SPD else ETH.PORTSTAT.P2SPD) ≠ v.val → t.dev.raised pgETH Ev.ETH.LINK = true) ∧
      (v.val = 0 → (∀ x ∈ t.dev.net.eth.q, x.port ≠ p.val + 1) ∧
        (s.dev.on pgETH (if p.val = 0 then ETH.PORTSTAT.P1LINK else ETH.PORTSTAT.P2LINK) = true → s.dev.queueRoom = true → t.dev.entryOf pgETH Cz.ETH.LINKDN (p.val + 1) = true))) ∧
    (∃ t, exec (.addressAging m) s = .next t ∧ (∀ x ∈ t.dev.net.eth.mac, x.mac = m.toNat → s.dev.tim.mot < x.at_ + msMot 300000) ∧
      (∀ x ∈ s.dev.net.eth.mac, (x.mac ≠ m.toNat ∨ s.dev.tim.mot < x.at_ + msMot 300000) → x ∈ t.dev.net.eth.mac) ∧ t.dev.net.eth.q = s.dev.net.eth.q ∧ t.dev.act = s.dev.act ∧ t.mem = s.mem)

/-- The PTP unit (R37, R479 to R481). A Sync of the selected master on a candidate port is published and counted; an offset beyond STEPTH is set off at
the next boundary with the rate trim at 0, another sets the trim within 200 ppm, and sixteen within 1 µs make it the source of device time. Without a
Sync for three intervals the unit holds over, and is lost after HOLDT; its delay requests leave by every candidate port. -/
def Obligations.PrecisionTime : Prop :=
  ∀ (s : State) (e : SyncEnv) (p : Fin 2), s.dev.alive = true →
    (ptpOn s.dev = true → ptpPort s.dev (e.port.val + 1) = true → ethUp s.dev (e.port.val + 1) = true → syncFrom e s.dev = true →
      ∃ t, exec (.ptpSync e) s = .next t ∧ t.dev.get pgPTP PTP.PTP_STAT.STATE = (if e.slave then 3 else 2) ∧ t.dev.get pgPTP PTP.PTP_STAT.PORT = e.port.val + 1 ∧
        t.dev.get pgPTP PTP.SYNCCNT.COUNT = (s.dev.get pgPTP PTP.SYNCCNT.COUNT + 1) % 2 ^ PTP.SYNCCNT.COUNT.w ∧ t.dev.get pgPTP PTP.OFFSET.NS = satS 32 (syncOffset e s.dev) ∧
        t.dev.get pgPTP PTP.MPD.NS = (syncMpd e s.dev).toNat % 2 ^ 32 ∧ t.dev.get pgPTP PTP.GM_LO.ID + 2 ^ 32 * t.dev.get pgPTP PTP.GM_HI.ID = e.gm.toNat ∧ t.dev.net.ptp.holdAt = none ∧ t.mem = s.mem ∧
        t.dev.tim.dtF = s.dev.tim.dtF ∧
        (s.dev.net.ptp.lastSync.isSome = true → s.dev.net.ptp.gm ≠ e.gm.toNat → t.dev.raised pgPTP Ev.PTP.GMCHG = true) ∧
        ((s.dev.get pgPTP PTP.PTP_LIM.STEPTH * 1000 : Int) < absI (syncOffset e s.dev) → t.dev.net.ptp.stepBy = some (-syncOffset e s.dev) ∧ t.dev.tim.ppb = 0 ∧ t.dev.net.ptp.lockN = 0) ∧
        (absI (syncOffset e s.dev) ≤ (s.dev.get pgPTP PTP.PTP_LIM.STEPTH * 1000 : Int) → -200000 ≤ t.dev.tim.ppb ∧ t.dev.tim.ppb ≤ 200000 ∧ t.dev.geti pgPTP PTP.RATE.PPB = t.dev.tim.ppb ∧ t.dev.net.ptp.stepBy = s.dev.net.ptp.stepBy ∧
          (e.slave = true → absI (syncOffset e s.dev) < 1000 → t.dev.net.ptp.lockN = s.dev.net.ptp.lockN + 1 ∧
            (15 ≤ s.dev.net.ptp.lockN → t.dev.get pgSYS SYS.DT_STAT.SRC = 3 ∧ (s.dev.get pgSYS SYS.DT_STAT.SRC ≠ 3 → t.dev.raised pgPTP Ev.PTP.LOCK = true))))) ∧
    ((ptpOn s.dev = false ∨ ptpPort s.dev (e.port.val + 1) = false ∨ ethUp s.dev (e.port.val + 1) = false ∨ syncFrom e s.dev = false) → exec (.ptpSync e) s = .next s) ∧
    (∀ x ∈ s.dev.net.ptp.lastSync, ptpOn s.dev = true → s.dev.net.ptp.st = 2 ∨ s.dev.net.ptp.st = 3 →
      (x * 4 + 3 * s.dev.net.ptp.interval ≤ s.dev.tim.mot * 4 → ∃ t, exec .ptpSyncTimeout s = .next t ∧ t.dev.get pgPTP PTP.PTP_STAT.STATE = 4 ∧ t.dev.get pgSYS SYS.DT_STAT.SRC = 4 ∧
        t.dev.raised pgPTP Ev.PTP.HOLD = true ∧ t.dev.net.ptp.lockN = 0 ∧ t.dev.net.ptp.holdAt = some s.dev.tim.mot ∧ t.dev.tim.ppb = s.dev.tim.ppb ∧ t.dev.tim.dtF = s.dev.tim.dtF ∧ t.mem = s.mem) ∧
      (s.dev.tim.mot * 4 < x * 4 + 3 * s.dev.net.ptp.interval → ethUp s.dev (s.dev.get pgPTP PTP.PTP_STAT.PORT) = true → exec .ptpSyncTimeout s = .next s)) ∧
    (∀ x ∈ s.dev.net.ptp.holdAt, ptpOn s.dev = true → s.dev.net.ptp.lostRep = false →
      (x + msMot (1000 * s.dev.get pgPTP PTP.PTP_LIM.HOLDT) ≤ s.dev.tim.mot → ∃ t, exec .ptplost s = .next t ∧ t.dev.net.ptp.lostRep = true ∧ t.mem = s.mem ∧
        (s.dev.queueRoom = true → t.dev.entryOf pgPTP Cz.PTP.PTPLOST 0xFF = true)) ∧
      (s.dev.tim.mot < x + msMot (1000 * s.dev.get pgPTP PTP.PTP_LIM.HOLDT) → exec .ptplost s = .next s)) ∧
    (ptpOn s.dev = true → ∃ t, exec .delayReq s = .next t ∧ t.dev.net.ptp.reqN = s.dev.net.ptp.reqN + 1 ∧ t.dev.act = s.dev.act ∧ t.mem = s.mem ∧
      (ptpPort s.dev (p.val + 1) = true → ethUp s.dev (p.val + 1) = true → ∃ x ∈ t.dev.net.eth.q, x.port = p.val + 1 ∧ x.queue = 4 ∧ x.frame = delayFrame s.dev (p.val + 1)) ∧
      (ethUp s.dev (p.val + 1) = false → t.dev.net.eth.q.filter (fun x => x.port == p.val + 1) = s.dev.net.eth.q.filter (fun x => x.port == p.val + 1)))

/-- Telegrams (R483, R484, R487). A received one goes to the first subscriber that it names and that nothing keeps it from: its data is written as that
subscriber's input item and it is counted; otherwise it is counted by what kept it away. A telegram in error is counted alone. From TXDLY after the
boundary every due telegram is sent, counted, with the next sequence number. Rings (R492, R493). A producer with room writes the length, the status
and the data and moves its index on; without room the item is dropped and counted. A consumer's index moves past one entry, if there is one. (The free
entry that a ring keeps is assumption log 20.) -/
def Obligations.TelegramsAndRings : Prop :=
  (∀ (s : State) (r : Telegram) (i : Fin 512), s.dev.alive = true → s.clean →
    (trdpOn s.dev = false → exec (.telegramReceived r) s = .next s ∧ exec .telegramPublish s = .next s) ∧
    (trdpOn s.dev = true →
      ((r.fcsOk = false ∨ r.ver / 256 ≠ 1 ∨ r.msgType ≠ 0x5064) → ∃ t, exec (.telegramReceived r) s = .next t ∧
        t.dev.get pgTRDP TRDP.RXDROP.FCS = satInc TRDP.RXDROP.FCS.w (s.dev.get pgTRDP TRDP.RXDROP.FCS) ∧ t.dev.net = s.dev.net ∧ t.mem = s.mem) ∧
      (r.fcsOk = true → r.ver / 256 = 1 → r.msgType = 0x5064 →
        (∀ x ∈ s.dev.net.trdp.subs[i.val]?, x.named r = true → subRefuse s.dev r x = 0 → (∀ y ∈ s.dev.net.trdp.subs.take i.val, y.named r = true → subRefuse s.dev r y ≠ 0) →
          ∃ t, exec (.telegramReceived r) s = .next t ∧ t.mem = (inItemPut x.d.iofs r.data s).mem ∧ t.dev.get pgTRDP TRDP.RXCNT.COUNT = (s.dev.get pgTRDP TRDP.RXCNT.COUNT + 1) % 2 ^ TRDP.RXCNT.COUNT.w ∧
            t.dev.net.trdp.subs[i.val]? = some { x with valid := true, lastSeq := some r.seq, rxDt := some (s.dev.dt - 4 * r.len), new := true, tmoRep := false }) ∧
        ((∀ y ∈ s.dev.net.trdp.subs, y.named r = true → subRefuse s.dev r y ≠ 0) →
          ((∃ y ∈ s.dev.net.trdp.subs, y.named r = true ∧ subRefuse s.dev r y = 3) → ∃ t, exec (.telegramReceived r) s = .next t ∧
            t.dev.get pgTRDP TRDP.RXDROP.DUP = satInc TRDP.RXDROP.DUP.w (s.dev.get pgTRDP TRDP.RXDROP.DUP) ∧ t.dev.net = s.dev.net ∧ t.mem = s.mem) ∧
          ((∃ y ∈ s.dev.net.trdp.subs, y.named r = true ∧ subRefuse s.dev r y = 2) → (∀ y ∈ s.dev.net.trdp.subs, y.named r = true → subRefuse s.dev r y ≤ 2) → ∃ t, exec (.telegramReceived r) s = .next t ∧
            t.dev.get pgTRDP TRDP.RXDROP.TOPO = satInc TRDP.RXDROP.TOPO.w (s.dev.get pgTRDP TRDP.RXDROP.TOPO) ∧ t.dev.raised pgTRDP Ev.TRDP.TOPODROP = true ∧ t.dev.net = s.dev.net ∧ t.mem = s.mem) ∧
          ((∃ y ∈ s.dev.net.trdp.subs, y.named r = true ∧ subRefuse s.dev r y = 1) → (∀ y ∈ s.dev.net.trdp.subs, y.named r = true → subRefuse s.dev r y ≤ 1) → ∃ t, exec (.telegramReceived r) s = .next t ∧
            t.dev.get pgTRDP TRDP.RXDROP.LEN = satInc TRDP.RXDROP.LEN.w (s.dev.get pgTRDP TRDP.RXDROP.LEN) ∧ t.dev.net = s.dev.net ∧ t.mem = s.mem) ∧
          ((∀ y ∈ s.dev.net.trdp.subs, y.named r = false) → exec (.telegramReceived r) s = .next s))) ∧
      (s.dev.net.trdp.bnd + s.dev.get pgTRDP TRDP.TRDP_CFG.TXDLY * 250 ≤ s.dev.tim.mot → ∃ t, exec .telegramPublish s = .next t ∧ t.mem = s.mem ∧
        t.dev.net.trdp.pubs = s.dev.net.trdp.pubs.map (fun x => if x.due then { x with due := false, seq := (x.seq + 1) % 2 ^ 32 } else x) ∧ t.dev.net.trdp.subs = s.dev.net.trdp.subs ∧
        t.dev.get pgTRDP TRDP.TXCNT.COUNT = (s.dev.get pgTRDP TRDP.TXCNT.COUNT + (s.dev.net.trdp.pubs.filter fun x => x.due).length) % 2 ^ TRDP.TXCNT.COUNT.w) ∧
      (s.dev.tim.mot < s.dev.net.trdp.bnd + s.dev.get pgTRDP TRDP.TRDP_CFG.TXDLY * 250 → exec .telegramPublish s = .next s))) ∧
  (∀ (s : State) (k : Fin 32) (l : List Byte) (a : Nat), s.dev.alive = true → s.clean → s.dev.ringsQuiet = true → ringActive s.dev k.val = true →
    0 < ringEntries s.dev k.val → ringProd s k.val < ringEntries s.dev k.val → ringCons s k.val < ringEntries s.dev k.val → Memory.wf sramEmpty s.mem = true →
    (ringFull s k.val = false → l.length + 4 ≤ ringSize s.dev k.val → ∃ t, exec (.ringIndexAdvance k true l) s = .next t ∧
      ringProd t k.val = (ringProd s k.val + 1) % ringEntries s.dev k.val ∧ ringCons t k.val = ringCons s k.val ∧ ringDrop t k.val = ringDrop s k.val ∧
      t.peek (ringEntry s.dev k.val (ringProd s k.val)) 4 = l.length ∧ Memory.getL sramEmpty t.mem (ringEntry s.dev k.val (ringProd s k.val) + 4) l.length = l.map BitVec.toNat) ∧
    (ringFull s k.val = true → ∃ t, exec (.ringIndexAdvance k true l) s = .next t ∧ ringDrop t k.val = (ringDrop s k.val + 1) % 2 ^ 32 ∧
      (a < ringBase s.dev k.val + 8 ∨ ringBase s.dev k.val + 12 ≤ a → Memory.get sramEmpty t.mem a = Memory.get sramEmpty s.mem a)) ∧
    (ringProd s k.val ≠ ringCons s k.val → ∃ t, exec (.ringIndexAdvance k false l) s = .next t ∧ ringCons t k.val = (ringCons s k.val + 1) % ringEntries s.dev k.val ∧
      (a < ringBase s.dev k.val + 4 ∨ ringBase s.dev k.val + 8 ≤ a → Memory.get sramEmpty t.mem a = Memory.get sramEmpty s.mem a)) ∧
    (ringProd s k.val = ringCons s k.val → ∃ t, exec (.ringIndexAdvance k false l) s = .next t ∧ t.mem = s.mem))

/-!  -/

/-- Slugs and traces (R501, R504 to R509, R514, R518, R521). A completed slug goes to its place in the slug queue and is counted in the folio; a full
queue loses its oldest slug with a fault. A sample due is appended to its trace and to trace staging; the trace is cut at its 32,768th sample, or
where it has no room. An anomalous trace is copied to its ring in order, a wrap being noted. A page is due FLUSHT after its oldest slug. The operating
time counts the minutes. -/
def Obligations.SlugsAndTraces : Prop :=
  ∀ (s : State) (a : AxisNo) (n : LeafNo), s.dev.alive = true →
    ((s.dev.mvx a.val).ended = [] → exec (.slugHandoff a) s = .next s) ∧
    (∀ b ∈ (s.dev.mvx a.val).ended.head?, a.val < 8 ∨ a.val - 8 < s.dev.rec_.smov.length →
      (s.dev.enabled pgREC = false → ∃ t, exec (.slugHandoff a) s = .next t ∧ (t.dev.mvx a.val).ended = (s.dev.mvx a.val).ended.tail ∧ t.dev.act = s.dev.act ∧ t.mem = s.mem) ∧
      (s.dev.enabled pgREC = true → ringActive s.dev (s.dev.get pgREC REC.SLUGCFG.PUBRING) = false →
        ∃ t, exec (.slugHandoff a) s = .next t ∧ (t.dev.mvx a.val).ended = (s.dev.mvx a.val).ended.tail ∧ t.mem = Memory.putL sramEmpty s.mem (slugPlace s.dev.rec_.qNext) b ∧
          t.dev.rec_.folio = folioCount b s.dev.rec_.folio ∧ t.dev.raised pgREC Ev.REC.SLUG = true ∧ t.dev.get pgREC REC.SEQS.LAST = max (slugGet b 8 4) (s.dev.get pgREC REC.SEQS.LAST) % 2 ^ REC.SEQS.LAST.w ∧
          t.dev.rec_.qNext = s.dev.rec_.qNext + 1 ∧
          (s.dev.rec_.queue.length < 4096 → t.dev.rec_.queue = s.dev.rec_.queue ++ [⟨slugGet b 8 4, s.dev.rec_.qNext, s.dev.tim.mot⟩]) ∧
          (s.dev.rec_.queue.length = 4096 → s.dev.rec_.op = none → t.dev.rec_.queue = s.dev.rec_.queue.tail ++ [⟨slugGet b 8 4, s.dev.rec_.qNext, s.dev.tim.mot⟩] ∧
            t.dev.raised pgREC Ev.REC.LOST = true ∧ t.dev.on pgREC REC.REC_STAT.FULL = true ∧ (s.dev.queueRoom = true → t.dev.entryOf pgREC Cz.REC.SLUGLOST 0xFF = true)))) ∧
    ((s.dev.trc n.val).on = true → n.val < s.dev.rec_.trace.length →
      ((s.dev.trc n.val).mot + 62500 * (s.dev.trc n.val).samples.length ≤ s.dev.tim.mot → (s.dev.trc n.val).buf.length + 4 ≤ 16384 →
        let y := if (s.dev.drv n.val).mode = mSERVO ∧ obsBlind s.dev n.val = false then satS 16 (Num.quo 118 (s.dev.ob n.val).y 65536) else 0x8000
        let w := y * 65536 + satS 16 ((s.dev.fbk n.val).p - (s.dev.trc n.val).lastP)
        ∃ t, exec (.traceSample n) s = .next t ∧ (t.dev.trc n.val).samples = (s.dev.trc n.val).samples ++ [w] ∧ (t.dev.trc n.val).buf = (s.dev.trc n.val).buf ++ leBytes 4 w ∧
          (t.dev.trc n.val).lastP = (s.dev.fbk n.val).p ∧ t.mem = (s.poke (stagingBase n.val + 4 * ((s.dev.trc n.val).samples.length % 4096)) 4 w).mem ∧
          ((s.dev.trc n.val).samples.length ≠ 32767 → (t.dev.trc n.val).on = true ∧ t.dev.act = s.dev.act) ∧
          ((s.dev.trc n.val).samples.length = 32767 → (t.dev.trc n.val).on = false ∧ (t.dev.trc n.val).trunc = true ∧ t.dev.raised pgREC Ev.REC.TRUNC = true)) ∧
      ((s.dev.trc n.val).mot + 62500 * (s.dev.trc n.val).samples.length ≤ s.dev.tim.mot → 16384 < (s.dev.trc n.val).buf.length + 4 →
        ∃ t, exec (.traceSample n) s = .next t ∧ (t.dev.trc n.val).on = false ∧ (t.dev.trc n.val).trunc = true ∧ t.dev.raised pgREC Ev.REC.TRUNC = true ∧
          t.dev.get pgREC REC.LOSTCNT.TRUNC = satInc REC.LOSTCNT.TRUNC.w (s.dev.get pgREC REC.LOSTCNT.TRUNC) ∧ t.mem = s.mem) ∧
      (s.dev.tim.mot < (s.dev.trc n.val).mot + 62500 * (s.dev.trc n.val).samples.length → exec (.traceSample n) s = .next s)) ∧
    ((s.dev.trc n.val).on = false → exec (.traceSample n) s = .next s) ∧
    (s.dev.rec_.tcopy = [] → exec .traceCopy s = .next s) ∧
    (∀ c ∈ s.dev.rec_.tcopy.head?, ∃ t, exec .traceCopy s = .next t ∧ t.dev.rec_.tcopy = s.dev.rec_.tcopy.tail ∧ t.dev.rec_.anom = s.dev.rec_.anom ++ c.2 ∧ t.mem = s.mem ∧
      (s.dev.rec_.nand.anom.wrapped = true → t.dev.raised pgREC Ev.REC.ANOMWRAP = true ∧ t.dev.raised pgFLT Ev.FLT.INFO = true ∧
        t.dev.get pgREC REC.ANOMCNT.WRAP = satInc REC.ANOMCNT.WRAP.w (s.dev.get pgREC REC.ANOMCNT.WRAP))) ∧
    (s.dev.rec_.queue = [] → exec .slugPageFlush s = .next s) ∧
    (∀ q ∈ s.dev.rec_.queue.head?,
      (q.at_ + msMot (1000 * s.dev.get pgREC REC.SLUGCFG.FLUSHT) ≤ s.dev.tim.mot → ∃ t, exec .slugPageFlush s = .next t ∧ t.dev.rec_.pageDue = true ∧ t.dev.rec_.queue = s.dev.rec_.queue ∧
        t.dev.act = s.dev.act ∧ t.mem = s.mem) ∧
      (s.dev.tim.mot < q.at_ + msMot (1000 * s.dev.get pgREC REC.SLUGCFG.FLUSHT) → exec .slugPageFlush s = .next s)) ∧
    (s.dev.enabled pgREC = true → ∃ t, exec .operatingTimeMinute s = .next t ∧ t.dev.rec_.folio.minutes = s.dev.rec_.folio.minutes + 1 ∧
      t.dev.rec_.folio.dirty = true ∧ t.dev.act = s.dev.act ∧ t.mem = s.mem) ∧
    (s.dev.enabled pgREC = false → exec .operatingTimeMinute s = .next s)

/-- The record memory (R511 to R515, R523, R524). The engine's next operation starts when the hold-up check passes, and is deferred, counted and noted
when it does not; a page completed moves STORED on and leaves the queue; a block that fails goes to a spare, and without a spare, or an answer,
storage stops. At start-up the header's layout is taken, a memory without one is formatted; a format writes both header copies. -/
def Obligations.RecordMemory : Prop :=
  ∀ (s : State) (v : W16), s.dev.alive = true →
    (nextOp s.dev = none → exec (.slugPageWrite v) s = .next s) ∧
    (∀ o ∈ nextOp s.dev, opFree s.dev o = true →
      (holdPass s.dev v.toNat o = true → ∃ t, exec (.slugPageWrite v) s = .next t ∧ t.dev.rec_.op.isSome = true ∧ t.dev.rec_.defer = none ∧ t.mem = s.mem ∧ t.xs0 = s.xs0 ∧
        (o = .erase 0 → t.xs1 = Memory.erase (nandPhys s.dev.rec_.nand (eraseBlk s.dev.rec_.nand.slug) * 131072) 131072 s.xs1) ∧
        (o = .slugPage (slugPageSize s.dev) → t.xs1 = Memory.program s.xs1 (nandAddr s.dev.rec_.nand (ringHeadBlk s.dev.rec_.nand.slug) (ringHeadPage s.dev.rec_.nand.slug))
          ((s.dev.rec_.queue.take (slugPageSize s.dev)).flatMap (slugOf s)))) ∧
      (holdPass s.dev v.toNat o = false → ∃ t, exec (.slugPageWrite v) s = .next t ∧ t.dev.rec_.defer = some (o, s.dev.tim.mot, s.dev.tim.mot) ∧ t.dev.raised pgREC Ev.REC.DEFER = true ∧
        t.dev.get pgREC REC.DEFCNT.COUNT = (s.dev.get pgREC REC.DEFCNT.COUNT + 1) % 2 ^ REC.DEFCNT.COUNT.w ∧ t.dev.on pgREC REC.REC_STAT.DEFER = true ∧ t.mem = s.mem ∧ t.xs0 = s.xs0 ∧ t.xs1 = s.xs1)) ∧
    (s.dev.rec_.op = none → ∀ b c : Bool, exec (.nandOperationComplete b c v) s = .next s) ∧
    (∀ x ∈ s.dev.rec_.op,
      (x.1 = .slugPage 32 → ∃ t, exec (.nandOperationComplete true true v) s = .next t ∧ t.dev.rec_.queue = s.dev.rec_.queue.drop 32 ∧
        t.dev.get pgREC REC.STORED.SEQ = (s.dev.rec_.queue.take 32).foldl (fun m q => max m q.seq) (s.dev.get pgREC REC.STORED.SEQ) % 2 ^ REC.STORED.SEQ.w ∧ t.mem = s.mem ∧ t.xs0 = s.xs0) ∧
      (s.dev.queueRoom = true → ∃ t, exec (.nandOperationComplete true false v) s = .next t ∧ t.dev.on pgREC REC.REC_STAT.MEMFAIL = true ∧ t.dev.raised pgREC Ev.REC.MEMFAIL = true ∧
        t.dev.entryOf pgREC Cz.REC.MEMFAIL 0xFF = true ∧ t.dev.rec_.queue = s.dev.rec_.queue ∧ t.mem = s.mem ∧ t.xs1 = s.xs1) ∧
      (s.dev.rec_.nand.spareAt < nandBlocks s.dev → ∃ t, exec (.nandOperationComplete false true v) s = .next t ∧ (x.2, s.dev.rec_.nand.spareAt) ∈ t.dev.rec_.nand.bad ∧
        t.dev.raised pgREC Ev.REC.BADBLK = true ∧ t.dev.get pgREC REC.ANOMCNT.BAD = (s.dev.get pgREC REC.ANOMCNT.BAD + 1) % 2 ^ REC.ANOMCNT.BAD.w ∧ t.mem = s.mem ∧ t.xs0 = s.xs0) ∧
      (nandBlocks s.dev ≤ s.dev.rec_.nand.spareAt → s.dev.queueRoom = true → ∃ t, exec (.nandOperationComplete false true v) s = .next t ∧ t.dev.on pgREC REC.REC_STAT.MEMFAIL = true ∧
        t.dev.entryOf pgREC Cz.REC.MEMFAIL 0xFF = true ∧ t.mem = s.mem ∧ t.xs1 = s.xs1)) ∧
    ((s.dev.enabled pgREC = false ∨ s.dev.on pgREC REC.REC_STAT.RUN = true ∨ s.dev.on pgREC REC.REC_STAT.MEMFAIL = true) → exec (.recordMemoryRun v) s = .next s) ∧
    (s.dev.enabled pgREC = true → s.dev.on pgREC REC.REC_STAT.RUN = false → s.dev.on pgREC REC.REC_STAT.MEMFAIL = false →
      (∀ h ∈ nandHeaderOf s, ∃ t, exec (.recordMemoryRun v) s = .next t ∧ t.dev.on pgREC REC.REC_STAT.RUN = true ∧ t.dev.get pgREC HDR.STATE = 2 ∧ t.dev.rec_.nand.bad = h.2.1 ∧
        t.dev.rec_.nand.slug.blks = h.1.1 ∧ t.dev.rec_.nand.clean.blks = h.1.2.1 ∧ t.dev.rec_.nand.anom.blks = h.1.2.2 ∧ t.mem = s.mem ∧ t.xs1 = s.xs1 ∧
        (h.1.1 ≠ s.dev.get pgREC REC.LAYOUT.SLUGBLK → s.dev.queueRoom = true → t.dev.on pgREC REC.REC_STAT.LAYMIS = true ∧ t.dev.raised pgREC Ev.REC.LAYMIS = true ∧
          t.dev.entryOf pgREC Cz.REC.LAYMIS 0xFF = true)) ∧
      (nandHeaderOf s = none → opFree s.dev .format = true → holdPass s.dev v.toNat .format = true → ∃ t, exec (.recordMemoryRun v) s = .next t ∧ t.dev.on pgREC REC.REC_STAT.RUN = true ∧
        t.dev.rec_.nand.slug.blks = s.dev.get pgREC REC.LAYOUT.SLUGBLK ∧ t.dev.rec_.nand.fmtDt = s.dev.dt ∧
        t.xs1 = Memory.program (Memory.program [] 0 (nandHeader t.dev.rec_.nand)) 131072 (nandHeader t.dev.rec_.nand) ∧ t.mem = s.mem) ∧
      (nandHeaderOf s = none → opFree s.dev .format = true → holdPass s.dev v.toNat .format = false → ∃ t, exec (.recordMemoryRun v) s = .next t ∧ t.dev.on pgREC REC.REC_STAT.RUN = false ∧ t.dev.rec_.defer = some (.format, s.dev.tim.mot, s.dev.tim.mot) ∧
        t.mem = s.mem ∧ t.xs1 = s.xs1)) ∧
    (s.dev.on pgREC REC.REC_CTRL.FORMAT = true → opFree s.dev .format = true → s.dev.on pgREC REC.REC_STAT.RUN = true → holdPass s.dev v.toNat .format = true →
      ∃ t, exec (.recCtrlFormat v) s = .next t ∧ t.dev.on pgREC REC.REC_CTRL.FORMAT = false ∧ t.dev.on pgREC REC.REC_STAT.LAYMIS = false ∧ t.dev.rec_.nand.slug.blks = s.dev.get pgREC REC.LAYOUT.SLUGBLK ∧
        t.dev.rec_.nand.slug.head = 0 ∧ t.xs1 = Memory.program (Memory.program [] 0 (nandHeader t.dev.rec_.nand)) 131072 (nandHeader t.dev.rec_.nand) ∧ t.mem = s.mem) ∧
    ((s.dev.on pgREC REC.REC_CTRL.FORMAT = false ∨ s.dev.on pgREC REC.REC_STAT.RUN = false) → exec (.recCtrlFormat v) s = .next s)

/-- Hold-up and the 8D's own writes (R517 to R519, R524, R537). A deferred operation tries again every millisecond and starts when the check passes; ten
seconds deferred are noted once. A changed folio is written FOLIOT after its last record, a stable kerning table KTSAVE seconds after its last save,
its first 256 bytes beginning the record. A read request is answered in its ring with the half page, or with its status alone. -/
def Obligations.HoldUpAndOwnWrites : Prop :=
  ∀ (s : State) (v : W16) (n : LeafNo) (u : Bool), s.dev.alive = true →
    (s.dev.rec_.defer = none → exec (.holdupRetry v) s = .next s ∧ exec .holddef s = .next s) ∧
    (∀ x ∈ s.dev.rec_.defer,
      (s.dev.tim.mot < x.2.2 + msMot 1 → exec (.holdupRetry v) s = .next s) ∧
      (x.2.2 + msMot 1 ≤ s.dev.tim.mot → holdPass s.dev v.toNat x.1 = false → ∃ t, exec (.holdupRetry v) s = .next t ∧ t.dev.rec_.defer = some (x.1, x.2.1, s.dev.tim.mot) ∧
        t.dev.get pgREC REC.HOLDMEAS.VHOLD = v.toNat % 2 ^ REC.HOLDMEAS.VHOLD.w ∧ t.mem = s.mem ∧ t.xs0 = s.xs0 ∧ t.xs1 = s.xs1) ∧
      (x.2.2 + msMot 1 ≤ s.dev.tim.mot → holdPass s.dev v.toNat x.1 = true → ∃ t, exec (.holdupRetry v) s = .next t ∧ t.dev.rec_.defer = none ∧ t.mem = s.mem ∧
        (x.1.onXs0 = true → t.dev.rec_.xop = some x.1 ∧ t.xs1 = s.xs1) ∧ (x.1.onXs0 = false → t.dev.rec_.op.isSome = true ∧ t.xs0 = s.xs0)) ∧
      (s.dev.rec_.defRep = false → s.dev.get pgREC REC.HOLD.HOLDC ≠ 0 → x.2.1 + msMot 10000 < s.dev.tim.mot → ∃ t, exec .holddef s = .next t ∧ t.dev.rec_.defRep = true ∧
        t.dev.get pgFLT FLT.INFO.ENTRY = entryVal 0 pgREC 0xFF Cz.REC.HOLDDEF.code ∧ t.dev.raised pgFLT Ev.FLT.INFO = true ∧ t.mem = s.mem) ∧
      ((s.dev.rec_.defRep = true ∨ s.dev.tim.mot ≤ x.2.1 + msMot 10000) → exec .holddef s = .next s)) ∧
    (s.dev.rec_.todo.find? MemOp.onXs0 = none →
      (s.dev.enabled pgREC = true → s.dev.rec_.folio.dirty = true → s.dev.rec_.folio.at_ + msMot (1000 * s.dev.get pgREC REC.FOLCFG.FOLIOT) ≤ s.dev.tim.mot → opFree s.dev .folio = true →
        holdPass s.dev v.toNat .folio = true → ∃ t, exec (.folioWrite v) s = .next t ∧ t.dev.rec_.xop = some .folio ∧ t.dev.rec_.folio.fseq = s.dev.rec_.folio.fseq + 1 ∧ t.dev.rec_.folio.dirty = false ∧
          t.xs0 = Memory.program s.xs0 (folioAddr s.dev s.dev.rec_.folio.next) (folioBytes s.dev.rec_.folio (s.dev.rec_.folio.fseq + 1)) ∧ t.mem = s.mem ∧ t.xs1 = s.xs1) ∧
      ((s.dev.rec_.folio.dirty = false ∨ s.dev.tim.mot < s.dev.rec_.folio.at_ + msMot (1000 * s.dev.get pgREC REC.FOLCFG.FOLIOT)) → exec (.folioWrite v) s = .next s)) ∧
    (s.dev.part.hasLeaf n.val = true → opFree s.dev (.kern n.val 0) = true → kernBusy s.dev = false → holdPass s.dev v.toNat (.kern n.val 0) = true → s.dev.get (pgOBS n.val) OBS.KTVER.VER % 2 = 0 →
      nth s.dev.rec_.savedVer n.val none ≠ some (s.dev.get (pgOBS n.val) OBS.KTVER.VER) →
      (∀ t0 ∈ nth s.dev.rec_.savedAt n.val none, t0 + msMot (1000 * s.dev.get pgCFG CFG.KT_CFG.KTSAVE) ≤ s.dev.tim.mot) →
      ∃ t, exec (.kerningRecordSave n v) s = .next t ∧ t.dev.rec_.xop = some (.kern n.val 0) ∧ t.dev.rec_.kernBuf = kernBytes s.dev n.val ∧ t.xs0 = Memory.program s.xs0 (kernAddr s.dev.rec_.kernNext) ((kernBytes s.dev n.val).take 256) ∧ t.mem = s.mem ∧ t.xs1 = s.xs1) ∧
    ((s.dev.get (pgOBS n.val) OBS.KTVER.VER % 2 = 1 ∨ nth s.dev.rec_.savedVer n.val none = some (s.dev.get (pgOBS n.val) OBS.KTVER.VER)) → exec (.kerningRecordSave n v) s = .next s) ∧
    (let q := s.dev.get pgREC REC.RDRINGS.REQRING
     let p := s.dev.get pgREC REC.RDRINGS.RSPRING
     ((s.dev.rec_.op.isSome = true ∨ ringNext s q = none) → exec (.recordReadRequest u) s = .next s) ∧
     (ringActive s.dev q = true → ringActive s.dev p = true → s.dev.enabled pgREC = true → s.dev.rec_.op = none → (s.dev.rec_.defer.isSome || s.dev.on pgREC REC.REC_STAT.MEMFAIL || (nextOp s.dev).isNone) = true → Memory.wf sramEmpty s.mem = true →
       ((ringSpan s.dev q).2 ≤ (ringSpan s.dev p).1 ∨ (ringSpan s.dev p).2 ≤ (ringSpan s.dev q).1) → ringProd s q < ringEntries s.dev q → ringCons s q < ringEntries s.dev q →
       ringProd s p < ringEntries s.dev p → ringFull s p = false → 1040 ≤ ringSize s.dev p →
       ∀ a ∈ ringNext s q, ∃ t, exec (.recordReadRequest u) s = .next t ∧ t.dev = s.dev ∧ t.xs1 = s.xs1 ∧ ringCons t q = (ringCons s q + 1) % ringEntries s.dev q ∧
         ringProd t p = (ringProd s p + 1) % ringEntries s.dev p ∧
         (nandBlocks s.dev ≤ s.peek a 4 → t.peek (ringEntry s.dev p (ringProd s p)) 4 = 1036 + 2 * 65536) ∧
         (s.peek a 4 < nandBlocks s.dev → s.peek (a + 4) 4 < 64 → s.peek (a + 8) 4 < 2 → t.peek (ringEntry s.dev p (ringProd s p)) 4 = 1036 + (if u then 1 else 0) * 65536 ∧
           Memory.getL sramEmpty t.mem (ringEntry s.dev p (ringProd s p) + 16) 1024 =
             Memory.getL flashEmpty s.xs1 (s.peek a 4 * 131072 + s.peek (a + 4) 4 * 2048 + s.peek (a + 8) 4 * 1024) 1024)))

/-!  -/

/-- The frame of every drive, profile, Observer, feedback, sequencer and step command: with no upset waiting in the memories (R42), it changes no part of
the state and no register cell, active or staged, and no memory beyond those that its table lists; where it orders device safe halt, what that writes
comes in addition (R381). -/
def Obligations.MotionFrames : Prop :=
  ∀ (s t : State) (c : Instr), s.clean → exec c s = .next t → ∀ l ∈ touchesMotion c, SameBut (if t.dev.flt.halt = s.dev.flt.halt then l else l ++ haltTouch) s t

/-- The frame of every Platen, interlock, IMDEL, reset and supply command: with no upset waiting in the memories (R42), it changes no part of the state
and no register cell, active or staged, and no memory beyond those that its table lists; where it orders device safe halt, what that writes comes in
addition (R381). -/
def Obligations.SafetyFrames : Prop :=
  ∀ (s t : State) (c : Instr), s.clean → exec c s = .next t → ∀ l ∈ touchesSafety c, SameBut (if t.dev.flt.halt = s.dev.flt.halt then l else l ++ haltTouch) s t

/-- The frame of every register, field-die and configuration command: with no upset waiting in the memories (R42), it changes no part of the state and no
register cell, active or staged, and no memory beyond those that its table lists; where it orders device safe halt, what that writes comes in addition
(R381). -/
def Obligations.RegisterFrames : Prop :=
  ∀ (s t : State) (c : Instr), s.clean → exec c s = .next t → ∀ l ∈ touchesRegisters c, SameBut (if t.dev.flt.halt = s.dev.flt.halt then l else l ++ haltTouch) s t

/-- The frame of every forme command: with no upset waiting in the memories (R42), it changes no part of the state and no register cell, active or staged,
and no memory beyond those that its table lists; where it orders device safe halt, what that writes comes in addition (R381). -/
def Obligations.FormeFrames : Prop :=
  ∀ (s t : State) (c : Instr), s.clean → exec c s = .next t → ∀ l ∈ touchesForme c, SameBut (if t.dev.flt.halt = s.dev.flt.halt then l else l ++ haltTouch) s t

/-- The frame of every network and record command: with no upset waiting in the memories (R42), it changes no part of the state and no register cell,
active or staged, and no memory beyond those that its table lists; where it orders device safe halt, what that writes comes in addition (R381). -/
def Obligations.NetworkFrames : Prop :=
  ∀ (s t : State) (c : Instr), s.clean → exec c s = .next t → ∀ l ∈ touchesNetwork c, SameBut (if t.dev.flt.halt = s.dev.flt.halt then l else l ++ haltTouch) s t

/-- The rows that are one access to a register, from whichever source (R44, R46, R51): each acts as a write of the word that holds its command, at the
address of its register, and the read of `DT_LO` as that read. -/
def Obligations.RowsAreAccesses : Prop :=
  ∀ (s : State) (src : Src) (page lmask m8 : BitVec 8) (val a : W32) (cpsel m4 : BitVec 4) (leaf : LeafNo) (step : StepNo) (axis : AxisNo) (set slot : Fin 4) (m2 : BitVec 2) (die : DieNo) (m6 : BitVec 6) (kind : Fin 8) (atSlot copy half : Bool),
    exec (.evSetWrite src page val) s = exec (.registerWrite src (BitVec.ofNat 32 (0x4000002C + 0x1000 * page.toNat)) 4 val) s ∧
    exec (.shCtrlCommit src page cpsel) s = exec (.registerWrite src (BitVec.ofNat 32 (0x40000030 + 0x1000 * page.toNat)) 4 (BitVec.ofNat 32 (16 * cpsel.toNat + 1))) s ∧
    exec (.shCtrlAbort src page) s = exec (.registerWrite src (BitVec.ofNat 32 (0x40000030 + 0x1000 * page.toNat)) 4 (BitVec.ofNat 32 (16 * s.dev.get page.toNat HDR.CPSEL + 2))) s ∧
    exec (.drvCtrlCal src leaf) s = exec (.registerWrite src (BitVec.ofNat 32 (0x40010088 + 0x1000 * leaf.val)) 4 1#32) s ∧
    exec (.stepDrvCtrlCal src step) s = exec (.registerWrite src (BitVec.ofNat 32 (0x40030070 + 0x1000 * step.val)) 4 1#32) s ∧
    exec (.drvCtrlClrlatch src axis) s = exec (.registerWrite src (BitVec.ofNat 32 (if axis.val < 8 then 0x40010088 + 0x1000 * axis.val else 0x40030070 + 0x1000 * (axis.val - 8))) 4 2#32) s ∧
    exec (.drvCtrlClrcnt src axis) s = exec (.registerWrite src (BitVec.ofNat 32 (if axis.val < 8 then 0x40010088 + 0x1000 * axis.val else 0x40030070 + 0x1000 * (axis.val - 8))) 4 4#32) s ∧
    exec (.moveCmdGo src leaf set) s = exec (.registerWrite src (BitVec.ofNat 32 (0x40010174 + 0x1000 * leaf.val)) 4 (BitVec.ofNat 32 (16 + set.val))) s ∧
    exec (.moveCmdStop src leaf) s = exec (.registerWrite src (BitVec.ofNat 32 (0x40010174 + 0x1000 * leaf.val)) 4 32#32) s ∧
    exec (.moveCmdQstop src leaf) s = exec (.registerWrite src (BitVec.ofNat 32 (0x40010174 + 0x1000 * leaf.val)) 4 64#32) s ∧
    exec (.moveCmdHstop src leaf) s = exec (.registerWrite src (BitVec.ofNat 32 (0x40010174 + 0x1000 * leaf.val)) 4 128#32) s ∧
    exec (.spqAPush src leaf a) s = exec (.registerWrite src (BitVec.ofNat 32 (0x4001016C + 0x1000 * leaf.val)) 4 a) s ∧
    exec (.obsCtrlRebase src leaf) s = exec (.registerWrite src (BitVec.ofNat 32 (0x400180D8 + 0x1000 * leaf.val)) 4 2#32) s ∧
    exec (.obsCtrlClrdet src leaf) s = exec (.registerWrite src (BitVec.ofNat 32 (0x400180D8 + 0x1000 * leaf.val)) 4 1#32) s ∧
    exec (.posCtrlSetref src axis) s = exec (.registerWrite src (BitVec.ofNat 32 (0x40020064 + 0x1000 * axis.val)) 4 1#32) s ∧
    exec (.posCtrlClrflt src axis) s = exec (.registerWrite src (BitVec.ofNat 32 (0x40020064 + 0x1000 * axis.val)) 4 2#32) s ∧
    exec (.posCtrlClrcnt src axis) s = exec (.registerWrite src (BitVec.ofNat 32 (0x40020064 + 0x1000 * axis.val)) 4 4#32) s ∧
    exec (.seqCmdOpen src leaf) s = exec (.registerWrite src (BitVec.ofNat 32 (0x40010240 + 0x1000 * leaf.val)) 4 1#32) s ∧
    exec (.seqCmdClose src leaf) s = exec (.registerWrite src (BitVec.ofNat 32 (0x40010240 + 0x1000 * leaf.val)) 4 2#32) s ∧
    exec (.seqCmdLearn src leaf) s = exec (.registerWrite src (BitVec.ofNat 32 (0x40010240 + 0x1000 * leaf.val)) 4 4#32) s ∧
    exec (.seqCmdRefrun src leaf) s = exec (.registerWrite src (BitVec.ofNat 32 (0x40010240 + 0x1000 * leaf.val)) 4 8#32) s ∧
    exec (.seqCmdAck src leaf) s = exec (.registerWrite src (BitVec.ofNat 32 (0x40010240 + 0x1000 * leaf.val)) 4 16#32) s ∧
    exec (.seqCmdClrsusp src leaf) s = exec (.registerWrite src (BitVec.ofNat 32 (0x40010240 + 0x1000 * leaf.val)) 4 32#32) s ∧
    exec (.stpCmdExtend src step) s = exec (.registerWrite src (BitVec.ofNat 32 (0x40030200 + 0x1000 * step.val)) 4 1#32) s ∧
    exec (.stpCmdRetract src step) s = exec (.registerWrite src (BitVec.ofNat 32 (0x40030200 + 0x1000 * step.val)) 4 2#32) s ∧
    exec (.stpCmdInhibit src step) s = exec (.registerWrite src (BitVec.ofNat 32 (0x40030200 + 0x1000 * step.val)) 4 4#32) s ∧
    exec (.stpCmdUninh src step) s = exec (.registerWrite src (BitVec.ofNat 32 (0x40030200 + 0x1000 * step.val)) 4 8#32) s ∧
    exec (.stpCmdHome src step) s = exec (.registerWrite src (BitVec.ofNat 32 (0x40030200 + 0x1000 * step.val)) 4 16#32) s ∧
    exec (.stpCmdAck src step) s = exec (.registerWrite src (BitVec.ofNat 32 (0x40030200 + 0x1000 * step.val)) 4 32#32) s ∧
    exec (.stpCmdStop src step) s = exec (.registerWrite src (BitVec.ofNat 32 (0x40030200 + 0x1000 * step.val)) 4 64#32) s ∧
    exec (.stpCmdQstop src step) s = exec (.registerWrite src (BitVec.ofNat 32 (0x40030200 + 0x1000 * step.val)) 4 128#32) s ∧
    exec (.stpCmdHstop src step) s = exec (.registerWrite src (BitVec.ofNat 32 (0x40030200 + 0x1000 * step.val)) 4 256#32) s ∧
    exec (.stpCmdClrsusp src step) s = exec (.registerWrite src (BitVec.ofNat 32 (0x40030200 + 0x1000 * step.val)) 4 512#32) s ∧
    exec (.safeCtrlTclr src) s = exec (.registerWrite src 0x40038080#32 4 (BitVec.ofNat 32 (256 * s.dev.get pgSAFE SAFE.SAFE_CTRL.LMASK + 16))) s ∧
    exec (.safeCtrlDclr src) s = exec (.registerWrite src 0x40038080#32 4 (BitVec.ofNat 32 (256 * s.dev.get pgSAFE SAFE.SAFE_CTRL.LMASK + 1))) s ∧
    exec (.safeCtrlMclr src) s = exec (.registerWrite src 0x40038080#32 4 (BitVec.ofNat 32 (256 * s.dev.get pgSAFE SAFE.SAFE_CTRL.LMASK + 4))) s ∧
    exec (.safeCtrlGclr src lmask) s = exec (.registerWrite src 0x40038080#32 4 (BitVec.ofNat 32 (256 * lmask.toNat + 2))) s ∧
    exec (.safeCtrlHtreq src lmask) s = exec (.registerWrite src 0x40038080#32 4 (BitVec.ofNat 32 (256 * lmask.toNat + 8))) s ∧
    exec (.svcKick src m2) s = exec (.registerWrite src 0x4000404C#32 4 (BitVec.ofNat 32 (m2.toNat))) s ∧
    exec (.dtsetCtrlSet src) s = exec (.registerWrite src 0x40004058#32 4 1#32) s ∧
    exec (.fltAck src val) s = exec (.registerWrite src 0x40002054#32 4 val) s ∧
    exec (.taskCtrlClrcnt src) s = exec (.registerWrite src 0x40005088#32 4 1#32) s ∧
    exec (.tpoClr src die m4) s = exec (.registerWrite src (BitVec.ofNat 32 (0x400400A8 + 0x1000 * die.val)) 4 (BitVec.ofNat 32 (m4.toNat))) s ∧
    exec (.doClr src die m8) s = exec (.registerWrite src (BitVec.ofNat 32 (0x40040098 + 0x1000 * die.val)) 4 (BitVec.ofNat 32 (m8.toNat))) s ∧
    exec (.lsClrClr src die m6) s = exec (.registerWrite src (BitVec.ofNat 32 (0x40042064 + 0x1000 * die.val)) 4 (BitVec.ofNat 32 (m6.toNat))) s ∧
    exec (.lsClrClrth src die m6) s = exec (.registerWrite src (BitVec.ofNat 32 (0x40042064 + 0x1000 * die.val)) 4 (BitVec.ofNat 32 (256 * m6.toNat))) s ∧
    exec (.lkClr src die m4) s = exec (.registerWrite src (BitVec.ofNat 32 (0x400400C4 + 0x1000 * die.val)) 4 (BitVec.ofNat 32 (m4.toNat))) s ∧
    exec (.fioCtrlRelease src die) s = exec (.registerWrite src (BitVec.ofNat 32 (0x400400C8 + 0x1000 * die.val)) 4 1#32) s ∧
    exec (.cfgCtrlSwitch src) s = exec (.registerWrite src 0x40007048#32 4 1#32) s ∧
    exec (.cfgCtrlRstreq src) s = exec (.registerWrite src 0x40007048#32 4 2#32) s ∧
    exec (.cfgCtrlCancel src) s = exec (.registerWrite src 0x40007048#32 4 4#32) s ∧
    exec (.cfgCtrlConfirm src) s = exec (.registerWrite src 0x40007048#32 4 8#32) s ∧
    exec (.verCtrlGo src kind atSlot copy half) s = exec (.registerWrite src 0x40008054#32 4 (BitVec.ofNat 32 (128 + 16 * kind.val + 8 * b2n atSlot + 4 * b2n copy + 2 * b2n half))) s ∧
    exec (.secCtrlPolinst src) s = exec (.registerWrite src 0x40008060#32 4 1#32) s ∧
    exec (.secCtrlRollfwd src) s = exec (.registerWrite src 0x40008060#32 4 2#32) s ∧
    exec (.secCtrlUnlock src) s = exec (.registerWrite src 0x40008060#32 4 4#32) s ∧
    exec (.nkeyctrlWr src slot) s = exec (.registerWrite src 0x40008080#32 4 (BitVec.ofNat 32 (256 + slot.val))) s ∧
    exec (.sysDtLoRead src) s = exec (.registerRead src 0x40000050#32 4) s
end

