-- ==== Sys2Proof/Laws/Memory.lean ====
section
/-! SUPPORT. Reading after writing, and the canonical form: what every memory operation and every register-store operation
does to any address or key. -/

namespace Sys2Proof.Machine

/-! Byte memories. -/

/-- Below its first cell a canonical memory reads as unlisted. -/
theorem Memory.get_below (e : Byte) (m : Memory) (lo a : Nat) (h : m.wfFrom e lo = true) (ha : a < lo) : m.get e a = e := by
  induction m generalizing lo with
  | nil => rfl
  | cons c m ih =>
    simp only [Memory.wfFrom, Bool.and_eq_true, decide_eq_true_eq] at h
    have hc : c.1 ≠ a := by omega
    simp only [Memory.get, if_neg hc]
    exact ih _ h.2 (by omega)

theorem Memory.get_put_same (e : Byte) (m : Memory) (lo a : Nat) (v : Byte) (h : m.wfFrom e lo = true) :
    (m.put e a v).get e a = v := by
  induction m generalizing lo with
  | nil => unfold Memory.put; split <;> simp_all [Memory.get]
  | cons c m ih =>
    obtain ⟨x, b⟩ := c
    simp only [Memory.wfFrom, Bool.and_eq_true, decide_eq_true_eq] at h
    unfold Memory.put
    split
    · split
      · subst v
        have hx : x ≠ a := by omega
        simp only [Memory.get, if_neg hx]
        exact Memory.get_below e m _ a h.2 (by omega)
      · simp [Memory.get]
    · split
      · split
        · subst v
          exact Memory.get_below e m _ a h.2 (by omega)
        · simp [Memory.get]
      · have hx : x ≠ a := fun hx => by omega
        simp only [Memory.get, if_neg hx]
        exact ih _ h.2

theorem Memory.get_put_ne (e : Byte) (m : Memory) (a a' : Nat) (v : Byte) (h : a' ≠ a) :
    (m.put e a v).get e a' = m.get e a' := by
  induction m with
  | nil => unfold Memory.put; split <;> simp [Memory.get, Ne.symm h]
  | cons c m ih =>
    obtain ⟨x, b⟩ := c
    unfold Memory.put
    split
    · split <;> simp [Memory.get, Ne.symm h]
    · split
      · rename_i hx; subst hx
        split <;> simp [Memory.get, Ne.symm h]
      · simp only [Memory.get, ih]

theorem Memory.wfFrom_mono (e : Byte) (m : Memory) (lo lo' : Nat) (h : m.wfFrom e lo = true) (hl : lo' ≤ lo) :
    m.wfFrom e lo' = true := by
  cases m with
  | nil => rfl
  | cons c m =>
    simp only [Memory.wfFrom, Bool.and_eq_true, decide_eq_true_eq] at h ⊢
    exact ⟨⟨by omega, h.1.2⟩, h.2⟩

theorem Memory.wfFrom_put (e : Byte) (m : Memory) (lo a : Nat) (v : Byte) (h : m.wfFrom e lo = true) (ha : lo ≤ a) :
    (m.put e a v).wfFrom e lo = true := by
  induction m generalizing lo with
  | nil => unfold Memory.put; split <;> simp_all [Memory.wfFrom]
  | cons c m ih =>
    obtain ⟨x, b⟩ := c
    have h' := h
    simp only [Memory.wfFrom, Bool.and_eq_true, decide_eq_true_eq] at h
    unfold Memory.put
    split
    · split
      · exact h'
      · simp only [Memory.wfFrom, Bool.and_eq_true, decide_eq_true_eq]
        exact ⟨⟨by omega, by assumption⟩, ⟨by omega, h.1.2⟩, h.2⟩
    · split
      · split
        · exact Memory.wfFrom_mono e m _ _ h.2 (by omega)
        · simp only [Memory.wfFrom, Bool.and_eq_true, decide_eq_true_eq]
          rename_i h1 h2 h3
          subst h2
          exact ⟨⟨by omega, h3⟩, h.2⟩
      · simp only [Memory.wfFrom, Bool.and_eq_true, decide_eq_true_eq]
        exact ⟨h.1, ih _ h.2 (by omega)⟩

/-- Storing a byte keeps the canonical form. -/
theorem Memory.wf_put (e : Byte) (m : Memory) (a : Nat) (v : Byte) (h : m.wf e = true) : (m.put e a v).wf e = true :=
  Memory.wfFrom_put e m 0 a v h (Nat.zero_le a)

/-- Reading the byte stored at an address of a canonical memory. -/
theorem Memory.get_put (e : Byte) (m : Memory) (a a' : Nat) (v : Byte) (h : m.wf e = true) :
    (m.put e a v).get e a' = if a' = a then v else m.get e a' := by
  split
  · subst_vars; exact Memory.get_put_same e m 0 a' v h
  · exact Memory.get_put_ne e m a a' v (by assumption)

theorem Memory.wf_putL (e : Byte) (l : List Nat) (m : Memory) (a : Nat) (h : m.wf e = true) : (m.putL e a l).wf e = true := by
  induction l generalizing m a with
  | nil => exact h
  | cons v l ih => exact ih _ _ (Memory.wf_put e m a _ h)

theorem Memory.wf_putW (e : Byte) (m : Memory) (a n v : Nat) (h : m.wf e = true) : (m.putW e a n v).wf e = true :=
  Memory.wf_putL e _ m a h

/-- A byte outside those stored reads as before. -/
theorem Memory.get_putL_ne (e : Byte) (l : List Nat) (m : Memory) (a a' : Nat) (h : a' < a ∨ a + l.length ≤ a') :
    (m.putL e a l).get e a' = m.get e a' := by
  induction l generalizing m a with
  | nil => rfl
  | cons v l ih =>
    rw [List.length_cons] at h
    unfold Memory.putL
    rw [ih _ _ (by omega), Memory.get_put_ne _ _ _ _ _ (by omega)]

theorem leBytes_length (n v : Nat) : (leBytes n v).length = n := by
  induction n generalizing v with
  | zero => rfl
  | succ n ih => simp [leBytes, ih]

theorem Memory.get_putW_ne (e : Byte) (m : Memory) (a n v a' : Nat) (h : a' < a ∨ a + n ≤ a') :
    (m.putW e a n v).get e a' = m.get e a' :=
  Memory.get_putL_ne e _ m a a' (by rw [leBytes_length]; exact h)

theorem Memory.wf_program (l : List Nat) (m : Memory) (a : Nat) (h : m.wf flashEmpty = true) :
    (m.program a l).wf flashEmpty = true := by
  induction l generalizing m a with
  | nil => exact h
  | cons v l ih => exact ih _ _ (Memory.wf_put flashEmpty m a _ h)

theorem Memory.wfFrom_filter (e : Byte) (p : Host.Cell → Bool) (m : Memory) (lo : Nat) (h : m.wfFrom e lo = true) :
    Memory.wfFrom e lo (m.filter p) = true := by
  induction m generalizing lo with
  | nil => rfl
  | cons c m ih =>
    obtain ⟨x, b⟩ := c
    have h' := h
    simp only [Memory.wfFrom, Bool.and_eq_true, decide_eq_true_eq] at h
    rw [List.filter_cons]
    split
    · simp only [Memory.wfFrom, Bool.and_eq_true, decide_eq_true_eq]
      exact ⟨h.1, ih _ h.2⟩
    · exact Memory.wfFrom_mono e _ _ _ (ih _ h.2) (by omega)

theorem Memory.wf_erase (e : Byte) (a n : Nat) (m : Memory) (h : m.wf e = true) : (m.erase a n).wf e = true :=
  Memory.wfFrom_filter e _ m 0 h

theorem Memory.wf_foldl_put (e : Byte) (f : Host.Cell → Nat) (l : List Host.Cell) (m : Memory) (h : m.wf e = true) :
    (l.foldl (fun m c => Memory.put e m (f c) c.2) m).wf e = true := by
  induction l generalizing m with
  | nil => exact h
  | cons c l ih => exact ih _ (Memory.wf_put e m _ _ h)

theorem Memory.wf_copy (e : Byte) (src dst n : Nat) (m : Memory) (h : m.wf e = true) :
    (m.copy e src dst n).wf e = true :=
  Memory.wf_foldl_put e _ _ _ (Memory.wf_erase e dst n m h)

/-! Register stores. -/

theorem Cells.get_ins_same (c : Cells) (k v dflt : Nat) (h : ∀ x ∈ c, x.1 ≠ k) : Cells.get (Cells.ins c k v) k dflt = v := by
  induction c with
  | nil => simp [Cells.ins, Cells.get]
  | cons a c ih =>
    obtain ⟨x, y⟩ := a
    unfold Cells.ins
    split
    · simp [Cells.get]
    · have hx : x ≠ k := h (x, y) (by simp)
      simp only [Cells.get, if_neg hx]
      exact ih fun z hz => h z (by simp [hz])

theorem Cells.get_ins_ne (c : Cells) (k k' v dflt : Nat) (h : k' ≠ k) :
    Cells.get (Cells.ins c k v) k' dflt = Cells.get c k' dflt := by
  induction c with
  | nil => simp [Cells.ins, Cells.get, Ne.symm h]
  | cons a c ih =>
    obtain ⟨x, y⟩ := a
    unfold Cells.ins
    split
    · simp [Cells.get, Ne.symm h]
    · simp only [Cells.get, ih]

theorem Cells.get_of_none (c : Cells) (k dflt : Nat) (h : ∀ x ∈ c, x.1 ≠ k) : Cells.get c k dflt = dflt := by
  induction c with
  | nil => rfl
  | cons a c ih =>
    obtain ⟨x, y⟩ := a
    have hx : x ≠ k := h (x, y) (by simp)
    simp only [Cells.get, if_neg hx]
    exact ih fun z hz => h z (by simp [hz])

theorem Cells.get_filter_ne (c : Cells) (k k' dflt : Nat) (h : k' ≠ k) :
    Cells.get (c.filter fun e => e.1 != k) k' dflt = Cells.get c k' dflt := by
  induction c with
  | nil => rfl
  | cons a c ih =>
    obtain ⟨x, y⟩ := a
    rw [List.filter_cons]
    split
    · simp only [Cells.get, ih]
    · rename_i hx
      have : x = k := by simpa using hx
      subst this
      simp only [Cells.get, if_neg (Ne.symm h), ih]

/-- The key just set reads the value set. -/
theorem Cells.get_put_same (c : Cells) (k v dflt : Nat) : Cells.get (Cells.put c k v dflt) k dflt = v := by
  have hn : ∀ x ∈ c.filter (fun e => e.1 != k), x.1 ≠ k := by
    intro x hx
    simpa using (List.mem_filter.mp hx).2
  unfold Cells.put
  simp only
  split
  · subst_vars; exact Cells.get_of_none _ _ _ hn
  · exact Cells.get_ins_same _ _ _ _ hn

/-- Every other key reads as before, whatever its default. -/
theorem Cells.get_put_ne (c : Cells) (k k' v dflt dflt' : Nat) (h : k' ≠ k) :
    Cells.get (Cells.put c k v dflt) k' dflt' = Cells.get c k' dflt' := by
  unfold Cells.put
  simp only
  split
  · exact Cells.get_filter_ne _ _ _ _ h
  · rw [Cells.get_ins_ne _ _ _ _ _ h, Cells.get_filter_ne _ _ _ _ h]

end Sys2Proof.Machine
end

