-- ==== Sys2Proof/Laws/State.lean ====
section
/-! SUPPORT. What each update of the device leaves as it was, field by field, and what it changes: the simp set by which later
proofs never unfold a record update. -/

namespace Sys2Proof.Machine

/-! `put` changes `act` alone. -/

@[simp] theorem Dev.put_part (pg : Nat) (f : Fld) (v : Nat) (d : Dev) : (d.put pg f v).part = d.part := rfl
@[simp] theorem Dev.put_keep (pg : Nat) (f : Fld) (v : Nat) (d : Dev) : (d.put pg f v).keep = d.keep := rfl
@[simp] theorem Dev.put_tim (pg : Nat) (f : Fld) (v : Nat) (d : Dev) : (d.put pg f v).tim = d.tim := rfl
@[simp] theorem Dev.put_stg (pg : Nat) (f : Fld) (v : Nat) (d : Dev) : (d.put pg f v).stg = d.stg := rfl
@[simp] theorem Dev.put_c2 (pg : Nat) (f : Fld) (v : Nat) (d : Dev) : (d.put pg f v).c2 = d.c2 := rfl
@[simp] theorem Dev.put_otp (pg : Nat) (f : Fld) (v : Nat) (d : Dev) : (d.put pg f v).otp = d.otp := rfl
@[simp] theorem Dev.put_flt (pg : Nat) (f : Fld) (v : Nat) (d : Dev) : (d.put pg f v).flt = d.flt := rfl
@[simp] theorem Dev.put_boot (pg : Nat) (f : Fld) (v : Nat) (d : Dev) : (d.put pg f v).boot = d.boot := rfl
@[simp] theorem Dev.put_leaf (pg : Nat) (f : Fld) (v : Nat) (d : Dev) : (d.put pg f v).leaf = d.leaf := rfl
@[simp] theorem Dev.put_obs (pg : Nat) (f : Fld) (v : Nat) (d : Dev) : (d.put pg f v).obs = d.obs := rfl
@[simp] theorem Dev.put_kern (pg : Nat) (f : Fld) (v : Nat) (d : Dev) : (d.put pg f v).kern = d.kern := rfl
@[simp] theorem Dev.put_pos (pg : Nat) (f : Fld) (v : Nat) (d : Dev) : (d.put pg f v).pos = d.pos := rfl
@[simp] theorem Dev.put_fb (pg : Nat) (f : Fld) (v : Nat) (d : Dev) : (d.put pg f v).fb = d.fb := rfl
@[simp] theorem Dev.put_emu (pg : Nat) (f : Fld) (v : Nat) (d : Dev) : (d.put pg f v).emu = d.emu := rfl
@[simp] theorem Dev.put_step (pg : Nat) (f : Fld) (v : Nat) (d : Dev) : (d.put pg f v).step = d.step := rfl
@[simp] theorem Dev.put_sx (pg : Nat) (f : Fld) (v : Nat) (d : Dev) : (d.put pg f v).sx = d.sx := rfl
@[simp] theorem Dev.put_sy (pg : Nat) (f : Fld) (v : Nat) (d : Dev) : (d.put pg f v).sy = d.sy := rfl
@[simp] theorem Dev.put_px (pg : Nat) (f : Fld) (v : Nat) (d : Dev) : (d.put pg f v).px = d.px := rfl
@[simp] theorem Dev.put_py (pg : Nat) (f : Fld) (v : Nat) (d : Dev) : (d.put pg f v).py = d.py := rfl
@[simp] theorem Dev.put_die (pg : Nat) (f : Fld) (v : Nat) (d : Dev) : (d.put pg f v).die = d.die := rfl
@[simp] theorem Dev.put_diey (pg : Nat) (f : Fld) (v : Nat) (d : Dev) : (d.put pg f v).diey = d.diey := rfl
@[simp] theorem Dev.put_vfld (pg : Nat) (f : Fld) (v : Nat) (d : Dev) : (d.put pg f v).vfld = d.vfld := rfl
@[simp] theorem Dev.put_imd (pg : Nat) (f : Fld) (v : Nat) (d : Dev) : (d.put pg f v).imd = d.imd := rfl
@[simp] theorem Dev.put_svc (pg : Nat) (f : Fld) (v : Nat) (d : Dev) : (d.put pg f v).svc = d.svc := rfl
@[simp] theorem Dev.put_forme (pg : Nat) (f : Fld) (v : Nat) (d : Dev) : (d.put pg f v).forme = d.forme := rfl
@[simp] theorem Dev.put_olc (pg : Nat) (f : Fld) (v : Nat) (d : Dev) : (d.put pg f v).olc = d.olc := rfl
@[simp] theorem Dev.put_net (pg : Nat) (f : Fld) (v : Nat) (d : Dev) : (d.put pg f v).net = d.net := rfl
@[simp] theorem Dev.put_rec_ (pg : Nat) (f : Fld) (v : Nat) (d : Dev) : (d.put pg f v).rec_ = d.rec_ := rfl
@[simp] theorem Dev.put_tap (pg : Nat) (f : Fld) (v : Nat) (d : Dev) : (d.put pg f v).tap = d.tap := rfl
@[simp] theorem Dev.put_free (pg : Nat) (f : Fld) (v : Nat) (d : Dev) : (d.put pg f v).free = d.free := rfl

/-! `sput` changes `stg` alone. -/

@[simp] theorem Dev.sput_part (pg : Nat) (f : Fld) (v : Nat) (d : Dev) : (d.sput pg f v).part = d.part := rfl
@[simp] theorem Dev.sput_keep (pg : Nat) (f : Fld) (v : Nat) (d : Dev) : (d.sput pg f v).keep = d.keep := rfl
@[simp] theorem Dev.sput_tim (pg : Nat) (f : Fld) (v : Nat) (d : Dev) : (d.sput pg f v).tim = d.tim := rfl
@[simp] theorem Dev.sput_act (pg : Nat) (f : Fld) (v : Nat) (d : Dev) : (d.sput pg f v).act = d.act := rfl
@[simp] theorem Dev.sput_c2 (pg : Nat) (f : Fld) (v : Nat) (d : Dev) : (d.sput pg f v).c2 = d.c2 := rfl
@[simp] theorem Dev.sput_otp (pg : Nat) (f : Fld) (v : Nat) (d : Dev) : (d.sput pg f v).otp = d.otp := rfl
@[simp] theorem Dev.sput_flt (pg : Nat) (f : Fld) (v : Nat) (d : Dev) : (d.sput pg f v).flt = d.flt := rfl
@[simp] theorem Dev.sput_boot (pg : Nat) (f : Fld) (v : Nat) (d : Dev) : (d.sput pg f v).boot = d.boot := rfl
@[simp] theorem Dev.sput_leaf (pg : Nat) (f : Fld) (v : Nat) (d : Dev) : (d.sput pg f v).leaf = d.leaf := rfl
@[simp] theorem Dev.sput_obs (pg : Nat) (f : Fld) (v : Nat) (d : Dev) : (d.sput pg f v).obs = d.obs := rfl
@[simp] theorem Dev.sput_kern (pg : Nat) (f : Fld) (v : Nat) (d : Dev) : (d.sput pg f v).kern = d.kern := rfl
@[simp] theorem Dev.sput_pos (pg : Nat) (f : Fld) (v : Nat) (d : Dev) : (d.sput pg f v).pos = d.pos := rfl
@[simp] theorem Dev.sput_fb (pg : Nat) (f : Fld) (v : Nat) (d : Dev) : (d.sput pg f v).fb = d.fb := rfl
@[simp] theorem Dev.sput_emu (pg : Nat) (f : Fld) (v : Nat) (d : Dev) : (d.sput pg f v).emu = d.emu := rfl
@[simp] theorem Dev.sput_step (pg : Nat) (f : Fld) (v : Nat) (d : Dev) : (d.sput pg f v).step = d.step := rfl
@[simp] theorem Dev.sput_sx (pg : Nat) (f : Fld) (v : Nat) (d : Dev) : (d.sput pg f v).sx = d.sx := rfl
@[simp] theorem Dev.sput_sy (pg : Nat) (f : Fld) (v : Nat) (d : Dev) : (d.sput pg f v).sy = d.sy := rfl
@[simp] theorem Dev.sput_px (pg : Nat) (f : Fld) (v : Nat) (d : Dev) : (d.sput pg f v).px = d.px := rfl
@[simp] theorem Dev.sput_py (pg : Nat) (f : Fld) (v : Nat) (d : Dev) : (d.sput pg f v).py = d.py := rfl
@[simp] theorem Dev.sput_die (pg : Nat) (f : Fld) (v : Nat) (d : Dev) : (d.sput pg f v).die = d.die := rfl
@[simp] theorem Dev.sput_diey (pg : Nat) (f : Fld) (v : Nat) (d : Dev) : (d.sput pg f v).diey = d.diey := rfl
@[simp] theorem Dev.sput_vfld (pg : Nat) (f : Fld) (v : Nat) (d : Dev) : (d.sput pg f v).vfld = d.vfld := rfl
@[simp] theorem Dev.sput_imd (pg : Nat) (f : Fld) (v : Nat) (d : Dev) : (d.sput pg f v).imd = d.imd := rfl
@[simp] theorem Dev.sput_svc (pg : Nat) (f : Fld) (v : Nat) (d : Dev) : (d.sput pg f v).svc = d.svc := rfl
@[simp] theorem Dev.sput_forme (pg : Nat) (f : Fld) (v : Nat) (d : Dev) : (d.sput pg f v).forme = d.forme := rfl
@[simp] theorem Dev.sput_olc (pg : Nat) (f : Fld) (v : Nat) (d : Dev) : (d.sput pg f v).olc = d.olc := rfl
@[simp] theorem Dev.sput_net (pg : Nat) (f : Fld) (v : Nat) (d : Dev) : (d.sput pg f v).net = d.net := rfl
@[simp] theorem Dev.sput_rec_ (pg : Nat) (f : Fld) (v : Nat) (d : Dev) : (d.sput pg f v).rec_ = d.rec_ := rfl
@[simp] theorem Dev.sput_tap (pg : Nat) (f : Fld) (v : Nat) (d : Dev) : (d.sput pg f v).tap = d.tap := rfl
@[simp] theorem Dev.sput_free (pg : Nat) (f : Fld) (v : Nat) (d : Dev) : (d.sput pg f v).free = d.free := rfl

/-! `modLf` changes `leaf` alone. -/

@[simp] theorem Dev.modLf_part (n : Nat) (f : LeafX → LeafX) (d : Dev) : (d.modLf n f).part = d.part := rfl
@[simp] theorem Dev.modLf_keep (n : Nat) (f : LeafX → LeafX) (d : Dev) : (d.modLf n f).keep = d.keep := rfl
@[simp] theorem Dev.modLf_tim (n : Nat) (f : LeafX → LeafX) (d : Dev) : (d.modLf n f).tim = d.tim := rfl
@[simp] theorem Dev.modLf_act (n : Nat) (f : LeafX → LeafX) (d : Dev) : (d.modLf n f).act = d.act := rfl
@[simp] theorem Dev.modLf_stg (n : Nat) (f : LeafX → LeafX) (d : Dev) : (d.modLf n f).stg = d.stg := rfl
@[simp] theorem Dev.modLf_c2 (n : Nat) (f : LeafX → LeafX) (d : Dev) : (d.modLf n f).c2 = d.c2 := rfl
@[simp] theorem Dev.modLf_otp (n : Nat) (f : LeafX → LeafX) (d : Dev) : (d.modLf n f).otp = d.otp := rfl
@[simp] theorem Dev.modLf_flt (n : Nat) (f : LeafX → LeafX) (d : Dev) : (d.modLf n f).flt = d.flt := rfl
@[simp] theorem Dev.modLf_boot (n : Nat) (f : LeafX → LeafX) (d : Dev) : (d.modLf n f).boot = d.boot := rfl
@[simp] theorem Dev.modLf_obs (n : Nat) (f : LeafX → LeafX) (d : Dev) : (d.modLf n f).obs = d.obs := rfl
@[simp] theorem Dev.modLf_kern (n : Nat) (f : LeafX → LeafX) (d : Dev) : (d.modLf n f).kern = d.kern := rfl
@[simp] theorem Dev.modLf_pos (n : Nat) (f : LeafX → LeafX) (d : Dev) : (d.modLf n f).pos = d.pos := rfl
@[simp] theorem Dev.modLf_fb (n : Nat) (f : LeafX → LeafX) (d : Dev) : (d.modLf n f).fb = d.fb := rfl
@[simp] theorem Dev.modLf_emu (n : Nat) (f : LeafX → LeafX) (d : Dev) : (d.modLf n f).emu = d.emu := rfl
@[simp] theorem Dev.modLf_step (n : Nat) (f : LeafX → LeafX) (d : Dev) : (d.modLf n f).step = d.step := rfl
@[simp] theorem Dev.modLf_sx (n : Nat) (f : LeafX → LeafX) (d : Dev) : (d.modLf n f).sx = d.sx := rfl
@[simp] theorem Dev.modLf_sy (n : Nat) (f : LeafX → LeafX) (d : Dev) : (d.modLf n f).sy = d.sy := rfl
@[simp] theorem Dev.modLf_px (n : Nat) (f : LeafX → LeafX) (d : Dev) : (d.modLf n f).px = d.px := rfl
@[simp] theorem Dev.modLf_py (n : Nat) (f : LeafX → LeafX) (d : Dev) : (d.modLf n f).py = d.py := rfl
@[simp] theorem Dev.modLf_die (n : Nat) (f : LeafX → LeafX) (d : Dev) : (d.modLf n f).die = d.die := rfl
@[simp] theorem Dev.modLf_diey (n : Nat) (f : LeafX → LeafX) (d : Dev) : (d.modLf n f).diey = d.diey := rfl
@[simp] theorem Dev.modLf_vfld (n : Nat) (f : LeafX → LeafX) (d : Dev) : (d.modLf n f).vfld = d.vfld := rfl
@[simp] theorem Dev.modLf_imd (n : Nat) (f : LeafX → LeafX) (d : Dev) : (d.modLf n f).imd = d.imd := rfl
@[simp] theorem Dev.modLf_svc (n : Nat) (f : LeafX → LeafX) (d : Dev) : (d.modLf n f).svc = d.svc := rfl
@[simp] theorem Dev.modLf_forme (n : Nat) (f : LeafX → LeafX) (d : Dev) : (d.modLf n f).forme = d.forme := rfl
@[simp] theorem Dev.modLf_olc (n : Nat) (f : LeafX → LeafX) (d : Dev) : (d.modLf n f).olc = d.olc := rfl
@[simp] theorem Dev.modLf_net (n : Nat) (f : LeafX → LeafX) (d : Dev) : (d.modLf n f).net = d.net := rfl
@[simp] theorem Dev.modLf_rec_ (n : Nat) (f : LeafX → LeafX) (d : Dev) : (d.modLf n f).rec_ = d.rec_ := rfl
@[simp] theorem Dev.modLf_tap (n : Nat) (f : LeafX → LeafX) (d : Dev) : (d.modLf n f).tap = d.tap := rfl
@[simp] theorem Dev.modLf_free (n : Nat) (f : LeafX → LeafX) (d : Dev) : (d.modLf n f).free = d.free := rfl

/-! `modOb` changes `obs` alone. -/

@[simp] theorem Dev.modOb_part (n : Nat) (f : ObsX → ObsX) (d : Dev) : (d.modOb n f).part = d.part := rfl
@[simp] theorem Dev.modOb_keep (n : Nat) (f : ObsX → ObsX) (d : Dev) : (d.modOb n f).keep = d.keep := rfl
@[simp] theorem Dev.modOb_tim (n : Nat) (f : ObsX → ObsX) (d : Dev) : (d.modOb n f).tim = d.tim := rfl
@[simp] theorem Dev.modOb_act (n : Nat) (f : ObsX → ObsX) (d : Dev) : (d.modOb n f).act = d.act := rfl
@[simp] theorem Dev.modOb_stg (n : Nat) (f : ObsX → ObsX) (d : Dev) : (d.modOb n f).stg = d.stg := rfl
@[simp] theorem Dev.modOb_c2 (n : Nat) (f : ObsX → ObsX) (d : Dev) : (d.modOb n f).c2 = d.c2 := rfl
@[simp] theorem Dev.modOb_otp (n : Nat) (f : ObsX → ObsX) (d : Dev) : (d.modOb n f).otp = d.otp := rfl
@[simp] theorem Dev.modOb_flt (n : Nat) (f : ObsX → ObsX) (d : Dev) : (d.modOb n f).flt = d.flt := rfl
@[simp] theorem Dev.modOb_boot (n : Nat) (f : ObsX → ObsX) (d : Dev) : (d.modOb n f).boot = d.boot := rfl
@[simp] theorem Dev.modOb_leaf (n : Nat) (f : ObsX → ObsX) (d : Dev) : (d.modOb n f).leaf = d.leaf := rfl
@[simp] theorem Dev.modOb_kern (n : Nat) (f : ObsX → ObsX) (d : Dev) : (d.modOb n f).kern = d.kern := rfl
@[simp] theorem Dev.modOb_pos (n : Nat) (f : ObsX → ObsX) (d : Dev) : (d.modOb n f).pos = d.pos := rfl
@[simp] theorem Dev.modOb_fb (n : Nat) (f : ObsX → ObsX) (d : Dev) : (d.modOb n f).fb = d.fb := rfl
@[simp] theorem Dev.modOb_emu (n : Nat) (f : ObsX → ObsX) (d : Dev) : (d.modOb n f).emu = d.emu := rfl
@[simp] theorem Dev.modOb_step (n : Nat) (f : ObsX → ObsX) (d : Dev) : (d.modOb n f).step = d.step := rfl
@[simp] theorem Dev.modOb_sx (n : Nat) (f : ObsX → ObsX) (d : Dev) : (d.modOb n f).sx = d.sx := rfl
@[simp] theorem Dev.modOb_sy (n : Nat) (f : ObsX → ObsX) (d : Dev) : (d.modOb n f).sy = d.sy := rfl
@[simp] theorem Dev.modOb_px (n : Nat) (f : ObsX → ObsX) (d : Dev) : (d.modOb n f).px = d.px := rfl
@[simp] theorem Dev.modOb_py (n : Nat) (f : ObsX → ObsX) (d : Dev) : (d.modOb n f).py = d.py := rfl
@[simp] theorem Dev.modOb_die (n : Nat) (f : ObsX → ObsX) (d : Dev) : (d.modOb n f).die = d.die := rfl
@[simp] theorem Dev.modOb_diey (n : Nat) (f : ObsX → ObsX) (d : Dev) : (d.modOb n f).diey = d.diey := rfl
@[simp] theorem Dev.modOb_vfld (n : Nat) (f : ObsX → ObsX) (d : Dev) : (d.modOb n f).vfld = d.vfld := rfl
@[simp] theorem Dev.modOb_imd (n : Nat) (f : ObsX → ObsX) (d : Dev) : (d.modOb n f).imd = d.imd := rfl
@[simp] theorem Dev.modOb_svc (n : Nat) (f : ObsX → ObsX) (d : Dev) : (d.modOb n f).svc = d.svc := rfl
@[simp] theorem Dev.modOb_forme (n : Nat) (f : ObsX → ObsX) (d : Dev) : (d.modOb n f).forme = d.forme := rfl
@[simp] theorem Dev.modOb_olc (n : Nat) (f : ObsX → ObsX) (d : Dev) : (d.modOb n f).olc = d.olc := rfl
@[simp] theorem Dev.modOb_net (n : Nat) (f : ObsX → ObsX) (d : Dev) : (d.modOb n f).net = d.net := rfl
@[simp] theorem Dev.modOb_rec_ (n : Nat) (f : ObsX → ObsX) (d : Dev) : (d.modOb n f).rec_ = d.rec_ := rfl
@[simp] theorem Dev.modOb_tap (n : Nat) (f : ObsX → ObsX) (d : Dev) : (d.modOb n f).tap = d.tap := rfl
@[simp] theorem Dev.modOb_free (n : Nat) (f : ObsX → ObsX) (d : Dev) : (d.modOb n f).free = d.free := rfl

/-! `modKn` changes `kern` alone. -/

@[simp] theorem Dev.modKn_part (n : Nat) (f : KernX → KernX) (d : Dev) : (d.modKn n f).part = d.part := rfl
@[simp] theorem Dev.modKn_keep (n : Nat) (f : KernX → KernX) (d : Dev) : (d.modKn n f).keep = d.keep := rfl
@[simp] theorem Dev.modKn_tim (n : Nat) (f : KernX → KernX) (d : Dev) : (d.modKn n f).tim = d.tim := rfl
@[simp] theorem Dev.modKn_act (n : Nat) (f : KernX → KernX) (d : Dev) : (d.modKn n f).act = d.act := rfl
@[simp] theorem Dev.modKn_stg (n : Nat) (f : KernX → KernX) (d : Dev) : (d.modKn n f).stg = d.stg := rfl
@[simp] theorem Dev.modKn_c2 (n : Nat) (f : KernX → KernX) (d : Dev) : (d.modKn n f).c2 = d.c2 := rfl
@[simp] theorem Dev.modKn_otp (n : Nat) (f : KernX → KernX) (d : Dev) : (d.modKn n f).otp = d.otp := rfl
@[simp] theorem Dev.modKn_flt (n : Nat) (f : KernX → KernX) (d : Dev) : (d.modKn n f).flt = d.flt := rfl
@[simp] theorem Dev.modKn_boot (n : Nat) (f : KernX → KernX) (d : Dev) : (d.modKn n f).boot = d.boot := rfl
@[simp] theorem Dev.modKn_leaf (n : Nat) (f : KernX → KernX) (d : Dev) : (d.modKn n f).leaf = d.leaf := rfl
@[simp] theorem Dev.modKn_obs (n : Nat) (f : KernX → KernX) (d : Dev) : (d.modKn n f).obs = d.obs := rfl
@[simp] theorem Dev.modKn_pos (n : Nat) (f : KernX → KernX) (d : Dev) : (d.modKn n f).pos = d.pos := rfl
@[simp] theorem Dev.modKn_fb (n : Nat) (f : KernX → KernX) (d : Dev) : (d.modKn n f).fb = d.fb := rfl
@[simp] theorem Dev.modKn_emu (n : Nat) (f : KernX → KernX) (d : Dev) : (d.modKn n f).emu = d.emu := rfl
@[simp] theorem Dev.modKn_step (n : Nat) (f : KernX → KernX) (d : Dev) : (d.modKn n f).step = d.step := rfl
@[simp] theorem Dev.modKn_sx (n : Nat) (f : KernX → KernX) (d : Dev) : (d.modKn n f).sx = d.sx := rfl
@[simp] theorem Dev.modKn_sy (n : Nat) (f : KernX → KernX) (d : Dev) : (d.modKn n f).sy = d.sy := rfl
@[simp] theorem Dev.modKn_px (n : Nat) (f : KernX → KernX) (d : Dev) : (d.modKn n f).px = d.px := rfl
@[simp] theorem Dev.modKn_py (n : Nat) (f : KernX → KernX) (d : Dev) : (d.modKn n f).py = d.py := rfl
@[simp] theorem Dev.modKn_die (n : Nat) (f : KernX → KernX) (d : Dev) : (d.modKn n f).die = d.die := rfl
@[simp] theorem Dev.modKn_diey (n : Nat) (f : KernX → KernX) (d : Dev) : (d.modKn n f).diey = d.diey := rfl
@[simp] theorem Dev.modKn_vfld (n : Nat) (f : KernX → KernX) (d : Dev) : (d.modKn n f).vfld = d.vfld := rfl
@[simp] theorem Dev.modKn_imd (n : Nat) (f : KernX → KernX) (d : Dev) : (d.modKn n f).imd = d.imd := rfl
@[simp] theorem Dev.modKn_svc (n : Nat) (f : KernX → KernX) (d : Dev) : (d.modKn n f).svc = d.svc := rfl
@[simp] theorem Dev.modKn_forme (n : Nat) (f : KernX → KernX) (d : Dev) : (d.modKn n f).forme = d.forme := rfl
@[simp] theorem Dev.modKn_olc (n : Nat) (f : KernX → KernX) (d : Dev) : (d.modKn n f).olc = d.olc := rfl
@[simp] theorem Dev.modKn_net (n : Nat) (f : KernX → KernX) (d : Dev) : (d.modKn n f).net = d.net := rfl
@[simp] theorem Dev.modKn_rec_ (n : Nat) (f : KernX → KernX) (d : Dev) : (d.modKn n f).rec_ = d.rec_ := rfl
@[simp] theorem Dev.modKn_tap (n : Nat) (f : KernX → KernX) (d : Dev) : (d.modKn n f).tap = d.tap := rfl
@[simp] theorem Dev.modKn_free (n : Nat) (f : KernX → KernX) (d : Dev) : (d.modKn n f).free = d.free := rfl

/-! `modPs` changes `pos` alone. -/

@[simp] theorem Dev.modPs_part (n : Nat) (f : PosX → PosX) (d : Dev) : (d.modPs n f).part = d.part := rfl
@[simp] theorem Dev.modPs_keep (n : Nat) (f : PosX → PosX) (d : Dev) : (d.modPs n f).keep = d.keep := rfl
@[simp] theorem Dev.modPs_tim (n : Nat) (f : PosX → PosX) (d : Dev) : (d.modPs n f).tim = d.tim := rfl
@[simp] theorem Dev.modPs_act (n : Nat) (f : PosX → PosX) (d : Dev) : (d.modPs n f).act = d.act := rfl
@[simp] theorem Dev.modPs_stg (n : Nat) (f : PosX → PosX) (d : Dev) : (d.modPs n f).stg = d.stg := rfl
@[simp] theorem Dev.modPs_c2 (n : Nat) (f : PosX → PosX) (d : Dev) : (d.modPs n f).c2 = d.c2 := rfl
@[simp] theorem Dev.modPs_otp (n : Nat) (f : PosX → PosX) (d : Dev) : (d.modPs n f).otp = d.otp := rfl
@[simp] theorem Dev.modPs_flt (n : Nat) (f : PosX → PosX) (d : Dev) : (d.modPs n f).flt = d.flt := rfl
@[simp] theorem Dev.modPs_boot (n : Nat) (f : PosX → PosX) (d : Dev) : (d.modPs n f).boot = d.boot := rfl
@[simp] theorem Dev.modPs_leaf (n : Nat) (f : PosX → PosX) (d : Dev) : (d.modPs n f).leaf = d.leaf := rfl
@[simp] theorem Dev.modPs_obs (n : Nat) (f : PosX → PosX) (d : Dev) : (d.modPs n f).obs = d.obs := rfl
@[simp] theorem Dev.modPs_kern (n : Nat) (f : PosX → PosX) (d : Dev) : (d.modPs n f).kern = d.kern := rfl
@[simp] theorem Dev.modPs_fb (n : Nat) (f : PosX → PosX) (d : Dev) : (d.modPs n f).fb = d.fb := rfl
@[simp] theorem Dev.modPs_emu (n : Nat) (f : PosX → PosX) (d : Dev) : (d.modPs n f).emu = d.emu := rfl
@[simp] theorem Dev.modPs_step (n : Nat) (f : PosX → PosX) (d : Dev) : (d.modPs n f).step = d.step := rfl
@[simp] theorem Dev.modPs_sx (n : Nat) (f : PosX → PosX) (d : Dev) : (d.modPs n f).sx = d.sx := rfl
@[simp] theorem Dev.modPs_sy (n : Nat) (f : PosX → PosX) (d : Dev) : (d.modPs n f).sy = d.sy := rfl
@[simp] theorem Dev.modPs_px (n : Nat) (f : PosX → PosX) (d : Dev) : (d.modPs n f).px = d.px := rfl
@[simp] theorem Dev.modPs_py (n : Nat) (f : PosX → PosX) (d : Dev) : (d.modPs n f).py = d.py := rfl
@[simp] theorem Dev.modPs_die (n : Nat) (f : PosX → PosX) (d : Dev) : (d.modPs n f).die = d.die := rfl
@[simp] theorem Dev.modPs_diey (n : Nat) (f : PosX → PosX) (d : Dev) : (d.modPs n f).diey = d.diey := rfl
@[simp] theorem Dev.modPs_vfld (n : Nat) (f : PosX → PosX) (d : Dev) : (d.modPs n f).vfld = d.vfld := rfl
@[simp] theorem Dev.modPs_imd (n : Nat) (f : PosX → PosX) (d : Dev) : (d.modPs n f).imd = d.imd := rfl
@[simp] theorem Dev.modPs_svc (n : Nat) (f : PosX → PosX) (d : Dev) : (d.modPs n f).svc = d.svc := rfl
@[simp] theorem Dev.modPs_forme (n : Nat) (f : PosX → PosX) (d : Dev) : (d.modPs n f).forme = d.forme := rfl
@[simp] theorem Dev.modPs_olc (n : Nat) (f : PosX → PosX) (d : Dev) : (d.modPs n f).olc = d.olc := rfl
@[simp] theorem Dev.modPs_net (n : Nat) (f : PosX → PosX) (d : Dev) : (d.modPs n f).net = d.net := rfl
@[simp] theorem Dev.modPs_rec_ (n : Nat) (f : PosX → PosX) (d : Dev) : (d.modPs n f).rec_ = d.rec_ := rfl
@[simp] theorem Dev.modPs_tap (n : Nat) (f : PosX → PosX) (d : Dev) : (d.modPs n f).tap = d.tap := rfl
@[simp] theorem Dev.modPs_free (n : Nat) (f : PosX → PosX) (d : Dev) : (d.modPs n f).free = d.free := rfl

/-! `modFb` changes `fb` alone. -/

@[simp] theorem Dev.modFb_part (n : Nat) (f : FbX → FbX) (d : Dev) : (d.modFb n f).part = d.part := rfl
@[simp] theorem Dev.modFb_keep (n : Nat) (f : FbX → FbX) (d : Dev) : (d.modFb n f).keep = d.keep := rfl
@[simp] theorem Dev.modFb_tim (n : Nat) (f : FbX → FbX) (d : Dev) : (d.modFb n f).tim = d.tim := rfl
@[simp] theorem Dev.modFb_act (n : Nat) (f : FbX → FbX) (d : Dev) : (d.modFb n f).act = d.act := rfl
@[simp] theorem Dev.modFb_stg (n : Nat) (f : FbX → FbX) (d : Dev) : (d.modFb n f).stg = d.stg := rfl
@[simp] theorem Dev.modFb_c2 (n : Nat) (f : FbX → FbX) (d : Dev) : (d.modFb n f).c2 = d.c2 := rfl
@[simp] theorem Dev.modFb_otp (n : Nat) (f : FbX → FbX) (d : Dev) : (d.modFb n f).otp = d.otp := rfl
@[simp] theorem Dev.modFb_flt (n : Nat) (f : FbX → FbX) (d : Dev) : (d.modFb n f).flt = d.flt := rfl
@[simp] theorem Dev.modFb_boot (n : Nat) (f : FbX → FbX) (d : Dev) : (d.modFb n f).boot = d.boot := rfl
@[simp] theorem Dev.modFb_leaf (n : Nat) (f : FbX → FbX) (d : Dev) : (d.modFb n f).leaf = d.leaf := rfl
@[simp] theorem Dev.modFb_obs (n : Nat) (f : FbX → FbX) (d : Dev) : (d.modFb n f).obs = d.obs := rfl
@[simp] theorem Dev.modFb_kern (n : Nat) (f : FbX → FbX) (d : Dev) : (d.modFb n f).kern = d.kern := rfl
@[simp] theorem Dev.modFb_pos (n : Nat) (f : FbX → FbX) (d : Dev) : (d.modFb n f).pos = d.pos := rfl
@[simp] theorem Dev.modFb_emu (n : Nat) (f : FbX → FbX) (d : Dev) : (d.modFb n f).emu = d.emu := rfl
@[simp] theorem Dev.modFb_step (n : Nat) (f : FbX → FbX) (d : Dev) : (d.modFb n f).step = d.step := rfl
@[simp] theorem Dev.modFb_sx (n : Nat) (f : FbX → FbX) (d : Dev) : (d.modFb n f).sx = d.sx := rfl
@[simp] theorem Dev.modFb_sy (n : Nat) (f : FbX → FbX) (d : Dev) : (d.modFb n f).sy = d.sy := rfl
@[simp] theorem Dev.modFb_px (n : Nat) (f : FbX → FbX) (d : Dev) : (d.modFb n f).px = d.px := rfl
@[simp] theorem Dev.modFb_py (n : Nat) (f : FbX → FbX) (d : Dev) : (d.modFb n f).py = d.py := rfl
@[simp] theorem Dev.modFb_die (n : Nat) (f : FbX → FbX) (d : Dev) : (d.modFb n f).die = d.die := rfl
@[simp] theorem Dev.modFb_diey (n : Nat) (f : FbX → FbX) (d : Dev) : (d.modFb n f).diey = d.diey := rfl
@[simp] theorem Dev.modFb_vfld (n : Nat) (f : FbX → FbX) (d : Dev) : (d.modFb n f).vfld = d.vfld := rfl
@[simp] theorem Dev.modFb_imd (n : Nat) (f : FbX → FbX) (d : Dev) : (d.modFb n f).imd = d.imd := rfl
@[simp] theorem Dev.modFb_svc (n : Nat) (f : FbX → FbX) (d : Dev) : (d.modFb n f).svc = d.svc := rfl
@[simp] theorem Dev.modFb_forme (n : Nat) (f : FbX → FbX) (d : Dev) : (d.modFb n f).forme = d.forme := rfl
@[simp] theorem Dev.modFb_olc (n : Nat) (f : FbX → FbX) (d : Dev) : (d.modFb n f).olc = d.olc := rfl
@[simp] theorem Dev.modFb_net (n : Nat) (f : FbX → FbX) (d : Dev) : (d.modFb n f).net = d.net := rfl
@[simp] theorem Dev.modFb_rec_ (n : Nat) (f : FbX → FbX) (d : Dev) : (d.modFb n f).rec_ = d.rec_ := rfl
@[simp] theorem Dev.modFb_tap (n : Nat) (f : FbX → FbX) (d : Dev) : (d.modFb n f).tap = d.tap := rfl
@[simp] theorem Dev.modFb_free (n : Nat) (f : FbX → FbX) (d : Dev) : (d.modFb n f).free = d.free := rfl

/-! `modEm` changes `emu` alone. -/

@[simp] theorem Dev.modEm_part (n : Nat) (f : EmuX → EmuX) (d : Dev) : (d.modEm n f).part = d.part := rfl
@[simp] theorem Dev.modEm_keep (n : Nat) (f : EmuX → EmuX) (d : Dev) : (d.modEm n f).keep = d.keep := rfl
@[simp] theorem Dev.modEm_tim (n : Nat) (f : EmuX → EmuX) (d : Dev) : (d.modEm n f).tim = d.tim := rfl
@[simp] theorem Dev.modEm_act (n : Nat) (f : EmuX → EmuX) (d : Dev) : (d.modEm n f).act = d.act := rfl
@[simp] theorem Dev.modEm_stg (n : Nat) (f : EmuX → EmuX) (d : Dev) : (d.modEm n f).stg = d.stg := rfl
@[simp] theorem Dev.modEm_c2 (n : Nat) (f : EmuX → EmuX) (d : Dev) : (d.modEm n f).c2 = d.c2 := rfl
@[simp] theorem Dev.modEm_otp (n : Nat) (f : EmuX → EmuX) (d : Dev) : (d.modEm n f).otp = d.otp := rfl
@[simp] theorem Dev.modEm_flt (n : Nat) (f : EmuX → EmuX) (d : Dev) : (d.modEm n f).flt = d.flt := rfl
@[simp] theorem Dev.modEm_boot (n : Nat) (f : EmuX → EmuX) (d : Dev) : (d.modEm n f).boot = d.boot := rfl
@[simp] theorem Dev.modEm_leaf (n : Nat) (f : EmuX → EmuX) (d : Dev) : (d.modEm n f).leaf = d.leaf := rfl
@[simp] theorem Dev.modEm_obs (n : Nat) (f : EmuX → EmuX) (d : Dev) : (d.modEm n f).obs = d.obs := rfl
@[simp] theorem Dev.modEm_kern (n : Nat) (f : EmuX → EmuX) (d : Dev) : (d.modEm n f).kern = d.kern := rfl
@[simp] theorem Dev.modEm_pos (n : Nat) (f : EmuX → EmuX) (d : Dev) : (d.modEm n f).pos = d.pos := rfl
@[simp] theorem Dev.modEm_fb (n : Nat) (f : EmuX → EmuX) (d : Dev) : (d.modEm n f).fb = d.fb := rfl
@[simp] theorem Dev.modEm_step (n : Nat) (f : EmuX → EmuX) (d : Dev) : (d.modEm n f).step = d.step := rfl
@[simp] theorem Dev.modEm_sx (n : Nat) (f : EmuX → EmuX) (d : Dev) : (d.modEm n f).sx = d.sx := rfl
@[simp] theorem Dev.modEm_sy (n : Nat) (f : EmuX → EmuX) (d : Dev) : (d.modEm n f).sy = d.sy := rfl
@[simp] theorem Dev.modEm_px (n : Nat) (f : EmuX → EmuX) (d : Dev) : (d.modEm n f).px = d.px := rfl
@[simp] theorem Dev.modEm_py (n : Nat) (f : EmuX → EmuX) (d : Dev) : (d.modEm n f).py = d.py := rfl
@[simp] theorem Dev.modEm_die (n : Nat) (f : EmuX → EmuX) (d : Dev) : (d.modEm n f).die = d.die := rfl
@[simp] theorem Dev.modEm_diey (n : Nat) (f : EmuX → EmuX) (d : Dev) : (d.modEm n f).diey = d.diey := rfl
@[simp] theorem Dev.modEm_vfld (n : Nat) (f : EmuX → EmuX) (d : Dev) : (d.modEm n f).vfld = d.vfld := rfl
@[simp] theorem Dev.modEm_imd (n : Nat) (f : EmuX → EmuX) (d : Dev) : (d.modEm n f).imd = d.imd := rfl
@[simp] theorem Dev.modEm_svc (n : Nat) (f : EmuX → EmuX) (d : Dev) : (d.modEm n f).svc = d.svc := rfl
@[simp] theorem Dev.modEm_forme (n : Nat) (f : EmuX → EmuX) (d : Dev) : (d.modEm n f).forme = d.forme := rfl
@[simp] theorem Dev.modEm_olc (n : Nat) (f : EmuX → EmuX) (d : Dev) : (d.modEm n f).olc = d.olc := rfl
@[simp] theorem Dev.modEm_net (n : Nat) (f : EmuX → EmuX) (d : Dev) : (d.modEm n f).net = d.net := rfl
@[simp] theorem Dev.modEm_rec_ (n : Nat) (f : EmuX → EmuX) (d : Dev) : (d.modEm n f).rec_ = d.rec_ := rfl
@[simp] theorem Dev.modEm_tap (n : Nat) (f : EmuX → EmuX) (d : Dev) : (d.modEm n f).tap = d.tap := rfl
@[simp] theorem Dev.modEm_free (n : Nat) (f : EmuX → EmuX) (d : Dev) : (d.modEm n f).free = d.free := rfl

/-! `modSp` changes `step` alone. -/

@[simp] theorem Dev.modSp_part (n : Nat) (f : StepX → StepX) (d : Dev) : (d.modSp n f).part = d.part := rfl
@[simp] theorem Dev.modSp_keep (n : Nat) (f : StepX → StepX) (d : Dev) : (d.modSp n f).keep = d.keep := rfl
@[simp] theorem Dev.modSp_tim (n : Nat) (f : StepX → StepX) (d : Dev) : (d.modSp n f).tim = d.tim := rfl
@[simp] theorem Dev.modSp_act (n : Nat) (f : StepX → StepX) (d : Dev) : (d.modSp n f).act = d.act := rfl
@[simp] theorem Dev.modSp_stg (n : Nat) (f : StepX → StepX) (d : Dev) : (d.modSp n f).stg = d.stg := rfl
@[simp] theorem Dev.modSp_c2 (n : Nat) (f : StepX → StepX) (d : Dev) : (d.modSp n f).c2 = d.c2 := rfl
@[simp] theorem Dev.modSp_otp (n : Nat) (f : StepX → StepX) (d : Dev) : (d.modSp n f).otp = d.otp := rfl
@[simp] theorem Dev.modSp_flt (n : Nat) (f : StepX → StepX) (d : Dev) : (d.modSp n f).flt = d.flt := rfl
@[simp] theorem Dev.modSp_boot (n : Nat) (f : StepX → StepX) (d : Dev) : (d.modSp n f).boot = d.boot := rfl
@[simp] theorem Dev.modSp_leaf (n : Nat) (f : StepX → StepX) (d : Dev) : (d.modSp n f).leaf = d.leaf := rfl
@[simp] theorem Dev.modSp_obs (n : Nat) (f : StepX → StepX) (d : Dev) : (d.modSp n f).obs = d.obs := rfl
@[simp] theorem Dev.modSp_kern (n : Nat) (f : StepX → StepX) (d : Dev) : (d.modSp n f).kern = d.kern := rfl
@[simp] theorem Dev.modSp_pos (n : Nat) (f : StepX → StepX) (d : Dev) : (d.modSp n f).pos = d.pos := rfl
@[simp] theorem Dev.modSp_fb (n : Nat) (f : StepX → StepX) (d : Dev) : (d.modSp n f).fb = d.fb := rfl
@[simp] theorem Dev.modSp_emu (n : Nat) (f : StepX → StepX) (d : Dev) : (d.modSp n f).emu = d.emu := rfl
@[simp] theorem Dev.modSp_sx (n : Nat) (f : StepX → StepX) (d : Dev) : (d.modSp n f).sx = d.sx := rfl
@[simp] theorem Dev.modSp_sy (n : Nat) (f : StepX → StepX) (d : Dev) : (d.modSp n f).sy = d.sy := rfl
@[simp] theorem Dev.modSp_px (n : Nat) (f : StepX → StepX) (d : Dev) : (d.modSp n f).px = d.px := rfl
@[simp] theorem Dev.modSp_py (n : Nat) (f : StepX → StepX) (d : Dev) : (d.modSp n f).py = d.py := rfl
@[simp] theorem Dev.modSp_die (n : Nat) (f : StepX → StepX) (d : Dev) : (d.modSp n f).die = d.die := rfl
@[simp] theorem Dev.modSp_diey (n : Nat) (f : StepX → StepX) (d : Dev) : (d.modSp n f).diey = d.diey := rfl
@[simp] theorem Dev.modSp_vfld (n : Nat) (f : StepX → StepX) (d : Dev) : (d.modSp n f).vfld = d.vfld := rfl
@[simp] theorem Dev.modSp_imd (n : Nat) (f : StepX → StepX) (d : Dev) : (d.modSp n f).imd = d.imd := rfl
@[simp] theorem Dev.modSp_svc (n : Nat) (f : StepX → StepX) (d : Dev) : (d.modSp n f).svc = d.svc := rfl
@[simp] theorem Dev.modSp_forme (n : Nat) (f : StepX → StepX) (d : Dev) : (d.modSp n f).forme = d.forme := rfl
@[simp] theorem Dev.modSp_olc (n : Nat) (f : StepX → StepX) (d : Dev) : (d.modSp n f).olc = d.olc := rfl
@[simp] theorem Dev.modSp_net (n : Nat) (f : StepX → StepX) (d : Dev) : (d.modSp n f).net = d.net := rfl
@[simp] theorem Dev.modSp_rec_ (n : Nat) (f : StepX → StepX) (d : Dev) : (d.modSp n f).rec_ = d.rec_ := rfl
@[simp] theorem Dev.modSp_tap (n : Nat) (f : StepX → StepX) (d : Dev) : (d.modSp n f).tap = d.tap := rfl
@[simp] theorem Dev.modSp_free (n : Nat) (f : StepX → StepX) (d : Dev) : (d.modSp n f).free = d.free := rfl

/-! `modDi` changes `die` alone. -/

@[simp] theorem Dev.modDi_part (n : Nat) (f : DieX → DieX) (d : Dev) : (d.modDi n f).part = d.part := rfl
@[simp] theorem Dev.modDi_keep (n : Nat) (f : DieX → DieX) (d : Dev) : (d.modDi n f).keep = d.keep := rfl
@[simp] theorem Dev.modDi_tim (n : Nat) (f : DieX → DieX) (d : Dev) : (d.modDi n f).tim = d.tim := rfl
@[simp] theorem Dev.modDi_act (n : Nat) (f : DieX → DieX) (d : Dev) : (d.modDi n f).act = d.act := rfl
@[simp] theorem Dev.modDi_stg (n : Nat) (f : DieX → DieX) (d : Dev) : (d.modDi n f).stg = d.stg := rfl
@[simp] theorem Dev.modDi_c2 (n : Nat) (f : DieX → DieX) (d : Dev) : (d.modDi n f).c2 = d.c2 := rfl
@[simp] theorem Dev.modDi_otp (n : Nat) (f : DieX → DieX) (d : Dev) : (d.modDi n f).otp = d.otp := rfl
@[simp] theorem Dev.modDi_flt (n : Nat) (f : DieX → DieX) (d : Dev) : (d.modDi n f).flt = d.flt := rfl
@[simp] theorem Dev.modDi_boot (n : Nat) (f : DieX → DieX) (d : Dev) : (d.modDi n f).boot = d.boot := rfl
@[simp] theorem Dev.modDi_leaf (n : Nat) (f : DieX → DieX) (d : Dev) : (d.modDi n f).leaf = d.leaf := rfl
@[simp] theorem Dev.modDi_obs (n : Nat) (f : DieX → DieX) (d : Dev) : (d.modDi n f).obs = d.obs := rfl
@[simp] theorem Dev.modDi_kern (n : Nat) (f : DieX → DieX) (d : Dev) : (d.modDi n f).kern = d.kern := rfl
@[simp] theorem Dev.modDi_pos (n : Nat) (f : DieX → DieX) (d : Dev) : (d.modDi n f).pos = d.pos := rfl
@[simp] theorem Dev.modDi_fb (n : Nat) (f : DieX → DieX) (d : Dev) : (d.modDi n f).fb = d.fb := rfl
@[simp] theorem Dev.modDi_emu (n : Nat) (f : DieX → DieX) (d : Dev) : (d.modDi n f).emu = d.emu := rfl
@[simp] theorem Dev.modDi_step (n : Nat) (f : DieX → DieX) (d : Dev) : (d.modDi n f).step = d.step := rfl
@[simp] theorem Dev.modDi_sx (n : Nat) (f : DieX → DieX) (d : Dev) : (d.modDi n f).sx = d.sx := rfl
@[simp] theorem Dev.modDi_sy (n : Nat) (f : DieX → DieX) (d : Dev) : (d.modDi n f).sy = d.sy := rfl
@[simp] theorem Dev.modDi_px (n : Nat) (f : DieX → DieX) (d : Dev) : (d.modDi n f).px = d.px := rfl
@[simp] theorem Dev.modDi_py (n : Nat) (f : DieX → DieX) (d : Dev) : (d.modDi n f).py = d.py := rfl
@[simp] theorem Dev.modDi_diey (n : Nat) (f : DieX → DieX) (d : Dev) : (d.modDi n f).diey = d.diey := rfl
@[simp] theorem Dev.modDi_vfld (n : Nat) (f : DieX → DieX) (d : Dev) : (d.modDi n f).vfld = d.vfld := rfl
@[simp] theorem Dev.modDi_imd (n : Nat) (f : DieX → DieX) (d : Dev) : (d.modDi n f).imd = d.imd := rfl
@[simp] theorem Dev.modDi_svc (n : Nat) (f : DieX → DieX) (d : Dev) : (d.modDi n f).svc = d.svc := rfl
@[simp] theorem Dev.modDi_forme (n : Nat) (f : DieX → DieX) (d : Dev) : (d.modDi n f).forme = d.forme := rfl
@[simp] theorem Dev.modDi_olc (n : Nat) (f : DieX → DieX) (d : Dev) : (d.modDi n f).olc = d.olc := rfl
@[simp] theorem Dev.modDi_net (n : Nat) (f : DieX → DieX) (d : Dev) : (d.modDi n f).net = d.net := rfl
@[simp] theorem Dev.modDi_rec_ (n : Nat) (f : DieX → DieX) (d : Dev) : (d.modDi n f).rec_ = d.rec_ := rfl
@[simp] theorem Dev.modDi_tap (n : Nat) (f : DieX → DieX) (d : Dev) : (d.modDi n f).tap = d.tap := rfl
@[simp] theorem Dev.modDi_free (n : Nat) (f : DieX → DieX) (d : Dev) : (d.modDi n f).free = d.free := rfl

/-! `modDy` changes `diey` alone. -/

@[simp] theorem Dev.modDy_part (n : Nat) (f : DieY → DieY) (d : Dev) : (d.modDy n f).part = d.part := rfl
@[simp] theorem Dev.modDy_keep (n : Nat) (f : DieY → DieY) (d : Dev) : (d.modDy n f).keep = d.keep := rfl
@[simp] theorem Dev.modDy_tim (n : Nat) (f : DieY → DieY) (d : Dev) : (d.modDy n f).tim = d.tim := rfl
@[simp] theorem Dev.modDy_act (n : Nat) (f : DieY → DieY) (d : Dev) : (d.modDy n f).act = d.act := rfl
@[simp] theorem Dev.modDy_stg (n : Nat) (f : DieY → DieY) (d : Dev) : (d.modDy n f).stg = d.stg := rfl
@[simp] theorem Dev.modDy_c2 (n : Nat) (f : DieY → DieY) (d : Dev) : (d.modDy n f).c2 = d.c2 := rfl
@[simp] theorem Dev.modDy_otp (n : Nat) (f : DieY → DieY) (d : Dev) : (d.modDy n f).otp = d.otp := rfl
@[simp] theorem Dev.modDy_flt (n : Nat) (f : DieY → DieY) (d : Dev) : (d.modDy n f).flt = d.flt := rfl
@[simp] theorem Dev.modDy_boot (n : Nat) (f : DieY → DieY) (d : Dev) : (d.modDy n f).boot = d.boot := rfl
@[simp] theorem Dev.modDy_leaf (n : Nat) (f : DieY → DieY) (d : Dev) : (d.modDy n f).leaf = d.leaf := rfl
@[simp] theorem Dev.modDy_obs (n : Nat) (f : DieY → DieY) (d : Dev) : (d.modDy n f).obs = d.obs := rfl
@[simp] theorem Dev.modDy_kern (n : Nat) (f : DieY → DieY) (d : Dev) : (d.modDy n f).kern = d.kern := rfl
@[simp] theorem Dev.modDy_pos (n : Nat) (f : DieY → DieY) (d : Dev) : (d.modDy n f).pos = d.pos := rfl
@[simp] theorem Dev.modDy_fb (n : Nat) (f : DieY → DieY) (d : Dev) : (d.modDy n f).fb = d.fb := rfl
@[simp] theorem Dev.modDy_emu (n : Nat) (f : DieY → DieY) (d : Dev) : (d.modDy n f).emu = d.emu := rfl
@[simp] theorem Dev.modDy_step (n : Nat) (f : DieY → DieY) (d : Dev) : (d.modDy n f).step = d.step := rfl
@[simp] theorem Dev.modDy_sx (n : Nat) (f : DieY → DieY) (d : Dev) : (d.modDy n f).sx = d.sx := rfl
@[simp] theorem Dev.modDy_sy (n : Nat) (f : DieY → DieY) (d : Dev) : (d.modDy n f).sy = d.sy := rfl
@[simp] theorem Dev.modDy_px (n : Nat) (f : DieY → DieY) (d : Dev) : (d.modDy n f).px = d.px := rfl
@[simp] theorem Dev.modDy_py (n : Nat) (f : DieY → DieY) (d : Dev) : (d.modDy n f).py = d.py := rfl
@[simp] theorem Dev.modDy_die (n : Nat) (f : DieY → DieY) (d : Dev) : (d.modDy n f).die = d.die := rfl
@[simp] theorem Dev.modDy_vfld (n : Nat) (f : DieY → DieY) (d : Dev) : (d.modDy n f).vfld = d.vfld := rfl
@[simp] theorem Dev.modDy_imd (n : Nat) (f : DieY → DieY) (d : Dev) : (d.modDy n f).imd = d.imd := rfl
@[simp] theorem Dev.modDy_svc (n : Nat) (f : DieY → DieY) (d : Dev) : (d.modDy n f).svc = d.svc := rfl
@[simp] theorem Dev.modDy_forme (n : Nat) (f : DieY → DieY) (d : Dev) : (d.modDy n f).forme = d.forme := rfl
@[simp] theorem Dev.modDy_olc (n : Nat) (f : DieY → DieY) (d : Dev) : (d.modDy n f).olc = d.olc := rfl
@[simp] theorem Dev.modDy_net (n : Nat) (f : DieY → DieY) (d : Dev) : (d.modDy n f).net = d.net := rfl
@[simp] theorem Dev.modDy_rec_ (n : Nat) (f : DieY → DieY) (d : Dev) : (d.modDy n f).rec_ = d.rec_ := rfl
@[simp] theorem Dev.modDy_tap (n : Nat) (f : DieY → DieY) (d : Dev) : (d.modDy n f).tap = d.tap := rfl
@[simp] theorem Dev.modDy_free (n : Nat) (f : DieY → DieY) (d : Dev) : (d.modDy n f).free = d.free := rfl

/-! `modCn` changes `net` alone. -/

@[simp] theorem Dev.modCn_part (n : Nat) (f : CanX → CanX) (d : Dev) : (d.modCn n f).part = d.part := rfl
@[simp] theorem Dev.modCn_keep (n : Nat) (f : CanX → CanX) (d : Dev) : (d.modCn n f).keep = d.keep := rfl
@[simp] theorem Dev.modCn_tim (n : Nat) (f : CanX → CanX) (d : Dev) : (d.modCn n f).tim = d.tim := rfl
@[simp] theorem Dev.modCn_act (n : Nat) (f : CanX → CanX) (d : Dev) : (d.modCn n f).act = d.act := rfl
@[simp] theorem Dev.modCn_stg (n : Nat) (f : CanX → CanX) (d : Dev) : (d.modCn n f).stg = d.stg := rfl
@[simp] theorem Dev.modCn_c2 (n : Nat) (f : CanX → CanX) (d : Dev) : (d.modCn n f).c2 = d.c2 := rfl
@[simp] theorem Dev.modCn_otp (n : Nat) (f : CanX → CanX) (d : Dev) : (d.modCn n f).otp = d.otp := rfl
@[simp] theorem Dev.modCn_flt (n : Nat) (f : CanX → CanX) (d : Dev) : (d.modCn n f).flt = d.flt := rfl
@[simp] theorem Dev.modCn_boot (n : Nat) (f : CanX → CanX) (d : Dev) : (d.modCn n f).boot = d.boot := rfl
@[simp] theorem Dev.modCn_leaf (n : Nat) (f : CanX → CanX) (d : Dev) : (d.modCn n f).leaf = d.leaf := rfl
@[simp] theorem Dev.modCn_obs (n : Nat) (f : CanX → CanX) (d : Dev) : (d.modCn n f).obs = d.obs := rfl
@[simp] theorem Dev.modCn_kern (n : Nat) (f : CanX → CanX) (d : Dev) : (d.modCn n f).kern = d.kern := rfl
@[simp] theorem Dev.modCn_pos (n : Nat) (f : CanX → CanX) (d : Dev) : (d.modCn n f).pos = d.pos := rfl
@[simp] theorem Dev.modCn_fb (n : Nat) (f : CanX → CanX) (d : Dev) : (d.modCn n f).fb = d.fb := rfl
@[simp] theorem Dev.modCn_emu (n : Nat) (f : CanX → CanX) (d : Dev) : (d.modCn n f).emu = d.emu := rfl
@[simp] theorem Dev.modCn_step (n : Nat) (f : CanX → CanX) (d : Dev) : (d.modCn n f).step = d.step := rfl
@[simp] theorem Dev.modCn_sx (n : Nat) (f : CanX → CanX) (d : Dev) : (d.modCn n f).sx = d.sx := rfl
@[simp] theorem Dev.modCn_sy (n : Nat) (f : CanX → CanX) (d : Dev) : (d.modCn n f).sy = d.sy := rfl
@[simp] theorem Dev.modCn_px (n : Nat) (f : CanX → CanX) (d : Dev) : (d.modCn n f).px = d.px := rfl
@[simp] theorem Dev.modCn_py (n : Nat) (f : CanX → CanX) (d : Dev) : (d.modCn n f).py = d.py := rfl
@[simp] theorem Dev.modCn_die (n : Nat) (f : CanX → CanX) (d : Dev) : (d.modCn n f).die = d.die := rfl
@[simp] theorem Dev.modCn_diey (n : Nat) (f : CanX → CanX) (d : Dev) : (d.modCn n f).diey = d.diey := rfl
@[simp] theorem Dev.modCn_vfld (n : Nat) (f : CanX → CanX) (d : Dev) : (d.modCn n f).vfld = d.vfld := rfl
@[simp] theorem Dev.modCn_imd (n : Nat) (f : CanX → CanX) (d : Dev) : (d.modCn n f).imd = d.imd := rfl
@[simp] theorem Dev.modCn_svc (n : Nat) (f : CanX → CanX) (d : Dev) : (d.modCn n f).svc = d.svc := rfl
@[simp] theorem Dev.modCn_forme (n : Nat) (f : CanX → CanX) (d : Dev) : (d.modCn n f).forme = d.forme := rfl
@[simp] theorem Dev.modCn_olc (n : Nat) (f : CanX → CanX) (d : Dev) : (d.modCn n f).olc = d.olc := rfl
@[simp] theorem Dev.modCn_rec_ (n : Nat) (f : CanX → CanX) (d : Dev) : (d.modCn n f).rec_ = d.rec_ := rfl
@[simp] theorem Dev.modCn_tap (n : Nat) (f : CanX → CanX) (d : Dev) : (d.modCn n f).tap = d.tap := rfl
@[simp] theorem Dev.modCn_free (n : Nat) (f : CanX → CanX) (d : Dev) : (d.modCn n f).free = d.free := rfl

/-! `drew` changes `free` alone. -/

@[simp] theorem Dev.drew_part (d : Dev) : (d.drew).part = d.part := rfl
@[simp] theorem Dev.drew_keep (d : Dev) : (d.drew).keep = d.keep := rfl
@[simp] theorem Dev.drew_tim (d : Dev) : (d.drew).tim = d.tim := rfl
@[simp] theorem Dev.drew_act (d : Dev) : (d.drew).act = d.act := rfl
@[simp] theorem Dev.drew_stg (d : Dev) : (d.drew).stg = d.stg := rfl
@[simp] theorem Dev.drew_c2 (d : Dev) : (d.drew).c2 = d.c2 := rfl
@[simp] theorem Dev.drew_otp (d : Dev) : (d.drew).otp = d.otp := rfl
@[simp] theorem Dev.drew_flt (d : Dev) : (d.drew).flt = d.flt := rfl
@[simp] theorem Dev.drew_boot (d : Dev) : (d.drew).boot = d.boot := rfl
@[simp] theorem Dev.drew_leaf (d : Dev) : (d.drew).leaf = d.leaf := rfl
@[simp] theorem Dev.drew_obs (d : Dev) : (d.drew).obs = d.obs := rfl
@[simp] theorem Dev.drew_kern (d : Dev) : (d.drew).kern = d.kern := rfl
@[simp] theorem Dev.drew_pos (d : Dev) : (d.drew).pos = d.pos := rfl
@[simp] theorem Dev.drew_fb (d : Dev) : (d.drew).fb = d.fb := rfl
@[simp] theorem Dev.drew_emu (d : Dev) : (d.drew).emu = d.emu := rfl
@[simp] theorem Dev.drew_step (d : Dev) : (d.drew).step = d.step := rfl
@[simp] theorem Dev.drew_sx (d : Dev) : (d.drew).sx = d.sx := rfl
@[simp] theorem Dev.drew_sy (d : Dev) : (d.drew).sy = d.sy := rfl
@[simp] theorem Dev.drew_px (d : Dev) : (d.drew).px = d.px := rfl
@[simp] theorem Dev.drew_py (d : Dev) : (d.drew).py = d.py := rfl
@[simp] theorem Dev.drew_die (d : Dev) : (d.drew).die = d.die := rfl
@[simp] theorem Dev.drew_diey (d : Dev) : (d.drew).diey = d.diey := rfl
@[simp] theorem Dev.drew_vfld (d : Dev) : (d.drew).vfld = d.vfld := rfl
@[simp] theorem Dev.drew_imd (d : Dev) : (d.drew).imd = d.imd := rfl
@[simp] theorem Dev.drew_svc (d : Dev) : (d.drew).svc = d.svc := rfl
@[simp] theorem Dev.drew_forme (d : Dev) : (d.drew).forme = d.forme := rfl
@[simp] theorem Dev.drew_olc (d : Dev) : (d.drew).olc = d.olc := rfl
@[simp] theorem Dev.drew_net (d : Dev) : (d.drew).net = d.net := rfl
@[simp] theorem Dev.drew_rec_ (d : Dev) : (d.drew).rec_ = d.rec_ := rfl
@[simp] theorem Dev.drew_tap (d : Dev) : (d.drew).tap = d.tap := rfl

/-! `c2off` changes `c2` alone. -/

@[simp] theorem Dev.c2off_part (pg c i : Nat) (d : Dev) : (d.c2off pg c i).part = d.part := rfl
@[simp] theorem Dev.c2off_keep (pg c i : Nat) (d : Dev) : (d.c2off pg c i).keep = d.keep := rfl
@[simp] theorem Dev.c2off_tim (pg c i : Nat) (d : Dev) : (d.c2off pg c i).tim = d.tim := rfl
@[simp] theorem Dev.c2off_act (pg c i : Nat) (d : Dev) : (d.c2off pg c i).act = d.act := rfl
@[simp] theorem Dev.c2off_stg (pg c i : Nat) (d : Dev) : (d.c2off pg c i).stg = d.stg := rfl
@[simp] theorem Dev.c2off_otp (pg c i : Nat) (d : Dev) : (d.c2off pg c i).otp = d.otp := rfl
@[simp] theorem Dev.c2off_flt (pg c i : Nat) (d : Dev) : (d.c2off pg c i).flt = d.flt := rfl
@[simp] theorem Dev.c2off_boot (pg c i : Nat) (d : Dev) : (d.c2off pg c i).boot = d.boot := rfl
@[simp] theorem Dev.c2off_leaf (pg c i : Nat) (d : Dev) : (d.c2off pg c i).leaf = d.leaf := rfl
@[simp] theorem Dev.c2off_obs (pg c i : Nat) (d : Dev) : (d.c2off pg c i).obs = d.obs := rfl
@[simp] theorem Dev.c2off_kern (pg c i : Nat) (d : Dev) : (d.c2off pg c i).kern = d.kern := rfl
@[simp] theorem Dev.c2off_pos (pg c i : Nat) (d : Dev) : (d.c2off pg c i).pos = d.pos := rfl
@[simp] theorem Dev.c2off_fb (pg c i : Nat) (d : Dev) : (d.c2off pg c i).fb = d.fb := rfl
@[simp] theorem Dev.c2off_emu (pg c i : Nat) (d : Dev) : (d.c2off pg c i).emu = d.emu := rfl
@[simp] theorem Dev.c2off_step (pg c i : Nat) (d : Dev) : (d.c2off pg c i).step = d.step := rfl
@[simp] theorem Dev.c2off_sx (pg c i : Nat) (d : Dev) : (d.c2off pg c i).sx = d.sx := rfl
@[simp] theorem Dev.c2off_sy (pg c i : Nat) (d : Dev) : (d.c2off pg c i).sy = d.sy := rfl
@[simp] theorem Dev.c2off_px (pg c i : Nat) (d : Dev) : (d.c2off pg c i).px = d.px := rfl
@[simp] theorem Dev.c2off_py (pg c i : Nat) (d : Dev) : (d.c2off pg c i).py = d.py := rfl
@[simp] theorem Dev.c2off_die (pg c i : Nat) (d : Dev) : (d.c2off pg c i).die = d.die := rfl
@[simp] theorem Dev.c2off_diey (pg c i : Nat) (d : Dev) : (d.c2off pg c i).diey = d.diey := rfl
@[simp] theorem Dev.c2off_vfld (pg c i : Nat) (d : Dev) : (d.c2off pg c i).vfld = d.vfld := rfl
@[simp] theorem Dev.c2off_imd (pg c i : Nat) (d : Dev) : (d.c2off pg c i).imd = d.imd := rfl
@[simp] theorem Dev.c2off_svc (pg c i : Nat) (d : Dev) : (d.c2off pg c i).svc = d.svc := rfl
@[simp] theorem Dev.c2off_forme (pg c i : Nat) (d : Dev) : (d.c2off pg c i).forme = d.forme := rfl
@[simp] theorem Dev.c2off_olc (pg c i : Nat) (d : Dev) : (d.c2off pg c i).olc = d.olc := rfl
@[simp] theorem Dev.c2off_net (pg c i : Nat) (d : Dev) : (d.c2off pg c i).net = d.net := rfl
@[simp] theorem Dev.c2off_rec_ (pg c i : Nat) (d : Dev) : (d.c2off pg c i).rec_ = d.rec_ := rfl
@[simp] theorem Dev.c2off_tap (pg c i : Nat) (d : Dev) : (d.c2off pg c i).tap = d.tap := rfl
@[simp] theorem Dev.c2off_free (pg c i : Nat) (d : Dev) : (d.c2off pg c i).free = d.free := rfl

/-! `c2clr` changes `c2` alone. -/

@[simp] theorem Dev.c2clr_part (pg : Nat) (d : Dev) : (d.c2clr pg).part = d.part := rfl
@[simp] theorem Dev.c2clr_keep (pg : Nat) (d : Dev) : (d.c2clr pg).keep = d.keep := rfl
@[simp] theorem Dev.c2clr_tim (pg : Nat) (d : Dev) : (d.c2clr pg).tim = d.tim := rfl
@[simp] theorem Dev.c2clr_act (pg : Nat) (d : Dev) : (d.c2clr pg).act = d.act := rfl
@[simp] theorem Dev.c2clr_stg (pg : Nat) (d : Dev) : (d.c2clr pg).stg = d.stg := rfl
@[simp] theorem Dev.c2clr_otp (pg : Nat) (d : Dev) : (d.c2clr pg).otp = d.otp := rfl
@[simp] theorem Dev.c2clr_flt (pg : Nat) (d : Dev) : (d.c2clr pg).flt = d.flt := rfl
@[simp] theorem Dev.c2clr_boot (pg : Nat) (d : Dev) : (d.c2clr pg).boot = d.boot := rfl
@[simp] theorem Dev.c2clr_leaf (pg : Nat) (d : Dev) : (d.c2clr pg).leaf = d.leaf := rfl
@[simp] theorem Dev.c2clr_obs (pg : Nat) (d : Dev) : (d.c2clr pg).obs = d.obs := rfl
@[simp] theorem Dev.c2clr_kern (pg : Nat) (d : Dev) : (d.c2clr pg).kern = d.kern := rfl
@[simp] theorem Dev.c2clr_pos (pg : Nat) (d : Dev) : (d.c2clr pg).pos = d.pos := rfl
@[simp] theorem Dev.c2clr_fb (pg : Nat) (d : Dev) : (d.c2clr pg).fb = d.fb := rfl
@[simp] theorem Dev.c2clr_emu (pg : Nat) (d : Dev) : (d.c2clr pg).emu = d.emu := rfl
@[simp] theorem Dev.c2clr_step (pg : Nat) (d : Dev) : (d.c2clr pg).step = d.step := rfl
@[simp] theorem Dev.c2clr_sx (pg : Nat) (d : Dev) : (d.c2clr pg).sx = d.sx := rfl
@[simp] theorem Dev.c2clr_sy (pg : Nat) (d : Dev) : (d.c2clr pg).sy = d.sy := rfl
@[simp] theorem Dev.c2clr_px (pg : Nat) (d : Dev) : (d.c2clr pg).px = d.px := rfl
@[simp] theorem Dev.c2clr_py (pg : Nat) (d : Dev) : (d.c2clr pg).py = d.py := rfl
@[simp] theorem Dev.c2clr_die (pg : Nat) (d : Dev) : (d.c2clr pg).die = d.die := rfl
@[simp] theorem Dev.c2clr_diey (pg : Nat) (d : Dev) : (d.c2clr pg).diey = d.diey := rfl
@[simp] theorem Dev.c2clr_vfld (pg : Nat) (d : Dev) : (d.c2clr pg).vfld = d.vfld := rfl
@[simp] theorem Dev.c2clr_imd (pg : Nat) (d : Dev) : (d.c2clr pg).imd = d.imd := rfl
@[simp] theorem Dev.c2clr_svc (pg : Nat) (d : Dev) : (d.c2clr pg).svc = d.svc := rfl
@[simp] theorem Dev.c2clr_forme (pg : Nat) (d : Dev) : (d.c2clr pg).forme = d.forme := rfl
@[simp] theorem Dev.c2clr_olc (pg : Nat) (d : Dev) : (d.c2clr pg).olc = d.olc := rfl
@[simp] theorem Dev.c2clr_net (pg : Nat) (d : Dev) : (d.c2clr pg).net = d.net := rfl
@[simp] theorem Dev.c2clr_rec_ (pg : Nat) (d : Dev) : (d.c2clr pg).rec_ = d.rec_ := rfl
@[simp] theorem Dev.c2clr_tap (pg : Nat) (d : Dev) : (d.c2clr pg).tap = d.tap := rfl
@[simp] theorem Dev.c2clr_free (pg : Nat) (d : Dev) : (d.c2clr pg).free = d.free := rfl

/-! Vectors of like parts. -/

theorem vget_vmod {α : Type} {n : Nat} (v : Vector α n) (i j : Nat) (f : α → α) (x : α) :
    vget (vmod v i f) j x = if i = j ∧ j < n then f (vget v j x) else vget v j x := by
  unfold vget vmod
  by_cases hi : i < n
  · rw [dif_pos hi]
    by_cases hij : i = j
    · subst hij
      simp [hi]
    · rw [Vector.getElem?_set_ne hi hij]
      simp [hij]
  · rw [dif_neg hi]
    split
    · omega
    · rfl

theorem vget_vmod_ne {α : Type} {n : Nat} (v : Vector α n) (i j : Nat) (f : α → α) (x : α) (h : i ≠ j) :
    vget (vmod v i f) j x = vget v j x := by
  rw [vget_vmod, if_neg fun c => h c.1]

theorem vget_vmod_same {α : Type} {n : Nat} (v : Vector α n) (i : Nat) (f : α → α) (x : α) (h : i < n) :
    vget (vmod v i f) i x = f (vget v i x) := by
  rw [vget_vmod, if_pos ⟨rfl, h⟩]

theorem Dev.lf_modLf (n m : Nat) (f : LeafX → LeafX) (d : Dev) :
    (d.modLf n f).lf m = if n = m ∧ m < 8 then f (d.lf m) else d.lf m := vget_vmod ..
theorem Dev.ob_modOb (n m : Nat) (f : ObsX → ObsX) (d : Dev) :
    (d.modOb n f).ob m = if n = m ∧ m < 8 then f (d.ob m) else d.ob m := vget_vmod ..
theorem Dev.kn_modKn (n m : Nat) (f : KernX → KernX) (d : Dev) :
    (d.modKn n f).kn m = if n = m ∧ m < 8 then f (d.kn m) else d.kn m := vget_vmod ..
theorem Dev.ps_modPs (n m : Nat) (f : PosX → PosX) (d : Dev) :
    (d.modPs n f).ps m = if n = m ∧ m < 12 then f (d.ps m) else d.ps m := vget_vmod ..
theorem Dev.fbk_modFb (n m : Nat) (f : FbX → FbX) (d : Dev) :
    (d.modFb n f).fbk m = if n = m ∧ m < 12 then f (d.fbk m) else d.fbk m := vget_vmod ..
theorem Dev.em_modEm (n m : Nat) (f : EmuX → EmuX) (d : Dev) :
    (d.modEm n f).em m = if n = m ∧ m < 4 then f (d.em m) else d.em m := vget_vmod ..
theorem Dev.sp_modSp (n m : Nat) (f : StepX → StepX) (d : Dev) :
    (d.modSp n f).sp m = if n = m ∧ m < 4 then f (d.sp m) else d.sp m := vget_vmod ..
theorem Dev.di_modDi (n m : Nat) (f : DieX → DieX) (d : Dev) :
    (d.modDi n f).di m = if n = m ∧ m < 2 then f (d.di m) else d.di m := vget_vmod ..
theorem Dev.dy_modDy (n m : Nat) (f : DieY → DieY) (d : Dev) :
    (d.modDy n f).dy m = if n = m ∧ m < 2 then f (d.dy m) else d.dy m := vget_vmod ..
theorem Dev.cn_modCn (n m : Nat) (f : CanX → CanX) (d : Dev) :
    (d.modCn n f).cn m = if n = m ∧ m < 3 then f (d.cn m) else d.cn m := vget_vmod ..

/-! A part is what it was after an update of another field. -/

@[simp] theorem Dev.lf_put (pg : Nat) (f : Fld) (v : Nat) (d : Dev) (m : Nat) : (d.put pg f v).lf m = d.lf m := rfl
@[simp] theorem Dev.ob_put (pg : Nat) (f : Fld) (v : Nat) (d : Dev) (m : Nat) : (d.put pg f v).ob m = d.ob m := rfl
@[simp] theorem Dev.kn_put (pg : Nat) (f : Fld) (v : Nat) (d : Dev) (m : Nat) : (d.put pg f v).kn m = d.kn m := rfl
@[simp] theorem Dev.ps_put (pg : Nat) (f : Fld) (v : Nat) (d : Dev) (m : Nat) : (d.put pg f v).ps m = d.ps m := rfl
@[simp] theorem Dev.fbk_put (pg : Nat) (f : Fld) (v : Nat) (d : Dev) (m : Nat) : (d.put pg f v).fbk m = d.fbk m := rfl
@[simp] theorem Dev.em_put (pg : Nat) (f : Fld) (v : Nat) (d : Dev) (m : Nat) : (d.put pg f v).em m = d.em m := rfl
@[simp] theorem Dev.sp_put (pg : Nat) (f : Fld) (v : Nat) (d : Dev) (m : Nat) : (d.put pg f v).sp m = d.sp m := rfl
@[simp] theorem Dev.di_put (pg : Nat) (f : Fld) (v : Nat) (d : Dev) (m : Nat) : (d.put pg f v).di m = d.di m := rfl
@[simp] theorem Dev.dy_put (pg : Nat) (f : Fld) (v : Nat) (d : Dev) (m : Nat) : (d.put pg f v).dy m = d.dy m := rfl
@[simp] theorem Dev.sget_put (pg : Nat) (f : Fld) (v : Nat) (d : Dev) (p : Nat) (g : Fld) : (d.put pg f v).sget p g = d.sget p g := rfl
@[simp] theorem Dev.alive_put (pg : Nat) (f : Fld) (v : Nat) (d : Dev) : (d.put pg f v).alive = d.alive := rfl
@[simp] theorem Dev.lf_sput (pg : Nat) (f : Fld) (v : Nat) (d : Dev) (m : Nat) : (d.sput pg f v).lf m = d.lf m := rfl
@[simp] theorem Dev.ob_sput (pg : Nat) (f : Fld) (v : Nat) (d : Dev) (m : Nat) : (d.sput pg f v).ob m = d.ob m := rfl
@[simp] theorem Dev.kn_sput (pg : Nat) (f : Fld) (v : Nat) (d : Dev) (m : Nat) : (d.sput pg f v).kn m = d.kn m := rfl
@[simp] theorem Dev.ps_sput (pg : Nat) (f : Fld) (v : Nat) (d : Dev) (m : Nat) : (d.sput pg f v).ps m = d.ps m := rfl
@[simp] theorem Dev.fbk_sput (pg : Nat) (f : Fld) (v : Nat) (d : Dev) (m : Nat) : (d.sput pg f v).fbk m = d.fbk m := rfl
@[simp] theorem Dev.em_sput (pg : Nat) (f : Fld) (v : Nat) (d : Dev) (m : Nat) : (d.sput pg f v).em m = d.em m := rfl
@[simp] theorem Dev.sp_sput (pg : Nat) (f : Fld) (v : Nat) (d : Dev) (m : Nat) : (d.sput pg f v).sp m = d.sp m := rfl
@[simp] theorem Dev.di_sput (pg : Nat) (f : Fld) (v : Nat) (d : Dev) (m : Nat) : (d.sput pg f v).di m = d.di m := rfl
@[simp] theorem Dev.dy_sput (pg : Nat) (f : Fld) (v : Nat) (d : Dev) (m : Nat) : (d.sput pg f v).dy m = d.dy m := rfl
@[simp] theorem Dev.get_sput (pg : Nat) (f : Fld) (v : Nat) (d : Dev) (p : Nat) (g : Fld) : (d.sput pg f v).get p g = d.get p g := rfl
@[simp] theorem Dev.alive_sput (pg : Nat) (f : Fld) (v : Nat) (d : Dev) : (d.sput pg f v).alive = d.alive := rfl
@[simp] theorem Dev.ob_modLf (n : Nat) (f : LeafX → LeafX) (d : Dev) (m : Nat) : (d.modLf n f).ob m = d.ob m := rfl
@[simp] theorem Dev.kn_modLf (n : Nat) (f : LeafX → LeafX) (d : Dev) (m : Nat) : (d.modLf n f).kn m = d.kn m := rfl
@[simp] theorem Dev.ps_modLf (n : Nat) (f : LeafX → LeafX) (d : Dev) (m : Nat) : (d.modLf n f).ps m = d.ps m := rfl
@[simp] theorem Dev.fbk_modLf (n : Nat) (f : LeafX → LeafX) (d : Dev) (m : Nat) : (d.modLf n f).fbk m = d.fbk m := rfl
@[simp] theorem Dev.em_modLf (n : Nat) (f : LeafX → LeafX) (d : Dev) (m : Nat) : (d.modLf n f).em m = d.em m := rfl
@[simp] theorem Dev.sp_modLf (n : Nat) (f : LeafX → LeafX) (d : Dev) (m : Nat) : (d.modLf n f).sp m = d.sp m := rfl
@[simp] theorem Dev.di_modLf (n : Nat) (f : LeafX → LeafX) (d : Dev) (m : Nat) : (d.modLf n f).di m = d.di m := rfl
@[simp] theorem Dev.dy_modLf (n : Nat) (f : LeafX → LeafX) (d : Dev) (m : Nat) : (d.modLf n f).dy m = d.dy m := rfl
@[simp] theorem Dev.get_modLf (n : Nat) (f : LeafX → LeafX) (d : Dev) (p : Nat) (g : Fld) : (d.modLf n f).get p g = d.get p g := rfl
@[simp] theorem Dev.sget_modLf (n : Nat) (f : LeafX → LeafX) (d : Dev) (p : Nat) (g : Fld) : (d.modLf n f).sget p g = d.sget p g := rfl
@[simp] theorem Dev.alive_modLf (n : Nat) (f : LeafX → LeafX) (d : Dev) : (d.modLf n f).alive = d.alive := rfl
@[simp] theorem Dev.lf_modOb (n : Nat) (f : ObsX → ObsX) (d : Dev) (m : Nat) : (d.modOb n f).lf m = d.lf m := rfl
@[simp] theorem Dev.kn_modOb (n : Nat) (f : ObsX → ObsX) (d : Dev) (m : Nat) : (d.modOb n f).kn m = d.kn m := rfl
@[simp] theorem Dev.ps_modOb (n : Nat) (f : ObsX → ObsX) (d : Dev) (m : Nat) : (d.modOb n f).ps m = d.ps m := rfl
@[simp] theorem Dev.fbk_modOb (n : Nat) (f : ObsX → ObsX) (d : Dev) (m : Nat) : (d.modOb n f).fbk m = d.fbk m := rfl
@[simp] theorem Dev.em_modOb (n : Nat) (f : ObsX → ObsX) (d : Dev) (m : Nat) : (d.modOb n f).em m = d.em m := rfl
@[simp] theorem Dev.sp_modOb (n : Nat) (f : ObsX → ObsX) (d : Dev) (m : Nat) : (d.modOb n f).sp m = d.sp m := rfl
@[simp] theorem Dev.di_modOb (n : Nat) (f : ObsX → ObsX) (d : Dev) (m : Nat) : (d.modOb n f).di m = d.di m := rfl
@[simp] theorem Dev.dy_modOb (n : Nat) (f : ObsX → ObsX) (d : Dev) (m : Nat) : (d.modOb n f).dy m = d.dy m := rfl
@[simp] theorem Dev.get_modOb (n : Nat) (f : ObsX → ObsX) (d : Dev) (p : Nat) (g : Fld) : (d.modOb n f).get p g = d.get p g := rfl
@[simp] theorem Dev.sget_modOb (n : Nat) (f : ObsX → ObsX) (d : Dev) (p : Nat) (g : Fld) : (d.modOb n f).sget p g = d.sget p g := rfl
@[simp] theorem Dev.alive_modOb (n : Nat) (f : ObsX → ObsX) (d : Dev) : (d.modOb n f).alive = d.alive := rfl
@[simp] theorem Dev.lf_modKn (n : Nat) (f : KernX → KernX) (d : Dev) (m : Nat) : (d.modKn n f).lf m = d.lf m := rfl
@[simp] theorem Dev.ob_modKn (n : Nat) (f : KernX → KernX) (d : Dev) (m : Nat) : (d.modKn n f).ob m = d.ob m := rfl
@[simp] theorem Dev.ps_modKn (n : Nat) (f : KernX → KernX) (d : Dev) (m : Nat) : (d.modKn n f).ps m = d.ps m := rfl
@[simp] theorem Dev.fbk_modKn (n : Nat) (f : KernX → KernX) (d : Dev) (m : Nat) : (d.modKn n f).fbk m = d.fbk m := rfl
@[simp] theorem Dev.em_modKn (n : Nat) (f : KernX → KernX) (d : Dev) (m : Nat) : (d.modKn n f).em m = d.em m := rfl
@[simp] theorem Dev.sp_modKn (n : Nat) (f : KernX → KernX) (d : Dev) (m : Nat) : (d.modKn n f).sp m = d.sp m := rfl
@[simp] theorem Dev.di_modKn (n : Nat) (f : KernX → KernX) (d : Dev) (m : Nat) : (d.modKn n f).di m = d.di m := rfl
@[simp] theorem Dev.dy_modKn (n : Nat) (f : KernX → KernX) (d : Dev) (m : Nat) : (d.modKn n f).dy m = d.dy m := rfl
@[simp] theorem Dev.get_modKn (n : Nat) (f : KernX → KernX) (d : Dev) (p : Nat) (g : Fld) : (d.modKn n f).get p g = d.get p g := rfl
@[simp] theorem Dev.sget_modKn (n : Nat) (f : KernX → KernX) (d : Dev) (p : Nat) (g : Fld) : (d.modKn n f).sget p g = d.sget p g := rfl
@[simp] theorem Dev.alive_modKn (n : Nat) (f : KernX → KernX) (d : Dev) : (d.modKn n f).alive = d.alive := rfl
@[simp] theorem Dev.lf_modPs (n : Nat) (f : PosX → PosX) (d : Dev) (m : Nat) : (d.modPs n f).lf m = d.lf m := rfl
@[simp] theorem Dev.ob_modPs (n : Nat) (f : PosX → PosX) (d : Dev) (m : Nat) : (d.modPs n f).ob m = d.ob m := rfl
@[simp] theorem Dev.kn_modPs (n : Nat) (f : PosX → PosX) (d : Dev) (m : Nat) : (d.modPs n f).kn m = d.kn m := rfl
@[simp] theorem Dev.fbk_modPs (n : Nat) (f : PosX → PosX) (d : Dev) (m : Nat) : (d.modPs n f).fbk m = d.fbk m := rfl
@[simp] theorem Dev.em_modPs (n : Nat) (f : PosX → PosX) (d : Dev) (m : Nat) : (d.modPs n f).em m = d.em m := rfl
@[simp] theorem Dev.sp_modPs (n : Nat) (f : PosX → PosX) (d : Dev) (m : Nat) : (d.modPs n f).sp m = d.sp m := rfl
@[simp] theorem Dev.di_modPs (n : Nat) (f : PosX → PosX) (d : Dev) (m : Nat) : (d.modPs n f).di m = d.di m := rfl
@[simp] theorem Dev.dy_modPs (n : Nat) (f : PosX → PosX) (d : Dev) (m : Nat) : (d.modPs n f).dy m = d.dy m := rfl
@[simp] theorem Dev.get_modPs (n : Nat) (f : PosX → PosX) (d : Dev) (p : Nat) (g : Fld) : (d.modPs n f).get p g = d.get p g := rfl
@[simp] theorem Dev.sget_modPs (n : Nat) (f : PosX → PosX) (d : Dev) (p : Nat) (g : Fld) : (d.modPs n f).sget p g = d.sget p g := rfl
@[simp] theorem Dev.alive_modPs (n : Nat) (f : PosX → PosX) (d : Dev) : (d.modPs n f).alive = d.alive := rfl
@[simp] theorem Dev.lf_modFb (n : Nat) (f : FbX → FbX) (d : Dev) (m : Nat) : (d.modFb n f).lf m = d.lf m := rfl
@[simp] theorem Dev.ob_modFb (n : Nat) (f : FbX → FbX) (d : Dev) (m : Nat) : (d.modFb n f).ob m = d.ob m := rfl
@[simp] theorem Dev.kn_modFb (n : Nat) (f : FbX → FbX) (d : Dev) (m : Nat) : (d.modFb n f).kn m = d.kn m := rfl
@[simp] theorem Dev.ps_modFb (n : Nat) (f : FbX → FbX) (d : Dev) (m : Nat) : (d.modFb n f).ps m = d.ps m := rfl
@[simp] theorem Dev.em_modFb (n : Nat) (f : FbX → FbX) (d : Dev) (m : Nat) : (d.modFb n f).em m = d.em m := rfl
@[simp] theorem Dev.sp_modFb (n : Nat) (f : FbX → FbX) (d : Dev) (m : Nat) : (d.modFb n f).sp m = d.sp m := rfl
@[simp] theorem Dev.di_modFb (n : Nat) (f : FbX → FbX) (d : Dev) (m : Nat) : (d.modFb n f).di m = d.di m := rfl
@[simp] theorem Dev.dy_modFb (n : Nat) (f : FbX → FbX) (d : Dev) (m : Nat) : (d.modFb n f).dy m = d.dy m := rfl
@[simp] theorem Dev.get_modFb (n : Nat) (f : FbX → FbX) (d : Dev) (p : Nat) (g : Fld) : (d.modFb n f).get p g = d.get p g := rfl
@[simp] theorem Dev.sget_modFb (n : Nat) (f : FbX → FbX) (d : Dev) (p : Nat) (g : Fld) : (d.modFb n f).sget p g = d.sget p g := rfl
@[simp] theorem Dev.alive_modFb (n : Nat) (f : FbX → FbX) (d : Dev) : (d.modFb n f).alive = d.alive := rfl
@[simp] theorem Dev.lf_modEm (n : Nat) (f : EmuX → EmuX) (d : Dev) (m : Nat) : (d.modEm n f).lf m = d.lf m := rfl
@[simp] theorem Dev.ob_modEm (n : Nat) (f : EmuX → EmuX) (d : Dev) (m : Nat) : (d.modEm n f).ob m = d.ob m := rfl
@[simp] theorem Dev.kn_modEm (n : Nat) (f : EmuX → EmuX) (d : Dev) (m : Nat) : (d.modEm n f).kn m = d.kn m := rfl
@[simp] theorem Dev.ps_modEm (n : Nat) (f : EmuX → EmuX) (d : Dev) (m : Nat) : (d.modEm n f).ps m = d.ps m := rfl
@[simp] theorem Dev.fbk_modEm (n : Nat) (f : EmuX → EmuX) (d : Dev) (m : Nat) : (d.modEm n f).fbk m = d.fbk m := rfl
@[simp] theorem Dev.sp_modEm (n : Nat) (f : EmuX → EmuX) (d : Dev) (m : Nat) : (d.modEm n f).sp m = d.sp m := rfl
@[simp] theorem Dev.di_modEm (n : Nat) (f : EmuX → EmuX) (d : Dev) (m : Nat) : (d.modEm n f).di m = d.di m := rfl
@[simp] theorem Dev.dy_modEm (n : Nat) (f : EmuX → EmuX) (d : Dev) (m : Nat) : (d.modEm n f).dy m = d.dy m := rfl
@[simp] theorem Dev.get_modEm (n : Nat) (f : EmuX → EmuX) (d : Dev) (p : Nat) (g : Fld) : (d.modEm n f).get p g = d.get p g := rfl
@[simp] theorem Dev.sget_modEm (n : Nat) (f : EmuX → EmuX) (d : Dev) (p : Nat) (g : Fld) : (d.modEm n f).sget p g = d.sget p g := rfl
@[simp] theorem Dev.alive_modEm (n : Nat) (f : EmuX → EmuX) (d : Dev) : (d.modEm n f).alive = d.alive := rfl
@[simp] theorem Dev.lf_modSp (n : Nat) (f : StepX → StepX) (d : Dev) (m : Nat) : (d.modSp n f).lf m = d.lf m := rfl
@[simp] theorem Dev.ob_modSp (n : Nat) (f : StepX → StepX) (d : Dev) (m : Nat) : (d.modSp n f).ob m = d.ob m := rfl
@[simp] theorem Dev.kn_modSp (n : Nat) (f : StepX → StepX) (d : Dev) (m : Nat) : (d.modSp n f).kn m = d.kn m := rfl
@[simp] theorem Dev.ps_modSp (n : Nat) (f : StepX → StepX) (d : Dev) (m : Nat) : (d.modSp n f).ps m = d.ps m := rfl
@[simp] theorem Dev.fbk_modSp (n : Nat) (f : StepX → StepX) (d : Dev) (m : Nat) : (d.modSp n f).fbk m = d.fbk m := rfl
@[simp] theorem Dev.em_modSp (n : Nat) (f : StepX → StepX) (d : Dev) (m : Nat) : (d.modSp n f).em m = d.em m := rfl
@[simp] theorem Dev.di_modSp (n : Nat) (f : StepX → StepX) (d : Dev) (m : Nat) : (d.modSp n f).di m = d.di m := rfl
@[simp] theorem Dev.dy_modSp (n : Nat) (f : StepX → StepX) (d : Dev) (m : Nat) : (d.modSp n f).dy m = d.dy m := rfl
@[simp] theorem Dev.get_modSp (n : Nat) (f : StepX → StepX) (d : Dev) (p : Nat) (g : Fld) : (d.modSp n f).get p g = d.get p g := rfl
@[simp] theorem Dev.sget_modSp (n : Nat) (f : StepX → StepX) (d : Dev) (p : Nat) (g : Fld) : (d.modSp n f).sget p g = d.sget p g := rfl
@[simp] theorem Dev.alive_modSp (n : Nat) (f : StepX → StepX) (d : Dev) : (d.modSp n f).alive = d.alive := rfl
@[simp] theorem Dev.lf_modDi (n : Nat) (f : DieX → DieX) (d : Dev) (m : Nat) : (d.modDi n f).lf m = d.lf m := rfl
@[simp] theorem Dev.ob_modDi (n : Nat) (f : DieX → DieX) (d : Dev) (m : Nat) : (d.modDi n f).ob m = d.ob m := rfl
@[simp] theorem Dev.kn_modDi (n : Nat) (f : DieX → DieX) (d : Dev) (m : Nat) : (d.modDi n f).kn m = d.kn m := rfl
@[simp] theorem Dev.ps_modDi (n : Nat) (f : DieX → DieX) (d : Dev) (m : Nat) : (d.modDi n f).ps m = d.ps m := rfl
@[simp] theorem Dev.fbk_modDi (n : Nat) (f : DieX → DieX) (d : Dev) (m : Nat) : (d.modDi n f).fbk m = d.fbk m := rfl
@[simp] theorem Dev.em_modDi (n : Nat) (f : DieX → DieX) (d : Dev) (m : Nat) : (d.modDi n f).em m = d.em m := rfl
@[simp] theorem Dev.sp_modDi (n : Nat) (f : DieX → DieX) (d : Dev) (m : Nat) : (d.modDi n f).sp m = d.sp m := rfl
@[simp] theorem Dev.dy_modDi (n : Nat) (f : DieX → DieX) (d : Dev) (m : Nat) : (d.modDi n f).dy m = d.dy m := rfl
@[simp] theorem Dev.get_modDi (n : Nat) (f : DieX → DieX) (d : Dev) (p : Nat) (g : Fld) : (d.modDi n f).get p g = d.get p g := rfl
@[simp] theorem Dev.sget_modDi (n : Nat) (f : DieX → DieX) (d : Dev) (p : Nat) (g : Fld) : (d.modDi n f).sget p g = d.sget p g := rfl
@[simp] theorem Dev.alive_modDi (n : Nat) (f : DieX → DieX) (d : Dev) : (d.modDi n f).alive = d.alive := rfl
@[simp] theorem Dev.lf_modDy (n : Nat) (f : DieY → DieY) (d : Dev) (m : Nat) : (d.modDy n f).lf m = d.lf m := rfl
@[simp] theorem Dev.ob_modDy (n : Nat) (f : DieY → DieY) (d : Dev) (m : Nat) : (d.modDy n f).ob m = d.ob m := rfl
@[simp] theorem Dev.kn_modDy (n : Nat) (f : DieY → DieY) (d : Dev) (m : Nat) : (d.modDy n f).kn m = d.kn m := rfl
@[simp] theorem Dev.ps_modDy (n : Nat) (f : DieY → DieY) (d : Dev) (m : Nat) : (d.modDy n f).ps m = d.ps m := rfl
@[simp] theorem Dev.fbk_modDy (n : Nat) (f : DieY → DieY) (d : Dev) (m : Nat) : (d.modDy n f).fbk m = d.fbk m := rfl
@[simp] theorem Dev.em_modDy (n : Nat) (f : DieY → DieY) (d : Dev) (m : Nat) : (d.modDy n f).em m = d.em m := rfl
@[simp] theorem Dev.sp_modDy (n : Nat) (f : DieY → DieY) (d : Dev) (m : Nat) : (d.modDy n f).sp m = d.sp m := rfl
@[simp] theorem Dev.di_modDy (n : Nat) (f : DieY → DieY) (d : Dev) (m : Nat) : (d.modDy n f).di m = d.di m := rfl
@[simp] theorem Dev.get_modDy (n : Nat) (f : DieY → DieY) (d : Dev) (p : Nat) (g : Fld) : (d.modDy n f).get p g = d.get p g := rfl
@[simp] theorem Dev.sget_modDy (n : Nat) (f : DieY → DieY) (d : Dev) (p : Nat) (g : Fld) : (d.modDy n f).sget p g = d.sget p g := rfl
@[simp] theorem Dev.alive_modDy (n : Nat) (f : DieY → DieY) (d : Dev) : (d.modDy n f).alive = d.alive := rfl
@[simp] theorem Dev.lf_modCn (n : Nat) (f : CanX → CanX) (d : Dev) (m : Nat) : (d.modCn n f).lf m = d.lf m := rfl
@[simp] theorem Dev.ob_modCn (n : Nat) (f : CanX → CanX) (d : Dev) (m : Nat) : (d.modCn n f).ob m = d.ob m := rfl
@[simp] theorem Dev.kn_modCn (n : Nat) (f : CanX → CanX) (d : Dev) (m : Nat) : (d.modCn n f).kn m = d.kn m := rfl
@[simp] theorem Dev.ps_modCn (n : Nat) (f : CanX → CanX) (d : Dev) (m : Nat) : (d.modCn n f).ps m = d.ps m := rfl
@[simp] theorem Dev.fbk_modCn (n : Nat) (f : CanX → CanX) (d : Dev) (m : Nat) : (d.modCn n f).fbk m = d.fbk m := rfl
@[simp] theorem Dev.em_modCn (n : Nat) (f : CanX → CanX) (d : Dev) (m : Nat) : (d.modCn n f).em m = d.em m := rfl
@[simp] theorem Dev.sp_modCn (n : Nat) (f : CanX → CanX) (d : Dev) (m : Nat) : (d.modCn n f).sp m = d.sp m := rfl
@[simp] theorem Dev.di_modCn (n : Nat) (f : CanX → CanX) (d : Dev) (m : Nat) : (d.modCn n f).di m = d.di m := rfl
@[simp] theorem Dev.dy_modCn (n : Nat) (f : CanX → CanX) (d : Dev) (m : Nat) : (d.modCn n f).dy m = d.dy m := rfl
@[simp] theorem Dev.get_modCn (n : Nat) (f : CanX → CanX) (d : Dev) (p : Nat) (g : Fld) : (d.modCn n f).get p g = d.get p g := rfl
@[simp] theorem Dev.sget_modCn (n : Nat) (f : CanX → CanX) (d : Dev) (p : Nat) (g : Fld) : (d.modCn n f).sget p g = d.sget p g := rfl
@[simp] theorem Dev.alive_modCn (n : Nat) (f : CanX → CanX) (d : Dev) : (d.modCn n f).alive = d.alive := rfl
@[simp] theorem Dev.lf_drew (d : Dev) (m : Nat) : (d.drew).lf m = d.lf m := rfl
@[simp] theorem Dev.ob_drew (d : Dev) (m : Nat) : (d.drew).ob m = d.ob m := rfl
@[simp] theorem Dev.kn_drew (d : Dev) (m : Nat) : (d.drew).kn m = d.kn m := rfl
@[simp] theorem Dev.ps_drew (d : Dev) (m : Nat) : (d.drew).ps m = d.ps m := rfl
@[simp] theorem Dev.fbk_drew (d : Dev) (m : Nat) : (d.drew).fbk m = d.fbk m := rfl
@[simp] theorem Dev.em_drew (d : Dev) (m : Nat) : (d.drew).em m = d.em m := rfl
@[simp] theorem Dev.sp_drew (d : Dev) (m : Nat) : (d.drew).sp m = d.sp m := rfl
@[simp] theorem Dev.di_drew (d : Dev) (m : Nat) : (d.drew).di m = d.di m := rfl
@[simp] theorem Dev.dy_drew (d : Dev) (m : Nat) : (d.drew).dy m = d.dy m := rfl
@[simp] theorem Dev.get_drew (d : Dev) (p : Nat) (g : Fld) : (d.drew).get p g = d.get p g := rfl
@[simp] theorem Dev.sget_drew (d : Dev) (p : Nat) (g : Fld) : (d.drew).sget p g = d.sget p g := rfl
@[simp] theorem Dev.alive_drew (d : Dev) : (d.drew).alive = d.alive := rfl
@[simp] theorem Dev.lf_c2off (pg c i : Nat) (d : Dev) (m : Nat) : (d.c2off pg c i).lf m = d.lf m := rfl
@[simp] theorem Dev.ob_c2off (pg c i : Nat) (d : Dev) (m : Nat) : (d.c2off pg c i).ob m = d.ob m := rfl
@[simp] theorem Dev.kn_c2off (pg c i : Nat) (d : Dev) (m : Nat) : (d.c2off pg c i).kn m = d.kn m := rfl
@[simp] theorem Dev.ps_c2off (pg c i : Nat) (d : Dev) (m : Nat) : (d.c2off pg c i).ps m = d.ps m := rfl
@[simp] theorem Dev.fbk_c2off (pg c i : Nat) (d : Dev) (m : Nat) : (d.c2off pg c i).fbk m = d.fbk m := rfl
@[simp] theorem Dev.em_c2off (pg c i : Nat) (d : Dev) (m : Nat) : (d.c2off pg c i).em m = d.em m := rfl
@[simp] theorem Dev.sp_c2off (pg c i : Nat) (d : Dev) (m : Nat) : (d.c2off pg c i).sp m = d.sp m := rfl
@[simp] theorem Dev.di_c2off (pg c i : Nat) (d : Dev) (m : Nat) : (d.c2off pg c i).di m = d.di m := rfl
@[simp] theorem Dev.dy_c2off (pg c i : Nat) (d : Dev) (m : Nat) : (d.c2off pg c i).dy m = d.dy m := rfl
@[simp] theorem Dev.get_c2off (pg c i : Nat) (d : Dev) (p : Nat) (g : Fld) : (d.c2off pg c i).get p g = d.get p g := rfl
@[simp] theorem Dev.sget_c2off (pg c i : Nat) (d : Dev) (p : Nat) (g : Fld) : (d.c2off pg c i).sget p g = d.sget p g := rfl
@[simp] theorem Dev.alive_c2off (pg c i : Nat) (d : Dev) : (d.c2off pg c i).alive = d.alive := rfl
@[simp] theorem Dev.lf_c2clr (pg : Nat) (d : Dev) (m : Nat) : (d.c2clr pg).lf m = d.lf m := rfl
@[simp] theorem Dev.ob_c2clr (pg : Nat) (d : Dev) (m : Nat) : (d.c2clr pg).ob m = d.ob m := rfl
@[simp] theorem Dev.kn_c2clr (pg : Nat) (d : Dev) (m : Nat) : (d.c2clr pg).kn m = d.kn m := rfl
@[simp] theorem Dev.ps_c2clr (pg : Nat) (d : Dev) (m : Nat) : (d.c2clr pg).ps m = d.ps m := rfl
@[simp] theorem Dev.fbk_c2clr (pg : Nat) (d : Dev) (m : Nat) : (d.c2clr pg).fbk m = d.fbk m := rfl
@[simp] theorem Dev.em_c2clr (pg : Nat) (d : Dev) (m : Nat) : (d.c2clr pg).em m = d.em m := rfl
@[simp] theorem Dev.sp_c2clr (pg : Nat) (d : Dev) (m : Nat) : (d.c2clr pg).sp m = d.sp m := rfl
@[simp] theorem Dev.di_c2clr (pg : Nat) (d : Dev) (m : Nat) : (d.c2clr pg).di m = d.di m := rfl
@[simp] theorem Dev.dy_c2clr (pg : Nat) (d : Dev) (m : Nat) : (d.c2clr pg).dy m = d.dy m := rfl
@[simp] theorem Dev.get_c2clr (pg : Nat) (d : Dev) (p : Nat) (g : Fld) : (d.c2clr pg).get p g = d.get p g := rfl
@[simp] theorem Dev.sget_c2clr (pg : Nat) (d : Dev) (p : Nat) (g : Fld) : (d.c2clr pg).sget p g = d.sget p g := rfl
@[simp] theorem Dev.alive_c2clr (pg : Nat) (d : Dev) : (d.c2clr pg).alive = d.alive := rfl

/-! Registers. -/

/-- The field just set reads the value set, cut to its width. -/
@[simp] theorem Dev.get_put_same (p : Nat) (f : Fld) (v : Nat) (d : Dev) : (d.put p f v).get p f = v % 2 ^ f.w :=
  Cells.get_put_same ..

/-- Every other field reads as before. -/
theorem Dev.get_put_ne (p q : Nat) (f g : Fld) (v : Nat) (d : Dev) (h : g.key q ≠ f.key p) :
    (d.put p f v).get q g = d.get q g := Cells.get_put_ne _ _ _ _ _ _ h

@[simp] theorem Dev.sget_sput_same (p : Nat) (f : Fld) (v : Nat) (d : Dev) : (d.sput p f v).sget p f = v % 2 ^ f.w :=
  Cells.get_put_same ..

theorem Dev.sget_sput_ne (p q : Nat) (f g : Fld) (v : Nat) (d : Dev) (h : g.key q ≠ f.key p) :
    (d.sput p f v).sget q g = d.sget q g := Cells.get_put_ne _ _ _ _ _ _ h

/-! The other ways to set a field, in terms of `put`. -/

@[simp] theorem Dev.puti_eq (p : Nat) (f : Fld) (v : Int) (d : Dev) : d.puti p f v = d.put p f (uns f.w v) := rfl
@[simp] theorem Dev.putB_eq (p : Nat) (f : Fld) (b : Bool) (d : Dev) : d.putB p f b = d.put p f (b2n b) := rfl
@[simp] theorem Dev.setPg_eq (p st : Nat) (d : Dev) : d.setPg p st = d.put p HDR.STATE st := rfl
@[simp] theorem Dev.inc_eq (p : Nat) (f : Fld) (d : Dev) : d.inc p f = d.put p f (d.get p f + 1) := rfl
@[simp] theorem Dev.incSat_eq (p : Nat) (f : Fld) (d : Dev) : d.incSat p f = d.put p f (satInc f.w (d.get p f)) := rfl
@[simp] theorem Dev.modPrf_eq (n : Nat) (f : PrfX → PrfX) (d : Dev) :
    d.modPrf n f = d.modLf n fun l => { l with prf := f l.prf } := rfl
@[simp] theorem Dev.modSeq_eq (n : Nat) (f : SeqX → SeqX) (d : Dev) :
    d.modSeq n f = d.modLf n fun l => { l with seq := f l.seq } := rfl
@[simp] theorem Dev.modLrn_eq (n : Nat) (f : LearnX → LearnX) (d : Dev) :
    d.modLrn n f = d.modLf n fun l => { l with lrn := f l.lrn } := rfl
@[simp] theorem Dev.modLig_eq (n : Nat) (f : LigX → LigX) (d : Dev) :
    d.modLig n f = d.modLf n fun l => { l with lig := f l.lig } := rfl
@[simp] theorem Dev.modMov_eq (n : Nat) (f : RecX → RecX) (d : Dev) :
    d.modMov n f = d.modLf n fun l => { l with mov := f l.mov } := rfl
@[simp] theorem Dev.modStp_eq (k : Nat) (f : StpX → StpX) (d : Dev) :
    d.modStp k f = d.modSp k fun x => { x with stp := f x.stp } := rfl
@[simp] theorem Dev.modWin_eq (k : Nat) (f : StpDrvX → StpDrvX) (d : Dev) :
    d.modWin k f = d.modSp k fun x => { x with win := f x.win } := rfl

/-! Events (R49, R50). -/

/-- An event raised reads 1 in EV_STAT. -/
theorem Dev.get_ev_stat (p n : Nat) (d : Dev) :
    (d.ev p n).get p HDR.EV_STAT = setBit (d.get p HDR.EV_STAT) n true % 2 ^ 32 := Dev.get_put_same ..

/-- Raising an event changes no field but that page's EV_STAT. -/
theorem Dev.get_ev_ne (p q n : Nat) (g : Fld) (d : Dev) (h : g.key q ≠ HDR.EV_STAT.key p) :
    (d.ev p n).get q g = d.get q g := Dev.get_put_ne _ _ _ _ _ _ h

@[simp] theorem Dev.alive_ev (p n : Nat) (d : Dev) : (d.ev p n).alive = d.alive := by
  unfold Dev.ev Dev.alive TimeX.note; rfl

/-! Commands. -/

@[simp] theorem State.onDev_dev (f : Dev → Dev) (s : State) : (s.onDev f).dev = f s.dev := rfl
@[simp] theorem State.onDev_mem (f : Dev → Dev) (s : State) : (s.onDev f).mem = s.mem := rfl
@[simp] theorem State.onDev_xs0 (f : Dev → Dev) (s : State) : (s.onDev f).xs0 = s.xs0 := rfl
@[simp] theorem State.onDev_xs1 (f : Dev → Dev) (s : State) : (s.onDev f).xs1 = s.xs1 := rfl
@[simp] theorem State.onDev_pending (f : Dev → Dev) (s : State) : (s.onDev f).pending = s.pending := rfl

/-- A change of a running core die is made. -/
theorem Dev.live_of (f : Dev → Dev) (d : Dev) (h : d.alive = true) : d.live f = f d := if_pos h

/-- A core die that does not run makes no change. -/
theorem Dev.live_not (f : Dev → Dev) (d : Dev) (h : d.alive = false) : d.live f = d := by
  unfold Dev.live; rw [h]; rfl

theorem State.live_of (f : State → State) (s : State) (h : s.dev.alive = true) : s.live f = f s := if_pos h

theorem State.live_not (f : State → State) (s : State) (h : s.dev.alive = false) : s.live f = s := by
  unfold State.live; rw [h]; rfl

/-- What holds of a device and is kept by each change holds after them all. -/
theorem Dev.each_ind {α : Type} (P : Dev → Prop) (l : List α) (f : α → Dev → Dev) (d : Dev)
    (hf : ∀ a d, P d → P (f a d)) (h : P d) : P (d.each l f) := by
  unfold Dev.each
  induction l generalizing d with
  | nil => exact h
  | cons a l ih => exact ih _ (hf a d h)

end Sys2Proof.Machine
end

