-- ==== Sys2Proof/Laws/Bus.lean ====
section
/-! SUPPORT. What a permitted write of a register of write-only fields does: the register acts on the bits written, and
nothing else of the fabric changes. -/

namespace Sys2Proof.Machine

/-- The runtime may write: its processor runs and the core serves it. -/
theorem srcMay_runtime (d : Dev) (w : Bool) (a : Nat) (h : d.runtimeActs = true) : srcMay d .runtime w a = true := by
  unfold Dev.runtimeActs at h
  simp only [Bool.and_eq_true, Bool.not_eq_true', bne_iff_ne] at h
  obtain ⟨⟨⟨⟨h1, h2⟩, h3⟩, h4⟩, h5⟩ := h
  unfold srcMay
  simp [h1, h2, h3, h4, h5]

theorem srcMay_runtimeSafe (d : Dev) (w : Bool) (a : Nat) (h : d.runtimeActs = true) : srcMay d .runtimeSafe w a = true := by
  unfold Dev.runtimeActs at h
  simp only [Bool.and_eq_true, Bool.not_eq_true', bne_iff_ne] at h
  obtain ⟨⟨⟨⟨h1, h2⟩, h3⟩, h4⟩, h5⟩ := h
  unfold srcMay
  simp [h1, h2, h3, h4, h5]

/-- The host port may write. -/
theorem srcMay_host (d : Dev) (w : Bool) (a : Nat) (h : d.hostActs = true) : srcMay d .host w a = true := by
  unfold Dev.hostActs at h
  simp only [Bool.and_eq_true, Bool.not_eq_true', bne_iff_ne] at h
  obtain ⟨⟨h1, h2⟩, h3⟩ := h
  unfold srcMay
  simp [h1, h2, h3]

/-- An address of a page lies in the page region (R41, R44). -/
theorem regionOf_reg (pg off : Nat) (hp : pg < 256) (ho : off < 4096) : regionOf (regAddr pg off) 4 = .pages := by
  unfold regionOf regAddr packetBase packetSize
  simp only [Bool.and_eq_true, decide_eq_true_eq]
  repeat rw [if_neg (by omega)]
  rw [if_pos (by omega)]

theorem regAddr_page (pg off : Nat) (hp : pg < 256) (ho : off < 4096) : regAddr pg off / 4096 % 256 = pg := by
  unfold regAddr; omega

theorem regAddr_off (pg off : Nat) (ho : off < 4096) : regAddr pg off % 4096 = off := by
  unfold regAddr; omega

/-- A word access to a present page passes the checks before it. -/
theorem pageCheck_ok (pg off : Nat) (d : Dev) (u : Unit_) (hp : pg < 256) (ho : off < 4096) (h4 : off % 4 = 0)
    (hu : unitOf pg = some u) (hh : d.part.has u = true) : pageCheck (regAddr pg off) 4 d = (d, some u) := by
  have hb : badShape (regAddr pg off) 4 = false := by
    unfold badShape regAddr
    have : (0x40000000 + pg * 4096 + off) % 4 = 0 := by omega
    simp [this]
  unfold pageCheck
  simp only [regAddr_page pg off hp ho, hb, hu, Option.filter, hh]
  simp

/-- The writable fields of a register, where the page has them all. -/
theorem writeFields_eq (d : Dev) (u : Unit_) (off : Nat) (l : List Fld)
    (h1 : ((hdrWo ++ unitFields u).filter fun f => f.off == off && f.acc != .ro) = l)
    (h2 : ∀ f ∈ l, fieldGone d u f = false) : writeFields d u off = l := by
  unfold writeFields
  have : ((hdrWo ++ unitFields u).filter fun f => f.off == off && f.acc != .ro && !fieldGone d u f) = l.filter fun f => !fieldGone d u f := by
    rw [← h1, List.filter_filter]
    congr 1
    funext f
    rw [Bool.and_comm]
  rw [this, List.filter_eq_self]
  intro f hf
  rw [h2 f hf]; rfl

/-- A permitted write of a register whose fields are all write-only: the register acts, and nothing else changes. -/
theorem regWrite_wo (src : Src) (pg : Nat) (u : Unit_) (off v : Nat) (s : State) (l : List Fld)
    (hl : writeFields s.dev u off = l) (hlock : pageLocked s.dev u src off = false) (hoff : off ≠ 0x030)
    (hw : ∀ f ∈ l, f.acc = .wo) (hm : ∀ f ∈ l, fieldMay u src f = true) (hne : l ≠ [])
    (hro : roRefused s.dev u src off = false) (hwd : (u == .svc && off == SVC.SVC_WDOG.EN0.off) = false) :
    (regWrite src pg u off v s).1 = regEffect src pg u off (takenBits l v) s := by
  have hmay : l.filter (fun f => fieldMay u src f) = l := List.filter_eq_self.mpr hm
  have hheld : ∀ f ∈ l, heldOff s.dev pg f = false := by intro f hf; unfold heldOff; rw [hw f hf]; rfl
  have htake : l.filter (fun f => !heldOff s.dev pg f) = l := List.filter_eq_self.mpr (by intro f hf; rw [hheld f hf]; rfl)
  have hlk : l.any (fun f => !fieldMay u src f) = false := by
    rw [List.any_eq_false]; intro f hf; rw [hm f hf]; simp
  have hlk2 : regLocked s.dev u src off = false := by unfold regLocked; rw [hlock, hl, hlk, hro]; rfl
  have hbusy : regBusy s.dev u src pg off v = false := by
    unfold regBusy
    rw [hl, hmay, List.any_eq_false]; intro f hf; rw [hheld f hf]; simp
  have hemp : l.isEmpty = false := by cases l with
    | nil => exact absurd rfl hne
    | cons a l => rfl
  have heach : s.onDev (fun d => d.each l.reverse fun f d => takeField u pg v f d) = s := by
    have : ∀ (k : List Fld) (d : Dev), (∀ f ∈ k, f.acc = .wo) → d.each k (fun f d => takeField u pg v f d) = d := by
      intro k
      induction k with
      | nil => intros; rfl
      | cons a k ih =>
        intro d hk
        have ha : takeField u pg v a d = d := by unfold takeField; rw [hk a (by simp)]
        show Dev.each k _ (takeField u pg v a d) = d
        rw [ha]; exact ih d fun f hf => hk f (by simp [hf])
    unfold State.onDev; simp only [this l.reverse s.dev fun f hf => hw f (List.mem_reverse.mp hf)]
  unfold regWrite
  simp only [hlock, hl, hmay, htake, hlk2, hbusy, hemp, heach, hwd, if_neg hoff, Bool.false_eq_true, if_false]
  rfl

/-- A permitted command register write, through the whole fabric. -/
theorem wr_wo (src : Src) (pg : Nat) (f : Fld) (v : Nat) (s : State) (u : Unit_) (l : List Fld)
    (hp : pg < 256) (ho : f.off < 4096) (h4 : f.off % 4 = 0) (hu : unitOf pg = some u) (hh : s.dev.part.has u = true)
    (hs : srcMay s.dev src true (regAddr pg f.off) = true) (hlock : pageLocked s.dev u src f.off = false)
    (h1 : ((hdrWo ++ unitFields u).filter fun g => g.off == f.off && g.acc != .ro) = l)
    (h2 : ∀ g ∈ l, fieldGone s.dev u g = false)
    (hoff : f.off ≠ 0x030) (hw : ∀ g ∈ l, g.acc = .wo) (hm : ∀ g ∈ l, fieldMay u src g = true) (hne : l ≠ [])
    (hro : roRefused s.dev u src f.off = false) (hwd : (u == .svc && f.off == SVC.SVC_WDOG.EN0.off) = false) :
    wr src pg f v s = regEffect src pg u f.off (takenBits l (v % 2 ^ 32)) s := by
  unfold wr busWrite
  rw [hs, regionOf_reg _ _ hp ho]
  simp only [pageCheck_ok pg f.off s.dev u hp ho h4 hu hh, regAddr_page pg f.off hp ho, regAddr_off pg f.off ho]
  exact regWrite_wo src pg u f.off _ s l (writeFields_eq _ _ _ _ h1 h2) hlock hoff hw hm hne hro hwd

/-! The registers of each page that act. -/

theorem unitOf_leaf (n : Nat) (h : n < 8) : unitOf (pgLEAF n) = some (.leaf n) := by
  have : ∀ n : Fin 8, unitOf (pgLEAF n.val) = some (.leaf n.val) := by decide
  exact this ⟨n, h⟩

theorem unitOf_obs (n : Nat) (h : n < 8) : unitOf (pgOBS n) = some (.obs n) := by
  have : ∀ n : Fin 8, unitOf (pgOBS n.val) = some (.obs n.val) := by decide
  exact this ⟨n, h⟩

theorem unitOf_step (n : Nat) (h : n < 4) : unitOf (pgSTEP n) = some (.step n) := by
  have : ∀ n : Fin 4, unitOf (pgSTEP n.val) = some (.step n.val) := by decide
  exact this ⟨n, h⟩

/-- A command register of a leaf page, written by the runtime (R12, R28). -/
theorem wr_leaf (n : Nat) (f : Fld) (v : Nat) (s : State) (l : List Fld) (hn : n < 8) (hh : s.dev.part.hasLeaf n = true)
    (hr : s.dev.runtimeActs = true) (ho : f.off < 4096) (h4 : f.off % 4 = 0) (hoff : f.off ≠ 0x030 ∧ f.off ≠ 0x02C)
    (h1 : ((hdrWo ++ unitFields (.leaf 0)).filter fun g => g.off == f.off && g.acc != .ro) = l)
    (hg : f.off ≠ LEAF.LIG.LEN.off ∧ f.off ≠ LEAF.SYNC.SYNCN.off ∧ f.off ≠ LEAF.LIG_ERR.ERR.off)
    (hw : ∀ g ∈ l, g.acc = .wo ∧ g.off = f.off) (hne : l ≠ []) :
    wr .runtime (pgLEAF n) f v s = s.onDev (leafWrite n f.off (takenBits l (v % 2 ^ 32))) := by
  rw [wr_wo .runtime (pgLEAF n) f v s (.leaf n) l (by unfold pgLEAF; omega) ho h4 (unitOf_leaf n hn) hh
    (srcMay_runtime _ _ _ hr) (by rfl) h1 _ hoff.1 (fun g hg => (hw g hg).1)
    (by intro g hg; unfold fieldMay; rw [(hw g hg).1]; rfl) hne (by rfl) (by rfl)]
  · unfold regEffect; rw [if_neg hoff.2]
  · intro g hgm
    unfold fieldGone
    simp [(hw g hgm).2, hg.1, hg.2.1, hg.2.2]

/-- A command register of an Observer page, written by the runtime. -/
theorem wr_obs (n : Nat) (f : Fld) (v : Nat) (s : State) (l : List Fld) (hn : n < 8) (hh : s.dev.part.hasLeaf n = true)
    (hr : s.dev.runtimeActs = true) (ho : f.off < 4096) (h4 : f.off % 4 = 0) (hoff : f.off ≠ 0x030 ∧ f.off ≠ 0x02C)
    (h1 : ((hdrWo ++ unitFields (.obs 0)).filter fun g => g.off == f.off && g.acc != .ro) = l)
    (hw : ∀ g ∈ l, g.acc = .wo) (hne : l ≠ []) :
    wr .runtime (pgOBS n) f v s = regEffect .runtime (pgOBS n) (.obs n) f.off (takenBits l (v % 2 ^ 32)) s :=
  wr_wo .runtime (pgOBS n) f v s (.obs n) l (by unfold pgOBS; omega) ho h4 (unitOf_obs n hn) hh
    (srcMay_runtime _ _ _ hr) (by rfl) h1 (fun _ _ => rfl) hoff.1 hw
    (by intro g hg; unfold fieldMay; rw [hw g hg]; rfl) hne (by rfl) (by rfl)

/-- A command register of a step page, written by the runtime. -/
theorem wr_step (n : Nat) (f : Fld) (v : Nat) (s : State) (l : List Fld) (hn : n < 4) (hh : s.dev.part.hasStepAxis n = true)
    (hr : s.dev.runtimeActs = true) (ho : f.off < 4096) (h4 : f.off % 4 = 0) (hoff : f.off ≠ 0x030 ∧ f.off ≠ 0x02C)
    (h1 : ((hdrWo ++ unitFields (.step 0)).filter fun g => g.off == f.off && g.acc != .ro) = l)
    (hw : ∀ g ∈ l, g.acc = .wo) (hne : l ≠ []) :
    wr .runtime (pgSTEP n) f v s = regEffect .runtime (pgSTEP n) (.step n) f.off (takenBits l (v % 2 ^ 32)) s :=
  wr_wo .runtime (pgSTEP n) f v s (.step n) l (by unfold pgSTEP; omega) ho h4 (unitOf_step n hn) hh
    (srcMay_runtime _ _ _ hr) (by rfl) h1 (fun _ _ => rfl) hoff.1 hw
    (by intro g hg; unfold fieldMay; rw [hw g hg]; rfl) hne (by rfl) (by rfl)

/-- The unit of a feedback page. -/
def posUnit (a : Nat) : Unit_ := if a < 8 then .pos a else .posk (a - 8)

theorem unitOf_pos (a : Nat) (h : a < 12) : unitOf (pgPOS a) = some (posUnit a) := by
  have : ∀ a : Fin 12, unitOf (pgPOS a.val) = some (posUnit a.val) := by decide
  exact this ⟨a, h⟩

/-- `POS_CTRL` of a feedback page, written by the runtime. -/
theorem wr_pos (a : Nat) (v : Nat) (f : Fld) (hf : f.off = 0x064) (s : State) (ha : a < 12) (hh : s.dev.part.has (posUnit a) = true)
    (hr : s.dev.runtimeActs = true) :
    wr .runtime (pgPOS a) f v s =
      s.onDev (posCtrl a (takenBits [POS.POS_CTRL.CLRCNT, POS.POS_CTRL.CLRFLT, POS.POS_CTRL.SETREF] (v % 2 ^ 32))) := by
  rw [wr_wo .runtime (pgPOS a) f v s (posUnit a) [POS.POS_CTRL.CLRCNT, POS.POS_CTRL.CLRFLT, POS.POS_CTRL.SETREF]
    (by unfold pgPOS; omega) (by omega) (by omega) (unitOf_pos a ha) hh
    (srcMay_runtime _ _ _ hr) (by unfold posUnit; split <;> rfl) (by rw [hf]; unfold posUnit; split <;> rfl)
    (by unfold posUnit; split <;> intros <;> rfl) (by omega) (by decide)
    (by unfold posUnit; split <;> intro g hg <;> simp at hg <;> rcases hg with rfl | rfl | rfl <;> rfl) (by simp) (by rfl) (by unfold posUnit; split <;> rfl)]
  rw [hf]
  by_cases h : a < 8
  · rw [show posUnit a = .pos a from if_pos h]; rfl
  · rw [show posUnit a = .posk (a - 8) from if_neg h]
    show State.onDev (posCtrl (8 + (a - 8)) _) s = _
    rw [show 8 + (a - 8) = a by omega]

theorem unitOf_fio (x : Nat) (h : x < 2) : unitOf (pgFIO x) = some (.fio x) := by
  have : ∀ n : Fin 2, unitOf (pgFIO n.val) = some (.fio n.val) := by decide
  exact this ⟨x, h⟩

theorem unitOf_lsw (x : Nat) (h : x < 2) : unitOf (pgLSW x) = some (.lsw x) := by
  have : ∀ n : Fin 2, unitOf (pgLSW n.val) = some (.lsw n.val) := by decide
  exact this ⟨x, h⟩

/-- A command register of a field I/O page, written by the runtime. -/
theorem wr_fio (x : Nat) (f : Fld) (v : Nat) (s : State) (l : List Fld) (hn : x < 2) (hh : s.dev.part.has (.fio x) = true)
    (hr : s.dev.runtimeActs = true) (ho : 0x090 < f.off ∧ f.off < 0x0D0) (h4 : f.off % 4 = 0)
    (h1 : ((hdrWo ++ unitFields (.fio 0)).filter fun g => g.off == f.off && g.acc != .ro) = l)
    (hw : ∀ g ∈ l, g.acc = .wo) (hgone : ∀ g ∈ l, fieldGone s.dev (.fio x) g = false) (hne : l ≠ []) :
    wr .runtime (pgFIO x) f v s = regEffect .runtime (pgFIO x) (.fio x) f.off (takenBits l (v % 2 ^ 32)) s :=
  wr_wo .runtime (pgFIO x) f v s (.fio x) l (by unfold pgFIO; omega) (by omega) h4 (unitOf_fio x hn) hh
    (srcMay_runtime _ _ _ hr) (by rfl) h1 hgone (by omega) hw
    (by intro g hg; unfold fieldMay; rw [hw g hg]; rfl) hne (by rfl) (by rfl)

/-- `LS_CLR` of a load-switch page, written by the runtime. -/
theorem wr_lsw (x : Nat) (v : Nat) (s : State) (hn : x < 2) (hh : s.dev.part.has (.lsw x) = true)
    (hr : s.dev.runtimeActs = true) :
    wr .runtime (pgLSW x) LSW.LS_CLR.CLR v s =
      s.onDev fun d => lsClrTh x (bitsOf (takenBits [LSW.LS_CLR.CLRTH, LSW.LS_CLR.CLR] (v % 2 ^ 32)) 8 6)
        (lsClr x (takenBits [LSW.LS_CLR.CLRTH, LSW.LS_CLR.CLR] (v % 2 ^ 32) % 64) d) := by
  rw [wr_wo .runtime (pgLSW x) LSW.LS_CLR.CLR v s (.lsw x) [LSW.LS_CLR.CLRTH, LSW.LS_CLR.CLR] (by unfold pgLSW; omega) (by decide)
    (by decide) (unitOf_lsw x hn) hh (srcMay_runtime _ _ _ hr) (by rfl) (by rfl) (by intro g hg; simp at hg; rcases hg with rfl | rfl <;> rfl)
    (by decide) (by decide) (by intro g hg; simp at hg; rcases hg with rfl | rfl <;> rfl) (by simp) (by rfl) (by rfl)]
  rfl

/-- A command register of a device or management page, written by the host (R12, R28). -/
theorem wr_host (pg : Nat) (f : Fld) (v : Nat) (s : State) (u : Unit_) (l : List Fld)
    (hp : pg < 256) (ho : f.off < 4096) (h4 : f.off % 4 = 0) (hu : unitOf pg = some u) (hh : s.dev.part.has u = true)
    (hs : s.dev.hostActs = true) (hlock : pageLocked s.dev u .host f.off = false)
    (hpl : u.plane ≠ .control ∧ u.plane ≠ .data)
    (h1 : ((hdrWo ++ unitFields u).filter fun g => g.off == f.off && g.acc != .ro) = l)
    (h2 : ∀ g ∈ l, fieldGone s.dev u g = false) (hoff : f.off ≠ 0x030) (hw : ∀ g ∈ l, g.acc = .wo) (hne : l ≠ [])
    (hwd : (u == .svc && f.off == SVC.SVC_WDOG.EN0.off) = false) :
    wr .host pg f v s = regEffect .host pg u f.off (takenBits l (v % 2 ^ 32)) s :=
  wr_wo .host pg f v s u l hp ho h4 hu hh (srcMay_host _ _ _ hs) hlock h1 h2 hoff hw
    (by intro g hg; unfold fieldMay; rw [hw g hg]; simp [hpl.1, hpl.2]) hne (by unfold roRefused; simp [hpl.1, hpl.2]) hwd

end Sys2Proof.Machine
end

