-- ==== Sys2Proof/Laws/Word.lean ====
section
/-! SUPPORT. The bits of a field value: what setting a bit does to every bit, and what the width of a register keeps. -/

namespace Sys2Proof

theorem bit_eq_testBit (v i : Nat) : bit v i = v.testBit i := by
  rw [bit, Nat.testBit_eq_decide_div_mod_eq]
  by_cases h : v / 2 ^ i % 2 = 1 <;> simp [h]

/-- Setting a clear bit is a disjunction. -/
theorem add_two_pow_testBit (v i j : Nat) (h : bit v i = false) : bit (v + 2 ^ i) j = (decide (i = j) || bit v j) := by
  have h0 : v / 2 ^ i % 2 = 0 := by
    have : ¬ v / 2 ^ i % 2 = 1 := by simpa [bit] using h
    omega
  have hp : 0 < 2 ^ i := Nat.two_pow_pos i
  rcases Nat.lt_trichotomy i j with hij | hij | hij
  · obtain ⟨k, rfl⟩ : ∃ k, j = i + (k + 1) := ⟨j - i - 1, by omega⟩
    have hne : decide (i = i + (k + 1)) = false := by simp
    have : (v + 2 ^ i) / 2 ^ (i + (k + 1)) = v / 2 ^ (i + (k + 1)) := by
      rw [Nat.pow_add, ← Nat.div_div_eq_div_mul, ← Nat.div_div_eq_div_mul, Nat.add_div_right _ hp, Nat.pow_succ, Nat.mul_comm,
        ← Nat.div_div_eq_div_mul, ← Nat.div_div_eq_div_mul]
      congr 1
      omega
    rw [hne, Bool.false_or, bit, bit, this]
  · subst hij
    simp [bit, Nat.add_div_right _ hp]
    omega
  · have hne : decide (i = j) = false := by simp; omega
    rw [hne, Bool.false_or]
    obtain ⟨k, rfl⟩ : ∃ k, i = j + (k + 1) := ⟨i - j - 1, by omega⟩
    have : (v + 2 ^ (j + (k + 1))) / 2 ^ j % 2 = v / 2 ^ j % 2 := by
      rw [Nat.pow_add, Nat.add_mul_div_left _ _ (Nat.two_pow_pos j), Nat.pow_succ]
      omega
    rw [bit, bit, this]

theorem bit_setBit_true (v i j : Nat) : bit (setBit v i true) j = (decide (i = j) || bit v j) := by
  unfold setBit
  by_cases h : bit v i = true
  · rw [if_pos h]
    by_cases hij : i = j
    · subst hij; simp [h]
    · simp [hij]
  · rw [if_neg h, if_pos rfl]
    exact add_two_pow_testBit _ _ _ (by simpa using h)

theorem bit_setBit_false (v i j : Nat) : bit (setBit v i false) j = (!decide (i = j) && bit v j) := by
  unfold setBit
  by_cases h : bit v i = false
  · rw [if_pos h]
    by_cases hij : i = j
    · subst hij; simp [h]
    · simp [hij]
  · rw [if_neg h, if_neg (by simp)]
    have h1 : v / 2 ^ i % 2 = 1 := by simpa [bit] using h
    have hle : 2 ^ i ≤ v := by
      rcases Nat.lt_or_ge v (2 ^ i) with c | c
      · rw [Nat.div_eq_of_lt c] at h1; simp at h1
      · exact c
    have hv : v - 2 ^ i + 2 ^ i = v := by omega
    have hb : bit (v - 2 ^ i) i = false := by
      have : (v - 2 ^ i + 2 ^ i) / 2 ^ i = (v - 2 ^ i) / 2 ^ i + 1 := Nat.add_div_right _ (Nat.two_pow_pos i)
      rw [hv] at this
      simp [bit]
      omega
    have := add_two_pow_testBit (v - 2 ^ i) i j hb
    rw [hv] at this
    by_cases hij : i = j
    · subst hij; simp [hb]
    · simp [hij] at this ⊢; exact this.symm

theorem bit_setBit (v i j : Nat) (b : Bool) : bit (setBit v i b) j = if i = j then b else bit v j := by
  cases b
  · rw [bit_setBit_false]; by_cases h : i = j <;> simp [h]
  · rw [bit_setBit_true]; by_cases h : i = j <;> simp [h]

theorem bit_mod (v w j : Nat) (h : j < w) : bit (v % 2 ^ w) j = bit v j := by
  rw [bit_eq_testBit, bit_eq_testBit, Nat.testBit_mod_two_pow]
  simp [h]

@[simp] theorem bit_zero (j : Nat) : bit 0 j = false := by simp [bit]

end Sys2Proof
end

