-- ==== Sys2Proof/Laws/Fault.lean ====
section
/-! SUPPORT. What a report to the fault manager can change, said once: every property that its few elementary changes keep holds
after any report, and an entry that finds room stands afterwards. -/

namespace Sys2Proof.Machine

/-- The changes a report makes to the device keep `P`: the manager's own registers and state, the gates of every axis, the
stop requests of a halt, what the leaf sequencers hold of it, the lock high sides, the processor channel with its next P-frame, the forme's stop, the folio count and the anomaly mark. -/
structure ReportKeeps (P : Dev → Prop) : Prop where
  flt : ∀ f d, P d → P { d with flt := f }
  ev : ∀ n d, P d → P (d.ev pgFLT n)
  info : ∀ v d, P d → P (d.put pgFLT FLT.INFO.ENTRY v)
  cnt : ∀ v d, P d → P (d.put pgFLT FLT.INFO_CNT.COUNT v)
  gates : ∀ a d, a < 12 → P d → P (gatesOff a d)
  stop : ∀ n d, P d → P (d.modPrf n fun p => if p.stopKind = 3 then p else { p with stopReq := 3, stopOwn := false })
  hard : ∀ n d, P d → P (d.modSeq n fun q => { q with hardFault := q.hardFault || !q.hardLock })
  lock : ∀ x d, P d → P (d.modDy x fun y => { y with lkCmd := 0, lkHs := 0, lkPull := 0 })
  chan : ∀ x y z d, P d → P { d with sx := x, sy := y, py := z }
  forme : ∀ x d, P d → P { d with forme := x }
  frm : ∀ v d, P d → P (d.put pgFRM FRM.FORME_STAT.STATE v)
  rec_ : ∀ f x d, P d → P { d with flt := f, rec_ := x }
  anom : ∀ n b d, P d → P (d.modKn n fun k => { k with anom := b })

/-- What holds of a device and is kept by the change for each element of the list holds after them all. -/
theorem Dev.each_mem {α : Type} (P : Dev → Prop) (l : List α) (f : α → Dev → Dev) (d : Dev)
    (hf : ∀ a d, a ∈ l → P d → P (f a d)) (h : P d) : P (d.each l f) := by
  unfold Dev.each
  induction l generalizing d with
  | nil => exact h
  | cons a l ih =>
    exact ih (f a d) (fun b d hb => hf b d (List.mem_cons_of_mem _ hb)) (hf a d (List.mem_cons_self ..) h)

theorem ReportKeeps.place {P : Dev → Prop} (k : ReportKeeps P) (e : FEnt) (d : Dev) (h : P d) : P (placeEntry e d) := by
  unfold placeEntry
  simp only
  split
  · exact k.ev _ _ (k.flt _ _ h)
  · split
    · exact k.flt _ _ h
    · split
      · exact k.flt _ _ h
      · split <;> exact k.ev _ _ (k.flt _ _ h)

theorem ReportKeeps.trim {P : Dev → Prop} (k : ReportKeeps P) (d : Dev) (h : P d) : P (trimQueue d) := by
  unfold trimQueue
  simp only
  split
  · exact k.flt _ _ h
  · exact k.ev _ _ (k.flt _ _ h)

theorem ReportKeeps.orders {P : Dev → Prop} (k : ReportKeeps P) (d : Dev) (h : P d) : P (haltOrders d) := by
  have h1 : P (haltAxes d) := Dev.each_ind P _ _ _ (fun x d h => k.lock x d h)
    (Dev.each_ind P _ _ _ (fun n d h => k.hard n d h) (Dev.each_ind P _ _ _ (fun n d h => k.stop n d h) (Dev.each_mem P _ _ _ (fun a d m h => k.gates a d (List.mem_range.mp m) h) h)))
  have h2 : ∀ x, P x → P (haltCoils x) := fun x h => k.chan _ _ _ x h
  have h3 : ∀ x, P x → P (haltForme x) := fun x h => k.frm _ _ (k.forme _ x h)
  exact h3 _ (h2 _ h1)

theorem ReportKeeps.halt {P : Dev → Prop} (k : ReportKeeps P) (e : FEnt) (d : Dev) (h : P d) : P (orderHalt e d) := by
  unfold orderHalt
  split
  · exact h
  · exact k.orders _ (k.ev _ _ (k.rec_ _ _ _ h))

theorem ReportKeeps.arrive {P : Dev → Prop} (k : ReportKeeps P) (e : FEnt) (d : Dev) (h : P d) : P (arriveEntry e d) := by
  unfold arriveEntry
  simp only
  refine k.trim _ ?_
  have h1 := k.place e d h
  have h2 : P (if e.cls = 3 then orderHalt e (placeEntry e d) else placeEntry e d) := by
    split
    · exact k.halt _ _ h1
    · exact h1
  split
  · exact k.halt _ _ (k.place _ _ h2)
  · exact h2

/-- A report keeps every property that its elementary changes keep. -/
theorem ReportKeeps.report {P : Dev → Prop} (k : ReportKeeps P) (cls page inst cause : Nat) (d : Dev) (h : P d) :
    P (d.report cls page inst cause) := by
  unfold Dev.report
  simp only
  split
  · exact k.ev _ _ (k.cnt _ _ (k.info _ _ h))
  · refine k.arrive _ _ ?_
    unfold markAnomaly
    split
    · exact k.anom _ _ _ h
    · exact h

theorem ReportKeeps.raise {P : Dev → Prop} (k : ReportKeeps P) (pg : Nat) (c : Cause) (inst : Nat) (d : Dev) (h : P d) :
    P (d.raise pg c inst) := k.report _ _ _ _ _ h

theorem ReportKeeps.fault {P : Dev → Prop} (k : ReportKeeps P) (hc : ∀ x d, P d → P { d with c2 := x }) (pg : Nat) (c : Cause)
    (inst : Nat) (d : Dev) (h : P d) : P (d.fault pg c inst) := by
  unfold Dev.fault
  refine k.raise _ _ _ _ ?_
  split
  · unfold Dev.c2on
    split
    · exact h
    · exact hc _ _ h
  · exact h

/-! What a report leaves alone. -/

/-- A part of the device other than those a report works on is unchanged by it. -/
theorem keepsPart {α : Type} (g : Dev → α) (c : α)
    (hf : ∀ f d, g { d with flt := f } = g d) (ht : ∀ n d, g { d with tim := d.tim.note pgFLT n } = g d)
    (hac : ∀ a d, g { d with act := a } = g d)
    (hl : ∀ l d, g { d with leaf := l } = g d) (hs : ∀ l d, g { d with step := l } = g d) (hy : ∀ l d, g { d with diey := l } = g d)
    (hx : ∀ x y z d, g { d with sx := x, sy := y, py := z } = g d) (hm : ∀ x d, g { d with forme := x } = g d)
    (hr : ∀ f x d, g { d with flt := f, rec_ := x } = g d) (hk : ∀ x d, g { d with kern := x } = g d) :
    ReportKeeps fun d => g d = c where
  flt f d h := (hf f d).trans h
  ev n d h := (hac _ _).trans ((ht n d).trans h)
  info v d h := (hac _ d).trans h
  cnt v d h := (hac _ d).trans h
  gates a d ha h := by
    unfold gatesOff Dev.modDrv
    refine (hac _ _).trans ?_
    split
    · exact (hl _ _).trans h
    · exact (hs _ _).trans h
  stop n d h := (hl _ _).trans h
  hard n d h := (hl _ _).trans h
  lock x d h := (hy _ _).trans h
  chan x y z d h := (hx _ _ _ _).trans h
  forme x d h := (hm _ _).trans h
  frm v d h := (hac _ _).trans h
  rec_ f x d h := (hr _ _ _).trans h
  anom n b d h := (hk _ _).trans h

/-- A part of a leaf other than its drive engine, its pending stop and what its sequencer holds of a fault is unchanged by a report. -/
theorem keepsLeaf {α : Type} (g : LeafX → α) (m : Nat) (c : α)
    (hd : ∀ x l, g { l with drv := x } = g l) (hp : ∀ r o l, g { l with prf := { l.prf with stopReq := r, stopOwn := o } } = g l)
    (hq : ∀ r l, g { l with seq := { l.seq with hardFault := r } } = g l) :
    ReportKeeps fun d => g (d.lf m) = c where
  flt f d h := h
  ev n d h := h
  info v d h := h
  cnt v d h := h
  gates a d ha h := by
    unfold gatesOff Dev.modDrv
    split
    · simp only [Dev.lf_put, Dev.lf_modLf]
      split
      · exact (hd _ _).trans h
      · exact h
    · exact h
  stop n d h := by
    unfold Dev.modPrf
    simp only [Dev.lf_modLf]
    split
    · split
      · exact h
      · exact (hp _ _ _).trans h
    · exact h
  hard n d h := by
    unfold Dev.modSeq
    simp only [Dev.lf_modLf]
    split
    · exact (hq _ _).trans h
    · exact h
  lock x d h := h
  chan x y z d h := h
  forme x d h := h
  frm v d h := h
  rec_ f x d h := h
  anom n b d h := h

/-- A part of a step other than its drive engine is unchanged by a report. -/
theorem keepsStep {α : Type} (g : StepX → α) (m : Nat) (c : α) (hd : ∀ x l, g { l with drv := x } = g l) :
    ReportKeeps fun d => g (d.sp m) = c where
  flt f d h := h
  ev n d h := h
  info v d h := h
  cnt v d h := h
  gates a d ha h := by
    unfold gatesOff Dev.modDrv
    split
    · exact h
    · simp only [Dev.sp_put, Dev.sp_modSp]
      split
      · exact (hd _ _).trans h
      · exact h
  stop n d h := h
  hard n d h := h
  lock x d h := h
  chan x y z d h := h
  forme x d h := h
  frm v d h := h
  rec_ f x d h := h
  anom n b d h := h

theorem Dev.drv_modDrv (a b : Nat) (f : DrvX → DrvX) (d : Dev) :
    (d.modDrv a f).drv b = if a = b ∧ a < 12 then f (d.drv b) else d.drv b := by
  unfold Dev.modDrv Dev.drv
  by_cases ha : a < 8 <;> by_cases hb : b < 8 <;> simp only [ha, hb, if_true, if_false]
  · rw [Dev.lf_modLf]
    by_cases h : a = b
    · rw [if_pos ⟨h, hb⟩, if_pos ⟨h, by omega⟩]
    · rw [if_neg fun c => h c.1, if_neg fun c => h c.1]
  · rw [if_neg (by omega)]; rfl
  · rw [if_neg (by omega)]; rfl
  · rw [Dev.sp_modSp]
    by_cases h : a = b ∧ a < 12
    · rw [if_pos (by omega), if_pos h]
    · rw [if_neg (by omega), if_neg h]

@[simp] theorem Dev.drv_put (pg : Nat) (f : Fld) (v : Nat) (d : Dev) (a : Nat) : (d.put pg f v).drv a = d.drv a := rfl

theorem gatesOff_drv (a b : Nat) (d : Dev) : (gatesOff a d).drv b =
    if a = b ∧ a < 12 then { d.drv b with mode := 0, modeReq := none, cmp := {}, cmpNext := {}, xd := 0, xq := 0, xv := 0,
                                          iqNext := 0, iqUse := 0 } else d.drv b := by
  unfold gatesOff
  rw [Dev.drv_put, Dev.drv_modDrv]

/-- A property of an axis's drive engine that switching its gates off keeps holds after a report. -/
theorem keepsDrv (b : Nat) (Q : DrvX → Prop)
    (hg : ∀ x : DrvX, Q x → Q { x with mode := 0, modeReq := none, cmp := {}, cmpNext := {}, xd := 0, xq := 0, xv := 0,
                                       iqNext := 0, iqUse := 0 }) : ReportKeeps fun d => Q (d.drv b) where
  flt f d h := h
  ev n d h := h
  info v d h := h
  cnt v d h := h
  gates a d ha h := by
    rw [gatesOff_drv]
    split
    · exact hg _ h
    · exact h
  stop n d h := by
    have : (d.modPrf n fun p => if p.stopKind = 3 then p else { p with stopReq := 3, stopOwn := false }).drv b = d.drv b := by
      unfold Dev.drv Dev.modPrf
      split
      · simp only [Dev.lf_modLf]; split <;> rfl
      · rfl
    rw [this]; exact h
  hard n d h := by
    have : (d.modSeq n fun q => { q with hardFault := q.hardFault || !q.hardLock }).drv b = d.drv b := by
      unfold Dev.drv Dev.modSeq
      split
      · simp only [Dev.lf_modLf]; split <;> rfl
      · rfl
    rw [this]; exact h
  lock x d h := h
  chan x y z d h := h
  forme x d h := h
  frm v d h := h
  rec_ f x d h := h
  anom n b d h := h

/-- A pending hard stop of a leaf stands after a report. -/
theorem keepsHard (m : Nat) : ReportKeeps fun d => (d.prf m).stopReq = 3 where
  flt f d h := h
  ev n d h := h
  info v d h := h
  cnt v d h := h
  gates a d ha h := by
    unfold gatesOff Dev.modDrv Dev.prf at *
    split
    · simp only [Dev.lf_put, Dev.lf_modLf]
      split <;> exact h
    · exact h
  stop n d h := by
    unfold Dev.prf Dev.modPrf at *
    simp only [Dev.lf_modLf]
    split
    · split
      · exact h
      · rfl
    · exact h
  hard n d h := by
    unfold Dev.prf Dev.modSeq at *
    simp only [Dev.lf_modLf]
    split <;> exact h
  lock x d h := h
  chan x y z d h := h
  forme x d h := h
  frm v d h := h
  rec_ f x d h := h
  anom n b d h := h

/-! Registers. -/

/-- The keys of the registers that a report can write: the manager's events and information log, the forme's state and the
drive modes. -/
def reportKeys : List Nat :=
  HDR.EV_STAT.key pgFLT :: FLT.INFO.ENTRY.key pgFLT :: FLT.INFO_CNT.COUNT.key pgFLT :: FRM.FORME_STAT.STATE.key pgFRM ::
    (List.range 12).map fun a => (drvReg a LEAF.DRV_STAT.MODE).key (pgDRV a)

/-- Every other register keeps its value through a report. -/
theorem keepsReg (q : Nat) (g : Fld) (v : Nat) (hk : g.key q ∉ reportKeys) : ReportKeeps fun d => d.get q g = v where
  flt f d h := h
  ev n d h := by rw [Dev.get_ev_ne]; exact h; intro c; exact hk (by simp [reportKeys, c])
  info v d h := by rw [Dev.get_put_ne]; exact h; intro c; exact hk (by simp [reportKeys, c])
  cnt v d h := by rw [Dev.get_put_ne]; exact h; intro c; exact hk (by simp [reportKeys, c])
  gates a d ha h := by
    unfold gatesOff
    rw [Dev.get_put_ne]
    · unfold Dev.modDrv
      split <;> exact h
    · intro c
      refine hk ?_
      simp only [reportKeys, List.mem_cons, List.mem_map, List.mem_range]
      exact .inr (.inr (.inr (.inr ⟨a, ha, c.symm⟩)))
  stop n d h := h
  hard n d h := h
  lock x d h := h
  chan x y z d h := h
  forme x d h := h
  frm v d h := by rw [Dev.get_put_ne]; exact h; intro c; exact hk (by simp [reportKeys, c])
  rec_ f x d h := h
  anom n b d h := h

/-! Events that stand. -/

theorem Dev.raised_ev (p q n m : Nat) (d : Dev) (hm : m < 32) : (d.ev p n).raised q m = (decide (p = q ∧ n = m) || d.raised q m) := by
  unfold Dev.raised
  by_cases hk : HDR.EV_STAT.key q = HDR.EV_STAT.key p
  · have hpq : p = q := by unfold Fld.key at hk; omega
    subst hpq
    rw [Dev.get_ev_stat, bit_mod _ _ _ hm, bit_setBit_true]
    simp
  · have hpq : ¬ (p = q ∧ n = m) := fun c => hk (by rw [c.1])
    rw [Dev.get_ev_ne _ _ _ _ _ hk, decide_eq_false hpq, Bool.false_or]

/-- An event raised stands. -/
theorem Dev.raised_ev_same (p n : Nat) (d : Dev) (hn : n < 32) : (d.ev p n).raised p n = true := by
  rw [Dev.raised_ev _ _ _ _ _ hn]; simp

/-- An event that stands is not cleared by another. -/
theorem Dev.raised_ev_keep (p q n m : Nat) (d : Dev) (hm : m < 32) (h : d.raised q m = true) : (d.ev p n).raised q m = true := by
  rw [Dev.raised_ev _ _ _ _ _ hm, h, Bool.or_true]

theorem Dev.raised_put (p q m : Nat) (f : Fld) (v : Nat) (d : Dev) (h : HDR.EV_STAT.key q ≠ f.key p) :
    (d.put p f v).raised q m = d.raised q m := by
  unfold Dev.raised
  rw [Dev.get_put_ne _ _ _ _ _ _ h]

/-- An event that stands keeps standing through a report. -/
theorem keepsRaised (q m : Nat) (hm : m < 32) : ReportKeeps fun d => d.raised q m = true where
  flt f d h := h
  ev n d h := Dev.raised_ev_keep _ _ _ _ _ hm h
  info v d h := by rw [Dev.raised_put]; exact h; unfold Fld.key; simp [HDR.EV_STAT, FLT.INFO.ENTRY, fld]; omega
  cnt v d h := by rw [Dev.raised_put]; exact h; unfold Fld.key; simp [HDR.EV_STAT, FLT.INFO_CNT.COUNT, fld]; omega
  gates a d ha h := by
    unfold gatesOff
    rw [Dev.raised_put]
    · unfold Dev.modDrv
      split <;> exact h
    · unfold Fld.key drvReg
      split <;> simp [HDR.EV_STAT, LEAF.DRV_STAT.MODE, fld] <;> omega
  stop n d h := h
  hard n d h := h
  lock x d h := h
  chan x y z d h := h
  forme x d h := h
  frm v d h := by rw [Dev.raised_put]; exact h; unfold Fld.key; simp [HDR.EV_STAT, FRM.FORME_STAT.STATE, fld]; omega
  rec_ f x d h := h
  anom n b d h := h

/-! Entries that stand. -/

theorem Dev.each_flt {α : Type} (l : List α) (f : α → Dev → Dev) (d : Dev) (hf : ∀ a d, (f a d).flt = d.flt) :
    (d.each l f).flt = d.flt := Dev.each_ind (fun x => x.flt = d.flt) l f d (fun a x h => (hf a x).trans h) rfl

theorem haltOrders_flt (d : Dev) : (haltOrders d).flt = d.flt := by
  have h1 : ∀ x, (haltForme x).flt = x.flt := fun x => by unfold haltForme; simp only [Dev.put_flt]
  rw [haltOrders, h1]
  show (haltAxes d).flt = d.flt
  unfold haltAxes
  rw [Dev.each_flt _ _ _ (by intros; rfl), Dev.each_flt _ _ _ (by intros; rfl), Dev.each_flt _ _ _ (by intros; rfl), Dev.each_flt]
  intro a d
  unfold gatesOff Dev.modDrv
  split <;> rfl

theorem Dev.ev_flt (p n : Nat) (d : Dev) : (d.ev p n).flt = d.flt := rfl

/-- The halt orders leave the head and the queue. -/
theorem orderHalt_entries (e : FEnt) (d : Dev) : (orderHalt e d).flt.head = d.flt.head ∧ (orderHalt e d).flt.queue = d.flt.queue := by
  unfold orderHalt
  split
  · exact ⟨rfl, rfl⟩
  · rw [haltOrders_flt, Dev.ev_flt]; exact ⟨rfl, rfl⟩

theorem rankBehind_length (e : FEnt) (l : List FEnt) : (rankBehind e l).length = l.length + 1 := by
  induction l with
  | nil => rfl
  | cons x l ih => unfold rankBehind; split <;> simp [ih]

theorem rankAhead_length (e : FEnt) (l : List FEnt) : (rankAhead e l).length = l.length + 1 := by
  induction l with
  | nil => rfl
  | cons x l ih => unfold rankAhead; split <;> simp [ih]

theorem rankBehind_mem (e : FEnt) (l : List FEnt) : e ∈ rankBehind e l := by
  induction l with
  | nil => simp [rankBehind]
  | cons x l ih => unfold rankBehind; split <;> simp [ih]

theorem bumpRep_val (v : Nat) (e : FEnt) : (bumpRep v e).val = e.val := by unfold bumpRep; split <;> rfl

/-- Placing an entry makes it stand, and takes at most one place. -/
theorem placeEntry_standing (e : FEnt) (d : Dev) :
    (placeEntry e d).standing e.val = true ∧ (placeEntry e d).flt.queue.length ≤ d.flt.queue.length + 1 := by
  unfold placeEntry Dev.standing
  simp only
  split
  · simp [Dev.ev_flt]
  · rename_i h hh
    split
    · rename_i hv; simp [bumpRep_val, hv]
    · split
      · rename_i hq
        refine ⟨?_, by simp⟩
        simp only [Bool.or_eq_true, List.any_eq_true, List.mem_map, beq_iff_eq] at hq ⊢
        obtain ⟨q, hq, hv⟩ := hq
        exact .inr ⟨_, ⟨q, hq, rfl⟩, by rw [bumpRep_val]; exact hv⟩
      · split
        · simp [Dev.ev_flt, rankAhead_length]
        · refine ⟨?_, by simp [Dev.ev_flt, rankBehind_length]⟩
          simp only [Dev.ev_flt, Bool.or_eq_true, List.any_eq_true, beq_iff_eq]
          exact .inr ⟨e, rankBehind_mem e _, rfl⟩

theorem trimQueue_standing (v : Nat) (d : Dev) (h : d.flt.queue.length ≤ 32) : (trimQueue d).standing v = d.standing v := by
  unfold trimQueue Dev.standing
  simp only [h, if_true]

/-- A report of class C1 to C3 that finds room stands as an entry. -/
theorem Dev.report_standing (cls page inst cause : Nat) (d : Dev) (hc : cls % 16 ≠ 0) (hr : d.queueRoom = true) :
    (d.report cls page inst cause).standing (entryVal cls page inst cause) = true := by
  have hlen : ∀ d : Dev, (markAnomaly cls page d).flt = d.flt := by intro d; unfold markAnomaly; split <;> rfl
  have hr' : d.flt.queue.length < 32 := by simpa [Dev.queueRoom] using hr
  unfold Dev.report
  simp only [hc, if_false]
  unfold arriveEntry
  have habove : decide (32 ≤ (markAnomaly cls page d).flt.queue.length) = false := by rw [hlen]; simp; omega
  simp only [habove, Bool.and_false, Bool.false_and, if_false, Bool.false_eq_true]
  obtain ⟨hs, hl⟩ := placeEntry_standing { val := entryVal cls page inst cause, dt := d.dt } (markAnomaly cls page d)
  rw [hlen] at hl
  split
  · obtain ⟨h1, h2⟩ := orderHalt_entries { val := entryVal cls page inst cause, dt := d.dt }
      (placeEntry { val := entryVal cls page inst cause, dt := d.dt } (markAnomaly cls page d))
    rw [trimQueue_standing _ _ (by rw [h2]; omega)]
    unfold Dev.standing at hs ⊢
    rw [h1, h2]; exact hs
  · rw [trimQueue_standing _ _ (by omega)]
    exact hs

theorem Dev.raise_standing (pg : Nat) (c : Cause) (inst : Nat) (d : Dev) (hc : c.cls % 16 ≠ 0) (hr : d.queueRoom = true) :
    (d.raise pg c inst).entryOf pg c inst = true := Dev.report_standing _ _ _ _ _ hc hr

/-- A class C2 fault that finds room stands as an entry, and its condition keeps the page in its safe state. -/
theorem Dev.fault_standing (pg : Nat) (c : Cause) (inst : Nat) (d : Dev) (hc : c.cls % 16 ≠ 0) (hr : d.queueRoom = true) :
    (d.fault pg c inst).entryOf pg c inst = true := by
  unfold Dev.fault
  refine Dev.raise_standing _ _ _ _ hc ?_
  split
  · unfold Dev.c2on; split <;> exact hr
  · exact hr

theorem keepsC2 (x : List (Nat × Nat × Nat)) : ReportKeeps fun d => d.c2 = x :=
  keepsPart Dev.c2 x (by intros; rfl) (by intros; rfl) (by intros; rfl) (by intros; rfl) (by intros; rfl) (by intros; rfl)
    (by intros; rfl) (by intros; rfl) (by intros; rfl) (by intros; rfl)

theorem Dev.c2on_has (pg c i : Nat) (d : Dev) : (d.c2on pg c i).c2.any (fun x => x == (pg, c, i)) = true := by
  unfold Dev.c2on
  split
  · assumption
  · simp

/-- The condition of a class C2 fault stands. -/
theorem Dev.fault_c2 (pg : Nat) (c : Cause) (inst : Nat) (d : Dev) (hc : c.cls = 2) :
    (d.fault pg c inst).c2.any (fun x => x == (pg, c.code, inst)) = true := by
  unfold Dev.fault
  rw [if_pos hc, (keepsC2 _).raise pg c inst _ rfl]
  exact Dev.c2on_has ..

end Sys2Proof.Machine
end

