-- ==== Sys2Proof/Tests/Slice0.lean ====
section
/-! SUPPORT. The model's own tests: an ill-formed operand for each check of WellFormed, a few effects of single commands written out
from the manual, and for every statement a concrete state and operands that meet its hypotheses together. -/

open Sys2Proof Sys2Proof.Machine

namespace Sys2Proof.Tests

set_option Elab.async false

/-! Helpers: the state after reset with some fields, register cells or memory bytes set by hand. -/

/-- The reset state with the given changes made to its block. -/
def poke (l : List (Dev → Dev)) : State := l.foldl (fun s f => { s with dev := f s.dev }) State.reset

/-- Sets one register cell. -/
def cell (k v : Nat) : Dev → Dev := fun d => { d with act := Cells.ins (d.act.filter fun e => e.1 != k) k v }

/-- Sets one staged register cell. -/
def stage (k v : Nat) : Dev → Dev := fun d => { d with stg := Cells.ins (d.stg.filter fun e => e.1 != k) k v }

/-- Lists bytes from an address on, after those already listed. -/
def bytesFrom (a : Nat) (l : List Nat) : List Host.Cell := (l.zipIdx a).map fun e => (e.2, BitVec.ofNat 8 e.1)

def putSram (s : State) (a : Nat) (l : List Nat) : State := { s with mem := s.mem ++ bytesFrom a l }

def putXs0 (s : State) (a : Nat) (l : List Nat) : State := { s with xs0 := s.xs0 ++ bytesFrom a l }

def putXs1 (s : State) (a : Nat) (l : List Nat) : State := { s with xs1 := s.xs1 ++ bytesFrom a l }

/-! Ill-formed operands that WellFormed refuses. -/

theorem test_size_refused : Instr.wf (.registerRead .runtime 0x40000000 3) = false := by decide

theorem test_phase_refused : Instr.wf (.bootstrapUv 2 3) = false := by decide

theorem test_switch_refused : Instr.wf (.switchChatter 9 .closed) = false := by decide

theorem test_config_length_refused : Instr.wf (.pFrameConfig 0 [1, 2, 3]) = false := by decide

theorem test_host_read_refused : Instr.wf (.hpiRead 0 0) = false := by decide

theorem test_host_write_refused : Instr.wf (.hpiWrite 0 2 [1] 0) = false := by decide

theorem test_can_dlc_refused : Instr.wf (.canFrameReceived 0 { dlc := 16 }) = false := by decide

theorem test_neltan_refused : Instr.wf (.neltanRead { trans := 0, data := List.replicate 65 0 }) = false := by decide +kernel

/-! Worked examples of the manual. -/

/-- The limits of the opening move of 03_leaf_profiles, "Phases of the opening move": 0.5 m/s, 1.0 and 0.8 m/s², 5 m/s³. -/
def openLimits : Limits := { v := 500000, a := 1000000, d := 800000, j := 5000000 }

/-- The phases of that table in µs, and REMAIN at the start. -/
theorem test_opening_move :
    ((makePlan {} 650000 0 openLimits openLimits openLimits).phases.map fun ph => (ph.tag, ph.dur / 1000000)) =
      [(1, 200000), (2, 300000), (3, 200000), (4, 557500), (5, 160000), (6, 465000), (7, 160000)] ∧
    (makePlan {} 650000 0 openLimits openLimits openLimits).remain = 7979 := by decide +kernel

/-- 03_leaf_profiles, "Stopping from 0.5 m/s": the stop path's jerk phases of 0.075 s and its distance of 102.1 mm. -/
theorem test_stop_path :
    ((makeStop { v := 500000 * 65536 } 1500000 20000000).phases.map fun ph => ph.dur / 1000000000) = [75, 258, 75] ∧
    (makeStop { v := 500000 * 65536 } 1500000 20000000).target / 100 = 1020 := by decide +kernel

/-- 15_records: 48.6 mJ left at 18.80 V with 3,300 µF and VMIN 18.00 V. -/
theorem test_hold_up_energy :
    holdE ((State.reset.dev.put pgREC REC.HOLD.HOLDC 3300).put pgREC REC.HOLD.VMIN 1800) 1880 / 2000000 = 485 := by decide +kernel

theorem test_reset_wf : State.reset.wf = true := by decide

/-- A step on an empty queue and one with a command in front meet the premises of `StepKeepsMemories`. -/
theorem test_witness_StepKeepsMemories :
    State.reset.wf = true ∧ (∃ t, step State.reset = .next t) ∧
    ({ State.reset with pending := [.ready] }).wf = true ∧ (∃ t, step { State.reset with pending := [.ready] } = .next t) :=
  ⟨by decide, ⟨_, rfl⟩, by decide, ⟨_, rfl⟩⟩

/-- A command that starts no operation of the record engine meets the premises of `RecordMemoryKept`. -/
theorem test_witness_RecordMemoryKept :
    writesRecords .ready = false ∧ ∃ t, exec .ready State.reset = .next t :=
  ⟨rfl, ⟨_, rfl⟩⟩

/-- Each premise set of `StepRunsFront` is met. -/
theorem test_witness_StepRunsFront :
    (let s : State := State.reset; (s.pending = []) ∧ (s.clean)) :=
  by decide +kernel

/-- Each premise set of `CoreDown` is met. -/
theorem test_witness_CoreDown :
    (let s : State := poke [fun d => { d with boot := { d.boot with up := false } }]; let c : Instr := .ready; (s.dev.boot.up = false)
    ∧ (actsOutside c = false)) :=
  by decide +kernel

/-- Each premise set of `AccessRules` is met. -/
theorem test_witness_AccessRules :
    (let s : State := State.reset; let src : Src := (Src.runtime); let p : BitVec 8 := 0x0c#8;
    let o : BitVec 12 := 0x000#12; ((∀ u ∈ unitOf p.toNat, s.dev.part.has u = false))
    ∧ (srcMay s.dev src false (BitVec.ofNat 32 (regAddr p.toNat o.toNat) : W32).toNat = true)) ∧
    (let s : State := State.reset; let src : Src := (Src.runtime); let p : BitVec 8 := 0x0c#8;
    let o : BitVec 12 := 0x000#12; ((∀ u ∈ unitOf p.toNat, s.dev.part.has u = false))
    ∧ (srcMay s.dev src true (BitVec.ofNat 32 (regAddr p.toNat o.toNat) : W32).toNat = true)) ∧
    (let s : State := State.reset; let src : Src := (Src.runtime); let p : BitVec 8 := 0x00#8; let o : BitVec 12 := 0x000#12;
    let n : Fin 5 := 1; ((n.val = 1 ∨ n.val = 2 ∨ (n.val = 4 ∧ o.toNat % 4 ≠ 0)))
    ∧ (srcMay s.dev src false (BitVec.ofNat 32 (regAddr p.toNat o.toNat) : W32).toNat = true)) ∧
    (let s : State := State.reset; let src : Src := (Src.runtime); let p : BitVec 8 := 0x00#8; let o : BitVec 12 := 0x000#12;
    let n : Fin 5 := 1; ((n.val = 1 ∨ n.val = 2 ∨ (n.val = 4 ∧ o.toNat % 4 ≠ 0)))
    ∧ (srcMay s.dev src true (BitVec.ofNat 32 (regAddr p.toNat o.toNat) : W32).toNat = true)) := by
  iterate 3 refine And.intro (by decide +kernel) ?_
  decide +kernel

/-- Each premise set of `RebaseRule` is met. -/
theorem test_witness_RebaseRule :
    (let s : State := poke [fun d => { d with leaf := vmod d.leaf 0 fun yi0 => { yi0 with prf := { yi0.prf with still := true } } }];
    let n : LeafNo := 0; (s.dev.runtimeActs = true) ∧ (s.dev.part.hasLeaf n.val = true) ∧ ((s.dev.prf n.val).still = true)) ∧
    (let s : State := State.reset; let n : LeafNo := 0; (s.dev.runtimeActs = true) ∧ (s.dev.part.hasLeaf n.val = true)
    ∧ ((s.dev.prf n.val).still = false)) := by
  iterate 1 refine And.intro (by decide +kernel) ?_
  decide +kernel

/-- Each premise set of `CommitAndAbort` is met. -/
theorem test_witness_CommitAndAbort :
    (let s : State := State.reset; let p : BitVec 8 := 0x00#8; (s.dev.hostActs = true) ∧ (∃ u ∈ unitOf p.toNat, (s.dev.part.has u = true)
    ∧ (u.safety = false))) :=
  by decide +kernel

/-- Each premise set of `MoveStopRequests` is met. -/
theorem test_witness_MoveStopRequests :
    (let s : State := poke [cell 524448 2]; let n : LeafNo := 0; (s.dev.runtimeActs = true) ∧ (s.dev.part.hasLeaf n.val = true)
    ∧ (leafOut s.dev n.val = false) ∧ ((s.dev.prf (stopTarget s.dev n.val 1)).stopKind = 0)) ∧
    (let s : State := poke [fun d => { d with leaf := vmod d.leaf 2 fun yi0 => { yi0 with prf := { yi0.prf with stopKind := 2 } } }, cell 589984 1];
    let n : LeafNo := 2; (s.dev.runtimeActs = true) ∧ (s.dev.part.hasLeaf n.val = true) ∧ (leafOut s.dev n.val = false)
    ∧ ((s.dev.prf (stopTarget s.dev n.val 1)).stopKind = 1 ∨ (s.dev.prf (stopTarget s.dev n.val 1)).stopKind = 2)) ∧
    (let s : State := poke [cell 524448 2]; let n : LeafNo := 0; (s.dev.runtimeActs = true) ∧ (s.dev.part.hasLeaf n.val = true)
    ∧ (leafOut s.dev n.val = false) ∧ ((s.dev.prf (stopTarget s.dev n.val 2)).stopKind ≤ 1)) ∧
    (let s : State := poke [fun d => { d with leaf := vmod d.leaf 2 fun yi0 => { yi0 with prf := { yi0.prf with stopKind := 2 } } }, cell 589984 1];
    let n : LeafNo := 2; (s.dev.runtimeActs = true) ∧ (s.dev.part.hasLeaf n.val = true) ∧ (leafOut s.dev n.val = false)
    ∧ ((s.dev.prf (stopTarget s.dev n.val 2)).stopKind = 2)) := by
  iterate 3 refine And.intro (by decide +kernel) ?_
  decide +kernel

/-- Each premise set of `MoveGoAndQueue` is met. -/
theorem test_witness_MoveGoAndQueue :
    (let s : State := poke [fun d => { d with leaf := vmod d.leaf 0 fun y => { y with seq := { y.seq with st := .open_ } } }, fun d => { d with sx := { d.sx with dec := 3 } }, Dev.put (pgLEAF 0) HDR.STATE 2, Dev.put (pgOBS 0) HDR.EN 1, Dev.put (pgOBS 0) OBS.KF.KF 5];
    let n : LeafNo := 0; let set : Fin 4 := 0; (s.dev.runtimeActs = true) ∧ (s.dev.part.hasLeaf n.val = true) ∧ (set.val ≠ 3)
    ∧ (directState s.dev n.val = true) ∧ (released s.dev n.val = true) ∧ (s.dev.on (pgLEAF (evenOf n.val)) LEAF.LIG.LEN = false)
    ∧ (ligFormed s.dev n.val = false) ∧ ((s.dev.prf n.val).stopReq ≠ 3) ∧ ((s.dev.prf n.val).stopKind = 0) ∧ ((s.dev.prf n.val).stopReq = 0)
    ∧ (leafOut s.dev n.val = false) ∧ (s.dev.vfld.low = false) ∧ (obsBlind s.dev n.val = false) ∧ (limBlocks s.dev n.val true = false)
    ∧ (limBlocks s.dev n.val false = false)) ∧
    (let s : State := State.reset; let n : LeafNo := 0; (s.dev.runtimeActs = true) ∧ (s.dev.part.hasLeaf n.val = true)
    ∧ ((s.dev.prf n.val).queue.length < 16)) ∧
    (let s : State := poke [fun d => { d with leaf := vmod d.leaf 5 fun yi0 => { yi0 with prf := { yi0.prf with queue := ([{ p := 5, v := 1, a := 1 }, { p := 5, v := 1, a := 1 }, { p := 5, v := 1, a := 1 }, { p := 5, v := 1, a := 1 }, { p := 5, v := 1, a := 1 }, { p := 5, v := 1, a := 1 }, { p := 5, v := 1, a := 1 }, { p := 5, v := 1, a := 1 }, { p := 5, v := 1, a := 1 }, { p := 5, v := 1, a := 1 }, { p := 5, v := 1, a := 1 }, { p := 5, v := 1, a := 1 }, { p := 5, v := 1, a := 1 }, { p := 5, v := 1, a := 1 }, { p := 5, v := 1, a := 1 }, { p := 5, v := 1, a := 1 }]) } } }];
    let n : LeafNo := 5; (s.dev.runtimeActs = true) ∧ (s.dev.part.hasLeaf n.val = true) ∧ (16 ≤ (s.dev.prf n.val).queue.length)) := by
  iterate 2 refine And.intro (by decide +kernel) ?_
  decide +kernel

/-- Each premise set of `SequencerCommands` is met. -/
theorem test_witness_SequencerCommands :
    (let s : State := poke [cell 524448 2]; let n : LeafNo := 0; (s.dev.runtimeActs = true) ∧ (s.dev.part.hasLeaf n.val = true)
    ∧ (leafOut s.dev n.val = false) ∧ (dwPage s.dev n.val = n.val)) ∧
    (let s : State := State.reset; let n : LeafNo := 0; (s.dev.runtimeActs = true) ∧ (s.dev.part.hasLeaf n.val = true) ∧ (leafOut s.dev n.val = true)) ∧
    (let s : State := State.reset; let n : LeafNo := 0; (s.dev.runtimeActs = true) ∧ (s.dev.part.hasLeaf n.val = true)
    ∧ ((∀ x ∈ (s.dev.lrn n.val).histC.head?, x + msMot 1000 ≤ s.dev.tim.mot))) ∧
    (let s : State := State.reset; let n : LeafNo := 0; (s.dev.runtimeActs = true) ∧ (s.dev.part.hasLeaf n.val = true)
    ∧ ((∀ x ∈ (s.dev.lrn n.val).histO.head?, x + msMot 1000 ≤ s.dev.tim.mot))) ∧
    (let s : State := State.reset; let n : LeafNo := 0; (s.dev.runtimeActs = true) ∧ (s.dev.part.hasLeaf n.val = true)
    ∧ ((∀ x ∈ (s.dev.lrn n.val).histL.head?, x + msMot 1000 ≤ s.dev.tim.mot))) := by
  iterate 4 refine And.intro (by decide +kernel) ?_
  decide +kernel

/-- Each premise set of `StepCommands` is met. -/
theorem test_witness_StepCommands :
    (let s : State := poke [cell 1573024 2]; let k : StepNo := 0; (s.dev.runtimeActs = true) ∧ (s.dev.part.hasStepAxis k.val = true)
    ∧ (s.dev.pgState (pgSTEP k.val) ≠ 0) ∧ (s.dev.pgState (pgSTEP k.val) ≠ 3)) ∧
    (let s : State := State.reset; let k : StepNo := 0; (s.dev.runtimeActs = true) ∧ (s.dev.part.hasStepAxis k.val = true)
    ∧ (s.dev.pgState (pgSTEP k.val) = 0 ∨ s.dev.pgState (pgSTEP k.val) = 3)) ∧
    (let s : State := State.reset; let k : StepNo := 0; (s.dev.runtimeActs = true) ∧ (s.dev.part.hasStepAxis k.val = true)
    ∧ ((∀ x ∈ (s.dev.stp k.val).histR.head?, x + msMot 1000 ≤ s.dev.tim.mot))) ∧
    (let s : State := State.reset; let k : StepNo := 0; (s.dev.runtimeActs = true) ∧ (s.dev.part.hasStepAxis k.val = true)
    ∧ ((∀ x ∈ (s.dev.stp k.val).histE.head?, x + msMot 1000 ≤ s.dev.tim.mot))) := by
  iterate 3 refine And.intro (by decide +kernel) ?_
  decide +kernel

/-- Each premise set of `DriveControlWrites` is met. -/
theorem test_witness_DriveControlWrites :
    (let s : State := poke [cell 753824 3]; (s.dev.runtimeActs = true) ∧ (∃ n : LeafNo, (s.dev.part.hasLeaf n.val = true)
    ∧ ((s.dev.drv n.val).cal.on = false) ∧ ((s.dev.stateView (pgLEAF n.val) = 3 ∨ (s.dev.stateView (pgLEAF n.val) = 2
    ∧ (s.dev.drv n.val).mode ≤ mBRAKE))))) ∧
    (let s : State := poke [cell 1671328 2]; (s.dev.runtimeActs = true) ∧ (∃ k : StepNo, (s.dev.part.hasStepAxis k.val = true)
    ∧ ((s.dev.drv (8 + k.val)).cal.on = false) ∧ ((s.dev.stateView (pgSTEP k.val) = 3 ∨ (s.dev.stateView (pgSTEP k.val) = 2
    ∧ (s.dev.drv (8 + k.val)).mode ≤ mBRAKE ∧ ((s.dev.stp k.val).st = .unref ∨ (s.dev.stp k.val).st = .fault)))))) ∧
    (let s : State := State.reset; (s.dev.runtimeActs = true) ∧ (∃ a : AxisNo, (s.dev.hasAxis a.val = true))) ∧
    (let s : State := State.reset; (s.dev.runtimeActs = true) ∧ (∃ a : AxisNo, (s.dev.hasAxis a.val = true))) := by
  iterate 3 refine And.intro (by decide +kernel) ?_
  decide +kernel

/-- Each premise set of `ObserverAndFeedbackControl` is met. -/
theorem test_witness_ObserverAndFeedbackControl :
    (let s : State := State.reset; (s.dev.runtimeActs = true) ∧ (∃ n : LeafNo, (s.dev.part.hasLeaf n.val = true))) ∧
    (let s : State := poke [fun d => { d with leaf := vmod d.leaf 5 fun yi0 => { yi0 with prf := { yi0.prf with still := true } } }]; (s.dev.runtimeActs = true)
    ∧ (∃ n : LeafNo, (s.dev.part.hasLeaf n.val = true) ∧ ((s.dev.prf n.val).still = true))) ∧
    (let s : State := State.reset; (s.dev.runtimeActs = true) ∧ (∃ n : LeafNo, (s.dev.part.hasLeaf n.val = true) ∧ ((s.dev.prf n.val).still = false))) ∧
    (let s : State := poke [fun d => { d with fb := vmod d.fb 11 fun yi0 => { yi0 with valid := true } }]; (s.dev.runtimeActs = true)
    ∧ (∃ a : AxisNo, (s.dev.hasAxis a.val = true) ∧ ((s.dev.fbk a.val).valid = true)
    ∧ ((if a.val < 8 then (s.dev.prf a.val).src = 0 ∨ (s.dev.drv a.val).mode ≠ mSERVO else (s.dev.stp (a.val - 8)).plan = none
    ∧ (s.dev.stp (a.val - 8)).stopPlan = none)))) ∧
    (let s : State := State.reset; (s.dev.runtimeActs = true) ∧ (∃ a : AxisNo, (s.dev.hasAxis a.val = true) ∧ ((s.dev.fbk a.val).valid = false))) ∧
    (let s : State := State.reset; (s.dev.runtimeActs = true) ∧ (∃ a : AxisNo, (s.dev.hasAxis a.val = true))) ∧
    (let s : State := State.reset; (s.dev.runtimeActs = true) ∧ (∃ a : AxisNo, (s.dev.hasAxis a.val = true))) ∧
    (let s : State := poke [fun d => { d with pos := vmod d.pos 11 fun yi0 => { yi0 with code := 1 } }]; (s.dev.runtimeActs = true)
    ∧ (∃ a : AxisNo, (s.dev.hasAxis a.val = true) ∧ ((s.dev.ps a.val).code ≠ 0) ∧ ((s.dev.ps a.val).code ≠ 7))) ∧
    (let s : State := State.reset; (s.dev.runtimeActs = true) ∧ (∃ a : AxisNo, (s.dev.hasAxis a.val = true) ∧ ((s.dev.ps a.val).miss = 0))) := by
  iterate 8 refine And.intro (by decide +kernel) ?_
  decide +kernel

/-- Each premise set of `DriveTrips` is met. -/
theorem test_witness_DriveTrips :
    (let s : State := poke [fun d => { d with leaf := vmod d.leaf 4 fun yi0 => { yi0 with drv := { yi0.drv with mode := 2 } } }, cell 655520 1];
    let a : AxisNo := 4; let ph : Fin 4 := 0; let r : VdsReading := { high := true, mv := 6000, t := 500 }; (s.dev.alive = true)
    ∧ (s.dev.inService a.val = true) ∧ (vdsOver s.dev a.val ph.val r.high r.mv r.t = true)) ∧
    (let s : State := poke [fun d => { d with die := vmod d.die 0 fun yi0 => { yi0 with samp := { yi0.samp with vbr := 16500 } } }, cell 524448 2];
    let a : AxisNo := 0; (s.dev.alive = true) ∧ (s.dev.inService a.val = true)
    ∧ (s.dev.get (pgDRV a.val) LEAF.VBROV.OVTRIP < (s.dev.di (dieOf a.val)).samp.vbr)) ∧
    (let s : State := poke [fun d => { d with leaf := vmod d.leaf 5 fun yi0 => { yi0 with drv := { yi0.drv with nOc := 11 } } }, cell 688288 2];
    let a : AxisNo := 5; (s.dev.alive = true) ∧ (s.dev.inService a.val = true) ∧ (8 ≤ (s.dev.drv a.val).nOc)) ∧
    (let s : State := poke [fun d => { d with leaf := vmod d.leaf 1 fun yi0 => { yi0 with drv := { yi0.drv with nVph := 4 } } }, cell 557216 2];
    let a : AxisNo := 1; (s.dev.alive = true) ∧ (s.dev.inService a.val = true) ∧ (4 ≤ (s.dev.drv a.val).nVph)) ∧
    (let s : State := poke [fun d => { d with leaf := vmod d.leaf 2 fun yi0 => { yi0 with drv := { yi0.drv with nIsum := 4 } } }, cell 589984 2];
    let n : LeafNo := 2; (s.dev.alive = true) ∧ (s.dev.inService n.val = true) ∧ (4 ≤ (s.dev.drv n.val).nIsum)) := by
  iterate 4 refine And.intro (by decide +kernel) ?_
  decide +kernel

/-- Each premise set of `DriveConditions` is met. -/
theorem test_witness_DriveConditions :
    (let s : State := poke [fun d => { d with leaf := vmod d.leaf 0 fun yi0 => { yi0 with drv := { yi0.drv with mode := 3 } } }]; let a : AxisNo := 0;
    let ma : Nat := 60000; (s.dev.alive = true) ∧ (s.dev.hasAxis a.val = true) ∧ ((s.dev.drv a.val).mode ≠ mOFF) ∧ ((s.dev.drv a.val).mode ≠ mCAL)
    ∧ (overcurrent s.dev a.val ma = true) ∧ (a.val < 8)) ∧
    (let s : State := poke [fun d => { d with step := vmod d.step 1 fun yi0 => { yi0 with drv := { yi0.drv with mode := 2 } } }]; let a : AxisNo := 9;
    let ma : Nat := 60000; (s.dev.alive = true) ∧ (s.dev.hasAxis a.val = true) ∧ ((s.dev.drv a.val).mode ≠ mOFF) ∧ ((s.dev.drv a.val).mode ≠ mCAL)
    ∧ (overcurrent s.dev a.val ma = true) ∧ (8 ≤ a.val)) ∧
    (let s : State := poke [cell 524448 2]; let a : AxisNo := 0; (s.dev.alive = true) ∧ (s.dev.inService a.val = true)
    ∧ (bit (s.dev.drv a.val).cond Cz.LEAF.VBRUV.code = false) ∧ ((s.dev.di (dieOf a.val)).samp.vbr < s.dev.get (pgDRV a.val) LEAF.VBRUV.UVTRIP)) ∧
    (let s : State := poke [fun d => { d with leaf := vmod d.leaf 5 fun yi0 => { yi0 with drv := { yi0.drv with nShadow := 3 } } }, cell 688288 2];
    let n : LeafNo := 5; (s.dev.alive = true) ∧ (s.dev.inService n.val = true) ∧ (3 ≤ (s.dev.drv n.val).nShadow)) ∧
    (let s : State := State.reset; let n : LeafNo := 0; (s.dev.alive = true) ∧ (s.dev.part.hasLeaf n.val = true) ∧ (s.dev.pgState (pgLEAF n.val) ≠ 3)
    ∧ ((s.dev.drv n.val).cal.on = false)) ∧
    (let s : State := poke [fun d => { d with leaf := vmod d.leaf 0 fun yi0 => { yi0 with drv := { yi0.drv with mode := 3 } } }, cell 524448 2];
    let n : LeafNo := 0; (s.dev.alive = true) ∧ (s.dev.part.hasLeaf n.val = true) ∧ ((s.dev.drv n.val).mode ≠ mOFF) ∧ (leafOut s.dev n.val = false)) := by
  iterate 5 refine And.intro (by decide +kernel) ?_
  decide +kernel

/-- Each premise set of `DriveStart` is met. -/
theorem test_witness_DriveStart :
    (let s : State := poke [fun d => { d with leaf := vmod d.leaf 0 fun y => { y with drv := { y.drv with step := .wait } } }, fun d => { d with die := vmod d.die 0 fun y => { y with samp := { y.samp with vgd := true, vbr := 4000 } } }, Dev.put (pgDRV 0) LEAF.VBRUV.UVREL 3000, Dev.put (pgDRV 0) LEAF.VBROV.OVTRIP 9000];
    let a : AxisNo := 0; (s.dev.alive = true) ∧ (s.dev.hasAxis a.val = true) ∧ ((s.dev.drv a.val).step = .wait) ∧ (supplyOk s.dev a.val = true)) ∧
    (let s : State := poke [fun d => { d with leaf := vmod d.leaf 2 fun yi0 => { yi0 with drv := { yi0.drv with step := (StartStep.wait) } } }];
    let a : AxisNo := 2; (s.dev.alive = true) ∧ (s.dev.hasAxis a.val = true) ∧ ((s.dev.drv a.val).step = .wait) ∧ (supplyOk s.dev a.val = false)
    ∧ ((s.dev.drv a.val).startRep = false)) ∧
    (let s : State := poke [fun d => { d with leaf := vmod d.leaf 1 fun yi0 => { yi0 with drv := { yi0.drv with step := (StartStep.precharge) } } }, fun d => { d with leaf := vmod d.leaf 1 fun yi0 => { yi0 with drv := { yi0.drv with pre := 97 } } }];
    let a : AxisNo := 1; (s.dev.alive = true) ∧ (s.dev.hasAxis a.val = true) ∧ ((s.dev.drv a.val).step = .precharge) ∧ (64 ≤ (s.dev.drv a.val).pre)) ∧
    (let s : State := poke [fun d => { d with leaf := vmod d.leaf 1 fun yi0 => { yi0 with drv := { yi0.drv with cal := { yi0.drv.cal with on := true } } } }, fun d => { d with leaf := vmod d.leaf 1 fun yi0 => { yi0 with drv := { yi0.drv with cal := { yi0.drv.cal with n := 256 } } } }];
    let a : AxisNo := 1; (s.dev.alive = true) ∧ (s.dev.hasAxis a.val = true) ∧ ((s.dev.drv a.val).cal.on = true) ∧ (256 ≤ (s.dev.drv a.val).cal.n)) := by
  iterate 3 refine And.intro (by decide +kernel) ?_
  decide +kernel

/-- Each premise set of `MotionFaults` is met. -/
theorem test_witness_MotionFaults :
    (let s : State := poke [fun d => { d with leaf := vmod d.leaf 0 fun yi0 => { yi0 with prf := { yi0.prf with keo := 47 } } }, cell 524448 2];
    let n : LeafNo := 0; (s.dev.alive = true) ∧ (s.dev.part.hasLeaf n.val = true) ∧ (leafOut s.dev n.val = false) ∧ (4 ≤ (s.dev.prf n.val).keo)) ∧
    (let s : State := poke [fun d => { d with leaf := vmod d.leaf 3 fun yi0 => { yi0 with prf := { yi0.prf with ext := true } } }, fun d => { d with leaf := vmod d.leaf 3 fun yi0 => { yi0 with prf := { yi0.prf with undStop := true } } }];
    let n : LeafNo := 3; (s.dev.alive = true) ∧ (s.dev.part.hasLeaf n.val = true) ∧ ((s.dev.prf n.val).ext = true)
    ∧ ((s.dev.prf n.val).undStop = true)) ∧
    (let s : State := poke [fun d => { d with leaf := vmod d.leaf 2 fun yi0 => { yi0 with prf := { yi0.prf with stopKind := 2 } } }, fun d => { d with leaf := vmod d.leaf 2 fun yi0 => { yi0 with prf := { yi0.prf with zeroN := 89 } } }];
    let n : LeafNo := 2; (s.dev.alive = true) ∧ (s.dev.part.hasLeaf n.val = true) ∧ ((s.dev.prf n.val).stopKind = 1 ∨ (s.dev.prf n.val).stopKind = 2)
    ∧ (64 ≤ (s.dev.prf n.val).zeroN)) ∧
    (let s : State := poke [fun d => { d with leaf := vmod d.leaf 6 fun yi0 => { yi0 with lig := { yi0.lig with formed := true } } }, fun d => { d with leaf := vmod d.leaf 6 fun yi0 => { yi0 with lig := { yi0.lig with sync := 8 } } }];
    let k : Fin 4 := 3; (s.dev.alive = true) ∧ (ligFormed s.dev (2 * k.val) = true)
    ∧ (s.dev.get (pgLEAF (2 * k.val)) LEAF.SYNC.SYNCN ≤ (s.dev.lf (2 * k.val)).lig.sync)) := by
  iterate 3 refine And.intro (by decide +kernel) ?_
  decide +kernel

/-- Each premise set of `LigatureStandstillLimit` is met. -/
theorem test_witness_LigatureStandstillLimit :
    (let s : State := poke [fun d => { d with leaf := vmod d.leaf 2 fun yi0 => { yi0 with prf := { yi0.prf with still := true } } }, fun d => { d with leaf := vmod d.leaf 3 fun yi0 => { yi0 with prf := { yi0.prf with still := true } } }, cell 589952 1, cell 589984 2, cell 592576 1, cell 622720 1, cell 622752 1];
    let k : Fin 4 := 1; (s.dev.alive = true) ∧ (ligFormed s.dev (2 * k.val) = false) ∧ (s.dev.on (pgLEAF (2 * k.val)) LEAF.LIG.LEN = true)
    ∧ (ligMember s.dev (2 * k.val) = true) ∧ (ligMember s.dev (2 * k.val + 1) = true) ∧ (ligClose s.dev (2 * k.val) = true)) ∧
    (let s : State := poke [fun d => { d with leaf := vmod d.leaf 0 fun yi0 => { yi0 with prf := { yi0.prf with stand := 240 } } }, cell 524448 2];
    let n : LeafNo := 0; (s.dev.alive = true) ∧ (s.dev.part.hasLeaf n.val = true) ∧ (leafOut s.dev n.val = false)
    ∧ (s.dev.get (pgLEAF n.val) LEAF.STAND.STANDN ≤ (s.dev.prf n.val).stand) ∧ ((s.dev.drv n.val).parkPend = 0)) ∧
    (let s : State := poke [fun d => { d with leaf := vmod d.leaf 0 fun yi0 => { yi0 with prf := { yi0.prf with stopKind := 1 } } }, fun d => { d with leaf := vmod d.leaf 0 fun yi0 => { yi0 with prf := { yi0.prf with stopPlan := (some { start := { p := 0, v := 0, a := 0 }, phases := [], target := 0, elapsed := 5, set := 0, ovs := false, limO := { v := 0, a := 0, d := 0, j := 0, zone := 0, zoneV := 0, cap := false }, limC := { v := 0, a := 0, d := 0, j := 0, zone := 0, zoneV := 0, cap := false } }) } } }, fun d => { d with leaf := vmod d.leaf 0 fun yi0 => { yi0 with prf := { yi0.prf with stand := 48 } } }, cell 524448 2];
    let n : LeafNo := 0; (s.dev.alive = true) ∧ (s.dev.part.hasLeaf n.val = true) ∧ (leafOut s.dev n.val = false)
    ∧ (s.dev.get (pgLEAF n.val) LEAF.STAND.STANDN ≤ (s.dev.prf n.val).stand) ∧ (((s.dev.prf n.val).stopKind = 1 ∨ (s.dev.prf n.val).stopKind = 2))
    ∧ (((s.dev.prf n.val).stopPlan.any fun p => decide (p.len ≤ p.elapsed)) = true)) ∧
    (let s : State := poke [fun d => { d with leaf := vmod d.leaf 2 fun yi0 => { yi0 with prf := { yi0.prf with sp := { yi0.prf.sp with v := 65536000 } } } }, cell 589984 2, cell 592512 1, cell 592520 1, cell 2098176 337150207];
    let n : LeafNo := 2; let e : Bool := true; (s.dev.alive = true) ∧ (s.dev.part.hasLeaf n.val = true) ∧ (leafOut s.dev n.val = false)
    ∧ (limLevel s.dev n.val e = true) ∧ ((if e then (s.dev.prf n.val).capO else (s.dev.prf n.val).capC) = false) ∧ (limActs s.dev n.val e ≠ 0)
    ∧ (limActs s.dev n.val e = 1) ∧ ((if e then 0 < (s.dev.prf n.val).sp.v else (s.dev.prf n.val).sp.v < 0))) := by
  iterate 3 refine And.intro (by decide +kernel) ?_
  decide +kernel

/-- Each premise set of `Detections` is met. -/
theorem test_witness_Detections :
    (let s : State := poke [fun d => { d with leaf := vmod d.leaf 0 fun yi0 => { yi0 with drv := { yi0.drv with mode := 3 } } }, fun d => { d with leaf := vmod d.leaf 0 fun yi0 => { yi0 with prf := { yi0.prf with sp := { yi0.prf.sp with v := 65536000 } } } }, fun d => { d with obs := vmod d.obs 0 fun yi0 => { yi0 with tdet := 3000 } }, cell 786560 1, cell 786976 2000, cell 787264 1];
    let n : LeafNo := 0; (s.dev.alive = true) ∧ (s.dev.part.hasLeaf n.val = true) ∧ (detRuns s.dev n.val = true) ∧ (0 < (s.dev.ob n.val).tdet)
    ∧ (ocfg s.dev n.val OBS.OBS_CFG.TDET ≤ (s.dev.ob n.val).tdet)) ∧
    (let s : State := poke [fun d => { d with leaf := vmod d.leaf 7 fun yi0 => { yi0 with drv := { yi0.drv with mode := 3 } } }, fun d => { d with leaf := vmod d.leaf 7 fun yi0 => { yi0 with prf := { yi0.prf with sp := { yi0.prf.sp with v := 6553600 } } } }, fun d => { d with obs := vmod d.obs 7 fun yi0 => { yi0 with stall := 5 } }, cell 1015936 1, cell 1016352 100, cell 1016640 1];
    let n : LeafNo := 7; (s.dev.alive = true) ∧ (s.dev.part.hasLeaf n.val = true) ∧ (detRuns s.dev n.val = true) ∧ (0 < (s.dev.ob n.val).stall)
    ∧ (ocfg s.dev n.val OBS.SEAL2.STALLN ≤ (s.dev.ob n.val).stall) ∧ ((s.dev.ob n.val).tdet = 0)) ∧
    (let s : State := poke [fun d => { d with leaf := vmod d.leaf 1 fun yi0 => { yi0 with drv := { yi0.drv with mode := 3 } } }, fun d => { d with leaf := vmod d.leaf 1 fun yi0 => { yi0 with prf := { yi0.prf with sp := { yi0.prf.sp with v := (-6553600) } } } }, fun d => { d with obs := vmod d.obs 1 fun yi0 => { yi0 with stiff := 3000 } }, cell 819328 1, cell 819744 100, cell 820033 1];
    let n : LeafNo := 1; (s.dev.alive = true) ∧ (s.dev.part.hasLeaf n.val = true) ∧ (detRuns s.dev n.val = true) ∧ (0 < (s.dev.ob n.val).stiff)
    ∧ (ocfg s.dev n.val OBS.SEAL3.STIFFN ≤ (s.dev.ob n.val).stiff) ∧ ((s.dev.ob n.val).tdet = 0) ∧ ((s.dev.ob n.val).stall = 0)) ∧
    (let s : State := poke [fun d => { d with leaf := vmod d.leaf 1 fun yi0 => { yi0 with drv := { yi0.drv with mode := 3 } } }, fun d => { d with leaf := vmod d.leaf 1 fun yi0 => { yi0 with prf := { yi0.prf with sp := { yi0.prf.sp with v := 65536000 } } } }, fun d => { d with obs := vmod d.obs 1 fun yi0 => { yi0 with edges := 8 } }, cell 819328 1, cell 819744 2000, cell 820032 1, cell 820858 3];
    let n : LeafNo := 1; (s.dev.alive = true) ∧ (s.dev.part.hasLeaf n.val = true) ∧ (detRuns s.dev n.val = true) ∧ ((s.dev.ob n.val).tdet = 0)
    ∧ ((s.dev.ob n.val).stall = 0) ∧ ((s.dev.ob n.val).stiff = 0) ∧ (edgeActs s.dev n.val 0 = true ∨ edgeActs s.dev n.val 1 = true)) := by
  iterate 3 refine And.intro (by decide +kernel) ?_
  decide +kernel

/-- Each premise set of `ObserverTable` is met. -/
theorem test_witness_ObserverTable :
    (let s : State := poke [fun d => { d with tim := { d.tim with mot := 5000929947 } }, cell 819328 1, cell 819713 2];
    let n : LeafNo := 1; (s.dev.alive = true) ∧ (s.dev.part.hasLeaf n.val = true) ∧ (s.dev.enabled (pgOBS n.val) = true)
    ∧ (ocfg s.dev n.val OBS.OBS_CFG.TSRC = 2) ∧ ((s.dev.kn n.val).stale = false) ∧ ((s.dev.kn n.val).tempAt + msMot 10000 ≤ s.dev.tim.mot)
    ∧ (s.dev.queueRoom = true)) ∧
    (let s : State := poke [fun d => { d with kern := vmod d.kern 5 fun yi0 => { yi0 with nShadow := 3 } }, cell 688288 2];
    let n : LeafNo := 5; (s.dev.alive = true) ∧ (s.dev.part.hasLeaf n.val = true) ∧ (leafOut s.dev n.val = false) ∧ (3 ≤ (s.dev.kn n.val).nShadow)) ∧
    (let s : State := poke [fun d => { d with kern := vmod d.kern 3 fun yi0 => { yi0 with learnDone := true } }];
    let n : LeafNo := 3; (s.dev.alive = true) ∧ (s.dev.part.hasLeaf n.val = true) ∧ ((s.dev.kn n.val).learnDone = true)) ∧
    (let s : State := poke [fun d => { d with kern := vmod d.kern 6 fun yi0 => { yi0 with atEnd := true } }, fun d => { d with kern := vmod d.kern 6 fun yi0 => { yi0 with endedOk := true } }];
    let n : LeafNo := 6; (s.dev.alive = true) ∧ (s.dev.part.hasLeaf n.val = true) ∧ ((s.dev.kn n.val).learnDone = false)
    ∧ ((s.dev.kn n.val).atEnd = true) ∧ ((s.dev.kn n.val).endedOk = true) ∧ ((s.dev.kn n.val).anom = false) ∧ ((s.dev.kn n.val).probation = 0)
    ∧ (s.dev.on (pgOBS n.val) OBS.OBS_CFG.FREEZE = false)) ∧
    (let s : State := poke [fun d => { d with kern := vmod d.kern 5 fun yi0 => { yi0 with anom := true } }, fun d => { d with kern := vmod d.kern 5 fun yi0 => { yi0 with atEnd := true } }];
    let n : LeafNo := 5; (s.dev.alive = true) ∧ (s.dev.part.hasLeaf n.val = true) ∧ ((s.dev.kn n.val).learnDone = false)
    ∧ ((s.dev.kn n.val).atEnd = true) ∧ ((s.dev.kn n.val).anom = true)) := by
  iterate 4 refine And.intro (by decide +kernel) ?_
  decide +kernel

/-- Each premise set of `SensorEdges` is met. -/
theorem test_witness_SensorEdges :
    (let s : State := poke [cell 1081504 1]; let a : AxisNo := 1; let q : BitVec 2 := 0x1#2; (s.dev.alive = true) ∧ (posOn s.dev a.val = true)
    ∧ (encFitted s.dev a.val = true) ∧ ((s.dev.ps a.val).ab < 4) ∧ (quadStep (s.dev.ps a.val).ab q.toNat = some 1)) ∧
    (let s : State := poke [fun d => { d with pos := vmod d.pos 3 fun yi0 => { yi0 with ab := 1 } }, cell 1147040 2]; let a : AxisNo := 3;
    let q : BitVec 2 := 0x0#2; (s.dev.alive = true) ∧ (posOn s.dev a.val = true) ∧ (encFitted s.dev a.val = true) ∧ ((s.dev.ps a.val).ab < 4)
    ∧ (quadStep (s.dev.ps a.val).ab q.toNat = some (-1))) ∧
    (let s : State := poke [cell 1081504 1]; let a : AxisNo := 1; let q : BitVec 2 := 0x3#2; (s.dev.alive = true) ∧ (posOn s.dev a.val = true)
    ∧ (encFitted s.dev a.val = true) ∧ ((s.dev.ps a.val).ab < 4) ∧ (quadStep (s.dev.ps a.val).ab q.toNat = none)) ∧
    (let s : State := poke [cell 1147040 2, cell 1147404 1]; let a : AxisNo := 3; (s.dev.alive = true) ∧ (posOn s.dev a.val = true)
    ∧ (encFitted s.dev a.val = true) ∧ ((s.dev.ps a.val).ab < 4) ∧ (s.dev.on (pgPOS a.val) POS.POS_CFG.ZEN = true) ∧ ((s.dev.ps a.val).idx = none)
    ∧ ((s.dev.ps a.val).z = false) ∧ (s.dev.pgState (pgPOS a.val) = 2)) ∧
    (let s : State := poke [cell 1081504 1]; let n : LeafNo := 1; let lines : BitVec 3 := 0x1#3; let ns : Nat := 200; (s.dev.alive = true)
    ∧ (posOn s.dev n.val = true) ∧ ((s.dev.di (dieOf n.val)).lost = 0) ∧ (s.dev.get (pgPOS n.val) POS.HALL.HALLFLT ≤ ns)
    ∧ ((s.dev.ps n.val).hraw % 8 ≠ lines.toNat) ∧ ((lines.toNat ^^^ s.dev.get (pgPOS n.val) POS.POS_CFG.HALLPOL) % 8 ≠ (s.dev.ps n.val).code)) ∧
    (let s : State := poke [fun d => { d with pos := vmod d.pos 1 fun yi0 => { yi0 with code := 3 } }, cell 1081504 1]; let n : LeafNo := 1;
    let lines : BitVec 3 := 0x0#3; (s.dev.alive = true) ∧ (posOn s.dev n.val = true) ∧ ((s.dev.di (dieOf n.val)).lost = 0)
    ∧ ((lines.toNat ^^^ s.dev.get (pgPOS n.val) POS.POS_CFG.HALLPOL) % 8 ≠ (s.dev.ps n.val).code)) ∧
    (let s : State := poke [fun d => { d with tim := { d.tim with mot := 5000216329 } }, cell 1147040 1]; let n : LeafNo := 3;
    let lines : BitVec 3 := 0x0#3; (s.dev.alive = true) ∧ (posOn s.dev n.val = true) ∧ ((s.dev.di (dieOf n.val)).lost = 0)
    ∧ ((lines.toNat ^^^ s.dev.get (pgPOS n.val) POS.POS_CFG.HALLPOL) % 8 = (s.dev.ps n.val).code)
    ∧ ((s.dev.ps n.val).code = 0 ∨ (s.dev.ps n.val).code = 7) ∧ ((s.dev.ps n.val).invRep = false) ∧ ((s.dev.ps n.val).codeT + 16000 ≤ s.dev.tim.mot)) := by
  iterate 6 refine And.intro (by decide +kernel) ?_
  decide +kernel

/-- Each premise set of `FeedbackChecks` is met. -/
theorem test_witness_FeedbackChecks :
    (let s : State := poke [fun d => { d with pos := vmod d.pos 5 fun yi0 => { yi0 with ssiOn := true } }, cell 1212576 1]; let n : LeafNo := 5;
    let x : BitVec 41 := 0x00000000000#41; (s.dev.alive = true) ∧ (posOn s.dev n.val = true) ∧ ((s.dev.ps n.val).ssiOn = true)
    ∧ (ssiFrameNs s.dev n.val ≤ 7000) ∧ (s.dev.get (pgPOS n.val) POS.SSI_CFG.ERREN = 0) ∧ ((s.dev.ps n.val).ssi = none)
    ∧ (ssiCrc (s.dev.get (pgPOS n.val) POS.SSI_CFG.CRCSEL) (x.toNat / 2 ^ (crcLen (s.dev.get (pgPOS n.val) POS.SSI_CFG.CRCSEL)) % 2 ^ (s.dev.get (pgPOS n.val) POS.SSI_CFG.DBITS)) (s.dev.get (pgPOS n.val) POS.SSI_CFG.DBITS) = (if s.dev.on (pgPOS n.val) POS.SSI_CFG.CRCINV then 2 ^ (crcLen (s.dev.get (pgPOS n.val) POS.SSI_CFG.CRCSEL)) - 1 - x.toNat % 2 ^ (crcLen (s.dev.get (pgPOS n.val) POS.SSI_CFG.CRCSEL)) else x.toNat % 2 ^ (crcLen (s.dev.get (pgPOS n.val) POS.SSI_CFG.CRCSEL))))) ∧
    (let s : State := poke [fun d => { d with pos := vmod d.pos 1 fun yi0 => { yi0 with ssiOn := true } }, cell 1081504 1]; let n : LeafNo := 1;
    let x : BitVec 41 := 0x00000000005#41; (s.dev.alive = true) ∧ (posOn s.dev n.val = true) ∧ ((s.dev.ps n.val).ssiOn = true)
    ∧ (ssiFrameNs s.dev n.val ≤ 7000) ∧ (s.dev.get (pgPOS n.val) POS.SSI_CFG.ERREN = 0)
    ∧ (ssiCrc (s.dev.get (pgPOS n.val) POS.SSI_CFG.CRCSEL) (x.toNat / 2 ^ (crcLen (s.dev.get (pgPOS n.val) POS.SSI_CFG.CRCSEL)) % 2 ^ (s.dev.get (pgPOS n.val) POS.SSI_CFG.DBITS)) (s.dev.get (pgPOS n.val) POS.SSI_CFG.DBITS) ≠ (if s.dev.on (pgPOS n.val) POS.SSI_CFG.CRCINV then 2 ^ (crcLen (s.dev.get (pgPOS n.val) POS.SSI_CFG.CRCSEL)) - 1 - x.toNat % 2 ^ (crcLen (s.dev.get (pgPOS n.val) POS.SSI_CFG.CRCSEL)) else x.toNat % 2 ^ (crcLen (s.dev.get (pgPOS n.val) POS.SSI_CFG.CRCSEL))))) ∧
    (let s : State := poke [fun d => { d with pos := vmod d.pos 1 fun yi0 => { yi0 with ssiOn := true } }, cell 1081504 1];
    let n : LeafNo := 1; (s.dev.alive = true) ∧ (posOn s.dev n.val = true) ∧ ((s.dev.ps n.val).ssiOn = true) ∧ (ssiFrameNs s.dev n.val ≤ 7000)
    ∧ (s.dev.queueRoom = true) ∧ (Cz.POS.SSITO.cls ≠ 0)) ∧
    (let s : State := poke [fun d => { d with pos := vmod d.pos 1 fun yi0 => { yi0 with miss := 5 } }, cell 1081504 1];
    let n : LeafNo := 1; (s.dev.alive = true) ∧ (posOn s.dev n.val = true) ∧ (s.dev.get (pgPOS n.val) POS.XCHK.SSIMISS < (s.dev.ps n.val).miss)) ∧
    (let s : State := poke [fun d => { d with pos := vmod d.pos 1 fun yi0 => { yi0 with xchkN := 10 } }, cell 1081504 1];
    let n : LeafNo := 1; (s.dev.alive = true) ∧ (posOn s.dev n.val = true) ∧ (s.dev.get (pgPOS n.val) POS.XCHK.XN ≤ (s.dev.ps n.val).xchkN)) ∧
    (let s : State := poke [fun d => { d with pos := vmod d.pos 1 fun yi0 => { yi0 with slipN := 5 } }, cell 1081504 1];
    let n : LeafNo := 1; (s.dev.alive = true) ∧ (posOn s.dev n.val = true) ∧ (4 ≤ (s.dev.ps n.val).slipN)) ∧
    (let s : State := poke [cell 1343648 1]; let a : AxisNo := 9; (s.dev.alive = true) ∧ (s.dev.hasAxis a.val = true)
    ∧ (s.dev.pgState (pgPOS a.val) = 1) ∧ ((s.dev.di (dieOf a.val)).alive = true) ∧ ((s.dev.di (dieOf a.val)).standalone = false)
    ∧ ((s.dev.di (dieOf a.val)).lost = 0) ∧ ((a.val < 8 → 8 ≤ (s.dev.ps a.val).codeOk))
    ∧ ((a.val < 8 → s.dev.get (pgPOS a.val) POS.POS_CFG.PSRC = 2 → 2 ≤ (s.dev.ps a.val).ssiRun))) := by
  iterate 6 refine And.intro (by decide +kernel) ?_
  decide +kernel

/-- Each premise set of `SequencerTimers` is met. -/
theorem test_witness_SequencerTimers :
    (let s : State := poke [fun d => { d with tim := { d.tim with mot := 5000329035 } }, fun d => { d with leaf := vmod d.leaf 4 fun yi0 => { yi0 with seq := { yi0.seq with tunlk := (some 100) } } }];
    let n : LeafNo := 4; (s.dev.alive = true) ∧ (due s.dev (s.dev.seq n.val).tunlk = true)) ∧
    (let s : State := poke [fun d => { d with tim := { d.tim with mot := 5000329035 } }, fun d => { d with leaf := vmod d.leaf 0 fun yi0 => { yi0 with seq := { yi0.seq with tlock := (some 100) } } }];
    let n : LeafNo := 0; (s.dev.alive = true) ∧ (due s.dev (s.dev.seq n.val).tlock = true)) ∧
    (let s : State := poke [fun d => { d with tim := { d.tim with mot := 5000329035 } }, fun d => { d with leaf := vmod d.leaf 2 fun yi0 => { yi0 with seq := { yi0.seq with warn := (some 100) } } }];
    let n : LeafNo := 2; (s.dev.alive = true) ∧ (due s.dev (s.dev.seq n.val).warn = true)) ∧
    (let s : State := poke [fun d => { d with tim := { d.tim with mot := 5000329035 } }, fun d => { d with leaf := vmod d.leaf 0 fun yi0 => { yi0 with seq := { yi0.seq with trecl := (some 100) } } }];
    let n : LeafNo := 0; (s.dev.alive = true) ∧ (due s.dev (s.dev.seq n.val).trecl = true)) ∧
    (let s : State := poke [fun d => { d with tim := { d.tim with mot := 5000929947 } }, fun d => { d with leaf := vmod d.leaf 3 fun yi0 => { yi0 with lrn := { yi0.lrn with press := (some 100) } } }];
    let n : LeafNo := 3; (s.dev.alive = true) ∧ (due s.dev (s.dev.lrn n.val).press = true)) ∧
    (let s : State := poke [fun d => { d with leaf := vmod d.leaf 2 fun yi0 => { yi0 with seq := { yi0.seq with st := (LeafState.learn) } } }, fun d => { d with leaf := vmod d.leaf 2 fun yi0 => { yi0 with lrn := { yi0.lrn with stallN := 333 } } }];
    let n : LeafNo := 2; (s.dev.alive = true) ∧ ((s.dev.seq n.val).st = .learn)
    ∧ (s.dev.get (pgLEAF n.val) LEAF.SEQ_LRN3.LSTALLN ≤ (s.dev.lrn n.val).stallN)) := by
  iterate 5 refine And.intro (by decide +kernel) ?_
  decide +kernel

/-- Each premise set of `ChatterAndOrientation` is met. -/
theorem test_witness_ChatterAndOrientation :
    (let s : State := poke [fun d => { d with leaf := vmod d.leaf 5 fun yi0 => { yi0 with lrn := { yi0.lrn with histC := ([4999999999, 4999999998, 4999999997, 4999999996]) } } }];
    let n : LeafNo := 5; (s.dev.alive = true) ∧ (s.dev.part.hasLeaf n.val = true) ∧ (chatters s.dev.tim.mot (s.dev.lrn n.val).histC = true)
    ∧ ((s.dev.seq n.val).st ≠ .learn) ∧ (bit (s.dev.seq n.val).susp 0 = false) ∧ (s.dev.queueRoom = true)) ∧
    (let s : State := poke [fun d => { d with leaf := vmod d.leaf 6 fun yi0 => { yi0 with seq := { yi0.seq with st := (LeafState.learn) } } }, fun d => { d with leaf := vmod d.leaf 6 fun yi0 => { yi0 with lrn := { yi0.lrn with histC := ([4999999999, 4999999998, 4999999997, 4999999996]) } } }];
    let n : LeafNo := 6; (s.dev.alive = true) ∧ (s.dev.part.hasLeaf n.val = true) ∧ (chatters s.dev.tim.mot (s.dev.lrn n.val).histC = true)
    ∧ ((s.dev.seq n.val).st = .learn)) ∧
    (let s : State := poke [fun d => { d with step := vmod d.step 2 fun yi0 => { yi0 with stp := { yi0.stp with histR := ([4999999999, 4999999998, 4999999997, 4999999996]) } } }];
    let k : StepNo := 2; (s.dev.alive = true) ∧ (s.dev.part.hasStepAxis k.val = true) ∧ (chatters s.dev.tim.mot (s.dev.stp k.val).histR = true)
    ∧ (bit (s.dev.stp k.val).susp 0 = false)) ∧
    (let s : State := poke [fun d => { d with tim := { d.tim with cycleDue := true } }, Dev.put pgSEAL SEAL.PROFILE.ORIFIX 1, Dev.put pgSEAL SEAL.PROFILE.ORIBASE 1, fun d => { d with sx := { d.sx with q := some {} } }]; (s.dev.alive = true)
    ∧ (s.dev.tim.cycleDue = true) ∧ (wantedOri s.dev ≠ s.dev.sy.ori) ∧ (s.dev.sx.dec % 4 = 0) ∧ (qDec s.dev 0 = false) ∧ (qDec s.dev 1 = false)
    ∧ ((s.dev.leaves.all (leafRest s.dev)) = true) ∧ (s.dev.sy.oriNew = false) ∧ (s.dev.sy.oriBack = false) ∧ (s.dev.sy.oriSent = none)) := by
  iterate 3 refine And.intro (by decide +kernel) ?_
  decide +kernel

/-- Each premise set of `StepEvents` is met. -/
theorem test_witness_StepEvents :
    (let s : State := State.reset; let k : StepNo := 0; let rise : Bool := false; (s.dev.alive = true) ∧ (s.dev.part.hasStepAxis k.val = true)
    ∧ (rise = s.dev.on (pgSTEP k.val) STEP.STP_CFG.SDPOL)) ∧
    (let s : State := poke [fun d => { d with sx := { d.sx with dec := 15 } }, fun d => d.modStp 0 fun x => { x with mRef := 256 }, Dev.put (pgSTEP 0) STEP.STP_CFG.SRC 1, Dev.put (pgSTEP 0) STEP.EXTP.EXTP 50];
    let k : StepNo := 0; let rise : Bool := true; let b : Bool := true; (s.dev.alive = true) ∧ (s.dev.part.hasStepAxis k.val = true)
    ∧ (s.dev.on (pgSTEP k.val) STEP.STP_CFG.SRC = true) ∧ (rise ≠ s.dev.on (pgSTEP k.val) STEP.STP_CFG.SDPOL)
    ∧ (b ≠ s.dev.on (pgSTEP k.val) STEP.STP_CFG.DIRPOL) ∧ (sideReleased s.dev (s.dev.on (pgSTEP k.val) STEP.STP_CFG.CARSIDE != s.dev.sy.ori) = true)
    ∧ (mPos s.dev k.val ((s.dev.win k.val).sdBase + ((s.dev.win k.val).sdCnt + 1) * (s.dev.get (pgSTEP k.val) STEP.SDIR.SDMUL : Nat)) ≤ (s.dev.get (pgSTEP k.val) STEP.EXTP.EXTP : Nat) * 65536)) ∧
    (let s : State := poke [fun d => { d with tim := { d.tim with mot := 5000929947 } }, fun d => { d with step := vmod d.step 2 fun yi0 => { yi0 with win := { yi0.win with hold := (some 5) } } }];
    let k : StepNo := 2; (s.dev.alive = true) ∧ (s.dev.part.hasStepAxis k.val = true) ∧ (due s.dev (s.dev.win k.val).hold = true)
    ∧ ((s.dev.win k.val).ramp = none)) ∧
    (let s : State := poke [fun d => { d with step := vmod d.step 0 fun yi0 => { yi0 with win := { yi0.win with openA := 66 } } }];
    let k : StepNo := 0; let b : Bool := false; (s.dev.alive = true) ∧ (s.dev.part.hasStepAxis k.val = true)
    ∧ (64 ≤ (if b then (s.dev.win k.val).openB else (s.dev.win k.val).openA))) ∧
    (let s : State := poke [fun d => { d with step := vmod d.step 0 fun yi0 => { yi0 with stp := { yi0.stp with st := (StepState.extending) } } }, fun d => { d with step := vmod d.step 0 fun yi0 => { yi0 with stp := { yi0.stp with pend := true } } }, cell 1573024 2];
    let k : StepNo := 0; (s.dev.alive = true) ∧ (s.dev.part.hasStepAxis k.val = true) ∧ (s.dev.pgState (pgSTEP k.val) = 2)
    ∧ ((s.dev.stp k.val).pend = true) ∧ (demandRow (s.dev.stp k.val).st = true) ∧ ((s.dev.stp k.val).stopPlan = none)
    ∧ (stepBlocked s.dev k.val = false)) := by
  iterate 4 refine And.intro (by decide +kernel) ?_
  decide +kernel

/-- Each premise set of `PlatenStates` is met. -/
theorem test_witness_PlatenStates :
    (let s : State := State.reset; (s.dev.px.st = 0)) ∧
    (let s : State := poke [fun d => { d with px := { d.px with st := 3 } }, fun d => { d with px := { d.px with rec? := (some { bytes := [], crc := 7, mirt := 5, loopOn := 2, zs2 := false, tfilt := 0, pfilt := 0, disct := 20, htint := 0, lktpw := 0, lktint := 1, htdur := 10, htmov := 5, htiq := 100, tlswap := false, leaf := [{ use := true, carB := false, openSeq := true, lkSi := 0, clSi := 8 }, { use := true, carB := true, openSeq := false, lkSi := 1, clSi := 9 }, { use := false, carB := false, openSeq := false, lkSi := 2, clSi := 10 }, { use := true, carB := true, openSeq := false, lkSi := 3, clSi := 11 }, { use := true, carB := false, openSeq := true, lkSi := 4, clSi := 12 }, { use := false, carB := true, openSeq := false, lkSi := 5, clSi := 13 }, { use := true, carB := false, openSeq := false, lkSi := 6, clSi := 14 }, { use := true, carB := true, openSeq := false, lkSi := 7, clSi := 15 }], step := [{ use := false, carB := false, rSi := 0 }, { use := false, carB := false, rSi := 0 }, { use := false, carB := false, rSi := 0 }, { use := false, carB := false, rSi := 0 }], tp := [some 0, some 1, some 2, some 3, some 0, some 1, some 2, some 3, some 4, some 5, some 6, some 7, some 4, some 5, some 6, some 7] }) } }]; (s.dev.px.st ≠ 0)
    ∧ (s.dev.px.rec?.isSome = true)) ∧
    (let s : State := poke [fun d => { d with sx := { d.sx with p := { d.sx.p with typ := 5 } } }, fun d => { d with sx := { d.sx with sent := true } }, fun d => { d with px := { d.px with st := 1 } }]; (s.dev.px.st ≠ 0)
    ∧ (s.dev.boot.up = true) ∧ (s.dev.sx.sent = true) ∧ (s.dev.sx.p.typ = 5)
    ∧ (s.dev.py.pSeq = none ∨ s.dev.py.pSeq = some ((s.dev.sx.p.seq + 15) % 16)) ∧ (s.dev.sx.p.seq < 16)) ∧
    (let s : State := State.reset; (s.dev.sx.p.typ ≠ 5)) := by
  iterate 3 refine And.intro (by decide +kernel) ?_
  decide +kernel

/-- Each premise set of `CrossChannelFrames` is met. -/
theorem test_witness_CrossChannelFrames :
    (let s : State := poke [fun d => { d with px := { d.px with st := 1 } }]; let idx : Fin 8 := 0; (s.dev.alive = true) ∧ (s.dev.platenTakes = true)
    ∧ (s.dev.px.st = 1) ∧ ((s.dev.px.buf.filter fun e => e.1 != idx.val).length < 7)) ∧
    (let s : State := poke [fun d => { d with px := { d.px with st := 2 } }]; (s.dev.alive = true) ∧ (s.dev.platenTakes = true) ∧ (s.dev.px.st = 2)) ∧
    (let s : State := poke [fun d => { d with sx := { d.sx with sent := true } }, fun d => { d with px := { d.px with st := 3 } }]; (s.dev.px.st ≠ 0)
    ∧ (s.dev.sx.sent = true) ∧ (s.dev.sx.p.typ = 0) ∧ (s.dev.py.pSeq = none)) := by
  iterate 2 refine And.intro (by decide +kernel) ?_
  decide +kernel

/-- Each premise set of `PlatenInputs` is met. -/
theorem test_witness_PlatenInputs :
    (let s : State := poke [fun d => { d with px := { d.px with st := 2 } }]; (s.dev.px.st ≠ 0) ∧ (s.dev.px.st ≠ 3)) ∧
    (let s : State := poke [fun d => { d with px := { d.px with st := 3 } }]; let n : LeafNo := 0; let code : BitVec 3 := 0x1#3; (s.dev.px.st ≠ 0)
    ∧ (s.dev.py.code.length = 8) ∧ (s.dev.py.hallAt.length = 8) ∧ (code.toNat ≠ 0) ∧ (code.toNat ≠ 7) ∧ (code.toNat ≠ nth s.dev.py.code n.val 0)) ∧
    (let s : State := poke [fun d => { d with px := { d.px with st := 3 } }, fun d => { d with px := { d.px with rec? := (some { bytes := [], crc := 7, mirt := 5, loopOn := 2, zs2 := false, tfilt := 0, pfilt := 0, disct := 20, htint := 0, lktpw := 0, lktint := 1, htdur := 10, htmov := 5, htiq := 100, tlswap := false, leaf := [{ use := true, carB := false, openSeq := true, lkSi := 0, clSi := 8 }, { use := true, carB := true, openSeq := false, lkSi := 1, clSi := 9 }, { use := false, carB := false, openSeq := false, lkSi := 2, clSi := 10 }, { use := true, carB := true, openSeq := false, lkSi := 3, clSi := 11 }, { use := true, carB := false, openSeq := true, lkSi := 4, clSi := 12 }, { use := false, carB := true, openSeq := false, lkSi := 5, clSi := 13 }, { use := true, carB := false, openSeq := false, lkSi := 6, clSi := 14 }, { use := true, carB := true, openSeq := false, lkSi := 7, clSi := 15 }], step := [{ use := false, carB := false, rSi := 0 }, { use := false, carB := false, rSi := 0 }, { use := false, carB := false, rSi := 0 }, { use := false, carB := false, rSi := 0 }], tp := [some 0, some 1, some 2, some 3, some 0, some 1, some 2, some 3, some 4, some 5, some 6, some 7, some 4, some 5, some 6, some 7] }) } }, fun d => { d with py := { d.py with gcnt := ([3, 3, 3, 3, 3, 3, 3, 3]) } }, fun d => { d with py := { d.py with code := ([3, 3, 3, 3, 3, 3, 3, 3]) } }];
    let n : LeafNo := 0; let code : BitVec 3 := 0x1#3; (s.dev.px.st ≠ 0) ∧ (∃ r ∈ s.dev.px.rec?, (s.dev.px.st = 3) ∧ (leafUsed s.dev r n.val = true)
    ∧ (3 ≤ nth s.dev.py.gcnt n.val 0) ∧ (0 < guardStep (nth r.leaf n.val {}).openSeq (nth s.dev.py.code n.val 0) code.toNat)
    ∧ (code.toNat ≠ nth s.dev.py.code n.val 0) ∧ (bit s.dev.px.dec (if (nth r.leaf n.val {}).carB != s.dev.py.ori then 0 else 1) = false))) := by
  iterate 2 refine And.intro (by decide +kernel) ?_
  decide +kernel

/-- Each premise set of `ProcessorLink` is met. -/
theorem test_witness_ProcessorLink :
    (let s : State := poke [fun d => { d with py := { d.py with q := (some { seq := 9, st := 2, si := 0, tli := 0, mir := 0, coil := 0, coilOk := 0, dec := 0, lken := 0, bdis := 0, guard := 0, lst := 0, ori := false, oriRef := false, diag := 0, crc := 0, mirF := 0, coilF := 0 }) } }]; (s.dev.alive = true)
    ∧ (∃ f ∈ s.dev.py.q, ((s.dev.sx.qSeq = none ∨ s.dev.sx.qSeq = some ((f.seq + 15) % 16))) ∧ (f.seq < 16))) ∧
    (let s : State := poke [fun d => { d with py := { d.py with q := (some { seq := 9, st := 2, si := 0, tli := 0, mir := 0, coil := 0, coilOk := 0, dec := 0, lken := 0, bdis := 0, guard := 0, lst := 0, ori := false, oriRef := false, diag := 0, crc := 0, mirF := 0, coilF := 0 }) } }]; (s.dev.alive = true)
    ∧ (s.dev.py.q.isSome = true)) ∧
    (let s : State := poke [fun d => { d with tim := { d.tim with mot := 5000329035 } }, fun d => { d with sy := { d.sy with armed := true } }]; (s.dev.alive = true)
    ∧ (s.dev.sy.armed = true) ∧ (s.dev.sy.xlink = false) ∧ (s.dev.sy.qAt + msMot 1 ≤ s.dev.tim.mot) ∧ (s.dev.queueRoom = true)) ∧
    (let s : State := poke [fun d => { d with sy := { d.sy with oriN := 5 } }]; (s.dev.alive = true) ∧ (4 < s.dev.sy.oriN)
    ∧ (s.dev.sy.oriMis = false)) ∧
    (let s : State := poke [fun d => { d with tim := { d.tim with mot := 5000329035 } }, fun d => { d with sy := { d.sy with xd := ([none, some 5, none, none]) } }]; (s.dev.alive = true)
    ∧ ((s.dev.sy.xd.any fun t => lasted s.dev t (msMot 40)) = true) ∧ (s.dev.queueRoom = true)) ∧
    (let s : State := poke [fun d => { d with tim := { d.tim with mot := 5000329035 } }, fun d => { d with sy := { d.sy with cfg8 := (some 5) } }]; (s.dev.alive = true)
    ∧ (lasted s.dev s.dev.sy.cfg8 (msMot 2) = true) ∧ (echoOk s.dev = false) ∧ (s.dev.queueRoom = true)) := by
  iterate 5 refine And.intro (by decide +kernel) ?_
  decide +kernel

/-- Each premise set of `LoopsAndRelays` is met. -/
theorem test_witness_LoopsAndRelays :
    (let s : State := poke [fun d => { d with tim := { d.tim with mot := 2000000253834 } }, fun d => { d with sx := { d.sx with run := true } }, fun d => { d with sx := { d.sx with rec? := (some { bytes := [], crc := 7, mirt := 5, loopOn := 2, zs2 := false, tfilt := 0, pfilt := 0, disct := 20, htint := 0, lktpw := 0, lktint := 1, htdur := 10, htmov := 5, htiq := 100, tlswap := false, leaf := [{ use := false, carB := false, openSeq := true, lkSi := 0, clSi := 8 }, { use := false, carB := true, openSeq := false, lkSi := 1, clSi := 9 }, { use := false, carB := false, openSeq := false, lkSi := 2, clSi := 10 }, { use := false, carB := true, openSeq := false, lkSi := 3, clSi := 11 }, { use := false, carB := false, openSeq := true, lkSi := 4, clSi := 12 }, { use := false, carB := true, openSeq := false, lkSi := 5, clSi := 13 }, { use := false, carB := false, openSeq := false, lkSi := 6, clSi := 14 }, { use := false, carB := true, openSeq := false, lkSi := 7, clSi := 15 }], step := [{ use := false, carB := false, rSi := 0 }, { use := false, carB := false, rSi := 0 }, { use := false, carB := false, rSi := 0 }, { use := false, carB := false, rSi := 0 }], tp := [some 0, some 1, some 2, some 3, some 0, some 1, some 2, some 3, some 4, some 5, some 6, some 7, some 4, some 5, some 6, some 7] }) } }, fun d => { d with sx := { d.sx with dec := 13 } }, fun d => { d with sy := { d.sy with condR := (some 90000000000) } }];
    let left : Bool := false; (s.dev.alive = true) ∧ (procLoopOk s.dev left = true)
    ∧ (lasted s.dev (if left then s.dev.sy.condL else s.dev.sy.condR) (msMot (s.dev.sx.rec?.getD {}).loopOn) = true)) ∧
    (let s : State := poke [fun d => { d with px := { d.px with st := 3 } }, fun d => { d with px := { d.px with rec? := (some { bytes := [], crc := 7, mirt := 5, loopOn := 2, zs2 := false, tfilt := 0, pfilt := 0, disct := 20, htint := 0, lktpw := 0, lktint := 1, htdur := 10, htmov := 5, htiq := 100, tlswap := false, leaf := [{ use := false, carB := false, openSeq := true, lkSi := 0, clSi := 8 }, { use := false, carB := true, openSeq := false, lkSi := 1, clSi := 9 }, { use := false, carB := false, openSeq := false, lkSi := 2, clSi := 10 }, { use := false, carB := true, openSeq := false, lkSi := 3, clSi := 11 }, { use := false, carB := false, openSeq := true, lkSi := 4, clSi := 12 }, { use := false, carB := true, openSeq := false, lkSi := 5, clSi := 13 }, { use := false, carB := false, openSeq := false, lkSi := 6, clSi := 14 }, { use := false, carB := true, openSeq := false, lkSi := 7, clSi := 15 }], step := [{ use := false, carB := false, rSi := 0 }, { use := false, carB := false, rSi := 0 }, { use := false, carB := false, rSi := 0 }, { use := false, carB := false, rSi := 0 }], tp := [some 0, some 1, some 2, some 3, some 0, some 1, some 2, some 3, some 4, some 5, some 6, some 7, some 4, some 5, some 6, some 7] }) } }, fun d => { d with px := { d.px with dec := 8 } }];
    let left : Bool := true; (s.dev.alive = true) ∧ (pltLoopOk s.dev left = true) ∧ (s.dev.px.dec < 16)) ∧
    (let s : State := poke [fun d => { d with tim := { d.tim with mot := 5000216329 } }, fun d => { d with sx := { d.sx with rec? := (some { bytes := [], crc := 7, mirt := 5, loopOn := 2, zs2 := false, tfilt := 0, pfilt := 0, disct := 20, htint := 0, lktpw := 0, lktint := 1, htdur := 10, htmov := 5, htiq := 100, tlswap := false, leaf := [{ use := false, carB := false, openSeq := true, lkSi := 0, clSi := 8 }, { use := false, carB := true, openSeq := false, lkSi := 1, clSi := 9 }, { use := false, carB := false, openSeq := false, lkSi := 2, clSi := 10 }, { use := false, carB := true, openSeq := false, lkSi := 3, clSi := 11 }, { use := false, carB := false, openSeq := true, lkSi := 4, clSi := 12 }, { use := false, carB := true, openSeq := false, lkSi := 5, clSi := 13 }, { use := false, carB := false, openSeq := false, lkSi := 6, clSi := 14 }, { use := false, carB := true, openSeq := false, lkSi := 7, clSi := 15 }], step := [{ use := false, carB := false, rSi := 0 }, { use := false, carB := false, rSi := 0 }, { use := false, carB := false, rSi := 0 }, { use := false, carB := false, rSi := 0 }], tp := [some 0, some 1, some 2, some 3, some 0, some 1, some 2, some 3, some 4, some 5, some 6, some 7, some 4, some 5, some 6, some 7] }) } }, fun d => { d with sx := { d.sx with mir := 5 } }, fun d => { d with sx := { d.sx with coil := 2 } }];
    let left : Bool := true; (s.dev.alive = true) ∧ (s.dev.sx.rec?.isSome = true)
    ∧ ((if left then s.dev.sy.coilAtL else s.dev.sy.coilAtR) + msMot (s.dev.sx.rec?.getD {}).mirt ≤ s.dev.tim.mot)
    ∧ (bit s.dev.sx.mir (if left then 0 else 2) = bit s.dev.sx.coil (coilBit left)) ∧ (bit s.dev.sx.mirF (if left then 0 else 2) = false)) ∧
    (let s : State := poke [fun d => { d with tim := { d.tim with mot := 5000329035 } }]; let left : Bool := true; (s.dev.alive = true)
    ∧ (bit s.dev.sx.coil (coilBit left) = false) ∧ (bit s.dev.sx.coilF (if left then 0 else 2) = false)
    ∧ ((if left then s.dev.sy.coilAtL else s.dev.sy.coilAtR) + msMot 2 ≤ s.dev.tim.mot)) ∧
    (let s : State := poke [fun d => { d with tim := { d.tim with mot := 5000329035 } }, fun d => { d with sy := { d.sy with ds := ((List.replicate 24 (some 5))) } }];
    let i : Fin 16 := 0; (s.dev.alive = true) ∧ (lasted s.dev (nth s.dev.sy.ds i.val none) (msMot (s.dev.sx.rec?.getD {}).disct) = true)
    ∧ (bit s.dev.sx.latch i.val = false)) ∧
    (let s : State := poke [fun d => { d with tim := { d.tim with mot := 2000000502712 } }, fun d => { d with sx := { d.sx with rec? := (some { bytes := [], crc := 7, mirt := 5, loopOn := 2, zs2 := false, tfilt := 0, pfilt := 0, disct := 20, htint := 0, lktpw := 0, lktint := 1, htdur := 10, htmov := 5, htiq := 100, tlswap := false, leaf := [{ use := true, carB := false, openSeq := true, lkSi := 0, clSi := 8 }, { use := true, carB := true, openSeq := false, lkSi := 1, clSi := 9 }, { use := false, carB := false, openSeq := false, lkSi := 2, clSi := 10 }, { use := true, carB := true, openSeq := false, lkSi := 3, clSi := 11 }, { use := true, carB := false, openSeq := true, lkSi := 4, clSi := 12 }, { use := false, carB := true, openSeq := false, lkSi := 5, clSi := 13 }, { use := true, carB := false, openSeq := false, lkSi := 6, clSi := 14 }, { use := true, carB := true, openSeq := false, lkSi := 7, clSi := 15 }], step := [{ use := false, carB := false, rSi := 0 }, { use := false, carB := false, rSi := 0 }, { use := false, carB := false, rSi := 0 }, { use := false, carB := false, rSi := 0 }], tp := [some 0, some 1, some 2, some 3, some 0, some 1, some 2, some 3, some 4, some 5, some 6, some 7, some 4, some 5, some 6, some 7] }) } }, fun d => { d with sx := { d.sx with tp := modNth (fun yi0 => { yi0 with noFall := 2 }) d.sx.tp 6 } }, fun d => { d with die := vmod d.die 0 fun yi0 => { yi0 with deb := 670677437 } }];
    let i : Fin 16 := 6; (s.dev.alive = true) ∧ (∃ r ∈ s.dev.sx.rec?, (∃ o : Fin 8, (nth r.tp i.val none = some o.val) ∧ (o.val / 4 = i.val / 8)
    ∧ (s.dev.sx.tp.length = 16) ∧ (darkDue o.val s.dev = true) ∧ (bit (s.dev.di (i.val / 8)).deb (16 + i.val % 8) = true)
    ∧ (1 ≤ (nth s.dev.sx.tp i.val {}).noFall)))) := by
  iterate 5 refine And.intro (by decide +kernel) ?_
  decide +kernel

/-- Each premise set of `LockHoldingSeal` is met. -/
theorem test_witness_LockHoldingSeal :
    (let s : State := poke [fun d => { d with tim := { d.tim with mot := 2000000615418 } }, fun d => { d with sx := { d.sx with run := true } }, fun d => { d with sy := { d.sy with hold := modNth (fun yi0 => { yi0 with bothAt := (some 5) }) d.sy.hold 0 } }];
    let n : LeafNo := 0; (s.dev.alive = true) ∧ (s.dev.sy.hold.length = 8) ∧ (safeLive s.dev = true) ∧ (s.dev.part.hasLeaf n.val = true)
    ∧ ((nth s.dev.sy.hold n.val {}).hsTest = false) ∧ ((nth s.dev.sy.hold n.val {}).lsTest = false)
    ∧ (lasted s.dev (nth s.dev.sy.hold n.val {}).bothAt (msMot 100) = true) ∧ (lockTurn s.dev n.val (s.dev.sx.rec?.getD {}).lktint = true)
    ∧ ((nth s.dev.sy.hold n.val {}).hsAt = 0) ∧ ((nth s.dev.sy.hold n.val {}).lsAt = 0)) ∧
    (let s : State := poke [fun d => { d with sy := { d.sy with hold := modNth (fun yi0 => { yi0 with hsTest := true }) d.sy.hold 0 } }];
    let n : LeafNo := 0; let ma : W16 := 0x01f4#16; (s.dev.alive = true) ∧ (s.dev.sy.hold.length = 8) ∧ ((nth s.dev.sy.hold n.val {}).hsTest = true)
    ∧ ((nth s.dev.sy.hold n.val {}).hsAt + 2500 * (s.dev.sx.rec?.getD {}).lktpw ≤ s.dev.tim.mot) ∧ (50 ≤ ma.toNat)) ∧
    (let s : State := poke [fun d => { d with sy := { d.sy with hold := modNth (fun yi0 => { yi0 with hsTest := true }) d.sy.hold 0 } }];
    let n : LeafNo := 0; let ma : W16 := 0x0000#16; (s.dev.alive = true) ∧ (s.dev.sy.hold.length = 8) ∧ ((nth s.dev.sy.hold n.val {}).hsTest = true)
    ∧ ((nth s.dev.sy.hold n.val {}).hsAt + 2500 * (s.dev.sx.rec?.getD {}).lktpw ≤ s.dev.tim.mot) ∧ (ma.toNat < 50)) ∧
    (let s : State := poke [fun d => { d with leaf := vmod d.leaf 7 fun yi0 => { yi0 with seq := { yi0.seq with st := (LeafState.closedLocked) } } }, fun d => { d with sx := { d.sx with run := true } }, fun d => { d with sy := { d.sy with hold := modNth (fun yi0 => { yi0 with req := true }) d.sy.hold 7 } }, cell 753824 2];
    let n : LeafNo := 7; (s.dev.alive = true) ∧ (s.dev.sy.hold.length = 8) ∧ (safeLive s.dev = true) ∧ (s.dev.part.hasLeaf n.val = true)
    ∧ ((nth s.dev.sy.hold n.val {}).req = true) ∧ (ligFormed s.dev n.val = false) ∧ (holdOk s.dev n.val = true)
    ∧ ((nth s.dev.sy.hold n.val {}).on = false) ∧ (leafOut s.dev n.val = false)) ∧
    (let s : State := poke [fun d => { d with sy := { d.sy with hold := modNth (fun yi0 => { yi0 with on := true }) d.sy.hold 0 } }];
    let n : LeafNo := 0; (s.dev.alive = true) ∧ (s.dev.sy.hold.length = 8) ∧ ((nth s.dev.sy.hold n.val {}).on = true)
    ∧ ((nth s.dev.sy.hold n.val {}).t0 + msMot (10 * (s.dev.sx.rec?.getD {}).htdur) ≤ s.dev.tim.mot)) ∧
    (let s : State := poke [cell 295456 5, cell 295504 1]; let word : W16 := 0x0000#16; (s.dev.alive = true) ∧ (s.dev.sy.hold.length = 8)
    ∧ (s.dev.on pgSEAL SEAL.PROFILE.VALID = true) ∧ (word.toNat ≠ s.dev.get pgSEAL SEAL.BOOT.BOOT)) := by
  iterate 5 refine And.intro (by decide +kernel) ?_
  decide +kernel

/-- Each premise set of `SafeControlRequests` is met. -/
theorem test_witness_SafeControlRequests :
    (let s : State := State.reset; (s.dev.runtimeActs = true) ∧ (s.dev.sy.hold.length = 8)) :=
  by decide +kernel

/-- Each premise set of `VotedTransactions` is met. -/
theorem test_witness_VotedTransactions :
    (let s : State := poke [fun d => { d with imd := { d.imd with halted := true } }]; (s.dev.alive = true) ∧ (s.dev.imd.held = false)
    ∧ (s.dev.imd.halted = true)) ∧
    (let s : State := State.reset; let k : Fin 3 := 0; (s.dev.alive = true) ∧ (s.dev.imd.held = false) ∧ (s.dev.imd.halted = false)
    ∧ (runLanes s.dev = [0, 1, 2]) ∧ (laneCnt s.dev k.val = 0)) ∧
    (let s : State := State.reset; (s.dev.alive = true) ∧ (s.dev.imd.held = false) ∧ (s.dev.imd.halted = false) ∧ (runLanes s.dev = [0, 1, 2])
    ∧ (s.dev.flt.halt = false)) ∧
    (let s : State := poke [fun d => { d with imd := { d.imd with lane := (⟨#[LaneState.run, LaneState.run, LaneState.out], rfl⟩) } }]; (s.dev.alive = true)
    ∧ (s.dev.imd.held = false) ∧ (s.dev.imd.halted = false) ∧ (s.dev.flt.halt = false) ∧ (runLanes s.dev = [0, 1])) := by
  iterate 3 refine And.intro (by decide +kernel) ?_
  decide +kernel

/-- Each premise set of `ResyncAndProof` is met. -/
theorem test_witness_ResyncAndProof :
    (let s : State := poke [fun d => { d with imd := { d.imd with lane := (⟨#[LaneState.resync, LaneState.run, LaneState.run], rfl⟩) } }];
    let k : Fin 3 := 0; (s.dev.alive = true) ∧ (resyncLane s.dev = some k.val) ∧ (s.dev.imd.crcRetry = false)) ∧
    (let s : State := poke [fun d => { d with imd := { d.imd with lane := (⟨#[LaneState.resync, LaneState.run, LaneState.run], rfl⟩) } }, fun d => { d with imd := { d.imd with crcRetry := true } }];
    let k : Fin 3 := 0; (s.dev.alive = true) ∧ (resyncLane s.dev = some k.val) ∧ (s.dev.imd.crcRetry = true)) ∧
    (let s : State := poke [fun d => { d with tim := { d.tim with mot := 2000000253834 } }, fun d => { d with imd := { d.imd with started := true } }]; (s.dev.alive = true)
    ∧ (s.dev.imd.started = true) ∧ (s.dev.imd.startAt + (s.dev.imd.dues + 1) * proofPeriod ≤ s.dev.tim.mot)
    ∧ (s.dev.on pgIMD IMD.PROOF_CFG.PROOFEN = true) ∧ (s.dev.imd.waiting = 0)) ∧
    (let s : State := poke [fun d => { d with imd := { d.imd with waiting := 1 } }, fun d => { d with tim := { d.tim with cycleDue := true } }];
    let k : Fin 3 := 0; (s.dev.alive = true) ∧ (s.dev.tim.cycleDue = true) ∧ (s.dev.imd.late = false) ∧ (0 < s.dev.imd.waiting)
    ∧ (proofLanes s.dev = true) ∧ (s.dev.get pgIMD IMD.PROOF_STAT.NEXT = k.val) ∧ (proofQuiet s.dev = true)) ∧
    (let s : State := poke [fun d => { d with tim := { d.tim with mot := 2000000080157 } }, fun d => { d with tim := { d.tim with cycleDue := true } }, fun d => { d with leaf := vmod d.leaf 7 fun yi0 => { yi0 with drv := { yi0.drv with mode := 3 } } }, fun d => { d with imd := { d.imd with waiting := 3 } }, cell 99108 2];
    let k : Fin 3 := 2; (s.dev.alive = true) ∧ (s.dev.tim.cycleDue = true) ∧ (s.dev.imd.late = false) ∧ (0 < s.dev.imd.waiting)
    ∧ (proofLanes s.dev = true) ∧ (s.dev.get pgIMD IMD.PROOF_STAT.NEXT = k.val) ∧ (proofQuiet s.dev = false)
    ∧ (s.dev.imd.dueAt + msMot (60000 * s.dev.get pgIMD IMD.PROOF_CFG.DEFMAX) ≤ s.dev.tim.mot)) ∧
    (let s : State := poke [fun d => { d with imd := { d.imd with lane := (⟨#[LaneState.proof, LaneState.run, LaneState.run], rfl⟩) } }];
    let k : Fin 3 := 0; (s.dev.alive = true) ∧ (((List.range 3).find? fun i => laneSt s.dev i == .proof) = some k.val)) := by
  iterate 5 refine And.intro (by decide +kernel) ?_
  decide +kernel

/-- Each premise set of `ServicePair` is met. -/
theorem test_witness_ServicePair :
    (let s : State := State.reset; let p0 : LanePres := { kind := PresKind.write, addr := 0x20000000#32, be := 0xf#4, data := 0x00000004#32 };
    let p1 : LanePres := { kind := PresKind.read, addr := 0x40010040#32, be := 0xf#4, data := 0x00000000#32 }; (s.dev.alive = true)
    ∧ (splitMode s.dev = false) ∧ (s.dev.svc.up0 = true) ∧ (p0 ≠ p1)) ∧
    (let s : State := poke [cell 131648 0]; (s.dev.alive = true) ∧ (splitMode s.dev = false) ∧ (s.dev.svc.up0 = true)
    ∧ (s.dev.on pgSVC SVC.SVC_WDOG.EN0 = true) ∧ (s.dev.svc.halted = false)
    ∧ (s.dev.svc.kick0 + msMot (s.dev.get pgSVC SVC.SVC_WDOG.TIMEOUT) ≤ s.dev.tim.mot)) ∧
    (let s : State := poke [fun d => { d with svc := { d.svc with up0 := false } }]; (s.dev.alive = true) ∧ (s.dev.svc.up0 = false)
    ∧ (s.dev.imd.held = false)) ∧
    (let s : State := State.reset; (s.dev.alive = true) ∧ (s.dev.svc.up0 = true) ∧ (s.dev.svc.halted = false) ∧ (s.dev.boot.hold = false)
    ∧ (s.dev.otp.lc ≠ 3)) ∧
    (let s : State := poke [fun d => { d with part := { d.part with variant := 3 } }]; (s.dev.alive = true) ∧ (s.dev.hostActs = true)
    ∧ (s.dev.part.hasNet = false)) ∧
    (let s : State := State.reset; (s.dev.alive = true) ∧ (s.dev.hostActs = true) ∧ (s.dev.part.hasNet = true)) := by
  iterate 5 refine And.intro (by decide +kernel) ?_
  decide +kernel

/-- Each premise set of `DebugAndReplay` is met. -/
theorem test_witness_DebugAndReplay :
    (let s : State := State.reset; (s.dev.alive = true) ∧ (openLife s.dev = true) ∧ (s.dev.imd.halted = false) ∧ (proofRuns s.dev = false)) ∧
    (let s : State := poke [fun d => { d with imd := { d.imd with afterProof := true } }]; (s.dev.alive = true) ∧ (openLife s.dev = true)
    ∧ (s.dev.imd.halted = false) ∧ (proofRuns s.dev = true)) ∧
    (let s : State := State.reset; (s.dev.alive = true) ∧ (openLife s.dev = true) ∧ (s.dev.svc.halted = false) ∧ (s.dev.svc.up0 = true)) ∧
    (let s : State := poke [fun d => { d with imd := { d.imd with halted := true } }]; (s.dev.alive = true) ∧ (s.dev.imd.halted = true)
    ∧ (s.dev.imd.replay.length < 256)) ∧
    (let s : State := poke [fun d => { d with imd := { d.imd with halted := true } }, fun d => { d with imd := { d.imd with replay := ((List.replicate 256 { at_ := 0, kind := 0, idx := 3, val := 7 })) } }]; (s.dev.alive = true)
    ∧ (s.dev.imd.halted = true) ∧ (256 ≤ s.dev.imd.replay.length)) ∧
    (let s : State := State.reset; (s.dev.alive = true) ∧ (s.dev.imd.halted = false)) := by
  iterate 5 refine And.intro (by decide +kernel) ?_
  decide +kernel

/-- Each premise set of `FaultManager` is met. -/
theorem test_witness_FaultManager :
    (let s : State := State.reset; (s.dev.alive = true) ∧ (s.dev.queueRoom = true)) ∧
    (let s : State := State.reset; (s.dev.alive = true) ∧ (s.dev.flt.halt = false)) ∧
    (let s : State := State.reset; let pg : BitVec 8 := 0x04#8; (s.dev.alive = true)
    ∧ (pg.toNat ∈ [pgSAFE, pgPLT, pgSVC, pgIMPO, pgCAN 0, pgCAN 1, pgCAN 2])) ∧
    (let s : State := poke [fun d => { d with flt := { d.flt with head := some { val := 5, dt := 0 } } }]; let v : W32 := 5; (s.dev.alive = true)
    ∧ (s.dev.hostActs = true) ∧ (∃ h ∈ s.dev.flt.head, (h.val = v.toNat))) ∧
    (let s : State := State.reset; let v : W32 := 0x00000000#32; (s.dev.alive = true) ∧ (s.dev.hostActs = true)
    ∧ ((∀ h ∈ s.dev.flt.head, h.val ≠ v.toNat))) := by
  iterate 4 refine And.intro (by decide +kernel) ?_
  decide +kernel

/-- Each premise set of `CoreResets` is met. -/
theorem test_witness_CoreResets :
    (let s : State := poke [fun d => { d with tim := { d.tim with cycleDue := true } }, fun d => { d with boot := { d.boot with rstPend := true } }, fun d => { d with tim := { d.tim with grid := true } }, fun d => { d with sx := { d.sx with tli := 1 } }, fun d => { d with sx := { d.sx with q := some { tli := 1 } } }, Dev.put (pgSTEP 0) STEP.STP_STAT.RETR 1, Dev.put (pgSTEP 1) STEP.STP_STAT.RETR 1, Dev.put (pgSTEP 2) STEP.STP_STAT.RETR 1, Dev.put (pgSTEP 3) STEP.STP_STAT.RETR 1]; (s.dev.alive = true)
    ∧ (s.dev.tim.cycleDue = true) ∧ (s.dev.boot.rstPend = true) ∧ (s.dev.tim.grid = true) ∧ (quiet s.dev = true)) ∧
    (let s : State := State.reset; (s.dev.boot.rstPend = false)) ∧
    (let s : State := poke [fun d => { d with tim := { d.tim with mot := 5000901801 } }, fun d => { d with flt := { d.flt with halt := true } }]; (s.dev.autoDue = true)
    ∧ ((s.dev.within s.dev.keep.autos).length < 3) ∧ (noAutoReset s.dev.flt.haltCause = false)) ∧
    (let s : State := poke [fun d => { d with keep := { d.keep with autos := ([5, 6, 7]) } }, fun d => { d with tim := { d.tim with mot := 5000075478 } }, fun d => { d with flt := { d.flt with halt := true } }]; (s.dev.autoDue = true)
    ∧ (3 ≤ (s.dev.within s.dev.keep.autos).length ∨ noAutoReset s.dev.flt.haltCause = true)) ∧
    (let s : State := State.reset; (s.dev.autoDue = false)) ∧
    (let s : State := poke [fun d => { d with tim := { d.tim with mot := 5000929947 } }, fun d => { d with boot := { d.boot with phase := 12 } }]; (s.dev.bootLate = true)
    ∧ ((s.dev.within s.dev.keep.sups).length < 3)) ∧
    (let s : State := poke [fun d => { d with keep := { d.keep with sups := ([5, 6, 7]) } }, fun d => { d with tim := { d.tim with mot := 5000488604 } }, fun d => { d with boot := { d.boot with phase := 12 } }]; (s.dev.bootLate = true)
    ∧ (3 ≤ (s.dev.within s.dev.keep.sups).length) ∧ (s.dev.flt.halt = false)) ∧
    (let s : State := State.reset; (s.dev.bootLate = false)) := by
  iterate 7 refine And.intro (by decide +kernel) ?_
  decide +kernel

/-- Each premise set of `SuppliesAndClocks` is met. -/
theorem test_witness_SuppliesAndClocks :
    (let s : State := State.reset; (s.dev.part.hasNet = true)) ∧
    (let s : State := poke [fun d => { d with part := { d.part with variant := 3 } }]; (s.dev.part.hasNet = false)) ∧
    (let s : State := State.reset; (s.dev.alive = true) ∧ (s.dev.flt.halt = false)) ∧
    (let s : State := State.reset; let khz : W16 := 14400; (s.dev.alive = true) ∧ (14400 ≤ khz.toNat) ∧ (khz.toNat ≤ 17600)) ∧
    (let s : State := State.reset; let khz : W16 := 0x0000#16; (s.dev.alive = true) ∧ (khz.toNat < 14400 ∨ 17600 < khz.toNat)
    ∧ (s.dev.flt.halt = false)) := by
  iterate 4 refine And.intro (by decide +kernel) ?_
  decide +kernel

/-- Each premise set of `Scrubbing` is met. -/
theorem test_witness_Scrubbing :
    (let s : State := State.reset; (s.dev.alive = true) ∧ (s.clean) ∧ (s.dev.tim.eccHist = [])) ∧
    (let s : State := State.reset; (s.dev.alive = true) ∧ (s.clean) ∧ (s.dev.flt.halt = false)) ∧
    (let s : State := State.reset; (s.dev.alive = true) ∧ (s.clean) ∧ (s.dev.queueRoom = true)) ∧
    (let s : State := State.reset; let n : LeafNo := 0; (s.dev.alive = true) ∧ (s.clean) ∧ (s.dev.part.hasLeaf n.val = true)) ∧
    (let s : State := State.reset; let k : Fin 3 := 0; (s.dev.alive = true) ∧ (s.clean) ∧ (runLanes s.dev = [0, 1, 2]) ∧ (laneCnt s.dev k.val = 0)
    ∧ (s.dev.queueRoom = true)) ∧
    (let s : State := State.reset; (s.dev.alive = true) ∧ (s.clean) ∧ (splitMode s.dev = false) ∧ (s.dev.svc.up0 = true)) := by
  iterate 5 refine And.intro (by decide +kernel) ?_
  decide +kernel

/-- Each premise set of `TestAccessPort` is met. -/
theorem test_witness_TestAccessPort :
    (let s : State := poke [fun d => { d with tap := { d.tap with porst := true } }]; (s.dev.tap.porst = true) ∧ (s.dev.otp.lc ≤ 1)) ∧
    (let s : State := State.reset; (s.dev.tap.porst = false ∨ 1 < s.dev.otp.lc)) := by
  iterate 1 refine And.intro (by decide +kernel) ?_
  decide +kernel

/-- Each premise set of `StartUp` is met. -/
theorem test_witness_StartUp :
    (let s : State := poke [fun d => { d with boot := { d.boot with phase := 13 } }]; (s.dev.boot.phase ≠ 0)) ∧
    (let s : State := State.reset; let i : Fin 11 := 0;
    let f : ProofFlags := { va := 0x0#3, vb := 0x0#3, nomaj := 0x0#2, excl := 0x0#3, vchk := false, foldOdd := 0x0#3, pair := false }; (s.dev.boot.phase = 0)
    ∧ (s.dev.tim.bk = false) ∧ (s.dev.flt.halt = false) ∧ (f ≠ proofExpected i.val)) ∧
    (let s : State := poke [fun d => { d with otp := { d.otp with lc := 3 } }]; (s.dev.boot.phase = 0) ∧ (s.dev.tim.bk = false)
    ∧ (s.dev.flt.halt = false) ∧ (s.dev.otp.lc = 3)) ∧
    (let s : State := State.reset; let v : W16 := 0x0000#16; (s.dev.boot.phase = 0) ∧ (s.dev.tim.bk = false) ∧ (s.dev.flt.halt = false)
    ∧ (s.dev.otp.lc ≠ 3) ∧ (hdrBlank s = true) ∧ (v.toNat % 16 = 0) ∧ (v.toNat / 4096 = 0) ∧ (bit v.toNat 11 = false)) := by
  iterate 3 refine And.intro (by decide +kernel) ?_
  decide +kernel

/-- Each premise set of `Ready` is met. -/
theorem test_witness_Ready :
    (let s : State := poke [fun d => { d with boot := { d.boot with phase := 12 } }, fun d => { d with boot := { d.boot with ready := false } }, fun d => { d with forme := { d.forme with everOut := true } }]; (s.dev.alive = true)
    ∧ (s.dev.boot.phase = 12) ∧ (s.dev.boot.ready = false) ∧ (s.dev.boot.hold = false) ∧ (s.dev.flt.halt = false)
    ∧ ((s.dev.task .main).st = .ended ∨ s.dev.forme.everOut = true) ∧ ((∀ pg ∈ allPages, ¬ (s.dev.enabled pg = true ∧ s.dev.pgState pg = 1)))) :=
  by decide +kernel

/-- Each premise set of `MotionGrid` is met. -/
theorem test_witness_MotionGrid :
    (let s : State := poke [fun d => { d with tim := { d.tim with enabled := true } }]; (s.dev.alive = true) ∧ (s.dev.tim.grid = false)
    ∧ (s.dev.tim.enabled = true)) ∧
    (let s : State := poke [fun d => { d with tim := { d.tim with grid := true } }]; (s.dev.alive = true) ∧ (s.dev.tim.grid = true)
    ∧ (s.dev.tim.started = false)) ∧
    (let s : State := poke [fun d => { d with tim := { d.tim with grid := true } }, fun d => { d with tim := { d.tim with started := true } }]; (s.dev.alive = true)
    ∧ (s.dev.tim.grid = true) ∧ (s.dev.tim.started = true) ∧ (s.dev.tim.mot ≤ s.dev.tim.valley + 8000)) ∧
    (let s : State := State.reset; (s.dev.alive = true) ∧ (s.dev.tim.servoDue = false)) ∧
    (let s : State := poke [fun d => { d with tim := { d.tim with servoDue := true } }]; (s.dev.alive = true) ∧ (s.dev.tim.servoDue = true)
    ∧ (s.dev.tim.cycleDue = false)) ∧
    (let s : State := poke [fun d => { d with tim := { d.tim with servoDue := true } }, fun d => { d with tim := { d.tim with cycleDue := true } }]; (s.dev.alive = true)
    ∧ (s.dev.tim.servoDue = true) ∧ (s.dev.tim.cycleDue = true)) ∧
    (let s : State := State.reset; (s.dev.alive = true) ∧ (s.dev.tim.cycleDue = false)) ∧
    (let s : State := poke [fun d => { d with tim := { d.tim with cycleDue := true } }]; (s.dev.alive = true) ∧ (s.dev.tim.cycleDue = true)) := by
  iterate 7 refine And.intro (by decide +kernel) ?_
  decide +kernel

/-- Each premise set of `RegisterWrites` is met. -/
theorem test_witness_RegisterWrites :
    (let s : State := State.reset; let p : BitVec 8 := 0x0c#8; (s.dev.hostActs = true) ∧ (unitOf p.toNat = none)) ∧
    (let s : State := State.reset; let p : BitVec 8 := 0x00#8; (s.dev.hostActs = true) ∧ (∃ u ∈ unitOf p.toNat, (s.dev.part.has u = true))) ∧
    (let s : State := State.reset; let p : BitVec 8 := 0x03#8; (s.dev.hostActs = true) ∧ (∃ u ∈ unitOf p.toNat, (s.dev.part.has u = true)
    ∧ (u.safety = true))) ∧
    (let s : State := State.reset; let p : BitVec 8 := 0x06#8; (s.dev.hostActs = true) ∧ (∃ u ∈ unitOf p.toNat, (s.dev.part.has u = true)
    ∧ (u.plane = .data))) ∧
    (let s : State := State.reset; let p : BitVec 8 := 0x06#8; (s.dev.hostActs = true) ∧ (∃ u ∈ unitOf p.toNat, (s.dev.part.has u = true)
    ∧ (u.plane = .data) ∧ (s.dev.evCycle p.toNat = 0))) := by
  iterate 4 refine And.intro (by decide +kernel) ?_
  decide +kernel

/-- Each premise set of `RegisterReads` is met. -/
theorem test_witness_RegisterReads :
    (let s : State := State.reset; let p : BitVec 8 := 0x00#8; (s.dev.hostActs = true) ∧ (∃ u ∈ unitOf p.toNat, (s.dev.part.has u = true))) ∧
    (let s : State := State.reset; let p : BitVec 8 := 0x00#8; (s.dev.hostActs = true) ∧ (∃ u ∈ unitOf p.toNat, (s.dev.part.has u = true))) ∧
    (let s : State := State.reset; let p : BitVec 8 := 0x0c#8; (s.dev.hostActs = true) ∧ (unitOf p.toNat = none)) ∧
    (let s : State := State.reset; (s.dev.hostActs = true) ∧ (s.dev.tim.hiCap.length = 7)) := by
  iterate 3 refine And.intro (by decide +kernel) ?_
  decide +kernel

/-- Each premise set of `ShadowAndEvents` is met. -/
theorem test_witness_ShadowAndEvents :
    (let s : State := poke [cell 262274 1]; let p : BitVec 8 := 0x08#8; (s.dev.hostActs = true) ∧ (∃ u ∈ unitOf p.toNat, (s.dev.part.has u = true)
    ∧ (u.safety = false) ∧ (u.plane = .mgmt) ∧ (s.dev.on p.toNat HDR.TEST = true))) ∧
    (let s : State := State.reset; let p : BitVec 8 := 0x04#8; (s.dev.hostActs = true) ∧ (∃ u ∈ unitOf p.toNat, (s.dev.part.has u = true)
    ∧ (u.safety = false) ∧ (u.plane = .mgmt) ∧ (s.dev.on p.toNat HDR.TEST = false))) ∧
    (let s : State := State.reset; let p : BitVec 8 := 0x00#8; (s.dev.hostActs = true) ∧ (∃ u ∈ unitOf p.toNat, (s.dev.part.has u = true)
    ∧ (u.safety = false) ∧ (s.dev.on p.toNat HDR.PEND = false))) ∧
    (let s : State := poke [cell 386 1, cell 388 1]; let p : BitVec 8 := 0x00#8; let cp : BitVec 4 := 0x0#4; (s.dev.hostActs = true)
    ∧ (∃ u ∈ unitOf p.toNat, (s.dev.part.has u = true) ∧ (u.safety = false) ∧ (s.dev.on p.toNat HDR.PEND = true)
    ∧ (s.dev.get p.toNat HDR.CPSEL ≠ cp.toNat))) ∧
    (let s : State := State.reset; let p : BitVec 8 := 0x00#8; (s.dev.hostActs = true) ∧ (∃ u ∈ unitOf p.toNat, (s.dev.part.has u = true)
    ∧ (u.safety = false))) := by
  iterate 4 refine And.intro (by decide +kernel) ?_
  decide +kernel

/-- Each premise set of `MemoryAccess` is met. -/
theorem test_witness_MemoryAccess :
    (let s : State := poke [cell 131584 1]; (s.dev.runtimeActs = true) ∧ (splitMode s.dev = true) ∧ (s.dev.svc.up0 = true)
    ∧ (s.dev.svc.halted = false)) :=
  by decide +kernel

/-- Each premise set of `LeafRestCommits` is met. -/
theorem test_witness_LeafRestCommits :
    (let s : State := poke [cell 983426 1, cell 983428 1]; let n : LeafNo := 6; (s.dev.alive = true) ∧ (s.dev.part.hasLeaf n.val = true)
    ∧ (leafRest s.dev n.val = true) ∧ (s.dev.on (pgOBS n.val) HDR.PEND = true) ∧ (s.dev.get (pgOBS n.val) HDR.CPSEL = 1)
    ∧ (s.dev.on (pgLEAF n.val) HDR.PEND = false) ∧ (s.dev.on (pgPOS n.val) HDR.PEND = false)) ∧
    (let s : State := poke [fun d => { d with leaf := vmod d.leaf 0 fun yi0 => { yi0 with seq := { yi0.seq with st := (LeafState.opening) } } }];
    let n : LeafNo := 0; (s.dev.alive = true) ∧ (s.dev.part.hasLeaf n.val = true) ∧ (leafRest s.dev n.val = false)) ∧
    (let s : State := poke [fun d => { d with tim := { d.tim with servoDue := true } }, fun d => { d with boot := { d.boot with applying := true } }, fun d => { d with boot := { d.boot with defer := ([24]) } }];
    let n : LeafNo := 0; (s.dev.alive = true) ∧ (s.dev.part.hasLeaf n.val = true) ∧ (s.dev.tim.servoDue = true) ∧ (leafRest s.dev n.val = true)
    ∧ (s.dev.boot.defer = [pgOBS n.val]) ∧ (s.dev.boot.applying = true) ∧ (s.dev.boot.armed = false) ∧ (s.dev.on (pgOBS n.val) HDR.PEND = false)
    ∧ ((declared s.dev).isSome = false)) := by
  iterate 2 refine And.intro (by decide +kernel) ?_
  decide +kernel

/-- Each premise set of `ConfigurationRequests` is met. -/
theorem test_witness_ConfigurationRequests :
    (let s : State := poke [fun d => { d with boot := { d.boot with ready := true } }, cell 229888 1]; (s.dev.hostActs = true)
    ∧ (s.dev.boot.armed = false) ∧ (s.dev.boot.applying = false) ∧ (s.dev.get pgCFG CFG.IMP_NEXT.IMPNUM ≠ s.dev.get pgCFG CFG.IMPRESSION.IMPNUM)
    ∧ (declared s.dev = none) ∧ (s.dev.boot.ready = true)) ∧
    (let s : State := poke [cell 229920 1]; (s.dev.hostActs = true) ∧ (s.dev.boot.armed = false) ∧ (s.dev.boot.applying = false)
    ∧ (s.dev.get pgCFG CFG.IMP_NEXT.IMPNUM ≠ s.dev.get pgCFG CFG.IMPRESSION.IMPNUM) ∧ (declared s.dev = none) ∧ (s.dev.boot.ready = false)) ∧
    (let s : State := poke [fun d => { d with boot := { d.boot with armed := true } }]; (s.dev.hostActs = true) ∧ (s.dev.boot.armed = true)) ∧
    (let s : State := poke [fun d => { d with boot := { d.boot with ready := true } }]; (s.dev.hostActs = true) ∧ (s.dev.boot.ready = true)
    ∧ (s.dev.boot.factory = false)) ∧
    (let s : State := State.reset; (s.dev.hostActs = true) ∧ (s.dev.boot.ready = false)) := by
  iterate 4 refine And.intro (by decide +kernel) ?_
  decide +kernel

/-- Each premise set of `Verification` is met. -/
theorem test_witness_Verification :
    (let s : State := State.reset; (s.dev.hostActs = true) ∧ (s.dev.boot.ver = none)) ∧
    (let s : State := poke [fun d => { d with boot := { d.boot with ver := (some { kind := 4, slot := 1, copy := none }) } }]; (s.dev.hostActs = true)
    ∧ (∃ j ∈ s.dev.boot.ver, True)) ∧
    (let s : State := poke [fun d => { d with boot := { d.boot with ver := (some { kind := 4, slot := 1, copy := none }) } }]; (s.dev.hostActs = true)
    ∧ (∃ j ∈ s.dev.boot.ver, ((slotCheck s j.kind j.slot).1 ≠ 0))) := by
  iterate 2 refine And.intro (by decide +kernel) ?_
  decide +kernel

/-- Each premise set of `SecurityRequests` is met. -/
theorem test_witness_SecurityRequests :
    (let s : State := State.reset; (s.dev.hostActs = true) ∧ ((policyAt s integBase).2 = none)) ∧
    (let s : State := State.reset; (s.dev.hostActs = true) ∧ ((slotCheck s 6 0).1 ≠ 0)) ∧
    (let s : State := poke [fun d => { d with otp := { d.otp with lc := 2 } }]; let slot : Fin 4 := 0; (s.dev.hostActs = true)
    ∧ (s.dev.otp.lc = 1 ∨ s.dev.otp.lc = 2) ∧ (nth s.dev.otp.rows slot.val 4 < 4) ∧ (slot.val < s.dev.otp.keys.length)
    ∧ (slot.val < s.dev.otp.rows.length)) ∧
    (let s : State := State.reset; (s.dev.hostActs = true) ∧ (s.dev.svc.up0 = true) ∧ (s.dev.svc.halted = false) ∧ (s.dev.boot.hold = false)) := by
  iterate 3 refine And.intro (by decide +kernel) ?_
  decide +kernel

/-- Each premise set of `SettingsMemory` is met. -/
theorem test_witness_SettingsMemory :
    (let s : State := State.reset; let a : W32 := 0x00000000#32; let data : List Byte := []; (s.dev.alive = true) ∧ (s.dev.otp.lc ≠ 3)
    ∧ (xsRefuses s a.toNat data.length = false)) ∧
    (let s : State := State.reset; let a : W32 := 0x00000000#32; (s.dev.alive = true) ∧ (s.dev.otp.lc ≠ 3)
    ∧ (xsRefuses s (a.toNat / 65536 * 65536) 65536 = false)) ∧
    (let s : State := poke [fun d => { d with boot := { d.boot with phase := 12 } }]; let a : W32 := BitVec.ofNat 32 keyBase;
    let data : List Byte := [1, 2, 3, 4]; (s.dev.alive = true) ∧ (s.dev.otp.lc ≠ 3) ∧ (xsRefuses s a.toNat data.length = true)) ∧
    (let s : State := State.reset; (s.dev.alive = true) ∧ (s.dev.rec_.xop = none)) ∧
    (let s : State := poke [fun d => { d with rec_ := { d.rec_ with xop := (some (MemOp.kern 0 15)) } }]; let n : LeafNo := 0; (s.dev.alive = true)
    ∧ (s.dev.rec_.xop = some (.kern n.val 15)) ∧ (n.val < s.dev.rec_.savedVer.length)) ∧
    (let s : State := poke [fun d => { d with rec_ := { d.rec_ with xop := (some (MemOp.folio)) } }]; (s.dev.alive = true)
    ∧ (s.dev.rec_.xop = some .folio) ∧ (s.dev.queueRoom = true)) := by
  iterate 5 refine And.intro (by decide +kernel) ?_
  decide +kernel

/-- Each premise set of `NeltanOpen` is met. -/
theorem test_witness_NeltanOpen :
    (let s : State := poke [fun d => { d with net := { d.net with nel := { d.net.nel with fails := ([(0, 5000929942), (0, 5000929942), (0, 5000929942), (0, 5000929942), (0, 5000929942), (0, 5000929942), (0, 5000929942), (0, 5000929942), (0, 5000929942), (0, 5000929942), (0, 5000929942), (0, 5000929942), (0, 5000929942), (0, 5000929942), (0, 5000929942)]) } } }];
    let r : NelReq := { trans := 0, session := 0x0001#16, seq := 0x00000000#32, addr := 0x40010048#32, data := [0x0000004d#32, 0x00000001#32], count := 2, tag := 0x00000000000000000000000000000000#128 }; (s.dev.nelServes = true)
    ∧ ((s.dev.net.nel.fails.filter fun f => f.1 == r.trans.val && decide (s.dev.tim.mot < f.2 + nelMinute)).length = 15)
    ∧ (nth s.dev.otp.keys ((r.data.map BitVec.toNat).headD 4) none = none)) :=
  by decide +kernel

/-- Each premise set of `NeltanTimers` is met. -/
theorem test_witness_NeltanTimers :
    (let s : State := State.reset; let num : W16 := 0x0000#16; (s.dev.alive = true)
    ∧ ((∀ x ∈ s.dev.net.nel.sess, x.num = num.toNat → x.lastAt + nelMinute ≤ s.dev.tim.mot))) ∧
    (let s : State := State.reset; let num : W16 := 0x0000#16; (s.dev.alive = true)
    ∧ ((∀ x ∈ s.dev.net.nel.sess, x.num = num.toNat → s.dev.tim.mot < x.lastAt + nelMinute))) ∧
    (let s : State := State.reset; let tr : Fin 2 := 0; (s.dev.alive = true) ∧ (nelBlocked s.dev tr.val = false)) ∧
    (let s : State := poke [fun d => { d with net := { d.net with nel := { d.net.nel with block := ([(0, 5000216429)]) } } }];
    let tr : Fin 2 := 0; (s.dev.alive = true) ∧ (nelBlocked s.dev tr.val = true)) := by
  iterate 3 refine And.intro (by decide +kernel) ?_
  decide +kernel

/-- Each premise set of `HostPort` is met. -/
theorem test_witness_HostPort :
    (let s : State := poke [fun d => { d with net := { d.net with hpi := { d.net.hpi with lastEnd := (some 5000929947) } } }]; (s.dev.boot.up = true)
    ∧ (hpiSoon s.dev = true)) ∧
    (let s : State := State.reset; let a : W32 := 0x2000; let n : Fin 64 := 0; let data : List W32 := [7];
    let crc : W16 := BitVec.ofNat 16 (crc16 (hpiFrame 0x2000 1 [7])); (s.dev.boot.up = true) ∧ (hpiSoon s.dev = false) ∧ (data.length = n.val + 1)
    ∧ (crc16 (hpiFrame a.toNat (n.val + 1) (data.map BitVec.toNat)) = crc.toNat)) ∧
    (let s : State := State.reset; let a : W32 := 0x00000000#32; let n : Fin 64 := 0; let data : List W32 := [0x00000001#32];
    let crc : W16 := 0x0000#16; (s.dev.boot.up = true) ∧ (hpiSoon s.dev = false)
    ∧ (crc16 (hpiFrame a.toNat (n.val + 1) (data.map BitVec.toNat)) ≠ crc.toNat)) := by
  iterate 2 refine And.intro (by decide +kernel) ?_
  decide +kernel

/-- Each premise set of `FieldDieStates` is met. -/
theorem test_witness_FieldDieStates :
    (let s : State := poke [fun d => { d with die := vmod d.die 0 fun yi0 => { yi0 with alive := false } }];
    let x : DieNo := 0; (s.dev.dies.contains x.val = true) ∧ ((s.dev.di x.val).alive = false)) ∧
    (let s : State := poke [fun d => { d with die := vmod d.die 1 fun yi0 => { yi0 with dieLost := 8 } }];
    let x : DieNo := 1; (s.dev.dies.contains x.val = true) ∧ (dieRuns s.dev x.val = true) ∧ ((s.dev.di x.val).standalone = false)
    ∧ (8 ≤ (s.dev.di x.val).dieLost)) ∧
    (let s : State := poke [fun d => { d with die := vmod d.die 0 fun yi0 => { yi0 with lost := 8 } }];
    let x : DieNo := 0; (s.dev.dies.contains x.val = true) ∧ (s.dev.alive = true) ∧ (8 ≤ (s.dev.di x.val).lost) ∧ ((s.dev.di x.val).lostRep = false)
    ∧ (s.dev.queueRoom = true)) ∧
    (let s : State := poke [fun d => { d with tim := { d.tim with mot := 5000108303 } }, fun d => { d with die := vmod d.die 0 fun yi0 => { yi0 with standalone := true } }, fun d => { d with die := vmod d.die 0 fun yi0 => { yi0 with goodAt := (some 5) } }, fun d => { d with die := vmod d.die 0 fun yi0 => { yi0 with dieGoodAt := (some 5) } }];
    let x : DieNo := 0; (s.dev.dies.contains x.val = true) ∧ (s.dev.hostActs = true) ∧ (s.dev.imd.halted = false) ∧ (s.dev.boot.hold = false)
    ∧ (dieRuns s.dev x.val = true) ∧ ((s.dev.di x.val).standalone = true)
    ∧ (∃ g ∈ (s.dev.di x.val).goodAt, (∃ h ∈ (s.dev.di x.val).dieGoodAt, (g + msMot 100 ≤ s.dev.tim.mot) ∧ (h + msMot 100 ≤ s.dev.tim.mot)))) ∧
    (let s : State := poke [fun d => { d with die := vmod d.die 0 fun yi0 => { yi0 with standalone := true } }];
    let x : DieNo := 0; (s.dev.dies.contains x.val = true) ∧ (s.dev.hostActs = true) ∧ (s.dev.imd.halted = false) ∧ (s.dev.boot.hold = false)
    ∧ (dieRuns s.dev x.val = true) ∧ ((s.dev.di x.val).standalone = true) ∧ ((s.dev.di x.val).goodAt = none ∨ (s.dev.di x.val).dieGoodAt = none)) := by
  iterate 4 refine And.intro (by decide +kernel) ?_
  decide +kernel

/-- Each premise set of `FieldLink` is met. -/
theorem test_witness_FieldLink :
    (let s : State := State.reset; let x : DieNo := 0; (s.dev.alive = true) ∧ (dieRuns s.dev x.val = true) ∧ ((s.dev.di x.val).downSeq < 16)
    ∧ ((s.dev.di x.val).upSeq < 16) ∧ ((∀ e ∈ (s.dev.di x.val).coreExp, e = (s.dev.di x.val).upSeq))) ∧
    (let s : State := poke [fun d => { d with die := vmod d.die 0 fun yi0 => { yi0 with coreExp := (some 12) } }];
    let x : DieNo := 0; (s.dev.alive = true) ∧ (dieRuns s.dev x.val = true) ∧ ((s.dev.di x.val).downSeq < 16) ∧ ((s.dev.di x.val).upSeq < 16)
    ∧ ((∀ e ∈ (s.dev.di x.val).dieExp, e = (s.dev.di x.val).downSeq)) ∧ ((∃ e ∈ (s.dev.di x.val).coreExp, e ≠ (s.dev.di x.val).upSeq))) ∧
    (let s : State := State.reset; let x : DieNo := 0; (s.dev.alive = true) ∧ (dieRuns s.dev x.val = true) ∧ ((s.dev.di x.val).downSeq < 16)
    ∧ ((s.dev.di x.val).upSeq < 16) ∧ ((∀ e ∈ (s.dev.di x.val).dieExp, e = (s.dev.di x.val).downSeq))
    ∧ ((∀ e ∈ (s.dev.di x.val).coreExp, e = (s.dev.di x.val).upSeq))) ∧
    (let s : State := State.reset; let x : DieNo := 0; let i : FieldIn := (FieldIn.di 0); let us : W32 := 0xffffffff#32; (s.dev.alive = true)
    ∧ (dieRuns s.dev x.val = true) ∧ ((fieldInOf i).1 = x.val) ∧ (siHeld s.dev (fieldInOf i).1 (fieldInOf i).2 = false)
    ∧ (max 1 (nth (s.dev.di x.val).cfg.deb (fieldInOf i).2 1) ≤ us.toNat)) ∧
    (let s : State := State.reset; let x : DieNo := 0; let i : FieldIn := (FieldIn.di 0); let us : W32 := 0x00000000#32; (s.dev.alive = true)
    ∧ (dieRuns s.dev x.val = true) ∧ ((fieldInOf i).1 = x.val)
    ∧ ((siHeld s.dev (fieldInOf i).1 (fieldInOf i).2 = true ∨ us.toNat < max 1 (nth (s.dev.di x.val).cfg.deb (fieldInOf i).2 1)))) := by
  iterate 4 refine And.intro (by decide +kernel) ?_
  decide +kernel

/-- Each premise set of `FieldOutputs` is met. -/
theorem test_witness_FieldOutputs :
    (let s : State := poke [fun d => { d with die := vmod d.die 0 fun yi0 => { yi0 with on := 9 } }]; let x : DieNo := 0;
    let c : Fin 8 := 0; (s.dev.hostActs = true) ∧ (dieRuns s.dev x.val = true) ∧ (s.dev.on (pgFIO x.val) FIO.LINK.LOST = false)
    ∧ (bit (s.dev.di x.val).on c.val = true) ∧ (bit (s.dev.di x.val).openL c.val = false)) ∧
    (let s : State := State.reset; let x : DieNo := 0; let c : Fin 8 := 0; (s.dev.hostActs = true) ∧ (dieRuns s.dev x.val = true)
    ∧ (s.dev.on (pgFIO x.val) FIO.LINK.LOST = false) ∧ (bit (s.dev.di x.val).rb c.val = false)) ∧
    (let s : State := poke [fun d => { d with diey := vmod d.diey 0 fun yi0 => { yi0 with tpoSc := 3 } }]; let x : DieNo := 0;
    let i : Fin 4 := 0; (s.dev.hostActs = true) ∧ (dieRuns s.dev x.val = true) ∧ (s.dev.on (pgFIO x.val) FIO.LINK.LOST = false)
    ∧ (s.dev.imd.halted = false) ∧ (s.dev.boot.hold = false) ∧ (bit (s.dev.dy x.val).tpoSc i.val = true)) ∧
    (let s : State := State.reset; let x : DieNo := 0; let i : Fin 4 := 0; (s.dev.hostActs = true) ∧ (dieRuns s.dev x.val = true)
    ∧ (s.dev.on (pgFIO x.val) FIO.LINK.LOST = false) ∧ (bit (s.dev.dy x.val).tpoOn i.val = true)) ∧
    (let s : State := poke [fun d => { d with tim := { d.tim with mot := 5000216329 } }, fun d => { d with diey := vmod d.diey 0 fun yi0 => { yi0 with tpoDark := 6 } }];
    let x : DieNo := 0; let i : Fin 4 := 2; (s.dev.hostActs = true) ∧ (dieRuns s.dev x.val = true) ∧ (s.dev.on (pgFIO x.val) FIO.LINK.LOST = false)
    ∧ (bit (s.dev.dy x.val).tpoDark i.val = true) ∧ (darkUntil s.dev (4 * x.val + i.val) ≤ s.dev.tim.mot) ∧ (bit (s.dev.dy x.val).tpoSc i.val = false)
    ∧ (i.val < (s.dev.dy x.val).tpoRbN.length) ∧ (nth (s.dev.dy x.val).tpoRbN i.val 0 = 0)) ∧
    (let s : State := poke [fun d => { d with tim := { d.tim with mot := 2000000502712 } }, fun d => { d with diey := vmod d.diey 1 fun yi0 => { yi0 with tpoRbN := ([1, 0, 2, 1]) } }, fun d => { d with diey := vmod d.diey 1 fun yi0 => { yi0 with tpoDark := 8 } }];
    let x : DieNo := 1; let i : Fin 4 := 3; (s.dev.hostActs = true) ∧ (dieRuns s.dev x.val = true) ∧ (s.dev.on (pgFIO x.val) FIO.LINK.LOST = false)
    ∧ (bit (s.dev.dy x.val).tpoDark i.val = true) ∧ (darkUntil s.dev (4 * x.val + i.val) ≤ s.dev.tim.mot) ∧ (bit (s.dev.dy x.val).tpoSc i.val = false)
    ∧ (nth (s.dev.dy x.val).tpoRbN i.val 0 = 1) ∧ (bit (s.dev.dy x.val).tpoRb i.val = false)) := by
  iterate 5 refine And.intro (by decide +kernel) ?_
  decide +kernel

/-- Each premise set of `LoadSwitches` is met. -/
theorem test_witness_LoadSwitches :
    (let s : State := poke [fun d => { d with die := vmod d.die 1 fun yi0 => { yi0 with cmd := { yi0.cmd with lsv := 48 } } }, fun d => { d with die := vmod d.die 1 fun yi0 => { yi0 with cmd := { yi0.cmd with safe := false } } }, fun d => { d with die := vmod d.die 1 fun yi0 => { yi0 with cmd := { yi0.cmd with lsEn := true } } }];
    let x : DieNo := 1; let c : Fin 6 := 4; (dieRuns s.dev x.val = true) ∧ ((s.dev.di x.val).ls.length = 6) ∧ (lsLead (s.dev.di x.val) c.val = c.val)
    ∧ (lsWant (s.dev.di x.val) x.val c.val = true) ∧ ((lsOf s.dev x.val c.val).latched = false) ∧ ((lsOf s.dev x.val c.val).run = .off)
    ∧ ((lsOf s.dev x.val c.val).pauseEnd = none) ∧ ((lsOf s.dev x.val c.val).dueAt = none) ∧ ((lsOf s.dev x.val c.val).pend = 0)) ∧
    (let s : State := State.reset; let x : DieNo := 0; let c : Fin 6 := 0; (dieRuns s.dev x.val = true) ∧ ((s.dev.di x.val).ls.length = 6)
    ∧ (lsLead (s.dev.di x.val) c.val = c.val) ∧ (lsWant (s.dev.di x.val) x.val c.val = false)) ∧
    (let s : State := poke [fun d => { d with die := vmod d.die 0 fun yi0 => { yi0 with ls := modNth (fun yi1 => { yi1 with run := (LsRun.inrush) }) yi0.ls 1 } }];
    let x : DieNo := 0; let c : Fin 6 := 1; (dieRuns s.dev x.val = true) ∧ ((s.dev.di x.val).ls.length = 6) ∧ (lsLead (s.dev.di x.val) c.val = c.val)
    ∧ ((lsOf s.dev x.val c.val).run = .inrush) ∧ ((lsOf s.dev x.val c.val).inrushEnd ≤ s.dev.tim.mot)) ∧
    (let s : State := poke [fun d => { d with tim := { d.tim with mot := 5000329035 } }, fun d => { d with die := vmod d.die 0 fun yi0 => { yi0 with ls := modNth (fun yi1 => { yi1 with run := (LsRun.on) }) yi0.ls 0 } }, fun d => { d with die := vmod d.die 0 fun yi0 => { yi0 with ls := modNth (fun yi1 => { yi1 with onAt := 5000269035 }) yi0.ls 0 } }];
    let x : DieNo := 0; let c : Fin 6 := 0; (dieRuns s.dev x.val = true) ∧ ((s.dev.di x.val).ls.length = 6) ∧ (lsLead (s.dev.di x.val) c.val = c.val)
    ∧ ((lsOf s.dev x.val c.val).run ≠ .off) ∧ ((lsOf s.dev x.val c.val).onAt + 50000 ≤ s.dev.tim.mot)
    ∧ (s.dev.tim.mot < (lsOf s.dev x.val c.val).onAt + 75000)) ∧
    (let s : State := poke [fun d => { d with die := vmod d.die 0 fun yi0 => { yi0 with ls := modNth (fun yi1 => { yi1 with run := (LsRun.inrush) }) yi0.ls 0 } }, fun d => { d with die := vmod d.die 0 fun yi0 => { yi0 with ls := modNth (fun yi1 => { yi1 with pend := 4 }) yi0.ls 0 } }];
    let x : DieNo := 0; let c : Fin 6 := 0; (dieRuns s.dev x.val = true) ∧ ((s.dev.di x.val).ls.length = 6) ∧ (lsLead (s.dev.di x.val) c.val = c.val)
    ∧ ((lsOf s.dev x.val c.val).run ≠ .off) ∧ ((lsOf s.dev x.val c.val).pend = 4)
    ∧ ((lsOf s.dev x.val c.val).tries + 1 < bitsOf (lsCfg (s.dev.di x.val) c.val) 8 4)) ∧
    (let s : State := poke [fun d => { d with die := vmod d.die 1 fun yi0 => { yi0 with cfg := { yi0.cfg with ls := ([1262597, 1328133, 656645, 1200389, 1622528, 595200]) } } }, fun d => { d with die := vmod d.die 1 fun yi0 => { yi0 with ls := modNth (fun yi1 => { yi1 with run := (LsRun.on) }) yi0.ls 3 } }, fun d => { d with die := vmod d.die 1 fun yi0 => { yi0 with ls := modNth (fun yi1 => { yi1 with pend := 4 }) yi0.ls 3 } }];
    let x : DieNo := 1; let c : Fin 6 := 3; (dieRuns s.dev x.val = true) ∧ ((s.dev.di x.val).ls.length = 6) ∧ (lsLead (s.dev.di x.val) c.val = c.val)
    ∧ ((lsOf s.dev x.val c.val).run ≠ .off) ∧ ((lsOf s.dev x.val c.val).pend = 4)
    ∧ (bitsOf (lsCfg (s.dev.di x.val) c.val) 8 4 ≤ (lsOf s.dev x.val c.val).tries + 1)) ∧
    (let s : State := poke [fun d => { d with die := vmod d.die 1 fun yi0 => { yi0 with ls := modNth (fun yi1 => { yi1 with pend := 3 }) yi0.ls 0 } }];
    let x : DieNo := 1; let c : Fin 6 := 0; (dieRuns s.dev x.val = true) ∧ ((s.dev.di x.val).ls.length = 6) ∧ (lsLead (s.dev.di x.val) c.val = c.val)
    ∧ (bit (lsOf s.dev x.val c.val).pend 3 = false) ∧ (bit (lsOf s.dev x.val c.val).pend 4 = false) ∧ (bit (lsOf s.dev x.val c.val).pend 0 = true)
    ∧ ((lsOf s.dev x.val c.val).th = false)) ∧
    (let s : State := poke [fun d => { d with die := vmod d.die 1 fun yi0 => { yi0 with ls := modNth (fun yi1 => { yi1 with pend := 6 }) yi0.ls 1 } }];
    let x : DieNo := 1; let c : Fin 6 := 1; (dieRuns s.dev x.val = true) ∧ ((s.dev.di x.val).ls.length = 6) ∧ (lsLead (s.dev.di x.val) c.val = c.val)
    ∧ (bit (lsOf s.dev x.val c.val).pend 3 = false) ∧ (bit (lsOf s.dev x.val c.val).pend 4 = false) ∧ (bit (lsOf s.dev x.val c.val).pend 0 = false)
    ∧ (bit (lsOf s.dev x.val c.val).pend 1 = true) ∧ ((lsOf s.dev x.val c.val).latched = false)) ∧
    (let s : State := poke [fun d => { d with die := vmod d.die 0 fun yi0 => { yi0 with ls := modNth (fun yi1 => { yi1 with pend := 8 }) yi0.ls 0 } }];
    let x : DieNo := 0; let c : Fin 6 := 0; (dieRuns s.dev x.val = true) ∧ ((s.dev.di x.val).ls.length = 6) ∧ (lsLead (s.dev.di x.val) c.val = c.val)
    ∧ ((lsOf s.dev x.val c.val).pend = 8)) ∧
    (let s : State := poke [fun d => { d with die := vmod d.die 1 fun yi0 => { yi0 with ls := modNth (fun yi1 => { yi1 with pend := 16 }) yi0.ls 0 } }];
    let x : DieNo := 1; let c : Fin 6 := 0; (dieRuns s.dev x.val = true) ∧ ((s.dev.di x.val).ls.length = 6) ∧ (lsLead (s.dev.di x.val) c.val = c.val)
    ∧ ((lsOf s.dev x.val c.val).pend = 16) ∧ (tjBelow (nth (s.dev.di x.val).samp.lsTj c.val 250) = true) ∧ (lsLig (s.dev.di x.val) c.val = false)) ∧
    (let s : State := poke [fun d => { d with die := vmod d.die 1 fun yi0 => { yi0 with samp := { yi0.samp with lsTj := ([1500, 1500, 1500, 1500, 1500, 1500, 1500, 1500]) } } }, fun d => { d with die := vmod d.die 1 fun yi0 => { yi0 with ls := modNth (fun yi1 => { yi1 with pend := 16 }) yi0.ls 0 } }];
    let x : DieNo := 1; let c : Fin 6 := 0; (dieRuns s.dev x.val = true) ∧ ((s.dev.di x.val).ls.length = 6) ∧ (lsLead (s.dev.di x.val) c.val = c.val)
    ∧ ((lsOf s.dev x.val c.val).pend = 16) ∧ (tjBelow (nth (s.dev.di x.val).samp.lsTj c.val 250) = false)) ∧
    (let s : State := poke [fun d => { d with tim := { d.tim with mot := 5000329035 } }, fun d => { d with die := vmod d.die 1 fun yi0 => { yi0 with ls := modNth (fun yi1 => { yi1 with pauseEnd := (some 5) }) yi0.ls 1 } }];
    let x : DieNo := 1; let c : Fin 6 := 1; (dieRuns s.dev x.val = true) ∧ ((s.dev.di x.val).ls.length = 6) ∧ (lsLead (s.dev.di x.val) c.val = c.val)
    ∧ ((lsOf s.dev x.val c.val).th = false) ∧ (∃ p ∈ (lsOf s.dev x.val c.val).pauseEnd, (p ≤ s.dev.tim.mot))) ∧
    (let s : State := poke [fun d => { d with die := vmod d.die 1 fun yi0 => { yi0 with cfg := { yi0.cfg with ls := ([476160, 1581061, 1315333, 1463552, 668165, 8453]) } } }, fun d => { d with die := vmod d.die 1 fun yi0 => { yi0 with cmd := { yi0.cmd with lsEn := true } } }, fun d => { d with die := vmod d.die 1 fun yi0 => { yi0 with ls := modNth (fun yi1 => { yi1 with dueAt := (some 5) }) yi0.ls 3 } }];
    let x : DieNo := 1; let c : Fin 6 := 3; (dieRuns s.dev x.val = true) ∧ ((s.dev.di x.val).ls.length = 6) ∧ (lsLead (s.dev.di x.val) c.val = c.val)
    ∧ (∃ u ∈ (lsOf s.dev x.val c.val).dueAt, ((lsOf s.dev x.val c.val).latched = false) ∧ (lsWant (s.dev.di x.val) x.val c.val = true)
    ∧ (retryFree s.dev x.val c.val u = true))) ∧
    (let s : State := poke [fun d => { d with die := vmod d.die 1 fun yi0 => { yi0 with cmd := { yi0.cmd with lsv := 61 } } }, fun d => { d with die := vmod d.die 1 fun yi0 => { yi0 with cmd := { yi0.cmd with safe := false } } }, fun d => { d with die := vmod d.die 1 fun yi0 => { yi0 with cmd := { yi0.cmd with lsEn := true } } }, fun d => { d with die := vmod d.die 1 fun yi0 => { yi0 with ls := modNth (fun yi1 => { yi1 with run := (LsRun.inrush) }) yi0.ls 3 } }, fun d => { d with die := vmod d.die 1 fun yi0 => { yi0 with ls := modNth (fun yi1 => { yi1 with dueAt := (some 2000000614418) }) yi0.ls 2 } }];
    let x : DieNo := 1; let c : Fin 6 := 2; (dieRuns s.dev x.val = true) ∧ ((s.dev.di x.val).ls.length = 6) ∧ (lsLead (s.dev.di x.val) c.val = c.val)
    ∧ (∃ u ∈ (lsOf s.dev x.val c.val).dueAt, ((lsOf s.dev x.val c.val).latched = false) ∧ (lsWant (s.dev.di x.val) x.val c.val = true)
    ∧ (retryFree s.dev x.val c.val u = false))) ∧
    (let s : State := poke [fun d => { d with tim := { d.tim with mot := 5000244475 } }, fun d => { d with die := vmod d.die 1 fun yi0 => { yi0 with ls := modNth (fun yi1 => { yi1 with run := (LsRun.on) }) yi0.ls 1 } }];
    let x : DieNo := 1; let c : Fin 6 := 1; (dieRuns s.dev x.val = true) ∧ ((s.dev.di x.val).ls.length = 6) ∧ (lsLead (s.dev.di x.val) c.val = c.val)
    ∧ ((lsOf s.dev x.val c.val).run = .on) ∧ ((lsOf s.dev x.val c.val).th = false) ∧ ((lsOf s.dev x.val c.val).sinceOn + msMot 10000 ≤ s.dev.tim.mot)) ∧
    (let s : State := poke [fun d => { d with die := vmod d.die 1 fun yi0 => { yi0 with ls := modNth (fun yi1 => { yi1 with theta := 22000000 }) yi0.ls 0 } }];
    let x : DieNo := 1; let c : Fin 6 := 0; let ma : W16 := 0x0000#16; (dieRuns s.dev x.val = true) ∧ ((s.dev.di x.val).ls.length = 6)
    ∧ (lsLead (s.dev.di x.val) c.val = c.val) ∧ (bit (lsCfg (s.dev.di x.val) c.val) 20 = true)
    ∧ (121 * 16777216 ≤ 100 * fuseHeat (s.dev.di x.val) c.val ma.toNat (lsOf s.dev x.val c.val).theta) ∧ ((lsOf s.dev x.val c.val).latched = false)) ∧
    (let s : State := State.reset; let x : DieNo := 0; let c : Fin 6 := 0; (dieRuns s.dev x.val = true) ∧ ((s.dev.di x.val).ls.length = 6)
    ∧ (lsLead (s.dev.di x.val) c.val = c.val) ∧ (s.dev.hostActs = true) ∧ (s.dev.imd.halted = false) ∧ (s.dev.boot.hold = false)) := by
  iterate 16 refine And.intro (by decide +kernel) ?_
  decide +kernel

/-- Each premise set of `LockChannels` is met. -/
theorem test_witness_LockChannels :
    (let s : State := poke [fun d => { d with diey := vmod d.diey 1 fun yi0 => { yi0 with lkPull := 14 } }];
    let n : LeafNo := 5; (dieRuns s.dev (n.val / 4) = true) ∧ (bit (s.dev.dy (n.val / 4)).lkPull (n.val % 4) = true)
    ∧ (nth (s.dev.dy (n.val / 4)).lkPullEnd (n.val % 4) 0 ≤ s.dev.tim.mot)) ∧
    (let s : State := poke [fun d => { d with diey := vmod d.diey 0 fun yi0 => { yi0 with lkHs := 8 } }];
    let n : LeafNo := 3; (dieRuns s.dev (n.val / 4) = true) ∧ (bit (s.dev.dy (n.val / 4)).lkHs (n.val % 4) = true) ∧ (s.dev.alive = true)
    ∧ (s.dev.on (pgFIO (n.val / 4)) FIO.LINK.LOST = false)) ∧
    (let s : State := State.reset; let n : LeafNo := 0; (dieRuns s.dev (n.val / 4) = true) ∧ (s.dev.hostActs = true) ∧ (s.dev.imd.halted = false)
    ∧ (s.dev.boot.hold = false) ∧ (s.dev.part.has (.fio (n.val / 4)) = true)) := by
  iterate 2 refine And.intro (by decide +kernel) ?_
  decide +kernel

/-- Each premise set of `SupplySag` is met. -/
theorem test_witness_SupplySag :
    (let s : State := poke [fun d => { d with tim := { d.tim with mot := 5000329035 } }, fun d => { d with vfld := { d.vfld with since := ([some 5, some 5, some 5, some 5, some 5]) } }]; (s.dev.alive = true)
    ∧ (s.dev.vfld.warn = false) ∧ (vstood s.dev 0 (msMot 1) = true)) ∧
    (let s : State := poke [fun d => { d with tim := { d.tim with mot := 2000000502712 } }, fun d => { d with vfld := { d.vfld with warn := true } }, fun d => { d with vfld := { d.vfld with since := ([some 5, some 5, some 5, some 5, some 5]) } }]; (s.dev.alive = true)
    ∧ (s.dev.vfld.warn = true) ∧ (vstood s.dev 1 (msMot 100) = true)) ∧
    (let s : State := poke [fun d => { d with tim := { d.tim with mot := 5000329035 } }, fun d => { d with leaf := vmod d.leaf 0 fun yi0 => { yi0 with prf := { yi0.prf with sp := { yi0.prf.sp with v := 65536000 } } } }, fun d => { d with vfld := { d.vfld with since := ([some 5, some 5, some 5, some 5, some 5]) } }];
    let n : LeafNo := 0; (s.dev.alive = true) ∧ (s.dev.vfld.low = false) ∧ (vstood s.dev 2 (msMot 1) = true) ∧ (n.val ∈ s.dev.axes)
    ∧ ((s.dev.prf n.val).sp.v ≠ 0)) ∧
    (let s : State := poke [fun d => { d with tim := { d.tim with mot := 2000000502712 } }, fun d => { d with vfld := { d.vfld with low := true } }, fun d => { d with vfld := { d.vfld with since := ([some 5, some 5, some 5, some 5, some 5]) } }]; (s.dev.alive = true)
    ∧ (s.dev.vfld.low = true) ∧ (vstood s.dev 3 (msMot 100) = true)) ∧
    (let s : State := poke [fun d => { d with tim := { d.tim with mot := 5000329035 } }, fun d => { d with vfld := { d.vfld with since := ([some 5, some 5, some 5, some 5, some 5]) } }];
    let n : LeafNo := 0; (s.dev.alive = true) ∧ (s.dev.vfld.pf = false) ∧ (vstood s.dev 4 25000 = true) ∧ (n.val ∈ s.dev.axes)) ∧
    (let s : State := poke [fun d => { d with tim := { d.tim with mot := 5000329035 } }, fun d => { d with vfld := { d.vfld with since := ([some 5, some 5, some 5, some 5, some 5]) } }]; (s.dev.alive = true)
    ∧ (s.dev.vfld.pf = false) ∧ (vstood s.dev 4 25000 = true) ∧ (s.dev.enabled pgREC = false ∨ s.dev.on pgREC REC.REC_STAT.FC = true)) ∧
    (let s : State := poke [fun d => { d with tim := { d.tim with mot := 5000056690 } }, fun d => { d with vfld := { d.vfld with pf := true } }, fun d => { d with vfld := { d.vfld with since := ([some 5, some 5, some 5, some 5, some 5]) } }]; (s.dev.alive = true)
    ∧ (s.dev.vfld.pf = true) ∧ (vstood s.dev 3 (msMot 100) = true)) ∧
    (let s : State := poke [fun d => { d with vfld := { d.vfld with low := true } }]; (s.dev.alive = true) ∧ (s.dev.vfld.lvl < shedWant s.dev)) ∧
    (let s : State := poke [fun d => { d with tim := { d.tim with mot := 5000329035 } }, fun d => { d with vfld := { d.vfld with lvl := 3 } }]; (s.dev.alive = true)
    ∧ (shedWant s.dev < s.dev.vfld.lvl) ∧ (s.dev.vfld.at_ + shedT s.dev ≤ s.dev.tim.mot)) := by
  iterate 8 refine And.intro (by decide +kernel) ?_
  decide +kernel

/-- Each premise set of `FormeIntegerOps` is met. -/
theorem test_witness_FormeIntegerOps :
    (let s : State := poke [fun d => { d with forme := { d.forme with st := 2 } }, fun d => { d with forme := { d.forme with error := { d.forme.error with st := (TaskSt.running) } } }, fun d => { d with forme := { d.forme with error := { d.forme.error with stack := ([2143289344, 255]) } } }];
    let k : TaskId := (TaskId.error); let ty : Fin 16 := 4; let a : Nat := 255; let b : Nat := 2143289344;
    let l : List Nat := []; (s.dev.alive = true) ∧ (s.clean) ∧ (s.dev.current = some k) ∧ ((s.dev.task k).stack = b :: a :: l) ∧ (l.length < 62)
    ∧ (tyOk ty.val = true) ∧ (tyFloat ty.val = false) ∧ (tyInt ty.val b ≠ 0) ∧ (tyLo ty.val ≤ (tyInt ty.val a).tdiv (tyInt ty.val b))
    ∧ ((tyInt ty.val a).tdiv (tyInt ty.val b) ≤ tyHi ty.val)) ∧
    (let s : State := poke [fun d => { d with forme := { d.forme with st := 2 } }, fun d => { d with forme := { d.forme with error := { d.forme.error with st := (TaskSt.running) } } }, fun d => { d with forme := { d.forme with error := { d.forme.error with stack := ([2143289344, 255]) } } }];
    let k : TaskId := (TaskId.error); let ty : Fin 16 := 1; let a : Nat := 255; let b : Nat := 2143289344;
    let l : List Nat := []; (s.dev.alive = true) ∧ (s.clean) ∧ (s.dev.current = some k) ∧ ((s.dev.task k).stack = b :: a :: l) ∧ (l.length < 62)
    ∧ (tyOk ty.val = true) ∧ (tyFloat ty.val = false) ∧ (tyInt ty.val b = 0)) ∧
    (let s : State := poke [fun d => { d with forme := { d.forme with st := 2 } }, fun d => { d with forme := { d.forme with error := { d.forme.error with st := (TaskSt.running) } } }, fun d => { d with forme := { d.forme with error := { d.forme.error with stack := ([2143289344, 255]) } } }];
    let k : TaskId := (TaskId.error); let ty : Fin 16 := 2; let a : Nat := 255; let b : Nat := 2143289344;
    let l : List Nat := []; (s.dev.alive = true) ∧ (s.clean) ∧ (s.dev.current = some k) ∧ ((s.dev.task k).stack = b :: a :: l) ∧ (l.length < 62)
    ∧ (tyOk ty.val = true) ∧ (tyFloat ty.val = false) ∧ (ty.val ≠ 1) ∧ (b % 2 ^ tyBits ty.val < tyBits ty.val)) ∧
    (let s : State := poke [fun d => { d with forme := { d.forme with st := 2 } }, fun d => { d with forme := { d.forme with error := { d.forme.error with st := (TaskSt.running) } } }, fun d => { d with forme := { d.forme with error := { d.forme.error with stack := ([2143289344, 255]) } } }];
    let k : TaskId := (TaskId.error); let ty : Fin 16 := 1; let a : Nat := 255; let b : Nat := 2143289344;
    let l : List Nat := []; (s.dev.alive = true) ∧ (s.clean) ∧ (s.dev.current = some k) ∧ ((s.dev.task k).stack = b :: a :: l) ∧ (l.length < 62)
    ∧ (tyOk ty.val = true) ∧ (tyFloat ty.val = false) ∧ ((tyInt ty.val b).natAbs ≤ tyHi ty.val)) ∧
    (let s : State := poke [fun d => { d with forme := { d.forme with st := 2 } }, fun d => { d with forme := { d.forme with error := { d.forme.error with st := (TaskSt.running) } } }, fun d => { d with forme := { d.forme with error := { d.forme.error with stack := ([2143289344, 255]) } } }];
    let k : TaskId := (TaskId.error); let ty : Fin 16 := 1; let a : Nat := 255; let b : Nat := 2143289344;
    let l : List Nat := []; (s.dev.alive = true) ∧ (s.clean) ∧ (s.dev.current = some k) ∧ ((s.dev.task k).stack = b :: a :: l) ∧ (l.length < 62)
    ∧ (tyOk ty.val = true) ∧ (tyFloat ty.val = false) ∧ (ty.val = 1)) := by
  iterate 4 refine And.intro (by decide +kernel) ?_
  decide +kernel

/-- Each premise set of `FormeFloatOps` is met. -/
theorem test_witness_FormeFloatOps :
    (let s : State := poke [fun d => { d with forme := { d.forme with st := 2 } }, fun d => { d with forme := { d.forme with error := { d.forme.error with st := (TaskSt.running) } } }, fun d => { d with forme := { d.forme with error := { d.forme.error with stack := ([2143289344, 255]) } } }];
    let k : TaskId := (TaskId.error); let ty : Fin 16 := 10; let a : Nat := 255; let b : Nat := 2143289344;
    let l : List Nat := []; (s.dev.alive = true) ∧ (s.clean) ∧ (s.dev.current = some k) ∧ ((s.dev.task k).stack = b :: a :: l) ∧ (l.length < 62)
    ∧ (tyFloat ty.val = true) ∧ (∃ td : Fin 16, (tyOk td.val = true) ∧ (tyFloat td.val = false) ∧ (fltOf ty.val b = .nan))) ∧
    (let s : State := poke [fun d => { d with forme := { d.forme with st := 2 } }, fun d => { d with forme := { d.forme with error := { d.forme.error with st := (TaskSt.running) } } }, fun d => { d with forme := { d.forme with error := { d.forme.error with stack := ([2143289344, 255]) } } }];
    let k : TaskId := (TaskId.error); let ty : Fin 16 := 1; let a : Nat := 255; let b : Nat := 2143289344;
    let l : List Nat := []; (s.dev.alive = true) ∧ (s.clean) ∧ (s.dev.current = some k) ∧ ((s.dev.task k).stack = b :: a :: l) ∧ (l.length < 62)
    ∧ (tyOk ty.val = true) ∧ (tyFloat ty.val = false) ∧ (∃ td : Fin 16, (tyFloat td.val = true))) ∧
    (let s : State := poke [fun d => { d with forme := { d.forme with st := 2 } }, fun d => { d with forme := { d.forme with error := { d.forme.error with st := (TaskSt.running) } } }, fun d => { d with forme := { d.forme with error := { d.forme.error with stack := ([2143289344, 255]) } } }];
    let k : TaskId := (TaskId.error); let ty : Fin 16 := 1; let a : Nat := 255; let b : Nat := 2143289344;
    let l : List Nat := []; (s.dev.alive = true) ∧ (s.clean) ∧ (s.dev.current = some k) ∧ ((s.dev.task k).stack = b :: a :: l) ∧ (l.length < 62)
    ∧ (tyOk ty.val = true) ∧ (tyFloat ty.val = false) ∧ (∃ td : Fin 16, (tyOk td.val = true) ∧ (tyFloat td.val = false)
    ∧ (tyLo td.val ≤ tyInt ty.val b) ∧ (tyInt ty.val b ≤ tyHi td.val))) := by
  iterate 2 refine And.intro (by decide +kernel) ?_
  decide +kernel

/-- Each premise set of `FormeDataOps` is met. -/
theorem test_witness_FormeDataOps :
    (let s : State := poke [fun d => { d with forme := { d.forme with st := 2 } }, fun d => { d with forme := { d.forme with error := { d.forme.error with st := (TaskSt.running) } } }, fun d => { d with forme := { d.forme with error := { d.forme.error with stack := ([2143289344, 255]) } } }];
    let k : TaskId := (TaskId.error); let ty : Fin 16 := 1; let v : Nat := 2143289344; let l : List Nat := [255]; (s.dev.alive = true) ∧ (s.clean)
    ∧ (s.dev.current = some k) ∧ ((s.dev.task k).stack = v :: l) ∧ (l.length < 62) ∧ (tyOk ty.val = true) ∧ (∃ w ∈ l.head?, True)) ∧
    (let s : State := poke [fun d => { d with forme := { d.forme with st := 2 } }, fun d => { d with forme := { d.forme with error := { d.forme.error with st := (TaskSt.running) } } }, fun d => { d with forme := { d.forme with error := { d.forme.error with stack := ([2143289344, 255]) } } }];
    let k : TaskId := (TaskId.error); let ty : Fin 16 := 1; let v : Nat := 2143289344; let l : List Nat := [255]; (s.dev.alive = true) ∧ (s.clean)
    ∧ (s.dev.current = some k) ∧ ((s.dev.task k).stack = v :: l) ∧ (l.length < 62) ∧ (tyOk ty.val = true) ∧ (tyFloat ty.val = false)) ∧
    (let s : State := putSram (poke [fun d => { d with forme := { d.forme with st := 2 } }, fun d => { d with forme := { d.forme with error := { d.forme.error with st := (TaskSt.running) } } }, fun d => { d with forme := { d.forme with error := { d.forme.error with blk := 2 } } }, fun d => { d with forme := { d.forme with error := { d.forme.error with stack := ([2143289344, 255]) } } }]) 268435509 [255];
    let k : TaskId := (TaskId.error); let ty : Fin 16 := 1; let arg : BitVec 20 := 0x00000#20; let v : Nat := 2143289344;
    let l : List Nat := [255]; (s.dev.alive = true) ∧ (s.clean) ∧ (s.dev.current = some k) ∧ ((s.dev.task k).stack = v :: l) ∧ (l.length < 62)
    ∧ (tyOk ty.val = true) ∧ (∃ x ∈ instAddr s k arg.toNat (tySize ty.val), True)) ∧
    (let s : State := putSram (poke [fun d => { d with forme := { d.forme with st := 2 } }, fun d => { d with forme := { d.forme with error := { d.forme.error with st := (TaskSt.running) } } }, fun d => { d with forme := { d.forme with error := { d.forme.error with blk := 2 } } }, fun d => { d with forme := { d.forme with error := { d.forme.error with stack := ([2143289344, 255]) } } }]) 268435509 [255];
    let k : TaskId := (TaskId.error); let ty : Fin 16 := 1; let arg : BitVec 20 := 0x00000#20; let v : Nat := 2143289344;
    let l : List Nat := [255]; (s.dev.alive = true) ∧ (s.clean) ∧ (s.dev.current = some k) ∧ ((s.dev.task k).stack = v :: l) ∧ (l.length < 62)
    ∧ (tyOk ty.val = true) ∧ (∃ x ∈ instAddr s k arg.toNat (tySize ty.val), True)) ∧
    (let s : State := poke [fun d => { d with forme := { d.forme with st := 2 } }, fun d => { d with forme := { d.forme with error := { d.forme.error with st := (TaskSt.running) } } }, fun d => { d with forme := { d.forme with error := { d.forme.error with stack := ([2143289344, 255]) } } }, fun d => { d with forme := { d.forme with map := ([{ out := false, kind := 0, idx := 0, sub := 0, ofs := 0, len := 64, rule := 0, const := [] }, { out := true, kind := 0, idx := 0, sub := 0, ofs := 0, len := 64, rule := 0, const := [] }]) } }];
    let k : TaskId := (TaskId.error); let ty : Fin 16 := 1; let arg : BitVec 20 := 0x00000#20; let v : Nat := 2143289344;
    let l : List Nat := [255]; (s.dev.alive = true) ∧ (s.clean) ∧ (s.dev.current = some k) ∧ ((s.dev.task k).stack = v :: l) ∧ (l.length < 62)
    ∧ (tyOk ty.val = true) ∧ (inItem s.dev.forme.map false arg.toNat (tySize ty.val) = true)) ∧
    (let s : State := poke [fun d => { d with forme := { d.forme with st := 2 } }, fun d => { d with forme := { d.forme with error := { d.forme.error with st := (TaskSt.running) } } }, fun d => { d with forme := { d.forme with error := { d.forme.error with stack := ([2143289344, 255]) } } }, fun d => { d with forme := { d.forme with map := ([{ out := false, kind := 0, idx := 0, sub := 0, ofs := 0, len := 64, rule := 0, const := [] }, { out := true, kind := 0, idx := 0, sub := 0, ofs := 0, len := 64, rule := 0, const := [] }]) } }];
    let k : TaskId := (TaskId.error); let ty : Fin 16 := 1; let arg : BitVec 20 := 0x00000#20; let v : Nat := 2143289344;
    let l : List Nat := [255]; (s.dev.alive = true) ∧ (s.clean) ∧ (s.dev.current = some k) ∧ ((s.dev.task k).stack = v :: l) ∧ (l.length < 62)
    ∧ (tyOk ty.val = true) ∧ (inItem s.dev.forme.map true arg.toNat (tySize ty.val) = true) ∧ (k ≠ .msync)) ∧
    (let s : State := poke [fun d => { d with forme := { d.forme with st := 2 } }, fun d => { d with forme := { d.forme with msync := { d.forme.msync with st := (TaskSt.running) } } }, fun d => { d with forme := { d.forme with msync := { d.forme.msync with stack := ([4607182418800017408, 2139095040]) } } }, fun d => { d with forme := { d.forme with map := ([{ out := false, kind := 0, idx := 0, sub := 0, ofs := 0, len := 64, rule := 0, const := [] }, { out := true, kind := 0, idx := 0, sub := 0, ofs := 0, len := 64, rule := 0, const := [] }]) } }];
    let k : TaskId := (TaskId.msync); let ty : Fin 16 := 1; let arg : BitVec 20 := 0x00000#20; let v : Nat := 4607182418800017408;
    let l : List Nat := [2139095040]; (s.dev.alive = true) ∧ (s.clean) ∧ (s.dev.current = some k) ∧ ((s.dev.task k).stack = v :: l) ∧ (l.length < 62)
    ∧ (tyOk ty.val = true) ∧ (inItem s.dev.forme.map true arg.toNat (tySize ty.val) = true) ∧ (k = .msync)) ∧
    (let s : State := putSram (putSram (poke [fun d => { d with forme := { d.forme with st := 2 } }, fun d => { d with forme := { d.forme with msync := { d.forme.msync with st := (TaskSt.running) } } }, fun d => { d with forme := { d.forme with msync := { d.forme.msync with stack := ([0]) } } }]) 268435480 [128]) 268435596 [64];
    let k : TaskId := (TaskId.msync); let ty : Fin 16 := 1; let arg : BitVec 20 := 0x00000#20; let n : W32 := 0x00000001#32; let v : Nat := 0;
    let l : List Nat := []; (s.dev.alive = true) ∧ (s.clean) ∧ (s.dev.current = some k) ∧ ((s.dev.task k).stack = v :: l) ∧ (l.length < 62)
    ∧ (tyOk ty.val = true) ∧ (∃ x ∈ instAddr s k arg.toNat (n.toNat * tySize ty.val), (v < n.toNat))) ∧
    (let s : State := poke [fun d => { d with forme := { d.forme with st := 2 } }, fun d => { d with forme := { d.forme with error := { d.forme.error with st := (TaskSt.running) } } }, fun d => { d with forme := { d.forme with error := { d.forme.error with stack := ([2143289344, 255]) } } }];
    let k : TaskId := (TaskId.error); let ty : Fin 16 := 1; let arg : BitVec 20 := 0x00000#20; let n : W32 := 0x00000000#32;
    let v : Nat := 2143289344; let l : List Nat := [255]; (s.dev.alive = true) ∧ (s.clean) ∧ (s.dev.current = some k)
    ∧ ((s.dev.task k).stack = v :: l) ∧ (l.length < 62) ∧ (tyOk ty.val = true)
    ∧ (∃ x ∈ instAddr s k arg.toNat (n.toNat * tySize ty.val), (n.toNat ≤ v))) ∧
    (let s : State := putSram (putSram (poke [fun d => { d with forme := { d.forme with st := 2 } }, fun d => { d with forme := { d.forme with error := { d.forme.error with st := (TaskSt.running) } } }, fun d => { d with forme := { d.forme with error := { d.forme.error with blk := 3 } } }, fun d => { d with forme := { d.forme with error := { d.forme.error with stack := ([13832806255468478464, 0, 13832806255468478464, 2143289344]) } } }]) 268435480 [128]) 268435656 [64];
    let k : TaskId := (TaskId.error); let ty : Fin 16 := 1; let arg : BitVec 20 := 0x00000#20; let n : W32 := 0x00000001#32;
    let v : Nat := 13832806255468478464; let l : List Nat := [0, 13832806255468478464, 2143289344]; (s.dev.alive = true) ∧ (s.clean)
    ∧ (s.dev.current = some k) ∧ ((s.dev.task k).stack = v :: l) ∧ (l.length < 62) ∧ (tyOk ty.val = true)
    ∧ (∃ x ∈ instAddr s k arg.toNat (n.toNat * tySize ty.val), (∃ j ∈ l.head?, (j < n.toNat)))) ∧
    (let s : State := poke [fun d => { d with forme := { d.forme with st := 2 } }, fun d => { d with forme := { d.forme with msync := { d.forme.msync with st := (TaskSt.running) } } }, fun d => { d with forme := { d.forme with msync := { d.forme.msync with stack := ([65535]) } } }];
    let k : TaskId := (TaskId.msync); let ty : Fin 16 := 1; let arg : BitVec 20 := 0x00000#20; let n : W32 := 0x00000000#32; let v : Nat := 65535;
    let l : List Nat := []; (s.dev.alive = true) ∧ (s.clean) ∧ (s.dev.current = some k) ∧ ((s.dev.task k).stack = v :: l) ∧ (l.length < 62)
    ∧ (tyOk ty.val = true) ∧ (∃ x ∈ instAddr s k arg.toNat (n.toNat * tySize ty.val), (l = []))) := by
  iterate 10 refine And.intro (by decide +kernel) ?_
  decide +kernel

/-- Each premise set of `FormeControlOps` is met. -/
theorem test_witness_FormeControlOps :
    (let s : State := putSram (putSram (putSram (putSram (poke [fun d => { d with forme := { d.forme with st := 2 } }, fun d => { d with forme := { d.forme with error := { d.forme.error with st := (TaskSt.running) } } }, fun d => { d with forme := { d.forme with error := { d.forme.error with blk := 2 } } }, fun d => { d with forme := { d.forme with error := { d.forme.error with pc := 72 } } }, fun d => { d with forme := { d.forme with error := { d.forme.error with stack := ([2143289344, 255]) } } }]) 268435480 [128]) 268435493 [1]) 268435624 [32]) 268435628 [16];
    let k : TaskId := (TaskId.error); let arg : BitVec 20 := 0x00000#20; let v : Nat := 2143289344; let l : List Nat := [255]; (s.dev.alive = true)
    ∧ (s.clean) ∧ (s.dev.current = some k) ∧ (((blkWord s (taskHalf s.dev k) (s.dev.task k).blk) : Int) ≤ (s.dev.task k).pc + 1 + arg.toInt)
    ∧ (((s.dev.task k).pc : Int) + 1 + arg.toInt < ((blkWord s (taskHalf s.dev k) (s.dev.task k).blk) + ((formeBlk s (taskHalf s.dev k) (s.dev.task k).blk).codeLen / 4) : Nat))
    ∧ ((s.dev.task k).stack = v :: l)) ∧
    (let s : State := poke [fun d => { d with forme := { d.forme with st := 2 } }, fun d => { d with forme := { d.forme with error := { d.forme.error with st := (TaskSt.running) } } }];
    let k : TaskId := (TaskId.error); let arg : BitVec 20 := 0xffffe#20; (s.dev.alive = true) ∧ (s.clean) ∧ (s.dev.current = some k)
    ∧ (((s.dev.task k).pc : Int) + 1 + arg.toInt < (blkWord s (taskHalf s.dev k) (s.dev.task k).blk))) ∧
    (let s : State := poke [fun d => { d with forme := { d.forme with st := 2 } }, fun d => { d with forme := { d.forme with msync := { d.forme.msync with st := (TaskSt.running) } } }];
    let k : TaskId := (TaskId.msync); (s.dev.alive = true) ∧ (s.clean) ∧ (s.dev.current = some k) ∧ ((s.dev.task k).stack = [])) ∧
    (let s : State := putSram (poke [fun d => { d with forme := { d.forme with st := 2 } }, fun d => { d with forme := { d.forme with init := { d.forme.init with st := (TaskSt.running) } } }]) 268435478 [4];
    let k : TaskId := (TaskId.init); let blk : BitVec 20 := 0x00000#20; (s.dev.alive = true) ∧ (s.clean) ∧ (s.dev.current = some k)
    ∧ (blk.toNat < (formeHdr s (taskHalf s.dev k)).nblk) ∧ ((formeBlk s (taskHalf s.dev k) blk.toNat).type < 0x8000)
    ∧ ((s.dev.task k).frames.length < 32)) ∧
    (let s : State := putSram (poke [fun d => { d with forme := { d.forme with st := 2 } }, fun d => { d with forme := { d.forme with error := { d.forme.error with st := (TaskSt.running) } } }, fun d => { d with forme := { d.forme with error := { d.forme.error with frames := ([{ blk := 1, ret := 70 }, { blk := 1, ret := 70 }, { blk := 1, ret := 70 }, { blk := 1, ret := 70 }, { blk := 1, ret := 70 }, { blk := 1, ret := 70 }, { blk := 1, ret := 70 }, { blk := 1, ret := 70 }, { blk := 1, ret := 70 }, { blk := 1, ret := 70 }, { blk := 1, ret := 70 }, { blk := 1, ret := 70 }, { blk := 1, ret := 70 }, { blk := 1, ret := 70 }, { blk := 1, ret := 70 }, { blk := 1, ret := 70 }, { blk := 1, ret := 70 }, { blk := 1, ret := 70 }, { blk := 1, ret := 70 }, { blk := 1, ret := 70 }, { blk := 1, ret := 70 }, { blk := 1, ret := 70 }, { blk := 1, ret := 70 }, { blk := 1, ret := 70 }, { blk := 1, ret := 70 }, { blk := 1, ret := 70 }, { blk := 1, ret := 70 }, { blk := 1, ret := 70 }, { blk := 1, ret := 70 }, { blk := 1, ret := 70 }, { blk := 1, ret := 70 }, { blk := 1, ret := 70 }]) } } }]) 268435478 [4];
    let k : TaskId := (TaskId.error); let blk : BitVec 20 := 0x00000#20; (s.dev.alive = true) ∧ (s.clean) ∧ (s.dev.current = some k)
    ∧ (blk.toNat < (formeHdr s (taskHalf s.dev k)).nblk) ∧ ((formeBlk s (taskHalf s.dev k) blk.toNat).type < 0x8000)
    ∧ ((s.dev.task k).frames.length = 32)) ∧
    (let s : State := poke [fun d => { d with forme := { d.forme with st := 2 } }, fun d => { d with forme := { d.forme with error := { d.forme.error with st := (TaskSt.running) } } }, fun d => { d with forme := { d.forme with error := { d.forme.error with frames := ([{ blk := 1, ret := 70 }, { blk := 1, ret := 70 }, { blk := 1, ret := 70 }, { blk := 1, ret := 70 }, { blk := 1, ret := 70 }, { blk := 1, ret := 70 }, { blk := 1, ret := 70 }, { blk := 1, ret := 70 }, { blk := 1, ret := 70 }, { blk := 1, ret := 70 }, { blk := 1, ret := 70 }, { blk := 1, ret := 70 }, { blk := 1, ret := 70 }, { blk := 1, ret := 70 }, { blk := 1, ret := 70 }, { blk := 1, ret := 70 }, { blk := 1, ret := 70 }, { blk := 1, ret := 70 }, { blk := 1, ret := 70 }, { blk := 1, ret := 70 }, { blk := 1, ret := 70 }, { blk := 1, ret := 70 }, { blk := 1, ret := 70 }, { blk := 1, ret := 70 }, { blk := 1, ret := 70 }, { blk := 1, ret := 70 }, { blk := 1, ret := 70 }, { blk := 1, ret := 70 }, { blk := 1, ret := 70 }, { blk := 1, ret := 70 }, { blk := 1, ret := 70 }, { blk := 1, ret := 70 }]) } } }];
    let k : TaskId := (TaskId.error); (s.dev.alive = true) ∧ (s.clean) ∧ (s.dev.current = some k) ∧ (∃ f ∈ (s.dev.task k).frames.head?, True)) ∧
    (let s : State := poke [fun d => { d with forme := { d.forme with st := 2 } }, fun d => { d with forme := { d.forme with main := { d.forme.main with st := (TaskSt.running) } } }];
    let k : TaskId := (TaskId.main); (s.dev.alive = true) ∧ (s.clean) ∧ (s.dev.current = some k) ∧ ((s.dev.task k).frames = []) ∧ (k = .main)) := by
  iterate 6 refine And.intro (by decide +kernel) ?_
  decide +kernel

/-- Each premise set of `FormeTasks` is met. -/
theorem test_witness_FormeTasks :
    (let s : State := putSram (poke [fun d => { d with forme := { d.forme with st := 2 } }, fun d => { d with forme := { d.forme with msDue := true } }, Dev.put pgFRM FRM.TASK_CFG.MSEN 1]) 0x10000038 [1, 0]; (s.dev.alive = true)
    ∧ (s.dev.forme.st = 2) ∧ (s.dev.forme.msDue = true) ∧ (s.dev.on pgFRM FRM.TASK_CFG.MSEN = true)
    ∧ ((formeHdr s s.dev.forme.half).entMsync ≠ 0xFFFF) ∧ ((s.dev.task .msync).st ≠ .running)) ∧
    (let s : State := poke [fun d => { d with forme := { d.forme with st := 2 } }]; (s.dev.alive = true) ∧ (s.dev.forme.st = 2)
    ∧ (s.dev.forme.msDue = false)) ∧
    (let s : State := poke [fun d => { d with forme := { d.forme with st := 2 } }, fun d => { d with forme := { d.forme with msync := { d.forme.msync with st := (TaskSt.running) } } }]; (s.dev.alive = true)
    ∧ (s.dev.forme.st = 2) ∧ ((s.dev.task .msync).st = .running)
    ∧ (s.dev.tim.mot < (s.dev.task .msync).startMot + 250 * s.dev.get pgFRM FRM.TASK_CFG.MSBUD)) ∧
    (let s : State := poke [fun d => { d with tim := { d.tim with mot := 2000000502712 } }, fun d => { d with forme := { d.forme with st := 2 } }, fun d => { d with forme := { d.forme with msync := { d.forme.msync with st := (TaskSt.running) } } }]; (s.dev.alive = true)
    ∧ (s.dev.forme.st = 2) ∧ ((s.dev.task .msync).st = .running)
    ∧ ((s.dev.task .msync).startMot + 250 * s.dev.get pgFRM FRM.TASK_CFG.MSBUD ≤ s.dev.tim.mot)) ∧
    (let s : State := poke [fun d => { d with forme := { d.forme with st := 2 } }]; (s.dev.alive = true) ∧ (s.dev.forme.st = 2) ∧ (mainMay s = false)) ∧
    (let s : State := poke [fun d => { d with forme := { d.forme with st := 2 } }, fun d => { d with forme := { d.forme with mainDue := true } }, fun d => { d with tim := { d.tim with mot := 10000 } }]; (s.dev.alive = true)
    ∧ (s.dev.forme.st = 2) ∧ (s.dev.forme.mainDue = true) ∧ (mainMay s = true) ∧ (s.dev.forme.reasons = 0)) ∧
    (let s : State := putSram (poke [fun d => { d with forme := { d.forme with st := 2 } }, fun d => { d with forme := { d.forme with mainDue := true } }, fun d => { d with tim := { d.tim with mot := 10000 } }, fun d => { d with forme := { d.forme with reasons := 4 } }]) 0x1000003A [2, 0]; (s.dev.alive = true)
    ∧ (s.dev.forme.st = 2) ∧ (s.dev.forme.mainDue = true) ∧ (mainMay s = true) ∧ (s.dev.forme.reasons ≠ 0)
    ∧ ((formeHdr s s.dev.forme.half).entErr ≠ 0xFFFF)) ∧
    (let s : State := poke [fun d => { d with forme := { d.forme with st := 2 } }, fun d => { d with forme := { d.forme with closeMot := some 0 } }, fun d => { d with tim := { d.tim with mot := 10000000 } }]; (s.dev.alive = true)
    ∧ (s.dev.forme.st = 2) ∧ (∃ b ∈ s.dev.forme.closeMot, (s.dev.flt.halt = false) ∧ (mainDeadline s.dev b ≤ s.dev.tim.mot))) ∧
    (let s : State := poke [fun d => { d with forme := { d.forme with st := 2 } }, fun d => { d with forme := { d.forme with closeMot := some 0 } }, Dev.put pgFRM FRM.TASK_CFG.GRACE 1]; (s.dev.alive = true)
    ∧ (s.dev.forme.st = 2) ∧ (∃ b ∈ s.dev.forme.closeMot, (s.dev.flt.halt = false) ∧ (s.dev.tim.mot < mainDeadline s.dev b))) ∧
    (let s : State := poke [fun d => { d with forme := { d.forme with st := 2 } }]; (s.dev.alive = true) ∧ (s.dev.forme.st = 2)
    ∧ (s.dev.forme.closeMot = none)) ∧
    (let s : State := poke [fun d => { d with forme := { d.forme with st := 2 } }]; (s.dev.alive = true) ∧ (s.dev.forme.st = 2)
    ∧ (s.dev.runtimeActs = true)) := by
  iterate 10 refine And.intro (by decide +kernel) ?_
  decide +kernel

/-- Each premise set of `OnlineChange` is met. -/
theorem test_witness_OnlineChange :
    (let s : State := State.reset; let h : Fin 2 := 0; (s.dev.alive = true) ∧ (s.dev.olc.st ≠ 1) ∧ (s.dev.olc.st ≠ 2) ∧ (h.val = s.dev.forme.half)) ∧
    (let s : State := State.reset; let h : Fin 2 := 1; (s.dev.alive = true) ∧ (s.dev.olc.st ≠ 1) ∧ (s.dev.olc.st ≠ 2) ∧ (h.val ≠ s.dev.forme.half)
    ∧ (formeOk s h.val false = false)) ∧
    (let s : State := putSram (putSram (putSram (putSram (putSram (putSram (putSram (putSram (putSram (putSram (putSram (putSram (putSram (putSram (putSram (putSram (putSram (putSram (putSram (putSram (putSram (putSram (poke [fun d => { d with boot := { d.boot with mark := 3 } }]) 270532608 [70, 79, 82, 77]) 270532613 [1, 128]) 270532617 [4]) 270532620 [7]) 270532624 [9]) 270532628 [4]) 270532630 [4]) 270532632 [128]) 270532640 [208]) 270532645 [1]) 270532648 [64]) 270532652 [128, 1]) 270532656 [16]) 270532660 [255, 255]) 270532664 [1]) 270532666 [2]) 270532668 [5]) 270532672 [16]) 270532732 [184, 39, 136, 115]) 270532754 [2]) 270532774 [2]) 270532794 [2];
    let h : Fin 2 := 1; (s.dev.alive = true) ∧ (s.dev.olc.st ≠ 1) ∧ (s.dev.olc.st ≠ 2) ∧ (h.val ≠ s.dev.forme.half) ∧ (formeOk s h.val false = true)
    ∧ (s.dev.otp.lc < 2)) ∧
    (let s : State := putSram (poke [fun d => { d with olc := { d.olc with st := 1 } }, fun d => { d with forme := { d.forme with init := { st := .ended } } }, Dev.put pgFRM FRM.OLC_CFG.COPYMAX 0xFFFF]) 0x1000001C [0, 0, 0, 0]; (s.dev.alive = true)
    ∧ (s.dev.olc.st = 1) ∧ ((s.dev.task .init).st = .ended) ∧ ((formeTags s s.dev.forme.half) = [])) ∧
    (let s : State := poke [fun d => { d with olc := { d.olc with st := 2 } }]; (s.dev.alive = true) ∧ (s.dev.olc.st = 2)) ∧
    (let s : State := State.reset; (s.dev.alive = true) ∧ (s.dev.olc.st = 0 ∨ s.dev.olc.st = 3)) ∧
    (let s : State := poke [fun d => { d with olc := { d.olc with st := 1 } }]; (s.dev.alive = true) ∧ (s.dev.olc.st = 1 ∨ s.dev.olc.st = 2)) ∧
    (let s : State := State.reset; (s.dev.alive = true) ∧ (s.dev.olc.st = 0)) := by
  iterate 7 refine And.intro (by decide +kernel) ?_
  decide +kernel

/-- Each premise set of `CanReception` is met. -/
theorem test_witness_CanReception :
    (let s : State := State.reset; let c : Fin 3 := 0; (s.dev.alive = true) ∧ (canOnBus s.dev c.val = false)) ∧
    (let s : State := poke [fun d => { d with net := { d.net with can := vmod d.net.can 0 fun yi0 => { yi0 with objs := ([{ num := 1, brs := false, fdf := false, xtd := false, id := 5, tx := false, dlc := 3, iofs := 16, mask := 2047 }, { num := 3, brs := false, fdf := false, xtd := false, id := 6, tx := true, dlc := 8, iofs := 8, mask := 0 }, { num := 7, brs := false, fdf := false, xtd := false, id := 9, tx := true, dlc := 8, iofs := 0, mask := 0 }, { num := 2, brs := false, fdf := false, xtd := true, id := 5, tx := false, dlc := 2, iofs := 24, mask := 2047 }]) } } }, fun d => { d with net := { d.net with can := vmod d.net.can 0 fun yi0 => { yi0 with st := 2 } } }];
    let c : Fin 3 := 0;
    let f : CanFrame := { brs := false, fdf := false, xtd := true, id := 5, esi := false, rtr := false, res := false, dlc := 2, data := [3], len := 0, err := 0, errData := false, errDom := false, errMore := 0 }; (s.dev.alive = true)
    ∧ (canOnBus s.dev c.val = true) ∧ (f.err = 0) ∧ (f.fdf = false) ∧ (f.rtr = false) ∧ (∃ o ∈ canFind s.dev c.val f, (o.dlc = f.dlc) ∧ (o.num < 64)
    ∧ (canPdo s.dev c.val = true) ∧ (stnHolds s.dev c.val o.num f = false) ∧ (canTxRing s.dev c.val = none))) ∧
    (let s : State := poke [fun d => { d with net := { d.net with can := vmod d.net.can 0 fun yi0 => { yi0 with st := 2 } } }]; let c : Fin 3 := 0;
    let f : CanFrame := { brs := false, fdf := false, xtd := false, id := 99, esi := false, rtr := false, res := false, dlc := 1, data := [], len := 0, err := 0, errData := false, errDom := false, errMore := 0 }; (s.dev.alive = true)
    ∧ (canOnBus s.dev c.val = true) ∧ (f.err = 0) ∧ (f.fdf = false) ∧ ((f.rtr = true ∨ canFind s.dev c.val f = none
    ∧ ringActive s.dev (s.dev.get (pgCAN c.val) CAN.RINGSEL.RXRING) = false)) ∧ (canTxRing s.dev c.val = none)) ∧
    (let s : State := poke [fun d => { d with net := { d.net with can := vmod d.net.can 1 fun yi0 => { yi0 with st := 3 } } }]; let c : Fin 3 := 1;
    let f : CanFrame := { brs := false, fdf := true, xtd := false, id := 5, esi := false, rtr := false, res := true, dlc := 0, data := [], len := 0, err := 0, errData := false, errDom := false, errMore := 0 }; (s.dev.alive = true)
    ∧ (canOnBus s.dev c.val = true) ∧ (f.err = 0) ∧ (f.fdf = true) ∧ (f.res = true) ∧ (s.dev.on (pgCAN c.val) CAN.CTRL.FDEN = true)
    ∧ (s.dev.on (pgCAN c.val) CAN.CTRL.PEX = true)) ∧
    (let s : State := poke [fun d => { d with net := { d.net with can := vmod d.net.can 2 fun yi0 => { yi0 with st := 2 } } }, cell 2687492 0];
    let c : Fin 3 := 2;
    let f : CanFrame := { brs := false, fdf := true, xtd := false, id := 5, esi := false, rtr := false, res := true, dlc := 0, data := [], len := 0, err := 0, errData := false, errDom := false, errMore := 0 }; (s.dev.alive = true)
    ∧ (canOnBus s.dev c.val = true) ∧ (f.err = 0) ∧ (f.fdf = true) ∧ (f.res = true) ∧ (s.dev.on (pgCAN c.val) CAN.CTRL.FDEN = true)
    ∧ (s.dev.on (pgCAN c.val) CAN.CTRL.PEX = false)) := by
  iterate 4 refine And.intro (by decide +kernel) ?_
  decide +kernel

/-- Each premise set of `CanTransmission` is met. -/
theorem test_witness_CanTransmission :
    (let s : State := poke [fun d => { d with net := { d.net with can := vmod d.net.can 0 fun yi0 => { yi0 with sof := (some 3) } } }, fun d => { d with net := { d.net with can := vmod d.net.can 0 fun yi0 => { yi0 with noRetry := true } } }];
    let c : Fin 3 := 0; let j : Fin 64 := 3; (s.dev.alive = true) ∧ (s.clean) ∧ ((s.dev.cn c.val).sof = some j.val)
    ∧ (j.val < (s.dev.cn c.val).status.length) ∧ (c.val < s.dev.net.out.can.length) ∧ ((s.dev.cn c.val).noRetry = true)) ∧
    (let s : State := poke [fun d => { d with net := { d.net with can := vmod d.net.can 2 fun yi0 => { yi0 with pend := 169 } } }, fun d => { d with net := { d.net with can := vmod d.net.can 2 fun yi0 => { yi0 with sof := (some 3) } } }];
    let c : Fin 3 := 2; let j : Fin 64 := 3; (s.dev.alive = true) ∧ (s.clean) ∧ ((s.dev.cn c.val).sof = some j.val)
    ∧ (j.val < (s.dev.cn c.val).status.length) ∧ (c.val < s.dev.net.out.can.length) ∧ ((s.dev.cn c.val).noRetry = false)
    ∧ ((s.dev.cn c.val).txKind = 0) ∧ (bit (s.dev.cn c.val).pend j.val = true)) ∧
    (let s : State := poke [fun d => { d with net := { d.net with can := vmod d.net.can 0 fun y => { y with sof := some 64, ringAt := packetBase } } }];
    let c : Fin 3 := 0; let a : W32 := BitVec.ofNat 32 packetBase; (s.dev.alive = true) ∧ (s.clean) ∧ (packetBase ≤ a.toNat)
    ∧ (a.toNat + 84 ≤ packetBase + packetSize) ∧ ((s.dev.cn c.val).sof = some 64) ∧ ((s.dev.cn c.val).ringAt = a.toNat)) ∧
    (let s : State := putSram State.reset packetBase [0, 0, 0, 0]; let c : Fin 3 := 0; let a : W32 := BitVec.ofNat 32 packetBase; (s.dev.alive = true)
    ∧ (s.clean) ∧ (packetBase ≤ a.toNat) ∧ (a.toNat + 84 ≤ packetBase + packetSize) ∧ ((s.dev.cn c.val).sof = none)
    ∧ (bitsOf (s.peek a.toNat 4) 4 4 = 0) ∧ (canTxRing s.dev c.val = none)) ∧
    (let s : State := State.reset; let a : W32 := 0x00000000#32; (s.dev.alive = true) ∧ (s.clean) ∧ (a.toNat < packetBase)) := by
  iterate 4 refine And.intro (by decide +kernel) ?_
  decide +kernel

/-- Each premise set of `CanBusOff` is met. -/
theorem test_witness_CanBusOff :
    (let s : State := poke [fun d => { d with net := { d.net with can := vmod d.net.can 2 fun yi0 => { yi0 with st := 2 } } }, fun d => { d with net := { d.net with can := vmod d.net.can 2 fun yi0 => { yi0 with tec := 260 } } }, cell 2687493 0];
    let c : Fin 3 := 2; (s.dev.alive = true) ∧ ((s.dev.cn c.val).st = 2 ∨ (s.dev.cn c.val).st = 3) ∧ (256 ≤ (s.dev.cn c.val).tec)
    ∧ (s.dev.on (pgCAN c.val) CAN.CTRL.BOAUTO = false)) ∧
    (let s : State := State.reset; let c : Fin 3 := 0; (s.dev.alive = true) ∧ ((s.dev.cn c.val).tec ≤ 255)) ∧
    (let s : State := poke [fun d => { d with tim := { d.tim with mot := 2000000676389 } }, fun d => { d with net := { d.net with can := vmod d.net.can 2 fun yi0 => { yi0 with st := 4 } } }];
    let c : Fin 3 := 2; (s.dev.alive = true) ∧ ((s.dev.cn c.val).st = 4) ∧ ((s.dev.cn c.val).boRec = false) ∧ ((s.dev.cn c.val).boLatched = false)
    ∧ ((s.dev.cn c.val).boReset = false) ∧ (s.dev.on (pgCAN c.val) CAN.CTRL.BOAUTO = true)
    ∧ ((s.dev.cn c.val).boAt + msMot (s.dev.get (pgCAN c.val) CAN.BOCFG.BOHOLD) ≤ s.dev.tim.mot)) ∧
    (let s : State := poke [fun d => { d with net := { d.net with can := vmod d.net.can 2 fun yi0 => { yi0 with st := 4 } } }];
    let c : Fin 3 := 2; (s.dev.alive = true) ∧ ((s.dev.cn c.val).st = 4) ∧ ((s.dev.cn c.val).boRec = false) ∧ ((s.dev.cn c.val).boLatched = false)
    ∧ ((s.dev.cn c.val).boReset = false) ∧ (s.dev.on (pgCAN c.val) CAN.CTRL.BOAUTO = true)
    ∧ (s.dev.tim.mot < (s.dev.cn c.val).boAt + msMot (s.dev.get (pgCAN c.val) CAN.BOCFG.BOHOLD))) ∧
    (let s : State := poke [fun d => { d with net := { d.net with can := vmod d.net.can 0 fun yi0 => { yi0 with st := 4 } } }, fun d => { d with net := { d.net with can := vmod d.net.can 0 fun yi0 => { yi0 with boRec := true } } }];
    let c : Fin 3 := 0; (s.dev.alive = true) ∧ ((s.dev.cn c.val).st = 4) ∧ ((s.dev.cn c.val).boRec = true)) ∧
    (let s : State := poke [fun d => { d with net := { d.net with can := vmod d.net.can 1 fun yi0 => { yi0 with st := 1 } } }];
    let c : Fin 3 := 1; (s.dev.alive = true) ∧ ((s.dev.cn c.val).st = 1) ∧ ((s.dev.cn c.val).pxInt = false)) ∧
    (let s : State := State.reset; let c : Fin 3 := 0; (s.dev.alive = true) ∧ ((s.dev.cn c.val).st ≠ 1)) := by
  iterate 6 refine And.intro (by decide +kernel) ?_
  decide +kernel

/-- Each premise set of `LeafBus` is met. -/
theorem test_witness_LeafBus :
    (let s : State := poke [fun d => { d with tim := { d.tim with mot := 5000235047 } }, fun d => { d with net := { d.net with can := vmod d.net.can 0 fun yi0 => { yi0 with st := 2 } } }, fun d => { d with net := { d.net with lb := { d.net.lb with tt := true } } }, fun d => { d with net := { d.net with lb := { d.net.lb with slot := (some 0) } } }]; (s.dev.alive = true)
    ∧ (s.clean) ∧ (s.dev.net.lb.tt = true) ∧ (s.dev.net.lb.slot = some 0) ∧ (s.dev.net.lb.refSent = false) ∧ (canSends s.dev 0 = true)
    ∧ ((s.dev.cn 0).sof = none) ∧ (s.dev.net.lb.bnd + refMot s.dev ≤ s.dev.tim.mot) ∧ (0 < s.dev.net.out.can.length)) ∧
    (let s : State := poke [fun d => { d with tim := { d.tim with mot := 2000000253834 } }, fun d => { d with net := { d.net with lb := { d.net.lb with tt := true } } }, fun d => { d with net := { d.net with lb := { d.net.lb with slot := (some 0) } } }]; (s.dev.alive = true)
    ∧ (s.clean) ∧ (s.dev.net.lb.tt = true) ∧ (s.dev.net.lb.slot = some 0) ∧ (slotEndMot s.dev 0 ≤ s.dev.tim.mot) ∧ (s.dev.net.lb.refSent = false)) ∧
    (let s : State := poke [fun d => { d with net := { d.net with lb := { d.net.lb with missRun := 5 } } }]; (s.dev.alive = true) ∧ (s.clean)
    ∧ (3 ≤ s.dev.net.lb.missRun) ∧ (s.dev.net.lb.refFail = false) ∧ (s.dev.queueRoom = true)) ∧
    (let s : State := State.reset; (s.dev.alive = true) ∧ (s.clean) ∧ (s.dev.net.lb.missRun < 3)) ∧
    (let s : State := poke [fun d => { d with net := { d.net with lb := { d.net.lb with tt := true } } }, fun d => { d with net := { d.net with lb := { d.net.lb with slot := none } } }, fun d => { d with net := { d.net with lb := { d.net.lb with last := 0 } } }, Dev.put pgIMPO IMPO.TT_CFG.NSLOT 2, Dev.put pgIMPO IMPO.TT_CFG.SLOTW 80, Dev.put pgFRM FRM.CYCLE_N.N 0, fun d => { d with tim := { d.tim with mot := 1000000 } }];
    let j : Fin 32 := 1; (s.dev.alive = true) ∧ (s.clean) ∧ (s.dev.net.lb.tt = true) ∧ (s.dev.net.lb.slot = none) ∧ (s.dev.net.lb.last < j.val)
    ∧ (j.val < s.dev.get pgIMPO IMPO.TT_CFG.NSLOT) ∧ (s.dev.net.lb.base + j.val * slotMot s.dev ≤ s.dev.tim.mot)
    ∧ (s.dev.net.lb.bnd + cycleMot s.dev < slotEndMot s.dev j.val + 5000)) ∧
    (let s : State := poke [fun d => { d with tim := { d.tim with mot := 5000474566 } }, fun d => { d with net := { d.net with lb := { d.net.lb with tt := true } } }];
    let j : Fin 32 := 3; (s.dev.alive = true) ∧ (s.clean) ∧ (s.dev.net.lb.tt = true) ∧ (s.dev.net.lb.slot = none) ∧ (s.dev.net.lb.last < j.val)
    ∧ (j.val < s.dev.get pgIMPO IMPO.TT_CFG.NSLOT) ∧ (s.dev.net.lb.base + j.val * slotMot s.dev ≤ s.dev.tim.mot)
    ∧ (slotEndMot s.dev j.val + 5000 ≤ s.dev.net.lb.bnd + cycleMot s.dev)) ∧
    (let s : State := poke [fun d => { d with tim := { d.tim with mot := 5000756199 } }, fun d => { d with net := { d.net with lb := { d.net.lb with tt := true } } }, fun d => { d with net := { d.net with lb := { d.net.lb with slot := (some 2) } } }, fun d => { d with net := { d.net with lb := { d.net.lb with stn := modNth (fun yi0 => { yi0 with st := 2 }) d.net.lb.stn 0 } } }, fun d => { d with net := { d.net with lb := { d.net.lb with stn := modNth (fun yi0 => { yi0 with met := true }) d.net.lb.stn 0 } } }, cell 2720799 1, cell 2736128 3233857728];
    let j : Fin 32 := 2; let k : Fin 16 := 0; (s.dev.alive = true) ∧ (s.clean) ∧ (s.dev.net.lb.tt = true) ∧ (s.dev.net.lb.slot = some j.val)
    ∧ (j.val ≠ 0) ∧ (slotEndMot s.dev j.val ≤ s.dev.tim.mot) ∧ (cellOf s.dev s.dev.net.lb.row j.val = 192 + k.val) ∧ (k.val < s.dev.net.lb.stn.length)
    ∧ ((s.dev.stn k.val).st = 2) ∧ ((s.dev.stn k.val).met = true)) ∧
    (let s : State := poke [fun d => { d with net := { d.net with lb := { d.net.lb with tt := true } } }, fun d => { d with net := { d.net with lb := { d.net.lb with slot := some 1 } } }, fun d => { d with net := { d.net with lb := { d.net.lb with stn := modNth (fun y => { y with st := 2 }) d.net.lb.stn 0 } } }, Dev.put pgIMPO (IMPO.MATRIX.CELLS.at 0) 0xC000, Dev.put pgIMPO (IMPO.STN.EN.at 0) 1, Dev.put pgIMPO (IMPO.STN.KMISS.at 0) 1, fun d => { d with tim := { d.tim with mot := 1000000 } }];
    let j : Fin 32 := 1; let k : Fin 16 := 0; (s.dev.alive = true) ∧ (s.clean) ∧ (s.dev.net.lb.tt = true) ∧ (s.dev.net.lb.slot = some j.val)
    ∧ (j.val ≠ 0) ∧ (slotEndMot s.dev j.val ≤ s.dev.tim.mot) ∧ (cellOf s.dev s.dev.net.lb.row j.val = 192 + k.val) ∧ (k.val < s.dev.net.lb.stn.length)
    ∧ ((s.dev.stn k.val).st = 2) ∧ ((s.dev.stn k.val).met = false) ∧ (s.dev.get pgIMPO (IMPO.STN.KMISS.at k.val) ≤ (s.dev.stn k.val).miss + 1)) ∧
    (let s : State := poke [fun d => { d with tim := { d.tim with mot := 5000929947 } }, fun d => { d with net := { d.net with lb := { d.net.lb with tt := true } } }, fun d => { d with net := { d.net with lb := { d.net.lb with stn := modNth (fun yi0 => { yi0 with st := 1 }) d.net.lb.stn 2 } } }, cell 2720863 1];
    let k : Fin 16 := 2; (s.dev.alive = true) ∧ (s.clean) ∧ (s.dev.net.lb.tt = true) ∧ (stnEn s.dev k.val = true) ∧ ((s.dev.stn k.val).st = 1)
    ∧ (s.dev.net.lb.startMot + msMot (100 * s.dev.get pgIMPO IMPO.REF_T.STNWAIT) ≤ s.dev.tim.mot)) ∧
    (let s : State := poke [fun d => { d with net := { d.net with lb := { d.net.lb with tt := true } } }, fun d => { d with net := { d.net with lb := { d.net.lb with stn := modNth (fun yi0 => { yi0 with st := 1 }) d.net.lb.stn 2 } } }, cell 2720863 1];
    let k : Fin 16 := 2; (s.dev.alive = true) ∧ (s.clean) ∧ (s.dev.net.lb.tt = true) ∧ (stnEn s.dev k.val = true) ∧ ((s.dev.stn k.val).st = 1)
    ∧ (s.dev.tim.mot < s.dev.net.lb.startMot + msMot (100 * s.dev.get pgIMPO IMPO.REF_T.STNWAIT))) := by
  iterate 9 refine And.intro (by decide +kernel) ?_
  decide +kernel

/-- Each premise set of `EthernetFrames` is met. -/
theorem test_witness_EthernetFrames :
    (let s : State := State.reset; let p : Fin 2 := 0; (s.dev.alive = true) ∧ (ethUp s.dev (p.val + 1) = false) ∧ (∃ e : Bool, True)) ∧
    (let s : State := poke [cell 2883712 1, cell 2884097 1, cell 2884224 2, cell 2886656 1]; let p : Fin 2 := 0;
    let f : EthFrame := { dst := 68, src := 34, tag := none, etype := 0, data := [] }; (s.dev.alive = true) ∧ (ethUp s.dev (p.val + 1) = true)
    ∧ (f.data.length ≤ 1500) ∧ (f.tag = none)
    ∧ (vlanEntry s.dev (s.dev.get pgETH (if p.val = 0 then ETH.PVID.P1PVID else ETH.PVID.P2PVID)) (p.val + 1) = none) ∧ (p.val = 0)) ∧
    (let s : State := poke [Dev.put pgETH HDR.EN 1, Dev.put pgETH ETH.PORTCFG.P2EN 1, Dev.put pgETH ETH.PORTSTAT.P2LINK 1, Dev.put pgETH ETH.PVID.P2PVID 9];
    let p : Fin 2 := 1; let f : EthFrame := {}; (s.dev.alive = true) ∧ (ethUp s.dev (p.val + 1) = true) ∧ (f.data.length ≤ 1500) ∧ (f.tag = none)
    ∧ (vlanEntry s.dev (s.dev.get pgETH (if p.val = 0 then ETH.PVID.P1PVID else ETH.PVID.P2PVID)) (p.val + 1) = none) ∧ (p.val = 1)) ∧
    (let s : State := poke [cell 2883712 1, cell 2884101 1, cell 2886660 1]; let p : Fin 2 := 1;
    let f : EthFrame := { dst := 68, src := 34, tag := none, etype := 0, data := [] }; (s.dev.alive = true) ∧ (ethUp s.dev (p.val + 1) = true)
    ∧ (f.data.length ≤ 1500) ∧ (f.tag = none)
    ∧ (∃ k ∈ vlanEntry s.dev (s.dev.get pgETH (if p.val = 0 then ETH.PVID.P1PVID else ETH.PVID.P2PVID)) (p.val + 1), (p0Accepts s.dev f = false))) ∧
    (let s : State := poke [cell 2883712 1, cell 2884101 1, cell 2886660 1]; let p : Fin 2 := 1;
    let f : EthFrame := { dst := 68, src := 34, tag := none, etype := 0, data := [] }; (s.dev.alive = true) ∧ (ethUp s.dev (p.val + 1) = true)
    ∧ (f.data.length ≤ 1500) ∧ (f.tag = none)
    ∧ (∃ k ∈ vlanEntry s.dev (s.dev.get pgETH (if p.val = 0 then ETH.PVID.P1PVID else ETH.PVID.P2PVID)) (p.val + 1), (p0Accepts s.dev f = false)
    ∧ (macGroup f.src = false) ∧ (s.dev.net.eth.mac.length < 1024))) ∧
    (let s : State := poke [cell 2883712 1, cell 2884101 1, cell 2886660 1]; let p : Fin 2 := 1;
    let f : EthFrame := { dst := 68, src := 34, tag := none, etype := 0, data := [] }; (s.dev.alive = true) ∧ (ethUp s.dev (p.val + 1) = true)
    ∧ (f.data.length ≤ 1500) ∧ (f.tag = none)
    ∧ (∃ k ∈ vlanEntry s.dev (s.dev.get pgETH (if p.val = 0 then ETH.PVID.P1PVID else ETH.PVID.P2PVID)) (p.val + 1), (p0Accepts s.dev f = false)
    ∧ (s.dev.on pgETH ETH.PORTCFG.FWD = false))) ∧
    (let s : State := poke [cell 2883712 1, cell 2884097 1, cell 2884100 1, cell 2884101 1, cell 2886656 1, cell 2886660 1]; let p : Fin 2 := 1;
    let f : EthFrame := { dst := 1, src := 38, tag := none, etype := 2048, data := [] }; (s.dev.alive = true) ∧ (ethUp s.dev (p.val + 1) = true)
    ∧ (f.data.length ≤ 1500) ∧ (f.tag = none)
    ∧ (∃ k ∈ vlanEntry s.dev (s.dev.get pgETH (if p.val = 0 then ETH.PVID.P1PVID else ETH.PVID.P2PVID)) (p.val + 1), (p0Accepts s.dev f = false)
    ∧ (s.dev.on pgETH ETH.PORTCFG.FWD = true) ∧ (ethUp s.dev (2 - p.val) = true) ∧ (bit (s.dev.get pgETH (ETH.VLAN.MEMBER.at k)) (2 - p.val) = true)
    ∧ (f.dst ≠ f.src) ∧ ((∀ x ∈ s.dev.net.eth.mac, x.mac ≠ f.dst)) ∧ (s.dev.net.eth.q.length < 64))) ∧
    (let s : State := State.reset; let p : Fin 2 := 0; let v : Fin 3 := 1; (s.dev.alive = true) ∧ (s.dev.part.hasNet = true)
    ∧ (s.dev.get pgETH (if p.val = 0 then ETH.PORTSTAT.P1SPD else ETH.PORTSTAT.P2SPD) ≠ v.val)) ∧
    (let s : State := poke [cell 2886656 1]; let p : Fin 2 := 0; let v : Fin 3 := 0; (s.dev.alive = true) ∧ (s.dev.part.hasNet = true) ∧ (v.val = 0)
    ∧ (s.dev.on pgETH (if p.val = 0 then ETH.PORTSTAT.P1LINK else ETH.PORTSTAT.P2LINK) = true) ∧ (s.dev.queueRoom = true)) := by
  iterate 8 refine And.intro (by decide +kernel) ?_
  decide +kernel

/-- Each premise set of `PrecisionTime` is met. -/
theorem test_witness_PrecisionTime :
    (let s : State := poke [fun d => { d with net := { d.net with ptp := { d.net.ptp with lastSync := (some 5) } } }, cell 2883712 1, cell 2884097 1, cell 2886656 1, cell 2949248 1];
    let e : SyncEnv := { port := 0, gm := 0x0000000000000007#64, origin := 0x000000003b9aca00#64, corr := 0, ageNs := 0, delay := some (0, 10, 20, 34), intervalNs := 1000000000, slave := true }; (s.dev.alive = true)
    ∧ (ptpOn s.dev = true) ∧ (ptpPort s.dev (e.port.val + 1) = true) ∧ (ethUp s.dev (e.port.val + 1) = true) ∧ (syncFrom e s.dev = true)
    ∧ (s.dev.net.ptp.lastSync.isSome = true) ∧ (s.dev.net.ptp.gm ≠ e.gm.toNat)) ∧
    (let s : State := poke [cell 2883712 1, cell 2884097 1, cell 2886656 1, cell 2949248 1];
    let e : SyncEnv := { port := 0, gm := 0x0000000000000007#64, origin := 0x000000003b9aca00#64, corr := 0, ageNs := 0, delay := some (0, 10, 20, 34), intervalNs := 1000000000, slave := true }; (s.dev.alive = true)
    ∧ (ptpOn s.dev = true) ∧ (ptpPort s.dev (e.port.val + 1) = true) ∧ (ethUp s.dev (e.port.val + 1) = true) ∧ (syncFrom e s.dev = true)
    ∧ ((s.dev.get pgPTP PTP.PTP_LIM.STEPTH * 1000 : Int) < absI (syncOffset e s.dev))) ∧
    (let s : State := poke [fun d => { d with tim := { d.tim with dtF := 1000000000000000000 } }, fun d => { d with net := { d.net with ptp := { d.net.ptp with lockN := 16 } } }, cell 2883712 1, cell 2884097 1, cell 2886656 1, cell 2949248 1];
    let e : SyncEnv := { port := 0, gm := 0x0000000000000007#64, origin := 0x000000003b9aca00#64, corr := 0, ageNs := 0, delay := some (0, 10, 20, 34), intervalNs := 1000000000, slave := true }; (s.dev.alive = true)
    ∧ (ptpOn s.dev = true) ∧ (ptpPort s.dev (e.port.val + 1) = true) ∧ (ethUp s.dev (e.port.val + 1) = true) ∧ (syncFrom e s.dev = true)
    ∧ (absI (syncOffset e s.dev) ≤ (s.dev.get pgPTP PTP.PTP_LIM.STEPTH * 1000 : Int)) ∧ (e.slave = true) ∧ (absI (syncOffset e s.dev) < 1000)
    ∧ (15 ≤ s.dev.net.ptp.lockN) ∧ (s.dev.get pgSYS SYS.DT_STAT.SRC ≠ 3)) ∧
    (let s : State := State.reset;
    let e : SyncEnv := { port := 0, gm := 0x0000000000000007#64, origin := 0x000000003b9aca00#64, corr := 0, ageNs := 0, delay := some (0, 10, 20, 34), intervalNs := 1000000000, slave := true }; (s.dev.alive = true)
    ∧ ((ptpOn s.dev = false ∨ ptpPort s.dev (e.port.val + 1) = false ∨ ethUp s.dev (e.port.val + 1) = false ∨ syncFrom e s.dev = false))) ∧
    (let s : State := poke [fun d => { d with tim := { d.tim with mot := 5000901801 } }, fun d => { d with net := { d.net with ptp := { d.net.ptp with st := 3 } } }, fun d => { d with net := { d.net with ptp := { d.net.ptp with lastSync := (some 5) } } }, cell 2949248 1]; (s.dev.alive = true)
    ∧ (∃ x ∈ s.dev.net.ptp.lastSync, (ptpOn s.dev = true) ∧ (s.dev.net.ptp.st = 2 ∨ s.dev.net.ptp.st = 3)
    ∧ (x * 4 + 3 * s.dev.net.ptp.interval ≤ s.dev.tim.mot * 4))) ∧
    (let s : State := poke [fun d => { d with net := { d.net with ptp := { d.net.ptp with st := 3 } } }, fun d => { d with net := { d.net with ptp := { d.net.ptp with lastSync := (some 2000000676389) } } }, cell 2883712 1, cell 2884097 1, cell 2886656 1, cell 2949248 1, cell 2950150 1]; (s.dev.alive = true)
    ∧ (∃ x ∈ s.dev.net.ptp.lastSync, (ptpOn s.dev = true) ∧ (s.dev.net.ptp.st = 2 ∨ s.dev.net.ptp.st = 3)
    ∧ (s.dev.tim.mot * 4 < x * 4 + 3 * s.dev.net.ptp.interval) ∧ (ethUp s.dev (s.dev.get pgPTP PTP.PTP_STAT.PORT) = true))) ∧
    (let s : State := poke [fun d => { d with tim := { d.tim with mot := 2000000615418 } }, fun d => { d with net := { d.net with ptp := { d.net.ptp with holdAt := (some 5) } } }, cell 2949248 1]; (s.dev.alive = true)
    ∧ (∃ x ∈ s.dev.net.ptp.holdAt, (ptpOn s.dev = true) ∧ (s.dev.net.ptp.lostRep = false)
    ∧ (x + msMot (1000 * s.dev.get pgPTP PTP.PTP_LIM.HOLDT) ≤ s.dev.tim.mot))) ∧
    (let s : State := poke [fun d => { d with tim := { d.tim with mot := 2000000615418 } }, fun d => { d with net := { d.net with ptp := { d.net.ptp with holdAt := (some 5) } } }, cell 2949248 1]; (s.dev.alive = true)
    ∧ (∃ x ∈ s.dev.net.ptp.holdAt, (ptpOn s.dev = true) ∧ (s.dev.net.ptp.lostRep = false)
    ∧ (x + msMot (1000 * s.dev.get pgPTP PTP.PTP_LIM.HOLDT) ≤ s.dev.tim.mot) ∧ (s.dev.queueRoom = true))) ∧
    (let s : State := poke [fun d => { d with net := { d.net with ptp := { d.net.ptp with holdAt := (some 5000329035) } } }, cell 2949248 1]; (s.dev.alive = true)
    ∧ (∃ x ∈ s.dev.net.ptp.holdAt, (ptpOn s.dev = true) ∧ (s.dev.net.ptp.lostRep = false)
    ∧ (s.dev.tim.mot < x + msMot (1000 * s.dev.get pgPTP PTP.PTP_LIM.HOLDT)))) ∧
    (let s : State := poke [cell 2883712 1, cell 2884097 1, cell 2886656 1, cell 2949248 1]; let p : Fin 2 := 0; (s.dev.alive = true)
    ∧ (ptpOn s.dev = true) ∧ (ptpPort s.dev (p.val + 1) = true) ∧ (ethUp s.dev (p.val + 1) = true)) ∧
    (let s : State := poke [cell 2949248 1]; let p : Fin 2 := 0; (s.dev.alive = true) ∧ (ptpOn s.dev = true) ∧ (ethUp s.dev (p.val + 1) = false)) := by
  iterate 10 refine And.intro (by decide +kernel) ?_
  decide +kernel

/-- Each premise set of `Telegrams` is met. -/
theorem test_witness_Telegrams :
    (let s : State := State.reset; (s.dev.alive = true) ∧ (s.clean) ∧ (trdpOn s.dev = false)) ∧
    (let s : State := poke [cell 2916480 1];
    let r : Telegram := { srcIp := 0, seq := 0, ver := 256, msgType := 20580, comId := 0, etbTopo := 0, opTopo := 0, dlen := 0, fcsOk := false, data := [], len := 0 }; (s.dev.alive = true)
    ∧ (s.clean) ∧ (trdpOn s.dev = true) ∧ ((r.fcsOk = false ∨ r.ver / 256 ≠ 1 ∨ r.msgType ≠ 0x5064))) ∧
    (let s : State := poke [fun d => { d with net := { d.net with trdp := { d.net.trdp with subs := ([{ d := { comid := 100, srcIp := 0, dlen := 2, topoChk := false, tob := false, iofs := 16, tmo := 5, en := true }, ok := true, valid := false, lastSeq := none, rxDt := none, new := false, tmoRep := false }]) } } }, cell 2916480 1];
    let r : Telegram := { srcIp := 0, seq := 7, ver := 256, msgType := 20580, comId := 100, etbTopo := 0, opTopo := 0, dlen := 2, fcsOk := true, data := [3, 4], len := 10 };
    let i : Fin 512 := 0; (s.dev.alive = true) ∧ (s.clean) ∧ (trdpOn s.dev = true) ∧ (r.fcsOk = true) ∧ (r.ver / 256 = 1) ∧ (r.msgType = 0x5064)
    ∧ (∃ x ∈ s.dev.net.trdp.subs[i.val]?, (x.named r = true) ∧ (subRefuse s.dev r x = 0)
    ∧ ((∀ y ∈ s.dev.net.trdp.subs.take i.val, y.named r = true → subRefuse s.dev r y ≠ 0)))) ∧
    (let s : State := poke [fun d => { d with net := { d.net with trdp := { d.net.trdp with subs := ([{ d := { comid := 100, srcIp := 0, dlen := 2, topoChk := true, tob := false, iofs := 17, tmo := 5, en := true }, ok := true, valid := true, lastSeq := some 7, rxDt := some 5, new := false, tmoRep := false }, { d := { comid := 100, srcIp := 0, dlen := 3, topoChk := false, tob := false, iofs := 32, tmo := 5, en := true }, ok := true, valid := true, lastSeq := some 4, rxDt := some 5, new := false, tmoRep := true }]) } } }, cell 2916480 1];
    let r : Telegram := { srcIp := 0, seq := 7, ver := 256, msgType := 20580, comId := 100, etbTopo := 0, opTopo := 0, dlen := 2, fcsOk := true, data := [3, 4], len := 10 }; (s.dev.alive = true)
    ∧ (s.clean) ∧ (trdpOn s.dev = true) ∧ (r.fcsOk = true) ∧ (r.ver / 256 = 1) ∧ (r.msgType = 0x5064)
    ∧ ((∀ y ∈ s.dev.net.trdp.subs, y.named r = true → subRefuse s.dev r y ≠ 0)) ∧ ((∃ y ∈ s.dev.net.trdp.subs, y.named r = true
    ∧ subRefuse s.dev r y = 3))) ∧
    (let s : State := poke [fun d => { d with net := { d.net with trdp := { d.net.trdp with subs := ([{ d := { comid := 100, srcIp := 0, dlen := 2, topoChk := true, tob := false, iofs := 17, tmo := 5, en := true }, ok := true, valid := true, lastSeq := some 7, rxDt := some 5, new := false, tmoRep := false }, { d := { comid := 100, srcIp := 0, dlen := 3, topoChk := false, tob := false, iofs := 32, tmo := 5, en := true }, ok := true, valid := true, lastSeq := some 4, rxDt := some 5, new := false, tmoRep := true }]) } } }, cell 2916480 1];
    let r : Telegram := { srcIp := 0, seq := 4, ver := 256, msgType := 20580, comId := 100, etbTopo := 9, opTopo := 0, dlen := 2, fcsOk := true, data := [3, 4], len := 10 }; (s.dev.alive = true)
    ∧ (s.clean) ∧ (trdpOn s.dev = true) ∧ (r.fcsOk = true) ∧ (r.ver / 256 = 1) ∧ (r.msgType = 0x5064)
    ∧ ((∀ y ∈ s.dev.net.trdp.subs, y.named r = true → subRefuse s.dev r y ≠ 0)) ∧ ((∃ y ∈ s.dev.net.trdp.subs, y.named r = true
    ∧ subRefuse s.dev r y = 2)) ∧ ((∀ y ∈ s.dev.net.trdp.subs, y.named r = true → subRefuse s.dev r y ≤ 2))) ∧
    (let s : State := poke [fun d => { d with net := { d.net with trdp := { d.net.trdp with subs := ([{ d := { comid := 100, srcIp := 0, dlen := 2, topoChk := false, tob := false, iofs := 16, tmo := 5, en := true }, ok := true, valid := false, lastSeq := none, rxDt := none, new := false, tmoRep := false }]) } } }, cell 2916480 1];
    let r : Telegram := { srcIp := 0, seq := 8, ver := 256, msgType := 20580, comId := 100, etbTopo := 0, opTopo := 0, dlen := 3, fcsOk := true, data := [3, 4, 5], len := 10 }; (s.dev.alive = true)
    ∧ (s.clean) ∧ (trdpOn s.dev = true) ∧ (r.fcsOk = true) ∧ (r.ver / 256 = 1) ∧ (r.msgType = 0x5064)
    ∧ ((∀ y ∈ s.dev.net.trdp.subs, y.named r = true → subRefuse s.dev r y ≠ 0)) ∧ ((∃ y ∈ s.dev.net.trdp.subs, y.named r = true
    ∧ subRefuse s.dev r y = 1)) ∧ ((∀ y ∈ s.dev.net.trdp.subs, y.named r = true → subRefuse s.dev r y ≤ 1))) ∧
    (let s : State := poke [cell 2916480 1];
    let r : Telegram := { srcIp := 0, seq := 7, ver := 256, msgType := 20580, comId := 100, etbTopo := 0, opTopo := 0, dlen := 2, fcsOk := true, data := [3, 4], len := 10 }; (s.dev.alive = true)
    ∧ (s.clean) ∧ (trdpOn s.dev = true) ∧ (r.fcsOk = true) ∧ (r.ver / 256 = 1) ∧ (r.msgType = 0x5064)
    ∧ ((∀ y ∈ s.dev.net.trdp.subs, y.named r = true → subRefuse s.dev r y ≠ 0)) ∧ ((∀ y ∈ s.dev.net.trdp.subs, y.named r = false))) ∧
    (let s : State := poke [fun d => { d with tim := { d.tim with mot := 5000760949 } }, cell 2916480 1]; (s.dev.alive = true) ∧ (s.clean)
    ∧ (trdpOn s.dev = true) ∧ (s.dev.net.trdp.bnd + s.dev.get pgTRDP TRDP.TRDP_CFG.TXDLY * 250 ≤ s.dev.tim.mot)) ∧
    (let s : State := poke [cell 2916480 1]; (s.dev.alive = true) ∧ (s.clean) ∧ (trdpOn s.dev = true)
    ∧ (s.dev.tim.mot < s.dev.net.trdp.bnd + s.dev.get pgTRDP TRDP.TRDP_CFG.TXDLY * 250)) := by
  iterate 8 refine And.intro (by decide +kernel) ?_
  decide +kernel

/-- Each premise set of `RingIndices` is met. -/
theorem test_witness_RingIndices :
    (let s : State := poke [cell 3148288 81]; let k : Fin 32 := 0; let l : List Byte := []; (s.dev.alive = true) ∧ (s.clean)
    ∧ (s.dev.ringsQuiet = true) ∧ (ringActive s.dev k.val = true) ∧ (0 < ringEntries s.dev k.val) ∧ (ringProd s k.val < ringEntries s.dev k.val)
    ∧ (ringCons s k.val < ringEntries s.dev k.val) ∧ (Memory.wf sramEmpty s.mem = true) ∧ (ringFull s k.val = false)
    ∧ (l.length + 4 ≤ ringSize s.dev k.val)) ∧
    (let s : State := putSram (putSram (poke [cell 3146624 196608, cell 3146656 4, cell 3148288 81]) 671285248 [2]) 671285252 [3];
    let k : Fin 32 := 6; let a : Nat := 0; (s.dev.alive = true) ∧ (s.clean) ∧ (s.dev.ringsQuiet = true) ∧ (ringActive s.dev k.val = true)
    ∧ (0 < ringEntries s.dev k.val) ∧ (ringProd s k.val < ringEntries s.dev k.val) ∧ (ringCons s k.val < ringEntries s.dev k.val)
    ∧ (Memory.wf sramEmpty s.mem = true) ∧ (ringFull s k.val = true) ∧ (a < ringBase s.dev k.val + 8 ∨ ringBase s.dev k.val + 12 ≤ a)) ∧
    (let s : State := putSram (poke [cell 3146272 8, cell 3148288 81]) 671088640 [2]; let k : Fin 32 := 0; let a : Nat := 0; (s.dev.alive = true)
    ∧ (s.clean) ∧ (s.dev.ringsQuiet = true) ∧ (ringActive s.dev k.val = true) ∧ (0 < ringEntries s.dev k.val)
    ∧ (ringProd s k.val < ringEntries s.dev k.val) ∧ (ringCons s k.val < ringEntries s.dev k.val) ∧ (Memory.wf sramEmpty s.mem = true)
    ∧ (ringProd s k.val ≠ ringCons s k.val) ∧ (a < ringBase s.dev k.val + 4 ∨ ringBase s.dev k.val + 8 ≤ a)) ∧
    (let s : State := poke [cell 3148288 169]; let k : Fin 32 := 3; (s.dev.alive = true) ∧ (s.clean) ∧ (s.dev.ringsQuiet = true)
    ∧ (ringActive s.dev k.val = true) ∧ (0 < ringEntries s.dev k.val) ∧ (ringProd s k.val < ringEntries s.dev k.val)
    ∧ (ringCons s k.val < ringEntries s.dev k.val) ∧ (Memory.wf sramEmpty s.mem = true) ∧ (ringProd s k.val = ringCons s k.val)) := by
  iterate 3 refine And.intro (by decide +kernel) ?_
  decide +kernel

/-- Each premise set of `SlugsAndTraces` is met. -/
theorem test_witness_SlugsAndTraces :
    (let s : State := State.reset; let a : AxisNo := 0; (s.dev.alive = true) ∧ ((s.dev.mvx a.val).ended = [])) ∧
    (let s : State := poke [fun d => { d with leaf := vmod d.leaf 0 fun yi0 => { yi0 with mov := { yi0.mov with ended := ([([99, 0, 0, 0, 0, 0, 0, 0, 9, 0, 0, 0, 2, 2, 0, 0] ++ List.replicate 24 1 ++ [2] ++ List.replicate 23 3), ([99, 0, 0, 0, 0, 0, 0, 0, 10, 0, 0, 0, 9, 16, 0, 0] ++ List.replicate 24 1 ++ [2] ++ List.replicate 23 3)]) } } }];
    let a : AxisNo := 0; (s.dev.alive = true) ∧ (∃ b ∈ (s.dev.mvx a.val).ended.head?, (a.val < 8 ∨ a.val - 8 < s.dev.rec_.smov.length)
    ∧ (s.dev.enabled pgREC = false))) ∧
    (let s : State := poke [fun d => { d with leaf := vmod d.leaf 2 fun yi0 => { yi0 with mov := { yi0.mov with ended := ([([99, 0, 0, 0, 0, 0, 0, 0, 9, 0, 0, 0, 2, 2, 0, 0] ++ List.replicate 24 1 ++ [2] ++ List.replicate 23 3), ([99, 0, 0, 0, 0, 0, 0, 0, 10, 0, 0, 0, 9, 16, 0, 0] ++ List.replicate 24 1 ++ [2] ++ List.replicate 23 3)]) } } }, cell 196736 1];
    let a : AxisNo := 2; (s.dev.alive = true) ∧ (∃ b ∈ (s.dev.mvx a.val).ended.head?, (a.val < 8 ∨ a.val - 8 < s.dev.rec_.smov.length)
    ∧ (s.dev.enabled pgREC = true) ∧ (ringActive s.dev (s.dev.get pgREC REC.SLUGCFG.PUBRING) = false))) ∧
    (let s : State := poke [fun d => { d with leaf := vmod d.leaf 0 fun yi0 => { yi0 with mov := { yi0.mov with ended := ([([99, 0, 0, 0, 0, 0, 0, 0, 4, 0, 0, 0, 3, 1, 0, 0] ++ List.replicate 24 1 ++ [2] ++ List.replicate 23 3)]) } } }, cell 196736 1];
    let a : AxisNo := 0; (s.dev.alive = true) ∧ (∃ b ∈ (s.dev.mvx a.val).ended.head?, (a.val < 8 ∨ a.val - 8 < s.dev.rec_.smov.length)
    ∧ (s.dev.enabled pgREC = true) ∧ (ringActive s.dev (s.dev.get pgREC REC.SLUGCFG.PUBRING) = false) ∧ (s.dev.rec_.queue.length < 4096))) ∧
    (let s : State := poke [fun d => { d with leaf := vmod d.leaf 0 fun yi0 => { yi0 with mov := { yi0.mov with ended := ([([99, 0, 0, 0, 0, 0, 0, 0, 4, 0, 0, 0, 3, 1, 0, 0] ++ List.replicate 24 1 ++ [2] ++ List.replicate 23 3)]) } } }, fun d => { d with rec_ := { d.rec_ with queue := ((List.replicate 4096 { seq := 4100, slot := 4095, at_ := 7 })) } }, cell 196736 1];
    let a : AxisNo := 0; (s.dev.alive = true) ∧ (∃ b ∈ (s.dev.mvx a.val).ended.head?, (a.val < 8 ∨ a.val - 8 < s.dev.rec_.smov.length)
    ∧ (s.dev.enabled pgREC = true) ∧ (ringActive s.dev (s.dev.get pgREC REC.SLUGCFG.PUBRING) = false) ∧ (s.dev.rec_.queue.length = 4096)
    ∧ (s.dev.rec_.op = none) ∧ (s.dev.queueRoom = true))) ∧
    (let s : State := poke [fun d => { d with rec_ := { d.rec_ with trace := modNth (fun yi0 => { yi0 with on := true }) d.rec_.trace 3 } }];
    let n : LeafNo := 3; (s.dev.alive = true) ∧ ((s.dev.trc n.val).on = true) ∧ (n.val < s.dev.rec_.trace.length)
    ∧ ((s.dev.trc n.val).mot + 62500 * (s.dev.trc n.val).samples.length ≤ s.dev.tim.mot) ∧ ((s.dev.trc n.val).buf.length + 4 ≤ 16384)
    ∧ ((s.dev.trc n.val).samples.length ≠ 32767)) ∧
    (let s : State := poke [fun d => d.modTrc 0 fun t => { t with on := true, samples := List.replicate 32767 0, mot := 0 }, fun d => { d with tim := { d.tim with mot := 3000000000 } }];
    let n : LeafNo := 0; (s.dev.alive = true) ∧ ((s.dev.trc n.val).on = true) ∧ (n.val < s.dev.rec_.trace.length)
    ∧ ((s.dev.trc n.val).mot + 62500 * (s.dev.trc n.val).samples.length ≤ s.dev.tim.mot) ∧ ((s.dev.trc n.val).buf.length + 4 ≤ 16384)
    ∧ ((s.dev.trc n.val).samples.length = 32767)) ∧
    (let s : State := poke [fun d => { d with rec_ := { d.rec_ with trace := modNth (fun yi0 => { yi0 with on := true }) d.rec_.trace 1 } }, fun d => { d with rec_ := { d.rec_ with trace := modNth (fun yi0 => { yi0 with buf := ((List.replicate 16384 0)) }) d.rec_.trace 1 } }];
    let n : LeafNo := 1; (s.dev.alive = true) ∧ ((s.dev.trc n.val).on = true) ∧ (n.val < s.dev.rec_.trace.length)
    ∧ ((s.dev.trc n.val).mot + 62500 * (s.dev.trc n.val).samples.length ≤ s.dev.tim.mot) ∧ (16384 < (s.dev.trc n.val).buf.length + 4)) ∧
    (let s : State := poke [fun d => { d with rec_ := { d.rec_ with trace := modNth (fun yi0 => { yi0 with on := true }) d.rec_.trace 2 } }, fun d => { d with rec_ := { d.rec_ with trace := modNth (fun yi0 => { yi0 with mot := 5000329035 }) d.rec_.trace 2 } }];
    let n : LeafNo := 2; (s.dev.alive = true) ∧ ((s.dev.trc n.val).on = true) ∧ (n.val < s.dev.rec_.trace.length)
    ∧ (s.dev.tim.mot < (s.dev.trc n.val).mot + 62500 * (s.dev.trc n.val).samples.length)) ∧
    (let s : State := State.reset; let n : LeafNo := 0; (s.dev.alive = true) ∧ ((s.dev.trc n.val).on = false)) ∧
    (let s : State := State.reset; (s.dev.alive = true) ∧ (s.dev.rec_.tcopy = [])) ∧
    (let s : State := poke [fun d => { d with rec_ := { d.rec_ with tcopy := ([(5, [])]) } }]; (s.dev.alive = true)
    ∧ (∃ c ∈ s.dev.rec_.tcopy.head?, True)) ∧
    (let s : State := poke [fun d => { d with rec_ := { d.rec_ with tcopy := ([(5, [])]) } }, fun d => { d with rec_ := { d.rec_ with nand := { d.rec_.nand with anom := { d.rec_.nand.anom with wrapped := true } } } }]; (s.dev.alive = true)
    ∧ (∃ c ∈ s.dev.rec_.tcopy.head?, (s.dev.rec_.nand.anom.wrapped = true))) ∧
    (let s : State := State.reset; (s.dev.alive = true) ∧ (s.dev.rec_.queue = [])) ∧
    (let s : State := poke [fun d => { d with tim := { d.tim with mot := 5000329035 } }, fun d => { d with rec_ := { d.rec_ with queue := ([{ seq := 5, slot := 0, at_ := 5 }, { seq := 6, slot := 1, at_ := 7 }]) } }]; (s.dev.alive = true)
    ∧ (∃ q ∈ s.dev.rec_.queue.head?, (q.at_ + msMot (1000 * s.dev.get pgREC REC.SLUGCFG.FLUSHT) ≤ s.dev.tim.mot))) ∧
    (let s : State := poke [fun d => { d with rec_ := { d.rec_ with queue := ([{ seq := 5, slot := 0, at_ := 5000075478 }]) } }]; (s.dev.alive = true)
    ∧ (∃ q ∈ s.dev.rec_.queue.head?, (s.dev.tim.mot < q.at_ + msMot (1000 * s.dev.get pgREC REC.SLUGCFG.FLUSHT)))) ∧
    (let s : State := poke [cell 196736 1]; (s.dev.alive = true) ∧ (s.dev.enabled pgREC = true)) ∧
    (let s : State := State.reset; (s.dev.alive = true) ∧ (s.dev.enabled pgREC = false)) := by
  iterate 17 refine And.intro (by decide +kernel) ?_
  decide +kernel

/-- Each premise set of `RecordMemory` is met. -/
theorem test_witness_RecordMemory :
    (let s : State := State.reset; (s.dev.alive = true) ∧ (nextOp s.dev = none)) ∧
    (let s : State := poke [cell 197328 100, cell 197632 1]; let v : W16 := 0x1388#16; (s.dev.alive = true)
    ∧ (∃ o ∈ nextOp s.dev, (opFree s.dev o = true) ∧ (holdPass s.dev v.toNat o = true))) ∧
    (let s : State := poke [Dev.put pgREC REC.HOLD.HOLDC 100, Dev.put pgREC REC.HOLD.VMIN 0, Dev.put pgREC REC.REC_STAT.RUN 1];
    let v : W16 := 0xFFFF; (s.dev.alive = true) ∧ (∃ o ∈ nextOp s.dev, (opFree s.dev o = true) ∧ (holdPass s.dev v.toNat o = true) ∧ (o = .erase 0))) ∧
    (let s : State := poke [fun d => { d with rec_ := { d.rec_ with queue := ([{ seq := 5, slot := 0, at_ := 5 }, { seq := 6, slot := 1, at_ := 7 }, { seq := 7, slot := 2, at_ := 7 }, { seq := 8, slot := 3, at_ := 7 }, { seq := 9, slot := 4, at_ := 7 }, { seq := 10, slot := 5, at_ := 7 }, { seq := 11, slot := 6, at_ := 7 }, { seq := 12, slot := 7, at_ := 7 }, { seq := 13, slot := 8, at_ := 7 }, { seq := 14, slot := 9, at_ := 7 }, { seq := 15, slot := 10, at_ := 7 }, { seq := 16, slot := 11, at_ := 7 }, { seq := 17, slot := 12, at_ := 7 }, { seq := 18, slot := 13, at_ := 7 }, { seq := 19, slot := 14, at_ := 7 }, { seq := 20, slot := 15, at_ := 7 }, { seq := 21, slot := 16, at_ := 7 }, { seq := 22, slot := 17, at_ := 7 }, { seq := 23, slot := 18, at_ := 7 }, { seq := 24, slot := 19, at_ := 7 }, { seq := 25, slot := 20, at_ := 7 }, { seq := 26, slot := 21, at_ := 7 }, { seq := 27, slot := 22, at_ := 7 }, { seq := 28, slot := 23, at_ := 7 }, { seq := 29, slot := 24, at_ := 7 }, { seq := 30, slot := 25, at_ := 7 }, { seq := 31, slot := 26, at_ := 7 }, { seq := 32, slot := 27, at_ := 7 }, { seq := 33, slot := 28, at_ := 7 }, { seq := 34, slot := 29, at_ := 7 }, { seq := 35, slot := 30, at_ := 7 }, { seq := 36, slot := 31, at_ := 7 }]) } }, fun d => { d with rec_ := { d.rec_ with nand := { d.rec_.nand with slug := { d.rec_.nand.slug with head := 639 } } } }, cell 197328 100, cell 197632 1];
    let v : W16 := 0x1388#16; (s.dev.alive = true) ∧ (∃ o ∈ nextOp s.dev, (opFree s.dev o = true) ∧ (holdPass s.dev v.toNat o = true)
    ∧ (o = .slugPage (slugPageSize s.dev)))) ∧
    (let s : State := poke [cell 197632 1]; let v : W16 := 0x0000#16; (s.dev.alive = true) ∧ (∃ o ∈ nextOp s.dev, (opFree s.dev o = true)
    ∧ (holdPass s.dev v.toNat o = false))) ∧
    (let s : State := State.reset; (s.dev.alive = true) ∧ (s.dev.rec_.op = none) ∧ (∃ b c : Bool, True)) ∧
    (let s : State := poke [fun d => { d with rec_ := { d.rec_ with op := (some (MemOp.slugPage 32, 4)) } }]; (s.dev.alive = true)
    ∧ (∃ x ∈ s.dev.rec_.op, (x.1 = .slugPage 32))) ∧
    (let s : State := poke [fun d => { d with rec_ := { d.rec_ with op := (some (MemOp.anomPage, 30)) } }]; (s.dev.alive = true)
    ∧ (∃ x ∈ s.dev.rec_.op, (s.dev.queueRoom = true))) ∧
    (let s : State := poke [fun d => { d with rec_ := { d.rec_ with op := (some (MemOp.erase 1, 9)) } }]; (s.dev.alive = true)
    ∧ (∃ x ∈ s.dev.rec_.op, (s.dev.rec_.nand.spareAt < nandBlocks s.dev))) ∧
    (let s : State := poke [fun d => { d with rec_ := { d.rec_ with op := (some (MemOp.anomPage, 30)) } }, fun d => { d with rec_ := { d.rec_ with nand := { d.rec_.nand with spareAt := 5000 } } }]; (s.dev.alive = true)
    ∧ (∃ x ∈ s.dev.rec_.op, (nandBlocks s.dev ≤ s.dev.rec_.nand.spareAt) ∧ (s.dev.queueRoom = true))) ∧
    (let s : State := State.reset; (s.dev.alive = true)
    ∧ ((s.dev.enabled pgREC = false ∨ s.dev.on pgREC REC.REC_STAT.RUN = true ∨ s.dev.on pgREC REC.REC_STAT.MEMFAIL = true))) ∧
    (let s : State := putXs1 (poke [cell 196736 1]) 0 [10, 0, 0, 0, 8, 0, 0, 0, 6, 0, 0, 0, 9, 0, 0, 0, 0, 0, 0, 0, 1, 0, 0, 0, 4, 0, 0, 0, 60, 0, 0, 0, 109, 26, 152, 163]; (s.dev.alive = true)
    ∧ (s.dev.enabled pgREC = true) ∧ (s.dev.on pgREC REC.REC_STAT.RUN = false) ∧ (s.dev.on pgREC REC.REC_STAT.MEMFAIL = false)
    ∧ (∃ h ∈ nandHeaderOf s, True)) ∧
    (let s : State := putXs1 (poke [cell 196736 1]) 131072 [10, 0, 0, 0, 8, 0, 0, 0, 6, 0, 0, 0, 9, 0, 0, 0, 0, 0, 0, 0, 1, 0, 0, 0, 4, 0, 0, 0, 60, 0, 0, 0, 109, 26, 152, 163]; (s.dev.alive = true)
    ∧ (s.dev.enabled pgREC = true) ∧ (s.dev.on pgREC REC.REC_STAT.RUN = false) ∧ (s.dev.on pgREC REC.REC_STAT.MEMFAIL = false)
    ∧ (∃ h ∈ nandHeaderOf s, (h.1.1 ≠ s.dev.get pgREC REC.LAYOUT.SLUGBLK) ∧ (s.dev.queueRoom = true))) ∧
    (let s : State := poke [Dev.put pgREC REC.HOLD.HOLDC 100, Dev.put pgREC REC.HOLD.VMIN 0, Dev.put pgREC HDR.EN 1, Dev.put pgREC REC.REC_STAT.RUN 0];
    let v : W16 := 0xFFFF; (s.dev.alive = true) ∧ (s.dev.enabled pgREC = true) ∧ (s.dev.on pgREC REC.REC_STAT.RUN = false)
    ∧ (s.dev.on pgREC REC.REC_STAT.MEMFAIL = false) ∧ (nandHeaderOf s = none) ∧ (opFree s.dev .format = true)
    ∧ (holdPass s.dev v.toNat .format = true)) ∧
    (let s : State := poke [Dev.put pgREC REC.HOLD.HOLDC 100, Dev.put pgREC REC.HOLD.VMIN 1800, Dev.put pgREC HDR.EN 1, Dev.put pgREC REC.REC_STAT.RUN 0];
    let v : W16 := 0; (s.dev.alive = true) ∧ (s.dev.enabled pgREC = true) ∧ (s.dev.on pgREC REC.REC_STAT.RUN = false)
    ∧ (s.dev.on pgREC REC.REC_STAT.MEMFAIL = false) ∧ (nandHeaderOf s = none) ∧ (opFree s.dev .format = true)
    ∧ (holdPass s.dev v.toNat .format = false)) ∧
    (let s : State := poke [cell 197328 100, cell 197440 1, cell 197632 1]; let v : W16 := 0x1388#16; (s.dev.alive = true)
    ∧ (s.dev.on pgREC REC.REC_CTRL.FORMAT = true) ∧ (opFree s.dev .format = true) ∧ (s.dev.on pgREC REC.REC_STAT.RUN = true)
    ∧ (holdPass s.dev v.toNat .format = true)) ∧
    (let s : State := State.reset; (s.dev.alive = true) ∧ ((s.dev.on pgREC REC.REC_CTRL.FORMAT = false ∨ s.dev.on pgREC REC.REC_STAT.RUN = false))) := by
  iterate 16 refine And.intro (by decide +kernel) ?_
  decide +kernel

/-- Each premise set of `HoldUpAndOwnWrites` is met. -/
theorem test_witness_HoldUpAndOwnWrites :
    (let s : State := State.reset; (s.dev.alive = true) ∧ (s.dev.rec_.defer = none)) ∧
    (let s : State := poke [fun d => { d with rec_ := { d.rec_ with defer := (some (MemOp.slugPage 3, 5, 2000000502712)) } }]; (s.dev.alive = true)
    ∧ (∃ x ∈ s.dev.rec_.defer, (s.dev.tim.mot < x.2.2 + msMot 1))) ∧
    (let s : State := poke [fun d => { d with tim := { d.tim with mot := 5000901801 } }, fun d => { d with rec_ := { d.rec_ with defer := (some (MemOp.slugPage 3, 5, 5)) } }];
    let v : W16 := 0x0000#16; (s.dev.alive = true) ∧ (∃ x ∈ s.dev.rec_.defer, (x.2.2 + msMot 1 ≤ s.dev.tim.mot)
    ∧ (holdPass s.dev v.toNat x.1 = false))) ∧
    (let s : State := poke [fun d => { d with tim := { d.tim with mot := 5000901801 } }, fun d => { d with rec_ := { d.rec_ with defer := (some (MemOp.slugPage 3, 5, 5)) } }, cell 197328 100];
    let v : W16 := 0x1388#16; (s.dev.alive = true) ∧ (∃ x ∈ s.dev.rec_.defer, (x.2.2 + msMot 1 ≤ s.dev.tim.mot)
    ∧ (holdPass s.dev v.toNat x.1 = true))) ∧
    (let s : State := poke [fun d => { d with tim := { d.tim with mot := 5000760949 } }, fun d => { d with rec_ := { d.rec_ with defer := (some (MemOp.folio, 5, 5)) } }, cell 197328 100];
    let v : W16 := 0x1388#16; (s.dev.alive = true) ∧ (∃ x ∈ s.dev.rec_.defer, (x.2.2 + msMot 1 ≤ s.dev.tim.mot) ∧ (holdPass s.dev v.toNat x.1 = true)
    ∧ (x.1.onXs0 = true))) ∧
    (let s : State := poke [fun d => { d with tim := { d.tim with mot := 5000901801 } }, fun d => { d with rec_ := { d.rec_ with defer := (some (MemOp.slugPage 3, 5, 5)) } }, cell 197328 100];
    let v : W16 := 0x1388#16; (s.dev.alive = true) ∧ (∃ x ∈ s.dev.rec_.defer, (x.2.2 + msMot 1 ≤ s.dev.tim.mot) ∧ (holdPass s.dev v.toNat x.1 = true)
    ∧ (x.1.onXs0 = false))) ∧
    (let s : State := poke [fun d => { d with tim := { d.tim with mot := 5000901801 } }, fun d => { d with rec_ := { d.rec_ with defer := (some (MemOp.slugPage 3, 5, 5)) } }, cell 197328 100]; (s.dev.alive = true)
    ∧ (∃ x ∈ s.dev.rec_.defer, (s.dev.rec_.defRep = false) ∧ (s.dev.get pgREC REC.HOLD.HOLDC ≠ 0) ∧ (x.2.1 + msMot 10000 < s.dev.tim.mot))) ∧
    (let s : State := poke [fun d => { d with rec_ := { d.rec_ with defer := (some (MemOp.slugPage 3, 5, 2000000676389)) } }]; (s.dev.alive = true)
    ∧ (∃ x ∈ s.dev.rec_.defer, ((s.dev.rec_.defRep = true ∨ s.dev.tim.mot ≤ x.2.1 + msMot 10000)))) ∧
    (let s : State := poke [Dev.put pgREC REC.HOLD.HOLDC 100, Dev.put pgREC REC.HOLD.VMIN 0, Dev.put pgREC REC.REC_STAT.RUN 1, Dev.put pgREC HDR.EN 1, fun d => { d with rec_ := { d.rec_ with folio := { d.rec_.folio with dirty := true } } }, Dev.put pgREC REC.FOLCFG.FOLIOT 0];
    let v : W16 := 0xFFFF; (s.dev.alive = true) ∧ (s.dev.rec_.todo.find? MemOp.onXs0 = none) ∧ (s.dev.enabled pgREC = true)
    ∧ (s.dev.rec_.folio.dirty = true) ∧ (s.dev.rec_.folio.at_ + msMot (1000 * s.dev.get pgREC REC.FOLCFG.FOLIOT) ≤ s.dev.tim.mot)
    ∧ (opFree s.dev .folio = true) ∧ (holdPass s.dev v.toNat .folio = true)) ∧
    (let s : State := State.reset; (s.dev.alive = true) ∧ (s.dev.rec_.todo.find? MemOp.onXs0 = none)
    ∧ ((s.dev.rec_.folio.dirty = false ∨ s.dev.tim.mot < s.dev.rec_.folio.at_ + msMot (1000 * s.dev.get pgREC REC.FOLCFG.FOLIOT)))) ∧
    (let s : State := poke [cell 197328 100]; let v : W16 := 0x1388#16; let n : LeafNo := 0; (s.dev.alive = true) ∧ (s.dev.part.hasLeaf n.val = true)
    ∧ (opFree s.dev (.kern n.val 0) = true) ∧ (kernBusy s.dev = false) ∧ (holdPass s.dev v.toNat (.kern n.val 0) = true)
    ∧ (s.dev.get (pgOBS n.val) OBS.KTVER.VER % 2 = 0) ∧ (nth s.dev.rec_.savedVer n.val none ≠ some (s.dev.get (pgOBS n.val) OBS.KTVER.VER))
    ∧ ((∀ t0 ∈ nth s.dev.rec_.savedAt n.val none, t0 + msMot (1000 * s.dev.get pgCFG CFG.KT_CFG.KTSAVE) ≤ s.dev.tim.mot))) ∧
    (let s : State := poke [fun d => { d with rec_ := { d.rec_ with savedVer := ([some 2, some 2, some 2, some 2, some 2, some 2, some 2, some 2]) } }, cell 788800 2];
    let n : LeafNo := 0; (s.dev.alive = true)
    ∧ ((s.dev.get (pgOBS n.val) OBS.KTVER.VER % 2 = 1 ∨ nth s.dev.rec_.savedVer n.val none = some (s.dev.get (pgOBS n.val) OBS.KTVER.VER)))) ∧
    (let s : State := State.reset; (s.dev.alive = true) ∧ ((s.dev.rec_.op.isSome = true ∨ ringNext s (s.dev.get pgREC REC.RDRINGS.REQRING) = none))) ∧
    (let s : State := putSram (poke [cell 196736 1, cell 197280 2, cell 197288 4, cell 3146368 65536, cell 3146400 8, cell 3146544 20, cell 3148288 62]) 671154180 [3]; (s.dev.alive = true)
    ∧ (ringActive s.dev (s.dev.get pgREC REC.RDRINGS.REQRING) = true) ∧ (ringActive s.dev (s.dev.get pgREC REC.RDRINGS.RSPRING) = true)
    ∧ (s.dev.enabled pgREC = true) ∧ (s.dev.rec_.op = none)
    ∧ ((s.dev.rec_.defer.isSome || s.dev.on pgREC REC.REC_STAT.MEMFAIL || (nextOp s.dev).isNone) = true) ∧ (Memory.wf sramEmpty s.mem = true)
    ∧ (((ringSpan s.dev (s.dev.get pgREC REC.RDRINGS.REQRING)).2 ≤ (ringSpan s.dev (s.dev.get pgREC REC.RDRINGS.RSPRING)).1 ∨ (ringSpan s.dev (s.dev.get pgREC REC.RDRINGS.RSPRING)).2 ≤ (ringSpan s.dev (s.dev.get pgREC REC.RDRINGS.REQRING)).1))
    ∧ (ringProd s (s.dev.get pgREC REC.RDRINGS.REQRING) < ringEntries s.dev (s.dev.get pgREC REC.RDRINGS.REQRING))
    ∧ (ringCons s (s.dev.get pgREC REC.RDRINGS.REQRING) < ringEntries s.dev (s.dev.get pgREC REC.RDRINGS.REQRING))
    ∧ (ringProd s (s.dev.get pgREC REC.RDRINGS.RSPRING) < ringEntries s.dev (s.dev.get pgREC REC.RDRINGS.RSPRING))
    ∧ (ringFull s (s.dev.get pgREC REC.RDRINGS.RSPRING) = false) ∧ (1040 ≤ ringSize s.dev (s.dev.get pgREC REC.RDRINGS.RSPRING))
    ∧ (∃ a ∈ ringNext s (s.dev.get pgREC REC.RDRINGS.REQRING), True)) ∧
    (let s : State := putSram (putSram (putSram (poke [Dev.put pgRING RING.RING_STAT.ACT 3, Dev.put pgREC HDR.EN 1, Dev.put pgREC REC.RDRINGS.REQRING 0, Dev.put pgREC REC.RDRINGS.RSPRING 1, Dev.put pgRING (RING.RING_CFG.ENTRIES.at 0) 4, Dev.put pgRING (RING.RING_CFG.SIZE.at 0) 1, Dev.put pgRING (RING.RING_CFG.ENTRIES.at 1) 4, Dev.put pgRING (RING.RING_CFG.SIZE.at 1) 0, Dev.put pgRING (RING.RING_BASE.BASE.at 1) 0x1000]) 0x28000000 [1]) 0x28000010 [4]) 0x28000014 [255, 255, 255, 255]; (s.dev.alive = true)
    ∧ (ringActive s.dev (s.dev.get pgREC REC.RDRINGS.REQRING) = true) ∧ (ringActive s.dev (s.dev.get pgREC REC.RDRINGS.RSPRING) = true)
    ∧ (s.dev.enabled pgREC = true) ∧ (s.dev.rec_.op = none)
    ∧ ((s.dev.rec_.defer.isSome || s.dev.on pgREC REC.REC_STAT.MEMFAIL || (nextOp s.dev).isNone) = true) ∧ (Memory.wf sramEmpty s.mem = true)
    ∧ (((ringSpan s.dev (s.dev.get pgREC REC.RDRINGS.REQRING)).2 ≤ (ringSpan s.dev (s.dev.get pgREC REC.RDRINGS.RSPRING)).1 ∨ (ringSpan s.dev (s.dev.get pgREC REC.RDRINGS.RSPRING)).2 ≤ (ringSpan s.dev (s.dev.get pgREC REC.RDRINGS.REQRING)).1))
    ∧ (ringProd s (s.dev.get pgREC REC.RDRINGS.REQRING) < ringEntries s.dev (s.dev.get pgREC REC.RDRINGS.REQRING))
    ∧ (ringCons s (s.dev.get pgREC REC.RDRINGS.REQRING) < ringEntries s.dev (s.dev.get pgREC REC.RDRINGS.REQRING))
    ∧ (ringProd s (s.dev.get pgREC REC.RDRINGS.RSPRING) < ringEntries s.dev (s.dev.get pgREC REC.RDRINGS.RSPRING))
    ∧ (ringFull s (s.dev.get pgREC REC.RDRINGS.RSPRING) = false) ∧ (1040 ≤ ringSize s.dev (s.dev.get pgREC REC.RDRINGS.RSPRING))
    ∧ (∃ a ∈ ringNext s (s.dev.get pgREC REC.RDRINGS.REQRING), (nandBlocks s.dev ≤ s.peek a 4))) ∧
    (let s : State := putSram (poke [cell 196736 1, cell 197280 2, cell 197288 4, cell 3146368 65536, cell 3146400 8, cell 3146544 20, cell 3148288 62]) 671154180 [3]; (s.dev.alive = true)
    ∧ (ringActive s.dev (s.dev.get pgREC REC.RDRINGS.REQRING) = true) ∧ (ringActive s.dev (s.dev.get pgREC REC.RDRINGS.RSPRING) = true)
    ∧ (s.dev.enabled pgREC = true) ∧ (s.dev.rec_.op = none)
    ∧ ((s.dev.rec_.defer.isSome || s.dev.on pgREC REC.REC_STAT.MEMFAIL || (nextOp s.dev).isNone) = true) ∧ (Memory.wf sramEmpty s.mem = true)
    ∧ (((ringSpan s.dev (s.dev.get pgREC REC.RDRINGS.REQRING)).2 ≤ (ringSpan s.dev (s.dev.get pgREC REC.RDRINGS.RSPRING)).1 ∨ (ringSpan s.dev (s.dev.get pgREC REC.RDRINGS.RSPRING)).2 ≤ (ringSpan s.dev (s.dev.get pgREC REC.RDRINGS.REQRING)).1))
    ∧ (ringProd s (s.dev.get pgREC REC.RDRINGS.REQRING) < ringEntries s.dev (s.dev.get pgREC REC.RDRINGS.REQRING))
    ∧ (ringCons s (s.dev.get pgREC REC.RDRINGS.REQRING) < ringEntries s.dev (s.dev.get pgREC REC.RDRINGS.REQRING))
    ∧ (ringProd s (s.dev.get pgREC REC.RDRINGS.RSPRING) < ringEntries s.dev (s.dev.get pgREC REC.RDRINGS.RSPRING))
    ∧ (ringFull s (s.dev.get pgREC REC.RDRINGS.RSPRING) = false) ∧ (1040 ≤ ringSize s.dev (s.dev.get pgREC REC.RDRINGS.RSPRING))
    ∧ (∃ a ∈ ringNext s (s.dev.get pgREC REC.RDRINGS.REQRING), (s.peek a 4 < nandBlocks s.dev) ∧ (s.peek (a + 4) 4 < 64) ∧ (s.peek (a + 8) 4 < 2))) := by
  iterate 15 refine And.intro (by decide +kernel) ?_
  decide +kernel

/-! Premises that hold only relative to an uninterpreted function: the operands carry its result, or a good signature is assumed. -/

/-- A device with a Neltan key in slot 0 and some sessions open. -/
def nelDev (l : List NelSess) : State :=
  poke [fun d => { d with otp := { d.otp with keys := [some 7, none, none, none] } }, fun d => d.modNel fun n => { n with sess := l }]

/-- The open session 1 under the key 9; its latest request was `tag` with the number 4. -/
def sess1 (tag : Nat) : NelSess := { num := 1, trans := 0, slot := 0, key := 9, seq := 4, tag := tag, resp := [1] }

/-- The OPEN request whose tag is right under the key 7, `wrong` added to it. -/
def openReq (wrong : Nat) : NelReq :=
  let r : NelReq := { trans := 0, seq := 5, data := [0, 1, 2, 3, 4], count := 5 }
  { r with tag := BitVec.ofNat 128 (Config.aesCmac 7 (nelReqMsg 1 r) + wrong) }

/-- The request `op` in session 1 with the sequence number `seq`, its tag right under the key 9, `wrong` added to it. -/
def sessReq (op wrong : Nat) (seq : W32) : NelReq :=
  let r : NelReq := { trans := 0, session := 1, seq := seq, data := [5], count := 1 }
  { r with tag := BitVec.ofNat 128 (Config.aesCmac 9 (nelReqMsg op r) + wrong) }

theorem toNat_tag (x : Nat) : x % 2 ^ 128 = (BitVec.ofNat 128 (x + 0)).toNat := by simp

theorem toNat_wrong_tag (x : Nat) : x % 2 ^ 128 ≠ (BitVec.ofNat 128 (x + 1)).toNat := by
  simp only [BitVec.toNat_ofNat]; omega

theorem tagged_sessReq (op t : Nat) (seq : W32) : (sess1 t).tagged op (sessReq op 0 seq) = true :=
  beq_iff_eq.2 (toNat_tag _)

/-- Each premise set of `NeltanOpen` about a key that stands is met. -/
theorem test_witness_NeltanOpenKeys :
    ((nelDev []).dev.nelServes = true ∧ (∃ key ∈ nth (nelDev []).dev.otp.keys (((openReq 0).data.map BitVec.toNat).headD 4) none,
      nelBlocked (nelDev []).dev (openReq 0).trans.val = false ∧ (openReq 0).count = 5 ∧ (openReq 0).data.length = 5 ∧
      Config.aesCmac key (nelReqMsg 1 (openReq 0)) % 2 ^ 128 = (openReq 0).tag.toNat ∧ (nelDev []).dev.net.nel.sess.length < 4)) ∧
    ((nelDev (List.replicate 4 (sess1 0))).dev.nelServes = true ∧
      (∃ key ∈ nth (nelDev (List.replicate 4 (sess1 0))).dev.otp.keys (((openReq 0).data.map BitVec.toNat).headD 4) none,
      nelBlocked (nelDev (List.replicate 4 (sess1 0))).dev (openReq 0).trans.val = false ∧ (openReq 0).count = 5 ∧ (openReq 0).data.length = 5 ∧
      Config.aesCmac key (nelReqMsg 1 (openReq 0)) % 2 ^ 128 = (openReq 0).tag.toNat ∧
      4 ≤ (nelDev (List.replicate 4 (sess1 0))).dev.net.nel.sess.length)) ∧
    (∃ key ∈ nth (nelDev []).dev.otp.keys (((openReq 1).data.map BitVec.toNat).headD 4) none,
      nelBlocked (nelDev []).dev (openReq 1).trans.val = false ∧
      Config.aesCmac key (nelReqMsg 1 (openReq 1)) % 2 ^ 128 ≠ (openReq 1).tag.toNat) :=
  ⟨⟨by decide +kernel, 7, by decide +kernel, by decide +kernel, rfl, rfl, toNat_tag _, by decide +kernel⟩,
   ⟨by decide +kernel, 7, by decide +kernel, by decide +kernel, rfl, rfl, toNat_tag _, by decide +kernel⟩,
   7, by decide +kernel, by decide +kernel, toNat_wrong_tag _⟩

/-- Each premise set of `NeltanRequests` is met. -/
theorem test_witness_NeltanRequests :
    (∀ op seq : Nat, (nelDev [sess1 0]).dev.nelServes = true ∧ sess1 0 ∈ (nelDev [sess1 0]).dev.sessOf (sessReq op 0 (BitVec.ofNat 32 seq))) ∧
    ((sessReq 2 0 5).seq.toNat = ((sess1 0).seq + 1) % 2 ^ 32 ∧ (sessReq 2 0 5).seq.toNat ≠ (sess1 0).seq ∧
      (sess1 0).tagged 2 (sessReq 2 0 5) = true ∧ (sessReq 2 0 5).count ≤ 64) ∧
    ((sess1 0).tagged 3 (sessReq 3 0 5) = true ∧ (sessReq 3 0 5).count = (sessReq 3 0 5).data.length) ∧
    (sess1 0).tagged 4 (sessReq 4 0 5) = true ∧ (sess1 0).tagged 5 (sessReq 5 0 5) = true ∧
    ((sessReq 3 0 4).seq.toNat = (sess1 (sessReq 3 0 4).tag.toNat).seq ∧
      (sessReq 3 0 4).tag.toNat = (sess1 (sessReq 3 0 4).tag.toNat).tag ∧ (sess1 (sessReq 3 0 4).tag.toNat).resp ≠ [] ∧
      (sess1 (sessReq 3 0 4).tag.toNat).tagged 3 (sessReq 3 0 4) = true ∧
      sess1 (sessReq 3 0 4).tag.toNat ∈ (nelDev [sess1 (sessReq 3 0 4).tag.toNat]).dev.sessOf (sessReq 3 0 4)) ∧
    (sess1 0).tagged 2 (sessReq 2 1 5) = false ∧
    ((sessReq 5 0 9).seq.toNat ≠ (sess1 0).seq ∧ (sessReq 5 0 9).seq.toNat ≠ ((sess1 0).seq + 1) % 2 ^ 32) :=
  ⟨fun _ _ => ⟨by decide +kernel, rfl⟩, ⟨rfl, by decide, tagged_sessReq _ _ _, by decide⟩, ⟨tagged_sessReq _ _ _, rfl⟩,
   tagged_sessReq _ _ _, tagged_sessReq _ _ _, ⟨rfl, rfl, by decide, tagged_sessReq _ _ _, rfl⟩,
   beq_eq_false_iff_ne.2 (toNat_wrong_tag _), by decide, by decide⟩

/-- A main task running with 1.0 and 2.0 on its stack. -/
def floatState (b : Nat) : State :=
  poke [fun d => { d with forme := { d.forme with st := 2 } }, fun d => d.modTask .main fun t => { t with st := .running, stack := [b, 0x3F800000] }]

/-- The premise sets of `FormeFloatOps` about two finite values are met, with a divisor of 2.0 and of 0.0. -/
theorem test_witness_FormeFloatOpsFinite :
    (∀ b ∈ [0x40000000, 0], (floatState b).dev.alive = true ∧ (floatState b).clean ∧ (floatState b).dev.current = some .main ∧
      ((floatState b).dev.task .main).stack = b :: 0x3F800000 :: []) ∧ tyFloat 10 = true ∧
    fltOf 10 0x3F800000 = .fin false 8388608 (-23) ∧ fltOf 10 0x40000000 = .fin false 8388608 (-22) ∧
    fltOf 10 0 = .fin false 0 (-149) ∧ tyOk 2 = true ∧ tyFloat 2 = false := by
  decide +kernel

/-- The colophon of an empty image of a KIND under the key slot 3, version 0. -/
def coloHead (kind : Nat) : List Nat := [0x43, 0x4F, 0x4C, 0x4F, 3, kind, 0, 1, 0, 0, 0, 0, 0, 0, 0, 0]

/-- What a signature check needs of the uninterpreted functions: that colophon has a digest and a signature under the key 1. -/
def Signed (kind : Nat) : Prop :=
  Config.sha384 (coloHead kind) = List.replicate 48 5 ∧ Config.ecdsaVerify [1] (List.replicate 48 5) (List.replicate 96 255) = true

/-- A device that accepts the key 1 in slot 3, with an empty image of a KIND at an address of XS0 and `more` bytes before it. -/
def signedState (kind base : Nat) (l : List (Dev → Dev)) : State :=
  putXs0 (poke ((fun d => d.modBoot fun b => { b with keys := [⟨3, 0, [1], true⟩], ver := some ⟨kind, 0, some 0⟩ }) :: l)) base
    (coloHead kind ++ List.replicate 48 5)

/-- The colophon of an empty image as it is read. -/
def coloRead (kind base : Nat) : Colo :=
  { at_ := base, slot := 3, kind := kind, fmt := 0x0100, len := 0, ver := 0, digest := List.replicate 48 5, sig := List.replicate 96 255
    pub := List.replicate 96 255 }

/-- An image verifies when its colophon stands, its digest agrees and its signature is good. -/
theorem imgCheck_ok (s : State) (base size kind : Nat) (c : Colo) (k : List Nat) (hc : coloFind s base size = some c) (hf : c.fmt = 0x0100)
    (hk : c.kind = kind) (hd : Config.sha384 (xs0L s base c.len ++ xs0L s c.at_ 16) = c.digest) (hl : coloKey s.dev c = some k)
    (hv : Config.ecdsaVerify k c.digest c.sig = true) (h2 : kind ≠ 2) : imgCheck s base size kind = (0, some c) := by
  simp [imgCheck, hc, hf, hk, hd, hl, hv, h2]

/-- A forme in its slot A, with half 0 running and that verification under way. -/
def formeSigned : State := signedState 3 (frmBase 0) [fun d => { d with forme := { d.forme with st := 2 } }]

/-- An impression in its slot A while slot B is in use. -/
def impSigned : State := signedState 4 (impBase 0) [Dev.put pgCFG CFG.BOOT_STAT.IMPSLOT 1]

/-- An unlock ticket for a part whose UID is the first eight bytes of that colophon. -/
def ticketSigned : State :=
  signedState 6 ticketBase [fun d => { d with part := { d.part with uid := 0x010006034F4C4F43 } }]

theorem forme_signed (h : Signed 3) : slotCheck formeSigned 3 0 = (0, some (coloRead 3 (frmBase 0))) :=
  imgCheck_ok _ _ _ _ _ [1] (by decide +kernel) rfl rfl
    ((congrArg Config.sha384 (by decide +kernel : xs0L formeSigned (frmBase 0) 0 ++ xs0L formeSigned (frmBase 0) 16 = coloHead 3)).trans h.1)
    (by decide +kernel) h.2 (by decide)

theorem imp_signed (h : Signed 4) : slotCheck impSigned 4 0 = (0, some (coloRead 4 (impBase 0))) :=
  imgCheck_ok _ _ _ _ _ [1] (by decide +kernel) rfl rfl
    ((congrArg Config.sha384 (by decide +kernel : xs0L impSigned (impBase 0) 0 ++ xs0L impSigned (impBase 0) 16 = coloHead 4)).trans h.1)
    (by decide +kernel) h.2 (by decide)

/-- The premise sets of `Verification` about a verified forme whose half runs, and a verified impression. -/
theorem test_witness_VerificationSigned (h3 : Signed 3) (h4 : Signed 4) :
    (formeSigned.dev.hostActs = true ∧ ∃ j ∈ formeSigned.dev.boot.ver, (slotCheck formeSigned j.kind j.slot).1 = 0 ∧ j.kind = 3 ∧
      ∃ h ∈ j.copy, halfRuns formeSigned.dev h = true) ∧
    (impSigned.dev.hostActs = true ∧ ∃ j ∈ impSigned.dev.boot.ver, (slotCheck impSigned j.kind j.slot).1 = 0 ∧ j.kind = 4 ∧
      j.slot ≠ impSigned.dev.get pgCFG CFG.BOOT_STAT.IMPSLOT) :=
  ⟨⟨by decide +kernel, ⟨3, 0, some 0⟩, rfl, congrArg Prod.fst (forme_signed h3), rfl, 0, rfl, by decide +kernel⟩,
   by decide +kernel, ⟨4, 0, some 0⟩, rfl, congrArg Prod.fst (imp_signed h4), rfl, by decide +kernel⟩

theorem ticket_signed (h : Signed 6) : slotCheck ticketSigned 6 0 = (0, some (coloRead 6 ticketBase)) :=
  imgCheck_ok _ _ _ _ _ [1] (by decide +kernel) rfl rfl
    ((congrArg Config.sha384 (by decide +kernel : xs0L ticketSigned ticketBase 0 ++ xs0L ticketSigned ticketBase 16 = coloHead 6)).trans h.1)
    (by decide +kernel) h.2 (by decide)

/-- The colophon of a boot policy of 0xF00 bytes under the key slot 3. -/
def policyHead : List Nat := [0x43, 0x4F, 0x4C, 0x4F, 3, 1, 0, 1, 0, 0x0F, 0, 0, 7, 0, 0, 0]

/-- The bytes of such a policy and its colophon, erased beyond its magic and format. -/
def policyBytes : List Nat := [0x42, 0x4F, 0x4F, 0x54, 0, 1] ++ List.replicate 3834 255 ++ policyHead

/-- A device with the integrator's policy placed. -/
def policySigned : State :=
  putXs0 (putXs0 (poke [fun d => d.modBoot fun b => { b with keys := [⟨3, 0, [1], true⟩] }]) integBase [0x42, 0x4F, 0x4F, 0x54, 0, 1])
    (integBase + 0xF00) (policyHead ++ List.replicate 48 5)

/-- Its colophon as it is read. -/
def policyRead : Colo :=
  { at_ := integBase + 0xF00, slot := 3, kind := 1, fmt := 0x0100, len := 0xF00, ver := 7, digest := List.replicate 48 5
    sig := List.replicate 96 255, pub := List.replicate 96 255 }

theorem policy_check (hd : Config.sha384 policyBytes = List.replicate 48 5)
    (hv : Config.ecdsaVerify [1] (List.replicate 48 5) (List.replicate 96 255) = true) :
    imgCheck policySigned integBase 0x1000 1 = (0, some policyRead) :=
  imgCheck_ok _ _ _ _ _ [1] (by decide +kernel) rfl rfl
    ((congrArg Config.sha384 (by decide +kernel : xs0L policySigned integBase 0xF00 ++ xs0L policySigned (integBase + 0xF00) 16 =
      policyBytes)).trans hd) (by decide +kernel) hv (by decide)

theorem policy_signed (hd : Config.sha384 policyBytes = List.replicate 48 5)
    (hv : Config.ecdsaVerify [1] (List.replicate 48 5) (List.replicate 96 255) = true) :
    ∃ q, (policyAt policySigned integBase).2 = some q := by
  have h1 : policyRead.at_ = integBase + 0xF00 ∧ xs0W policySigned integBase 4 = 0x544F4F42 ∧ xs0W policySigned (integBase + 4) 2 = 0x0100 := by
    decide +kernel
  simp only [policyAt, policy_check hd hv, h1, and_self, if_true]
  exact ⟨_, rfl⟩

/-- The premise sets of `SecurityRequests` about a policy that verifies and a ticket that does. -/
theorem test_witness_SecurityRequestsSigned (hd : Config.sha384 policyBytes = List.replicate 48 5) (h6 : Signed 6) :
    (policySigned.dev.hostActs = true ∧ (∃ q, (policyAt policySigned integBase).2 = some q) ∧ policySigned.dev.boot.polVer = none ∧
      policySigned.dev.otp.integ = none) ∧
    (ticketSigned.dev.hostActs = true ∧ (∃ c ∈ (slotCheck ticketSigned 6 0).2, ∃ k ∈ ticketSigned.dev.boot.keys, k.slot = c.slot ∧ k.prod = true) ∧
      (slotCheck ticketSigned 6 0).1 = 0 ∧ xs0W ticketSigned ticketBase 8 = ticketSigned.dev.part.uid) :=
  ⟨⟨by decide +kernel, policy_signed hd h6.2, rfl, rfl⟩, by decide +kernel,
   ⟨_, congrArg Prod.snd (ticket_signed h6), ⟨3, 0, [1], true⟩, List.Mem.head _, rfl, rfl⟩, congrArg Prod.fst (ticket_signed h6), by decide +kernel⟩

/-- The CRC-32C register after `n` erased bytes, its value brought to a numeral at each byte. -/
def crcErased : Nat → Nat → Nat
  | 0, c => c
  | n + 1, c => match crc32Steps 8 (c ^^^ 255) with
    | 0 => crcErased n 0
    | k + 1 => crcErased n (k + 1)

/-- One match of it. -/
def crcErasedOn (n x : Nat) : Nat := match x with | 0 => crcErased n 0 | k + 1 => crcErased n (k + 1)

theorem crcErasedOn_eq (n x : Nat) : crcErasedOn n x = crcErased n x := by cases x <;> rfl

theorem crcErased_succ (n c : Nat) : crcErased (n + 1) c = crcErased n (crc32Steps 8 (c ^^^ 255)) := crcErasedOn_eq n _

theorem crcErased_eq (n : Nat) : ∀ c, crcErased n c = (List.replicate n 255).foldl (fun c b => crc32Steps 8 (c ^^^ (b % 256))) c := by
  induction n with
  | zero => intro c; rfl
  | succ n ih => intro c; rw [crcErased_succ, ih]; rfl

/-- The CRC-32C of an erased page of firmware. -/
theorem crc_erased_page : crc32c (List.replicate 4092 255) = 2097961346 := by
  have h : crcErased 4092 0xFFFFFFFF = 2197005949 := by decide +kernel
  rw [crc32c, ← crcErased_eq, h]; decide

/-- Slot A of the firmware is in use, its first page erased but for the four bytes of its CRC. -/
def pageState (l : List Nat) : State := putXs0 (poke [fun d => d.modBoot fun b => { b with phase := 5 }]) (fwBase 0 + 4092) l

theorem page_erased (l : List Nat) (h : xs0L (pageState l) (fwBase 0) 4092 = List.replicate 4092 255) :
    crc32c (xs0L (pageState l) (fwBase 0) 4092) = 2097961346 := by rw [h, crc_erased_page]

theorem getL_add (e : Byte) (m : Memory) (n k : Nat) : ∀ a, Memory.getL e m a (n + k) = Memory.getL e m a n ++ Memory.getL e m (a + n) k := by
  induction n with
  | zero => intro a; simp [Memory.getL]
  | succ n ih => intro a; rw [Nat.succ_add]; simp only [Memory.getL, ih, List.cons_append]; rw [Nat.add_right_comm a 1 n, Nat.add_assoc a n 1]

theorem page_read (s : State) (h : xs0L s (fwBase 0) 2046 = List.replicate 2046 255 ∧ xs0L s (fwBase 0 + 2046) 2046 = List.replicate 2046 255) :
    xs0L s (fwBase 0) 4092 = List.replicate 4092 255 := by
  have e : xs0L s (fwBase 0) 4092 = xs0L s (fwBase 0) 2046 ++ xs0L s (fwBase 0 + 2046) 2046 := getL_add _ _ 2046 2046 _
  rw [e, h.1, h.2, List.replicate_append_replicate]

theorem page_bytes :
    (xs0L (pageState (leBytes 4 2097961346)) (fwBase 0) 2046 = List.replicate 2046 255 ∧
      xs0L (pageState (leBytes 4 2097961346)) (fwBase 0 + 2046) 2046 = List.replicate 2046 255) ∧
    2097961346 = xs0W (pageState (leBytes 4 2097961346)) (fwBase 0 + 4092) 4 ∧
    (xs0L (pageState []) (fwBase 0) 2046 = List.replicate 2046 255 ∧ xs0L (pageState []) (fwBase 0 + 2046) 2046 = List.replicate 2046 255) ∧
    2097961346 ≠ xs0W (pageState []) (fwBase 0 + 4092) 4 :=
  ⟨⟨by decide +kernel, by decide +kernel⟩, by decide +kernel, ⟨by decide +kernel, by decide +kernel⟩, by decide +kernel⟩

/-- The premise sets of `SettingsMemory` about a page of firmware, with a good CRC and with a bad one. -/
theorem test_witness_SettingsMemoryPage :
    (∀ l ∈ [leBytes 4 2097961346, []], (pageState l).dev.alive = true ∧ (pageState l).dev.boot.factory = false ∧ 5 ≤ (pageState l).dev.boot.phase ∧
      (pageState l).dev.boot.hold = false ∧ (pageState l).dev.flt.halt = false ∧
      fwBase ((pageState l).dev.get pgCFG CFG.BOOT_STAT.FWSLOT) + 4096 * 0 = fwBase 0) ∧
    crc32c (xs0L (pageState (leBytes 4 2097961346)) (fwBase 0) 4092) = xs0W (pageState (leBytes 4 2097961346)) (fwBase 0 + 4092) 4 ∧
    crc32c (xs0L (pageState []) (fwBase 0) 4092) ≠ xs0W (pageState []) (fwBase 0 + 4092) 4 :=
  ⟨by decide +kernel,
   (page_erased (leBytes 4 2097961346) (page_read _ page_bytes.1)).trans page_bytes.2.1,
   fun h => page_bytes.2.2.2 ((page_erased [] (page_read _ page_bytes.2.2.1)).symm.trans h)⟩

end Sys2Proof.Tests
end

section
/-! PROOFS. Accesses over the fabric that are refused before they reach a register: what a refusal does and what it leaves alone,
for every source (R6, R7, R10, R58). -/

namespace Sys2Proof.Machine

/-! A refusal (R58). -/

/-- An access was refused: its event stands, `LASTREF` names it by page and word, and beside SYS no register changed its value;
no staged value, no leaf and nothing of the fault manager changed. -/
structure RefusedAs (e : Nat) (inMem : Bool) (pg word : Nat) (d d' : Dev) : Prop where
  raised : d'.raised pgSYS e = true
  page : d'.get pgSYS SYS.LASTREF.PAGE = if inMem then 0 else pg
  word : d'.get pgSYS SYS.LASTREF.WORD = word
  mem : d'.get pgSYS SYS.LASTREF.MEM = b2n inMem
  stg : d'.stg = d.stg
  leaf : d'.leaf = d.leaf
  flt : d'.flt = d.flt
  get : ∀ q f, q ≠ pgSYS → d'.get q f = d.get q f

/-- `LASTREF` after a refusal. -/
theorem refuse_lastref (e : Nat) (inMem : Bool) (pg word : Nat) (d : Dev) (hp : pg < 256) (hw : word < 1024) :
    (refuse e inMem pg word d).get pgSYS SYS.LASTREF.PAGE = (if inMem then 0 else pg) ∧
    (refuse e inMem pg word d).get pgSYS SYS.LASTREF.WORD = word ∧
    (refuse e inMem pg word d).get pgSYS SYS.LASTREF.MEM = b2n inMem := by
  unfold refuse
  refine ⟨?_, ?_, ?_⟩
  · rw [Dev.get_ev_ne _ _ _ _ _ (by decide), Dev.get_put_ne _ _ _ _ _ _ (by decide), Dev.get_put_same]
    refine Nat.mod_eq_of_lt (show _ < 256 from ?_)
    split <;> omega
  · rw [Dev.get_ev_ne _ _ _ _ _ (by decide), Dev.get_put_same]
    exact Nat.mod_eq_of_lt hw
  · rw [Dev.get_ev_ne _ _ _ _ _ (by decide), Dev.get_put_ne _ _ _ _ _ _ (by decide),
      Dev.get_put_ne _ _ _ _ _ _ (by decide), Dev.putB_eq, Dev.get_put_same]
    cases inMem <;> rfl

/-- A refusal changes no register of a page other than SYS: their cells lie above those of SYS. -/
theorem get_refuse_ne (e : Nat) (inMem : Bool) (pg word q : Nat) (f : Fld) (d : Dev) (hq : q ≠ pgSYS) :
    (refuse e inMem pg word d).get q f = d.get q f := by
  have ne (g : Fld) (hg : g.key pgSYS < 32768) : f.key q ≠ g.key pgSYS := by
    have : 0 < q := Nat.pos_of_ne_zero hq
    have : 32768 ≤ f.key q := by unfold Fld.key; omega
    omega
  unfold refuse
  rw [Dev.get_ev_ne _ _ _ _ _ (ne _ (by decide)), Dev.get_put_ne _ _ _ _ _ _ (ne _ (by decide)),
    Dev.get_put_ne _ _ _ _ _ _ (ne _ (by decide)), Dev.putB_eq, Dev.get_put_ne _ _ _ _ _ _ (ne _ (by decide))]

/-- An event of SYS that stands is not cleared by a refusal. -/
theorem raised_refuse_keep (e m : Nat) (inMem : Bool) (pg word : Nat) (d : Dev) (hm : m < 32) (h : d.raised pgSYS m = true) :
    (refuse e inMem pg word d).raised pgSYS m = true := by
  refine Dev.raised_ev_keep _ _ _ _ _ hm ?_
  rw [Dev.raised_put _ _ _ _ _ _ (by decide), Dev.raised_put _ _ _ _ _ _ (by decide), Dev.putB_eq,
    Dev.raised_put _ _ _ _ _ _ (by decide), h]

theorem refuse_refusedAs (e : Nat) (inMem : Bool) (pg word : Nat) (d : Dev) (he : e < 32) (hp : pg < 256) (hw : word < 1024) :
    RefusedAs e inMem pg word d (refuse e inMem pg word d) := by
  obtain ⟨hpage, hword, hmem⟩ := refuse_lastref e inMem pg word d hp hw
  exact { raised := Dev.raised_ev_same _ _ _ he, page := hpage, word := hword, mem := hmem, stg := rfl, leaf := rfl, flt := rfl,
          get := fun q f hq => get_refuse_ne _ _ _ _ q f _ hq }

/-- The refusal of an access that was refused before for another reason adds its own event. -/
theorem refuse_twice_refusedAs (e e' : Nat) (inMem : Bool) (pg word : Nat) (d : Dev) (he : e < 32) (he' : e' < 32) (hp : pg < 256)
    (hw : word < 1024) :
    RefusedAs e inMem pg word d (refuse e' inMem pg word (refuse e inMem pg word d)) ∧
    RefusedAs e' inMem pg word d (refuse e' inMem pg word (refuse e inMem pg word d)) := by
  have h := refuse_refusedAs e inMem pg word d he hp hw
  have h' := refuse_refusedAs e' inMem pg word (refuse e inMem pg word d) he' hp hw
  have get q f hq := (h'.get q f hq).trans (h.get q f hq)
  exact ⟨{ h' with raised := raised_refuse_keep _ _ _ _ _ _ he h.raised, get := get }, { h' with get := get }⟩

/-! Addresses (R41, R44). -/

/-- A register's address as a word. -/
abbrev regWord (p : BitVec 8) (off : Nat) : W32 := BitVec.ofNat 32 (regAddr p.toNat off)

theorem toNat_regWord (p : BitVec 8) (off : Nat) (ho : off < 4096) : (regWord p off).toNat = regAddr p.toNat off := by
  have := p.isLt
  rw [BitVec.toNat_ofNat, Nat.mod_eq_of_lt]
  unfold regAddr; omega

/-- An access of any size at a register's address is one of the page region. -/
theorem regionOf_regAddr (pg off n : Nat) (hp : pg < 256) (ho : off < 4096) : regionOf (regAddr pg off) n = .pages := by
  unfold regionOf regAddr packetBase packetSize
  simp only [Bool.and_eq_true, decide_eq_true_eq]
  repeat rw [if_neg (by omega)]
  rw [if_pos (by omega)]

/-- A register access of one or two bytes, or of a word off its grid, is narrow or unaligned (R10). -/
theorem badShape_regAddr (pg off n : Nat) (h : n = 1 ∨ n = 2 ∨ (n = 4 ∧ off % 4 ≠ 0)) : badShape (regAddr pg off) n = true := by
  unfold badShape regAddr
  rcases h with rfl | rfl | ⟨rfl, h⟩
  · rfl
  · rfl
  · have : (0x40000000 + pg * 4096 + off) % 4 ≠ 0 := by omega
    simpa using this

/-! The checks before a page is reached (R6, R7, R10). -/

/-- The checks refuse an access of `n` bytes at offset `off` of a page, with event `e`. -/
def ChecksRefuse (e pg off n : Nat) (d : Dev) : Prop :=
  (pageCheck (regAddr pg off) n d).2 = none ∧ RefusedAs e false pg (off / 4) d (pageCheck (regAddr pg off) n d).1

/-- A narrow or unaligned access does not reach its page: BADACC (R10). -/
theorem checksRefuse_narrow (pg off n : Nat) (d : Dev) (hp : pg < 256) (ho : off < 4096)
    (h : n = 1 ∨ n = 2 ∨ (n = 4 ∧ off % 4 ≠ 0)) : ChecksRefuse Ev.SYS.BADACC pg off n d := by
  unfold ChecksRefuse pageCheck
  simp only [badShape_regAddr pg off n h, regAddr_page _ _ hp ho, regAddr_off _ _ ho, if_true, true_and]
  split
  · exact (refuse_twice_refusedAs _ _ _ _ _ _ (by decide) (by decide) hp (by omega)).1
  · exact refuse_refusedAs _ _ _ _ _ (by decide) hp (by omega)

/-- An access to a page of an absent unit does not reach it: NOUNIT (R6, R7). -/
theorem checksRefuse_absent (pg off n : Nat) (d : Dev) (hp : pg < 256) (ho : off < 4096)
    (h : ∀ u ∈ unitOf pg, d.part.has u = false) : ChecksRefuse Ev.SYS.NOUNIT pg off n d := by
  have hu : (unitOf pg).filter (fun u => d.part.has u) = none := by
    rw [Option.filter_eq_none_iff]; simpa using h
  unfold ChecksRefuse pageCheck
  simp only [regAddr_page _ _ hp ho, regAddr_off _ _ ho, hu, ite_self, Option.isNone_none, if_true, true_and]
  split
  · exact (refuse_twice_refusedAs _ _ _ _ _ _ (by decide) (by decide) hp (by omega)).2
  · exact refuse_refusedAs _ _ _ _ _ (by decide) hp (by omega)

/-! The fabric. -/

theorem exec_registerWrite (src : Src) (a : W32) (n : Fin 5) (v : W32) (s : State) :
    exec (.registerWrite src a n v) s = .next (busWrite src a.toNat n.val v.toNat s).1 := rfl

theorem exec_registerRead (src : Src) (a : W32) (n : Fin 5) (s : State) :
    exec (.registerRead src a n) s = .next (tellRead (busRead src a.toNat n.val s)) := rfl

/-- The value read leaves by no register. -/
theorem RefusedAs.told {e : Nat} {inMem : Bool} {pg word : Nat} {d : Dev} {r : State × Nat × Bool}
    (h : RefusedAs e inMem pg word d r.1.dev) : RefusedAs e inMem pg word d (tellRead r).dev :=
  { h with }

/-- A register write that the checks refuse. -/
theorem registerWrite_refused (src : Src) (p : BitVec 8) (off e : Nat) (n : Fin 5) (v : W32) (s : State) (ho : off < 4096)
    (hs : srcMay s.dev src true (regWord p off).toNat = true) (hc : ChecksRefuse e p.toNat off n.val s.dev) :
    ∃ t, exec (.registerWrite src (regWord p off) n v) s = .next t ∧ RefusedAs e false p.toNat (off / 4) s.dev t.dev ∧ t.mem = s.mem := by
  refine ⟨_, exec_registerWrite .., ?_⟩
  rw [toNat_regWord p off ho] at hs ⊢
  unfold busWrite
  simp only [hs, regionOf_regAddr _ _ _ p.isLt ho, hc.1]
  exact ⟨hc.2, rfl⟩

/-- A register read that the checks refuse answers 0. -/
theorem registerRead_refused (src : Src) (p : BitVec 8) (off e : Nat) (n : Fin 5) (s : State) (ho : off < 4096)
    (hs : srcMay s.dev src false (regWord p off).toNat = true) (hc : ChecksRefuse e p.toNat off n.val s.dev) :
    ∃ t, exec (.registerRead src (regWord p off) n) s = .next t ∧ t.dev.net.out.read = 0 ∧
      RefusedAs e false p.toNat (off / 4) s.dev t.dev ∧ t.mem = s.mem := by
  refine ⟨_, exec_registerRead .., ?_⟩
  rw [toNat_regWord p off ho] at hs ⊢
  unfold busRead
  simp only [hs, regionOf_regAddr _ _ _ p.isLt ho, hc.1]
  exact ⟨rfl, RefusedAs.told hc.2, rfl⟩

/-- Settles O7: the checks before a page refuse both kinds of access, and a refusal writes SYS alone. -/
theorem accessRules : Obligations.AccessRules := by
  unfold Obligations.AccessRules
  intro s src p q o n v a
  have ho : o.toNat < 4096 := o.isLt
  constructor
  · intro habs
    have hc := checksRefuse_absent p.toNat o.toNat 4 s.dev p.isLt ho habs
    constructor
    · intro hs
      obtain ⟨t, ht, hread, r, hmem⟩ := registerRead_refused src p _ _ 4 s ho hs hc
      exact ⟨t, ht, hread, r.raised, r.stg, hmem⟩
    · intro hs
      obtain ⟨t, ht, r, hmem⟩ := registerWrite_refused src p _ _ 4 v s ho hs hc
      exact ⟨t, ht, r.raised, r.stg, r.leaf, r.flt, hmem, fun _ _ f _ hq => r.get _ f hq⟩
  · intro hn
    have hc := checksRefuse_narrow p.toNat o.toNat n.val s.dev p.isLt ho hn
    constructor
    · intro hs
      obtain ⟨t, ht, hread, r, hmem⟩ := registerRead_refused src p _ _ n s ho hs hc
      exact ⟨t, ht, hread, r.raised, r.stg, hmem⟩
    · intro hs
      obtain ⟨t, ht, r, hmem⟩ := registerWrite_refused src p _ _ n v s ho hs hc
      exact ⟨t, ht, r.raised, r.stg, r.leaf, r.flt, hmem, fun _ _ f _ hq => r.get _ f hq⟩

end Sys2Proof.Machine
end

section
/-! PROOFS. Register writes of the host: the header's event registers on the data plane, the safety pages, an address in no region
(R12, R28, R41, R45, R50). -/

namespace Sys2Proof.Machine

/-! The header registers (tables "PG_ID" to "SH_EPOCH"). -/

/-- A unit's own registers lie behind the common header. -/
theorem off_ge_of_mem_own (u : Unit_) : ∀ f ∈ u.own, 0x040 ≤ f.off := by
  unfold Unit_.own
  split <;> decide +kernel

/-- The fields of a page are those of the common header and others behind it. -/
theorem unitFields_eq_header_append (u : Unit_) : ∃ l, unitFields u = HDR.fields ++ l ∧ ∀ f ∈ l, 0x040 ≤ f.off := by
  have elems (l : List Fld) (hl : ∀ g ∈ l, 0x040 ≤ g.off) : ∀ f ∈ l.flatMap Fld.elems, 0x040 ≤ f.off := by
    intro f hf
    obtain ⟨g, hg, hfg⟩ := List.mem_flatMap.mp hf
    obtain ⟨i, _, rfl⟩ := List.mem_map.mp hfg
    exact Nat.le_add_right_of_le (hl g hg)
  refine ⟨_, rfl, elems _ ?_⟩
  split
  · intro g hg
    rcases List.mem_append.mp hg with hg | hg
    · exact off_ge_of_mem_own (.pos 0) g (List.mem_filter.mp hg).1
    · exact off_ge_of_mem_own (.posk 0) g hg
  · exact off_ge_of_mem_own _

/-- The fields that a write of a header register names. -/
theorem filter_writable_header (u : Unit_) (off : Nat) (ho : off < 0x040) :
    ((hdrWo ++ unitFields u).filter fun f => f.off == off && f.acc != .ro) =
      (hdrWo ++ HDR.fields).filter fun f => f.off == off && f.acc != .ro := by
  obtain ⟨l, hu, hl⟩ := unitFields_eq_header_append u
  have hnil : l.filter (fun f => f.off == off && f.acc != .ro) = [] := by
    rw [List.filter_eq_nil_iff]
    intro f hf
    have : f.off ≠ off := by have := hl f hf; omega
    simp [this]
  rw [hu, ← List.append_assoc, List.filter_append, hnil, List.append_nil]

/-- On a page of the data plane no field of the header is missing. -/
theorem fieldGone_header (d : Dev) (u : Unit_) (f : Fld) (hu : u.plane = .data) (hf : f.off < 0x040) : fieldGone d u f = false :=
  match u, hu with
  | .can c, _ => by
    have : f.off ≠ CAN.CTRL.PDOEN.off := Nat.ne_of_lt hf
    simp [fieldGone, this]
  | .recE, _ | .impo, _ | .eth, _ | .trdp, _ | .ptp, _ | .ring, _ => rfl

/-- A register of one stored field takes a permitted write, then acts. -/
theorem regWrite_single (src : Src) (pg : Nat) (u : Unit_) (off v : Nat) (s : State) (f : Fld)
    (hl : writeFields s.dev u off = [f]) (hlock : regLocked s.dev u src off = false) (hoff : off ≠ 0x030) (hacc : f.acc ≠ .rwp)
    (hwd : (u == .svc && off == SVC.SVC_WDOG.EN0.off) = false) :
    (regWrite src pg u off v s).1 = regEffect src pg u off (takenBits [f] v) (s.onDev (takeField u pg v f)) := by
  have hlock' := hlock
  simp only [regLocked, hl, Bool.or_eq_false_iff, List.any_cons, List.any_nil, Bool.or_false, Bool.not_eq_false'] at hlock'
  obtain ⟨⟨hpage, hmay⟩, -⟩ := hlock'
  have hheld : heldOff s.dev pg f = false := by simp [heldOff, hacc]
  have hbusy : regBusy s.dev u src pg off v = false := by simp [regBusy, hl, hmay, hheld]
  unfold regWrite
  simp only [hpage, hl, List.filter_cons, List.filter_nil, hmay, hheld, hlock, hbusy, hwd, hoff, Bool.not_false, Bool.false_eq_true,
    if_true, if_false]
  rfl

/-- The event registers of a page of the data plane are the host's to write (R28). -/
theorem writeFields_event (d : Dev) (u : Unit_) (f : Fld) (hu : u.plane = .data) (hf : f = HDR.EV_EN ∨ f = HDR.EV_STAT) :
    writeFields d u f.off = [f] := by
  have ho : f.off < 0x040 := by rcases hf with rfl | rfl <;> decide
  refine writeFields_eq d u f.off [f] ?_ fun g hg => ?_
  · rw [filter_writable_header u f.off ho]
    rcases hf with rfl | rfl <;> decide
  · rw [List.mem_singleton.mp hg]
    exact fieldGone_header d u f hu ho

/-- The event registers hold no field that only reads. -/
theorem readOnlyReg_event (d : Dev) (u : Unit_) (f : Fld) (hf : f = HDR.EV_EN ∨ f = HDR.EV_STAT) : readOnlyReg d u f.off = false := by
  obtain ⟨l, hu, hl⟩ := unitFields_eq_header_append u
  have hro : ∀ g ∈ HDR.fields ++ l, (g.off == f.off && g.acc == .ro) = false := by
    intro g hg
    rcases List.mem_append.mp hg with hg | hg
    · have hhdr : ∀ g ∈ HDR.fields, (g.off == f.off && g.acc == .ro) = false := by rcases hf with rfl | rfl <;> decide
      exact hhdr g hg
    · have : f.off < g.off := Nat.lt_of_lt_of_le (by rcases hf with rfl | rfl <;> decide) (hl g hg)
      simp [Nat.ne_of_gt this]
  have hany : ((unitFields u).any fun g => g.off == f.off && g.acc == .ro && !fieldGone d u g) = false := by
    rw [hu, List.any_eq_false]
    intro g hg
    simp [hro g hg]
  unfold readOnlyReg
  rw [hany]
  rcases hf with rfl | rfl <;> simp [HDR.EV_EN, HDR.EV_STAT, fld]

/-- A write of an event register of the data plane is barred to no host (R28). -/
theorem regLocked_event (d : Dev) (u : Unit_) (f : Fld) (hu : u.plane = .data) (hlc : d.otp.lc ≠ 3)
    (hf : f = HDR.EV_EN ∨ f = HDR.EV_STAT) : regLocked d u .host f.off = false := by
  have hsafe : u.safety = false := match u, hu with
    | .recE, _ | .can _, _ | .impo, _ | .eth, _ | .trdp, _ | .ptp, _ | .ring, _ => rfl
  have hsvc : u ≠ .svc := by rintro rfl; cases hu
  have hmay : fieldMay u .host f = true := by
    unfold fieldMay
    rw [hu]
    rcases hf with rfl | rfl <;> rfl
  unfold regLocked
  rw [writeFields_event d u f hu hf]
  simp [pageLocked, hostReads, roRefused, readOnlyReg_event d u f hf, hsafe, hsvc, hmay, hlc, srcRt, srcMgmt]

/-- Writing an event register has no further effect on a page of the data plane. -/
theorem regEffect_event (pg : Nat) (u : Unit_) (f : Fld) (v : Nat) (s : State) (hu : u.plane = .data)
    (hf : f = HDR.EV_EN ∨ f = HDR.EV_STAT) : regEffect .host pg u f.off v s = s := by
  have hset : f.off ≠ 0x02C := by rcases hf with rfl | rfl <;> decide
  unfold regEffect
  rw [if_neg hset]
  exact match u, hu with
    | .recE, _ | .can _, _ | .impo, _ | .eth, _ | .trdp, _ | .ptp, _ | .ring, _ => rfl

/-- No range bounds `EV_EN`. -/
theorem rangeVal_evEn (u : Unit_) (pg v : Nat) (d : Dev) (hu : u.plane = .data) : rangeVal u pg HDR.EV_EN v d = v % 2 ^ 32 % 2 ^ 32 :=
  match u, hu with
  | .recE, _ | .can _, _ | .impo, _ | .eth, _ | .trdp, _ | .ptp, _ | .ring, _ => rfl

/-- `EV_EN` takes every value as written. -/
theorem takeField_evEn (u : Unit_) (pg v : Nat) (d : Dev) (hu : u.plane = .data) :
    takeField u pg v HDR.EV_EN d = d.put pg HDR.EV_EN v := by
  have hraw : bitsOf v HDR.EV_EN.lo HDR.EV_EN.w = v % 2 ^ 32 := by simp [bitsOf, HDR.EV_EN, fld]
  have hput : d.put pg HDR.EV_EN (v % 2 ^ 32) = d.put pg HDR.EV_EN v := by simp [Dev.put, HDR.EV_EN, fld]
  have hacc : HDR.EV_EN.acc = .rw := rfl
  have hfree : (fixedField pg HDR.EV_EN || notHeld u HDR.EV_EN) = false := by simp [fixedField, notHeld, HDR.EV_EN, fld]
  unfold takeField
  simp only [hacc, hfree, hraw, rangeVal_evEn u pg _ d hu, Nat.mod_mod, Bool.false_eq_true, if_false, reduceCtorEq, hput]
  exact if_pos (Nat.mod_mod _ _).symm

/-- A 1 written to an event clears it where it did not occur in the same cycle (R50). -/
theorem takeField_evStat (u : Unit_) (pg v : Nat) (d : Dev) (hcyc : d.evCycle pg = 0) :
    takeField u pg v HDR.EV_STAT d = d.put pg HDR.EV_STAT ((2 ^ 32 - 1 - v % 2 ^ 32) &&& d.get pg HDR.EV_STAT) := by
  have hraw : bitsOf v HDR.EV_STAT.lo HDR.EV_STAT.w = v % 2 ^ 32 := by simp [bitsOf, HDR.EV_STAT, fld]
  have hacc : HDR.EV_STAT.acc = .w1c := rfl
  have hoff : HDR.EV_STAT.off = 0x028 := rfl
  unfold takeField
  simp only [hacc, hraw, hoff, hcyc, if_true, Nat.and_zero, Nat.sub_zero]
  rfl

/-- A permitted word write of a present page is a write of its register. -/
theorem registerWrite_present (src : Src) (p : BitVec 8) (off : Nat) (u : Unit_) (v : W32) (s : State)
    (hs : srcMay s.dev src true (regAddr p.toNat off) = true) (ho : off < 4096) (h4 : off % 4 = 0) (hp : unitOf p.toNat = some u)
    (hh : s.dev.part.has u = true) :
    exec (.registerWrite src (regWord p off) 4 v) s = .next (regWrite src p.toNat u off v.toNat s).1 := by
  rw [exec_registerWrite, toNat_regWord p _ ho]
  congr 1
  unfold busWrite
  simp only [hs, show (4 : Fin 5).val = 4 from rfl, regionOf_regAddr _ _ _ p.isLt ho, pageCheck_ok _ _ _ u p.isLt ho h4 hp hh,
    regAddr_page _ _ p.isLt ho, regAddr_off _ _ ho, Nat.mod_eq_of_lt v.isLt]
  rfl

/-- What the host's write of an event register of the data plane does: the field takes it, and nothing else changes. -/
theorem registerWrite_event (p : BitVec 8) (u : Unit_) (f : Fld) (v : W32) (s : State) (hs : s.dev.hostActs = true)
    (hp : unitOf p.toNat = some u) (hh : s.dev.part.has u = true) (hu : u.plane = .data) (hf : f = HDR.EV_EN ∨ f = HDR.EV_STAT) :
    exec (.registerWrite .host (regWord p f.off) 4 v) s = .next (s.onDev (takeField u p.toNat v.toNat f)) := by
  have hform : f.off < 4096 ∧ f.off % 4 = 0 ∧ f.off ≠ 0x030 ∧ f.acc ≠ .rwp := by rcases hf with rfl | rfl <;> decide
  obtain ⟨ho, h4, h30, hacc⟩ := hform
  have hlc : s.dev.otp.lc ≠ 3 := by simp [Dev.hostActs] at hs; exact hs.2
  have hsvc : u ≠ .svc := by rintro rfl; cases hu
  rw [registerWrite_present .host p f.off u v s (srcMay_host _ _ _ hs) ho h4 hp hh,
    regWrite_single _ _ _ _ _ _ f (writeFields_event _ _ _ hu hf) (regLocked_event _ _ _ hu hlc hf) h30 hacc (by simp [hsvc]),
    regEffect_event _ _ _ _ _ hu hf]

/-- A write of the host to a safety page raises WLOCK (R12, R45). -/
theorem registerWrite_safety (p : BitVec 8) (off : Nat) (u : Unit_) (v : W32) (s : State) (hs : s.dev.hostActs = true)
    (ho : off < 4096) (h4 : off % 4 = 0) (hp : unitOf p.toNat = some u) (hh : s.dev.part.has u = true) (hu : u.safety = true) :
    ∃ t, exec (.registerWrite .host (regWord p off) 4 v) s = .next t ∧
      RefusedAs Ev.SYS.WLOCK false p.toNat (off / 4) s.dev t.dev ∧ t.mem = s.mem := by
  have hlock : pageLocked s.dev u .host off = true := by simp [pageLocked, hu]
  refine ⟨_, registerWrite_present .host p off u v s (srcMay_host _ _ _ hs) ho h4 hp hh, ?_⟩
  unfold regWrite
  simp only [hlock, if_true]
  exact ⟨refuse_refusedAs _ _ _ _ _ (by decide) p.isLt (by omega), rfl⟩

/-- A write to no region raises BADACC with MEM, by its address bits 11:2 (R41, R58). -/
theorem registerWrite_noRegion (src : Src) (a v : W32) (n : Fin 5) (s : State) (hs : srcMay s.dev src true a.toNat = true)
    (hr : regionOf a.toNat n.val = .none) :
    ∃ t, exec (.registerWrite src a n v) s = .next t ∧
      RefusedAs Ev.SYS.BADACC true 0 (a.toNat / 4 % 1024) s.dev t.dev ∧ t.mem = s.mem := by
  refine ⟨_, exec_registerWrite .., ?_⟩
  unfold busWrite
  simp only [hs, hr]
  exact ⟨refuse_refusedAs _ _ _ _ _ (by decide) (by decide) (by omega), rfl⟩

/-- Settles O30: what the checks, the page's lock or the map refuse leaves its event and `LASTREF`; an event register of the data
plane takes the host's write. -/
theorem registerWrites : Obligations.RegisterWrites := by
  unfold Obligations.RegisterWrites
  intro s p w v hs
  have ho : 4 * w.val < 4096 := by have := w.isLt; omega
  have hw : 4 * w.val / 4 = w.val := by omega
  have host a : srcMay s.dev .host true a = true := srcMay_host _ _ _ hs
  refine ⟨?_, ?_, ?_⟩
  · intro hnone
    have hc := checksRefuse_absent p.toNat (4 * w.val) 4 s.dev p.isLt ho (by simp [hnone])
    obtain ⟨t, ht, r, hmem⟩ := registerWrite_refused .host p _ _ 4 v s ho (host _) hc
    exact ⟨t, ht, r.raised, r.page, r.word.trans hw, r.mem, hmem⟩
  · intro u hp hh
    refine ⟨?_, ?_, ?_⟩
    · have hc := checksRefuse_narrow p.toNat (4 * w.val) 2 s.dev p.isLt ho (.inr (.inl rfl))
      obtain ⟨t, ht, r, hmem⟩ := registerWrite_refused .host p _ _ 2 v s ho (host _) hc
      exact ⟨t, ht, r.raised, r.page, r.word.trans hw, r.stg, hmem⟩
    · intro hsafe
      obtain ⟨t, ht, r, hmem⟩ := registerWrite_safety p _ u v s hs ho (by omega) hp hh hsafe
      exact ⟨t, ht, r.raised, r.page, r.stg, hmem⟩
    · intro hdata
      refine ⟨?_, ?_⟩
      · refine ⟨_, registerWrite_event p u HDR.EV_EN v s hs hp hh hdata (.inl rfl), ?_⟩
        have hsys : HDR.EV_STAT.key pgSYS ≠ HDR.EV_EN.key p.toNat := by unfold Fld.key; simp [HDR.EV_STAT, HDR.EV_EN, fld]; omega
        rw [State.onDev_dev, takeField_evEn u _ _ _ hdata, Dev.get_put_same, Dev.get_put_ne _ _ _ _ _ _ hsys]
        exact ⟨Nat.mod_eq_of_lt v.isLt, rfl, rfl, rfl⟩
      · intro hcyc
        refine ⟨_, registerWrite_event p u HDR.EV_STAT v s hs hp hh hdata (.inr rfl), ?_⟩
        rw [State.onDev_dev, takeField_evStat u _ _ _ hcyc, Dev.get_put_same, Nat.mod_eq_of_lt v.isLt]
        exact ⟨Nat.mod_eq_of_lt (Nat.lt_of_le_of_lt Nat.and_le_left (show _ < 2 ^ 32 by omega)), rfl, rfl⟩
  · obtain ⟨t, ht, r, hmem⟩ := registerWrite_noRegion .host 0x3FFFFFF0#32 v 4 s (host _) (by decide)
    exact ⟨t, ht, r.raised, r.mem, r.word, hmem⟩

end Sys2Proof.Machine
end

section
/-! PROOFS. The galley: what the runtime writes and reads back (R18, R41). -/

namespace Sys2Proof.Machine

/-- An address of the galley as a word. -/
abbrev galleyWord (a : BitVec 16) : W32 := 0x20000000#32 + a.zeroExtend 32

theorem toNat_galleyWord (a : BitVec 16) : (galleyWord a).toNat = 0x20000000 + a.toNat := by
  have := a.isLt
  simp [galleyWord, BitVec.toNat_add]
  omega

theorem regionOf_galley (a : BitVec 16) : regionOf (0x20000000 + a.toNat) 4 = .galley := by
  have := a.isLt
  unfold regionOf
  simp only [Bool.and_eq_true, decide_eq_true_eq]
  rw [if_neg (by omega), if_neg (by omega), if_pos (by omega)]

/-- The runtime's write of a word of the galley stores its bytes. -/
theorem registerWrite_galley (a : BitVec 16) (v : W32) (s : State) (hs : s.dev.runtimeActs = true) :
    exec (.registerWrite .runtime (galleyWord a) 4 v) s = .next (memStore (0x20000000 + a.toNat) 4 v.toNat s) := by
  rw [exec_registerWrite, toNat_galleyWord]
  congr 1
  unfold busWrite
  simp only [srcMay_runtime _ _ _ hs, show (4 : Fin 5).val = 4 from rfl, regionOf_galley]
  rfl

/-! What the runtime reads back from a canonical memory. -/

theorem ofLe_leBytes (n v : Nat) : ofLe (leBytes n v) = v % 256 ^ n := by
  induction n generalizing v with
  | zero => simp [leBytes, ofLe, Nat.mod_one]
  | succ n ih => rw [leBytes, ofLe, ih, Nat.mod_mod, Nat.pow_succ', Nat.mod_mul]

/-- Bytes stored in a canonical memory are the bytes read. -/
theorem Memory.getL_putL_same (e : Byte) (l : List Nat) (m : Memory) (a : Nat) (h : m.wf e = true) (hl : ∀ b ∈ l, b < 256) :
    (m.putL e a l).getL e a l.length = l := by
  induction l generalizing m a with
  | nil => rfl
  | cons b l ih =>
    have hb : (Memory.putL e (m.put e a (BitVec.ofNat 8 b)) (a + 1) l).get e a = BitVec.ofNat 8 b :=
      (Memory.get_putL_ne e l _ (a + 1) a (by omega)).trans (Memory.get_put_same e m 0 a _ h)
    have hrest := ih (m.put e a (BitVec.ofNat 8 b)) (a + 1) (Memory.wf_put e m a _ h) fun x hx => hl x (by simp [hx])
    have hlt : b < 256 := hl b (by simp)
    simp only [Memory.putL, List.length_cons, Memory.getL, hb, hrest, BitVec.toNat_ofNat]
    rw [Nat.mod_eq_of_lt hlt]

/-- Meeting an upset of the galley changes no byte (R42, R43). -/
theorem eccMeet_galley_mem (h : EccHit) (s : State) (hg : h.site = .galley) : (eccMeet h s).mem = s.mem := by
  unfold eccMeet
  split
  · unfold eccDouble
    simp only [hg]
    rfl
  · rfl

theorem foldl_eccMeet_galley_mem (l : List EccHit) (s : State) (hl : ∀ h ∈ l, h.site = .galley) :
    (l.foldl (fun s h => eccMeet h s) s).mem = s.mem := by
  induction l generalizing s with
  | nil => rfl
  | cons h l ih => exact (ih _ fun x hx => hl x (by simp [hx])).trans (eccMeet_galley_mem h s (hl h (by simp)))

/-- A read of the galley changes no byte, whatever upsets it meets. -/
theorem eccAccess_galley_mem (a : BitVec 16) (n : Nat) (s : State) : (eccAccess (0x20000000 + a.toNat) n s).mem = s.mem := by
  have hsite : eccSiteAt (0x20000000 + a.toNat) = some .galley := by
    have := a.isLt
    unfold eccSiteAt
    rw [if_neg (by omega), if_neg (by omega), if_pos (by omega)]
  unfold eccAccess
  refine foldl_eccMeet_galley_mem _ _ fun h hh => ?_
  have ht := (List.mem_filter.mp hh).2
  simp only [eccTouches, hsite, Bool.and_eq_true, beq_iff_eq, Option.some.injEq] at ht
  exact ht.1.1.symm

/-- The runtime's read of a word of the galley answers its bytes and leaves them. -/
theorem registerRead_galley (a : BitVec 16) (s : State) (hs : s.dev.runtimeActs = true) :
    ∃ u, exec (.registerRead .runtime (galleyWord a) 4) s = .next u ∧ u.dev.net.out.read = s.peek (0x20000000 + a.toNat) 4 ∧
      u.mem = s.mem := by
  refine ⟨_, exec_registerRead .., ?_⟩
  have hmem := eccAccess_galley_mem a 4 s
  rw [toNat_galleyWord]
  unfold busRead
  simp only [srcMay_runtime _ _ _ hs, show (4 : Fin 5).val = 4 from rfl, regionOf_galley]
  exact ⟨congrArg (fun m => Memory.getW sramEmpty m _ 4) hmem, hmem⟩

/-- From canonical memories the clause that O31 fails on holds: the runtime reads back from the galley what it wrote (R18, R41). -/
theorem galley_readBack_of_wf (a : BitVec 16) (v : W32) (s : State) (hs : s.dev.runtimeActs = true) (hwf : s.wf = true) :
    ∃ t, exec (.registerWrite .runtime (galleyWord a) 4 v) s = .next t ∧
      ∃ u, exec (.registerRead .runtime (galleyWord a) 4) t = .next u ∧ u.dev.net.out.read = v.toNat ∧ u.mem = t.mem := by
  obtain ⟨u, hu, hread, hmem⟩ := registerRead_galley a (memStore (0x20000000 + a.toNat) 4 v.toNat s) hs
  refine ⟨_, registerWrite_galley a v s hs, u, hu, hread.trans ?_, hmem⟩
  simp only [State.wf, Bool.and_eq_true] at hwf
  obtain ⟨⟨hm, -⟩, -⟩ := hwf
  have hbytes : ∀ b ∈ leBytes 4 v.toNat, b < 256 := by simp [leBytes]; omega
  calc (memStore (0x20000000 + a.toNat) 4 v.toNat s).peek (0x20000000 + a.toNat) 4
      = ofLe (leBytes 4 v.toNat) := congrArg ofLe (Memory.getL_putL_same sramEmpty _ s.mem _ hm hbytes)
    _ = v.toNat := (ofLe_leBytes 4 _).trans (Nat.mod_eq_of_lt v.isLt)

/-! A memory that is not canonical. -/

/-- A galley whose cells are not in the canonical form: its first byte is listed twice, so that clearing it uncovers the second cell. -/
def doubledCell : State := { State.reset with mem := [(0x20000000, 1#8), (0x20000000, 1#8)] }

/-- In that galley the runtime clears a word and reads 1. -/
theorem doubledCell_readBack :
    (tellRead (busRead .runtime 0x20000000 4 (memStore 0x20000000 4 0 doubledCell))).dev.net.out.read = 1 := by decide +kernel

/-- Refutes O31: the statement takes every list of cells for a memory, also one that lists an address twice, which `State.wf`
excludes; there the runtime does not read back from the galley what it wrote. `galley_readBack_of_wf` is the clause with that premise. -/
theorem not_readsAndMemory : ¬ Obligations.ReadsAndMemory := by
  unfold Obligations.ReadsAndMemory
  rintro ⟨-, h⟩
  obtain ⟨⟨t, ht, -, -, u, hu, hread, -⟩, -⟩ := h doubledCell 0#16 0#32 (by decide)
  rw [registerWrite_galley 0#16 0#32 doubledCell (by decide)] at ht
  cases ht
  rw [exec_registerRead] at hu
  cases hu
  exact absurd (doubledCell_readBack.symm.trans hread) (by decide)

end Sys2Proof.Machine
end

section
/-! PROOFS. The state right after reset, and the rows that are one access to a register. -/

namespace Sys2Proof.Machine

/-! The state right after reset (R40). -/

/-- Right after reset a field that `resetCells` does not list reads its table's value in both copies. -/
theorem reset_get (pg : Nat) (f : Fld) (h : ∀ x ∈ resetCells, x.1 ≠ f.key pg) :
    State.reset.dev.get pg f = f.rst ∧ State.reset.dev.sget pg f = f.rst :=
  ⟨Cells.get_of_none _ _ _ h, Cells.get_of_none _ _ _ h⟩

/-- Settles O6: the two stores of the reset state list the six exceptions and nothing else. -/
theorem resetState : Obligations.ResetState := by
  unfold Obligations.ResetState
  refine ⟨by decide, rfl, rfl, fun pg f hk => reset_get pg f fun x hx hxk => hk ?_, by decide, by decide, by decide⟩
  have hkeys : resetCells.map Prod.fst = [704, 263200, 2884352, 2884368, 2884372, 2884383] := rfl
  rw [← hkeys, ← hxk]
  exact List.mem_map_of_mem hx

/-! Rows that are one access (R44). -/

/-- A page takes only the low word of the value written. -/
theorem busWrite_low (src : Src) (pg off v : Nat) (s : State) (hp : pg < 256) (ho : off < 4096) :
    busWrite src (regAddr pg off) 4 (v % 2 ^ 32) s = busWrite src (regAddr pg off) 4 v s := by
  unfold busWrite
  simp only [regionOf_reg pg off hp ho, Nat.mod_mod]

/-- A row that writes one register acts as REGISTER_WRITE of its word at the register's address. -/
theorem writeRow (pg off : Nat) {src : Src} {v : Nat} {s : State} {a w : W32} (hp : pg < 256) (ho : off < 4096 := by decide)
    (ha : a = BitVec.ofNat 32 (regAddr pg off) := by decide) (hw : w = BitVec.ofNat 32 v := by rfl) :
    .next (busWrite src (regAddr pg off) 4 v s).1 = exec (.registerWrite src a 4 w) s := by
  have haddr : a.toNat = regAddr pg off := by
    rw [ha, BitVec.toNat_ofNat, Nat.mod_eq_of_lt]
    unfold regAddr; omega
  have hval : w.toNat = v % 2 ^ 32 := by rw [hw, BitVec.toNat_ofNat]
  rw [exec_registerWrite, haddr, hval, show (4 : Fin 5).val = 4 from rfl, busWrite_low src pg off v s hp ho]

/-- A word is written as it stands. -/
theorem word_eq (x : W32) : x = BitVec.ofNat 32 x.toNat := by simp

section
variable {src : Src} {v : Nat} {s : State} {a w : W32}

/-- A command row of a page that stands alone. -/
theorem writeRow_page (pg : Nat) (f : Fld) (hp : pg < 256 := by decide) (ho : f.off < 4096 := by decide)
    (ha : a = BitVec.ofNat 32 (regAddr pg f.off) := by decide) (hw : w = BitVec.ofNat 32 v := by rfl) :
    .next (wr src pg f v s) = exec (.registerWrite src a 4 w) s := writeRow pg f.off hp ho ha hw

/-- A command row of one of a unit's like pages. -/
theorem writeRow_unit (base n : Nat) (f : Fld) (hn : base + n < 256) (ho : f.off < 4096)
    (ha : a = BitVec.ofNat 32 (0x40000000 + base * 4096 + f.off + 0x1000 * n)) (hw : w = BitVec.ofNat 32 v) :
    .next (wr src (base + n) f v s) = exec (.registerWrite src a 4 w) s :=
  writeRow_page (base + n) f hn ho (ha.trans (congrArg _ (by unfold regAddr; omega))) hw

theorem writeRow_leaf (n : LeafNo) (f : Fld) (ho : f.off < 4096 := by decide) (hw : w = BitVec.ofNat 32 v := by rfl) :
    .next (wr src (pgLEAF n.val) f v s) =
      exec (.registerWrite src (BitVec.ofNat 32 (0x40010000 + f.off + 0x1000 * n.val)) 4 w) s :=
  writeRow_unit 0x10 n.val f (by omega) ho rfl hw

theorem writeRow_obs (n : LeafNo) (f : Fld) (ho : f.off < 4096 := by decide) (hw : w = BitVec.ofNat 32 v := by rfl) :
    .next (wr src (pgOBS n.val) f v s) =
      exec (.registerWrite src (BitVec.ofNat 32 (0x40018000 + f.off + 0x1000 * n.val)) 4 w) s :=
  writeRow_unit 0x18 n.val f (by omega) ho rfl hw

theorem writeRow_pos (n : AxisNo) (f : Fld) (ho : f.off < 4096 := by decide) (hw : w = BitVec.ofNat 32 v := by rfl) :
    .next (wr src (pgPOS n.val) f v s) =
      exec (.registerWrite src (BitVec.ofNat 32 (0x40020000 + f.off + 0x1000 * n.val)) 4 w) s :=
  writeRow_unit 0x20 n.val f (by omega) ho rfl hw

theorem writeRow_step (n : StepNo) (f : Fld) (ho : f.off < 4096 := by decide) (hw : w = BitVec.ofNat 32 v := by rfl) :
    .next (wr src (pgSTEP n.val) f v s) =
      exec (.registerWrite src (BitVec.ofNat 32 (0x40030000 + f.off + 0x1000 * n.val)) 4 w) s :=
  writeRow_unit 0x30 n.val f (by omega) ho rfl hw

theorem writeRow_fio (n : DieNo) (f : Fld) (ho : f.off < 4096 := by decide) (hw : w = BitVec.ofNat 32 v := by rfl) :
    .next (wr src (pgFIO n.val) f v s) =
      exec (.registerWrite src (BitVec.ofNat 32 (0x40040000 + f.off + 0x1000 * n.val)) 4 w) s :=
  writeRow_unit 0x40 n.val f (by omega) ho rfl hw

theorem writeRow_lsw (n : DieNo) (f : Fld) (ho : f.off < 4096 := by decide) (hw : w = BitVec.ofNat 32 v := by rfl) :
    .next (wr src (pgLSW n.val) f v s) =
      exec (.registerWrite src (BitVec.ofNat 32 (0x40042000 + f.off + 0x1000 * n.val)) 4 w) s :=
  writeRow_unit 0x42 n.val f (by omega) ho rfl hw

/-- `DRV_CTRL` lies at an offset of its own on the pages of the leaves and of the steps (R106). -/
theorem writeRow_drv (axis : AxisNo) (hw : w = BitVec.ofNat 32 v := by rfl) :
    .next (wr src (pgDRV axis.val) (drvCtrlFld axis.val) v s) =
      exec (.registerWrite src (BitVec.ofNat 32
        (if axis.val < 8 then 0x40010088 + 0x1000 * axis.val else 0x40030070 + 0x1000 * (axis.val - 8))) 4 w) s := by
  have hlt := axis.isLt
  unfold pgDRV drvCtrlFld
  split
  · exact writeRow_unit 0x10 axis.val LEAF.DRV_CTRL.CAL (by omega) (by decide) rfl hw
  · rw [show 0x28 + axis.val = 0x30 + (axis.val - 8) by omega]
    exact writeRow_unit 0x30 (axis.val - 8) STEP.DRV_CTRL.CAL (by omega) (by decide) rfl hw

end

/-- Settles O60: every row but the last is a write of one register, and the last is the read of `DT_LO`. -/
theorem rowsAreAccesses : Obligations.RowsAreAccesses := by
  unfold Obligations.RowsAreAccesses
  intro s src page lmask m8 val a cpsel m4 leaf step axis set slot m2 die m6 kind atSlot copy half
  have header (off : Nat) : BitVec.ofNat 32 (0x40000000 + off + 0x1000 * page.toNat) = BitVec.ofNat 32 (regAddr page.toNat off) :=
    congrArg _ (by unfold regAddr; omega)
  exact ⟨
    writeRow page.toNat 0x02C page.isLt (ha := header 0x02C) (hw := word_eq val),
    writeRow page.toNat 0x030 page.isLt (ha := header 0x030), writeRow page.toNat 0x030 page.isLt (ha := header 0x030),
    writeRow_leaf leaf LEAF.DRV_CTRL.CAL, writeRow_step step STEP.DRV_CTRL.CAL, writeRow_drv axis, writeRow_drv axis,
    writeRow_leaf leaf LEAF.MOVE_CMD.GO, writeRow_leaf leaf LEAF.MOVE_CMD.STOP, writeRow_leaf leaf LEAF.MOVE_CMD.QSTOP,
    writeRow_leaf leaf LEAF.MOVE_CMD.HSTOP, writeRow_leaf leaf LEAF.SPQ_A.A (hw := word_eq a),
    writeRow_obs leaf OBS.OBS_CTRL.REBASE, writeRow_obs leaf OBS.OBS_CTRL.CLRDET, writeRow_pos axis POS.POS_CTRL.SETREF,
    writeRow_pos axis POS.POS_CTRL.CLRFLT, writeRow_pos axis POS.POS_CTRL.CLRCNT,
    writeRow_leaf leaf LEAF.SEQ_CMD.OPEN, writeRow_leaf leaf LEAF.SEQ_CMD.CLOSE, writeRow_leaf leaf LEAF.SEQ_CMD.LEARN,
    writeRow_leaf leaf LEAF.SEQ_CMD.REFRUN, writeRow_leaf leaf LEAF.SEQ_CMD.ACK, writeRow_leaf leaf LEAF.SEQ_CMD.CLRSUSP,
    writeRow_step step STEP.STP_CMD.EXTEND, writeRow_step step STEP.STP_CMD.RETRACT, writeRow_step step STEP.STP_CMD.INHIBIT,
    writeRow_step step STEP.STP_CMD.UNINH, writeRow_step step STEP.STP_CMD.HOME, writeRow_step step STEP.STP_CMD.ACK,
    writeRow_step step STEP.STP_CMD.STOP, writeRow_step step STEP.STP_CMD.QSTOP, writeRow_step step STEP.STP_CMD.HSTOP,
    writeRow_step step STEP.STP_CMD.CLRSUSP,
    writeRow_page pgSAFE SAFE.SAFE_CTRL.LMASK, writeRow_page pgSAFE SAFE.SAFE_CTRL.LMASK, writeRow_page pgSAFE SAFE.SAFE_CTRL.LMASK,
    writeRow_page pgSAFE SAFE.SAFE_CTRL.LMASK, writeRow_page pgSAFE SAFE.SAFE_CTRL.LMASK,
    writeRow_page pgSVC SVC.SVC_KICK.KICK0, writeRow_page pgSVC SVC.DTSET_CTRL.SET,
    writeRow_page pgFLT FLT.ACK.ENTRY (hw := word_eq val), writeRow_page pgFRM FRM.TASK_CTRL.CLRCNT,
    writeRow_fio die FIO.TPO_CLR.CLR, writeRow_fio die FIO.DO_CLR.CLR, writeRow_lsw die LSW.LS_CLR.CLR,
    writeRow_lsw die LSW.LS_CLR.CLR, writeRow_fio die FIO.LK_CLR.CLR, writeRow_fio die FIO.FIO_CTRL.RELEASE,
    writeRow_page pgCFG CFG.CFG_CTRL.SWITCH, writeRow_page pgCFG CFG.CFG_CTRL.SWITCH, writeRow_page pgCFG CFG.CFG_CTRL.SWITCH,
    writeRow_page pgCFG CFG.CFG_CTRL.SWITCH,
    writeRow_page pgSEC SEC.VER_CTRL.GO, writeRow_page pgSEC SEC.SEC_CTRL.POLINST, writeRow_page pgSEC SEC.SEC_CTRL.POLINST,
    writeRow_page pgSEC SEC.SEC_CTRL.POLINST, writeRow_page pgSEC SEC.NKEYCTRL.WR,
    rfl⟩

end Sys2Proof.Machine
end

section
/-! PROOFS. Device safe halt (R381): a class C3 report orders it, and what it leaves. -/

namespace Sys2Proof.Machine

/-- What the change for an element brings about for it, and the change for any other element keeps, holds of every element once
all changes are made. -/
theorem Dev.each_sets {α : Type} (P : α → Dev → Prop) (l : List α) (f : α → Dev → Dev) (d : Dev)
    (hset : ∀ a ∈ l, ∀ d, P a (f a d)) (hkeep : ∀ a b d, P a d → P a (f b d)) : ∀ a ∈ l, P a (d.each l f) := by
  unfold Dev.each
  induction l generalizing d with
  | nil => intro a ha; cases ha
  | cons b l ih =>
    have hrest := ih (f b d) fun a ha => hset a (List.mem_cons_of_mem _ ha)
    intro a ha
    rcases List.mem_cons.mp ha with rfl | ha
    · exact Dev.each_ind (P a) l f (f a d) (hkeep a) (hset a (List.mem_cons_self ..) d)
    · exact hrest a ha

/-! The orders of a halt. -/

/-- An axis is in mode OFF with its gates low. -/
abbrev DriveOff (x : DrvX) : Prop := x.mode = mOFF ∧ x.cmp = {}

theorem keepsDriveOff (a : Nat) : ReportKeeps fun d => DriveOff (d.drv a) := keepsDrv a DriveOff fun _ _ => ⟨rfl, rfl⟩

theorem gatesOff_driveOff (a : Nat) (d : Dev) (ha : a < 12) : DriveOff ((gatesOff a d).drv a) := by
  rw [gatesOff_drv, if_pos ⟨rfl, ha⟩]
  exact ⟨rfl, rfl⟩

theorem gatesOff_keeps_driveOff (a b : Nat) (d : Dev) (h : DriveOff (d.drv a)) : DriveOff ((gatesOff b d).drv a) := by
  rw [gatesOff_drv]
  split
  · exact ⟨rfl, rfl⟩
  · exact h

/-- A hard stop of a leaf is requested or runs. -/
abbrev HardStop (p : PrfX) : Prop := p.stopReq = 3 ∨ p.stopKind = 3

/-- What a halt asks of a leaf's profile generator. -/
theorem hardStop_asked (p : PrfX) : HardStop (if p.stopKind = 3 then p else { p with stopReq := 3, stopOwn := false }) := by
  split
  · exact .inr ‹_›
  · exact .inl rfl

theorem Dev.prf_modPrf (n m : Nat) (f : PrfX → PrfX) (d : Dev) :
    (d.modPrf n f).prf m = if n = m ∧ m < 8 then f (d.prf m) else d.prf m := by
  unfold Dev.prf Dev.modPrf
  rw [Dev.lf_modLf]
  split <;> rfl

theorem Dev.prf_modSeq (n m : Nat) (f : SeqX → SeqX) (d : Dev) : (d.modSeq n f).prf m = d.prf m := by
  unfold Dev.prf Dev.modSeq
  rw [Dev.lf_modLf]
  split <;> rfl

/-- Every axis is off, every leaf stops hard and every lock high side is off. -/
structure AxesHalted (d : Dev) : Prop where
  drv : ∀ a ∈ List.range 12, DriveOff (d.drv a)
  prf : ∀ n ∈ List.range 8, HardStop (d.prf n)
  lock : ∀ x ∈ [0, 1], (d.dy x).lkHs = 0

theorem haltAxes_halted (d : Dev) : AxesHalted (haltAxes d) := by
  unfold haltAxes
  refine ⟨fun a ha => ?_, ?_, ?_⟩
  · have k := keepsDriveOff a
    refine Dev.each_ind _ _ _ _ k.lock (Dev.each_ind _ _ _ _ k.hard (Dev.each_ind _ _ _ _ k.stop ?_))
    exact Dev.each_sets (fun a d => DriveOff (d.drv a)) _ _ _ (fun a ha d => gatesOff_driveOff a d (List.mem_range.mp ha))
      gatesOff_keeps_driveOff a ha
  · intro n hn
    refine Dev.each_ind (fun d => HardStop (d.prf n)) _ _ _ (fun _ _ h => h)
      (Dev.each_ind (fun d => HardStop (d.prf n)) _ _ _ ?_ ?_)
    · intro m d h
      rw [Dev.prf_modSeq]
      exact h
    · refine Dev.each_sets (fun n d => HardStop (d.prf n)) _ _ _ ?_ ?_ n hn
      · intro n hn d
        rw [Dev.prf_modPrf, if_pos ⟨rfl, List.mem_range.mp hn⟩]
        exact hardStop_asked _
      · intro n m d h
        rw [Dev.prf_modPrf]
        split
        · exact hardStop_asked _
        · exact h
  · refine Dev.each_sets (fun x d => (d.dy x).lkHs = 0) _ _ _ ?_ ?_
    · intro x hx d
      have : x < 2 := by simp at hx; omega
      rw [Dev.dy_modDy, if_pos ⟨rfl, this⟩]
    · intro x y d h
      rw [Dev.dy_modDy]
      split
      · rfl
      · exact h

/-- Device safe halt in terms of its parts. -/
theorem safeHalted_iff (d : Dev) : d.safeHalted = true ↔
    d.flt.halt = true ∧ AxesHalted d ∧ d.sx.coil = 0 ∧ (d.forme.st = 0 ∨ d.forme.st = 3) := by
  unfold Dev.safeHalted
  simp only [Bool.and_eq_true, List.all_eq_true, beq_iff_eq, Bool.or_eq_true]
  constructor
  · rintro ⟨⟨⟨⟨⟨hh, ha⟩, hn⟩, hx⟩, hc⟩, hf⟩
    exact ⟨hh, ⟨ha, hn, hx⟩, hc, hf⟩
  · rintro ⟨hh, ⟨ha, hn, hx⟩, hc, hf⟩
    exact ⟨⟨⟨⟨⟨hh, ha⟩, hn⟩, hx⟩, hc⟩, hf⟩

/-- The orders of a halt leave the device in safe halt. -/
theorem haltOrders_safeHalted (d : Dev) (h : d.flt.halt = true) : (haltOrders d).safeHalted = true := by
  rw [safeHalted_iff]
  refine ⟨by rw [haltOrders_flt]; exact h, ?_, rfl, ?_⟩
  · obtain ⟨ha, hn, hx⟩ := haltAxes_halted d
    exact ⟨ha, hn, hx⟩
  · show (if (haltAxes d).forme.st = 0 then 0 else 3) = 0 ∨ (if (haltAxes d).forme.st = 0 then 0 else 3) = 3
    split
    · exact .inl rfl
    · exact .inr rfl

/-! A class C3 report (R376, R381). -/

/-- A device that is in safe halt for a cause: what the further work of a report leaves. -/
abbrev HaltedFor (v : Nat) (d : Dev) : Prop := d.flt.haltCause = v ∧ d.safeHalted = true

theorem orderHalt_halts (e : FEnt) (d : Dev) (h : d.flt.halt = false) : HaltedFor e.val (orderHalt e d) := by
  unfold orderHalt
  rw [h]
  refine ⟨by rw [if_neg (by simp), haltOrders_flt]; rfl, ?_⟩
  rw [if_neg (by simp)]
  exact haltOrders_safeHalted _ rfl

theorem orderHalt_halted (e : FEnt) (d : Dev) (h : d.flt.halt = true) : orderHalt e d = d := by
  unfold orderHalt
  rw [if_pos h]

/-- Placing an entry changes the head, the queue and the events of the manager alone. -/
theorem placeEntry_halt (e : FEnt) (d : Dev) : (placeEntry e d).flt.halt = d.flt.halt ∧
    (placeEntry e d).flt.haltCause = d.flt.haltCause ∧ (placeEntry e d).safeHalted = d.safeHalted := by
  unfold placeEntry
  simp only
  split
  · exact ⟨rfl, rfl, rfl⟩
  · split
    · exact ⟨rfl, rfl, rfl⟩
    · split
      · exact ⟨rfl, rfl, rfl⟩
      · split <;> exact ⟨rfl, rfl, rfl⟩

theorem trimQueue_halt (d : Dev) :
    (trimQueue d).flt.haltCause = d.flt.haltCause ∧ (trimQueue d).safeHalted = d.safeHalted := by
  unfold trimQueue
  simp only
  split <;> exact ⟨rfl, rfl⟩

/-- The first class C3 report since reset halts the device, with its entry as the cause. -/
theorem Dev.report_halts (page inst cause : Nat) (d : Dev) (h : d.flt.halt = false) :
    HaltedFor (entryVal 3 page inst cause) (d.report 3 page inst cause) := by
  have hcls : FEnt.cls { val := entryVal 3 page inst cause, dt := d.dt } = 3 := by
    unfold FEnt.cls entryVal
    simp only
    omega
  have hmark : (markAnomaly 3 page d).flt.halt = false := by
    unfold markAnomaly
    split <;> exact h
  unfold Dev.report arriveEntry
  simp only [hcls, if_true, if_neg (show ¬ (3 % 16 = 0) by decide)]
  obtain ⟨hp, -, -⟩ := placeEntry_halt { val := entryVal 3 page inst cause, dt := d.dt } (markAnomaly 3 page d)
  obtain ⟨hcause, hsafe⟩ := orderHalt_halts { val := entryVal 3 page inst cause, dt := d.dt } _ (hp.trans hmark)
  unfold HaltedFor
  rw [(trimQueue_halt _).1, (trimQueue_halt _).2]
  split
  · obtain ⟨hh, hc, hs⟩ := placeEntry_halt
      { val := entryVal Cz.FLT.QOVF.cls pgFLT 0xFF Cz.FLT.QOVF.code, dt := d.dt }
      (orderHalt { val := entryVal 3 page inst cause, dt := d.dt }
        (placeEntry { val := entryVal 3 page inst cause, dt := d.dt } (markAnomaly 3 page d)))
    rw [orderHalt_halted _ _ (hh.trans ((safeHalted_iff _).mp hsafe).1), hc, hs]
    exact ⟨hcause, hsafe⟩
  · exact ⟨hcause, hsafe⟩

/-- A cause of class C3 halts the device. -/
theorem Dev.raise_halts (pg : Nat) (c : Cause) (inst : Nat) (d : Dev) (hc : c.cls = 3) (h : d.flt.halt = false) :
    HaltedFor (entryVal 3 pg inst c.code) (d.raise pg c inst) := by
  unfold Dev.raise
  rw [hc]
  exact Dev.report_halts pg inst c.code d h

end Sys2Proof.Machine
end

section
/-! PROOFS. What a conditional change, an event and a report leave alone, as equations. -/

namespace Sys2Proof.Machine

theorem Dev.get_ite (c : Prop) [Decidable c] (a b : Dev) (q : Nat) (g : Fld) :
    (if c then a else b).get q g = if c then a.get q g else b.get q g := apply_ite (fun d => Dev.get d q g) c a b

theorem Dev.boot_ite (c : Prop) [Decidable c] (a b : Dev) : (if c then a else b).boot = if c then a.boot else b.boot :=
  apply_ite Dev.boot c a b

theorem Dev.get_evIf_ne (c : Bool) (p q n : Nat) (g : Fld) (d : Dev) (h : g.key q ≠ HDR.EV_STAT.key p) :
    (d.evIf c p n).get q g = d.get q g := by
  unfold Dev.evIf
  rw [Dev.get_ite, Dev.get_ev_ne _ _ _ _ _ h, ite_self]

@[simp] theorem Dev.boot_ev (p n : Nat) (d : Dev) : (d.ev p n).boot = d.boot := rfl

@[simp] theorem Dev.boot_evIf (c : Bool) (p n : Nat) (d : Dev) : (d.evIf c p n).boot = d.boot := by
  unfold Dev.evIf
  rw [Dev.boot_ite, Dev.boot_ev, ite_self]

/-- A register that no report writes reads the same after one. -/
theorem Dev.get_raise_ne (pg : Nat) (c : Cause) (inst q : Nat) (g : Fld) (d : Dev) (h : g.key q ∉ reportKeys) :
    (d.raise pg c inst).get q g = d.get q g := (keepsReg q g _ h).raise pg c inst d rfl

/-- A report leaves the state of start-up. -/
theorem keepsBoot (c : BootX) : ReportKeeps fun d => d.boot = c :=
  keepsPart Dev.boot c (by intros; rfl) (by intros; rfl) (by intros; rfl) (by intros; rfl) (by intros; rfl) (by intros; rfl)
    (by intros; rfl) (by intros; rfl) (by intros; rfl) (by intros; rfl)

@[simp] theorem Dev.boot_raise (pg : Nat) (c : Cause) (inst : Nat) (d : Dev) : (d.raise pg c inst).boot = d.boot :=
  (keepsBoot d.boot).raise pg c inst d rfl

end Sys2Proof.Machine
end

section
/-! PROOFS. Supplies, clocks, the keep-alive domain and the test access port (R30, R31, R40, R570, R574, R586). -/

namespace Sys2Proof.Machine

/-! VIO1 (R570). -/

@[simp] theorem Dev.boot_modEth (f : EthX → EthX) (d : Dev) : (d.modEth f).boot = d.boot := rfl
@[simp] theorem Dev.get_modEth (f : EthX → EthX) (d : Dev) (q : Nat) (g : Fld) : (d.modEth f).get q g = d.get q g := rfl

theorem ethLinkSet_boot (p speed : Nat) (d : Dev) : (ethLinkSet p speed d).boot = d.boot := by
  simp [ethLinkSet, Dev.boot_ite]

/-- A link that goes down shows so; the other port's link stays. -/
theorem ethLinkSet_down (d : Dev) :
    (ethLinkSet 1 0 d).get pgETH ETH.PORTSTAT.P1LINK = 0 ∧ (ethLinkSet 2 0 d).get pgETH ETH.PORTSTAT.P2LINK = 0 ∧
    (ethLinkSet 2 0 d).get pgETH ETH.PORTSTAT.P1LINK = d.get pgETH ETH.PORTSTAT.P1LINK := by
  unfold ethLinkSet
  simp (disch := decide) [Dev.get_ite, Dev.get_raise_ne, Dev.get_evIf_ne, Dev.get_put_ne, b2n]

/-- Without VIO1 no port has a link, and nothing else of the core changes but the report (R570). -/
theorem vio1Loss_spec (d : Dev) (h : d.part.hasNet = true) :
    (vio1Loss d).net.eth.vio1 = false ∧ (vio1Loss d).get pgETH ETH.PORTSTAT.P1LINK = 0 ∧
    (vio1Loss d).get pgETH ETH.PORTSTAT.P2LINK = 0 ∧ (vio1Loss d).boot = d.boot := by
  unfold vio1Loss
  rw [if_pos h]
  obtain ⟨h1, -, -⟩ := ethLinkSet_down d
  obtain ⟨-, h2, hkeep⟩ := ethLinkSet_down (ethLinkSet 1 0 d)
  exact ⟨rfl, hkeep.trans h1, h2, (ethLinkSet_boot ..).trans (ethLinkSet_boot ..)⟩

/-! Clocks (R30, R31). -/

/-- A loss of lock stops the derived clocks and halts a device that was not halted (R30, R381). -/
theorem pllLoss_spec (d : Dev) (hbk : d.tim.bk = false) :
    (pllLoss d).tim.bk = true ∧ (pllLoss d).get pgCLK CLK.STAT.BKACT = 1 ∧ (pllLoss d).get pgCLK CLK.STAT.PLL_LOCK = 0 ∧
    (d.flt.halt = false → HaltedFor (entryVal 3 pgCLK 0xFF Cz.CLK.PLLLOSS.code) (pllLoss d)) := by
  unfold pllLoss
  rw [hbk]
  refine ⟨rfl, ?_, ?_, fun hh => Dev.raise_halts pgCLK Cz.CLK.PLLLOSS 0xFF d rfl hh⟩
  · exact Dev.get_put_same ..
  · exact (Dev.get_put_ne _ _ _ _ _ _ (by decide)).trans
      (Dev.get_put_same pgCLK CLK.STAT.PLL_LOCK 0 (d.raise pgCLK Cz.CLK.PLLLOSS 0xFF))

/-- A PLTCLK outside its window shows so and halts a device that was not halted (R31, R381). -/
theorem pltclk_outside (khz : Nat) (d : Dev) (h : khz < 14400 ∨ 17600 < khz) :
    (pltclk khz d).get pgCLK CLK.STAT.PLT_OK = 0 ∧ (pltclk khz d).raised pgCLK Ev.CLK.PLTRANGE = true ∧
    (d.flt.halt = false → HaltedFor (entryVal 3 pgCLK 0xFF Cz.CLK.PLTCLK.code) (pltclk khz d)) := by
  unfold pltclk
  simp only [if_neg (show ¬ (14400 ≤ khz ∧ khz ≤ 17600) by omega)]
  refine ⟨?_, ?_, fun hh => Dev.raise_halts pgCLK Cz.CLK.PLTCLK 0xFF _ rfl hh⟩
  · rw [Dev.get_raise_ne _ _ _ _ _ _ (by decide), Dev.get_ev_ne _ _ _ _ _ (by decide)]
    exact Dev.get_put_same ..
  · exact (keepsRaised _ _ (by decide)).raise _ _ _ _ (Dev.raised_ev_same _ _ _ (by decide))

/-- A PLTCLK inside its window is shown and reported nowhere (R31). -/
theorem pltclk_inside (khz : W16) (d : Dev) (h : 14400 ≤ khz.toNat ∧ khz.toNat ≤ 17600) :
    pltclk khz.toNat d = d.put pgCLK CLK.PLTFREQ.KHZ khz.toNat := by
  unfold pltclk
  rw [if_pos h]

/-! The test access port (R586). -/

/-- EXTEST, CLAMP and HIGHZ load in reset by PORST_N in BLANK or DEVELOP. -/
theorem tapLoad_free (ir : Nat) (d : Dev) (hp : d.tap.porst = true) (hl : d.otp.lc ≤ 1) : (tapLoad ir d).tap.ir = ir := by
  simp [tapLoad, hp, hl]

/-- Elsewhere BYPASS is loaded in their place. -/
theorem tapLoad_barred (ir : Nat) (d : Dev) (hi : 3 ≤ ir) (h : d.tap.porst = false ∨ 1 < d.otp.lc) : tapLoad ir d = tapLoad 0 d := by
  have hb : (d.tap.porst && decide (d.otp.lc ≤ 1)) = false := by
    rcases h with h | h
    · rw [h, Bool.false_and]
    · rw [decide_eq_false (by omega), Bool.and_false]
  simp [tapLoad, hb, hi]

theorem idcode_fields (d : Dev) : d.idcode % 4096 = 2 * 0x5A7 + 1 ∧ d.idcode / 4096 % 65536 = 0x08D0 := by
  unfold Dev.idcode
  omega

/-- Settles O27: each clause is the change that its command makes. -/
theorem suppliesAndTestAccess : Obligations.SuppliesAndTestAccess := by
  unfold Obligations.SuppliesAndTestAccess
  refine ⟨fun s khz => ⟨fun hn => ?_, fun hn => ?_, ⟨_, rfl, rfl⟩, ⟨_, rfl, rfl, rfl, rfl⟩, fun ha => ⟨?_, fun h1 h2 => ?_, fun h => ?_⟩⟩,
    fun s cells => ⟨⟨_, rfl, rfl, rfl⟩, ⟨_, rfl, rfl, ?_, ?_, rfl⟩, ⟨_, rfl, rfl, rfl, rfl⟩, fun hp hl => ?_, fun h => ?_⟩⟩
  · obtain ⟨hv, h1, h2, hb⟩ := vio1Loss_spec s.dev hn
    exact ⟨_, rfl, hv, h1, h2, hb, rfl⟩
  · show Host.Outcome.next (s.onDev vio1Loss) = _
    rw [State.onDev, vio1Loss, hn]
    rfl
  · have hbk : s.dev.tim.bk = false := by simp [Dev.alive] at ha; exact ha.2
    obtain ⟨hbk', hact, hlock, hhalt⟩ := pllLoss_spec s.dev hbk
    refine ⟨_, rfl, ?_⟩
    rw [State.onDev_dev, Dev.live_of _ _ ha]
    exact ⟨by simp [Dev.alive, hbk'], hact, hlock, rfl, hhalt⟩
  · have hup : s.dev.boot.up = true := by simp [Dev.alive] at ha; exact ha.1
    refine ⟨_, rfl, ?_⟩
    rw [State.onDev_dev, if_pos hup, pltclk_inside khz _ ⟨h1, h2⟩]
    exact ⟨(Dev.get_put_same ..).trans (Nat.mod_eq_of_lt khz.isLt), rfl, Dev.get_put_ne _ _ _ _ _ _ (by decide)⟩
  · have hup : s.dev.boot.up = true := by simp [Dev.alive] at ha; exact ha.1
    obtain ⟨hok, hev, hhalt⟩ := pltclk_outside khz.toNat s.dev h
    refine ⟨_, rfl, ?_⟩
    rw [State.onDev_dev, if_pos hup]
    exact ⟨hok, hev, rfl, hhalt⟩
  · exact (idcode_fields s.dev).1
  · exact (idcode_fields s.dev).2
  · exact ⟨⟨_, rfl, tapLoad_free 3 _ hp hl, rfl⟩, ⟨_, rfl, tapLoad_free 4 _ hp hl, rfl⟩, ⟨_, rfl, tapLoad_free 5 _ hp hl, rfl⟩⟩
  · have load (ir : Nat) (hi : 3 ≤ ir) : doDev (tapLoad ir) s = doDev (tapLoad 0) s := by
      rw [doDev, doDev, State.onDev, State.onDev, tapLoad_barred ir _ hi h]
    exact ⟨load 3 (by decide), load 4 (by decide), load 5 (by decide)⟩

end Sys2Proof.Machine
end

section
/-! PROOFS. The PTP unit (R37, R479 to R481). -/

namespace Sys2Proof.Machine

/-! Signed values in registers. -/

/-- A value that fits a signed field of 32 bits reads back as it was written. -/
theorem sgn_uns_of_fits (i : Int) (lo : -(2 ^ 31) ≤ i) (hi : i < 2 ^ 31) : sgn 32 (uns 32 i % 2 ^ 32) = i := by
  unfold sgn uns
  split <;> omega

theorem satS_lt (i : Int) : satS 32 i < 2 ^ 32 := by unfold satS uns; omega

theorem clampI_of_fits (lo hi x : Int) (h : lo ≤ x) (k : x ≤ hi) : clampI lo hi x = x := by
  unfold clampI
  rw [if_neg (by omega), if_neg (by omega)]

/-! The unit's own part and the events. -/

@[simp] theorem Dev.get_modPtp (f : PtpX → PtpX) (d : Dev) (q : Nat) (g : Fld) : (d.modPtp f).get q g = d.get q g := rfl
@[simp] theorem Dev.raised_modPtp (f : PtpX → PtpX) (d : Dev) (q n : Nat) : (d.modPtp f).raised q n = d.raised q n := rfl
@[simp] theorem Dev.ptp_modPtp (f : PtpX → PtpX) (d : Dev) : (d.modPtp f).net.ptp = f d.net.ptp := rfl
@[simp] theorem Dev.tim_modPtp (f : PtpX → PtpX) (d : Dev) : (d.modPtp f).tim = d.tim := rfl
@[simp] theorem Dev.get_dtTrim (r : Int) (d : Dev) (q : Nat) (g : Fld) : (dtTrim r d).get q g = d.get q g := rfl
@[simp] theorem Dev.raised_dtTrim (r : Int) (d : Dev) (q n : Nat) : (dtTrim r d).raised q n = d.raised q n := rfl
@[simp] theorem Dev.net_dtTrim (r : Int) (d : Dev) : (dtTrim r d).net = d.net := rfl
@[simp] theorem Dev.dtF_dtTrim (r : Int) (d : Dev) : (dtTrim r d).tim.dtF = d.tim.dtF := rfl
@[simp] theorem Dev.ppb_dtTrim (r : Int) (d : Dev) : (dtTrim r d).tim.ppb = clampI (-200000) 200000 r := rfl
@[simp] theorem Dev.raised_drew (d : Dev) (q n : Nat) : d.drew.raised q n = d.raised q n := rfl
@[simp] theorem Dev.net_ev (p n : Nat) (d : Dev) : (d.ev p n).net = d.net := rfl
@[simp] theorem Dev.dtF_ev (p n : Nat) (d : Dev) : (d.ev p n).tim.dtF = d.tim.dtF := rfl
@[simp] theorem Dev.ppb_ev (p n : Nat) (d : Dev) : (d.ev p n).tim.ppb = d.tim.ppb := rfl

theorem Dev.net_evIf (c : Bool) (p n : Nat) (d : Dev) : (d.evIf c p n).net = d.net := by cases c <;> rfl
theorem Dev.dtF_evIf (c : Bool) (p n : Nat) (d : Dev) : (d.evIf c p n).tim.dtF = d.tim.dtF := by cases c <;> rfl

/-- The source of device time is the one set. -/
theorem setDtSrc_src (v : Nat) (hv : v < 8) (d : Dev) : (setDtSrc v d).get pgSYS SYS.DT_STAT.SRC = v := by
  unfold setDtSrc
  split
  · assumption
  · rw [Dev.get_ev_ne _ _ _ _ _ (by decide), Dev.get_put_same]
    exact Nat.mod_eq_of_lt hv

theorem setDtSrc_net (v : Nat) (d : Dev) : (setDtSrc v d).net = d.net := by unfold setDtSrc; split <;> rfl
theorem setDtSrc_dtF (v : Nat) (d : Dev) : (setDtSrc v d).tim.dtF = d.tim.dtF := by unfold setDtSrc; split <;> rfl
theorem setDtSrc_ppb (v : Nat) (d : Dev) : (setDtSrc v d).tim.ppb = d.tim.ppb := by unfold setDtSrc; split <;> rfl

/-- Setting the source changes no register but the source and SYS's events. -/
theorem get_setDtSrc_ne (v q : Nat) (g : Fld) (d : Dev) (hs : g.key q ≠ SYS.DT_STAT.SRC.key pgSYS)
    (he : g.key q ≠ HDR.EV_STAT.key pgSYS) : (setDtSrc v d).get q g = d.get q g := by
  unfold setDtSrc
  split
  · rfl
  · rw [Dev.get_ev_ne _ _ _ _ _ he, Dev.get_put_ne _ _ _ _ _ _ hs]

/-! A Sync taken: what it publishes, and what the unit does about its offset. -/

/-- A Sync is taken: the unit is on, the port a candidate that passes frames, the sender the master selected. -/
def syncTaken (e : SyncEnv) (d : Dev) : Bool :=
  ptpOn d && ptpPort d (e.port.val + 1) && ethUp d (e.port.val + 1) && syncFrom e d

/-- The registers of a Sync that has been taken, and the master it names. -/
def syncPublish (e : SyncEnv) (d : Dev) : Dev :=
  let x := d.net.ptp
  let port := e.port.val + 1
  let offset := syncOffset e d
  let d := d.modPtp fun p => { p with gm := e.gm.toNat, lastSync := some d.tim.mot, interval := e.intervalNs, mpd := syncMpd e d,
                                      holdAt := none, lostRep := false }
  let d := d.evIf (x.lastSync.isSome && x.gm != e.gm.toNat) pgPTP Ev.PTP.GMCHG
  let d := (d.put pgPTP PTP.OFFSET.NS (satS 32 offset)).put pgPTP PTP.MPD.NS (d.net.ptp.mpd.toNat % 2 ^ 32)
  let d := (d.put pgPTP PTP.GM_LO.ID (e.gm.toNat % 2 ^ 32)).put pgPTP PTP.GM_HI.ID (e.gm.toNat / 2 ^ 32)
  let d := (d.inc pgPTP PTP.SYNCCNT.COUNT).put pgPTP PTP.PTP_STAT.PORT port
  ptpState (if e.slave then 3 else 2) d

/-- A Sync beyond STEPTH: the step waits for the boundary, the rate trim is 0. -/
def syncStep (offset : Int) (d : Dev) : Dev :=
  let d := d.modPtp fun p => { p with stepBy := some (-offset), lockN := 0 }
  (dtTrim 0 d).puti pgPTP PTP.RATE.PPB 0

/-- A Sync within STEPTH: the rate trim follows it, and its small offsets in succession are counted. -/
def syncTrim (slave : Bool) (offset : Int) (d : Dev) : Dev :=
  let d := (dtTrim (syncRate d) d).drew
  (d.modPtp fun p => { p with
      lockN := if slave && decide (absI offset < 1000) then p.lockN + 1 else 0 }).puti pgPTP PTP.RATE.PPB d.tim.ppb

/-- After sixteen small offsets the unit is the source of device time. -/
def syncLock (d : Dev) : Dev :=
  if 16 ≤ d.net.ptp.lockN && d.get pgSYS SYS.DT_STAT.SRC != 3 then (setDtSrc 3 d).ev pgPTP Ev.PTP.LOCK else d

theorem ptpSync_taken (e : SyncEnv) (d : Dev) (h : syncTaken e d = true) : ptpSync e d =
    if ((syncPublish e d).get pgPTP PTP.PTP_LIM.STEPTH * 1000 : Int) < absI (syncOffset e d) then syncStep (syncOffset e d) (syncPublish e d)
    else syncLock (syncTrim e.slave (syncOffset e d) (syncPublish e d)) := by
  unfold syncTaken at h
  unfold ptpSync
  dsimp only
  rw [h]
  rfl

theorem ptpSync_not_taken (e : SyncEnv) (d : Dev) (h : syncTaken e d = false) : ptpSync e d = d := by
  unfold syncTaken at h
  unfold ptpSync
  dsimp only
  rw [h]
  rfl

/-- What a Sync publishes. -/
structure SyncShown (e : SyncEnv) (d t : Dev) : Prop where
  state : t.get pgPTP PTP.PTP_STAT.STATE = (if e.slave then 3 else 2)
  port : t.get pgPTP PTP.PTP_STAT.PORT = e.port.val + 1
  count : t.get pgPTP PTP.SYNCCNT.COUNT = (d.get pgPTP PTP.SYNCCNT.COUNT + 1) % 2 ^ PTP.SYNCCNT.COUNT.w
  offset : t.get pgPTP PTP.OFFSET.NS = satS 32 (syncOffset e d)
  mpd : t.get pgPTP PTP.MPD.NS = (syncMpd e d).toNat % 2 ^ 32
  gm : t.get pgPTP PTP.GM_LO.ID + 2 ^ 32 * t.get pgPTP PTP.GM_HI.ID = e.gm.toNat
  holdAt : t.net.ptp.holdAt = none
  dtF : t.tim.dtF = d.tim.dtF
  changed : d.net.ptp.lastSync.isSome = true → d.net.ptp.gm ≠ e.gm.toNat → t.raised pgPTP Ev.PTP.GMCHG = true

theorem syncPublish_shown (e : SyncEnv) (d : Dev) : SyncShown e d (syncPublish e d) := by
  have hgm : e.gm.toNat < 2 ^ 64 := e.gm.isLt
  have hport : e.port.val + 1 < 4 := by omega
  constructor
  case state =>
    unfold syncPublish ptpState
    rw [Dev.get_put_same]
    cases e.slave <;> rfl
  case port =>
    have hw : PTP.PTP_STAT.PORT.w = 2 := rfl
    simpa (disch := decide) [syncPublish, ptpState, Dev.get_put_ne, hw] using Nat.mod_eq_of_lt hport
  case count => simp (disch := decide) [syncPublish, ptpState, Dev.inc, Dev.get_put_ne, Dev.get_evIf_ne]
  case offset =>
    have hw : PTP.OFFSET.NS.w = 32 := rfl
    simpa (disch := decide) [syncPublish, ptpState, Dev.inc, Dev.get_put_ne, hw] using satS_lt _
  case mpd =>
    have hw : PTP.MPD.NS.w = 32 := rfl
    simp (disch := decide) [syncPublish, ptpState, Dev.inc, Dev.get_put_ne, Dev.net_evIf, hw]
  case gm =>
    have hlo : (syncPublish e d).get pgPTP PTP.GM_LO.ID = e.gm.toNat % 2 ^ 32 % 2 ^ 32 := by
      have hw : PTP.GM_LO.ID.w = 32 := rfl
      simp (disch := decide) [syncPublish, ptpState, Dev.inc, Dev.get_put_ne, hw]
    have hhi : (syncPublish e d).get pgPTP PTP.GM_HI.ID = e.gm.toNat / 2 ^ 32 % 2 ^ 32 := by
      have hw : PTP.GM_HI.ID.w = 32 := rfl
      simp (disch := decide) [syncPublish, ptpState, Dev.inc, Dev.get_put_ne, hw]
    rw [hlo, hhi]
    omega
  case holdAt => simp [syncPublish, ptpState, Dev.inc, Dev.net_evIf]
  case dtF => simp [syncPublish, ptpState, Dev.inc, Dev.dtF_evIf]
  case changed =>
    intro hs hg
    have hc : (d.net.ptp.lastSync.isSome && d.net.ptp.gm != e.gm.toNat) = true := by simp [hs, hg]
    unfold syncPublish ptpState
    dsimp only
    rw [hc]
    simp (disch := decide) [Dev.inc, Dev.raised_put, Dev.evIf, Dev.raised_ev_same]

/-- What a Sync leaves for its offset: the limit, the counts of earlier Syncs and the source are as they were. -/
theorem syncPublish_keeps (e : SyncEnv) (d : Dev) :
    (syncPublish e d).get pgPTP PTP.PTP_LIM.STEPTH = d.get pgPTP PTP.PTP_LIM.STEPTH ∧
    (syncPublish e d).get pgSYS SYS.DT_STAT.SRC = d.get pgSYS SYS.DT_STAT.SRC ∧
    (syncPublish e d).net.ptp.lockN = d.net.ptp.lockN ∧ (syncPublish e d).net.ptp.stepBy = d.net.ptp.stepBy := by
  simp (disch := decide) [syncPublish, ptpState, Dev.inc, Dev.get_put_ne, Dev.get_evIf_ne, Dev.net_evIf]

theorem SyncShown.step {e : SyncEnv} {d t : Dev} (h : SyncShown e d t) (o : Int) : SyncShown e d (syncStep o t) := by
  obtain ⟨hst, hpo, hco, hof, hmp, hgm, hho, hdt, hch⟩ := h
  constructor <;> simpa (disch := decide) [syncStep, Dev.puti, Dev.get_put_ne, Dev.raised_put]

theorem SyncShown.trim {e : SyncEnv} {d t : Dev} (h : SyncShown e d t) (b : Bool) (o : Int) : SyncShown e d (syncTrim b o t) := by
  obtain ⟨hst, hpo, hco, hof, hmp, hgm, hho, hdt, hch⟩ := h
  constructor <;> simpa (disch := decide) [syncTrim, Dev.puti, Dev.get_put_ne, Dev.raised_put]

theorem raised_setDtSrc (v n : Nat) (d : Dev) : (setDtSrc v d).raised pgPTP n = d.raised pgPTP n := by
  unfold Dev.raised
  rw [get_setDtSrc_ne _ _ _ _ (by decide) (by decide)]

theorem SyncShown.lock {e : SyncEnv} {d t : Dev} (h : SyncShown e d t) : SyncShown e d (syncLock t) := by
  unfold syncLock
  split
  · obtain ⟨hst, hpo, hco, hof, hmp, hgm, hho, hdt, hch⟩ := h
    constructor
    case changed => exact fun hs hg => Dev.raised_ev_keep _ _ _ _ _ (by decide) (by rw [raised_setDtSrc, hch hs hg])
    all_goals
      simpa (disch := decide) [Dev.get_ev_ne, get_setDtSrc_ne, setDtSrc_net, setDtSrc_dtF]
  · exact h

/-- The trim set at a Sync lies within 200 ppm and shows in its register. -/
theorem syncTrim_rate (b : Bool) (o : Int) (d : Dev) : -200000 ≤ (syncTrim b o d).tim.ppb ∧ (syncTrim b o d).tim.ppb ≤ 200000 ∧
    (syncTrim b o d).geti pgPTP PTP.RATE.PPB = (syncTrim b o d).tim.ppb := by
  have hr : -200000 ≤ syncRate d ∧ syncRate d ≤ 200000 := by
    unfold syncRate
    have := Nat.mod_lt (d.fresh 131) (show 400001 > 0 by decide)
    omega
  have hp : (syncTrim b o d).tim.ppb = syncRate d := clampI_of_fits _ _ _ hr.1 hr.2
  have hg : (syncTrim b o d).get pgPTP PTP.RATE.PPB = uns 32 (syncRate d) % 2 ^ 32 := by
    rw [← hp]
    exact Dev.get_put_same ..
  refine ⟨by omega, by omega, ?_⟩
  unfold Dev.geti
  rw [hp, hg]
  exact sgn_uns_of_fits _ (by omega) (by omega)

theorem syncLock_keeps (d : Dev) : (syncLock d).tim.ppb = d.tim.ppb ∧ (syncLock d).net = d.net ∧
    (syncLock d).geti pgPTP PTP.RATE.PPB = d.geti pgPTP PTP.RATE.PPB := by
  unfold syncLock
  split
  · refine ⟨setDtSrc_ppb 3 d, setDtSrc_net 3 d, ?_⟩
    unfold Dev.geti
    rw [Dev.get_ev_ne _ _ _ _ _ (by decide), get_setDtSrc_ne _ _ _ _ (by decide) (by decide)]
  · exact ⟨rfl, rfl, rfl⟩

/-- With sixteen small offsets the unit becomes the source, with its event if it was not. -/
theorem syncLock_locks (d : Dev) (h : 16 ≤ d.net.ptp.lockN) : (syncLock d).get pgSYS SYS.DT_STAT.SRC = 3 ∧
    (d.get pgSYS SYS.DT_STAT.SRC ≠ 3 → (syncLock d).raised pgPTP Ev.PTP.LOCK = true) := by
  unfold syncLock
  by_cases hs : d.get pgSYS SYS.DT_STAT.SRC = 3
  · simp [hs]
  · rw [if_pos (by simp [h, hs]), Dev.get_ev_ne _ _ _ _ _ (by decide)]
    exact ⟨setDtSrc_src 3 (by decide) d, fun _ => Dev.raised_ev_same _ _ _ (by decide)⟩

theorem ptpSync_shown (e : SyncEnv) (d : Dev) (h : syncTaken e d = true) : SyncShown e d (ptpSync e d) := by
  rw [ptpSync_taken e d h]
  split
  · exact (syncPublish_shown e d).step _
  · exact ((syncPublish_shown e d).trim _ _).lock

/-- An offset beyond STEPTH is set off at the next boundary (R481). -/
theorem ptpSync_steps (e : SyncEnv) (d : Dev) (h : syncTaken e d = true)
    (ho : (d.get pgPTP PTP.PTP_LIM.STEPTH * 1000 : Int) < absI (syncOffset e d)) :
    (ptpSync e d).net.ptp.stepBy = some (-syncOffset e d) ∧ (ptpSync e d).tim.ppb = 0 ∧ (ptpSync e d).net.ptp.lockN = 0 := by
  rw [ptpSync_taken e d h, (syncPublish_keeps e d).1, if_pos ho]
  exact ⟨rfl, rfl, rfl⟩

/-- An offset within STEPTH sets the trim, and the sixteenth small one in succession the source (R37, R481). -/
theorem ptpSync_trims (e : SyncEnv) (d : Dev) (h : syncTaken e d = true)
    (ho : absI (syncOffset e d) ≤ (d.get pgPTP PTP.PTP_LIM.STEPTH * 1000 : Int)) :
    -200000 ≤ (ptpSync e d).tim.ppb ∧ (ptpSync e d).tim.ppb ≤ 200000 ∧
    (ptpSync e d).geti pgPTP PTP.RATE.PPB = (ptpSync e d).tim.ppb ∧ (ptpSync e d).net.ptp.stepBy = d.net.ptp.stepBy ∧
    (e.slave = true → absI (syncOffset e d) < 1000 → (ptpSync e d).net.ptp.lockN = d.net.ptp.lockN + 1 ∧
      (15 ≤ d.net.ptp.lockN → (ptpSync e d).get pgSYS SYS.DT_STAT.SRC = 3 ∧
        (d.get pgSYS SYS.DT_STAT.SRC ≠ 3 → (ptpSync e d).raised pgPTP Ev.PTP.LOCK = true))) := by
  obtain ⟨hlim, hsrc, hlock, hstep⟩ := syncPublish_keeps e d
  rw [ptpSync_taken e d h, hlim, if_neg (by omega)]
  obtain ⟨hppb, hnet, hrate⟩ := syncLock_keeps (syncTrim e.slave (syncOffset e d) (syncPublish e d))
  obtain ⟨hlo, hhi, hreg⟩ := syncTrim_rate e.slave (syncOffset e d) (syncPublish e d)
  rw [hppb, hnet, hrate]
  refine ⟨hlo, hhi, hreg, hstep, fun hs hsmall => ?_⟩
  have hn : (syncTrim e.slave (syncOffset e d) (syncPublish e d)).net.ptp.lockN = d.net.ptp.lockN + 1 := by
    rw [hs]
    simp [syncTrim, Dev.puti, hsmall, hlock]
  refine ⟨hn, fun hl => ?_⟩
  have hsrc' : (syncTrim e.slave (syncOffset e d) (syncPublish e d)).get pgSYS SYS.DT_STAT.SRC = d.get pgSYS SYS.DT_STAT.SRC := by
    rw [← hsrc]
    simp (disch := decide) [syncTrim, Dev.puti, Dev.get_put_ne]
  rw [← hsrc']
  exact syncLock_locks _ (by omega)

/-! Holdover and its end. -/

/-- Three announced intervals without a Sync: the unit holds over (R481). -/
theorem ptpTimeout_holds (d : Dev) (x : Nat) (hx : d.net.ptp.lastSync = some x) (on : ptpOn d = true)
    (st : d.net.ptp.st = 2 ∨ d.net.ptp.st = 3) (due : x * 4 + 3 * d.net.ptp.interval ≤ d.tim.mot * 4) :
    ptpTimeout d = (setDtSrc 4 (ptpState 4 (d.modPtp fun p => { p with lockN := 0, holdAt := some d.tim.mot }))).ev pgPTP Ev.PTP.HOLD := by
  unfold ptpTimeout
  dsimp only
  rw [hx]
  exact if_pos (by simp [on, st, due])

theorem ptpTimeout_not_due (d : Dev) (x : Nat) (hx : d.net.ptp.lastSync = some x)
    (early : d.tim.mot * 4 < x * 4 + 3 * d.net.ptp.interval) (up : ethUp d (d.get pgPTP PTP.PTP_STAT.PORT) = true) : ptpTimeout d = d := by
  unfold ptpTimeout
  dsimp only
  rw [hx]
  exact if_neg (by simp [up, early])

theorem ptpLost_due (d : Dev) (x : Nat) (hx : d.net.ptp.holdAt = some x) (on : ptpOn d = true) (hr : d.net.ptp.lostRep = false)
    (due : x + msMot (1000 * d.get pgPTP PTP.PTP_LIM.HOLDT) ≤ d.tim.mot) :
    ptpLost d = (d.modPtp fun p => { p with lostRep := true }).raise pgPTP Cz.PTP.PTPLOST 0xFF := by
  unfold ptpLost
  rw [hx]
  exact if_pos (by simp [on, hr, due])

theorem ptpLost_not_due (d : Dev) (x : Nat) (hx : d.net.ptp.holdAt = some x)
    (early : d.tim.mot < x + msMot (1000 * d.get pgPTP PTP.PTP_LIM.HOLDT)) : ptpLost d = d := by
  unfold ptpLost
  rw [hx]
  exact if_neg (by simp [early])

theorem Dev.net_raise (pg : Nat) (c : Cause) (inst : Nat) (d : Dev) : (d.raise pg c inst).net = d.net :=
  (keepsPart Dev.net d.net (by intros; rfl) (by intros; rfl) (by intros; rfl) (by intros; rfl) (by intros; rfl) (by intros; rfl)
    (by intros; rfl) (by intros; rfl) (by intros; rfl) (by intros; rfl)).raise pg c inst d rfl

/-! Delay requests. -/

/-- A delay request is an event message: it goes before every PCP and its queue is never full (R477). -/
theorem ethQueue_delayFrame (p : Nat) (c d : Dev) : ethQueue p 0 (delayFrame c p) none d =
    d.modEth fun e => { e with q := e.q ++ [{ port := p, queue := 4, frame := delayFrame c p, at_ := d.tim.mot, tc := false }] } := by
  have he : ptpEvent (delayFrame c p) = true := by
    unfold ptpEvent delayFrame
    cases c.on pgPTP PTP.PTP_CFG.DELAY <;> rfl
  unfold ethQueue ethQueueOf
  rw [he]
  rfl

/-- The requests of a list of ports, as they wait. -/
def delayEnts (d : Dev) (l : List Nat) : List EgressEnt :=
  l.map fun p => { port := p, queue := 4, frame := delayFrame d p, at_ := d.tim.mot, tc := false }

theorem each_delayFrame (l : List Nat) (d : Dev) : (d.each l fun p d => ethQueue p 0 (delayFrame d p) none d) =
    d.modEth fun e => { e with q := e.q ++ delayEnts d l } := by
  induction l generalizing d with
  | nil => simp [Dev.each, delayEnts, Dev.modEth]
  | cons p l ih =>
    have hrest := ih (ethQueue p 0 (delayFrame d p) none d)
    rw [ethQueue_delayFrame] at hrest
    unfold Dev.each at hrest ⊢
    rw [List.foldl_cons]
    dsimp only at hrest ⊢
    rw [ethQueue_delayFrame, hrest]
    simp [Dev.modEth, delayEnts, delayFrame, Dev.on, Dev.get]

/-- The candidate ports that pass frames. -/
def delayPorts (d : Dev) : List Nat := [1, 2].filter fun p => ptpPort d p && ethUp d p

theorem delayReq_on (d : Dev) (on : ptpOn d = true) : delayReq d =
    (d.modEth fun e => { e with q := e.q ++ delayEnts d (delayPorts d) }).modPtp fun p => { p with reqN := p.reqN + 1 } := by
  unfold delayReq
  rw [on, each_delayFrame]
  rfl

/-- A candidate port that passes frames has its request. -/
theorem mem_delayEnts (d : Dev) (p : Fin 2) (hp : ptpPort d (p.val + 1) = true) (hu : ethUp d (p.val + 1) = true) :
    { port := p.val + 1, queue := 4, frame := delayFrame d (p.val + 1), at_ := d.tim.mot, tc := false } ∈ delayEnts d (delayPorts d) := by
  refine List.mem_map_of_mem (f := fun p => (⟨p, 4, delayFrame d p, d.tim.mot, false⟩ : EgressEnt)) (List.mem_filter.mpr ⟨?_, by simp [hp, hu]⟩)
  have hlt := p.isLt
  simp only [List.mem_cons, List.not_mem_nil, or_false]
  omega

/-- No request waits at a port that passes no frames. -/
theorem delayEnts_down (d : Dev) (p : Nat) (hu : ethUp d p = false) :
    (delayEnts d (delayPorts d)).filter (fun x => x.port == p) = [] := by
  refine List.filter_eq_nil_iff.mpr fun x hx hpx => ?_
  obtain ⟨k, hk, rfl⟩ := List.mem_map.mp hx
  have hup := (List.mem_filter.mp hk).2
  rw [show k = p from eq_of_beq hpx, hu, Bool.and_false] at hup
  cases hup

/-! The commands of a running core. -/

theorem exec_ptpSync (e : SyncEnv) (s : State) (h : s.dev.alive = true) : exec (.ptpSync e) s = .next (s.onDev (ptpSync e)) := by
  have hx : exec (.ptpSync e) s = .next { s with dev := Dev.live (ptpSync e) s.dev } := rfl
  rw [hx, Dev.live_of _ _ h]; rfl

theorem exec_ptpSyncTimeout (s : State) (h : s.dev.alive = true) : exec .ptpSyncTimeout s = .next (s.onDev ptpTimeout) := by
  have hx : exec .ptpSyncTimeout s = .next { s with dev := Dev.live ptpTimeout s.dev } := rfl
  rw [hx, Dev.live_of _ _ h]; rfl

theorem exec_ptplost (s : State) (h : s.dev.alive = true) : exec .ptplost s = .next (s.onDev ptpLost) := by
  have hx : exec .ptplost s = .next { s with dev := Dev.live ptpLost s.dev } := rfl
  rw [hx, Dev.live_of _ _ h]; rfl

theorem exec_delayReq (s : State) (h : s.dev.alive = true) : exec .delayReq s = .next (s.onDev delayReq) := by
  have hx : exec .delayReq s = .next { s with dev := Dev.live delayReq s.dev } := rfl
  rw [hx, Dev.live_of _ _ h]; rfl

/-- A change that leaves the device as it is leaves the state as it is. -/
theorem State.onDev_of_eq (f : Dev → Dev) (s : State) (h : f s.dev = s.dev) : s.onDev f = s := by
  unfold State.onDev; rw [h]

/-- Settles O50: a Sync by its two outcomes, holdover and its end by their times, the delay requests port by port. -/
theorem precisionTime : Obligations.PrecisionTime := by
  intro s e p alive
  refine ⟨fun on hp up from_ => ?_, fun h => ?_, fun x hx on st => ⟨fun due => ?_, fun early up => ?_⟩,
    fun x hx on hr => ⟨fun due => ?_, fun early => ?_⟩, fun on => ?_⟩
  · have taken : syncTaken e s.dev = true := by simp [syncTaken, on, hp, up, from_]
    obtain ⟨hst, hpo, hco, hof, hmp, hgm, hho, hdt, hch⟩ := ptpSync_shown e s.dev taken
    exact ⟨_, exec_ptpSync e s alive, hst, hpo, hco, hof, hmp, hgm, hho, rfl, hdt, hch, ptpSync_steps e s.dev taken,
      ptpSync_trims e s.dev taken⟩
  · have taken : syncTaken e s.dev = false := by
      unfold syncTaken
      rcases h with h | h | h | h <;> simp [h]
    rw [exec_ptpSync e s alive, State.onDev_of_eq _ _ (ptpSync_not_taken e s.dev taken)]
  · refine ⟨_, exec_ptpSyncTimeout s alive, ?_⟩
    rw [State.onDev_dev, ptpTimeout_holds s.dev x hx on st due]
    refine ⟨?_, ?_, Dev.raised_ev_same _ _ _ (by decide), ?_, ?_, setDtSrc_ppb .., setDtSrc_dtF .., rfl⟩
    · rw [Dev.get_ev_ne _ _ _ _ _ (by decide), get_setDtSrc_ne _ _ _ _ (by decide) (by decide)]
      exact Dev.get_put_same ..
    · rw [Dev.get_ev_ne _ _ _ _ _ (by decide), setDtSrc_src 4 (by decide)]
    · rw [Dev.net_ev, setDtSrc_net]; rfl
    · rw [Dev.net_ev, setDtSrc_net]; rfl
  · rw [exec_ptpSyncTimeout s alive, State.onDev_of_eq _ _ (ptpTimeout_not_due s.dev x hx early up)]
  · refine ⟨_, exec_ptplost s alive, ?_⟩
    rw [State.onDev_dev, ptpLost_due s.dev x hx on hr due]
    exact ⟨by rw [Dev.net_raise]; rfl, rfl, fun room => Dev.raise_standing _ _ _ _ (by decide) room⟩
  · rw [exec_ptplost s alive, State.onDev_of_eq _ _ (ptpLost_not_due s.dev x hx early)]
  · refine ⟨_, exec_delayReq s alive, ?_⟩
    rw [State.onDev_dev, delayReq_on s.dev on]
    refine ⟨rfl, rfl, rfl, fun hp hu => ?_, fun hd => ?_⟩
    · exact ⟨_, List.mem_append_right _ (mem_delayEnts s.dev p hp hu), rfl, rfl, rfl⟩
    · exact (List.filter_append ..).trans (by rw [delayEnts_down s.dev _ hd, List.append_nil])

end Sys2Proof.Machine
end

section
/-! PROOFS. The motion grid (R34, R35, R59, R387). -/

namespace Sys2Proof.Machine

/-- A servo boundary is due and LEAF0's valley of the period, 100 MOTCLK counts after the grid's, is still to come (R63). -/
def beforeLeafValley : State := State.reset.onDev fun d =>
  { d.put (pgDRV 0) LEAF.TIMING.PHOFS 100 with
    boot := { d.boot with up := true }
    tim := { d.tim with grid := true, started := true, servoDue := true, axv := 1 } }

/-- The boundary finds the axis valleys of its period done, so time has passed up to the last of them. -/
theorem servoBoundary_passes_leafValley :
    beforeLeafValley.dev.tim.mot = 0 ∧ (servoBoundary beforeLeafValley).dev.tim.mot = 100 := by
  constructor <;> decide +kernel

/-- Refutes O29: a servo boundary does not keep the MOTCLK count where an axis valley of the period is still to come. Before
`servoBoundary` does its stages it passes time up to that valley, here from 0 to 100. -/
theorem not_motionGrid : ¬ Obligations.MotionGrid := by
  intro h
  obtain ⟨-, -, -, -, -, servo, -, -⟩ := h beforeLeafValley ({} : PwmEnv) (by decide +kernel)
  obtain ⟨t, ht, -, -, -, hmot⟩ := servo rfl
  have hx : exec .servoPeriodBoundary beforeLeafValley = .next (servoBoundary beforeLeafValley) :=
    congrArg Host.Outcome.next (State.live_of servoBoundary beforeLeafValley (by decide +kernel))
  have htt : servoBoundary beforeLeafValley = t := Host.Outcome.next.inj (hx.symm.trans ht)
  obtain ⟨hbefore, hafter⟩ := servoBoundary_passes_leafValley
  rw [← htt, hbefore, hafter] at hmot
  exact absurd hmot (by decide)

end Sys2Proof.Machine
end

section
/-! PROOFS. Field dies and the field link (R14, R15, R446). -/

namespace Sys2Proof.Machine

/-- A part of a field die's state that a change keeps reads the same after it, in every die. -/
theorem Dev.di_modDi_keep {α : Type} (π : DieX → α) (f : DieX → DieX) (n m : Nat) (d : Dev) (hf : ∀ y, π (f y) = π y) :
    π ((d.modDi n f).di m) = π (d.di m) := by
  rw [Dev.di_modDi]
  split
  · exact hf _
  · rfl

/-- What the core keeps for the frames from a die: the periods without one, the next number sent and the number expected. -/
def upLink (y : DieX) : Nat × Nat × Option Nat := (y.lost, y.upSeq, y.coreExp)

theorem upLink_doDrive (x m : Nat) (d : Dev) : upLink ((doDrive x d).di m) = upLink (d.di m) :=
  Dev.di_modDi_keep upLink _ x m d (by intro; rfl)

theorem upLink_dieReceives (x m : Nat) (d : Dev) : upLink ((dieReceives x d).di m) = upLink (d.di m) :=
  (upLink_doDrive x m _).trans (Dev.di_modDi_keep upLink _ x m d (by intro; rfl))

theorem di_frameBad (x m : Nat) (crc : Bool) (d : Dev) : (frameBad x crc d).di m = d.di m := rfl

/-- A frame to the die, good or bad, leaves the core's side of the link as it is. -/
theorem upLink_linkDown (x err m : Nat) (d : Dev) : upLink ((linkDown x err d).di m) = upLink (d.di m) := by
  unfold linkDown
  dsimp only
  split
  · rw [upLink_dieReceives]
    exact Dev.di_modDi_keep upLink _ x m d (by intro; rfl)
  all_goals
    rw [di_frameBad]
    exact Dev.di_modDi_keep upLink _ x m d (by intro; rfl)

/-- A frame without a bit error that bears a number other than the expected one is bad by its number (R14). -/
theorem linkCheck_seqBad (seq e : Nat) (msg : List Nat) (hs : seq < 16) (he : e ≠ seq) : linkCheck seq msg 0 (some e) = .seqBad := by
  have hgot : (seq ^^^ 0 / 65536) % 16 = seq := by rw [Nat.zero_div, Nat.xor_zero, Nat.mod_eq_of_lt hs]
  unfold linkCheck
  rw [hgot]
  simp [he.symm]

/-- A frame from the die with a bad number brings nothing, not even an end to the periods without a frame. -/
theorem lost_linkUp_seqBad (x e : Nat) (d : Dev) (hs : (d.di x).upSeq < 16) (hc : (d.di x).coreExp = some e)
    (he : e ≠ (d.di x).upSeq) : ((linkUp x {} d).di x).lost = (d.di x).lost := by
  have hbad : linkCheck (d.di x).upSeq (Config.linkUp (d.di x) {}) (0 : BitVec 20).toNat (d.di x).coreExp = .seqBad := by
    rw [hc]
    exact linkCheck_seqBad _ _ _ hs he
  unfold linkUp
  dsimp only
  rw [hbad, di_frameBad]
  exact Dev.di_modDi_keep DieX.lost _ x x d (by intro; rfl)

theorem lost_standaloneDrive (x : Nat) (d : Dev) :
    ((if (d.di x).standalone then doDrive x d else d).di x).lost = (d.di x).lost := by
  split
  · exact congrArg Prod.fst (upLink_doDrive x x d)
  · rfl

/-- So it is with the whole frame: what goes to the die does not touch the core's side. -/
theorem lost_fieldLinkFrame_seqBad (x e : Nat) (d : Dev) (hs : (d.di x).upSeq < 16) (hc : (d.di x).coreExp = some e)
    (he : e ≠ (d.di x).upSeq) : ((fieldLinkFrame x {} d).di x).lost = (d.di x).lost := by
  have hcore (c : Dev) (h : upLink (c.di x) = upLink (d.di x)) :
      ((if c.alive then linkUp x {} (linkDown x (0 : BitVec 20).toNat c) else c).di x).lost = (d.di x).lost := by
    obtain ⟨hlost, hseq, hexp⟩ : ((linkDown x (0 : BitVec 20).toNat c).di x).lost = (d.di x).lost ∧
        ((linkDown x (0 : BitVec 20).toNat c).di x).upSeq = (d.di x).upSeq ∧
        ((linkDown x (0 : BitVec 20).toNat c).di x).coreExp = (d.di x).coreExp := by
      simpa only [upLink, Prod.mk.injEq] using (upLink_linkDown x (0 : BitVec 20).toNat x c).trans h
    split
    · exact (lost_linkUp_seqBad x e _ (hseq ▸ hs) (hexp.trans hc) (hseq ▸ he)).trans hlost
    · exact congrArg Prod.fst h
  unfold fieldLinkFrame
  split
  · exact (lost_standaloneDrive x _).trans (hcore _ (Dev.di_modDi_keep upLink _ x x d (by intro; rfl)))
  · rfl

/-- The core runs and expects number 1 of field die 0, which sends 0; LEAF0's valley is the last of the period still to come. -/
def beforeLastValley : State := State.reset.onDev fun d =>
  { d.modDi 0 fun y => { y with coreExp := some 1 } with
    boot := { d.boot with up := true }
    tim := { d.tim with grid := true, started := true, axv := 1 } }

/-- Once the valleys of the period are over its missing frame is counted, and both numbers have moved on. -/
theorem settleAxes_beforeLastValley : ((settleAxes beforeLastValley.dev).di 0).lost = 1 ∧
    ((settleAxes beforeLastValley.dev).di 0).upSeq = 1 ∧ ((settleAxes beforeLastValley.dev).di 0).coreExp = some 2 := by
  refine ⟨?_, ?_, ?_⟩ <;> decide +kernel

/-- Refutes O36: a frame with a bad number, which is to bring nothing, does not keep the count of periods without a frame where
an axis valley of the period is still to come. The frame finds the period's valleys done (`settleAxes`), and the last of them
counts the period: the count goes from 0 to 1. -/
theorem not_fieldDiesAndLink : ¬ Obligations.FieldDiesAndLink := by
  intro h
  have alive : beforeLastValley.dev.alive = true := by decide +kernel
  obtain ⟨-, hbad, -⟩ := h.2 beforeLastValley 0 (.di 0) false 0 alive (by decide +kernel)
  obtain ⟨t, ht, -, -, hlost, -⟩ := hbad (by decide +kernel) (by decide +kernel) (by decide +kernel) ⟨1, by decide +kernel, by decide +kernel⟩
  have hx : exec (.fieldLinkFrame 0 {}) beforeLastValley = .next (beforeLastValley.onDev fun d => fieldLinkFrame 0 {} (settleAxes d)) :=
    congrArg (fun d => Host.Outcome.next (beforeLastValley.onDev fun _ => fieldLinkFrame 0 {} d)) (Dev.live_of settleAxes _ alive)
  have htt := Host.Outcome.next.inj (hx.symm.trans ht)
  obtain ⟨hl, hs, hc⟩ := settleAxes_beforeLastValley
  have hafter : (t.dev.di 0).lost = 1 := by
    rw [← htt]
    exact (lost_fieldLinkFrame_seqBad 0 2 _ (by omega) hc (by omega)).trans hl
  have hbefore : (beforeLastValley.dev.di 0).lost = 0 := by decide +kernel
  exact absurd (hlost.symm.trans hafter) (by rw [show ((0 : DieNo) : Nat) = 0 from rfl, hbefore]; decide)

end Sys2Proof.Machine
end

section
/-! PROOFS. What start-up does after the proof pass leaves the pass's own bit, and the mark of the factory set, as they are
(R355, R546): the state's operations, the reports, and the load of an impression. -/

namespace Sys2Proof.Machine

/-- The cell that holds `PPASS.PASS`. -/
def passBit (a : Cells) : Nat := Cells.get a (IMD.PPASS.PASS.key pgIMD) IMD.PPASS.PASS.rst

/-- A field that no page keeps in the cell of `PPASS.PASS`. -/
def offPass (f : Fld) : Bool := f.lo % 32 != 30 || (decide (f.lo < 32) && f.off / 4 % 1024 != 28)

theorem key_ne_pass (f : Fld) (pg : Nat) (h : offPass f = true) : IMD.PPASS.PASS.key pgIMD ≠ f.key pg := by
  have hk : IMD.PPASS.PASS.key pgIMD = 99230 := rfl
  rw [hk]
  unfold offPass at h
  unfold Fld.key
  simp only [Bool.or_eq_true, bne_iff_ne, Bool.and_eq_true, decide_eq_true_eq] at h
  omega

theorem offPass_at (f : Fld) (i : Nat) (h : f.lo % 32 ≠ 30) : offPass (f.at i) = true := by
  simp [offPass, Fld.at, h]

@[simp] theorem offPass_drvReg (f : Fld) (a : Nat) (h : f.lo % 32 ≠ 30) : offPass (drvReg a f) = true := by
  have hlo : (drvReg a f).lo = f.lo := by
    unfold drvReg
    split_ifs <;> rfl
  simp [offPass, hlo, h]

@[simp] theorem offPass_ite (c : Prop) [Decidable c] (f g : Fld) (hf : offPass f = true) (hg : offPass g = true) :
    offPass (if c then f else g) = true := by
  split <;> assumption

/-! The state's operations. -/

section
variable (p n : Nat) (f : Fld) (d : Dev)

@[simp] theorem passBit_put (v : Nat) (h : offPass f = true) : passBit (d.put p f v).act = passBit d.act :=
  Cells.get_put_ne _ _ _ _ _ _ (key_ne_pass f p h)
@[simp] theorem passBit_putState (v : Nat) : passBit (d.put p HDR.STATE v).act = passBit d.act := passBit_put p _ d v rfl
@[simp] theorem passBit_putB (b : Bool) (h : offPass f = true) : passBit (d.putB p f b).act = passBit d.act := passBit_put p f d _ h
@[simp] theorem passBit_put_at (i v : Nat) (h : f.lo % 32 ≠ 30) : passBit (d.put p (f.at i) v).act = passBit d.act :=
  passBit_put p _ d v (offPass_at f i h)
@[simp] theorem passBit_putB_at (i : Nat) (b : Bool) (h : f.lo % 32 ≠ 30) : passBit (d.putB p (f.at i) b).act = passBit d.act :=
  passBit_put_at p f d i _ h
@[simp] theorem passBit_puti (v : Int) (h : offPass f = true) : passBit (d.puti p f v).act = passBit d.act := passBit_put p f d _ h
@[simp] theorem passBit_put2 (v : Nat) (h : offPass f = true) : passBit (d.put2 p f v).act = passBit d.act := passBit_put p f d v h
@[simp] theorem passBit_inc (h : offPass f = true) : passBit (d.inc p f).act = passBit d.act := passBit_put p f d _ h
@[simp] theorem passBit_ev : passBit (d.ev p n).act = passBit d.act := passBit_put p _ _ _ rfl
@[simp] theorem passBit_setPg : passBit (d.setPg p n).act = passBit d.act := passBit_put p _ _ _ rfl
@[simp] theorem Dev.boot_putB (b : Bool) : (d.putB p f b).boot = d.boot := rfl
@[simp] theorem Dev.boot_puti (v : Int) : (d.puti p f v).boot = d.boot := rfl
@[simp] theorem Dev.boot_put2 (v : Nat) : (d.put2 p f v).boot = d.boot := rfl
@[simp] theorem Dev.boot_inc : (d.inc p f).boot = d.boot := rfl
@[simp] theorem Dev.boot_setPg : (d.setPg p n).boot = d.boot := rfl

end

@[simp] theorem passBit_ite (c : Prop) [Decidable c] (a b : Dev) :
    passBit (if c then a else b).act = if c then passBit a.act else passBit b.act := apply_ite (fun d => passBit d.act) c a b

@[simp] theorem factory_ite (c : Prop) [Decidable c] (a b : Dev) :
    (if c then a else b).boot.factory = if c then a.boot.factory else b.boot.factory := apply_ite (fun d => d.boot.factory) c a b

@[simp] theorem passBit_iff (c : Bool) (f : Dev → Dev) (d : Dev) :
    passBit (d.iff_ c f).act = if c then passBit (f d).act else passBit d.act := by unfold Dev.iff_; exact passBit_ite ..
@[simp] theorem factory_iff (c : Bool) (f : Dev → Dev) (d : Dev) :
    (d.iff_ c f).boot.factory = if c then (f d).boot.factory else d.boot.factory := by unfold Dev.iff_; exact factory_ite ..

/-- Changes that leave both as they are do so one after another. -/
theorem each_keepsPass {α : Type} (l : List α) (f : α → Dev → Dev) (d : Dev)
    (hf : ∀ a ∈ l, ∀ d, passBit (f a d).act = passBit d.act ∧ (f a d).boot.factory = d.boot.factory) :
    passBit (d.each l f).act = passBit d.act ∧ (d.each l f).boot.factory = d.boot.factory :=
  Dev.each_mem (fun x => passBit x.act = passBit d.act ∧ x.boot.factory = d.boot.factory) l f d
    (fun a x ha hx => ⟨(hf a ha x).1.trans hx.1, (hf a ha x).2.trans hx.2⟩) ⟨rfl, rfl⟩

@[simp] theorem each_keepsPass_all {α : Type} (l : List α) (f : α → Dev → Dev) (d : Dev)
    (hf : ∀ a d, passBit (f a d).act = passBit d.act ∧ (f a d).boot.factory = d.boot.factory) :
    passBit (d.each l f).act = passBit d.act ∧ (d.each l f).boot.factory = d.boot.factory :=
  each_keepsPass l f d fun a _ => hf a

theorem each_keepsPass_after {α : Type} {l : List α} {f : α → Dev → Dev} {d c : Dev}
    (hf : ∀ a d, passBit (f a d).act = passBit d.act ∧ (f a d).boot.factory = d.boot.factory)
    (h : passBit d.act = passBit c.act ∧ d.boot.factory = c.boot.factory) :
    passBit (d.each l f).act = passBit c.act ∧ (d.each l f).boot.factory = c.boot.factory :=
  ⟨(each_keepsPass_all l f d hf).1.trans h.1, (each_keepsPass_all l f d hf).2.trans h.2⟩

@[simp] theorem modBoot_act (f : BootX → BootX) (d : Dev) : (d.modBoot f).act = d.act := rfl
@[simp] theorem modBoot_boot (f : BootX → BootX) (d : Dev) : (d.modBoot f).boot = f d.boot := rfl
@[simp] theorem modDrv_act (a : Nat) (f : DrvX → DrvX) (d : Dev) : (d.modDrv a f).act = d.act := by unfold Dev.modDrv; split <;> rfl
@[simp] theorem modDrv_boot (a : Nat) (f : DrvX → DrvX) (d : Dev) : (d.modDrv a f).boot = d.boot := by unfold Dev.modDrv; split <;> rfl
@[simp] theorem modTask_act (t : TaskId) (f : TaskX → TaskX) (d : Dev) : (d.modTask t f).act = d.act := by cases t <;> rfl
@[simp] theorem modTask_boot (t : TaskId) (f : TaskX → TaskX) (d : Dev) : (d.modTask t f).boot = d.boot := by cases t <;> rfl

section
variable (n : Nat) (d : Dev)

@[simp] theorem modPrf_act (f : PrfX → PrfX) : (d.modPrf n f).act = d.act := rfl
@[simp] theorem modPrf_boot (f : PrfX → PrfX) : (d.modPrf n f).boot = d.boot := rfl
@[simp] theorem modSeq_act (f : SeqX → SeqX) : (d.modSeq n f).act = d.act := rfl
@[simp] theorem modSeq_boot (f : SeqX → SeqX) : (d.modSeq n f).boot = d.boot := rfl
@[simp] theorem modLrn_act (f : LearnX → LearnX) : (d.modLrn n f).act = d.act := rfl
@[simp] theorem modLrn_boot (f : LearnX → LearnX) : (d.modLrn n f).boot = d.boot := rfl
@[simp] theorem modStp_act (f : StpX → StpX) : (d.modStp n f).act = d.act := rfl
@[simp] theorem modStp_boot (f : StpX → StpX) : (d.modStp n f).boot = d.boot := rfl
@[simp] theorem modWin_act (f : StpDrvX → StpDrvX) : (d.modWin n f).act = d.act := rfl
@[simp] theorem modWin_boot (f : StpDrvX → StpDrvX) : (d.modWin n f).boot = d.boot := rfl
@[simp] theorem modCn_act (f : CanX → CanX) : (d.modCn n f).act = d.act := rfl
@[simp] theorem modCn_boot (f : CanX → CanX) : (d.modCn n f).boot = d.boot := rfl
@[simp] theorem modTrdp_act (f : TrdpX → TrdpX) : (d.modTrdp f).act = d.act := rfl
@[simp] theorem modTrdp_boot (f : TrdpX → TrdpX) : (d.modTrdp f).boot = d.boot := rfl
@[simp] theorem modRec_act (f : RecSt → RecSt) : (d.modRec f).act = d.act := rfl
@[simp] theorem modRec_boot (f : RecSt → RecSt) : (d.modRec f).boot = d.boot := rfl
@[simp] theorem modLb_act (f : LeafBusX → LeafBusX) : (d.modLb f).act = d.act := rfl
@[simp] theorem modLb_boot (f : LeafBusX → LeafBusX) : (d.modLb f).boot = d.boot := rfl
@[simp] theorem modPtp_act (f : PtpX → PtpX) : (d.modPtp f).act = d.act := rfl
@[simp] theorem modPtp_boot (f : PtpX → PtpX) : (d.modPtp f).boot = d.boot := rfl
@[simp] theorem c2off_act (c i : Nat) : (d.c2off n c i).act = d.act := rfl
@[simp] theorem c2off_boot (c i : Nat) : (d.c2off n c i).boot = d.boot := rfl
@[simp] theorem c2on_act (c i : Nat) : (d.c2on n c i).act = d.act := by unfold Dev.c2on; split <;> rfl
@[simp] theorem c2on_boot (c i : Nat) : (d.c2on n c i).boot = d.boot := by unfold Dev.c2on; split <;> rfl

end

/-! Reports. -/

@[simp] theorem passBit_raise (pg : Nat) (c : Cause) (inst : Nat) (d : Dev) : passBit (d.raise pg c inst).act = passBit d.act :=
  Dev.get_raise_ne pg c inst pgIMD IMD.PPASS.PASS d (by decide)

@[simp] theorem fault_keepsPass (pg : Nat) (c : Cause) (inst : Nat) (d : Dev) :
    passBit (d.fault pg c inst).act = passBit d.act ∧ (d.fault pg c inst).boot.factory = d.boot.factory := by
  unfold Dev.fault
  split <;> simp

/-! The pages that start-up publishes, and the load of an impression (R546, R549). -/

@[simp] theorem publishSec_keepsPass (d : Dev) :
    passBit (publishSec d).act = passBit d.act ∧ (publishSec d).boot = d.boot := by
  simp +decide [publishSec]

/-- The first unit of a unit's kind. -/
def Unit_.first : Unit_ → Unit_
  | .leaf _ => .leaf 0 | .obs _ => .obs 0 | .pos _ => .pos 0 | .posk _ => .posk 0 | .step _ => .step 0
  | .fio _ => .fio 0 | .lsw _ => .lsw 0 | .can _ => .can 0 | u => u

theorem unitFields_first (u : Unit_) : unitFields u.first = unitFields u := by cases u <;> rfl

/-- `PPASS.PASS` alone lies in its cell. -/
theorem unitFields_all_offPass (u : Unit_) (h : u ≠ .imd) : (unitFields u).all offPass = true := by
  rw [← unitFields_first]
  cases u
  case imd => exact absurd rfl h
  all_goals
    dsimp only [Unit_.first]
    decide +kernel

/-- No field that an impression may write, and no field of a page other than IMD's, lies in the cell of `PPASS.PASS`. -/
theorem unitFields_offPass (u : Unit_) (f : Fld) (hf : f ∈ unitFields u) (h : rwpOrRws f = true ∨ u ≠ .imd) : offPass f = true := by
  by_cases hu : u = .imd
  · have himd : ∀ g ∈ unitFields .imd, rwpOrRws g = true → offPass g = true := by decide +kernel
    exact himd f (hu ▸ hf) (h.resolve_right (absurd hu))
  · exact List.all_eq_true.mp (unitFields_all_offPass u hu) f hf

@[simp] theorem clampTell_keepsPass (u : Unit_) (pg : Nat) (f : Fld) (v t : Nat) (d : Dev) :
    passBit (clampTell u pg f v t d).act = passBit d.act ∧ (clampTell u pg f v t d).boot.factory = d.boot.factory := by
  unfold clampTell
  split
  · exact ⟨rfl, rfl⟩
  · split <;> simp

/-- An entry of an impression or a profile writes fields of its own page's unit alone. -/
theorem loadEntry_keepsPass (ok : Fld → Bool) (e : Nat × Nat × Nat × Nat) (d : Dev)
    (h : ∀ u ∈ unitOf e.1, ∀ f ∈ unitFields u, ok f = true → offPass f = true) :
    passBit (loadEntry ok e d).act = passBit d.act ∧ (loadEntry ok e d).boot.factory = d.boot.factory := by
  obtain ⟨pg, off, v, m⟩ := e
  unfold loadEntry
  dsimp only
  split
  · exact ⟨rfl, rfl⟩
  next u hu =>
    split
    · exact ⟨rfl, rfl⟩
    · refine each_keepsPass _ _ _ fun f hf d => ?_
      have hf' := List.mem_filter.mp (List.mem_reverse.mp hf)
      have ho : offPass f = true := h u hu f hf'.1 (by simp only [Bool.and_eq_true] at hf'; exact hf'.2.1.2)
      simp [ho]

theorem loadProfile_keepsPass (pg : Nat) (d : Dev) (h : pg ∈ profilePages) :
    passBit (loadProfile pg d).act = passBit d.act ∧ (loadProfile pg d).boot.factory = d.boot.factory := by
  unfold loadProfile
  refine each_keepsPass _ _ _ fun e he d => loadEntry_keepsPass _ _ _ fun u hu f hf _ => ?_
  have hpg : e.1 = pg := eq_of_beq (List.mem_filter.mp he).2
  have himd : ∀ q ∈ profilePages, unitOf q ≠ some .imd := by decide
  exact unitFields_offPass u f hf (.inr fun hi => himd pg h (by rw [← hpg, ← hi]; exact hu))

@[simp] theorem loadNumber_keepsPass (n : Nat) (d : Dev) :
    passBit (loadNumber n d).act = passBit d.act ∧ (loadNumber n d).boot.factory = d.boot.factory := by
  simp +decide [loadNumber]

@[simp] theorem trdpPublish_keepsPass (d : Dev) :
    passBit (trdpPublish d).act = passBit d.act ∧ (trdpPublish d).boot.factory = d.boot.factory := by
  simp +decide [trdpPublish]

@[simp] theorem trdpMapBad_keepsPass (d : Dev) :
    passBit (trdpMapBad d).act = passBit d.act ∧ (trdpMapBad d).boot.factory = d.boot.factory := by
  simp [trdpMapBad]

@[simp] theorem subLoad_keepsPass (old : List SubX) (p : SubD) (d : Dev) :
    passBit (subLoad old p d).act = passBit d.act ∧ (subLoad old p d).boot.factory = d.boot.factory := by
  simp [subLoad]

@[simp] theorem pubLoad_keepsPass (old : List PubX) (p : PubD) (d : Dev) :
    passBit (pubLoad old p d).act = passBit d.act ∧ (pubLoad old p d).boot.factory = d.boot.factory := by
  simp [pubLoad]

@[simp] theorem trdpLoad_keepsPass (pubs : List PubD) (subs : List SubD) (d : Dev) :
    passBit (trdpLoad pubs subs d).act = passBit d.act ∧ (trdpLoad pubs subs d).boot.factory = d.boot.factory := by
  unfold trdpLoad
  split <;> simp

@[simp] theorem loadMaps_keepsPass (i : ImpImg) (d : Dev) :
    passBit (loadMaps i d).act = passBit d.act ∧ (loadMaps i d).boot.factory = d.boot.factory := by
  simp +decide [loadMaps]

@[simp] theorem loadImpression_keepsPass (i : ImpImg) (d : Dev) :
    passBit (loadImpression i d).act = passBit d.act ∧ (loadImpression i d).boot.factory = d.boot.factory := by
  have hvalues (c : Dev) := each_keepsPass i.values (loadEntry rwpOrRws) c fun e _ d =>
    loadEntry_keepsPass _ _ _ fun u _ f hf hok => unitFields_offPass u f hf (.inl hok)
  have hprofiles (c : Dev) := each_keepsPass profilePages loadProfile c fun pg hpg d => loadProfile_keepsPass pg d hpg
  simp [loadImpression, hvalues, hprofiles]

@[simp] theorem factoryDoor_keepsPass (k : Nat) (d : Dev) :
    passBit (factoryDoor k d).act = passBit d.act ∧ (factoryDoor k d).boot.factory = d.boot.factory := by
  refine each_keepsPass_after (fun n d => ?_) ?_ <;> simp +decide

@[simp] theorem loadFactory_keepsPass (d : Dev) :
    passBit (loadFactory d).act = passBit d.act ∧ (loadFactory d).boot.factory = d.boot.factory := by
  simp +decide [loadFactory]

end Sys2Proof.Machine
end

section
/-! PROOFS. What start-up does after the proof pass leaves the pass's own bit, and the mark of the factory set, as they are: the
safety functions and the start of the pages (R327, R546). -/

namespace Sys2Proof.Machine

/-! The axes and their pages. -/

@[simp] theorem gatesOff_keepsPass (a : Nat) (d : Dev) :
    passBit (gatesOff a d).act = passBit d.act ∧ (gatesOff a d).boot.factory = d.boot.factory := by
  simp +decide [gatesOff]

@[simp] theorem pageRun_keepsPass (a : Nat) (d : Dev) :
    passBit (pageRun a d).act = passBit d.act ∧ (pageRun a d).boot.factory = d.boot.factory := by
  unfold pageRun
  dsimp only
  split <;> simp +decide

@[simp] theorem setMode_keepsPass (a m : Nat) (d : Dev) :
    passBit (setMode a m d).act = passBit d.act ∧ (setMode a m d).boot.factory = d.boot.factory := by
  simp +decide [setMode]

@[simp] theorem calAbort_keepsPass (a : Nat) (d : Dev) :
    passBit (calAbort a d).act = passBit d.act ∧ (calAbort a d).boot.factory = d.boot.factory := by
  unfold calAbort calOff
  split <;> simp +decide

@[simp] theorem seqFault_keepsPass (n code : Nat) (d : Dev) :
    passBit (seqFault n code d).act = passBit d.act ∧ (seqFault n code d).boot.factory = d.boot.factory := ⟨rfl, rfl⟩

@[simp] theorem reqStop_keepsPass (n kind : Nat) (own : Bool) (d : Dev) :
    passBit (reqStop n kind own d).act = passBit d.act ∧ (reqStop n kind own d).boot.factory = d.boot.factory := by
  simp [reqStop]

@[simp] theorem bridgeDisable_keepsPass (n : Nat) (d : Dev) :
    passBit (bridgeDisable n d).act = passBit d.act ∧ (bridgeDisable n d).boot.factory = d.boot.factory := by
  unfold bridgeDisable
  dsimp only
  split_ifs <;> simp +decide

@[simp] theorem bridgeRelease_keepsPass (n : Nat) (d : Dev) :
    passBit (bridgeRelease n d).act = passBit d.act ∧ (bridgeRelease n d).boot.factory = d.boot.factory := by
  simp +decide [bridgeRelease]

/-! The Platen die (R327). -/

@[simp] theorem pltDrive_keepsPass (lken bdis coil : Nat) (d : Dev) :
    passBit (pltDrive lken bdis coil d).act = passBit d.act ∧ (pltDrive lken bdis coil d).boot.factory = d.boot.factory := by
  simp [pltDrive]

@[simp] theorem pltWeigh_keepsPass (d : Dev) :
    passBit (pltWeigh d).act = passBit d.act ∧ (pltWeigh d).boot.factory = d.boot.factory := by
  simp [pltWeigh]

@[simp] theorem pltSafe_keepsPass (diag : Nat) (d : Dev) :
    passBit (pltSafe diag d).act = passBit d.act ∧ (pltSafe diag d).boot.factory = d.boot.factory := by
  simp [pltSafe]

@[simp] theorem pltTake_keepsPass (good : Bool) (seq : Nat) (d : Dev) :
    passBit (pltTake good seq d).1.act = passBit d.act ∧ (pltTake good seq d).1.boot.factory = d.boot.factory := by
  unfold pltTake
  dsimp only
  split_ifs <;> exact ⟨rfl, rfl⟩

@[simp] theorem pFrameHalt_keepsPass (d : Dev) :
    passBit (pFrameHalt d).act = passBit d.act ∧ (pFrameHalt d).boot.factory = d.boot.factory := by
  simp [pFrameHalt]

@[simp] theorem pFrameSend_keepsPass (typ : Nat) (d : Dev) :
    passBit (pFrameSend typ d).1.act = passBit d.act ∧ (pFrameSend typ d).1.boot.factory = d.boot.factory := by
  simp [pFrameSend]

@[simp] theorem pltRestart_keepsPass (d : Dev) :
    passBit (pltRestart d).act = passBit d.act ∧ (pltRestart d).boot.factory = d.boot.factory := by
  simp [pltRestart]

@[simp] theorem pFrameRestart_keepsPass (d : Dev) :
    passBit (pFrameRestart d).act = passBit d.act ∧ (pFrameRestart d).boot.factory = d.boot.factory := by
  simp [pFrameRestart]

@[simp] theorem restartPlaten_keepsPass (d : Dev) :
    passBit (restartPlaten d).act = passBit d.act ∧ (restartPlaten d).boot.factory = d.boot.factory := by
  simp [restartPlaten]

@[simp] theorem loadSafePage_keepsPass (r : PRec) (d : Dev) :
    passBit (loadSafePage r d).act = passBit d.act ∧ (loadSafePage r d).boot.factory = d.boot.factory := by
  simp +decide [loadSafePage]

@[simp] theorem pFrameConfig_keepsPass (i : Nat) (bytes : List Nat) (d : Dev) :
    passBit (pFrameConfig i bytes d).act = passBit d.act ∧ (pFrameConfig i bytes d).boot.factory = d.boot.factory := by
  simp [pFrameConfig]

@[simp] theorem pFrameTest_keepsPass (code arg : Nat) (d : Dev) :
    passBit (pFrameTest code arg d).act = passBit d.act ∧ (pFrameTest code arg d).boot.factory = d.boot.factory := by
  simp [pFrameTest]

@[simp] theorem pFrameRun_keepsPass (d : Dev) :
    passBit (pFrameRun d).act = passBit d.act ∧ (pFrameRun d).boot.factory = d.boot.factory := by
  simp [pFrameRun]

@[simp] theorem coilsA_keepsPass (dl dr : Bool) (d : Dev) :
    passBit (coilsA dl dr d).act = passBit d.act ∧ (coilsA dl dr d).boot.factory = d.boot.factory := by
  simp [coilsA]

@[simp] theorem bringUp_keepsPass (mirBad : Nat) (d : Dev) :
    passBit (bringUp mirBad d).act = passBit d.act ∧ (bringUp mirBad d).boot.factory = d.boot.factory := by
  simp [bringUp, relayFault]

/-! The forme. -/

@[simp] theorem impoFit_keepsPass (d : Dev) :
    passBit (impoFit d).act = passBit d.act ∧ (impoFit d).boot.factory = d.boot.factory := by
  unfold impoFit
  split <;> simp

@[simp] theorem publishForme_keepsPass (d : Dev) :
    passBit (publishForme d).act = passBit d.act ∧ (publishForme d).boot.factory = d.boot.factory := by
  simp +decide [publishForme]

@[simp] theorem olcCancel_keepsPass (d : Dev) :
    passBit (olcCancel d).act = passBit d.act ∧ (olcCancel d).boot.factory = d.boot.factory := by
  unfold olcCancel
  split <;> simp +decide

@[simp] theorem olcFail_keepsPass (code : Nat) (d : Dev) :
    passBit (olcFail code d).act = passBit d.act ∧ (olcFail code d).boot.factory = d.boot.factory := by
  simp +decide [olcFail]

@[simp] theorem olcSwitch_keepsPass (d : Dev) :
    passBit (olcSwitch d).act = passBit d.act ∧ (olcSwitch d).boot.factory = d.boot.factory := by
  unfold olcSwitch
  split_ifs <;> simp +decide

@[simp] theorem fillRegion_dev (h r : Nat) (s : State) : (fillRegion h r s).dev = s.dev := rfl
@[simp] theorem poke_dev (a n v : Nat) (s : State) : (s.poke a n v).dev = s.dev := rfl

@[simp] theorem forcesTo_dev (half region kind : Nat) (s : State) : (forcesTo half region kind s).dev = s.dev := by
  unfold forcesTo
  generalize s.dev.forme.force.zipIdx = l
  induction l generalizing s with
  | nil => rfl
  | cons e l ih =>
    rw [List.foldl_cons, ih]
    split
    · rfl
    · split
      · rfl
      · split <;> rfl

@[simp] theorem startTask_keepsPass (t : TaskId) (blk : Nat) (s : State) :
    passBit (startTask t blk s).dev.act = passBit s.dev.act ∧ (startTask t blk s).dev.boot.factory = s.dev.boot.factory := by
  simp [startTask]

@[simp] theorem olcPrep_keepsPass (half : Nat) (s : State) :
    passBit (olcPrep half s).dev.act = passBit s.dev.act ∧ (olcPrep half s).dev.boot.factory = s.dev.boot.factory := by
  unfold olcPrep
  dsimp only
  split_ifs <;> simp +decide

theorem olcRequest_keepsPass (f : Fld) (act : State → State) (s : State) (hf : offPass f = true)
    (ha : ∀ s, passBit (act s).dev.act = passBit s.dev.act ∧ (act s).dev.boot.factory = s.dev.boot.factory) :
    passBit (olcRequest f act s).dev.act = passBit s.dev.act ∧ (olcRequest f act s).dev.boot.factory = s.dev.boot.factory := by
  unfold olcRequest
  split
  · simp [ha, hf]
  · exact ⟨rfl, rfl⟩

@[simp] theorem forceMove_keepsPass (k : Nat) (x : ForceX) (d : Dev) :
    passBit (forceMove k x d).act = passBit d.act ∧ (forceMove k x d).boot.factory = d.boot.factory := by
  unfold forceMove
  dsimp only
  split_ifs <;> simp

theorem publishForces_keepsPass (d : Dev) :
    passBit (publishForces d).act = passBit d.act ∧ (publishForces d).boot.factory = d.boot.factory := by
  unfold publishForces
  rw [passBit_put _ _ _ _ rfl, passBit_put _ _ _ _ rfl, Dev.put_boot, Dev.put_boot]
  exact ⟨rfl, rfl⟩

@[simp] theorem resolveForces_keepsPass (lost : Nat → Bool) (s : State) :
    passBit (resolveForces lost s).dev.act = passBit s.dev.act ∧ (resolveForces lost s).dev.boot.factory = s.dev.boot.factory := by
  unfold resolveForces
  rw [State.onDev_dev, (publishForces_keepsPass _).1, (publishForces_keepsPass _).2]
  exact each_keepsPass_all _ _ _ fun x d => forceMove_keepsPass x.2 x.1 d

theorem frmCommit_keepsPass (old : Dev) (s : State) :
    passBit (frmCommit old s).dev.act = passBit s.dev.act ∧ (frmCommit old s).dev.boot.factory = s.dev.boot.factory := by
  have hcancel (s : State) := olcRequest_keepsPass FRM.OLC_CTRL.CANCEL (State.onDev olcCancel) s (by decide) (by simp)
  have hprep (h : Nat) (s : State) := olcRequest_keepsPass FRM.OLC_CTRL.PREP (olcPrep h) s (by decide) (by simp)
  have hswitch (s : State) := olcRequest_keepsPass FRM.OLC_CTRL.SWITCH (State.onDev olcSwitch) s (by decide) (by simp)
  simp +decide [frmCommit, hcancel, hprep, hswitch]

/-! A leaf's page. -/

@[simp] theorem cfgCheck_keepsPass (d : Dev) :
    passBit (cfgCheck d).act = passBit d.act ∧ (cfgCheck d).boot.factory = d.boot.factory := by
  unfold cfgCheck
  split
  · exact ⟨rfl, rfl⟩
  · simp

@[simp] theorem sendLock_keepsPass (n : Nat) (d : Dev) :
    passBit (sendLock n d).act = passBit d.act ∧ (sendLock n d).boot.factory = d.boot.factory := ⟨rfl, rfl⟩

@[simp] theorem leaveFault_keepsPass (n : Nat) (d : Dev) :
    passBit (leaveFault n d).act = passBit d.act ∧ (leaveFault n d).boot.factory = d.boot.factory := by
  simp [leaveFault]

@[simp] theorem setState_keepsPass (n : Nat) (st : LeafState) (d : Dev) :
    passBit (setState n st d).act = passBit d.act ∧ (setState n st d).boot.factory = d.boot.factory := by
  simp +decide [setState]

@[simp] theorem endRun_keepsPass (n : Nat) (d : Dev) :
    passBit (endRun n d).act = passBit d.act ∧ (endRun n d).boot.factory = d.boot.factory := by
  simp +decide [endRun]

@[simp] theorem kernLearnAbort_keepsPass (n : Nat) (loaded : Bool) (d : Dev) :
    passBit (kernLearnAbort n loaded d).act = passBit d.act ∧ (kernLearnAbort n loaded d).boot.factory = d.boot.factory := by
  simp +decide [kernLearnAbort]

@[simp] theorem dropRun_keepsPass (n : Nat) (d : Dev) :
    passBit (dropRun n d).act = passBit d.act ∧ (dropRun n d).boot.factory = d.boot.factory := by
  simp [dropRun]

@[simp] theorem resetMember_keepsPass (n : Nat) (d : Dev) :
    passBit (resetMember n d).act = passBit d.act ∧ (resetMember n d).boot.factory = d.boot.factory := by
  simp [resetMember]

@[simp] theorem settleOff_keepsPass (n : Nat) (d : Dev) :
    passBit (settleOff n d).act = passBit d.act ∧ (settleOff n d).boot.factory = d.boot.factory := by
  simp [settleOff, wantMode]

@[simp] theorem partnerFault_keepsPass (n : Nat) (d : Dev) :
    passBit (partnerFault n d).act = passBit d.act ∧ (partnerFault n d).boot.factory = d.boot.factory := by
  simp [partnerFault]

@[simp] theorem toFault_keepsPass (n : Nat) (d : Dev) :
    passBit (toFault n d).act = passBit d.act ∧ (toFault n d).boot.factory = d.boot.factory := by
  simp [toFault]

@[simp] theorem idleMember_keepsPass (n : Nat) (d : Dev) :
    passBit (idleMember n d).act = passBit d.act ∧ (idleMember n d).boot.factory = d.boot.factory := by
  simp [idleMember, endCmd]

@[simp] theorem publishProfile_keepsPass (n : Nat) (d : Dev) :
    passBit (publishProfile n d).act = passBit d.act ∧ (publishProfile n d).boot.factory = d.boot.factory := by
  simp +decide [publishProfile]

@[simp] theorem prfClear_keepsPass (n : Nat) (d : Dev) :
    passBit (prfClear n d).act = passBit d.act ∧ (prfClear n d).boot.factory = d.boot.factory := by
  simp +decide [prfClear]

@[simp] theorem drvStarting_keepsPass (a : Nat) (d : Dev) :
    passBit (drvStarting a d).act = passBit d.act ∧ (drvStarting a d).boot.factory = d.boot.factory := by
  simp +decide [drvStarting]

@[simp] theorem leafStarting_keepsPass (n : Nat) (d : Dev) :
    passBit (leafStarting n d).act = passBit d.act ∧ (leafStarting n d).boot.factory = d.boot.factory := by
  simp [leafStarting]

@[simp] theorem leafParkDone_keepsPass (n : Nat) (d : Dev) :
    passBit (leafParkDone n d).act = passBit d.act ∧ (leafParkDone n d).boot.factory = d.boot.factory := by
  unfold leafParkDone
  dsimp only
  split_ifs <;> simp +decide

@[simp] theorem leafPark_keepsPass (n kind : Nat) (d : Dev) :
    passBit (leafPark n kind d).act = passBit d.act ∧ (leafPark n kind d).boot.factory = d.boot.factory := by
  unfold leafPark
  dsimp only
  split_ifs <;> simp

@[simp] theorem leafService_keepsPass (old : Dev) (n : Nat) (d : Dev) :
    passBit (leafService old n d).act = passBit d.act ∧ (leafService old n d).boot.factory = d.boot.factory := by
  unfold leafService
  dsimp only
  split_ifs <;> simp

@[simp] theorem publishCaps_keepsPass (n : Nat) (d : Dev) :
    passBit (publishCaps n d).act = passBit d.act ∧ (publishCaps n d).boot.factory = d.boot.factory := by
  unfold publishCaps
  rw [passBit_put _ _ _ _ rfl, passBit_put _ _ _ _ rfl, Dev.put_boot, Dev.put_boot]
  exact ⟨rfl, rfl⟩

@[simp] theorem plainService_keepsPass (old : Dev) (pg : Nat) (d : Dev) :
    passBit (plainService old pg d).act = passBit d.act ∧ (plainService old pg d).boot.factory = d.boot.factory := by
  simp [plainService]

/-! The pages of positions, emulated encoders and steps. -/

@[simp] theorem obsService_keepsPass (old : Dev) (n : Nat) (d : Dev) :
    passBit (obsService old n d).act = passBit d.act ∧ (obsService old n d).boot.factory = d.boot.factory := by
  simp [obsService]

@[simp] theorem posStarting_keepsPass (a : Nat) (d : Dev) :
    passBit (posStarting a d).act = passBit d.act ∧ (posStarting a d).boot.factory = d.boot.factory := by
  simp +decide [posStarting]

@[simp] theorem posService_keepsPass (old : Dev) (a : Nat) (d : Dev) :
    passBit (posService old a d).act = passBit d.act ∧ (posService old a d).boot.factory = d.boot.factory := by
  unfold posService hallPol stepPosOff
  dsimp only
  split_ifs <;> simp

@[simp] theorem emuCommit_keepsPass (k : Nat) (d : Dev) :
    passBit (emuCommit k d).act = passBit d.act ∧ (emuCommit k d).boot.factory = d.boot.factory := by
  simp +decide [emuCommit]

@[simp] theorem stepState_keepsPass (k : Nat) (st : StepState) (d : Dev) :
    passBit (stepState k st d).act = passBit d.act ∧ (stepState k st d).boot.factory = d.boot.factory := by
  simp [stepState]

@[simp] theorem stepOff_keepsPass (k : Nat) (d : Dev) :
    passBit (stepOff k d).act = passBit d.act ∧ (stepOff k d).boot.factory = d.boot.factory := by
  simp +decide [stepOff]

@[simp] theorem stepUnref_keepsPass (k : Nat) (d : Dev) :
    passBit (stepUnref k d).act = passBit d.act ∧ (stepUnref k d).boot.factory = d.boot.factory := by
  simp [stepUnref, stepUnreference]

@[simp] theorem stepStarting_keepsPass (k : Nat) (d : Dev) :
    passBit (stepStarting k d).act = passBit d.act ∧ (stepStarting k d).boot.factory = d.boot.factory := by
  simp [stepStarting]

@[simp] theorem stepParkDone_keepsPass (k : Nat) (d : Dev) :
    passBit (stepParkDone k d).act = passBit d.act ∧ (stepParkDone k d).boot.factory = d.boot.factory := by
  unfold stepParkDone
  dsimp only
  split_ifs <;> simp

@[simp] theorem stepPark_keepsPass (k : Nat) (off : Bool) (d : Dev) :
    passBit (stepPark k off d).act = passBit d.act ∧ (stepPark k off d).boot.factory = d.boot.factory := by
  unfold stepPark
  dsimp only
  split_ifs <;> simp

@[simp] theorem stepService_keepsPass (old : Dev) (k : Nat) (d : Dev) :
    passBit (stepService old k d).act = passBit d.act ∧ (stepService old k d).boot.factory = d.boot.factory := by
  simp [stepService]

/-! The pages of the field dies, the networks and the records. -/

@[simp] theorem vfldCommit_keepsPass (old : Nat × Nat × Nat) (d : Dev) :
    passBit (vfldCommit old d).act = passBit d.act ∧ (vfldCommit old d).boot.factory = d.boot.factory := by
  simp +decide [vfldCommit]

@[simp] theorem grpCommit_keepsPass (x : Nat) (d : Dev) :
    passBit (grpCommit x d).act = passBit d.act ∧ (grpCommit x d).boot.factory = d.boot.factory := by
  simp +decide [grpCommit]

@[simp] theorem limpCommit_keepsPass (d : Dev) :
    passBit (limpCommit d).act = passBit d.act ∧ (limpCommit d).boot.factory = d.boot.factory := by
  simp +decide [limpCommit]

@[simp] theorem canPublish_keepsPass (c act : Nat) (d : Dev) :
    passBit (canPublish c act d).act = passBit d.act ∧ (canPublish c act d).boot.factory = d.boot.factory := by
  simp +decide [canPublish]

@[simp] theorem recordStatus_dev (a v : Nat) (s : State) : (recordStatus a v s).dev = s.dev := rfl

@[simp] theorem ringTake_dev (k : Nat) (s : State) : (ringTake k s).dev = s.dev := by
  unfold ringTake
  split <;> rfl

@[simp] theorem canDone_keepsPass (c j v : Nat) (d : Dev) :
    passBit (canDone c j v d).act = passBit d.act ∧ (canDone c j v d).boot.factory = d.boot.factory := ⟨rfl, rfl⟩

@[simp] theorem canFinish_keepsPass (c v : Nat) (s : State) :
    passBit (canFinish c v s).dev.act = passBit s.dev.act ∧ (canFinish c v s).dev.boot.factory = s.dev.boot.factory := by
  unfold canFinish
  dsimp only
  split
  · split
    · split <;> simp
    · simp
  · simp
  · simp

@[simp] theorem canMissAll_keepsPass (c : Nat) (s : State) :
    passBit (canMissAll c s).dev.act = passBit s.dev.act ∧ (canMissAll c s).dev.boot.factory = s.dev.boot.factory := by
  have hsof : passBit (if (s.dev.cn c).sof.isSome then canFinish c 6 s else s).dev.act = passBit s.dev.act ∧
      (if (s.dev.cn c).sof.isSome then canFinish c 6 s else s).dev.boot.factory = s.dev.boot.factory := by
    split <;> simp
  unfold canMissAll
  generalize (if (s.dev.cn c).sof.isSome then canFinish c 6 s else s) = s' at hsof
  dsimp only
  rw [← hsof.1, ← hsof.2]
  split
  · split
    · split <;> simp
    · simp
  · simp

@[simp] theorem canReinit_keepsPass (c : Nat) (s : State) :
    passBit (canReinit c s).dev.act = passBit s.dev.act ∧ (canReinit c s).dev.boot.factory = s.dev.boot.factory := by
  simp +decide [canReinit]

theorem canCommit_keepsPass (c : Nat) (old : Dev) (s : State) :
    passBit (canCommit c old s).dev.act = passBit s.dev.act ∧ (canCommit c old s).dev.boot.factory = s.dev.boot.factory := by
  have htiming : ∀ d : Dev, passBit (d.each canTiming fun f d => d.put (pgCAN c) f (old.get (pgCAN c) f)).act = passBit d.act ∧
      (d.each canTiming fun f d => d.put (pgCAN c) f (old.get (pgCAN c) f)).boot.factory = d.boot.factory := fun d =>
    each_keepsPass _ _ _ fun f hf d => ⟨passBit_put _ _ _ _ ((by decide : ∀ f ∈ canTiming, offPass f = true) f hf), rfl⟩
  unfold canCommit
  dsimp only
  split <;> simp +decide [htiming]

@[simp] theorem impoMapBad_keepsPass (d : Dev) :
    passBit (impoMapBad d).act = passBit d.act ∧ (impoMapBad d).boot.factory = d.boot.factory := by
  unfold impoMapBad
  refine each_keepsPass_all _ _ _ fun r d => each_keepsPass_all _ _ _ fun w d => ?_
  split
  · exact ⟨rfl, rfl⟩
  · simp

@[simp] theorem lbPublish_keepsPass (d : Dev) :
    passBit (lbPublish d).act = passBit d.act ∧ (lbPublish d).boot.factory = d.boot.factory := by
  simp +decide [lbPublish]

@[simp] theorem impoCommit_keepsPass (all : Bool) (d : Dev) :
    passBit (impoCommit all d).act = passBit d.act ∧ (impoCommit all d).boot.factory = d.boot.factory := by
  simp [impoCommit]

@[simp] theorem ethCommit_keepsPass (d : Dev) :
    passBit (ethCommit d).act = passBit d.act ∧ (ethCommit d).boot.factory = d.boot.factory := by
  simp +decide [ethCommit, Dev.each]

@[simp] theorem ptpState_keepsPass (st : Nat) (d : Dev) :
    passBit (ptpState st d).act = passBit d.act ∧ (ptpState st d).boot.factory = d.boot.factory := by
  simp +decide [ptpState]

@[simp] theorem ptpCommit_keepsPass (d : Dev) :
    passBit (ptpCommit d).act = passBit d.act ∧ (ptpCommit d).boot.factory = d.boot.factory := by
  simp +decide [ptpCommit]

/-- Changes of the state that leave both as they are do so one after another. -/
theorem foldl_keepsPass {α : Type} (l : List α) (f : State → α → State) (s : State)
    (hf : ∀ s a, passBit (f s a).dev.act = passBit s.dev.act ∧ (f s a).dev.boot.factory = s.dev.boot.factory) :
    passBit (l.foldl f s).dev.act = passBit s.dev.act ∧ (l.foldl f s).dev.boot.factory = s.dev.boot.factory := by
  induction l generalizing s with
  | nil => exact ⟨rfl, rfl⟩
  | cons a l ih => exact ⟨(ih _).1.trans (hf s a).1, (ih _).2.trans (hf s a).2⟩

theorem ringCommit_keepsPass (changed : Nat) (again : Bool) (s : State) :
    passBit (ringCommit changed again s).dev.act = passBit s.dev.act ∧
    (ringCommit changed again s).dev.boot.factory = s.dev.boot.factory := by
  refine foldl_keepsPass _ _ _ fun s k => ?_
  dsimp only
  split
  · exact ⟨rfl, rfl⟩
  · split <;> simp +decide

theorem recCommit_keepsPass (old d : Dev) :
    passBit (recCommit old d).act = passBit d.act ∧ (recCommit old d).boot.factory = d.boot.factory := by
  unfold recCommit
  dsimp only
  split_ifs <;> simp +decide [Dev.each]

/-! The start of the pages. -/

theorem unitCommit_keepsPass (u : Unit_) (pg : Nat) (old : Dev) (s : State) :
    passBit (unitCommit u pg old s).dev.act = passBit s.dev.act ∧ (unitCommit u pg old s).dev.boot.factory = s.dev.boot.factory := by
  cases u
  case frm => exact frmCommit_keepsPass old s
  case can c => simpa [unitCommit] using canCommit_keepsPass c old (s.onDev (plainService old pg))
  case ring => simpa [unitCommit] using ringCommit_keepsPass (ringChanged old s.dev) (s.dev.enabled pgRING != old.enabled pgRING) (s.onDev (plainService old pg))
  all_goals simp [unitCommit, recCommit_keepsPass]

theorem pagesStart_keepsPass (s : State) :
    passBit (pagesStart s).dev.act = passBit s.dev.act ∧ (pagesStart s).dev.boot.factory = s.dev.boot.factory := by
  refine foldl_keepsPass _ _ _ fun s pg => ?_
  split
  · exact ⟨rfl, rfl⟩
  · split_ifs
    · exact ⟨rfl, rfl⟩
    · simp
    · exact unitCommit_keepsPass ..

end Sys2Proof.Machine
end

section
/-! PROOFS. Start-up (R29, R355, R542, R546, R551) and READY (R550). -/

namespace Sys2Proof.Machine

/-! The sequence of steps. -/

/-- A step begins: its number shows. -/
def bootEnter (phase : Nat) (s : State) : State :=
  (s.onDev (Dev.put pgCFG CFG.BOOT_STAT.PHASE phase)).onDev (Dev.modBoot fun b => { b with phase := phase })

/-- A step ends with its own number. -/
def bootLeave (phase : Nat) (s : State) : State := s.onDev (Dev.modBoot fun b => { b with phase := phase })

theorem bootThen_go (phase : Nat) (f : State → State × Bool) (s : State) :
    bootThen phase f (s, true) = (bootLeave phase (f (bootEnter phase s)).1, (f (bootEnter phase s)).2) := rfl

/-- A step that fails ends start-up. -/
theorem bootThen_stop (phase : Nat) (f : State → State × Bool) (s : State) : bootThen phase f (s, false) = (s, false) := rfl

/-- What power-good changes before the first step. -/
def powerStart (d : Dev) : Dev := publishSec ((if d.boot.up then d else powerUp d).modBoot fun b => { b with pgMot := d.tim.mot })

/-- Steps 4 to 12. -/
def bootLate (e : PowerGoodEnv) (r : State × Bool) : State :=
  let r := bootThen 4 bootKeys r
  let r := bootThen 5 bootFirmware r
  let r := bootThen 6 bootImpression r
  let r := bootThen 7 (bootSeal e) r
  let r := bootThen 8 bootForme r
  let r := bootThen 9 bootService r
  let r := bootThen 10 bootLoad r
  let r := bootThen 11 (bootSafety e) r
  (bootThen 12 bootStart r).1

theorem bootLate_stop (e : PowerGoodEnv) (s : State) : bootLate e (s, false) = s := rfl

theorem powerGood_first (e : PowerGoodEnv) (s : State) (h : s.dev.boot.phase = 0) : powerGood e s =
    bootLate e (bootThen 3 bootHeader (bootThen 2 (bootProof e) (bootThen 1 (bootPll e) (s.onDev powerStart, true)))) := by
  unfold powerGood
  rw [if_neg (not_not.mpr h)]
  rfl

theorem powerGood_again (e : PowerGoodEnv) (s : State) (h : s.dev.boot.phase ≠ 0) : powerGood e s = s := if_pos h

/-! Before the proof pass. -/

section
variable (f : BootX → BootX) (d : Dev)

@[simp] theorem modBoot_flt : (d.modBoot f).flt = d.flt := rfl
@[simp] theorem modBoot_otp : (d.modBoot f).otp = d.otp := rfl
@[simp] theorem modBoot_tim : (d.modBoot f).tim = d.tim := rfl

end

theorem publishSec_parts (d : Dev) : (publishSec d).flt = d.flt ∧ (publishSec d).otp = d.otp ∧ (publishSec d).tim = d.tim ∧
    (publishSec d).boot = d.boot := by
  unfold publishSec
  simp [Dev.putB]

theorem powerUp_parts (d : Dev) : (powerUp d).flt = d.flt ∧ (powerUp d).otp = d.otp ∧ (powerUp d).tim.bk = false ∧
    (powerUp d).boot.up = true := by
  cases h : d.keep.lost <;> simp [powerUp, Dev.iff_, h, Dev.putB]

theorem powerStart_parts (d : Dev) (hbk : d.tim.bk = false) : (powerStart d).flt = d.flt ∧ (powerStart d).otp = d.otp ∧
    (powerStart d).tim.bk = false ∧ (powerStart d).boot.up = true := by
  unfold powerStart
  obtain ⟨hf, ho, ht, hb⟩ := publishSec_parts ((if d.boot.up then d else powerUp d).modBoot fun b => { b with pgMot := d.tim.mot })
  rw [hf, ho, ht, hb]
  split
  next hup => exact ⟨rfl, rfl, hbk, hup⟩
  · exact powerUp_parts d

/-! Step 1. -/

theorem pllLoss_boot (d : Dev) : (pllLoss d).boot = d.boot := by
  unfold pllLoss
  split
  · rfl
  · simp [Dev.putB]

/-- The clock monitors run (R31). -/
def clocksSeen (khz : Nat) (d : Dev) : Dev :=
  ((d.putB pgCLK CLK.STAT.XIN_OK true).putB pgCLK CLK.STAT.PLT_OK true).put pgCLK CLK.PLTFREQ.KHZ khz

@[simp] theorem clocksSeen_parts (khz : Nat) (d : Dev) : (clocksSeen khz d).flt = d.flt ∧ (clocksSeen khz d).otp = d.otp ∧
    (clocksSeen khz d).tim = d.tim ∧ (clocksSeen khz d).boot = d.boot := by
  simp [clocksSeen, Dev.putB]

theorem bootPll_locked (e : PowerGoodEnv) (s : State) (h : e.pll = true) :
    bootPll e s = ((s.onDev (clocksSeen e.pltKhz.toNat)).onDev (Dev.putB pgCLK CLK.STAT.PLL_LOCK true), true) := if_pos h

theorem bootPll_unlocked (e : PowerGoodEnv) (s : State) (h : e.pll = false) :
    bootPll e s = (((s.onDev (clocksSeen e.pltKhz.toNat)).onDev pllLoss).onDev (Dev.modBoot fun b => { b with hold := true }), false) :=
  if_neg (by rw [h]; decide)

/-- The state with which the proof pass begins where the PLL has locked. -/
def bootLocked (khz : Nat) (s : State) : State :=
  bootLeave 1 (((bootEnter 1 (s.onDev powerStart)).onDev (clocksSeen khz)).onDev (Dev.putB pgCLK CLK.STAT.PLL_LOCK true))

theorem bootThen_pll_locked (e : PowerGoodEnv) (s : State) (h : e.pll = true) :
    bootThen 1 (bootPll e) (s.onDev powerStart, true) = (bootLocked e.pltKhz.toNat s, true) := by
  rw [bootThen_go, bootPll_locked _ _ h]
  rfl

theorem bootLocked_parts (khz : Nat) (s : State) (hbk : s.dev.tim.bk = false) :
    (bootLocked khz s).dev.flt = s.dev.flt ∧ (bootLocked khz s).dev.otp = s.dev.otp ∧ (bootLocked khz s).mem = s.mem ∧
    (bootLocked khz s).xs0 = s.xs0 := by
  obtain ⟨hf, ho, -, -⟩ := powerStart_parts s.dev hbk
  simp [bootLocked, bootLeave, bootEnter, Dev.putB, Dev.modBoot, hf, ho]

/-- Without lock step 1 stops start-up with the device halted for the loss (R29, R30). -/
theorem bootThen_pll_unlocked (s : State) (hbk : s.dev.tim.bk = false) (hh : s.dev.flt.halt = false) (hu : s.dev.boot.up = true) :
    ∃ d, bootThen 1 (bootPll { pll := false }) (s, true) = ({ s with dev := d }, false) ∧ d.boot.hold = true ∧ d.boot.phase = 1 ∧
      d.boot.up = true ∧ d.flt.haltCause = entryVal 3 pgCLK 0xFF Cz.CLK.PLLLOSS.code ∧ d.get pgCLK CLK.STAT.BKACT = 1 := by
  obtain ⟨d, hd⟩ : ∃ d, d = clocksSeen 16000 (bootEnter 1 s).dev := ⟨_, rfl⟩
  have hparts : d.flt.halt = false ∧ d.tim.bk = false ∧ d.boot.up = true := by simp [hd, bootEnter, hh, hbk, hu]
  obtain ⟨hd_halt, hd_bk, hd_up⟩ := hparts
  obtain ⟨-, hact, -, hhalt⟩ := pllLoss_spec d hd_bk
  refine ⟨((pllLoss d).modBoot fun b => { b with hold := true }).modBoot fun b => { b with phase := 1 }, ?_, rfl, rfl, ?_,
    (hhalt hd_halt).1, hact⟩
  · rw [bootThen_go, bootPll_unlocked _ _ rfl, hd]
    rfl
  · exact (congrArg BootX.up (pllLoss_boot d)).trans hd_up

/-! Step 2. -/

theorem proofFirst_none : proofFirst [] = none := by decide +kernel

/-- A step whose flags are not the expected ones is the first to fail. -/
theorem proofFirst_one (i : Fin 11) (f : ProofFlags) (h : f ≠ proofExpected i.val) : proofFirst [(i, f)] = some i.val := by
  have hbase : ∀ j : Fin 11, (proofWords.all fun w => proofFlags j.val w == proofExpected j.val) = true := by decide +kernel
  refine List.find?_range_eq_some.mpr ⟨?_, List.mem_range.mpr i.isLt, fun j hj => ?_⟩
  · simp [proofPasses, h]
  · have hb := hbase ⟨j, by omega⟩
    have hne : i.val ≠ j := by omega
    simp [proofPasses, hb, hne]

/-- The proof pass has been made: its sequencer is done and its duration known (R355). -/
def proofDone (d : Dev) : Dev := ((d.putB pgIMD IMD.PPASS.DONE true).put pgIMD IMD.PPASS_T.PPT (d.fresh 104)).drew

/-- The pass shows as passed. -/
def proofPassed (d : Dev) : Dev := publishLanes ((d.putB pgIMD IMD.PPASS.PASS true).put pgIMD IMD.PPASS.STEP 2047)

theorem bootProof_passed (e : PowerGoodEnv) (s : State) (h : proofFirst e.proofSeen = none) :
    bootProof e s = ((s.onDev proofDone).onDev proofPassed, true) := by
  unfold bootProof
  rw [h]
  rfl

/-- The core is held, with the steps before the failed one passed. -/
def proofHeld (i : Nat) (d : Dev) : Dev :=
  let d := d.put pgIMD IMD.PPASS.STEP (2 ^ i - 1)
  { d with imd := { d.imd with held := true }, svc := { d.svc with up0 := false, up1 := false } }

theorem bootProof_failed (e : PowerGoodEnv) (s : State) (i : Nat) (h : proofFirst e.proofSeen = some i) :
    bootProof e s = bootHold pgIMD Cz.IMD.PPASS i ((s.onDev proofDone).onDev (proofHeld i)) := by
  unfold bootProof
  rw [h]
  rfl

theorem proofHeld_flt (i : Nat) (d : Dev) : (proofHeld i d).flt = d.flt := by simp [proofHeld]
theorem proofDone_flt (d : Dev) : (proofDone d).flt = d.flt := by simp [proofDone, Dev.putB]

/-- A step that fails stops start-up with the device halted for it (R356). -/
theorem bootThen_proof_failed (s : State) (e : PowerGoodEnv) (i : Fin 11) (hf : proofFirst e.proofSeen = some i.val)
    (hh : s.dev.flt.halt = false) :
    ∃ d, bootThen 2 (bootProof e) (s, true) = ({ s with dev := d }, false) ∧ d.boot.hold = true ∧ d.boot.phase = 2 ∧
      d.flt.haltCause = entryVal 3 pgIMD i.val Cz.IMD.PPASS.code ∧ d.get pgIMD IMD.PPASS.STEP = 2 ^ i.val - 1 := by
  obtain ⟨d, hd⟩ : ∃ d, d = proofDone (bootEnter 2 s).dev := ⟨_, rfl⟩
  have hhalt : (proofHeld i.val d).flt.halt = false := by simp [proofHeld_flt, hd, proofDone_flt, bootEnter, hh]
  have hstep : ((proofHeld i.val d).raise pgIMD Cz.IMD.PPASS i.val).get pgIMD IMD.PPASS.STEP = 2 ^ i.val - 1 := by
    rw [Dev.get_raise_ne _ _ _ _ _ _ (by decide)]
    exact (Dev.get_put_same pgIMD IMD.PPASS.STEP (2 ^ i.val - 1) d).trans
      ((by decide : ∀ j : Fin 11, (2 ^ j.val - 1) % 2 ^ IMD.PPASS.STEP.w = 2 ^ j.val - 1) i)
  refine ⟨(((proofHeld i.val d).raise pgIMD Cz.IMD.PPASS i.val).modBoot fun b => { b with hold := true }).modBoot
    fun b => { b with phase := 2 }, ?_, rfl, rfl, (Dev.raise_halts pgIMD Cz.IMD.PPASS i.val _ rfl hhalt).1, hstep⟩
  rw [bootThen_go, bootProof_failed _ _ _ hf, bootHold, hd]
  simp only [bootLeave, bootEnter, State.onDev]

/-- The state with which step 3 begins where the proof pass has passed. -/
def bootProven (khz : Nat) (s : State) : State :=
  bootLeave 2 (((bootEnter 2 (bootLocked khz s)).onDev proofDone).onDev proofPassed)

theorem bootThen_proof_passed (e : PowerGoodEnv) (s : State) (h : e.pll = true) (hp : proofFirst e.proofSeen = none) :
    bootThen 2 (bootProof e) (bootThen 1 (bootPll e) (s.onDev powerStart, true)) = (bootProven e.pltKhz.toNat s, true) := by
  rw [bootThen_pll_locked _ _ h, bootThen_go, bootProof_passed _ _ hp]
  rfl

theorem publishLanes_keepsPass (d : Dev) : passBit (publishLanes d).act = passBit d.act ∧ (publishLanes d).boot = d.boot ∧
    (publishLanes d).otp = d.otp := by
  unfold publishLanes
  dsimp only
  rw [passBit_put _ _ _ _ rfl, passBit_put _ _ _ _ rfl, passBit_put _ _ _ _ rfl, passBit_put _ _ _ _ rfl]
  simp

theorem proofPassed_otp (d : Dev) : (proofPassed d).otp = d.otp := by
  unfold proofPassed
  rw [(publishLanes_keepsPass _).2.2]
  simp [Dev.putB]

theorem proofDone_otp (d : Dev) : (proofDone d).otp = d.otp := by simp [proofDone, Dev.putB]

theorem proofPassed_pass (d : Dev) : passBit (proofPassed d).act = 1 := by
  unfold proofPassed
  rw [(publishLanes_keepsPass _).1, passBit_put _ _ _ _ rfl]
  exact Dev.get_put_same ..

theorem bootProven_parts (khz : Nat) (s : State) (hbk : s.dev.tim.bk = false) : passBit (bootProven khz s).dev.act = 1 ∧
    (bootProven khz s).dev.otp = s.dev.otp ∧ (bootProven khz s).mem = s.mem ∧ (bootProven khz s).xs0 = s.xs0 := by
  obtain ⟨-, ho, hm, hx⟩ := bootLocked_parts khz s hbk
  simp [bootProven, bootLeave, bootEnter, proofPassed_pass, proofPassed_otp, proofDone_otp, ho, hm, hx]

/-! Step 3. -/

/-- A RETIRED part erases its Neltan keys and starts nothing (R542). -/
def retirePart (d : Dev) : Dev := haltOrders (publishSec
  { d with otp := { d.otp with keys := [none, none, none, none] }, boot := { d.boot with hold := true }, flt := { d.flt with halt := true } })

/-- A report leaves the one-time memory. -/
theorem keepsOtp (c : Otp) : ReportKeeps fun d => d.otp = c :=
  keepsPart Dev.otp c (by intros; rfl) (by intros; rfl) (by intros; rfl) (by intros; rfl) (by intros; rfl) (by intros; rfl)
    (by intros; rfl) (by intros; rfl) (by intros; rfl) (by intros; rfl)

theorem haltOrders_otp (d : Dev) : (haltOrders d).otp = d.otp := (keepsOtp d.otp).orders d rfl
theorem haltOrders_boot (d : Dev) : (haltOrders d).boot = d.boot := (keepsBoot d.boot).orders d rfl

theorem retirePart_spec (d : Dev) : (retirePart d).boot.hold = true ∧ (retirePart d).otp.keys = [none, none, none, none] ∧
    (retirePart d).safeHalted = true := by
  unfold retirePart
  rw [haltOrders_boot, haltOrders_otp]
  obtain ⟨hf, ho, -, hb⟩ := publishSec_parts
    { d with otp := { d.otp with keys := [none, none, none, none] }, boot := { d.boot with hold := true }, flt := { d.flt with halt := true } }
  rw [ho, hb]
  exact ⟨rfl, rfl, haltOrders_safeHalted _ (by rw [hf])⟩

theorem bootHeader_retired (s : State) (h : s.dev.otp.lc = 3) : bootHeader s = (s.onDev retirePart, false) := if_pos h

theorem bootHeader_blank (s : State) (h : s.dev.otp.lc ≠ 3) (hb : hdrBlank s = true) :
    bootHeader s = (s.onDev (Dev.modBoot fun b => { b with factory := true }), true) := by
  unfold bootHeader
  rw [if_neg h, if_pos hb]

theorem bootThen_retired (s : State) (h : s.dev.otp.lc = 3) :
    ∃ d, bootThen 3 bootHeader (s, true) = ({ s with dev := d }, false) ∧ d.boot.hold = true ∧ d.boot.phase = 3 ∧
      d.safeHalted = true ∧ d.otp.keys = [none, none, none, none] := by
  have hl : (bootEnter 3 s).dev.otp.lc = 3 := by simpa [bootEnter] using h
  obtain ⟨hhold, hkeys, hsafe⟩ := retirePart_spec (bootEnter 3 s).dev
  refine ⟨(retirePart (bootEnter 3 s).dev).modBoot fun b => { b with phase := 3 }, ?_, hhold, rfl, hsafe, hkeys⟩
  rw [bootThen_go, bootHeader_retired _ hl]
  simp only [bootLeave, bootEnter, State.onDev]

end Sys2Proof.Machine
end

section
/-! PROOFS. Start-up with blank headers (R546, R552) and READY (R550). -/

namespace Sys2Proof.Machine

/-! With the factory set every step to the safety functions passes. -/

/-- The proof pass shows as passed and start-up uses the factory set. -/
structure Proven (s : State) : Prop where
  pass : passBit s.dev.act = 1
  factory : s.dev.boot.factory = true

/-- A change that leaves both as they are keeps the state proven. -/
theorem Proven.of_kept {s t : State} (h : Proven s)
    (hk : passBit t.dev.act = passBit s.dev.act ∧ t.dev.boot.factory = s.dev.boot.factory) : Proven t :=
  ⟨hk.1.trans h.pass, hk.2.trans h.factory⟩

theorem Proven.enter {s : State} (h : Proven s) (phase : Nat) : Proven (bootEnter phase s) :=
  h.of_kept ⟨passBit_put _ _ _ _ rfl, rfl⟩

theorem Proven.leave {s : State} (h : Proven s) (phase : Nat) : Proven (bootLeave phase s) := h.of_kept ⟨rfl, rfl⟩

/-- A step passes wherever the factory set is in use. -/
def Passes (f : State → State × Bool) : Prop := ∀ s, Proven s → Proven (f s).1 ∧ (f s).2 = true

theorem Passes.bootThen {f : State → State × Bool} (hf : Passes f) (phase : Nat) {s : State} (h : Proven s) :
    ∃ t, bootThen phase f (s, true) = (t, true) ∧ Proven t := by
  obtain ⟨hp, hgo⟩ := hf _ (h.enter phase)
  exact ⟨_, by rw [bootThen_go, hgo], hp.leave phase⟩

theorem bootKeys_passes : Passes bootKeys := fun s h => by
  unfold bootKeys
  rw [if_pos h.factory]
  exact ⟨h, rfl⟩

theorem bootFirmware_passes : Passes bootFirmware := fun s h => by
  unfold bootFirmware
  rw [if_pos h.factory]
  exact ⟨h, rfl⟩

theorem bootImpression_passes : Passes bootImpression := fun s h => by
  unfold bootImpression
  rw [if_pos h.factory]
  exact ⟨h, rfl⟩

/-- Switches that close on their own strobe alone fail in neither strobe (R321). -/
theorem scanBad_strobed (v : W16) : scanBad v.toNat (v &&& 0x5555).toNat (v &&& 0xAAAA).toNat (0 : W16).toNat = 0 := by
  have hbits : ((v ^^^ (v &&& 0x5555)) &&& 0x5555) ||| ((v ^^^ (v &&& 0xAAAA)) &&& 0xAAAA) ||| ((v &&& 0x5555) &&& 0xAAAA) |||
      ((v &&& 0xAAAA) &&& 0x5555) = 0 := by
    ext i hi
    have hmask : ((0x5555 : W16)[i] && (0xAAAA : W16)[i]) = false := by
      revert i
      decide
    simp only [BitVec.getElem_or, BitVec.getElem_and, BitVec.getElem_xor, BitVec.ofNat_eq_ofNat, BitVec.getElem_zero] at hmask ⊢
    revert hmask
    cases v[i] <;> cases (0x5555#16)[i] <;> cases (0xAAAA#16)[i] <;> simp
  have hnat := congrArg BitVec.toNat hbits
  simp only [BitVec.toNat_or, BitVec.toNat_and, BitVec.toNat_xor] at hnat
  unfold scanBad
  rw [show (0 : W16).toNat % 65536 = 0 from rfl, Nat.or_zero, BitVec.toNat_and, BitVec.toNat_and]
  exact hnat

theorem sealLoad_keepsPass (v nib : Nat) (d : Dev) :
    passBit (sealLoad v nib d).act = passBit d.act ∧ (sealLoad v nib d).boot = d.boot := by
  simp +decide [sealLoad]

/-- The seal word of the factory set: nibble and position 0, and bit 11 clear (R552). -/
def sealEnv (v : W16) : PowerGoodEnv :=
  { scan1 := ⟨v, v &&& 0x5555, v &&& 0xAAAA, 0⟩, scan2 := ⟨v, v &&& 0x5555, v &&& 0xAAAA, 0⟩ }

theorem bootSeal_passes (v : W16) (hv : v.toNat % 16 = 0 ∧ v.toNat / 4096 = 0 ∧ bit v.toNat 11 = false) :
    Passes (bootSeal (sealEnv v)) := fun s h => by
  have hbad : fourBad (sealEnv v).scan1 ||| fourBad (sealEnv v).scan2 = 0 := by
    have hscan : fourBad (sealEnv v).scan1 = 0 := scanBad_strobed v
    rw [show (sealEnv v).scan2 = (sealEnv v).scan1 from rfl, hscan]
    rfl
  obtain ⟨s', hs'⟩ : ∃ s', s' = s.onDev (sealLoad v.toNat ((bootImp s.dev).nibble % 16)) := ⟨_, rfl⟩
  have hp : Proven s' := by
    obtain ⟨hpass, hboot⟩ := sealLoad_keepsPass v.toNat ((bootImp s.dev).nibble % 16) s.dev
    exact h.of_kept (by rw [hs', State.onDev_dev, hboot]; exact ⟨hpass, rfl⟩)
  have hgo : bootSeal (sealEnv v) s = (s'.onDev (Dev.putB pgSEAL SEAL.PROFILE.VALID true), true) := by
    have hfactory : (s.onDev (sealLoad v.toNat ((bootImp s.dev).nibble % 16))).dev.boot.factory = true := hs' ▸ hp.factory
    unfold bootSeal
    dsimp only
    rw [if_neg (by rw [hbad]; simp [sealEnv]), show (sealEnv v).scan1.both = v from rfl, if_pos hfactory,
      if_pos ⟨hv.1, hv.2.1, by rw [hv.2.2]; rfl⟩, hs']
  rw [hgo]
  exact ⟨hp.of_kept ⟨passBit_putB _ _ _ _ rfl, rfl⟩, rfl⟩

theorem bootForme_passes : Passes bootForme := fun s h => by
  unfold bootForme
  rw [if_pos h.factory]
  refine ⟨h.of_kept ?_, rfl⟩
  simp [formeCopy]

theorem bootService_passes : Passes bootService := fun s h => by
  refine ⟨h.of_kept ?_, rfl⟩
  simp +decide [bootService]

theorem Proven.recStart {s : State} (h : Proven s) : Proven (recStart s) := by
  refine h.of_kept ?_
  unfold Machine.recStart
  dsimp only
  rw [State.onDev_dev, modRec_act, modRec_boot]
  exact ⟨rfl, rfl⟩

/-- One row of a record's kerning tables. -/
def kernRow (pg : Nat) (w : Nat → Nat → Nat) (i : Nat) (d : Dev) : Dev :=
  let d := (d.put pg (OBS.KTO.FRIC.at i) (w i 0)).put pg (OBS.KTO.VAR.at i) (w i 1)
  let d := (d.put pg (OBS.KTC.FRIC.at i) (w (256 + i) 0)).put pg (OBS.KTC.VAR.at i) (w (256 + i) 1)
  (d.put pg (OBS.KTB.BASEO.at i) (w (512 + i) 0)).put pg (OBS.KTB.BASEC.at i) (w (512 + i) 1)

/-- A record's version, stroke and reference. -/
def kernHead (n v stroke ref : Nat) (d : Dev) : Dev :=
  let pg := pgOBS n
  let d := (d.put pg OBS.KTVER.VER v).put pg OBS.STROKE.STROKE stroke
  let d := d.modRec fun r => { r with savedVer := modNth (fun _ => some v) r.savedVer n }
  if d.get (pgPOS n) POS.POS_CFG.PSRC = 2 ∧ d.on (pgPOS n) POS.POS_CFG.SSIREFV then d.put2 (pgPOS n) POS.SSIREF.SSIREF ref else d

theorem kernLoad_eq (s : State) : kernLoad s = s.onDev fun d => (d.modRec fun r => { r with kernNext := kernStart s }).each d.leaves fun n d =>
    match kernFind s n with
    | none => d
    | some (a, v) => kernHead n v (xs0W s (a + 8) 4) (xs0W s (a + 12) 4) (d.each (List.range 256)
        (kernRow (pgOBS n) fun i k => xs0W s (a + 16 + 4 * i + 2 * k) 2)) := rfl

theorem kernRow_keepsPass (pg : Nat) (w : Nat → Nat → Nat) (i : Nat) (d : Dev) :
    passBit (kernRow pg w i d).act = passBit d.act ∧ (kernRow pg w i d).boot = d.boot := by
  simp +decide [kernRow]

theorem kernHead_keepsPass (n v stroke ref : Nat) (d : Dev) :
    passBit (kernHead n v stroke ref d).act = passBit d.act ∧ (kernHead n v stroke ref d).boot = d.boot := by
  unfold kernHead
  dsimp only
  split <;> simp +decide

theorem kernLoad_keepsPass (s : State) :
    passBit (kernLoad s).dev.act = passBit s.dev.act ∧ (kernLoad s).dev.boot.factory = s.dev.boot.factory := by
  rw [kernLoad_eq, State.onDev_dev]
  refine each_keepsPass_after (fun n d => ?_) ⟨by rw [modRec_act], by rw [modRec_boot]⟩
  rcases kernFind s n with _ | ⟨a, v⟩
  · exact ⟨rfl, rfl⟩
  · obtain ⟨hpass, hboot⟩ := kernHead_keepsPass n v (xs0W s (a + 8) 4) (xs0W s (a + 12) 4) (d.each (List.range 256)
      (kernRow (pgOBS n) fun i k => xs0W s (a + 16 + 4 * i + 2 * k) 2))
    obtain ⟨hrows, hfactory⟩ := each_keepsPass_all (List.range 256) (kernRow (pgOBS n) fun i k => xs0W s (a + 16 + 4 * i + 2 * k) 2) d
      fun i c => ⟨(kernRow_keepsPass _ _ i c).1, congrArg BootX.factory (kernRow_keepsPass _ _ i c).2⟩
    exact ⟨hpass.trans hrows, (congrArg BootX.factory hboot).trans hfactory⟩

theorem Proven.kernLoad {s : State} (h : Proven s) : Proven (kernLoad s) := h.of_kept (kernLoad_keepsPass s)

theorem bootLoad_passes : Passes bootLoad := fun s h => by
  have hload : Proven (s.onDev fun d => if d.boot.factory then (loadFactory d).putB pgCFG CFG.BOOT_STAT.FACTORY true
      else loadImpression (bootImp s.dev) d) := by
    refine h.of_kept ?_
    rw [State.onDev_dev, if_pos h.factory]
    simp +decide
  have hdecl := hload.of_kept (t := State.onDev (Dev.modBoot fun b => { b with decl := none }) _) ⟨rfl, rfl⟩
  exact ⟨hdecl.kernLoad.recStart, rfl⟩

/-! The safety functions and the forme start. -/

theorem Proven.hold {s : State} (h : Proven s) (pg : Nat) (c : Cause) (inst : Nat) : Proven (bootHold pg c inst s).1 :=
  h.of_kept (by simp [bootHold])

theorem bootHold_holds (pg : Nat) (c : Cause) (inst : Nat) (s : State) : (bootHold pg c inst s).1.dev.boot.hold = true := rfl

/-- The bring-up of the two-channel functions passes, or holds start-up. -/
theorem bootSafety_proven (e : PowerGoodEnv) (s : State) (h : Proven s) :
    Proven (bootSafety e s).1 ∧ ((bootSafety e s).2 = false → (bootSafety e s).1.dev.boot.hold = true) := by
  have hconfig : ∀ (r : PRec) (l : List Nat), Proven (s.onDev fun d => (restartPlaten (loadSafePage r { d with sx := { d.sx with rec? := some r } })).each
      (List.range 8) fun i d => pFrameConfig i ((l.drop (8 * i)).take 8) d) := fun r l => h.of_kept (by simp)
  have hup : ∀ (t : State), Proven t → Proven (t.onDev fun d => bringUp e.mirBad.toNat
      { d with sx := { d.sx with si := procSi d, tli := procTli d, mir := procMir d }, sy := { d.sy with cfg8 := none } }) :=
    fun t ht => ht.of_kept (by simp)
  have hrun : ∀ (t : State), Proven t → Proven (t.onDev pFrameRun) := fun t ht => ht.of_kept (by simp)
  unfold bootSafety
  dsimp only
  split
  · exact ⟨(hconfig _ _).hold .., fun _ => bootHold_holds ..⟩
  · split
    · exact ⟨(hup _ (hconfig _ _)).hold .., fun _ => bootHold_holds ..⟩
    · exact ⟨hrun _ (hup _ (hconfig _ _)), fun hf => by cases hf⟩

theorem publishHdr_keepsPass (s : State) :
    passBit (publishHdr s).dev.act = passBit s.dev.act ∧ (publishHdr s).dev.boot.factory = s.dev.boot.factory := by
  unfold publishHdr
  generalize formeHdr s s.dev.forme.half = f
  simp +decide [publishForme]
/-- The first half of the forme is the one in execution. -/
def formeFirst (factory : Bool) (d : Dev) : Dev :=
  { d with forme := { d.forme with st := 1, half := 0, region := 0, factory := factory } }

/-- The motion engines are enabled, or the forme's entry begins, unless the forme does not fit. -/
def formeEntry (entry : Nat) (ok : Bool) (t u : State) : State × Bool :=
  if !ok then bootHold pgFRM Cz.FRM.BADFORME 0xFF t
  else
    (if entry = 0xFFFF then u.onDev fun d => { d with tim := { d.tim with enabled := true } } else startTask .init entry u, true)

theorem bootStart_eq (s : State) : bootStart s = formeEntry (formeHdr (pagesStart s) 0).entInit (formeOk (pagesStart s) 0 true) (pagesStart s)
    (publishHdr ((fillRegion 0 0 (pagesStart s)).onDev (formeFirst (bit (formeHdr (pagesStart s) 0).flags 0)))) := rfl

theorem formeFirst_keepsPass (b : Bool) (d : Dev) : passBit (formeFirst b d).act = passBit d.act ∧
    (formeFirst b d).boot.factory = d.boot.factory := ⟨rfl, rfl⟩

theorem fillRegion_keepsPass (h r : Nat) (s : State) : passBit (fillRegion h r s).dev.act = passBit s.dev.act ∧
    (fillRegion h r s).dev.boot.factory = s.dev.boot.factory := by
  rw [fillRegion_dev]
  exact ⟨rfl, rfl⟩

theorem enableMotion_keepsPass (s : State) :
    passBit (s.onDev fun d => { d with tim := { d.tim with enabled := true } }).dev.act = passBit s.dev.act ∧
    (s.onDev fun d => { d with tim := { d.tim with enabled := true } }).dev.boot.factory = s.dev.boot.factory := ⟨rfl, rfl⟩

theorem formeStart_proven (b : Bool) (t : State) (h : Proven t) :
    Proven (publishHdr ((fillRegion 0 0 t).onDev (formeFirst b))) :=
  Proven.of_kept (Proven.of_kept (Proven.of_kept h (fillRegion_keepsPass 0 0 t)) (formeFirst_keepsPass b _)) (publishHdr_keepsPass _)

theorem formeEntry_proven (entry : Nat) (ok : Bool) (t u : State) (ht : Proven t) (hu : Proven u) :
    Proven (formeEntry entry ok t u).1 := by
  unfold formeEntry
  split
  · exact ht.hold ..
  · dsimp only
    split
    · exact hu.of_kept (enableMotion_keepsPass u)
    · exact hu.of_kept (startTask_keepsPass ..)

theorem bootStart_proven (s : State) (h : Proven s) : Proven (bootStart s).1 := by
  have hpages : Proven (pagesStart s) := h.of_kept (pagesStart_keepsPass s)
  rw [bootStart_eq]
  exact formeEntry_proven _ _ _ _ hpages (formeStart_proven _ _ hpages)

theorem bootEnter_keeps (phase : Nat) (s : State) : passBit (bootEnter phase s).dev.act = passBit s.dev.act ∧
    (bootEnter phase s).dev.otp = s.dev.otp := by
  simp +decide [bootEnter]

theorem bootThen_blank (s : State) (h : passBit s.dev.act = 1) (hl : s.dev.otp.lc ≠ 3) (hb : hdrBlank s = true) :
    ∃ t, bootThen 3 bootHeader (s, true) = (t, true) ∧ Proven t := by
  obtain ⟨hpass, hotp⟩ := bootEnter_keeps 3 s
  have hl' : (bootEnter 3 s).dev.otp.lc ≠ 3 := by rw [hotp]; exact hl
  have hb' : hdrBlank (bootEnter 3 s) = true := hb
  have hset : Proven ((bootEnter 3 s).onDev (Dev.modBoot fun b => { b with factory := true })) := ⟨hpass.trans h, rfl⟩
  exact ⟨_, by rw [bootThen_go, bootHeader_blank _ hl' hb'], hset.leave 3⟩

theorem bootLeave_phase (phase : Nat) (s : State) : (bootLeave phase s).dev.boot.phase = phase := rfl
theorem bootLeave_hold (phase : Nat) (s : State) : (bootLeave phase s).dev.boot.hold = s.dev.boot.hold := rfl

/-- From the factory set on start-up comes to the forme, or holds with the safety functions. -/
theorem bootLate_factory (v : W16) (hv : v.toNat % 16 = 0 ∧ v.toNat / 4096 = 0 ∧ bit v.toNat 11 = false) (s : State) (h : Proven s) :
    ∃ t, bootLate (sealEnv v) (s, true) = t ∧ Proven t ∧
      (t.dev.boot.phase = 11 ∧ t.dev.boot.hold = true ∨ t.dev.boot.phase = 12) := by
  obtain ⟨s4, h4, p4⟩ := bootKeys_passes.bootThen 4 h
  obtain ⟨s5, h5, p5⟩ := bootFirmware_passes.bootThen 5 p4
  obtain ⟨s6, h6, p6⟩ := bootImpression_passes.bootThen 6 p5
  obtain ⟨s7, h7, p7⟩ := (bootSeal_passes v hv).bootThen 7 p6
  obtain ⟨s8, h8, p8⟩ := bootForme_passes.bootThen 8 p7
  obtain ⟨s9, h9, p9⟩ := bootService_passes.bootThen 9 p8
  obtain ⟨s10, h10, p10⟩ := bootLoad_passes.bootThen 10 p9
  have hsafe := bootSafety_proven (sealEnv v) _ (p10.enter 11)
  have h11 : bootThen 11 (bootSafety (sealEnv v)) (s10, true) = _ := bootThen_go ..
  obtain ⟨⟨s11, go⟩, hs⟩ : ∃ r, bootSafety (sealEnv v) (bootEnter 11 s10) = r := ⟨_, rfl⟩
  rw [hs] at hsafe h11
  obtain ⟨p11, hhold⟩ := hsafe
  have hlate : bootLate (sealEnv v) (s, true) = (bootThen 12 bootStart (bootLeave 11 s11, go)).1 := by
    unfold bootLate
    dsimp only
    rw [h4, h5, h6, h7, h8, h9, h10, h11]
  rw [hlate]
  cases go with
  | false =>
    rw [bootThen_stop]
    exact ⟨_, rfl, p11.leave 11, .inl ⟨bootLeave_phase .., (bootLeave_hold ..).trans (hhold rfl)⟩⟩
  | true =>
    have p12 := bootStart_proven _ ((p11.leave 11).enter 12)
    rw [bootThen_go]
    generalize bootStart (bootEnter 12 (bootLeave 11 s11)) = r at p12 ⊢
    exact ⟨_, rfl, p12.leave 12, .inr (bootLeave_phase ..)⟩

end Sys2Proof.Machine
end

section
/-! PROOFS. READY (R550), and start-up's obligation. -/

namespace Sys2Proof.Machine

/-- The values of the security and service pages leave every other page. -/
theorem publishSec_get_cfg (f : Fld) (hoff : f.off / 4 < 1024) (hlo : f.lo < 32) (d : Dev) :
    (publishSec d).get pgCFG f = d.get pgCFG f := by
  have hne : ∀ q g, (q = pgSEC ∨ q = pgSVC) → g.off / 4 < 1024 → g.lo < 32 → f.key pgCFG ≠ Fld.key g q := by
    intro q g hq hg hl
    have hpages : pgCFG = 7 ∧ pgSEC = 8 ∧ pgSVC = 4 := ⟨rfl, rfl, rfl⟩
    unfold Fld.key
    omega
  unfold publishSec
  simp (disch := apply hne <;> decide) [Dev.putB, Dev.get_put_ne]

/-- A report leaves the Imdel complex. -/
theorem keepsImd (c : ImdX) : ReportKeeps fun d => d.imd = c :=
  keepsPart Dev.imd c (by intros; rfl) (by intros; rfl) (by intros; rfl) (by intros; rfl) (by intros; rfl) (by intros; rfl)
    (by intros; rfl) (by intros; rfl) (by intros; rfl) (by intros; rfl)

theorem Dev.imd_raise (pg : Nat) (c : Cause) (inst : Nat) (d : Dev) : (d.raise pg c inst).imd = d.imd :=
  (keepsImd d.imd).raise pg c inst d rfl

theorem Dev.otp_raise (pg : Nat) (c : Cause) (inst : Nat) (d : Dev) : (d.raise pg c inst).otp = d.otp :=
  (keepsOtp d.otp).raise pg c inst d rfl

theorem publishSec_imd (d : Dev) : (publishSec d).imd = d.imd := by
  unfold publishSec
  simp [Dev.putB]

/-- The burn of the life cycle takes it no step back (R542), and touches neither start-up's state nor the proof timetable. -/
theorem lifeBurn_keeps (d : Dev) : (lifeBurn d).boot = d.boot ∧ (lifeBurn d).imd = d.imd ∧ d.otp.lc ≤ (lifeBurn d).otp.lc := by
  unfold lifeBurn
  dsimp only
  split
  · exact ⟨rfl, rfl, le_rfl⟩
  · rename_i hlc
    split
    · exact ⟨Dev.boot_raise .., Dev.imd_raise .., (Dev.otp_raise ..).symm ▸ le_rfl⟩
    · obtain ⟨-, hotp, -, hboot⟩ := publishSec_parts
        (({ d with otp := { d.otp with lc := d.boot.polTarget, integ := if d.otp.lc ≤ 1 ∧ d.otp.integ.isNone then some d.boot.polInteg
          else d.otp.integ } }).ev pgSEC Ev.SEC.LCCHG)
      rw [hotp, hboot, publishSec_imd]
      exact ⟨rfl, rfl, by show d.otp.lc ≤ d.boot.polTarget; omega⟩

/-- A register of the configuration page reads the same after the burn. -/
theorem lifeBurn_get (f : Fld) (hrep : f.key pgCFG ∉ reportKeys) (hev : f.key pgCFG ≠ HDR.EV_STAT.key pgSEC) (hoff : f.off / 4 < 1024)
    (hlo : f.lo < 32) (d : Dev) : (lifeBurn d).get pgCFG f = d.get pgCFG f := by
  unfold lifeBurn
  dsimp only
  split
  · rfl
  · split
    · exact Dev.get_raise_ne _ _ _ _ _ _ hrep
    · rw [publishSec_get_cfg f hoff hlo, Dev.get_ev_ne _ _ _ _ _ hev]
      rfl

theorem lifeBurn_raised (n : Nat) (d : Dev) (h : d.raised pgCFG n = true) : (lifeBurn d).raised pgCFG n = true := by
  unfold Dev.raised
  rw [lifeBurn_get HDR.EV_STAT (by decide) (by decide) (by decide) (by decide)]
  exact h

/-- What READY shows (R550). -/
def readyShown (d : Dev) : Dev :=
  let ms := (d.tim.mot - d.boot.pgMot) / 250000
  let d := d.modBoot fun b => { b with ready := true, phase := 13 }
  let d := ((d.putB pgCFG CFG.BOOT_STAT.READY true).put pgCFG CFG.BOOT_STAT.PHASE 13).put pgCFG CFG.BOOT_T.READYT (min ms 65535)
  { d with imd := { d.imd with started := true, startAt := d.tim.mot } }.ev pgCFG Ev.CFG.READY

theorem ready_takes (d : Dev) (hphase : d.boot.phase = 12) (hready : d.boot.ready = false) (hhold : d.boot.hold = false)
    (hhalt : d.flt.halt = false) (hended : (d.task .main).st = .ended ∨ d.forme.everOut = true)
    (hpages : ∀ pg ∈ allPages, ¬ (d.enabled pg = true ∧ d.pgState pg = 1)) : ready d = lifeBurn (readyShown d) := by
  have hstill : (allPages.any fun pg => d.enabled pg && d.pgState pg == 1) = false := by
    rw [List.any_eq_false]
    exact fun pg hpg => by simpa using hpages pg hpg
  have hend : ((d.task .main).st == .ended || d.forme.everOut) = true := by simpa using hended
  unfold ready
  dsimp only
  rw [if_pos ⟨hphase, by rw [hready]; rfl, by rw [hhold]; rfl, by rw [hhalt]; rfl, hend, by rw [hstill]; rfl⟩]
  rfl

theorem readyShown_shows (d : Dev) : (readyShown d).get pgCFG CFG.BOOT_STAT.READY = 1 ∧ (readyShown d).get pgCFG CFG.BOOT_STAT.PHASE = 13 ∧
    (readyShown d).get pgCFG CFG.BOOT_T.READYT = min ((d.tim.mot - d.boot.pgMot) / 250000) 65535 ∧
    (readyShown d).raised pgCFG Ev.CFG.READY = true := by
  unfold readyShown
  dsimp only
  refine ⟨?_, ?_, ?_, Dev.raised_ev_same _ _ _ (by decide)⟩
  · rw [Dev.get_ev_ne _ _ _ _ _ (by decide)]
    exact (Dev.get_put_ne _ _ _ _ _ _ (by decide)).trans ((Dev.get_put_ne _ _ _ _ _ _ (by decide)).trans (Dev.get_put_same ..))
  · rw [Dev.get_ev_ne _ _ _ _ _ (by decide)]
    exact (Dev.get_put_ne _ _ _ _ _ _ (by decide)).trans (Dev.get_put_same ..)
  · rw [Dev.get_ev_ne _ _ _ _ _ (by decide)]
    refine (Dev.get_put_same ..).trans ?_
    have hw : CFG.BOOT_T.READYT.w = 16 := rfl
    rw [hw]
    omega

/-- READY shows the device ready and begins the proof timetable (R550). -/
theorem ready_spec (d : Dev) (h : ready d = lifeBurn (readyShown d)) : (ready d).boot.ready = true ∧
    (ready d).get pgCFG CFG.BOOT_STAT.READY = 1 ∧ (ready d).get pgCFG CFG.BOOT_STAT.PHASE = 13 ∧
    (ready d).get pgCFG CFG.BOOT_T.READYT = min ((d.tim.mot - d.boot.pgMot) / 250000) 65535 ∧
    (ready d).raised pgCFG Ev.CFG.READY = true ∧ (ready d).imd.started = true ∧ (ready d).imd.startAt = d.tim.mot ∧
    d.otp.lc ≤ (ready d).otp.lc := by
  obtain ⟨hshow, hphase, htime, hev⟩ := readyShown_shows d
  obtain ⟨hboot, himd, hlc⟩ := lifeBurn_keeps (readyShown d)
  rw [h, hboot, himd, lifeBurn_get _ (by decide) (by decide) (by decide) (by decide),
    lifeBurn_get _ (by decide) (by decide) (by decide) (by decide), lifeBurn_get _ (by decide) (by decide) (by decide) (by decide)]
  exact ⟨rfl, hshow, hphase, htime, lifeBurn_raised _ _ hev, rfl, rfl, hlc⟩

/-! The obligation. -/

/-- Start-up ends where step 1 finds no lock (R29). -/
theorem powerGood_unlocked (s : State) (hphase : s.dev.boot.phase = 0) (hbk : s.dev.tim.bk = false) (hhalt : s.dev.flt.halt = false) :
    ∃ t, exec (.powerGood { pll := false }) s = .next t ∧ t.dev.boot.hold = true ∧ t.dev.boot.phase = 1 ∧ t.dev.boot.up = true ∧
      t.dev.flt.haltCause = entryVal 3 pgCLK 0xFF Cz.CLK.PLLLOSS.code ∧ t.dev.get pgCLK CLK.STAT.BKACT = 1 ∧ t.mem = s.mem := by
  obtain ⟨hflt, -, hback, hup⟩ := powerStart_parts s.dev hbk
  obtain ⟨d, hstep, hhold, hend, hon, hcause, hact⟩ :=
    bootThen_pll_unlocked (s.onDev powerStart) hback ((congrArg FltX.halt hflt).trans hhalt) hup
  refine ⟨{ s.onDev powerStart with dev := d }, ?_, hhold, hend, hon, hcause, hact, rfl⟩
  show Host.Outcome.next (powerGood { pll := false } s) = _
  rw [powerGood_first _ _ hphase, hstep, bootThen_stop, bootThen_stop, bootLate_stop]

/-- Start-up ends where a step of the proof pass fails (R355). -/
theorem powerGood_unproven (s : State) (i : Fin 11) (f : ProofFlags) (hphase : s.dev.boot.phase = 0) (hbk : s.dev.tim.bk = false)
    (hhalt : s.dev.flt.halt = false) (hf : f ≠ proofExpected i.val) :
    ∃ t, exec (.powerGood { proofSeen := [(i, f)] }) s = .next t ∧ t.dev.boot.hold = true ∧ t.dev.boot.phase = 2 ∧
      t.dev.flt.haltCause = entryVal 3 pgIMD i.val Cz.IMD.PPASS.code ∧ t.dev.get pgIMD IMD.PPASS.STEP = 2 ^ i.val - 1 ∧
      t.mem = s.mem := by
  obtain ⟨hflt, -, hmem, -⟩ := bootLocked_parts 16000 s hbk
  obtain ⟨d, hstep, hhold, hend, hcause, hpassed⟩ := bootThen_proof_failed (bootLocked 16000 s) { proofSeen := [(i, f)] } i
    (proofFirst_one i f hf) ((congrArg FltX.halt hflt).trans hhalt)
  refine ⟨{ bootLocked 16000 s with dev := d }, ?_, hhold, hend, hcause, hpassed, hmem⟩
  show Host.Outcome.next (powerGood { proofSeen := [(i, f)] } s) = _
  rw [powerGood_first _ _ hphase, bootThen_pll_locked _ _ rfl]
  rw [show (({ proofSeen := [(i, f)] } : PowerGoodEnv).pltKhz.toNat) = 16000 from rfl, hstep, bootThen_stop, bootLate_stop]

/-- A RETIRED part ends start-up in step 3 (R542). -/
theorem powerGood_retired (s : State) (hphase : s.dev.boot.phase = 0) (hbk : s.dev.tim.bk = false) (hlc : s.dev.otp.lc = 3) :
    ∃ t, exec (.powerGood {}) s = .next t ∧ t.dev.boot.hold = true ∧ t.dev.boot.phase = 3 ∧ t.dev.safeHalted = true ∧
      t.dev.otp.keys = [none, none, none, none] ∧ t.mem = s.mem := by
  obtain ⟨-, hotp, hmem, -⟩ := bootProven_parts 16000 s hbk
  obtain ⟨d, hstep, hhold, hend, hsafe, hkeys⟩ := bootThen_retired (bootProven 16000 s) ((congrArg Otp.lc hotp).trans hlc)
  refine ⟨{ bootProven 16000 s with dev := d }, ?_, hhold, hend, hsafe, hkeys, hmem⟩
  show Host.Outcome.next (powerGood {} s) = _
  rw [powerGood_first _ _ hphase, bootThen_proof_passed _ _ rfl proofFirst_none]
  rw [show (({} : PowerGoodEnv).pltKhz.toNat) = 16000 from rfl, hstep, bootLate_stop]

/-- From blank headers start-up comes to the forme with the factory set, or holds with the safety functions (R546, R552). -/
theorem powerGood_blank (s : State) (v : W16) (hphase : s.dev.boot.phase = 0) (hbk : s.dev.tim.bk = false) (hlc : s.dev.otp.lc ≠ 3)
    (hblank : hdrBlank s = true) (hv : v.toNat % 16 = 0 ∧ v.toNat / 4096 = 0 ∧ bit v.toNat 11 = false) :
    ∃ t, exec (.powerGood (sealEnv v)) s = .next t ∧ t.dev.get pgIMD IMD.PPASS.PASS = 1 ∧ t.dev.boot.factory = true ∧
      (t.dev.boot.phase = 11 ∧ t.dev.boot.hold = true ∨ t.dev.boot.phase = 12) := by
  obtain ⟨hpass, hotp, -, hxs⟩ := bootProven_parts 16000 s hbk
  have hblank' : hdrBlank (bootProven 16000 s) = true := by
    unfold hdrBlank
    rw [hxs]
    exact hblank
  obtain ⟨s3, h3, p3⟩ := bootThen_blank (bootProven 16000 s) hpass (fun h => hlc ((congrArg Otp.lc hotp).symm.trans h)) hblank'
  obtain ⟨t, ht, pt, hend⟩ := bootLate_factory v hv s3 p3
  refine ⟨t, ?_, pt.pass, pt.factory, hend⟩
  show Host.Outcome.next (powerGood (sealEnv v) s) = _
  rw [powerGood_first _ _ hphase, bootThen_proof_passed _ _ rfl proofFirst_none]
  rw [show ((sealEnv v).pltKhz.toNat) = 16000 from rfl, h3, ht]

/-- Settles O28: start-up step by step to the forme or to boot hold, and READY. -/
theorem startUpAndReady : Obligations.StartUpAndReady := by
  unfold Obligations.StartUpAndReady
  refine ⟨fun s i f v => ⟨fun hagain => ?_, fun hphase hbk hhalt => ⟨powerGood_unlocked s hphase hbk hhalt,
    powerGood_unproven s i f hphase hbk hhalt, powerGood_retired s hphase hbk,
    fun hlc hblank hnib hpos hbit => powerGood_blank s v hphase hbk hlc hblank ⟨hnib, hpos, hbit⟩⟩⟩, ?_⟩
  · exact congrArg Host.Outcome.next (powerGood_again {} s hagain)
  · intro s halive hphase hready hhold hhalt hended hpages
    obtain ⟨hset, hshow, hnum, htime, hev, hstarted, hat, hlc⟩ :=
      ready_spec s.dev (ready_takes s.dev hphase hready hhold hhalt hended hpages)
    refine ⟨s.onDev ready, ?_, hset, hshow, hnum, htime, hev, hstarted, hat, rfl, hlc⟩
    show Host.Outcome.next (s.onDev (Dev.live ready)) = _
    unfold State.onDev
    rw [Dev.live_of _ _ halive]

end Sys2Proof.Machine
end

section
/-! PROOFS. The drive engine of an axis: what a mode, a started and an ended calibration, and a fault of the axis leave of it
(R92 to R95, R106, R108 to R111, R241, R285). -/

namespace Sys2Proof.Machine

/-! Fields at different places of their pages. -/

/-- The place of a field in its page: its word and its lowest bit. -/
def Fld.place (f : Fld) : Nat := (f.off / 4 * 32 + f.lo) % 32768

theorem Fld.key_mod_eq_place (f : Fld) (p : Nat) : f.key p % 32768 = f.place := by unfold Fld.key Fld.place; omega

theorem Fld.key_ne_of_place (f g : Fld) (p q : Nat) (h : g.place ≠ f.place) : g.key q ≠ f.key p := fun c =>
  h (by rw [← Fld.key_mod_eq_place g q, ← Fld.key_mod_eq_place f p, c])

/-- A field at another place reads as before, whatever the pages. -/
theorem Dev.get_put_place (p q : Nat) (f g : Fld) (v : Nat) (d : Dev) (h : g.place ≠ f.place) : (d.put p f v).get q g = d.get q g :=
  Dev.get_put_ne _ _ _ _ _ _ (Fld.key_ne_of_place f g p q h)

theorem Dev.raised_put_place (p q n : Nat) (f : Fld) (v : Nat) (d : Dev) (h : HDR.EV_STAT.place ≠ f.place) :
    (d.put p f v).raised q n = d.raised q n := Dev.raised_put _ _ _ _ _ _ (Fld.key_ne_of_place f _ p q h)

theorem Dev.get_ev_place (p q n : Nat) (g : Fld) (d : Dev) (h : g.place ≠ HDR.EV_STAT.place) : (d.ev p n).get q g = d.get q g :=
  Dev.get_ev_ne _ _ _ _ _ (Fld.key_ne_of_place _ g p q h)

/-- The drive registers of an axis stand at the places of a leaf's or at those of a step's. -/
theorem drvReg_leaf_or_step (a : Nat) : drvReg a = id ∨ drvReg a = drvReg 8 := by
  by_cases h : a < 8
  · exact .inl (funext fun f => if_pos h)
  · exact .inr (funext fun f => by unfold drvReg; rw [if_neg h, if_neg (Nat.lt_irrefl 8)])

/-- Two drive registers that stand apart on a leaf's page and on a step's do so on every axis's. -/
theorem drvReg_place_ne (a : Nat) (f g : Fld) (hleaf : f.place ≠ g.place) (hstep : (drvReg 8 f).place ≠ (drvReg 8 g).place) :
    (drvReg a f).place ≠ (drvReg a g).place := by
  rcases drvReg_leaf_or_step a with h | h <;> rw [h] <;> assumption

/-- A drive register apart from the mode's is none that a report to the fault manager writes. -/
theorem drvReg_notMem_reportKeys (a : Nat) (f : Fld)
    (hf : ∀ r ∈ [f, drvReg 8 f], r.off / 4 < 1024 ∧ r.lo < 32 ∧ r.place ≠ LEAF.DRV_STAT.MODE.place ∧
      r.place ≠ (drvReg 8 LEAF.DRV_STAT.MODE).place) : (drvReg a f).key (pgDRV a) ∉ reportKeys := by
  have hr : drvReg a f ∈ [f, drvReg 8 f] := by rcases drvReg_leaf_or_step a with h | h <;> simp [h]
  obtain ⟨hoff, hlo, hleaf, hstep⟩ := hf _ hr
  have hpage : 0x10 ≤ pgDRV a := by unfold pgDRV; split <;> omega
  have hkey (g : Fld) (p : Nat) (hg : g.off / 4 < 1024 ∧ g.lo < 32) (hp : p < 0x10) : (drvReg a f).key (pgDRV a) ≠ g.key p := by
    unfold Fld.key; omega
  unfold reportKeys
  simp only [List.mem_cons, List.mem_map, not_or]
  refine ⟨hkey _ _ (by decide) (by decide), hkey _ _ (by decide) (by decide), hkey _ _ (by decide) (by decide),
    hkey _ _ (by decide) (by decide), ?_⟩
  rintro ⟨b, -, hb⟩
  refine Fld.key_ne_of_place _ _ _ _ ?_ hb.symm
  rcases drvReg_leaf_or_step b with h | h <;> rw [h]
  · exact hleaf
  · exact hstep

/-! What leaves the drive engines alone. -/

section
variable (n a : Nat) (d : Dev)

@[simp] theorem Dev.drv_ev (p k : Nat) : (d.ev p k).drv a = d.drv a := rfl
@[simp] theorem Dev.drv_c2off (p c i : Nat) : (d.c2off p c i).drv a = d.drv a := rfl

theorem Dev.drv_modLf (f : LeafX → LeafX) (hf : ∀ l, (f l).drv = l.drv) : (d.modLf n f).drv a = d.drv a := by
  unfold Dev.drv
  rw [Dev.lf_modLf, Dev.sp_modLf, apply_ite LeafX.drv, hf, ite_self]

theorem Dev.drv_modSp (f : StepX → StepX) (hf : ∀ x, (f x).drv = x.drv) : (d.modSp n f).drv a = d.drv a := by
  unfold Dev.drv
  rw [Dev.sp_modSp, Dev.lf_modSp, apply_ite StepX.drv, hf, ite_self]

@[simp] theorem Dev.get_modDrv (f : DrvX → DrvX) (q : Nat) (g : Fld) : (d.modDrv n f).get q g = d.get q g := by
  unfold Dev.modDrv; split <;> rfl

@[simp] theorem Dev.raised_modDrv (f : DrvX → DrvX) (q k : Nat) : (d.modDrv n f).raised q k = d.raised q k :=
  congrArg (bit · k) (Dev.get_modDrv ..)

theorem Dev.drv_modDrv_same (f : DrvX → DrvX) (ha : a < 12) : (d.modDrv a f).drv a = f (d.drv a) := by
  rw [Dev.drv_modDrv, if_pos ⟨rfl, ha⟩]

end

/-! Modes and calibrations. -/

/-- The mode entered stands (R92, R95). -/
theorem setMode_mode (a m : Nat) (d : Dev) (ha : a < 12) : ((setMode a m d).drv a).mode = m := by
  unfold setMode
  simp only [Dev.putB_eq, Dev.drv_put, Dev.drv_modDrv_same a d _ ha]
  split
  · next h => simp only [Bool.and_eq_true, beq_iff_eq] at h; exact h.2
  · rfl

/-- Entering a mode leaves the calibration and the step of STARTING as they are. -/
theorem setMode_keeps (a m b : Nat) (d : Dev) : ((setMode a m d).drv b).cal = (d.drv b).cal ∧
    ((setMode a m d).drv b).step = (d.drv b).step := by
  unfold setMode
  simp only [Dev.putB_eq, Dev.drv_put, Dev.drv_modDrv]
  split_ifs <;> exact ⟨rfl, rfl⟩

/-- A started calibration (R109). -/
theorem calStart_started (a : Nat) (d : Dev) (ha : a < 12) : ((calStart a d).drv a).cal.on = true ∧ ((calStart a d).drv a).mode = mCAL ∧
    ((calStart a d).drv a).step = (d.drv a).step ∧ (calStart a d).get (pgDRV a) (drvReg a LEAF.DRV_STAT.CALST) = 1 := by
  have hw : (drvReg a LEAF.DRV_STAT.CALST).w = 2 := by rcases drvReg_leaf_or_step a with h | h <;> rw [h] <;> rfl
  unfold calStart
  rw [Dev.drv_put, Dev.drv_modDrv_same _ _ _ ha, Dev.get_put_same, hw]
  exact ⟨rfl, setMode_mode a mCAL d ha, (setMode_keeps a mCAL a d).2, rfl⟩

/-! Fault events (R241, R285). -/

/-- A fault of an axis keeps every property that a report, a condition, a stop request and the sequencer's own part keep. -/
theorem axisFault_keeps {P : Dev → Prop} (k : ReportKeeps P) (hc2 : ∀ x d, P d → P { d with c2 := x })
    (hleaf : ∀ n f d, (∀ l : LeafX, (f l).drv = l.drv) → P d → P (d.modLf n f))
    (hstep : ∀ n f d, (∀ x : StepX, (f x).drv = x.drv) → P d → P (d.modSp n f))
    (a : Nat) (c : Cause) (inst path : Nat) (d : Dev) (h : P d) : P (axisFault a c inst path d) := by
  have hf (pg : Nat) : P (d.fault pg c inst) := k.fault hc2 pg c inst d h
  have hstop (n kind : Nat) (d : Dev) (h : P d) : P (reqStop n kind false d) := by
    unfold reqStop
    dsimp only
    split
    · exact hleaf _ _ _ (fun _ => rfl) (hleaf _ _ _ (fun _ => rfl) h)
    · exact hleaf _ _ _ (fun _ => rfl) h
  unfold axisFault leafFault stepFault seqFault
  split
  · exact hleaf _ _ _ (fun _ => rfl) (hstop _ _ _ (hf _))
  · split <;> exact hstep _ _ _ (fun _ => rfl) (hf _)

/-- A fault of an axis leaves a fault event for its sequencer. -/
theorem axisFault_faultEvent (a : Nat) (c : Cause) (inst path : Nat) (d : Dev) (ha : a < 12) :
    (axisFault a c inst path d).faultEvent a = true := by
  unfold axisFault Dev.faultEvent
  split
  · next h =>
    unfold leafFault seqFault Dev.modSeq Dev.seq
    rw [Dev.lf_modLf, if_pos ⟨rfl, h⟩]
    rfl
  · next h =>
    unfold stepFault Dev.stp Dev.modStp
    split <;> rw [Dev.sp_modSp, if_pos ⟨rfl, by omega⟩] <;> simp

/-- An event that stands keeps standing through a fault of an axis. -/
theorem axisFault_raised (q k a : Nat) (c : Cause) (inst path : Nat) (d : Dev) (hk : k < 32) (h : d.raised q k = true) :
    (axisFault a c inst path d).raised q k = true :=
  axisFault_keeps (keepsRaised q k hk) (fun _ _ h => h) (fun _ _ _ _ h => h) (fun _ _ _ _ h => h) a c inst path d h

/-- What gates switched off do not touch in a drive engine stands after a fault of an axis. -/
theorem axisFault_drv (b : Nat) (Q : DrvX → Prop)
    (hoff : ∀ x : DrvX, Q x → Q { x with mode := 0, modeReq := none, cmp := {}, cmpNext := {}, xd := 0, xq := 0, xv := 0,
                                         iqNext := 0, iqUse := 0 })
    (a : Nat) (c : Cause) (inst path : Nat) (d : Dev) (h : Q (d.drv b)) : Q ((axisFault a c inst path d).drv b) :=
  axisFault_keeps (P := fun d => Q (d.drv b)) (keepsDrv b Q hoff) (fun _ _ h => h)
    (fun n f d hf h => (Dev.drv_modLf n b d f hf).symm ▸ h) (fun n f d hf h => (Dev.drv_modSp n b d f hf).symm ▸ h) a c inst path d h

end Sys2Proof.Machine
end

section
/-! PROOFS. The end of an offset calibration (R109, R111), and a park that waited for it (R113, R116). -/

namespace Sys2Proof.Machine

/-! What a device shows of an axis's calibration. -/

/-- The calibration of axis `a` as the device shows it: whether it runs, the drive mode, event CAL and CALST. -/
def calView (a : Nat) (d : Dev) : Bool × Nat × Bool × Nat :=
  ((d.drv a).cal.on, (d.drv a).mode, d.raised (pgDRV a) Ev.LEAF.CAL, d.get (pgDRV a) (drvReg a LEAF.DRV_STAT.CALST))

/-- A field in no page at the place of `EV_STAT` or CALST. -/
def offCal (f : Fld) : Bool :=
  f.place != HDR.EV_STAT.place && f.place != LEAF.DRV_STAT.CALST.place && f.place != (drvReg 8 LEAF.DRV_STAT.CALST).place

theorem offCal_places (f : Fld) (a : Nat) (h : offCal f = true) :
    HDR.EV_STAT.place ≠ f.place ∧ (drvReg a LEAF.DRV_STAT.CALST).place ≠ f.place := by
  simp only [offCal, Bool.and_eq_true, bne_iff_ne] at h
  obtain ⟨⟨hev, hleaf⟩, hstep⟩ := h
  refine ⟨hev.symm, ?_⟩
  rcases drvReg_leaf_or_step a with e | e <;> rw [e]
  · exact hleaf.symm
  · exact hstep.symm

@[simp] theorem offCal_drvReg (f : Fld) (a : Nat) (h : offCal f = true ∧ offCal (drvReg 8 f) = true) : offCal (drvReg a f) = true := by
  rcases drvReg_leaf_or_step a with e | e <;> rw [e]
  · exact h.1
  · exact h.2

section
variable (a n p : Nat) (d : Dev)

/-- Where the drive engine and the registers are the same, so is the calibration. -/
theorem calView_congr {d t : Dev} (hdrv : t.drv a = d.drv a) (hact : t.act = d.act) : calView a t = calView a d := by
  simp only [calView, Dev.raised, Dev.get, hdrv, hact]

@[simp] theorem calView_put (f : Fld) (v : Nat) (h : offCal f = true) : calView a (d.put p f v) = calView a d := by
  obtain ⟨hev, hcal⟩ := offCal_places f a h
  unfold calView
  rw [Dev.drv_put, Dev.raised_put_place _ _ _ _ _ _ hev, Dev.get_put_place _ _ _ _ _ _ hcal]

@[simp] theorem calView_putState (v : Nat) : calView a (d.put p HDR.STATE v) = calView a d := calView_put a p d _ v (by decide)

@[simp] theorem calView_ev (k : Nat) (h : k ≠ Ev.LEAF.CAL) : calView a (d.ev p k) = calView a d := by
  have hplace : (drvReg a LEAF.DRV_STAT.CALST).place ≠ HDR.EV_STAT.place := by
    rcases drvReg_leaf_or_step a with e | e <;> rw [e] <;> decide
  unfold calView
  rw [Dev.drv_ev, Dev.raised_ev _ _ _ _ _ (by decide), Dev.get_ev_place _ _ _ _ _ hplace]
  simp [h]

@[simp] theorem calView_modDrv (f : DrvX → DrvX) (hf : ∀ x, (f x).cal = x.cal ∧ (f x).mode = x.mode) :
    calView a (d.modDrv n f) = calView a d := by
  unfold calView
  rw [Dev.raised_modDrv, Dev.get_modDrv, Dev.drv_modDrv]
  split
  · rw [(hf _).1, (hf _).2]
  · rfl

@[simp] theorem calView_modLf (f : LeafX → LeafX) (hf : ∀ l, (f l).drv = l.drv) : calView a (d.modLf n f) = calView a d :=
  calView_congr a (Dev.drv_modLf n a d f hf) rfl
@[simp] theorem calView_modSp (f : StepX → StepX) (hf : ∀ x, (f x).drv = x.drv) : calView a (d.modSp n f) = calView a d :=
  calView_congr a (Dev.drv_modSp n a d f hf) rfl
@[simp] theorem calView_sput (f : Fld) (v : Nat) : calView a (d.sput p f v) = calView a d := rfl
@[simp] theorem calView_modOb (f : ObsX → ObsX) : calView a (d.modOb n f) = calView a d := rfl
@[simp] theorem calView_modKn (f : KernX → KernX) : calView a (d.modKn n f) = calView a d := rfl
@[simp] theorem calView_modDy (f : DieY → DieY) : calView a (d.modDy n f) = calView a d := rfl
@[simp] theorem calView_modFb (f : FbX → FbX) : calView a (d.modFb n f) = calView a d := rfl

@[simp] theorem calView_ite (c : Prop) [Decidable c] (x y : Dev) :
    calView a (if c then x else y) = if c then calView a x else calView a y := apply_ite (calView a) c x y

/-! The sequencer, the profile and the step leave it alone. -/

@[simp] theorem calView_reqStop (kind : Nat) (own : Bool) : calView a (reqStop n kind own d) = calView a d := by
  simp [reqStop]

@[simp] theorem calView_setState (st : LeafState) : calView a (setState n st d) = calView a d := by
  simp +decide [setState]

@[simp] theorem calView_endRun : calView a (endRun n d) = calView a d := by simp +decide [endRun]

@[simp] theorem calView_dropRun : calView a (dropRun n d) = calView a d := by simp +decide [dropRun, kernLearnAbort, Dev.put2]

@[simp] theorem calView_wantMode (m : Nat) (h : m ≠ mSERVO) : calView a (wantMode n m d) = calView a d := by
  simp [wantMode, h]

@[simp] theorem calView_toFault : calView a (toFault n d) = calView a d := by
  simp +decide [toFault, settleOff, partnerFault]

@[simp] theorem calView_resetMember : calView a (resetMember n d) = calView a d := by simp [resetMember, leaveFault]

@[simp] theorem calView_idleMember : calView a (idleMember n d) = calView a d := by simp [idleMember, endCmd]

@[simp] theorem calView_sendLock : calView a (sendLock n d) = calView a d := rfl

@[simp] theorem calView_publishProfile : calView a (publishProfile n d) = calView a d := by simp +decide [publishProfile]

@[simp] theorem calView_prfClear : calView a (prfClear n d) = calView a d := by simp +decide [prfClear]

@[simp] theorem calView_stepUnreference : calView a (stepUnreference n d) = calView a d := rfl

@[simp] theorem calView_stepState (st : StepState) : calView a (stepState n st d) = calView a d := by simp +decide [stepState]

@[simp] theorem calView_pageRun : calView a (pageRun n d) = calView a d := by
  unfold pageRun
  dsimp only
  split <;> simp

end

/-! A calibration that is over. -/

/-- A calibration that has ended: none runs, the mode is OFF, event CAL stands and CALST reads passed or failed (R109). -/
def CalOver (a : Nat) (d : Dev) : Prop := ∃ r, (r = 2 ∨ r = 3) ∧ calView a d = (false, mOFF, true, r)

section
variable {a : Nat} {d : Dev}

theorem CalOver.of_view {t : Dev} (h : CalOver a d) (hv : calView a t = calView a d) : CalOver a t := by
  unfold CalOver at *
  rw [hv]
  exact h

/-- A change of the drive engines that puts them in mode OFF and starts no calibration. -/
theorem CalOver.modDrv (h : CalOver a d) (n : Nat) (f : DrvX → DrvX)
    (hf : ∀ x, x.cal.on = false → x.mode = mOFF → (f x).cal.on = false ∧ (f x).mode = mOFF) : CalOver a (d.modDrv n f) := by
  obtain ⟨r, hr, hv⟩ := h
  simp only [calView, Prod.mk.injEq] at hv
  obtain ⟨hon, hmode, hev, hst⟩ := hv
  refine ⟨r, hr, ?_⟩
  unfold calView
  rw [Dev.raised_modDrv, Dev.get_modDrv, hev, hst, Dev.drv_modDrv]
  split
  · rw [(hf _ hon hmode).1, (hf _ hon hmode).2]
  · rw [hon, hmode]

theorem CalOver.put (h : CalOver a d) (p : Nat) (f : Fld) (v : Nat) (hf : offCal f = true) : CalOver a (d.put p f v) :=
  h.of_view (calView_put a p d f v hf)

theorem CalOver.gatesOff (h : CalOver a d) (n : Nat) : CalOver a (gatesOff n d) := by
  unfold Sys2Proof.Machine.gatesOff
  refine CalOver.put (h.modDrv n _ ?_) _ _ _ (offCal_drvReg _ _ (by decide))
  exact fun _ hon _ => ⟨hon, rfl⟩

theorem CalOver.setMode_off (h : CalOver a d) (n : Nat) : CalOver a (setMode n mOFF d) := by
  unfold setMode
  refine CalOver.put (CalOver.put (h.modDrv n _ ?_) _ _ _ (offCal_drvReg _ _ (by decide))) _ _ _ (offCal_drvReg _ _ (by decide))
  exact fun _ hon _ => ⟨hon, rfl⟩

theorem CalOver.drvStarting (h : CalOver a d) (n : Nat) : CalOver a (drvStarting n d) := by
  have hcal := (h.gatesOff n).modDrv n (fun x => { x with step := .wait, startRep := false, pre := 0, parkPend := 0, cal := {} })
    fun _ _ hm => ⟨rfl, hm⟩
  exact hcal.of_view (calView_putState ..)

theorem CalOver.leafStarting (h : CalOver a d) (n : Nat) : CalOver a (leafStarting n d) :=
  (h.drvStarting n).of_view (by simp [Sys2Proof.Machine.leafStarting])

theorem CalOver.leafParkDone (h : CalOver a d) (n : Nat) : CalOver a (leafParkDone n d) := by
  unfold Sys2Proof.Machine.leafParkDone
  dsimp only
  split
  · exact h
  · have hoff := ((h.gatesOff n).setMode_off n).modDrv n (fun x => { x with parkPend := 0, step := .none }) fun _ hon hm => ⟨hon, hm⟩
    split
    · exact (hoff.of_view (by simp +decide)).leafStarting n
    · exact hoff.of_view (by simp +decide)

theorem CalOver.leafParkCheck (h : CalOver a d) (n : Nat) : CalOver a (leafParkCheck n d) := by
  unfold Sys2Proof.Machine.leafParkCheck
  split
  · exact h.leafParkDone n
  · exact h

theorem CalOver.stepOff (h : CalOver a d) (k : Nat) : CalOver a (stepOff k d) :=
  (h.gatesOff (8 + k)).of_view (by simp +decide [Sys2Proof.Machine.stepOff])

theorem CalOver.stepUnref (h : CalOver a d) (k : Nat) : CalOver a (stepUnref k d) := by
  have hstart := h.of_view (t := stepUnreference k (d.modStp k fun s => { s with inhPend := false })) (by simp)
  exact (hstart.stepOff k).of_view (calView_stepState ..)

theorem CalOver.stepStarting (h : CalOver a d) (k : Nat) : CalOver a (stepStarting k d) :=
  ((h.drvStarting (8 + k)).stepUnref k).of_view (by simp [Sys2Proof.Machine.stepStarting])

theorem CalOver.stepParkDone (h : CalOver a d) (k : Nat) : CalOver a (stepParkDone k d) := by
  unfold Sys2Proof.Machine.stepParkDone
  dsimp only
  split
  · exact h
  · have hoff := (h.stepOff k).modDrv (8 + k) (fun x => { x with parkPend := 0, step := .none }) fun _ hon hm => ⟨hon, hm⟩
    split
    · exact hoff.stepStarting k
    · split
      · exact hoff.of_view (by simp)
      · exact (hoff.stepUnref k).of_view (by simp)

theorem CalOver.stepParkCheck (h : CalOver a d) (k : Nat) : CalOver a (stepParkCheck k d) := by
  unfold Sys2Proof.Machine.stepParkCheck
  split
  · exact h.stepParkDone k
  · exact h

/-- The report of a failed calibration leaves it ended. -/
theorem CalOver.raise (h : CalOver a d) (pg : Nat) (c : Cause) (inst : Nat) : CalOver a (d.raise pg c inst) := by
  obtain ⟨r, hr, hv⟩ := h
  simp only [calView, Prod.mk.injEq] at hv
  obtain ⟨hon, hmode, hev, hst⟩ := hv
  have hdrv := (keepsDrv a (fun x => x.cal.on = false ∧ x.mode = mOFF) fun _ hx => ⟨hx.1, rfl⟩).raise pg c inst d ⟨hon, hmode⟩
  have hreg : (drvReg a LEAF.DRV_STAT.CALST).key (pgDRV a) ∉ reportKeys :=
    drvReg_notMem_reportKeys a LEAF.DRV_STAT.CALST (by decide)
  refine ⟨r, hr, ?_⟩
  unfold calView
  rw [hdrv.1, hdrv.2, (keepsRaised _ _ (by decide)).raise pg c inst d hev, Dev.get_raise_ne _ _ _ _ _ _ hreg, hst]

end

/-- Mode OFF with CALST and event CAL shown ends a calibration. -/
theorem calOver_shown (a r : Nat) (d : Dev) (hr : r = 2 ∨ r = 3) (hon : (d.drv a).cal.on = false) (hm : (d.drv a).mode = mOFF) :
    CalOver a ((d.put (pgDRV a) (drvReg a LEAF.DRV_STAT.CALST) r).ev (pgDRV a) Ev.LEAF.CAL) := by
  have hplace : (drvReg a LEAF.DRV_STAT.CALST).place ≠ HDR.EV_STAT.place := by
    rcases drvReg_leaf_or_step a with e | e <;> rw [e] <;> decide
  have hw : (drvReg a LEAF.DRV_STAT.CALST).w = 2 := by rcases drvReg_leaf_or_step a with e | e <;> rw [e] <;> rfl
  refine ⟨r, hr, ?_⟩
  unfold calView
  rw [Dev.drv_ev, Dev.drv_put, hon, hm, Dev.raised_ev_same _ _ _ (by decide), Dev.get_ev_place _ _ _ _ _ hplace, Dev.get_put_same, hw,
    Nat.mod_eq_of_lt (by omega)]

/-- The page leaves STARTING, where the calibration was its last step (R108). -/
theorem CalOver.startDone {a : Nat} {d : Dev} (h : CalOver a d) (n : Nat) : CalOver a (startDone n d) := by
  have hstep := h.of_view (t := d.modDrv n fun x => { x with step := .none }) (by simp)
  unfold Sys2Proof.Machine.startDone
  split
  · exact hstep.of_view (calView_pageRun ..)
  · exact hstep

/-- A calibration that ends or aborts leaves mode OFF. -/
theorem calOff_off (a : Nat) (d : Dev) (ha : a < 12) :
    ((calOff a d).drv a).cal = (d.drv a).cal ∧ ((calOff a d).drv a).mode = mOFF := by
  unfold calOff
  rw [Dev.drv_modDrv_same _ _ _ ha]
  exact ⟨(setMode_keeps a mOFF a d).1, setMode_mode a mOFF d ha⟩

/-- Loading the offsets leaves the calibration and the mode. -/
theorem calLoad_keeps (a chans b : Nat) (u v w : Int) (d : Dev) :
    ((calLoad a chans u v w d).drv b).cal = (d.drv b).cal ∧ ((calLoad a chans u v w d).drv b).mode = (d.drv b).mode := by
  unfold calLoad
  split
  · rw [Dev.drv_modDrv]
    split <;> exact ⟨rfl, rfl⟩
  · exact ⟨rfl, rfl⟩

/-- The end of a calibration (R109, R268). -/
theorem calEnd_over (a chans : Nat) (d : Dev) (ha : a < 12) (hax : d.hasAxis a = true) (hon : (d.drv a).cal.on = true)
    (hn : 256 ≤ (d.drv a).cal.n) : CalOver a (calEnd a chans d) := by
  obtain ⟨hcal, hmode⟩ := calOff_off a (d.modDrv a fun x => { x with cal := {} }) ha
  rw [Dev.drv_modDrv_same _ _ _ ha] at hcal
  have hidle := congrArg CalX.on hcal
  unfold calEnd
  rw [if_pos (by simp [hax, hon, hn])]
  dsimp only
  refine CalOver.startDone ?_ a
  split
  · obtain ⟨hkcal, hkmode⟩ := calLoad_keeps a chans a (calMean (d.drv a).cal.sum.u - 8192) (calMean (d.drv a).cal.sum.v - 8192)
      (calMean (d.drv a).cal.sum.w - 8192) (calOff a (d.modDrv a fun x => { x with cal := {} }))
    exact calOver_shown a 2 _ (.inl rfl) ((congrArg CalX.on hkcal).trans hidle) (hkmode.trans hmode)
  · exact (calOver_shown a 3 _ (.inr rfl) hidle hmode).raise _ _ _

/-- A calibration's end, and with it that of a park that waited for it (R109, R113, R268). -/
theorem calibrationEnd_over (a : Nat) (d : Dev) (ha : a < 12) (hax : d.hasAxis a = true) (hon : (d.drv a).cal.on = true)
    (hn : 256 ≤ (d.drv a).cal.n) : CalOver a (calibrationEnd a d) := by
  unfold calibrationEnd
  split
  · exact (calEnd_over a 3 d ha hax hon hn).leafParkCheck a
  · exact (calEnd_over a 2 d ha hax hon hn).stepParkCheck (a - 8)

end Sys2Proof.Machine
end

section
/-! PROOFS. The start of a drive page, offset calibration and `DRV_CTRL` (R106, R108 to R110, R268). -/

namespace Sys2Proof.Machine

/-! The STARTING steps (R108). -/

/-- A valid supply ends the wait: the precharge begins and VGDOK reads 1. -/
theorem pageStartWaitEnd_precharge (a : Nat) (d : Dev) (ha : a < 12) (hax : d.hasAxis a = true) (hw : (d.drv a).step = .wait)
    (hok : supplyOk d a = true) : ((pageStartWaitEnd a d).drv a).step = .precharge ∧ ((pageStartWaitEnd a d).drv a).pre = 0 ∧
      (pageStartWaitEnd a d).get (pgDRV a) (drvReg a LEAF.DRV_STAT.VGDOK) = 1 := by
  have hbst : (drvReg a LEAF.DRV_STAT.VGDOK).place ≠ LEAF.DRV_STAT.BSTOK.place := by
    rcases drvReg_leaf_or_step a with h | h <;> rw [h] <;> decide
  have hbit : (drvReg a LEAF.DRV_STAT.VGDOK).w = 1 := by rcases drvReg_leaf_or_step a with h | h <;> rw [h] <;> rfl
  unfold pageStartWaitEnd startConds Dev.iff_
  rw [if_pos (by simp [hax, hw, hok])]
  simp only [Dev.putB_eq]
  split <;> simp [Dev.drv_modDrv_same a d _ ha, Dev.get_put_place _ _ _ _ _ _ hbst, hbit, b2n]

/-- A wait that has lasted its time without a supply is told once, as a fault event (R108). -/
theorem startingTimeout_reports (a : Nat) (d : Dev) (ha : a < 12) (hax : d.hasAxis a = true) (hw : (d.drv a).step = .wait)
    (hok : supplyOk d a = false) (hrep : (d.drv a).startRep = false) :
    ((startingTimeout a d).drv a).startRep = true ∧ (startingTimeout a d).faultEvent a = true ∧
      (startingTimeout a d).raised (pgDRV a) (if (d.di (dieOf a)).samp.vgd then Ev.LEAF.VBRUV else Ev.LEAF.VGDUV) = true := by
  have told (k : Nat) (c : Cause) (path : Nat) (hk : k < 32) :
      let t := axisFault a c 0xFF path (setCond a c.code true ((d.modDrv a fun x => { x with startRep := true }).ev (pgDRV a) k))
      (t.drv a).startRep = true ∧ t.faultEvent a = true ∧ t.raised (pgDRV a) k = true := by
    refine ⟨axisFault_drv a (fun x => x.startRep = true) (fun _ h => h) _ _ _ _ _ ?_, axisFault_faultEvent _ _ _ _ _ ha,
      axisFault_raised _ _ _ _ _ _ _ hk ?_⟩
    · simp only [setCond, Dev.drv_modDrv_same _ _ _ ha, Dev.drv_ev]
    · rw [setCond, Dev.raised_modDrv]
      exact Dev.raised_ev_same _ _ _ hk
  have hdie : (d.modDrv a fun x => { x with startRep := true }).di (dieOf a) = d.di (dieOf a) := by unfold Dev.modDrv; split <;> rfl
  unfold startingTimeout
  rw [if_pos (by simp [hax, hw, hok, hrep])]
  dsimp only
  rw [hdie]
  by_cases hv : (d.di (dieOf a)).samp.vgd = true
  · simp only [hv, Bool.not_true, Bool.false_eq_true, if_true, if_false]
    exact told Ev.LEAF.VBRUV Cz.LEAF.VBRUV 2 (by decide)
  · simp only [hv, Bool.not_false, Bool.false_eq_true, if_true, if_false]
    exact told Ev.LEAF.VGDUV Cz.LEAF.VGDUV 3 (by decide)

/-- After 64 precharge periods the calibration of step 3 runs (R108). -/
theorem bootstrapPrechargeEnd_calibrates (a : Nat) (d : Dev) (ha : a < 12) (hax : d.hasAxis a = true)
    (hp : (d.drv a).step = .precharge) (hn : 64 ≤ (d.drv a).pre) :
    ((bootstrapPrechargeEnd a d).drv a).step = .cal ∧ ((bootstrapPrechargeEnd a d).drv a).cal.on = true ∧
      ((bootstrapPrechargeEnd a d).drv a).mode = mCAL ∧ (bootstrapPrechargeEnd a d).get (pgDRV a) (drvReg a LEAF.DRV_STAT.CALST) = 1 := by
  obtain ⟨hon, hmode, hstep, hst⟩ := calStart_started a (d.modDrv a fun x => { x with step := .cal }) ha
  rw [Dev.drv_modDrv_same _ _ _ ha] at hstep
  unfold bootstrapPrechargeEnd
  rw [if_pos (by simp [hax, hp, hn])]
  exact ⟨hstep, hon, hmode, hst⟩

/-! What the bits of `DRV_CTRL` do (R106, R110, R268). -/

/-- Where no condition holds the page safe, `PG_STAT.STATE` reads the page's own state. -/
theorem pgState_of_stateView {d : Dev} {pg : Nat} (st : Nat) (hs : st < 4) (h : d.stateView pg = st) : d.pgState pg = st := by
  unfold Dev.stateView at h
  split at h
  · omega
  · exact h

/-- CAL is accepted in RUN with mode OFF or BRAKE, and in PARKED. -/
theorem calRequest_accepted (a : Nat) (d : Dev) (hoff : (d.drv a).cal.on = false)
    (hst : d.stateView (pgDRV a) = 3 ∨ d.stateView (pgDRV a) = 2 ∧ (d.drv a).mode ≤ mBRAKE) : calRequest a d = calStart a d := by
  have hview (st : Nat) (hs : st < 4) (h : d.stateView (pgDRV a) = st) :
      (if a < 8 then d.stateView (pgDRV a) else d.pgState (pgDRV a)) = st := by
    split
    · exact h
    · exact pgState_of_stateView st hs h
  unfold calRequest
  refine if_pos ?_
  rcases hst with h | ⟨h, hm⟩
  · simp [hoff, hview 3 (by decide) h]
  · have hmode : (d.drv a).mode = mOFF ∨ (d.drv a).mode = mBRAKE := by unfold mOFF mBRAKE at *; omega
    simp [hoff, hview 2 (by decide) h, hmode]

/-- CLRLATCH leaves the latches whose condition is present. -/
theorem clrLatch_spec (a : Nat) (d : Dev) (ha : a < 12) : ((clrLatch a d).drv a).latch = (d.drv a).latch &&& (d.drv a).cond ∧
    (clrLatch a d).get (pgDRV a) (drvReg a LEAF.DRV_STAT.LATCH) = b2n ((d.drv a).latch &&& (d.drv a).cond != 0) ∧
    ((clrLatch a d).drv a).mode = (d.drv a).mode := by
  have hbit : (drvReg a LEAF.DRV_STAT.LATCH).w = 1 := by rcases drvReg_leaf_or_step a with h | h <;> rw [h] <;> rfl
  have hb2n (b : Bool) : b2n b % 2 ^ 1 = b2n b := by cases b <;> rfl
  simp only [clrLatch, Dev.putB_eq, Dev.drv_put, Dev.get_put_same, hbit, hb2n, Dev.drv_modDrv_same a d _ ha, true_and]

/-- CLRCNT clears the counters of `DIAG`, in the engine and in the registers. -/
theorem clrCnt_spec (a : Nat) (d : Dev) (ha : a < 12) : (clrCnt a d).get (pgDRV a) (drvReg a LEAF.DIAG.VLIM) = 0 ∧
    (clrCnt a d).get (pgDRV a) (drvReg a LEAF.DIAG.STALE) = 0 ∧ (clrCnt a d).get (pgDRV a) (drvReg a LEAF.DIAG.OCCBC) = 0 ∧
    (clrCnt a d).drv a = { d.drv a with diag := {} } ∧ (clrCnt a d).pos = d.pos := by
  have hvs := drvReg_place_ne a LEAF.DIAG.VLIM LEAF.DIAG.STALE (by decide) (by decide)
  have hvo := drvReg_place_ne a LEAF.DIAG.VLIM LEAF.DIAG.OCCBC (by decide) (by decide)
  have hso := drvReg_place_ne a LEAF.DIAG.STALE LEAF.DIAG.OCCBC (by decide) (by decide)
  have hpos (f : DrvX → DrvX) : (d.modDrv a f).pos = d.pos := by unfold Dev.modDrv; split <;> rfl
  simp only [clrCnt, Dev.get_put_place _ _ _ _ _ _ hvs, Dev.get_put_place _ _ _ _ _ _ hvo, Dev.get_put_place _ _ _ _ _ _ hso,
    Dev.get_put_same, Nat.zero_mod, Dev.drv_put, Dev.drv_modDrv_same a d _ ha, Dev.put_pos, hpos, true_and]

/-! Writes of `DRV_CTRL` by the runtime. -/

/-- A write of a leaf's `DRV_CTRL`. -/
theorem wr_leafDrvCtrl (n v : Nat) (s : State) (hn : n < 8) (hh : s.dev.part.hasLeaf n = true) (hr : s.dev.runtimeActs = true) :
    wr .runtime (pgLEAF n) LEAF.DRV_CTRL.CAL v s = s.onDev (leafWrite n LEAF.DRV_CTRL.CAL.off
      (takenBits [LEAF.DRV_CTRL.CLRCNT, LEAF.DRV_CTRL.CLRLATCH, LEAF.DRV_CTRL.CAL] (v % 2 ^ 32))) :=
  wr_leaf n LEAF.DRV_CTRL.CAL v s _ hn hh hr (by decide) (by decide) (by decide) (by rfl) (by decide) (by decide) (by simp)

/-- A write of a step's `DRV_CTRL`. -/
theorem wr_stepDrvCtrl (k v : Nat) (s : State) (hk : k < 4) (hh : s.dev.part.hasStepAxis k = true) (hr : s.dev.runtimeActs = true) :
    wr .runtime (pgSTEP k) STEP.DRV_CTRL.CAL v s = s.onDev (stepDrvCtrl k
      (takenBits [STEP.DRV_CTRL.CLRCNT, STEP.DRV_CTRL.CLRLATCH, STEP.DRV_CTRL.CAL] (v % 2 ^ 32))) := by
  rw [wr_step k STEP.DRV_CTRL.CAL v s [STEP.DRV_CTRL.CLRCNT, STEP.DRV_CTRL.CLRLATCH, STEP.DRV_CTRL.CAL] hk hh hr (by decide) (by decide)
    (by decide) (by rfl) (by decide) (by simp)]
  rfl

/-- A write of `DRV_CTRL` with one of the bits CLRLATCH and CLRCNT acts on the axis alone. -/
theorem wr_drvCtrl (a : AxisNo) (v : Nat) (f : Nat → Dev → Dev) (s : State) (hr : s.dev.runtimeActs = true)
    (hax : s.dev.hasAxis a.val = true) (hv : v = 2 ∧ f = clrLatch ∨ v = 4 ∧ f = clrCnt) :
    wr .runtime (pgDRV a.val) (drvCtrlFld a.val) v s = s.onDev (f a.val) := by
  by_cases h : a.val < 8
  · rw [Dev.hasAxis, if_pos h] at hax
    rw [show pgDRV a.val = pgLEAF a.val from if_pos h, show drvCtrlFld a.val = LEAF.DRV_CTRL.CAL from if_pos h,
      wr_leafDrvCtrl a.val v s h hax hr]
    rcases hv with ⟨rfl, rfl⟩ | ⟨rfl, rfl⟩ <;> rfl
  · rw [Dev.hasAxis, if_neg h] at hax
    obtain ⟨k, hk⟩ : ∃ k, a.val = 8 + k := ⟨a.val - 8, by omega⟩
    have hpg : pgDRV a.val = pgSTEP k := by unfold pgDRV pgSTEP; rw [if_neg h]; omega
    rw [hk, Nat.add_sub_cancel_left] at hax
    rw [hpg, show drvCtrlFld a.val = STEP.DRV_CTRL.CAL from if_neg h, wr_stepDrvCtrl k v s (by omega) hax hr, hk]
    rcases hv with ⟨rfl, rfl⟩ | ⟨rfl, rfl⟩ <;> rfl

/-- CAL on a leaf's page (R110). -/
theorem exec_drvCtrlCal (n : LeafNo) (s : State) (hr : s.dev.runtimeActs = true) (hh : s.dev.part.hasLeaf n.val = true)
    (hoff : (s.dev.drv n.val).cal.on = false)
    (hst : s.dev.stateView (pgDRV n.val) = 3 ∨ s.dev.stateView (pgDRV n.val) = 2 ∧ (s.dev.drv n.val).mode ≤ mBRAKE) :
    exec (.drvCtrlCal .runtime n) s = .next (s.onDev (calStart n.val)) := by
  show Host.Outcome.next (wr .runtime (pgLEAF n.val) LEAF.DRV_CTRL.CAL 1 s) = _
  rw [wr_leafDrvCtrl n.val 1 s n.isLt hh hr]
  congr 1
  show { s with dev := calRequest n.val s.dev } = _
  rw [calRequest_accepted _ _ hoff hst]
  rfl

/-- CAL on a step's page (R268). -/
theorem exec_stepDrvCtrlCal (k : StepNo) (s : State) (hr : s.dev.runtimeActs = true) (hh : s.dev.part.hasStepAxis k.val = true)
    (hoff : (s.dev.drv (8 + k.val)).cal.on = false)
    (hst : s.dev.stateView (pgDRV (8 + k.val)) = 3 ∨ s.dev.stateView (pgDRV (8 + k.val)) = 2 ∧ (s.dev.drv (8 + k.val)).mode ≤ mBRAKE)
    (hstep : s.dev.pgState (pgSTEP k.val) = 3 ∨ (s.dev.stp k.val).st = .unref ∨ (s.dev.stp k.val).st = .fault) :
    exec (.stepDrvCtrlCal .runtime k) s = .next (s.onDev (calStart (8 + k.val))) := by
  show Host.Outcome.next (wr .runtime (pgSTEP k.val) STEP.DRV_CTRL.CAL 1 s) = _
  rw [wr_stepDrvCtrl k.val 1 s k.isLt hh hr]
  congr 1
  have hact : stepDrvCtrl k.val 1 s.dev = calRequest (8 + k.val) s.dev := by
    have hbits : bit 1 2 = false ∧ bit 1 1 = false ∧ bit 1 0 = true := by decide
    simp [stepDrvCtrl, hbits, hstep]
  show { s with dev := stepDrvCtrl k.val 1 s.dev } = _
  rw [hact, calRequest_accepted _ _ hoff hst]
  rfl

/-! The obligation. -/

/-- Settles O12: the STARTING steps and the calibration's end by what each does to the axis's drive engine, `DRV_CTRL` bit by bit. VBRUV for
any supply that is not valid while VGD is (assumption log 70) and mode OFF after a calibration accepted in BRAKE (log 81) are the model's. -/
theorem driveStartAndControl : Obligations.DriveStartAndControl := by
  unfold Obligations.DriveStartAndControl
  refine ⟨fun s a halive hax => ?_, fun s hr => ⟨fun n hh hoff hst => ?_, fun k hh hoff hst => ?_, fun a hax => ⟨?_, ?_⟩⟩⟩
  · have run (f : Dev → Dev) : doDev (Dev.live f) s = .next (s.onDev f) := by
      unfold doDev State.onDev
      rw [Dev.live_of f s.dev halive]
    refine ⟨fun hw hok => ?_, fun hw hok hrep => ?_, fun hp hn => ?_, fun hon hn => ?_⟩
    · obtain ⟨hstep, hpre, hvgd⟩ := pageStartWaitEnd_precharge a.val s.dev a.isLt hax hw hok
      exact ⟨_, run (pageStartWaitEnd a.val), hstep, hpre, hvgd, rfl⟩
    · exact ⟨_, run (startingTimeout a.val), startingTimeout_reports a.val s.dev a.isLt hax hw hok hrep⟩
    · exact ⟨_, run (bootstrapPrechargeEnd a.val), bootstrapPrechargeEnd_calibrates a.val s.dev a.isLt hax hp hn⟩
    · obtain ⟨r, hres, hview⟩ := calibrationEnd_over a.val s.dev a.isLt hax hon hn
      simp only [calView, Prod.mk.injEq] at hview
      obtain ⟨hidle, hmode, hev, hst⟩ := hview
      refine ⟨_, run (calibrationEnd a.val), hidle, hmode, hev, ?_⟩
      rw [State.onDev_dev, hst]
      exact hres
  · have hpg : pgDRV n.val = pgLEAF n.val := if_pos n.isLt
    obtain ⟨hon, hmode, -, hcal⟩ := calStart_started n.val s.dev (by omega)
    rw [hpg, drvReg, if_pos n.isLt] at hcal
    exact ⟨_, exec_drvCtrlCal n s hr hh hoff (by rw [hpg]; exact hst), hon, hmode, hcal, rfl⟩
  · have hpg : pgDRV (8 + k.val) = pgSTEP k.val := by unfold pgDRV pgSTEP; rw [if_neg (by omega)]; omega
    obtain ⟨hon, hmode, -, -⟩ := calStart_started (8 + k.val) s.dev (by omega)
    rw [← hpg] at hst
    refine ⟨_, exec_stepDrvCtrlCal k s hr hh hoff (hst.imp_right fun h => ⟨h.1, h.2.1⟩) ?_, hon, hmode, rfl⟩
    rw [← hpg]
    exact hst.imp (pgState_of_stateView 3 (by decide)) fun h => h.2.2
  · exact ⟨_, congrArg Host.Outcome.next (wr_drvCtrl a 2 clrLatch s hr hax (.inl ⟨rfl, rfl⟩)), by
      obtain ⟨hlatch, hreg, hmode⟩ := clrLatch_spec a.val s.dev a.isLt
      exact ⟨hlatch, hreg, hmode, rfl⟩⟩
  · exact ⟨_, congrArg Host.Outcome.next (wr_drvCtrl a 4 clrCnt s hr hax (.inr ⟨rfl, rfl⟩)), by
      obtain ⟨hvlim, hstale, hoccbc, hdrv, hpos⟩ := clrCnt_spec a.val s.dev a.isLt
      exact ⟨hvlim, hstale, hoccbc, hdrv, hpos, rfl⟩⟩

end Sys2Proof.Machine
end

section
/-! PROOFS. Drive faults: the overcurrent cut, which the drive modes of the table take and no other code does (R94, R96). -/

namespace Sys2Proof.Machine

/-! A drive mode outside the table "Drive modes". -/

/-- A running core whose LEAF0 holds 6 as its drive mode, which the table "Drive modes" does not name and the step never sets. -/
def unknownMode : State := State.reset.onDev fun d =>
  { d with boot := { d.boot with up := true } }.modDrv 0 fun x => { x with mode := 6 }

/-- There a current above the comparator's level cuts nothing: the mode is neither PWM nor BRAKE, and no precharge runs. -/
theorem overcurrentTrip_unknownMode : unknownMode.dev.alive = true ∧ overcurrent unknownMode.dev 0 1000000 = true ∧
    ((overcurrentTrip 0 1000000 unknownMode.dev).drv 0).cut = false := by decide +kernel

/-! In the modes of the table. -/

/-- A counter of `DIAG` leaves the drive engine but for its counters. -/
theorem diagInc_keeps (a : Nat) (f : Fld) (up : DiagX → DiagX) (d : Dev) (ha : a < 12) :
    (diagInc a f up d).drv a = { d.drv a with diag := if a < 8 then up (d.drv a).diag else (d.drv a).diag } := by
  unfold diagInc
  split
  · rw [Dev.drv_modDrv_same _ _ _ ha]
  · rfl

/-- An overcurrent in BRAKE, CURRENT, SERVO or TEST cuts the rest of the period and counts (R94, R96). -/
theorem overcurrentTrip_cuts (a ma : Nat) (d : Dev) (ha : a < 12) (hax : d.hasAxis a = true)
    (hmode : (d.drv a).mode = mBRAKE ∨ isPwm (d.drv a).mode = true) (hover : overcurrent d a ma = true) :
    ((overcurrentTrip a ma d).drv a).cut = true ∧ ((overcurrentTrip a ma d).drv a).mode = (d.drv a).mode ∧
      (overcurrentTrip a ma d).raised (pgDRV a) Ev.LEAF.OCCBC = true ∧
      (a < 8 → ((overcurrentTrip a ma d).drv a).diag.occbc = min 255 ((d.drv a).diag.occbc + 1)) ∧
      (8 ≤ a → (overcurrentTrip a ma d).get (pgDRV a) (drvReg a LEAF.DIAG.OCCBC) =
        satInc LEAF.DIAG.OCCBC.w (d.get (pgDRV a) (drvReg a LEAF.DIAG.OCCBC)) % 2 ^ LEAF.DIAG.OCCBC.w) := by
  have hcond : (d.hasAxis a && (isPwm (d.drv a).mode || (d.drv a).mode == mBRAKE || (d.drv a).step == .precharge) &&
      overcurrent d a ma) = true := by
    rcases hmode with h | h <;> simp [hax, h, hover]
  have hplace : (drvReg a LEAF.DIAG.OCCBC).place ≠ HDR.EV_STAT.place := by
    rcases drvReg_leaf_or_step a with e | e <;> rw [e] <;> decide
  have hw : (drvReg a LEAF.DIAG.OCCBC).w = LEAF.DIAG.OCCBC.w := by rcases drvReg_leaf_or_step a with e | e <;> rw [e] <;> rfl
  unfold overcurrentTrip
  rw [if_pos hcond]
  dsimp only
  simp only [Dev.drv_ev, diagInc_keeps _ _ _ _ ha, Dev.drv_modDrv_same a d _ ha, Dev.get_ev_place _ _ _ _ _ hplace]
  refine ⟨?_, ?_, Dev.raised_ev_same _ _ _ (by decide), fun h => ?_, fun h => ?_⟩
  · split
    · assumption
    · rfl
  · split <;> rfl
  · rw [if_pos h]
    dsimp only
    split <;> rfl
  · rw [diagInc, if_neg (by omega), Dev.incSat_eq, Dev.get_put_same, hw, Dev.get_modDrv]

/-! The obligation. -/

/-- Refutes O14: the clause of R96 takes every number but those of OFF and CAL for a drive mode that a comparator trip cuts, also
`unknownMode`'s 6, for which the model cuts nothing. `overcurrentTrip_cuts` is the clause for the modes of the table. -/
theorem not_driveFaults : ¬ Obligations.DriveFaults := by
  unfold Obligations.DriveFaults
  rintro ⟨-, h⟩
  obtain ⟨halive, hover, hcut⟩ := overcurrentTrip_unknownMode
  obtain ⟨hclause, -⟩ := h unknownMode 0 0 0 1000000 halive
  obtain ⟨t, ht, htcut, -⟩ := hclause (by decide +kernel) (by decide +kernel) (by decide +kernel) hover
  have hx : exec (.overcurrentTrip ⟨0, 1000000⟩) unknownMode = .next (unknownMode.onDev (overcurrentTrip 0 1000000)) := by
    show Host.Outcome.next (unknownMode.onDev (Dev.live (overcurrentTrip 0 1000000))) = _
    rw [State.onDev, Dev.live_of _ _ halive]
    rfl
  have htt : unknownMode.onDev (overcurrentTrip 0 1000000) = t := Host.Outcome.next.inj (hx.symm.trans ht)
  rw [← htt] at htcut
  exact absurd (hcut.symm.trans htcut) (by decide)

end Sys2Proof.Machine
end

section
/-! PROOFS. Move and sequencer commands of a leaf: what the runtime's write of each command register asks of the leaf's profile
generator and of its sequencer (R134 to R139, R149, R238, R240). -/

namespace Sys2Proof.Machine

/-! Writes of a leaf's command registers by the runtime. -/

/-- A write of `MOVE_CMD` (R155). -/
theorem wr_moveCmd (n v : Nat) (s : State) (hn : n < 8) (hh : s.dev.part.hasLeaf n = true) (hr : s.dev.runtimeActs = true) :
    wr .runtime (pgLEAF n) LEAF.MOVE_CMD.GO v s = s.onDev (moveCmd n (takenBits
      [LEAF.MOVE_CMD.HSTOP, LEAF.MOVE_CMD.QSTOP, LEAF.MOVE_CMD.STOP, LEAF.MOVE_CMD.GO, LEAF.MOVE_CMD.SET] (v % 2 ^ 32))) :=
  wr_leaf n LEAF.MOVE_CMD.GO v s _ hn hh hr (by decide) (by decide) (by decide) (by rfl) (by decide) (by decide) (by simp)

/-- A write of `SPQ_A` pushes an entry with the word written (R136). -/
theorem wr_spqA (n v : Nat) (s : State) (hn : n < 8) (hh : s.dev.part.hasLeaf n = true) (hr : s.dev.runtimeActs = true)
    (hv : v < 2 ^ 32) : wr .runtime (pgLEAF n) LEAF.SPQ_A.A v s = s.onDev (spqPush n v) := by
  have hbits : takenBits [LEAF.SPQ_A.A] (v % 2 ^ 32) = v := by
    show 0 + v % 2 ^ 32 / 2 ^ 0 % 2 ^ 32 * 2 ^ 0 = v
    omega
  rw [wr_leaf n LEAF.SPQ_A.A v s [LEAF.SPQ_A.A] hn hh hr (by decide) (by decide) (by decide) (by rfl) (by decide) (by decide) (by simp),
    hbits]
  rfl

/-- A write of `SEQ_CMD` (R240). -/
theorem wr_seqCmd (n v : Nat) (s : State) (hn : n < 8) (hh : s.dev.part.hasLeaf n = true) (hr : s.dev.runtimeActs = true) :
    wr .runtime (pgLEAF n) LEAF.SEQ_CMD.OPEN v s = s.onDev (seqCmd n (takenBits
      [LEAF.SEQ_CMD.CLRSUSP, LEAF.SEQ_CMD.ACK, LEAF.SEQ_CMD.REFRUN, LEAF.SEQ_CMD.LEARN, LEAF.SEQ_CMD.CLOSE, LEAF.SEQ_CMD.OPEN]
      (v % 2 ^ 32))) :=
  wr_leaf n LEAF.SEQ_CMD.OPEN v s _ hn hh hr (by decide) (by decide) (by decide) (by rfl) (by decide) (by decide) (by simp)

/-! Stop requests (R143, R149). -/

@[simp] theorem Dev.prf_ev (p k m : Nat) (d : Dev) : (d.ev p k).prf m = d.prf m := rfl

/-- A stop path of a leaf is carried out on a leaf. -/
theorem stopTarget_lt (d : Dev) (n kind : Nat) (hn : n < 8) : stopTarget d n kind < 8 := by
  unfold stopTarget ligLeader evenOf b2n
  split_ifs <;> omega

theorem stopTarget_hard (d : Dev) (n : Nat) : stopTarget d n 3 = n := rfl

/-- The profile generator that a request reaches: it takes one that is harsher than what it was asked for and than the path it runs. -/
theorem reqStop_prf (n kind : Nat) (own : Bool) (d : Dev) (hn : n < 8) :
    (reqStop n kind own d).prf (stopTarget d n kind) =
      if (d.prf (stopTarget d n kind)).stopReq < kind ∧
          ¬((d.prf (stopTarget d n kind)).stopKind < 3 ∧ kind ≤ (d.prf (stopTarget d n kind)).stopKind) then
        { d.prf (stopTarget d n kind) with stopReq := kind, stopOwn := own }
      else d.prf (stopTarget d n kind) := by
  have htake (f : PrfX → PrfX) : (d.modPrf (stopTarget d n kind) f).prf (stopTarget d n kind) = f (d.prf (stopTarget d n kind)) := by
    rw [Dev.prf_modPrf, if_pos ⟨rfl, stopTarget_lt d n kind hn⟩]
  unfold reqStop
  dsimp only
  split
  · rw [Dev.prf_modSeq, htake]
  · exact htake _

/-- A request changes no register. -/
theorem reqStop_act (n kind : Nat) (own : Bool) (d : Dev) : (reqStop n kind own d).act = d.act := by
  unfold reqStop
  dsimp only
  split <;> rfl

/-- A request stands where no path as harsh runs, unless a harsher one stands. -/
theorem reqStop_stands (n kind : Nat) (own : Bool) (d : Dev) (hn : n < 8)
    (hkind : (d.prf (stopTarget d n kind)).stopKind < kind ∨ kind = 3) :
    ((reqStop n kind own d).prf (stopTarget d n kind)).stopReq = max kind (d.prf (stopTarget d n kind)).stopReq := by
  rw [reqStop_prf n kind own d hn]
  split
  · show kind = _
    omega
  · omega

/-- A request while a stop or quick stop as harsh runs changes nothing in the profile generator. -/
theorem reqStop_runs (n kind : Nat) (own : Bool) (d : Dev) (hn : n < 8)
    (hkind : (d.prf (stopTarget d n kind)).stopKind < 3 ∧ kind ≤ (d.prf (stopTarget d n kind)).stopKind) :
    (reqStop n kind own d).prf (stopTarget d n kind) = d.prf (stopTarget d n kind) := by
  rw [reqStop_prf n kind own d hn, if_neg fun h => h.2 hkind]

/-- STOP on a page in service. -/
theorem exec_moveCmdStop (n : LeafNo) (s : State) (hr : s.dev.runtimeActs = true) (hh : s.dev.part.hasLeaf n.val = true)
    (hout : leafOut s.dev n.val = false) : exec (.moveCmdStop .runtime n) s = .next (s.onDev (reqStop n.val 1 false)) := by
  show Host.Outcome.next (wr .runtime (pgLEAF n.val) LEAF.MOVE_CMD.GO 32 s) = _
  rw [wr_moveCmd n.val 32 s n.isLt hh hr]
  show Host.Outcome.next { s with dev := if leafOut s.dev n.val then s.dev else reqStop n.val 1 false s.dev } = _
  rw [hout]
  rfl

/-- QSTOP on a page in service. -/
theorem exec_moveCmdQstop (n : LeafNo) (s : State) (hr : s.dev.runtimeActs = true) (hh : s.dev.part.hasLeaf n.val = true)
    (hout : leafOut s.dev n.val = false) : exec (.moveCmdQstop .runtime n) s = .next (s.onDev (reqStop n.val 2 false)) := by
  show Host.Outcome.next (wr .runtime (pgLEAF n.val) LEAF.MOVE_CMD.GO 64 s) = _
  rw [wr_moveCmd n.val 64 s n.isLt hh hr]
  show Host.Outcome.next { s with dev := if leafOut s.dev n.val then s.dev else reqStop n.val 2 false s.dev } = _
  rw [hout]
  rfl

/-- HSTOP on a page in service. -/
theorem exec_moveCmdHstop (n : LeafNo) (s : State) (hr : s.dev.runtimeActs = true) (hh : s.dev.part.hasLeaf n.val = true)
    (hout : leafOut s.dev n.val = false) : exec (.moveCmdHstop .runtime n) s = .next (s.onDev (hstopCmd n.val)) := by
  show Host.Outcome.next (wr .runtime (pgLEAF n.val) LEAF.MOVE_CMD.GO 128 s) = _
  rw [wr_moveCmd n.val 128 s n.isLt hh hr]
  show Host.Outcome.next { s with dev := if leafOut s.dev n.val then s.dev else hstopCmd n.val s.dev } = _
  rw [hout]
  rfl

/-- HSTOP asks the leaf itself for a hard stop (R143) and changes no register. -/
theorem hstopCmd_asks (n : Nat) (d : Dev) (hn : n < 8) :
    ((hstopCmd n d).prf n).stopReq = max 3 (d.prf n).stopReq ∧ (hstopCmd n d).act = d.act := by
  refine ⟨?_, reqStop_act n 3 false d⟩
  rw [hstopCmd, Dev.prf_modSeq]
  exact reqStop_stands n 3 false d hn (.inr rfl)

/-! Moves (R134, R135). -/

/-- GO acts on every page, with the set that its lowest two bits name. -/
theorem exec_moveCmdGo (n : LeafNo) (set : Fin 4) (s : State) (hr : s.dev.runtimeActs = true) (hh : s.dev.part.hasLeaf n.val = true) :
    exec (.moveCmdGo .runtime n set) s = .next (s.onDev (goCmd n.val set.val)) := by
  have hword : ∀ set : Fin 4, takenBits [LEAF.MOVE_CMD.HSTOP, LEAF.MOVE_CMD.QSTOP, LEAF.MOVE_CMD.STOP, LEAF.MOVE_CMD.GO,
      LEAF.MOVE_CMD.SET] ((16 + set.val) % 2 ^ 32) = 16 + set.val ∧ bit (16 + set.val) 7 = false ∧ bit (16 + set.val) 6 = false ∧
      bit (16 + set.val) 5 = false ∧ bit (16 + set.val) 4 = true ∧ (16 + set.val) % 4 = set.val := by decide
  obtain ⟨htaken, hhstop, hqstop, hstop, hgo, hset⟩ := hword set
  show Host.Outcome.next (wr .runtime (pgLEAF n.val) LEAF.MOVE_CMD.GO (16 + set.val) s) = _
  rw [wr_moveCmd n.val (16 + set.val) s n.isLt hh hr, htaken]
  congr 2
  funext d
  simp [moveCmd, hhstop, hqstop, hstop, hgo, hset]

/-- The move that is given for a target: the target clamped to the soft limits (R130). -/
def clampedMove (d : Dev) (n : Nat) (tgt : Int) (set : Nat) (seq : Bool) : MoveReq :=
  { tgt := clampI (d.geti (pgLEAF n) LEAF.SOFTMIN.SOFTMIN) (d.geti (pgLEAF n) LEAF.SOFTMAX.SOFTMAX) tgt, set := set, seq := seq }

/-- A stop or quick stop runs or is asked for (R135). -/
def stopUnderWay (p : PrfX) : Bool := p.stopKind == 1 || p.stopKind == 2 || p.stopReq == 1 || p.stopReq == 2

/-- A move of a single leaf with no limit switch in the way is given to the generator, and kept while a stop path is under way. -/
theorem giveMove_prf (n : Nat) (tgt : Int) (set : Nat) (seq : Bool) (d : Dev) (hn : n < 8) (hlig : ligFormed d n = false)
    (hopen : limBlocks d n true = false) (hclose : limBlocks d n false = false) :
    (giveMove n tgt set seq d).prf n =
      if stopUnderWay (d.prf n) then { d.prf n with kept := some (clampedMove d n tgt set seq), refused := false }
      else { d.prf n with req := some (clampedMove d n tgt set seq), refused := false } := by
  have hkn (f : KernX → KernX) (x : Dev) : (x.modKn n f).prf n = x.prf n := rfl
  have hev (c : Bool) (p k : Nat) : (d.evIf c p k).prf n = d.prf n := by cases c <;> rfl
  unfold giveMove
  simp only [hopen, hclose, hlig, Bool.and_false, Bool.or_false, Bool.false_and, Bool.false_eq_true, if_false]
  rw [Dev.prf_modPrf, if_pos ⟨rfl, hn⟩, hkn, Dev.prf_modSeq, Dev.prf_modPrf, if_pos ⟨rfl, hn⟩, hev, ← stopUnderWay]
  split <;> rfl

/-- A GO that R134 does not refuse gives its move. -/
theorem goCmd_given (n set : Nat) (d : Dev) (hset : set ≠ 3) (hst : directState d n = true) (hrel : released d n = true)
    (hlen : d.on (pgLEAF (evenOf n)) LEAF.LIG.LEN = false) (hlig : ligFormed d n = false) (hhard : (d.prf n).stopReq ≠ 3)
    (hout : leafOut d n = false) (hlow : d.vfld.low = false) (hblind : obsBlind d n = false) :
    goCmd n set d = giveMove n (d.geti (pgLEAF n) LEAF.MOVE_TGT.TGT) set false d := by
  unfold goCmd isFollower
  simp [hset, hst, hrel, hlen, hlig, hhard, hout, hlow, hblind]

/-- GO with the set 3, which names none, is refused. -/
theorem goCmd_noSet (n : Nat) (d : Dev) : goCmd n 3 d = refuseMove n d := by
  unfold goCmd
  exact if_pos (.inl rfl)

/-- A refused move (R134). -/
theorem refuseMove_spec (n : Nat) (d : Dev) (hn : n < 8) : (refuseMove n d).prf n = { d.prf n with refused := true } ∧
    (refuseMove n d).raised (pgLEAF n) Ev.LEAF.REFUSE = true ∧ (refuseMove n d).step = d.step := by
  refine ⟨?_, Dev.raised_ev_same _ _ _ (by decide), rfl⟩
  rw [refuseMove, Dev.prf_ev, Dev.prf_modPrf, if_pos ⟨rfl, hn⟩]

/-! The set-point queue (R136, R139). -/

/-- A write of `SPQ_A`. -/
theorem exec_spqAPush (n : LeafNo) (a : W32) (s : State) (hr : s.dev.runtimeActs = true) (hh : s.dev.part.hasLeaf n.val = true) :
    exec (.spqAPush .runtime n a) s = .next (s.onDev (spqPush n.val a.toNat)) :=
  congrArg Host.Outcome.next (wr_spqA n.val a.toNat s n.isLt hh hr a.isLt)

/-- An entry that finds room is appended. -/
theorem spqPush_room (n a : Nat) (d : Dev) (hn : n < 8) (hroom : (d.prf n).queue.length < 16) :
    ((spqPush n a d).prf n).queue = (d.prf n).queue ++
      [{ p := sgn 32 (d.prf n).spqP, v := sgn 32 (d.prf n).spqV, a := sgn 32 a }] ∧ (spqPush n a d).act = d.act := by
  unfold spqPush
  dsimp only
  rw [if_pos hroom]
  refine ⟨?_, rfl⟩
  rw [Dev.prf_modPrf, if_pos ⟨rfl, hn⟩]

/-- An entry that finds none is dropped with event SPQ. -/
theorem spqPush_full (n a : Nat) (d : Dev) (hfull : 16 ≤ (d.prf n).queue.length) : spqPush n a d = d.ev (pgLEAF n) Ev.LEAF.SPQ :=
  if_neg (by omega)

/-! Sequencer commands (R238, R240). -/

theorem Dev.seq_modSeq_same (n : Nat) (f : SeqX → SeqX) (d : Dev) (hn : n < 8) : (d.modSeq n f).seq n = f (d.seq n) := by
  unfold Dev.seq Dev.modSeq
  rw [Dev.lf_modLf, if_pos ⟨rfl, hn⟩]

/-- The bit of `SEQ_CMD` that gives a command. -/
def SeqCmd.mask : SeqCmd → Nat
  | .open_ => 1
  | .close => 2
  | .learn => 4
  | .refrun => 8
  | .ack => 16

/-- A write of `SEQ_CMD` with the bit of one command. -/
theorem wr_seqCmd_mask (n : Nat) (c : SeqCmd) (s : State) (hn : n < 8) (hh : s.dev.part.hasLeaf n = true)
    (hr : s.dev.runtimeActs = true) : wr .runtime (pgLEAF n) LEAF.SEQ_CMD.OPEN c.mask s = s.onDev (latchCmd n c) := by
  rw [wr_seqCmd n c.mask s hn hh hr]
  cases c <;> rfl

/-- A command to a leaf in service whose own page gives its doorway's commands is latched. -/
theorem latchCmd_latched (n : Nat) (c : SeqCmd) (d : Dev) (hn : n < 8) (hout : leafOut d n = false) (hdw : dwPage d n = n) :
    ((latchCmd n c d).seq n).cmd = some c ∧ (latchCmd n c d).act = d.act := by
  rw [latchCmd, if_neg (by simp [hout, hdw])]
  exact ⟨congrArg SeqX.cmd (Dev.seq_modSeq_same n _ d hn), rfl⟩

/-- A command to a page out of service is refused. -/
theorem latchCmd_refused (n : Nat) (c : SeqCmd) (d : Dev) (hn : n < 8) (hout : leafOut d n = true) :
    (latchCmd n c d).seq n = { d.seq n with refused := true } ∧ (latchCmd n c d).act = d.act := by
  rw [latchCmd, if_pos (by simp [hout])]
  exact ⟨Dev.seq_modSeq_same n _ d hn, rfl⟩

/-- CLRSUSP. -/
theorem exec_seqCmdClrsusp (n : LeafNo) (s : State) (hr : s.dev.runtimeActs = true) (hh : s.dev.part.hasLeaf n.val = true) :
    exec (.seqCmdClrsusp .runtime n) s = .next (s.onDev (clrSusp n.val)) := by
  show Host.Outcome.next (wr .runtime (pgLEAF n.val) LEAF.SEQ_CMD.OPEN 32 s) = _
  rw [wr_seqCmd n.val 32 s n.isLt hh hr]
  rfl

/-- A switch with these transition times, the latest first, has made none for one second (R238). -/
def switchQuiet (d : Dev) (hist : List Nat) : Bool := hist.head?.all fun t => decide (t + msMot 1000 ≤ d.tim.mot)

theorem all_head?_eq_match (p : Nat → Bool) (l : List Nat) : (match l with | [] => true | t :: _ => p t) = l.head?.all p := by
  cases l <;> rfl

/-- CLRSUSP clears bit by bit. -/
theorem clrSusp_eq (n : Nat) (d : Dev) : clrSusp n d = d.modSeq n fun q =>
    let s := (d.seq n).susp
    let s := if switchQuiet d (d.lrn n).histC then setBit s 0 false else s
    let s := if switchQuiet d (d.lrn n).histO then setBit s 1 false else s
    { q with susp := if switchQuiet d (d.lrn n).histL then setBit s 2 false else s } := by
  unfold clrSusp switchQuiet
  simp only [← all_head?_eq_match] <;> rfl

/-- Clearing a bit on a condition. -/
theorem bit_clear_if (c : Bool) (v j i : Nat) : bit (if c then setBit v j false else v) i = (bit v i && !(c && decide (j = i))) := by
  cases c
  · simp
  · rw [if_pos rfl, bit_setBit_false, Bool.true_and, Bool.and_comm]

/-- CLRSUSP clears the suspicion of each quiet switch and nothing else of the sequencer. -/
theorem clrSusp_seq (n : Nat) (d : Dev) (hn : n < 8) : ∃ v, (clrSusp n d).seq n = { d.seq n with susp := v } ∧
    ∀ i, bit v i = (bit (d.seq n).susp i && !(switchQuiet d (d.lrn n).histC && decide (0 = i)) &&
      !(switchQuiet d (d.lrn n).histO && decide (1 = i)) && !(switchQuiet d (d.lrn n).histL && decide (2 = i))) := by
  rw [clrSusp_eq]
  exact ⟨_, Dev.seq_modSeq_same n _ d hn, fun i => by rw [bit_clear_if, bit_clear_if, bit_clear_if]⟩

theorem switchQuiet_of_head (d : Dev) (hist : List Nat) (h : ∀ x ∈ hist.head?, x + msMot 1000 ≤ d.tim.mot) :
    switchQuiet d hist = true := by
  unfold switchQuiet
  rw [Option.all_eq_true]
  exact fun x hx => decide_eq_true (h x hx)

/-! The obligation. -/

/-- Settles O10: each write of a command register is one request to the profile generator or to the sequencer. -/
theorem moveAndSequencerCommands : Obligations.MoveAndSequencerCommands := by
  unfold Obligations.MoveAndSequencerCommands
  refine ⟨fun s n hr hh hout => ⟨?_, ?_, ?_⟩, fun s n set a hr hh => ⟨?_, ?_, ?_, ?_⟩, fun s n hr hh => ⟨?_, ?_, ?_⟩⟩
  · exact ⟨_, exec_moveCmdStop n s hr hh hout, fun hkind => reqStop_stands n.val 1 false s.dev n.isLt (by omega),
      fun hkind => reqStop_runs n.val 1 false s.dev n.isLt (by omega), reqStop_act .., rfl⟩
  · exact ⟨_, exec_moveCmdQstop n s hr hh hout, fun hkind => reqStop_stands n.val 2 false s.dev n.isLt (by omega),
      fun hkind => reqStop_runs n.val 2 false s.dev n.isLt (by omega), reqStop_act .., rfl⟩
  · obtain ⟨hreq, hact⟩ := hstopCmd_asks n.val s.dev n.isLt
    exact ⟨_, exec_moveCmdHstop n s hr hh hout, hreq, hact, rfl⟩
  · intro hset hst hrel hlen hlig hhard hkind hreq hout hlow hblind hopen hclose
    have hprf := giveMove_prf n.val (s.dev.geti (pgLEAF n.val) LEAF.MOVE_TGT.TGT) set.val false s.dev n.isLt hlig hopen hclose
    rw [stopUnderWay, hkind, hreq, ← goCmd_given n.val set.val s.dev hset hst hrel hlen hlig hhard hout hlow hblind] at hprf
    refine ⟨_, exec_moveCmdGo n set s hr hh, ?_, ?_, rfl⟩ <;> rw [State.onDev_dev, hprf] <;> rfl
  · obtain ⟨hprf, hev, hstep⟩ := refuseMove_spec n.val s.dev n.isLt
    rw [← goCmd_noSet] at hprf hev hstep
    exact ⟨_, exec_moveCmdGo n 3 s hr hh, hprf, hev, hstep, rfl⟩
  · intro hroom
    exact ⟨_, exec_spqAPush n a s hr hh, spqPush_room n.val a.toNat s.dev n.isLt hroom⟩
  · intro hfull
    refine ⟨_, exec_spqAPush n a s hr hh, ?_⟩
    rw [State.onDev_dev, spqPush_full n.val a.toNat s.dev hfull]
    exact ⟨rfl, Dev.raised_ev_same _ _ _ (by decide)⟩
  · intro hout hdw
    have latched (c : SeqCmd) : ∃ t, Host.Outcome.next (wr .runtime (pgLEAF n.val) LEAF.SEQ_CMD.OPEN c.mask s) =
        (.next t : Host.Outcome State Fault Refusal) ∧ (t.dev.seq n.val).cmd = some c ∧ t.dev.act = s.dev.act ∧ t.mem = s.mem := by
      obtain ⟨hcmd, hact⟩ := latchCmd_latched n.val c s.dev n.isLt hout hdw
      exact ⟨_, congrArg _ (wr_seqCmd_mask n.val c s n.isLt hh hr), hcmd, hact, rfl⟩
    exact ⟨latched .open_, latched .close, latched .learn, latched .refrun, latched .ack⟩
  · intro hout
    obtain ⟨hseq, hact⟩ := latchCmd_refused n.val .open_ s.dev n.isLt hout
    exact ⟨_, congrArg Host.Outcome.next (wr_seqCmd_mask n.val .open_ s n.isLt hh hr), hact, hseq, rfl⟩
  · obtain ⟨v, hseq, hbit⟩ := clrSusp_seq n.val s.dev n.isLt
    refine ⟨_, exec_seqCmdClrsusp n s hr hh, ?_⟩
    rw [State.onDev_dev, hseq]
    refine ⟨fun h => ?_, fun h => ?_, fun h => ?_, rfl, rfl⟩ <;> simp [hbit, switchQuiet_of_head _ _ h]

end Sys2Proof.Machine
end

section
/-! PROOFS. The stop-path timeout (R147): it asks for the hard stop where a request of the table "Stop requests", or none, is pending. -/

namespace Sys2Proof.Machine

/-! A request outside the table "Stop requests". -/

/-- A running core whose LEAF0 stands in a stop path past its timeout and holds 5 as its pending request, a code above that of the
hard stop, which the step never sets. -/
def unknownRequest : State := State.reset.onDev fun d =>
  { d with boot := { d.boot with up := true } }.modPrf 0 fun p => { p with stopKind := 1, stopReq := 5, zeroN := 64 }

/-- There the timeout leaves the pending request as it is. -/
theorem stopTimeout_unknownRequest : unknownRequest.dev.alive = true ∧ ((stopTimeout 0 unknownRequest.dev).prf 0).stopReq = 5 := by
  decide +kernel

/-! For the requests of the table. -/

/-- What a halt's hard stop keeps of a leaf's profile generator stands after a report. -/
theorem keepsPrf (m : Nat) (Q : PrfX → Prop)
    (hstop : ∀ p : PrfX, Q p → Q (if p.stopKind = 3 then p else { p with stopReq := 3, stopOwn := false })) :
    ReportKeeps fun d => Q (d.prf m) where
  flt f d h := h
  ev n d h := h
  info v d h := h
  cnt v d h := h
  gates a d ha h := by
    have hprf : (gatesOff a d).prf m = d.prf m := by
      unfold gatesOff Dev.modDrv Dev.prf
      split
      · rw [Dev.lf_put, Dev.lf_modLf]
        split <;> rfl
      · rfl
    rw [hprf]
    exact h
  stop n d h := by
    rw [Dev.prf_modPrf]
    split
    · exact hstop _ h
    · exact h
  hard n d h := by
    rw [Dev.prf_modSeq]
    exact h
  lock x d h := h
  chan x y z d h := h
  forme x d h := h
  frm v d h := h
  rec_ f x d h := h
  anom n b d h := h

/-- A pending request of the table is one of the table after a fault entry. -/
theorem fault_stopReq_le (m pg : Nat) (c : Cause) (inst : Nat) (d : Dev) (h : (d.prf m).stopReq ≤ 3) :
    ((d.fault pg c inst).prf m).stopReq ≤ 3 := by
  refine (keepsPrf m (fun p => p.stopReq ≤ 3) fun p hp => ?_).fault (fun _ _ h => h) pg c inst d h
  split
  · exact hp
  · exact Nat.le_refl 3

/-- A fault of a leaf whose path is the hard stop leaves that request pending. -/
theorem leafFault_hard (n pg : Nat) (c : Cause) (inst : Nat) (d : Dev) (hn : n < 8) (hreq : (d.prf n).stopReq ≤ 3) :
    ((leafFault n pg c inst 3 d).prf n).stopReq = 3 := by
  rw [leafFault, seqFault, Dev.prf_modSeq]
  exact (reqStop_stands n 3 false (d.fault pg c inst) hn (.inr rfl)).trans (Nat.max_eq_left (fault_stopReq_le n pg c inst d hreq))

/-- A stop path without standstill 64 servo periods after its end is a fault event, with event STOPTO and the hard stop requested. -/
theorem stopTimeout_asks (n : Nat) (d : Dev) (hn : n < 8) (hh : d.part.hasLeaf n = true)
    (hkind : (d.prf n).stopKind = 1 ∨ (d.prf n).stopKind = 2) (hzero : 64 ≤ (d.prf n).zeroN) (hreq : (d.prf n).stopReq ≤ 3) :
    (stopTimeout n d).faultEvent n = true ∧ (stopTimeout n d).raised (pgLEAF n) Ev.LEAF.STOPTO = true ∧
      ((stopTimeout n d).prf n).stopReq = 3 := by
  have hcond : (d.part.hasLeaf n && ((d.prf n).stopKind == 1 || (d.prf n).stopKind == 2) && decide (64 ≤ (d.prf n).zeroN)) = true := by
    simp [hh, hkind, hzero]
  have hfault : stopTimeout n d = leafFault n (pgLEAF n) Cz.LEAF.STOPTO 0xFF 3
      ((d.modPrf n fun p => { p with zeroN := 0 }).ev (pgLEAF n) Ev.LEAF.STOPTO) := if_pos hcond
  have haxis (d : Dev) : leafFault n (pgLEAF n) Cz.LEAF.STOPTO 0xFF 3 d = axisFault n Cz.LEAF.STOPTO 0xFF 3 d := (if_pos hn).symm
  rw [hfault]
  refine ⟨?_, ?_, leafFault_hard n _ _ _ _ hn ?_⟩
  · rw [haxis]
    exact axisFault_faultEvent n _ _ _ _ (by omega)
  · rw [haxis]
    exact axisFault_raised _ _ n _ _ _ _ (by decide) (Dev.raised_ev_same _ _ _ (by decide))
  · rw [Dev.prf_ev, Dev.prf_modPrf, if_pos ⟨rfl, hn⟩]
    exact hreq

/-! The obligation. -/

/-- Refutes O15: the clause of R147 takes every number for a pending stop request, also `unknownRequest`'s 5, which the model leaves
standing as harsher than the hard stop. `stopTimeout_asks` is the clause for the requests of the table. -/
theorem not_motionEvents : ¬ Obligations.MotionEvents := by
  unfold Obligations.MotionEvents
  rintro ⟨h, -⟩
  obtain ⟨halive, hkept⟩ := stopTimeout_unknownRequest
  obtain ⟨hleaf, -⟩ := h unknownRequest 0 0 halive
  obtain ⟨-, -, hstopto⟩ := hleaf (by decide +kernel)
  obtain ⟨t, ht, -, -, hreq, -⟩ := hstopto (by decide +kernel) (by decide +kernel)
  have hx : exec (.stopto 0) unknownRequest = .next (unknownRequest.onDev (stopTimeout 0)) := by
    show Host.Outcome.next (unknownRequest.onDev (Dev.live (stopTimeout 0))) = _
    rw [State.onDev, Dev.live_of _ _ halive]
    rfl
  have htt : unknownRequest.onDev (stopTimeout 0) = t := Host.Outcome.next.inj (hx.symm.trans ht)
  rw [← htt] at hreq
  exact absurd (hkept.symm.trans hreq) (by decide)

end Sys2Proof.Machine
end

section
/-! PROOFS. `OBS_CTRL` and `POS_CTRL`: what the runtime's write of each bit does to the Observer's registers and to the position
feedback (R180, R191, R206, R214). -/

namespace Sys2Proof.Machine

/-- What the change for one element of a list brings about, and the change for every element of the list keeps, holds once all are made. -/
theorem Dev.each_sets_mem {α : Type} (P : Dev → Prop) (l : List α) (f : α → Dev → Dev) (d : Dev) (a : α) (ha : a ∈ l)
    (hset : ∀ d, P (f a d)) (hkeep : ∀ b d, b ∈ l → P d → P (f b d)) : P (d.each l f) := by
  obtain ⟨l₁, l₂, rfl⟩ := List.append_of_mem ha
  unfold Dev.each
  rw [List.foldl_append, List.foldl_cons]
  exact Dev.each_mem P l₂ f _ (fun b d hb => hkeep b d (by simp [hb])) (hset _)

/-! The kerning table's cells. -/

theorem place_ktoFric (b : Nat) (hb : b < 256) : (OBS.KTO.FRIC.at b).place = (256 + b) * 32 := by
  simp only [Fld.place, Fld.at, Fld.arr, OBS.KTO.FRIC, fld]; omega

theorem place_ktcFric (b : Nat) (hb : b < 256) : (OBS.KTC.FRIC.at b).place = (512 + b) * 32 := by
  simp only [Fld.place, Fld.at, Fld.arr, OBS.KTC.FRIC, fld]; omega

theorem place_ktbBaseo (b : Nat) (hb : b < 256) : (OBS.KTB.BASEO.at b).place = (768 + b) * 32 := by
  simp only [Fld.place, Fld.at, Fld.arr, OBS.KTB.BASEO, fld]; omega

theorem place_ktbBasec (b : Nat) (hb : b < 256) : (OBS.KTB.BASEC.at b).place = (768 + b) * 32 + 16 := by
  simp only [Fld.place, Fld.at, Fld.arr, OBS.KTB.BASEC, fld]; omega

/-! REBASE (R191). -/

/-- REBASE of one bin: FRIC of each direction is copied into its BASE. -/
def rebaseBin (n b : Nat) (d : Dev) : Dev :=
  (d.put (pgOBS n) (OBS.KTB.BASEO.at b) (d.get (pgOBS n) (OBS.KTO.FRIC.at b))).put (pgOBS n) (OBS.KTB.BASEC.at b)
    (d.get (pgOBS n) (OBS.KTC.FRIC.at b))

/-- Bin `b`'s BASE of both directions holds its FRIC. -/
def Rebased (n b : Nat) (d : Dev) : Prop :=
  d.get (pgOBS n) (OBS.KTB.BASEO.at b) = d.get (pgOBS n) (OBS.KTO.FRIC.at b) % 2 ^ OBS.KTB.BASEO.w ∧
    d.get (pgOBS n) (OBS.KTB.BASEC.at b) = d.get (pgOBS n) (OBS.KTC.FRIC.at b) % 2 ^ OBS.KTB.BASEC.w

section
variable (n b c : Nat) (d : Dev) (hb : b < 256) (hc : c < 256)
include hb hc

/-- REBASE leaves the friction table. -/
theorem rebaseBin_fric : (rebaseBin n b d).get (pgOBS n) (OBS.KTO.FRIC.at c) = d.get (pgOBS n) (OBS.KTO.FRIC.at c) ∧
    (rebaseBin n b d).get (pgOBS n) (OBS.KTC.FRIC.at c) = d.get (pgOBS n) (OBS.KTC.FRIC.at c) := by
  have hfrico := place_ktoFric c hc
  have hfricc := place_ktcFric c hc
  have hbaseo := place_ktbBaseo b hb
  have hbasec := place_ktbBasec b hb
  unfold rebaseBin
  constructor <;> rw [Dev.get_put_place _ _ _ _ _ _ (by omega), Dev.get_put_place _ _ _ _ _ _ (by omega)]

/-- A bin's REBASE sets its own BASE cells and leaves those of the other bins. -/
theorem rebaseBin_base : (b = c → Rebased n c (rebaseBin n b d)) ∧ (Rebased n c d → Rebased n c (rebaseBin n b d)) := by
  have hbaseo := place_ktbBaseo c hc
  have hbasec := place_ktbBasec c hc
  have hbaseo' := place_ktbBaseo b hb
  have hbasec' := place_ktbBasec b hb
  obtain ⟨hfrico, hfricc⟩ := rebaseBin_fric n b c d hb hc
  unfold Rebased
  rw [hfrico, hfricc]
  have hown : b = c → (rebaseBin n b d).get (pgOBS n) (OBS.KTB.BASEO.at c) = d.get (pgOBS n) (OBS.KTO.FRIC.at c) % 2 ^ OBS.KTB.BASEO.w ∧
      (rebaseBin n b d).get (pgOBS n) (OBS.KTB.BASEC.at c) = d.get (pgOBS n) (OBS.KTC.FRIC.at c) % 2 ^ OBS.KTB.BASEC.w := by
    rintro rfl
    unfold rebaseBin
    rw [Dev.get_put_place _ _ _ _ _ _ (by omega), Dev.get_put_same, Dev.get_put_same]
    exact ⟨rfl, rfl⟩
  refine ⟨hown, fun h => ?_⟩
  by_cases hbc : b = c
  · exact hown hbc
  · unfold rebaseBin
    rw [Dev.get_put_place _ _ _ _ _ _ (by omega), Dev.get_put_place _ _ _ _ _ _ (by omega),
      Dev.get_put_place _ _ _ _ _ _ (by omega), Dev.get_put_place _ _ _ _ _ _ (by omega)]
    exact h

end

/-- REBASE at standstill: every bin is copied, KTVER counts the write, and WEARF clears. -/
theorem obsRebase_still (n : Nat) (d : Dev) (h : (d.prf n).still = true) :
    obsRebase n d = (ktVer n (d.each (List.range 256) (rebaseBin n))).put (pgOBS n) OBS.OBS_STAT.WEARF 0 := if_pos h

/-- REBASE in motion is ignored. -/
theorem obsRebase_moving (n : Nat) (d : Dev) (h : (d.prf n).still = false) : obsRebase n d = d := if_neg (by simp [h])

theorem obsRebase_wearf (n : Nat) (d : Dev) (h : (d.prf n).still = true) : (obsRebase n d).get (pgOBS n) OBS.OBS_STAT.WEARF = 0 := by
  rw [obsRebase_still n d h, Dev.get_put_same]
  rfl

/-- What follows the copy of the bins writes no cell of the table. -/
theorem obsRebase_get (n : Nat) (d : Dev) (f : Fld) (h : (d.prf n).still = true) (hver : f.place ≠ OBS.KTVER.VER.place)
    (hwear : f.place ≠ OBS.OBS_STAT.WEARF.place) :
    (obsRebase n d).get (pgOBS n) f = (d.each (List.range 256) (rebaseBin n)).get (pgOBS n) f := by
  rw [obsRebase_still n d h, Dev.get_put_place _ _ _ _ _ _ hwear]
  unfold ktVer
  rw [Dev.inc_eq, Dev.inc_eq, Dev.get_put_place _ _ _ _ _ _ hver, Dev.get_put_place _ _ _ _ _ _ hver]

/-- REBASE at standstill copies FRIC into BASE for both directions. -/
theorem obsRebase_base (n b : Nat) (d : Dev) (hb : b < 256) (h : (d.prf n).still = true) :
    (obsRebase n d).get (pgOBS n) (OBS.KTB.BASEO.at b) = d.get (pgOBS n) (OBS.KTO.FRIC.at b) % 2 ^ OBS.KTB.BASEO.w ∧
      (obsRebase n d).get (pgOBS n) (OBS.KTB.BASEC.at b) = d.get (pgOBS n) (OBS.KTC.FRIC.at b) % 2 ^ OBS.KTB.BASEC.w := by
  have hbaseo := place_ktbBaseo b hb
  have hbasec := place_ktbBasec b hb
  have hver : OBS.KTVER.VER.place = 2368 := rfl
  have hwear : OBS.OBS_STAT.WEARF.place = 2074 := rfl
  have hcopied : Rebased n b (d.each (List.range 256) (rebaseBin n)) :=
    Dev.each_sets_mem (Rebased n b) _ _ d b (List.mem_range.mpr hb) (fun d => (rebaseBin_base n b b d hb hb).1 rfl)
      fun c d hc => (rebaseBin_base n c b d (List.mem_range.mp hc) hb).2
  have hfric := Dev.each_mem (fun t => t.get (pgOBS n) (OBS.KTO.FRIC.at b) = d.get (pgOBS n) (OBS.KTO.FRIC.at b) ∧
      t.get (pgOBS n) (OBS.KTC.FRIC.at b) = d.get (pgOBS n) (OBS.KTC.FRIC.at b)) (List.range 256) (rebaseBin n) d
    (fun c t hc => by
      obtain ⟨ho, hcl⟩ := rebaseBin_fric n c b t (List.mem_range.mp hc) hb
      exact fun h => ⟨ho.trans h.1, hcl.trans h.2⟩) ⟨rfl, rfl⟩
  rw [obsRebase_get n d _ h (by omega) (by omega), obsRebase_get n d _ h (by omega) (by omega), hcopied.1, hcopied.2, hfric.1, hfric.2]
  exact ⟨rfl, rfl⟩

/-- REBASE changes registers alone. -/
theorem obsRebase_engines (n : Nat) (d : Dev) : (obsRebase n d).obs = d.obs ∧ (obsRebase n d).leaf = d.leaf := by
  have hbins : (d.each (List.range 256) (rebaseBin n)).obs = d.obs ∧ (d.each (List.range 256) (rebaseBin n)).leaf = d.leaf :=
    Dev.each_ind (fun t => t.obs = d.obs ∧ t.leaf = d.leaf) _ _ d (fun _ _ h => h) ⟨rfl, rfl⟩
  have hrest (t : Dev) : ((ktVer n t).put (pgOBS n) OBS.OBS_STAT.WEARF 0).obs = t.obs ∧
      ((ktVer n t).put (pgOBS n) OBS.OBS_STAT.WEARF 0).leaf = t.leaf := ⟨rfl, rfl⟩
  cases h : (d.prf n).still
  · rw [obsRebase_moving n d h]
    exact ⟨rfl, rfl⟩
  · rw [obsRebase_still n d h, (hrest _).1, (hrest _).2]
    exact hbins

/-- CLRDET clears the latched detection and its kind, position and force. -/
theorem obsClrdet_cleared (n : Nat) (d : Dev) : (obsClrdet n d).get (pgOBS n) OBS.OBS_STAT.DET = 0 ∧
    (obsClrdet n d).get (pgOBS n) OBS.OBS_STAT.KIND = 0 ∧ (obsClrdet n d).get (pgOBS n) OBS.DETPOS.POS = 0 ∧
    (obsClrdet n d).get (pgOBS n) OBS.DETF.F = 0 ∧ (obsClrdet n d).obs = d.obs := by
  simp (disch := decide) only [obsClrdet, Dev.putB_eq, Dev.get_put_place, Dev.get_put_same, Dev.put_obs]
  exact ⟨rfl, rfl, rfl, rfl, trivial⟩

/-! Writes of `OBS_CTRL` by the runtime, in safe context or not (R12, R28). -/

theorem wr_obsCtrl (src : Src) (n v : Nat) (s : State) (hn : n < 8) (hh : s.dev.part.hasLeaf n = true) (hr : s.dev.runtimeActs = true)
    (hsrc : src = .runtime ∨ src = .runtimeSafe) :
    wr src (pgOBS n) OBS.OBS_CTRL.CLRDET v s =
      s.onDev (obsCtrl n (takenBits [OBS.OBS_CTRL.REBASE, OBS.OBS_CTRL.CLRDET] (v % 2 ^ 32))) := by
  have hfields : ((hdrWo ++ unitFields (.obs 0)).filter fun g => g.off == OBS.OBS_CTRL.CLRDET.off && g.acc != .ro) =
      [OBS.OBS_CTRL.REBASE, OBS.OBS_CTRL.CLRDET] := by decide +kernel
  have hwo : ∀ g ∈ [OBS.OBS_CTRL.REBASE, OBS.OBS_CTRL.CLRDET], g.acc = .wo := by decide
  have hmay : srcMay s.dev src true (regAddr (pgOBS n) OBS.OBS_CTRL.CLRDET.off) = true ∧
      pageLocked s.dev (.obs n) src OBS.OBS_CTRL.CLRDET.off = false ∧ roRefused s.dev (.obs n) src OBS.OBS_CTRL.CLRDET.off = false ∧
      ∀ g : Fld, g.acc = .wo → fieldMay (.obs n) src g = true := by
    rcases hsrc with rfl | rfl
    · exact ⟨srcMay_runtime _ _ _ hr, rfl, rfl, fun g hg => by unfold fieldMay; rw [hg]; rfl⟩
    · exact ⟨srcMay_runtimeSafe _ _ _ hr, rfl, rfl, fun g hg => by unfold fieldMay; rw [hg]; rfl⟩
  obtain ⟨hsrcMay, hlock, hro, hfield⟩ := hmay
  rw [wr_wo src (pgOBS n) OBS.OBS_CTRL.CLRDET v s (.obs n) [OBS.OBS_CTRL.REBASE, OBS.OBS_CTRL.CLRDET] (by unfold pgOBS; omega) (by decide)
    (by decide) (unitOf_obs n hn) hh hsrcMay hlock hfields (fun _ _ => rfl) (by decide) hwo (fun g hg => hfield g (hwo g hg)) (by simp) hro rfl]
  rfl

/-- A write of REBASE acts as `obsRebase`. -/
theorem exec_obsCtrlRebase (src : Src) (n : LeafNo) (s : State) (hh : s.dev.part.hasLeaf n.val = true) (hr : s.dev.runtimeActs = true)
    (hsrc : src = .runtime ∨ src = .runtimeSafe) : exec (.obsCtrlRebase src n) s = .next (s.onDev (obsRebase n.val)) :=
  congrArg Host.Outcome.next (wr_obsCtrl src n.val 2 s n.isLt hh hr hsrc)

/-- A write of REBASE in motion changes nothing. -/
theorem exec_obsCtrlRebase_moving (src : Src) (n : LeafNo) (s : State) (hh : s.dev.part.hasLeaf n.val = true)
    (hr : s.dev.runtimeActs = true) (hsrc : src = .runtime ∨ src = .runtimeSafe) (h : (s.dev.prf n.val).still = false) :
    exec (.obsCtrlRebase src n) s = .next s := by
  rw [exec_obsCtrlRebase src n s hh hr hsrc, State.onDev, obsRebase_moving _ _ h]

/-- A write of CLRDET acts as `obsClrdet`. -/
theorem exec_obsCtrlClrdet (n : LeafNo) (s : State) (hh : s.dev.part.hasLeaf n.val = true) (hr : s.dev.runtimeActs = true) :
    exec (.obsCtrlClrdet .runtime n) s = .next (s.onDev (obsClrdet n.val)) :=
  congrArg Host.Outcome.next (wr_obsCtrl .runtime n.val 1 s n.isLt hh hr (.inl rfl))

/-- Settles O8: a write of REBASE from either context of the runtime is `obsRebase`, which copies the bins one by one. -/
theorem rebaseRule : Obligations.RebaseRule := by
  unfold Obligations.RebaseRule
  intro s n b safe hr hh
  have hsrc : (if safe then Src.runtimeSafe else .runtime) = .runtime ∨ (if safe then Src.runtimeSafe else .runtime) = .runtimeSafe := by
    cases safe
    · exact .inl rfl
    · exact .inr rfl
  refine ⟨fun hstill => ?_, exec_obsCtrlRebase_moving _ n s hh hr hsrc⟩
  obtain ⟨hbaseo, hbasec⟩ := obsRebase_base n.val b.val s.dev b.isLt hstill
  obtain ⟨hobs, hleaf⟩ := obsRebase_engines n.val s.dev
  exact ⟨_, exec_obsCtrlRebase _ n s hh hr hsrc, obsRebase_wearf n.val s.dev hstill, hbaseo, hbasec, hobs, hleaf, rfl⟩

/-! SETREF, CLRCNT and CLRFLT (R206, R214). -/

/-- SETREF on a valid position at rest waits for the next servo boundary. -/
theorem setrefCmd_taken (a : Nat) (d : Dev) (ha : a < 12) (hax : d.hasAxis a = true) (hvalid : (d.fbk a).valid = true)
    (hrest : if a < 8 then (d.prf a).src = 0 ∨ (d.drv a).mode ≠ mSERVO
      else (d.stp (a - 8)).plan = none ∧ (d.stp (a - 8)).stopPlan = none) :
    ((setrefCmd a d).fbk a).setRef = some (d.geti (pgPOS a) POS.REFVAL.REFVAL) ∧ (setrefCmd a d).act = d.act := by
  have hstill : (if a < 8 then (d.prf a).src == 0 || (d.drv a).mode != mSERVO
      else (d.stp (a - 8)).plan.isNone && (d.stp (a - 8)).stopPlan.isNone) = true := by
    split at hrest <;> simp [*]
  unfold setrefCmd
  dsimp only
  rw [hstill, hax, hvalid, Bool.and_self, Bool.and_self, if_pos rfl, Dev.fbk_modFb, if_pos ⟨rfl, ha⟩]
  exact ⟨rfl, rfl⟩

/-- SETREF on an invalid position is refused with REFNAK. -/
theorem setrefCmd_refused (a : Nat) (d : Dev) (hvalid : (d.fbk a).valid = false) :
    setrefCmd a d = d.ev (pgPOS a) Ev.POS.REFNAK := by
  unfold setrefCmd
  dsimp only
  rw [hvalid, Bool.and_false, Bool.false_and]
  rfl

/-- CLRCNT zeroes the counters of `DIAG`. -/
theorem posClrcnt_cleared (a : Nat) (d : Dev) : (posClrcnt a d).get (pgPOS a) POS.DIAG.XCHKC = 0 ∧
    (posClrcnt a d).get (pgPOS a) POS.DIAG.SSIC = 0 ∧ (posClrcnt a d).get (pgPOS a) POS.DIAG.HALLC = 0 ∧
    (posClrcnt a d).get (pgPOS a) POS.DIAG.ENCC = 0 ∧ (posClrcnt a d).pos = d.pos := by
  simp (disch := decide) only [posClrcnt, Dev.get_put_place, Dev.get_put_same, Dev.put_pos]
  exact ⟨rfl, rfl, rfl, rfl, trivial⟩

/-- Clearing a bit, or not, leaves the others. -/
theorem bit_clear_ne (c : Prop) [Decidable c] (v j i : Nat) (h : j ≠ i) : bit (if c then setBit v j false else v) i = bit v i := by
  split
  · rw [bit_setBit, if_neg h]
  · rfl

/-- CLRFLT forgets the cross-check and the slip, the invalid Hall code where the code is valid now, and the missing words where
none is missing. -/
theorem posClrflt_cleared (a : Nat) (d : Dev) (ha : a < 12) : ((posClrflt a d).ps a).xchk = false ∧ ((posClrflt a d).ps a).slip = false ∧
    ((d.ps a).code ≠ 0 → (d.ps a).code ≠ 7 → bit ((posClrflt a d).ps a).latch 0 = false) ∧
    ((d.ps a).miss = 0 → bit ((posClrflt a d).ps a).latch 4 = false) := by
  unfold posClrflt
  dsimp only
  rw [Dev.ps_modPs, if_pos ⟨rfl, ha⟩]
  refine ⟨rfl, rfl, fun h0 h7 => ?_, fun hmiss => ?_⟩
  · have hcode : ((d.ps a).code == 0 || (d.ps a).code == 7) = false := by simp [h0, h7]
    rw [hcode, if_neg Bool.false_ne_true, bit_clear_ne _ _ 4 0 (by decide), bit_clear_ne _ _ 3 0 (by decide),
      bit_clear_ne _ _ 2 0 (by decide), bit_clear_ne _ _ 1 0 (by decide), bit_setBit, if_pos rfl]
  · rw [if_pos hmiss, bit_setBit, if_pos rfl]

/-- An axis present has a feedback page. -/
theorem has_posUnit (d : Dev) (a : Nat) (hax : d.hasAxis a = true) : d.part.has (posUnit a) = true := by
  unfold Dev.hasAxis at hax
  unfold posUnit
  split at hax
  · rwa [if_pos ‹_›]
  · rwa [if_neg ‹_›]

/-- Settles O13: each write is one of the register's operations; REBASE is `rebaseRule`'s. -/
theorem observerAndFeedbackControl : Obligations.ObserverAndFeedbackControl := by
  unfold Obligations.ObserverAndFeedbackControl
  refine fun s hr => ⟨fun n hh => ⟨?_, fun hstill => ?_, exec_obsCtrlRebase_moving .runtime n s hh hr (.inl rfl)⟩,
    fun a hax => ?_⟩
  · obtain ⟨hdet, hkind, hpos, hf, hobs⟩ := obsClrdet_cleared n.val s.dev
    exact ⟨_, exec_obsCtrlClrdet n s hh hr, hdet, hkind, hpos, hf, hobs, rfl⟩
  · exact ⟨_, exec_obsCtrlRebase .runtime n s hh hr (.inl rfl), obsRebase_wearf n.val s.dev hstill,
      fun b => obsRebase_base n.val b.val s.dev b.isLt hstill⟩
  have hunit := has_posUnit s.dev a.val hax
  refine ⟨fun hvalid hrest => ?_, fun hvalid => ?_, ?_, ?_⟩
  · obtain ⟨href, hact⟩ := setrefCmd_taken a.val s.dev a.isLt hax hvalid hrest
    exact ⟨_, congrArg Host.Outcome.next (wr_pos a.val 1 POS.POS_CTRL.SETREF rfl s a.isLt hunit hr), href, hact, rfl⟩
  · refine ⟨_, congrArg Host.Outcome.next (wr_pos a.val 1 POS.POS_CTRL.SETREF rfl s a.isLt hunit hr), ?_⟩
    show (setrefCmd a.val s.dev).fb = s.dev.fb ∧ (setrefCmd a.val s.dev).raised (pgPOS a.val) Ev.POS.REFNAK = true
    rw [setrefCmd_refused a.val s.dev hvalid]
    exact ⟨rfl, Dev.raised_ev_same _ _ _ (by decide)⟩
  · obtain ⟨hx, hssi, hhall, henc, hpos⟩ := posClrcnt_cleared a.val s.dev
    exact ⟨_, congrArg Host.Outcome.next (wr_pos a.val 4 POS.POS_CTRL.CLRCNT rfl s a.isLt hunit hr), hx, hssi, hhall, henc, hpos, rfl⟩
  · obtain ⟨hx, hslip, hcode, hmiss⟩ := posClrflt_cleared a.val s.dev a.isLt
    exact ⟨_, congrArg Host.Outcome.next (wr_pos a.val 2 POS.POS_CTRL.CLRFLT rfl s a.isLt hunit hr), hx, hslip, hcode, hmiss, rfl⟩

end Sys2Proof.Machine
end

section
/-! PROOFS. What a report and a fault of a leaf leave of an Observer page's registers, of its kerning engine and of the leaf's
sequencer. -/

namespace Sys2Proof.Machine

/-- A register of an Observer page is none that a report to the fault manager writes. -/
theorem obsFld_notMem_reportKeys (n : Nat) (f : Fld) (hn : n < 8) (hoff : f.off / 4 < 1024) (hlo : f.lo < 32) :
    f.key (pgOBS n) ∉ reportKeys := by
  have hkey (g : Fld) (p : Nat) (hg : g.off / 4 < 1024 ∧ g.lo < 32) (hp : p < 0x18 ∨ 0x20 ≤ p) : f.key (pgOBS n) ≠ g.key p := by
    unfold Fld.key pgOBS; omega
  have hmode (a : Nat) (ha : a < 12) : f.key (pgOBS n) ≠ (drvReg a LEAF.DRV_STAT.MODE).key (pgDRV a) := by
    refine hkey _ _ ?_ (by unfold pgDRV; split <;> omega)
    rcases drvReg_leaf_or_step a with h | h <;> rw [h] <;> decide
  unfold reportKeys
  simp only [List.mem_cons, List.mem_map, List.mem_range, not_or]
  refine ⟨hkey _ _ (by decide) (by decide), hkey _ _ (by decide) (by decide), hkey _ _ (by decide) (by decide),
    hkey _ _ (by decide) (by decide), ?_⟩
  rintro ⟨a, ha, h⟩
  exact hmode a ha h.symm

/-- A part of a kerning engine other than its anomaly mark is unchanged by a report. -/
theorem keepsKern {α : Type} (g : KernX → α) (m : Nat) (c : α) (hg : ∀ b k, g { k with anom := b } = g k) :
    ReportKeeps fun d => g (d.kn m) = c where
  flt f d h := h
  ev n d h := h
  info v d h := h
  cnt v d h := h
  gates a d ha h := by
    unfold gatesOff Dev.modDrv
    split <;> exact h
  stop n d h := h
  hard n d h := h
  lock x d h := h
  chan x y z d h := h
  forme x d h := h
  frm v d h := h
  rec_ f x d h := h
  anom n b d h := by
    rw [Dev.kn_modKn]
    split
    · exact (hg _ _).trans h
    · exact h

/-- A report leaves the Observers' engines. -/
theorem Dev.obs_raise (pg : Nat) (c : Cause) (inst : Nat) (d : Dev) : (d.raise pg c inst).obs = d.obs :=
  (keepsPart Dev.obs d.obs (by intros; rfl) (by intros; rfl) (by intros; rfl) (by intros; rfl) (by intros; rfl) (by intros; rfl)
    (by intros; rfl) (by intros; rfl) (by intros; rfl) (by intros; rfl)).raise pg c inst d rfl

@[simp] theorem Dev.kn_ev (p k m : Nat) (d : Dev) : (d.ev p k).kn m = d.kn m := rfl

/-- A fault of a leaf on any of its pages keeps what a report, a condition and a change of the leaf's own part keep. -/
theorem leafFault_keeps {P : Dev → Prop} (k : ReportKeeps P) (hc2 : ∀ x d, P d → P { d with c2 := x })
    (hleaf : ∀ m f d, P d → P (d.modLf m f)) (n pg : Nat) (c : Cause) (inst path : Nat) (d : Dev) (h : P d) :
    P (leafFault n pg c inst path d) := by
  unfold leafFault seqFault reqStop
  dsimp only
  refine hleaf _ _ _ ?_
  split
  · exact hleaf _ _ _ (hleaf _ _ _ (k.fault hc2 pg c inst d h))
  · exact hleaf _ _ _ (k.fault hc2 pg c inst d h)

/-- A fault of a leaf leaves a fault event for its sequencer. -/
theorem leafFault_faultEvent (n pg : Nat) (c : Cause) (inst path : Nat) (d : Dev) (hn : n < 8) :
    (leafFault n pg c inst path d).faultEvent n = true := by
  unfold Dev.faultEvent leafFault seqFault
  rw [if_pos hn, Dev.seq_modSeq_same _ _ _ hn]
  rfl

/-- A command that changes the device alone, while the core die runs. -/
theorem doDev_live (f : Dev → Dev) (s : State) (h : s.dev.alive = true) : doDev (Dev.live f) s = .next (s.onDev f) := by
  unfold doDev State.onDev
  rw [Dev.live_of f s.dev h]

end Sys2Proof.Machine
end

section
/-! PROOFS. Obstacle detections of the Observer (R176 to R180). -/

namespace Sys2Proof.Machine

/-! The lowest kind met. -/

section
variable (n : Nat) (d : Dev)

theorem metKind_force (hpos : 0 < (d.ob n).tdet) (h : ocfg d n OBS.OBS_CFG.TDET ≤ (d.ob n).tdet) : metKind d n = 1 := if_pos ⟨h, hpos⟩

theorem metKind_stall (ht : (d.ob n).tdet = 0) (hpos : 0 < (d.ob n).stall) (h : ocfg d n OBS.SEAL2.STALLN ≤ (d.ob n).stall) :
    metKind d n = 2 := by
  unfold metKind
  rw [if_neg (by omega), if_pos ⟨h, hpos⟩]

theorem metKind_stiffness (ht : (d.ob n).tdet = 0) (hs : (d.ob n).stall = 0) (hpos : 0 < (d.ob n).stiff)
    (h : ocfg d n OBS.SEAL3.STIFFN ≤ (d.ob n).stiff) : metKind d n = 3 := by
  unfold metKind
  rw [if_neg (by omega), if_neg (by omega), if_pos ⟨h, hpos⟩]

theorem metKind_edge (ht : (d.ob n).tdet = 0) (hs : (d.ob n).stall = 0) (hst : (d.ob n).stiff = 0)
    (h : edgeActs d n 0 = true ∨ edgeActs d n 1 = true) : metKind d n = if edgeActs d n 0 = true then 4 else 5 := by
  unfold metKind
  rw [if_neg (by omega), if_neg (by omega), if_neg (by omega)]
  split
  · rfl
  · exact if_pos (h.resolve_left ‹_›)

end

/-! What a detection leaves. -/

/-- A detection of kind `kind` on leaf `n` has been latched, reported and told to the sequencer. -/
structure Detected (n kind : Nat) (t : Dev) : Prop where
  det : t.get (pgOBS n) OBS.OBS_STAT.DET = 1
  kind : t.get (pgOBS n) OBS.OBS_STAT.KIND = kind
  told : (t.seq n).det = true
  event : t.raised (pgOBS n) Ev.OBS.OBST = true
  inhibit : (t.ob n).inhibit = true

/-- The event and the report of a detection leave what its latch, the engine and the sequencer hold of it. -/
theorem detected_report (n kind : Nat) (x : Dev) (hn : n < 8)
    (hlatch : x.get (pgOBS n) OBS.OBS_STAT.DET = 1 ∧ x.get (pgOBS n) OBS.OBS_STAT.KIND = kind) (htold : (x.seq n).det = true) (hinh : (x.ob n).inhibit = true) :
    Detected n kind ((x.ev (pgOBS n) Ev.OBS.OBST).raise (pgOBS n) Cz.OBS.OBSTACLE kind) where
  det := by
    rw [Dev.get_raise_ne _ _ _ _ _ _ (obsFld_notMem_reportKeys n _ hn (by decide) (by decide)), Dev.get_ev_place _ _ _ _ _ (by decide)]
    exact hlatch.1
  kind := by
    rw [Dev.get_raise_ne _ _ _ _ _ _ (obsFld_notMem_reportKeys n _ hn (by decide) (by decide)), Dev.get_ev_place _ _ _ _ _ (by decide)]
    exact hlatch.2
  told := (keepsLeaf (fun l => l.seq.det) n true (fun _ _ => rfl) (fun _ _ _ => rfl) (fun _ _ => rfl)).raise _ _ _ _ htold
  event := (keepsRaised _ _ (by decide)).raise _ _ _ _ (Dev.raised_ev_same _ _ _ (by decide))
  inhibit := by
    unfold Dev.ob at *
    rw [Dev.obs_raise]
    exact hinh

/-- A stop request changes no register and no Observer's engine. -/
theorem get_reqStop (n k q : Nat) (own : Bool) (g : Fld) (d : Dev) : (reqStop n k own d).get q g = d.get q g :=
  congrArg (fun c => Cells.get c _ _) (reqStop_act n k own d)

theorem ob_reqStop (n k m : Nat) (own : Bool) (d : Dev) : (reqStop n k own d).ob m = d.ob m := by
  unfold reqStop
  dsimp only
  split <;> rfl

/-- Where detection runs and a kind is met, that kind is detected. -/
theorem detect_detected (n kind : Nat) (d : Dev) (hn : n < 8) (hh : d.part.hasLeaf n = true) (hr : detRuns d n = true)
    (hk : metKind d n = kind) (hpos : 0 < kind) (hle : kind ≤ 5) : Detected n kind (detect n d) := by
  have hcond : (d.part.hasLeaf n && detRuns d n && kind != 0) = true := by simp [hh, hr]; omega
  unfold detect
  dsimp only
  rw [hk, if_pos hcond]
  refine detected_report n kind _ hn ?_ ?_ ?_
  · simp (disch := decide) only [Dev.modMov_eq, Dev.modSeq_eq, Dev.get_modLf, Dev.get_modKn, Dev.get_modOb, get_reqStop, Dev.putB_eq,
      Dev.puti_eq, Dev.incSat_eq, Dev.get_put_place, Dev.get_put_same]
    exact ⟨rfl, Nat.mod_eq_of_lt (show kind < 2 ^ 3 by omega)⟩
  · simp only [Dev.seq, Dev.modMov_eq, Dev.modSeq_eq, Dev.lf_modLf, Dev.lf_modKn, hn, and_self, if_true]
  · simp only [Dev.modMov_eq, Dev.modSeq_eq, Dev.ob_modLf, Dev.ob_modKn, ob_reqStop, Dev.ob_modOb, hn, and_self, if_true]

end Sys2Proof.Machine
end

section
/-! PROOFS. Kerning-table updates at the end of a learn run and of a movement (R163 to R169, R190). -/

namespace Sys2Proof.Machine

/-! The frozen-table bit. -/

theorem get_publishFrz (n q : Nat) (g : Fld) (d : Dev) (h : g.place ≠ OBS.OBS_STAT.FRZ.place) :
    (publishFrz n d).get q g = d.get q g := Dev.get_put_place _ _ _ _ _ _ h

theorem raised_publishFrz (n q k : Nat) (d : Dev) : (publishFrz n d).raised q k = d.raised q k :=
  Dev.raised_put_place _ _ _ _ _ _ (by decide)

@[simp] theorem kn_publishFrz (n m : Nat) (d : Dev) : (publishFrz n d).kn m = d.kn m := rfl

/-! The wear figures. -/

/-- The registers that the wear figures of a table update go to. -/
def wearFlds : List Fld := [OBS.WEARV.FRISE, OBS.WEARV.SEALW, OBS.WEARV.DRIVE, OBS.WEAR.WEAR, OBS.OBS_STAT.WEARF]

/-- The wear figures keep what their registers, event WEAR and a report keep. -/
theorem ktWear_keeps {P : Dev → Prop} (k : ReportKeeps P) (n : Nat) (hput : ∀ f ∈ wearFlds, ∀ v d, P d → P (d.put (pgOBS n) f v))
    (hev : ∀ d, P d → P (d.ev (pgOBS n) Ev.OBS.WEAR)) (d : Dev) (h : P d) : P (ktWear n d) := by
  have hflag (i : Nat) (above : Bool) (d : Dev) (h : P d) : P (wearFlag n i above d) := by
    unfold wearFlag
    dsimp only
    split
    · exact k.raise _ _ _ _ (hev _ (hput _ (by simp [wearFlds]) _ _ h))
    · exact h
  unfold ktWear
  dsimp only
  refine hflag _ _ _ (hflag _ _ _ (hflag _ _ _ ?_))
  exact hput _ (by simp [wearFlds]) _ _ (hput _ (by simp [wearFlds]) _ _ (hput _ (by simp [wearFlds]) _ _
    (hput _ (by simp [wearFlds]) _ _ h)))

theorem ktWear_raised (n q j : Nat) (d : Dev) (hj : j < 32) (h : d.raised q j = true) : (ktWear n d).raised q j = true :=
  ktWear_keeps (keepsRaised q j hj) n (fun f hf v d h => (Dev.raised_put_place _ _ _ _ _ _ (by
      revert f; decide)).trans h)
    (fun _ h => Dev.raised_ev_keep _ _ _ _ _ hj h) d h

/-- The wear figures leave the kerning engine but for its anomaly mark. -/
theorem ktWear_kn {α : Type} (g : KernX → α) (hg : ∀ b k, g { k with anom := b } = g k) (n m : Nat) (d : Dev) :
    g ((ktWear n d).kn m) = g (d.kn m) :=
  ktWear_keeps (keepsKern g m _ hg) n (fun _ _ _ _ h => h) (fun _ h => h) d rfl

/-- The wear figures leave the directions that settle. -/
theorem ktWear_settle (n : Nat) (d : Dev) (hn : n < 8) :
    (ktWear n d).get (pgOBS n) OBS.OBS_STAT.SETTLE = d.get (pgOBS n) OBS.OBS_STAT.SETTLE :=
  ktWear_keeps (keepsReg _ _ _ (obsFld_notMem_reportKeys n _ hn (by decide) (by decide))) n
    (fun f hf v d h => (Dev.get_put_place _ _ _ _ _ _ (by revert f; decide)).trans h)
    (fun _ h => (Dev.get_ev_place _ _ _ _ _ (by decide)).trans h) d rfl

/-! A completed learn run (R169). -/

@[simp] theorem kn_ktVer (n m : Nat) (d : Dev) : (ktVer n d).kn m = d.kn m := rfl

/-- What the end of a learn run leaves in the kerning engine. -/
def learnRunOver (k : KernX) : KernX :=
  { k with learnDone := false, learnO := [], learnC := [], raw := [], jO := 0, jC := 0, probation := 0, dirty := true }

/-- Once the cells are replaced, the engine forgets the run, both directions settle, the counts of clean movements begin anew, KTVER
counts the write, and the wear figures follow event KTUPD. -/
theorem ktReplace_eq (n : Nat) (d : Dev) : ∃ e : Dev, ktReplace n d = ktWear n ((ktVer n ((((e.modKn n learnRunOver).put (pgOBS n)
    OBS.OBS_STAT.SETTLE 3).put (pgOBS n) OBS.CLEAN.CLEANO 0).put (pgOBS n) OBS.CLEAN.CLEANC 0)).ev (pgOBS n) Ev.OBS.KTUPD) := ⟨_, rfl⟩

/-- The replaced table is dirty, both directions settle, and KTUPD is raised. -/
theorem ktReplace_replaced (n : Nat) (d : Dev) (hn : n < 8) : ((ktReplace n d).kn n).learnDone = false ∧
    ((ktReplace n d).kn n).dirty = true ∧ (ktReplace n d).raised (pgOBS n) Ev.OBS.KTUPD = true ∧
    (ktReplace n d).get (pgOBS n) OBS.OBS_STAT.SETTLE = 3 := by
  obtain ⟨e, he⟩ := ktReplace_eq n d
  rw [he]
  refine ⟨?_, ?_, ktWear_raised _ _ _ _ (by decide) (Dev.raised_ev_same _ _ _ (by decide)), ?_⟩
  · rw [ktWear_kn KernX.learnDone fun _ _ => rfl, Dev.kn_ev, kn_ktVer]
    simp only [Dev.kn_put, Dev.kn_modKn, hn, and_self, if_true, learnRunOver]
  · rw [ktWear_kn KernX.dirty fun _ _ => rfl, Dev.kn_ev, kn_ktVer]
    simp only [Dev.kn_put, Dev.kn_modKn, hn, and_self, if_true, learnRunOver]
  · rw [ktWear_settle _ _ hn]
    simp (disch := decide) only [Dev.get_ev_place, ktVer, Dev.inc_eq, Dev.get_put_place, Dev.get_put_same]
    rfl

/-! The end of a movement (R164 to R168). -/

/-- A bin's update leaves the mark of a movement's end. -/
theorem ktBin_atEnd (n m : Nat) (opening : Bool) (wn wd : Int) (b : BinSum) (d : Dev) :
    ((ktBin n opening wn wd b d).kn m).atEnd = (d.kn m).atEnd := by
  unfold ktBin
  dsimp only
  split
  · rfl
  · split
    · rfl
    · split
      · exact (keepsKern KernX.atEnd m _ fun _ _ => rfl).raise _ _ _ _ rfl
      · rfl

/-- Settling leaves the mark of a movement's end. -/
theorem ktSettle_atEnd (n m : Nat) (opening : Bool) (d : Dev) : ((ktSettle n opening d).kn m).atEnd = (d.kn m).atEnd := by
  have hcount : ((d.modKn n fun k => if opening then { k with jO := k.jO + 1 } else { k with jC := k.jC + 1 }).kn m).atEnd =
      (d.kn m).atEnd := by
    rw [Dev.kn_modKn]
    split_ifs <;> rfl
  unfold ktSettle
  refine iteInduction (motive := fun t : Dev => (t.kn m).atEnd = (d.kn m).atEnd) (fun _ => ?_) fun _ => rfl
  refine iteInduction (motive := fun t : Dev => (t.kn m).atEnd = (d.kn m).atEnd) (fun _ => ?_) fun _ => hcount
  rw [Dev.kn_ev, Dev.kn_put]
  exact Dev.each_ind (fun t => (t.kn m).atEnd = (d.kn m).atEnd) _ _ _ (fun _ _ h => h) hcount

/-- The update of a direction raises KTUPD and leaves the mark of a movement's end. -/
theorem ktLearn_updates (n : Nat) (opening : Bool) (bins : List BinSum) (d : Dev) :
    (ktLearn n opening bins d).raised (pgOBS n) Ev.OBS.KTUPD = true ∧ ((ktLearn n opening bins d).kn n).atEnd = (d.kn n).atEnd := by
  have hdirty (d : Dev) : ((d.modKn n fun k => { k with dirty := true }).kn n).atEnd = (d.kn n).atEnd := by
    rw [Dev.kn_modKn]
    split <;> rfl
  have hbins (wn wd : Int) : ((d.each bins (ktBin n opening wn wd)).kn n).atEnd = (d.kn n).atEnd :=
    Dev.each_ind (fun t => (t.kn n).atEnd = _) _ _ _ (fun b t h => (ktBin_atEnd n n opening wn wd b t).trans h) rfl
  unfold ktLearn
  dsimp only
  refine ⟨ktWear_raised _ _ _ _ (by decide) (Dev.raised_ev_same _ _ _ (by decide)), ?_⟩
  rw [ktWear_kn KernX.atEnd (fun _ _ => rfl), hdirty, Dev.kn_ev, ktSettle_atEnd, kn_ktVer]
  exact hbins _ _

/-- A clean movement whose table learns: its update follows the count of clean movements. -/
theorem ktMove_clean (n : Nat) (d : Dev) (hn : n < 8) (hok : (d.kn n).endedOk = true) (han : (d.kn n).anom = false)
    (hprob : (d.kn n).probation = 0) (hfrz : d.on (pgOBS n) OBS.OBS_CFG.FREEZE = false) :
    (ktMove n d).raised (pgOBS n) Ev.OBS.KTUPD = true ∧ ((ktMove n d).kn n).atEnd = false := by
  have hcount (f : Fld) (h : OBS.OBS_CFG.FREEZE.place ≠ f.place) :
      ((d.modKn n fun k => { k with atEnd := false, bins := [] }).incSat (pgOBS n) f).on (pgOBS n) OBS.OBS_CFG.FREEZE = false := by
    unfold Dev.on at *
    rw [Dev.incSat_eq, Dev.get_put_place _ _ _ _ _ _ h]
    exact hfrz
  unfold ktMove
  dsimp only
  rw [hok, han, hprob, if_neg (by decide), if_neg (by decide), hcount _ (by split <;> decide), if_neg (by decide)]
  obtain ⟨hupd, hend⟩ := ktLearn_updates n (decide ((d.kn n).mvDir > 0)) (d.kn n).bins
    ((d.modKn n fun k => { k with atEnd := false, bins := [] }).incSat (pgOBS n)
      (if decide ((d.kn n).mvDir > 0) then OBS.CLEAN.CLEANO else OBS.CLEAN.CLEANC))
  refine ⟨hupd, hend.trans ?_⟩
  rw [Dev.incSat_eq, Dev.kn_put, Dev.kn_modKn, if_pos ⟨rfl, hn⟩]

/-- An anomalous movement: its samples are discarded with KTFRZ, a probation begins, and no cell of the page's table changes. -/
theorem ktMove_anomalous (n : Nat) (d : Dev) (hn : n < 8) (han : (d.kn n).anom = true) : ((ktMove n d).kn n).bins = [] ∧
    (ktMove n d).raised (pgOBS n) Ev.OBS.KTFRZ = true ∧ ((ktMove n d).kn n).probation = mcfg d n OBS.KERN.HOLDN ∧
    ∀ f : Fld, f.place ≠ HDR.EV_STAT.place → (ktMove n d).get (pgOBS n) f = d.get (pgOBS n) f := by
  unfold ktMove ktDiscard
  dsimp only
  rw [han, Bool.or_true, if_pos rfl, Dev.kn_ev, Dev.kn_modKn, if_pos ⟨rfl, hn⟩, Dev.kn_modKn, if_pos ⟨rfl, hn⟩]
  exact ⟨rfl, Dev.raised_ev_same _ _ _ (by decide), rfl, fun f hf => Dev.get_ev_place _ _ _ _ _ hf⟩

/-! KT_UPDATE. -/

theorem ktUpdate_learnRun (n : Nat) (d : Dev) (hh : d.part.hasLeaf n = true) (hdone : (d.kn n).learnDone = true) :
    ktUpdate n d = publishFrz n (ktReplace n d) := by
  unfold ktUpdate
  simp only [hh, hdone, Bool.not_true, Bool.false_eq_true, if_false, if_true]

theorem ktUpdate_movement (n : Nat) (d : Dev) (hh : d.part.hasLeaf n = true) (hdone : (d.kn n).learnDone = false)
    (hend : (d.kn n).atEnd = true) : ktUpdate n d = publishFrz n (ktMove n d) := by
  unfold ktUpdate
  simp only [hh, hdone, hend, Bool.not_true, Bool.false_eq_true, if_false, if_true]

end Sys2Proof.Machine
end

section
/-! PROOFS. The Observer's checks (R162, R192), and the Observer's events. -/

namespace Sys2Proof.Machine

/-- A temperature not written for 10 s is stale, with event and entry TSTALE. -/
theorem tstale_stale (n : Nat) (d : Dev) (hn : n < 8) (hh : d.part.hasLeaf n = true) (hen : d.enabled (pgOBS n) = true)
    (hsrc : ocfg d n OBS.OBS_CFG.TSRC = 2) (hfresh : (d.kn n).stale = false) (hold : (d.kn n).tempAt + msMot 10000 ≤ d.tim.mot) :
    ((tstale n d).kn n).stale = true ∧ (tstale n d).get (pgOBS n) OBS.OBS_STAT.TSTALE = 1 ∧
      (tstale n d).raised (pgOBS n) Ev.OBS.TSTALE = true ∧
      (d.queueRoom = true → (tstale n d).entryOf (pgOBS n) Cz.OBS.TSTALE 0xFF = true) := by
  have hcond : (d.part.hasLeaf n && d.enabled (pgOBS n) && ocfg d n OBS.OBS_CFG.TSRC == 2 && !(d.kn n).stale &&
      decide ((d.kn n).tempAt + msMot 10000 ≤ d.tim.mot)) = true := by
    simp [hh, hen, hsrc, hfresh, hold]
  unfold tstale
  dsimp only
  rw [if_pos hcond]
  refine ⟨(keepsKern KernX.stale n true fun _ _ => rfl).raise _ _ _ _ ?_, ?_,
    (keepsRaised _ _ (by decide)).raise _ _ _ _ (Dev.raised_ev_same _ _ _ (by decide)), fun hroom => ?_⟩
  · rw [Dev.kn_ev, Dev.putB_eq, Dev.kn_put, Dev.kn_modKn, if_pos ⟨rfl, hn⟩]
  · rw [Dev.get_raise_ne _ _ _ _ _ _ (obsFld_notMem_reportKeys n _ hn (by decide) (by decide)), Dev.get_ev_place _ _ _ _ _ (by decide),
      Dev.putB_eq, Dev.get_put_same]
    rfl
  · exact Dev.raise_standing _ _ _ _ (by decide) hroom

/-- Three shadow failures are a fault event of the leaf, with event OSHADOW, and the count begins anew. -/
theorem oshadow_fault (n : Nat) (d : Dev) (hn : n < 8) (hh : d.part.hasLeaf n = true) (hin : leafOut d n = false)
    (h3 : 3 ≤ (d.kn n).nShadow) : (oshadow n d).faultEvent n = true ∧ (oshadow n d).raised (pgOBS n) Ev.OBS.OSHADOW = true ∧
      ((oshadow n d).kn n).nShadow = 0 := by
  have hfault : oshadow n d = leafFault n (pgOBS n) Cz.OBS.OSHADOW 0xFF 2
      ((d.modKn n fun k => { k with nShadow := 0 }).ev (pgOBS n) Ev.OBS.OSHADOW) := if_pos (by simp [hh, hin, h3])
  rw [hfault]
  refine ⟨leafFault_faultEvent n _ _ _ _ _ hn, ?_, ?_⟩
  · exact leafFault_keeps (keepsRaised _ _ (by decide)) (fun _ _ h => h) (fun _ _ _ h => h) n _ _ _ _ _
      (Dev.raised_ev_same _ _ _ (by decide))
  · refine leafFault_keeps (P := fun t => (t.kn n).nShadow = 0) (keepsKern KernX.nShadow n 0 fun _ _ => rfl) (fun _ _ h => h)
      (fun _ _ _ h => h) n _ _ _ _ _ ?_
    rw [Dev.kn_ev, Dev.kn_modKn, if_pos ⟨rfl, hn⟩]

/-! The obligation. -/

/-- Settles O16: every row of a detection is `detect` under the kind that it names, and the end of a learn run or of a movement is
`ktReplace` or `ktMove`. -/
theorem observerEvents : Obligations.ObserverEvents := by
  unfold Obligations.ObserverEvents
  refine ⟨fun s n halive hh hr => ?_, fun s n halive hh => ?_⟩
  · have hdet {kind : Nat} (hk : metKind s.dev n.val = kind) (hpos : 0 < kind) (hle : kind ≤ 5) : Detected n.val kind (detect n.val s.dev) :=
      detect_detected n.val kind s.dev n.isLt hh hr hk hpos hle
    refine ⟨fun hpos htdet => ?_, fun hpos hstall ht => ?_, fun hpos hstiff ht hs => ?_, fun ht hs hst hedge => ?_⟩
    · have hrow : forceDetection n.val s.dev = detect n.val s.dev := if_pos ⟨hpos, htdet⟩
      obtain ⟨hd, hkind, htold, hev, hinh⟩ := hdet (metKind_force _ _ hpos htdet) (by decide) (by decide)
      rw [← hrow] at hd hkind htold hev hinh
      exact ⟨_, doDev_live (forceDetection n.val) s halive, hd, hkind, htold, hev, hinh, rfl⟩
    · have hrow : stallDetection n.val s.dev = detect n.val s.dev := if_pos ⟨hpos, hstall⟩
      obtain ⟨hd, hkind, htold, hev, -⟩ := hdet (metKind_stall _ _ ht hpos hstall) (by decide) (by decide)
      rw [← hrow] at hd hkind htold hev
      exact ⟨_, doDev_live (stallDetection n.val) s halive, hd, hkind, htold, hev⟩
    · have hrow : stiffnessDetection n.val s.dev = detect n.val s.dev := if_pos ⟨hpos, hstiff⟩
      obtain ⟨hd, hkind, htold, hev, -⟩ := hdet (metKind_stiffness _ _ ht hs hpos hstiff) (by decide) (by decide)
      rw [← hrow] at hd hkind htold hev
      exact ⟨_, doDev_live (stiffnessDetection n.val) s halive, hd, hkind, htold, hev⟩
    · have hrow : edgeDetection n.val s.dev = detect n.val s.dev := if_pos (Bool.or_eq_true _ _ ▸ hedge)
      obtain ⟨hd, hkind, htold, hev, -⟩ := hdet (metKind_edge _ _ ht hs hst hedge) (by split <;> decide) (by split <;> decide)
      rw [← hrow] at hd hkind htold hev
      exact ⟨_, doDev_live (edgeDetection n.val) s halive, hd, hkind, htold, hev⟩
  · refine ⟨fun hen hsrc hfresh hold => ?_, fun hin h3 => ?_, fun hdone => ?_, fun hdone hend => ⟨fun hok han hprob hfrz => ?_, fun han => ?_⟩⟩
    · obtain ⟨hstale, hreg, hev, hent⟩ := tstale_stale n.val s.dev n.isLt hh hen hsrc hfresh hold
      exact ⟨_, doDev_live (tstale n.val) s halive, hstale, hreg, hev, hent, rfl⟩
    · obtain ⟨hfault, hev, hcount⟩ := oshadow_fault n.val s.dev n.isLt hh hin h3
      exact ⟨_, doDev_live (oshadow n.val) s halive, hfault, hev, hcount, rfl⟩
    · obtain ⟨hlearn, hdirty, hev, hsettle⟩ := ktReplace_replaced n.val s.dev n.isLt
      refine ⟨_, doDev_live (ktUpdate n.val) s halive, ?_⟩
      rw [State.onDev_dev, State.onDev_mem, ktUpdate_learnRun _ _ hh hdone, kn_publishFrz, raised_publishFrz,
        get_publishFrz _ _ _ _ (by decide)]
      exact ⟨hlearn, hev, hsettle, hdirty, rfl⟩
    · obtain ⟨hev, hclosed⟩ := ktMove_clean n.val s.dev n.isLt hok han hprob hfrz
      refine ⟨_, doDev_live (ktUpdate n.val) s halive, ?_⟩
      rw [State.onDev_dev, ktUpdate_movement _ _ hh hdone hend, kn_publishFrz, raised_publishFrz]
      exact ⟨hclosed, hev⟩
    · obtain ⟨hbins, hev, hprob, hget⟩ := ktMove_anomalous n.val s.dev n.isLt han
      refine ⟨_, doDev_live (ktUpdate n.val) s halive, ?_⟩
      rw [State.onDev_dev, ktUpdate_movement _ _ hh hdone hend, kn_publishFrz, raised_publishFrz]
      refine ⟨hbins, hev, hprob, fun b => ?_⟩
      have hcell := place_ktoFric b.val b.isLt
      have hfrz : OBS.OBS_STAT.FRZ.place = 2052 := rfl
      have hstat : HDR.EV_STAT.place = 320 := rfl
      rw [get_publishFrz _ _ _ _ (by omega), hget _ (by omega)]

end Sys2Proof.Machine
end

section
/-! PROOFS. What a report, a sensor fault and a change of a feedback page's own part leave of the feedback (R214, R218). -/

namespace Sys2Proof.Machine

/-- A report leaves the sensors of every feedback page. -/
@[simp] theorem Dev.ps_raise (pg : Nat) (c : Cause) (inst : Nat) (d : Dev) (a : Nat) : (d.raise pg c inst).ps a = d.ps a :=
  (keepsPart (fun d => d.ps a) (d.ps a) (by intros; rfl) (by intros; rfl) (by intros; rfl) (by intros; rfl) (by intros; rfl)
    (by intros; rfl) (by intros; rfl) (by intros; rfl) (by intros; rfl) (by intros; rfl)).raise pg c inst d rfl

@[simp] theorem Dev.ps_ev (p k : Nat) (d : Dev) (a : Nat) : (d.ev p k).ps a = d.ps a := rfl

theorem Dev.ps_modPs_same (a : Nat) (f : PosX → PosX) (d : Dev) (ha : a < 12) : (d.modPs a f).ps a = f (d.ps a) := by
  rw [Dev.ps_modPs, if_pos ⟨rfl, ha⟩]

/-- What a change of a page's sensors does not touch stays as it was. -/
theorem Dev.ps_modPs_keep {α : Type} (g : PosX → α) (a b : Nat) (f : PosX → PosX) (d : Dev) (hf : ∀ x, g (f x) = g x) :
    g ((d.modPs a f).ps b) = g (d.ps b) := by
  rw [Dev.ps_modPs]
  split
  · exact hf _
  · rfl

theorem Dev.fbk_modFb_same (a : Nat) (f : FbX → FbX) (d : Dev) (ha : a < 12) : (d.modFb a f).fbk a = f (d.fbk a) := by
  rw [Dev.fbk_modFb, if_pos ⟨rfl, ha⟩]

/-- A counted sensor fault: its latch, its event, its counter and its report. -/
theorem sensorFault_eq (a i ev : Nat) (c : Cause) (f : Fld) (d : Dev) : sensorFault a i ev c (some f) d =
    (((d.modPs a fun x => { x with latch := setBit x.latch i true }).ev (pgPOS a) ev).incSat (pgPOS a) f).raise (pgPOS a) c 0xFF := rfl

/-- A sensor fault changes its latch alone of what the page holds of its sensors. -/
theorem sensorFault_ps (a i ev : Nat) (c : Cause) (f : Fld) (d : Dev) (ha : a < 12) :
    (sensorFault a i ev c (some f) d).ps a = { d.ps a with latch := setBit (d.ps a).latch i true } := by
  rw [sensorFault_eq, Dev.ps_raise, Dev.incSat_eq, Dev.ps_put, Dev.ps_ev, Dev.ps_modPs_same _ _ _ ha]

/-- A sensor fault raises its event. -/
theorem sensorFault_raised (a i ev : Nat) (c : Cause) (f : Fld) (d : Dev) (hev : ev < 32) (hf : HDR.EV_STAT.place ≠ f.place) :
    (sensorFault a i ev c (some f) d).raised (pgPOS a) ev = true := by
  rw [sensorFault_eq]
  refine (keepsRaised _ _ hev).raise _ _ _ _ ?_
  rw [Dev.incSat_eq, Dev.raised_put_place _ _ _ _ _ _ hf]
  exact Dev.raised_ev_same _ _ _ hev

theorem posOn_hasAxis (d : Dev) (a : Nat) (h : posOn d a = true) : d.hasAxis a = true := by
  unfold posOn at h
  exact (Bool.and_eq_true_iff.mp h).1

theorem posOn_hasLeaf (d : Dev) (n : Nat) (hn : n < 8) (h : posOn d n = true) : d.part.hasLeaf n = true := by
  have hax := posOn_hasAxis d n h
  unfold Dev.hasAxis at hax
  rwa [if_pos hn] at hax

@[simp] theorem posOn_modPs (n a : Nat) (f : PosX → PosX) (d : Dev) : posOn (d.modPs n f) a = posOn d a := rfl
@[simp] theorem Dev.on_modPs (n : Nat) (f : PosX → PosX) (d : Dev) (p : Nat) (g : Fld) : (d.modPs n f).on p g = d.on p g := rfl

end Sys2Proof.Machine
end

section
/-! PROOFS. Edges of the encoder and of the index (R196, R202, R211). -/

namespace Sys2Proof.Machine

/-! The encoder's channels (R196). -/

theorem setBit_self (v i : Nat) : setBit v i (bit v i) = v := if_pos rfl

/-- Two equal samples of both lines are taken. -/
theorem filt2_equal (p q : Nat) (hp : p < 4) (hq : q < 4) : filt2 p q q = q := by
  have htaken : ∀ p < 4, ∀ q < 4, setBit (setBit p 0 (bit q 0)) 1 (bit q 1) = q := by decide
  unfold filt2
  rw [beq_self_eq_true, beq_self_eq_true, if_pos rfl, if_pos rfl, htaken p hp q hq]

/-- Where the samples of both lines differ, the levels stay. -/
theorem filt2_unequal (p s0 s1 : Nat) (h0 : bit s0 0 ≠ bit s1 0) (h1 : bit s0 1 ≠ bit s1 1) : filt2 p s0 s1 = p := by
  unfold filt2
  rw [beq_false_of_ne h0, beq_false_of_ne h1, if_neg Bool.false_ne_true, if_neg Bool.false_ne_true, setBit_self, setBit_self]

/-- The complement of two lines differs from them in both. -/
theorem bit_toNat_not (q : BitVec 2) : bit q.toNat 0 ≠ bit (~~~q).toNat 0 ∧ bit q.toNat 1 ≠ bit (~~~q).toNat 1 := by
  revert q
  decide

/-- The same levels again are no step. -/
theorem quadStep_self (p : Nat) : quadStep p p = some 0 := by
  unfold quadStep
  simp

section
variable (a s0 s1 q : Nat) (d : Dev) (hon : posOn d a = true) (hfit : encFitted d a = true) (hq : filt2 (d.ps a).ab s0 s1 = q)
include hon hfit hq

/-- New levels one step away move the count, or leave it where they are the same. -/
theorem encoderEdge_counts {k : Int} (hk : quadStep (d.ps a).ab q = some k) : encoderEdge a s0 s1 d =
    if k = 0 then d.modPs a fun x => { x with ab := q }
    else encStep a (if d.on (pgPOS a) POS.POS_CFG.DIRINV then -k else k) (d.modPs a fun x => { x with ab := q }) := by
  unfold encoderEdge
  simp only [posOn_hasAxis d a hon, hfit, hq, hon, hk, posOn_modPs, Dev.on_modPs, Bool.and_self, Bool.not_true, Bool.false_eq_true,
    if_true, if_false]

/-- A change of both levels is an encoder error. -/
theorem encoderEdge_errs (hk : quadStep (d.ps a).ab q = none) : encoderEdge a s0 s1 d =
    sensorFault a 2 Ev.POS.ENCERR Cz.POS.ENCERR (some POS.DIAG.ENCC)
      ((d.modPs a fun x => { x with ab := q }).modPs a fun x => { x with lastErr := d.tim.mot }) := by
  unfold encoderEdge
  simp only [posOn_hasAxis d a hon, hfit, hq, hon, hk, posOn_modPs, Bool.and_self, Bool.not_true, Bool.false_eq_true, if_true, if_false]
  rfl

/-- The levels are taken, whatever they do to the count. -/
theorem encoderEdge_ab (ha : a < 12) : ((encoderEdge a s0 s1 d).ps a).ab = q := by
  cases hk : quadStep (d.ps a).ab q with
  | none => rw [encoderEdge_errs a s0 s1 q d hon hfit hq hk, sensorFault_ps _ _ _ _ _ _ ha, Dev.ps_modPs_same _ _ _ ha,
      Dev.ps_modPs_same _ _ _ ha]
  | some k =>
    rw [encoderEdge_counts a s0 s1 q d hon hfit hq hk]
    split
    · rw [Dev.ps_modPs_same _ _ _ ha]
    · unfold encStep
      rw [Dev.ps_modPs_same _ _ _ ha, Dev.ps_modPs_same _ _ _ ha]

/-- A step moves the count by one, against DIRINV, and changes no register. -/
theorem encoderEdge_ext {k : Int} (ha : a < 12) (hk : quadStep (d.ps a).ab q = some k) (hk0 : k ≠ 0) :
    (encoderEdge a s0 s1 d).act = d.act ∧ ((encoderEdge a s0 s1 d).ps a).ext =
      ext48 ((d.ps a).ext + if d.on (pgPOS a) POS.POS_CFG.DIRINV then -k else k) := by
  rw [encoderEdge_counts a s0 s1 q d hon hfit hq hk, if_neg hk0]
  unfold encStep
  refine ⟨rfl, ?_⟩
  rw [Dev.ps_modPs_same _ _ _ ha, Dev.ps_modPs_same _ _ _ ha]

/-- An encoder error leaves the count, and latches with event ENCERR. -/
theorem encoderEdge_encerr (ha : a < 12) (hk : quadStep (d.ps a).ab q = none) : ((encoderEdge a s0 s1 d).ps a).ext = (d.ps a).ext ∧
    (encoderEdge a s0 s1 d).raised (pgPOS a) Ev.POS.ENCERR = true ∧ bit ((encoderEdge a s0 s1 d).ps a).latch 2 = true := by
  rw [encoderEdge_errs a s0 s1 q d hon hfit hq hk, sensorFault_ps _ _ _ _ _ _ ha, Dev.ps_modPs_same _ _ _ ha, Dev.ps_modPs_same _ _ _ ha]
  refine ⟨rfl, sensorFault_raised _ _ _ _ _ _ (by decide) (by decide), ?_⟩
  rw [bit_setBit, if_pos rfl]

end

/-- Samples that give the levels they had change nothing of the page. -/
theorem encoderEdge_unchanged (a s0 s1 : Nat) (d : Dev) (ha : a < 12) (hon : posOn d a = true) (hfit : encFitted d a = true)
    (hq : filt2 (d.ps a).ab s0 s1 = (d.ps a).ab) :
    (encoderEdge a s0 s1 d).ps a = d.ps a ∧ (encoderEdge a s0 s1 d).act = d.act := by
  rw [encoderEdge_counts a s0 s1 _ d hon hfit hq (quadStep_self _), if_pos rfl, Dev.ps_modPs_same _ _ _ ha]
  exact ⟨rfl, rfl⟩

/-! The index (R211). -/

/-- The first index edge in RUN gives the reference. -/
theorem indexEdge_first (a : Nat) (d : Dev) (ha : a < 12) (hon : posOn d a = true) (hfit : encFitted d a = true)
    (hzen : d.on (pgPOS a) POS.POS_CFG.ZEN = true) (hidx : (d.ps a).idx = none) (hz : (d.ps a).z = false)
    (hrun : d.pgState (pgPOS a) = 2) :
    ((indexEdge a true true d).ps a).idx = some (((d.ps a).ext % max 1 (d.get (pgPOS a) POS.CPR.CPR)).toNat) ∧
      ((indexEdge a true true d).ps a).z = true := by
  have hhit : indexEdge a true true d = indexHit a (d.modPs a fun x => { x with z := true }) := by
    unfold indexEdge
    simp only [posOn_hasAxis d a hon, hfit, hz, posOn_modPs, hon, Dev.on_modPs, hzen, beq_self_eq_true, Bool.and_self, Bool.not_false, if_true]
  have hstate (v : Nat) : ((d.modPs a fun x => { x with z := true }).put (pgPOS a) POS.ZCAP.ZCAP v).pgState (pgPOS a) = 2 := by
    unfold Dev.pgState at *
    rw [Dev.get_put_place _ _ _ _ _ _ (by decide), Dev.get_modPs, hrun]
  rw [hhit]
  unfold indexHit
  simp only [Dev.ps_put, Dev.ps_modPs_same _ _ _ ha, hidx, hstate, if_true, Dev.get_modPs]
  exact ⟨trivial, trivial⟩

end Sys2Proof.Machine
end

section
/-! PROOFS. Edges of the Hall lines (R197). -/

namespace Sys2Proof.Machine

/-! The lines. -/

/-- The three lines of a reading taken over. -/
def takeLines (was lines : Nat) : Nat := (List.range 3).foldl (fun r i => setBit r i (bit lines i)) was

theorem bit_takeLines (was lines i : Nat) : bit (takeLines was lines) i = if i < 3 then bit lines i else bit was i := by
  have hset : takeLines was lines = setBit (setBit (setBit was 0 (bit lines 0)) 1 (bit lines 1)) 2 (bit lines 2) := rfl
  rw [hset, bit_setBit, bit_setBit, bit_setBit]
  obtain rfl | rfl | rfl | hi : i = 0 ∨ i = 1 ∨ i = 2 ∨ 3 ≤ i := by omega
  · rfl
  · rfl
  · rfl
  · rw [if_neg (by omega), if_neg (by omega), if_neg (by omega), if_neg (by omega)]

/-- Taken over once more, the lines stay. -/
theorem takeLines_again (was lines : Nat) : takeLines (takeLines was lines) lines = takeLines was lines := by
  refine Nat.eq_of_testBit_eq fun i => ?_
  rw [← bit_eq_testBit, ← bit_eq_testBit, bit_takeLines, bit_takeLines]
  split_ifs <;> rfl

theorem takeLines_mod (was lines : Nat) (h : lines < 8) : takeLines was lines % 8 = lines := by
  refine Nat.eq_of_testBit_eq fun i => ?_
  rw [show 8 = 2 ^ 3 from rfl, Nat.testBit_mod_two_pow, ← bit_eq_testBit, bit_takeLines, ← bit_eq_testBit]
  by_cases hi : i < 3
  · simp [hi]
  · have : bit lines i = false := by
      rw [bit_eq_testBit, Nat.testBit_lt_two_pow (lt_of_lt_of_le h (Nat.pow_le_pow_right (n := 2) (by decide) (show 3 ≤ i by omega)))]
    simp [hi, this]

/-- The code that the lines show under a polarity: only the three lines count. -/
theorem xor_mod_eight (a b p : Nat) (h : a % 8 = b) : (a ^^^ p) % 8 = (b ^^^ p) % 8 := by
  rw [show 8 = 2 ^ 3 from rfl, Nat.xor_mod_two_pow, Nat.xor_mod_two_pow, ← h]
  simp

/-! A code. -/

/-- What the filter and the decoder hold of the Hall lines. -/
abbrev hallShown (x : PosX) : Nat × Nat := (x.hraw, x.code)

theorem hallShown_modPs (a b : Nat) (f : PosX → PosX) (d : Dev) (hf : ∀ x, hallShown (f x) = hallShown x) :
    hallShown ((d.modPs a f).ps b) = hallShown (d.ps b) := Dev.ps_modPs_keep hallShown a b f d hf

@[simp] theorem hallShown_alignTo (n elec m : Nat) (c : Int) (d : Dev) : hallShown ((alignTo n elec c d).ps m) = hallShown (d.ps m) := by
  unfold alignTo
  dsimp only
  rw [hallShown_modPs]
  intro x
  rfl

/-- The alignment and the cross-check leave the lines and the code. -/
theorem hallShown_hallCross (n elec t m : Nat) (d : Dev) : hallShown ((hallCross n elec t d).ps m) = hallShown (d.ps m) := by
  unfold hallCross
  dsimp only
  split
  · split
    · rw [hallShown_modPs, hallShown_alignTo]
      intro x
      rfl
    · split
      · rw [Dev.incSat_eq, Dev.ps_put, hallShown_modPs, Dev.ps_put]
        intro x
        rfl
      · rw [hallShown_modPs, Dev.ps_put]
        intro x
        rfl
  · rfl

/-- A skipped code's fault and the cross-check, where they come, leave the lines and the code. -/
theorem hallShown_judged (n elec t : Nat) (skip same : Prop) [Decidable skip] [Decidable same] (g : PosX → PosX) (d : Dev) (hn : n < 12)
    (hg : ∀ x, hallShown (g x) = hallShown x) : hallShown
      ((if same then (if skip then sensorFault n 1 Ev.POS.HALLSEQ Cz.POS.HALLSEQ (some POS.DIAG.HALLC) (d.modPs n g) else d)
        else hallCross n elec t (if skip then sensorFault n 1 Ev.POS.HALLSEQ Cz.POS.HALLSEQ (some POS.DIAG.HALLC) (d.modPs n g)
          else d)).ps n) = hallShown (d.ps n) := by
  have hskip : hallShown ((if skip then sensorFault n 1 Ev.POS.HALLSEQ Cz.POS.HALLSEQ (some POS.DIAG.HALLC) (d.modPs n g)
      else d).ps n) = hallShown (d.ps n) := by
    split
    · rw [sensorFault_ps _ _ _ _ _ _ hn]
      exact hallShown_modPs _ _ _ _ hg
    · rfl
  split
  · exact hskip
  · rw [hallShown_hallCross, hskip]

/-- A code other than the last is stored and the lines stay, whatever the code does to the count. -/
theorem hallShown_hallTake (n : Nat) (d : Dev) (hn : n < 12)
    (hne : ((d.ps n).hraw ^^^ d.get (pgPOS n) POS.POS_CFG.HALLPOL) % 8 ≠ (d.ps n).code) :
    hallShown ((hallTake n d).ps n) = ((d.ps n).hraw, ((d.ps n).hraw ^^^ d.get (pgPOS n) POS.POS_CFG.HALLPOL) % 8) := by
  unfold hallTake
  dsimp only
  rw [if_neg hne]
  refine iteInduction (motive := fun t : Dev => hallShown (t.ps n) = _) (fun _ => ?_) fun _ =>
    iteInduction (motive := fun t : Dev => hallShown (t.ps n) = _) (fun _ => ?_) fun _ => ?_
  · rw [Dev.ps_modPs_same _ _ _ hn]
  · rw [Dev.ps_modPs_same _ _ _ hn, Dev.ps_modPs_same _ _ _ hn]
  · rw [hallShown_judged _ _ _ _ _ _ _ hn, Dev.ps_modPs_same _ _ _ hn, Dev.ps_modPs_same _ _ _ hn]
    intro x
    rfl

/-! The filter. -/

section
variable (n lines st : Nat) (d : Dev)

/-- Lines that the filter has already accepted change nothing. -/
theorem hallFilter_settled (h : takeLines (d.ps n).hraw lines = (d.ps n).hraw) : hallFilter n lines (fun _ => st) st d = d := by
  unfold hallFilter
  simp only [if_true]
  exact if_pos (.inr h)

/-- Lines that have stood for the filter time are accepted, and a live frame shows them at once. -/
theorem hallFilter_accepts (hst : d.get (pgPOS n) POS.HALL.HALLFLT ≤ st) (hne : takeLines (d.ps n).hraw lines ≠ (d.ps n).hraw)
    (hlost : (d.di (dieOf n)).lost = 0) : hallFilter n lines (fun _ => st) st d =
      hallTake n (d.modPs n fun x => { x with hraw := takeLines (d.ps n).hraw lines, hedge := (d.tim.mot - st * 25) / 25 * 25 }) := by
  unfold hallFilter
  simp only [if_true]
  exact (if_neg (not_or.mpr ⟨Nat.not_lt.mpr hst, hne⟩)).trans (if_pos hlost)

/-- Three lines of one age are filtered alike. -/
theorem hallEdge_even (hh : d.part.hasLeaf n = true) : hallEdge n lines (fun _ => st) d =
    hallFilter n lines (fun _ => st) st (hallFilter n lines (fun _ => st) st (hallFilter n lines (fun _ => st) st d)) := by
  unfold hallEdge
  simp only [hh, Bool.not_true, Bool.false_eq_true, if_false, max_self, min_self, Nat.add_sub_cancel]
  rfl

/-- A new code that has stood for the filter time is stored, its lines inverted by HALLPOL. -/
theorem hallEdge_code (hn : n < 12) (hh : d.part.hasLeaf n = true) (hlost : (d.di (dieOf n)).lost = 0)
    (hst : d.get (pgPOS n) POS.HALL.HALLFLT ≤ st) (hl : lines < 8) (hraw : (d.ps n).hraw % 8 ≠ lines)
    (hcode : (lines ^^^ d.get (pgPOS n) POS.POS_CFG.HALLPOL) % 8 ≠ (d.ps n).code) :
    ((hallEdge n lines (fun _ => st) d).ps n).code = (lines ^^^ d.get (pgPOS n) POS.POS_CFG.HALLPOL) % 8 := by
  have hmod := takeLines_mod (d.ps n).hraw lines hl
  have hnew : takeLines (d.ps n).hraw lines ≠ (d.ps n).hraw := fun h => hraw (h ▸ hmod)
  have hxor := xor_mod_eight _ _ (d.get (pgPOS n) POS.POS_CFG.HALLPOL) hmod
  have hshown : hallShown ((hallFilter n lines (fun _ => st) st d).ps n) =
      (takeLines (d.ps n).hraw lines, (lines ^^^ d.get (pgPOS n) POS.POS_CFG.HALLPOL) % 8) := by
    rw [hallFilter_accepts n lines st d hst hnew hlost, hallShown_hallTake _ _ hn, Dev.ps_modPs_same _ _ _ hn, Dev.get_modPs, hxor]
    rw [Dev.ps_modPs_same _ _ _ hn, Dev.get_modPs, hxor]
    exact hcode
  obtain ⟨hraw', hcode'⟩ := Prod.mk.inj hshown
  have hagain : takeLines ((hallFilter n lines (fun _ => st) st d).ps n).hraw lines =
      ((hallFilter n lines (fun _ => st) st d).ps n).hraw := by
    rw [hraw', takeLines_again]
  rw [hallEdge_even n lines st d hh, hallFilter_settled n lines st _ hagain, hallFilter_settled n lines st _ hagain, hcode']

end

/-! Invalid codes. -/

/-- A code that the lines do not show is not judged. -/
theorem hallInvalid_gone (n lines : Nat) (d : Dev)
    (h : (lines ^^^ d.get (pgPOS n) POS.POS_CFG.HALLPOL) % 8 ≠ (d.ps n).code) : hallInvalid n lines d = d := by
  unfold hallInvalid
  simp only [beq_false_of_ne h, Bool.and_false, Bool.false_and, Bool.false_eq_true, if_false]

/-- An invalid code that has stayed for two PWM periods, is not reported and is still shown latches with event HALLINV. -/
theorem hallInvalid_latched (n lines : Nat) (d : Dev) (hn : n < 12) (hon : posOn d n = true)
    (h : (lines ^^^ d.get (pgPOS n) POS.POS_CFG.HALLPOL) % 8 = (d.ps n).code) (hbad : (d.ps n).code = 0 ∨ (d.ps n).code = 7)
    (hrep : (d.ps n).invRep = false) (ht : (d.ps n).codeT + 16000 ≤ d.tim.mot) :
    (hallInvalid n lines d).raised (pgPOS n) Ev.POS.HALLINV = true ∧ bit ((hallInvalid n lines d).ps n).latch 0 = true := by
  have hcond : (posOn d n && (lines ^^^ d.get (pgPOS n) POS.POS_CFG.HALLPOL) % 8 == (d.ps n).code &&
      ((d.ps n).code == 0 || (d.ps n).code == 7) && !(d.ps n).invRep && decide ((d.ps n).codeT + 16000 ≤ d.tim.mot)) = true := by
    simp [hon, h, hbad, hrep, ht]
  unfold hallInvalid
  dsimp only
  rw [if_pos hcond]
  refine ⟨sensorFault_raised _ _ _ _ _ _ (by decide) (by decide), ?_⟩
  rw [sensorFault_ps _ _ _ _ _ _ hn, bit_setBit, if_pos rfl]

end Sys2Proof.Machine
end

section
/-! PROOFS. SSI words (R198 to R200) and the checks of the feedback (R212 to R214). -/

namespace Sys2Proof.Machine

/-! A missing word (R199). -/

/-- What a missing word leaves of the sensors. -/
theorem ssiMissing_ps (n ev : Nat) (c : Cause) (d : Dev) (hn : n < 12) : (ssiMissing n ev (some c) d).ps n =
    { d.ps n with miss := (d.ps n).miss + 1, ssiGot := false, ssiTried := true, ssiRun := 0 } := by
  unfold ssiMissing
  dsimp only
  rw [Dev.ps_raise, Dev.incSat_eq, Dev.ps_put, Dev.ps_ev, Dev.ps_modPs_same _ _ _ hn]

/-- A missing word raises its event, and its report stands where the queue has room. -/
theorem ssiMissing_reported (n ev : Nat) (c : Cause) (d : Dev) (hev : ev < 32) :
    (ssiMissing n ev (some c) d).raised (pgPOS n) ev = true ∧
      (c.cls % 16 ≠ 0 → d.queueRoom = true → (ssiMissing n ev (some c) d).entryOf (pgPOS n) c 0xFF = true) := by
  unfold ssiMissing
  dsimp only
  refine ⟨(keepsRaised _ _ hev).raise _ _ _ _ ?_, fun hc hroom => Dev.raise_standing _ _ _ _ hc hroom⟩
  rw [Dev.incSat_eq, Dev.raised_put_place _ _ _ _ _ _ (by decide)]
  exact Dev.raised_ev_same _ _ _ hev

/-! The end of a transfer (R198 to R200). -/

/-- The data of a frame without an error bit: what stands above its CRC. -/
def ssiData (d : Dev) (n bits : Nat) : Nat :=
  bits / 2 ^ crcLen (d.get (pgPOS n) POS.SSI_CFG.CRCSEL) % 2 ^ d.get (pgPOS n) POS.SSI_CFG.DBITS

/-- The CRC of a frame, inverted under CRCINV. -/
def ssiSentCrc (d : Dev) (n bits : Nat) : Nat :=
  if d.on (pgPOS n) POS.SSI_CFG.CRCINV then
    2 ^ crcLen (d.get (pgPOS n) POS.SSI_CFG.CRCSEL) - 1 - bits % 2 ^ crcLen (d.get (pgPOS n) POS.SSI_CFG.CRCSEL)
  else bits % 2 ^ crcLen (d.get (pgPOS n) POS.SSI_CFG.CRCSEL)

/-- A page whose transfer is over. -/
def ssiOver (n : Nat) (d : Dev) : Dev := d.modPs n fun x => { x with ssiOn := false }

theorem ssiOver_ps (n : Nat) (d : Dev) (hn : n < 12) : (ssiOver n d).ps n = { d.ps n with ssiOn := false } := Dev.ps_modPs_same _ _ _ hn

section
variable (n bits : Nat) (d : Dev) (hon : posOn d n = true) (hssi : (d.ps n).ssiOn = true) (hns : ssiFrameNs d n ≤ 7000)
include hon hssi hns

/-- A line that reads low at the end is a missing word. -/
theorem ssiTransferEnd_low : ssiTransferEnd n false bits d = ssiMissing n Ev.POS.SSITO (some Cz.POS.SSITO) (ssiOver n d) := by
  have hfits : ¬ ssiFrameNs (ssiOver n d) n > 7000 := Nat.not_lt.mpr hns
  unfold ssiTransferEnd
  rw [hon, hssi]
  exact if_neg hfits

/-- Without an error bit, the CRC decides between a missing word and a word. -/
theorem ssiTransferEnd_high (he : d.get (pgPOS n) POS.SSI_CFG.ERREN = 0) : ssiTransferEnd n true bits d =
    if ssiCrc (d.get (pgPOS n) POS.SSI_CFG.CRCSEL) (ssiData d n bits) (d.get (pgPOS n) POS.SSI_CFG.DBITS) ≠ ssiSentCrc d n bits
    then ssiMissing n Ev.POS.SSICRC (some Cz.POS.SSICRC) (ssiOver n d) else ssiWord n (ssiData d n bits) (ssiOver n d) := by
  have hfits : ¬ ssiFrameNs (ssiOver n d) n > 7000 := Nat.not_lt.mpr hns
  unfold ssiTransferEnd ssiData ssiSentCrc
  simp only [hon, hssi, Dev.get_modPs, Dev.on_modPs, he, Nat.add_zero, Nat.pow_zero, Nat.div_one, Bool.not_true, Bool.or_self,
    Bool.false_eq_true, if_false, Nat.zero_ne_one, false_and]
  exact if_neg hfits

end

/-- The first word of a page has none to be judged against: it is taken, decoded from Gray code under GRAY. -/
theorem ssiWord_first (n raw : Nat) (d : Dev) (hn : n < 12) (hfirst : (d.ps n).ssi = none) :
    ((ssiWord n raw d).ps n).miss = 0 ∧ ((ssiWord n raw d).ps n).ssiGot = true ∧ ((ssiWord n raw d).ps n).ssi =
      some (if d.on (pgPOS n) POS.SSI_CFG.GRAY then grayToBin raw (d.get (pgPOS n) POS.SSI_CFG.DBITS) else raw) := by
  unfold ssiWord
  simp only [hfirst, Bool.false_eq_true, if_false, Dev.ps_put, Dev.ps_modPs_same _ _ _ hn]
  exact ⟨trivial, trivial, trivial⟩

/-! Latches of the checks (R212 to R214). -/

/-- More than SSIMISS missing words latch. -/
theorem ssiFault_latched (n : Nat) (d : Dev) (hn : n < 12) (hon : posOn d n = true)
    (hmiss : d.get (pgPOS n) POS.XCHK.SSIMISS < (d.ps n).miss) :
    bit ((ssiFault n d).ps n).latch 4 = true ∧ (ssiFault n d).act = d.act := by
  have hfault : ssiFault n d = d.modPs n fun x => { x with latch := setBit x.latch 4 true } := if_pos (by simp [hon, hmiss])
  rw [hfault, Dev.ps_modPs_same _ _ _ hn, bit_setBit, if_pos rfl]
  exact ⟨rfl, rfl⟩

/-- A cross-check that failed XN times is latched with event XCHK, and its count begins anew. -/
theorem xchkFault_latched (n : Nat) (d : Dev) (hn : n < 12) (hon : posOn d n = true)
    (hx : d.get (pgPOS n) POS.XCHK.XN ≤ (d.ps n).xchkN) : ((xchkFault n d).ps n).xchk = true ∧ ((xchkFault n d).ps n).xchkN = 0 ∧
      (xchkFault n d).raised (pgPOS n) Ev.POS.XCHK = true := by
  have hfault : xchkFault n d = ((d.modPs n fun x => { x with xchkN := 0, xchk := true }).ev (pgPOS n) Ev.POS.XCHK).raise (pgPOS n)
      Cz.POS.XCHK 0xFF := if_pos (by simp [hon, hx])
  rw [hfault, Dev.ps_raise, Dev.ps_ev, Dev.ps_modPs_same _ _ _ hn]
  exact ⟨rfl, rfl, (keepsRaised _ _ (by decide)).raise _ _ _ _ (Dev.raised_ev_same _ _ _ (by decide))⟩

/-- A slip at 4 boundaries is latched with event SLIP. -/
theorem slipFault_latched (n : Nat) (d : Dev) (hn : n < 12) (hon : posOn d n = true) (h4 : 4 ≤ (d.ps n).slipN) :
    ((slipFault n d).ps n).slip = true ∧ (slipFault n d).raised (pgPOS n) Ev.POS.SLIP = true := by
  have hfault : slipFault n d = ((d.modPs n fun x => { x with slipN := 0, slip := true }).ev (pgPOS n) Ev.POS.SLIP).raise (pgPOS n)
      Cz.POS.SLIP 0xFF := if_pos (by simp [hon, h4])
  rw [hfault, Dev.ps_raise, Dev.ps_ev, Dev.ps_modPs_same _ _ _ hn]
  exact ⟨rfl, (keepsRaised _ _ (by decide)).raise _ _ _ _ (Dev.raised_ev_same _ _ _ (by decide))⟩

end Sys2Proof.Machine
end

section
/-! PROOFS. The end of a feedback page's start (R207, R209, R219), and the events of the feedback. -/

namespace Sys2Proof.Machine

/-- A page has started: in RUN with its position at rest, which is valid or not. -/
structure PosStarted (a : Nat) (valid : Bool) (t : Dev) : Prop where
  run : t.pgState (pgPOS a) = 2
  valid : (t.fbk a).valid = valid
  rest : (t.fbk a).v = 0

/-- The references that the start sets last, of the angle and the slip check of a leaf or of a step's microsteps, leave state and
position. -/
theorem PosStarted.references {a : Nat} {valid : Bool} {d : Dev} (leaf ang : Prop) [Decidable leaf] [Decidable ang] (n elec k : Nat)
    (c : Int) (f : StpX → StpX) (h : PosStarted a valid d) : PosStarted a valid
      (if leaf then slipReference n (if ang then alignTo n elec c d else d) else d.modStp k f) := by
  split
  · split
    · exact ⟨h.run, h.valid, h.rest⟩
    · exact ⟨h.run, h.valid, h.rest⟩
  · exact ⟨h.run, h.valid, h.rest⟩

/-- A page set to RUN that stores its reference and delivers a position at rest has started. -/
theorem posStarted_delivered (a t r : Nat) (valid : Bool) (d : Dev) (g : PosX → PosX) (f : FbX → FbX) (ha : a < 12)
    (hf : ∀ y, (f y).valid = valid ∧ (f y).v = 0) : PosStarted a valid
      ((((latchCounts a t (d.setPg (pgPOS a) 2)).modPs a g).put (pgPOS a) POS.REFOFS.REFOFS r).modFb a f) := by
  have hrun : (latchCounts a t (d.setPg (pgPOS a) 2)).get (pgPOS a) HDR.STATE = 2 :=
    (Dev.get_put_same (pgPOS a) HDR.STATE 2 d).trans rfl
  refine ⟨?_, ?_, ?_⟩
  · rw [Dev.pgState, Dev.get_modFb, Dev.get_put_place _ _ _ _ _ _ (by decide), Dev.get_modPs, hrun]
  · rw [Dev.fbk_modFb_same _ _ _ ha, (hf _).1]
  · rw [Dev.fbk_modFb_same _ _ _ ha, (hf _).2]

/-- A page whose sensors and link are ready starts, its position valid unless a cross-check or a slip is latched. -/
theorem posStartingDone_started (a : Nat) (d : Dev) (ha : a < 12) (hax : d.hasAxis a = true) (hst : d.pgState (pgPOS a) = 1)
    (halive : (d.di (dieOf a)).alive = true) (hcore : (d.di (dieOf a)).standalone = false) (hlost : (d.di (dieOf a)).lost = 0)
    (hhall : a < 8 → 8 ≤ (d.ps a).codeOk) (hssi : a < 8 → d.get (pgPOS a) POS.POS_CFG.PSRC = 2 → 2 ≤ (d.ps a).ssiRun) :
    PosStarted a (!(d.ps a).xchk && !(d.ps a).slip) (posStartingDone a d) := by
  have hcodes : (decide (8 ≤ a) || decide (8 ≤ (d.ps a).codeOk)) = true := by
    simp only [Bool.or_eq_true, decide_eq_true_eq]
    exact (Nat.lt_or_ge a 8).elim (fun h => .inr (hhall h)) .inl
  have hwords : (!(decide (a < 8) && d.get (pgPOS a) POS.POS_CFG.PSRC == 2) || decide (2 ≤ (d.ps a).ssiRun)) = true := by
    simp only [Bool.or_eq_true, Bool.not_eq_true', Bool.and_eq_false_imp, decide_eq_true_eq, beq_eq_false_iff_ne]
    exact or_iff_not_imp_right.mpr fun h ha8 hsrc => h (hssi ha8 hsrc)
  have hready : (d.hasAxis a && d.pgState (pgPOS a) == 1 && (d.di (dieOf a)).alive && !(d.di (dieOf a)).standalone &&
      (d.di (dieOf a)).lost == 0 && (decide (8 ≤ a) || decide (8 ≤ (d.ps a).codeOk)) &&
      (!(decide (a < 8) && d.get (pgPOS a) POS.POS_CFG.PSRC == 2) || decide (2 ≤ (d.ps a).ssiRun))) = true := by
    rw [hax, hst, halive, hcore, hlost, hcodes, hwords]
    rfl
  unfold posStartingDone
  dsimp only
  rw [if_pos hready]
  refine PosStarted.references _ _ _ _ _ _ _ (posStarted_delivered _ _ _ _ _ _ _ ha ?_)
  intro y
  exact ⟨rfl, rfl⟩

/-! The obligation. -/

/-- Settles O17: each row is a change of the device of its own, and each of its outcomes a lemma about that change. -/
theorem feedbackEvents : Obligations.FeedbackEvents := by
  unfold Obligations.FeedbackEvents
  refine ⟨fun s a n q lines ns halive => ⟨fun hon hfit hab => ⟨?_, ?_, fun hzen hidx hz hrun => ?_⟩,
      fun hon hlost => ⟨fun hst hraw hcode => ?_, fun hcode => ?_, fun hcode hbad hrep ht => ?_⟩⟩,
    fun s n a x halive => ⟨fun hon hssi hns => ⟨fun he hfirst hcrc => ?_, fun he hcrc => ?_, ?_⟩,
      fun hon => ⟨fun hmiss => ?_, fun hx => ?_, fun h4 => ?_⟩, fun hax hst hdie hcore hlost hhall hwords => ?_⟩⟩
  · have hq := filt2_equal _ q.toNat hab q.isLt
    have hext {k : Int} (hk : quadStep (s.dev.ps a.val).ab q.toNat = some k) (hk0 : k ≠ 0) :=
      encoderEdge_ext a.val _ _ _ s.dev hon hfit hq a.isLt hk hk0
    refine ⟨_, doDev_live _ s halive, rfl, encoderEdge_ab _ _ _ _ _ hon hfit hq a.isLt, fun hk => hext hk (by decide), fun hk => ?_,
      encoderEdge_encerr _ _ _ _ _ hon hfit hq a.isLt⟩
    obtain ⟨hact, hcount⟩ := hext hk (by decide)
    refine ⟨hact, hcount.trans (congrArg ext48 ?_)⟩
    split <;> rfl
  · obtain ⟨h0, h1⟩ := bit_toNat_not q
    obtain ⟨hps, hact⟩ := encoderEdge_unchanged a.val _ _ s.dev a.isLt hon hfit (filt2_unequal _ _ _ h0 h1)
    exact ⟨_, doDev_live _ s halive, hps, hact, rfl⟩
  · obtain ⟨href, hline⟩ := indexEdge_first a.val s.dev a.isLt hon hfit hzen hidx hz hrun
    exact ⟨_, doDev_live _ s halive, href, hline, rfl⟩
  · have hages : exec (.hallEdge n ⟨lines, ns, ns, ns⟩) s = doDev (Dev.live (hallEdge n.val lines.toNat fun _ => ns)) s := by
      show doDev (Dev.live (hallEdge n.val lines.toNat fun i => if i = 0 then ns else if i = 1 then ns else ns)) s = _
      simp only [ite_self]
    exact ⟨_, hages.trans (doDev_live _ s halive), hallEdge_code n.val lines.toNat ns s.dev (by omega)
      (posOn_hasLeaf _ _ n.isLt hon) hlost hst lines.isLt hraw hcode, rfl⟩
  · refine (doDev_live (hallInvalid n.val lines.toNat) s halive).trans (congrArg Host.Outcome.next ?_)
    rw [State.onDev, hallInvalid_gone _ _ _ hcode]
  · obtain ⟨hev, hlatch⟩ := hallInvalid_latched n.val lines.toNat s.dev (by omega) hon hcode hbad hrep ht
    exact ⟨_, doDev_live _ s halive, hev, hlatch, rfl⟩
  · have hover := ssiOver_ps n.val s.dev (by omega)
    obtain ⟨hmiss, hgot, hword⟩ := ssiWord_first n.val (ssiData s.dev n.val x.toNat) (ssiOver n.val s.dev) (by omega)
      ((congrArg PosX.ssi hover).trans hfirst)
    have hend := (ssiTransferEnd_high n.val x.toNat s.dev hon hssi hns he).trans (if_neg (not_not.mpr hcrc))
    refine ⟨_, doDev_live (ssiTransferEnd n.val true x.toNat) s halive, ?_⟩
    rw [State.onDev_dev, State.onDev_mem, hend]
    exact ⟨hmiss, hgot, hword, rfl⟩
  · have hend := (ssiTransferEnd_high n.val x.toNat s.dev hon hssi hns he).trans (if_pos hcrc)
    obtain ⟨hev, -⟩ := ssiMissing_reported n.val Ev.POS.SSICRC Cz.POS.SSICRC (ssiOver n.val s.dev) (by decide)
    refine ⟨_, doDev_live (ssiTransferEnd n.val true x.toNat) s halive, ?_⟩
    rw [State.onDev_dev, State.onDev_mem, hend, ssiMissing_ps _ _ _ _ (by omega), ssiOver_ps _ _ (by omega)]
    exact ⟨rfl, rfl, hev, rfl⟩
  · obtain ⟨hev, hent⟩ := ssiMissing_reported n.val Ev.POS.SSITO Cz.POS.SSITO (ssiOver n.val s.dev) (by decide)
    refine ⟨_, doDev_live (ssiTransferEnd n.val false x.toNat) s halive, ?_⟩
    rw [State.onDev_dev, State.onDev_mem, ssiTransferEnd_low n.val x.toNat s.dev hon hssi hns, ssiMissing_ps _ _ _ _ (by omega),
      ssiOver_ps _ _ (by omega)]
    exact ⟨rfl, hev, fun hroom _ => hent (by decide) hroom, rfl⟩
  · obtain ⟨hlatch, hact⟩ := ssiFault_latched n.val s.dev (by omega) hon hmiss
    exact ⟨_, doDev_live _ s halive, hlatch, hact, rfl⟩
  · obtain ⟨hlatch, hcount, hev⟩ := xchkFault_latched n.val s.dev (by omega) hon hx
    exact ⟨_, doDev_live _ s halive, hlatch, hcount, hev, rfl⟩
  · obtain ⟨hlatch, hev⟩ := slipFault_latched n.val s.dev (by omega) hon h4
    exact ⟨_, doDev_live _ s halive, hlatch, hev, rfl⟩
  · obtain ⟨hrun, hvalid, hrest⟩ := posStartingDone_started a.val s.dev a.isLt hax hst hdie hcore hlost hhall hwords
    exact ⟨_, doDev_live _ s halive, hrun, hvalid, hrest, rfl⟩

end Sys2Proof.Machine
end

section
/-! PROOFS. Timers of a leaf's sequencer (R243, R248, R252, R255), chatter of the switches (R237, R281) and a new orientation (R261). -/

namespace Sys2Proof.Machine

/-! The parts of a leaf and of a step that these rows change. -/

theorem Dev.lrn_modLrn_same (n : Nat) (f : LearnX → LearnX) (d : Dev) (hn : n < 8) : (d.modLrn n f).lrn n = f (d.lrn n) := by
  unfold Dev.lrn Dev.modLrn
  rw [Dev.lf_modLf, if_pos ⟨rfl, hn⟩]

theorem Dev.seq_modLrn (n m : Nat) (f : LearnX → LearnX) (d : Dev) : (d.modLrn n f).seq m = d.seq m := by
  unfold Dev.seq Dev.modLrn
  rw [Dev.lf_modLf]
  split <;> rfl

theorem Dev.stp_modStp_same (k : Nat) (f : StpX → StpX) (d : Dev) (hk : k < 4) : (d.modStp k f).stp k = f (d.stp k) := by
  unfold Dev.stp Dev.modStp
  rw [Dev.sp_modSp, if_pos ⟨rfl, hk⟩]

/-- A row that changes a leaf's sequencer changes neither registers nor memory. -/
theorem seqRow_changes {g : Dev → Dev} {f : SeqX → SeqX} (s : State) (n : LeafNo) (halive : s.dev.alive = true)
    (hg : g s.dev = s.dev.modSeq n.val f) :
    ∃ t, doDev (Dev.live g) s = .next t ∧ t.dev.seq n.val = f (s.dev.seq n.val) ∧ t.dev.act = s.dev.act ∧ t.mem = s.mem := by
  refine ⟨_, doDev_live g s halive, ?_⟩
  rw [State.onDev_dev, hg]
  exact ⟨Dev.seq_modSeq_same _ _ _ n.isLt, rfl, rfl⟩

/-- A row that changes a leaf's learn run changes neither its sequencer nor memory. -/
theorem lrnRow_changes {g : Dev → Dev} {f : LearnX → LearnX} (s : State) (n : LeafNo) (halive : s.dev.alive = true)
    (hg : g s.dev = s.dev.modLrn n.val f) :
    ∃ t, doDev (Dev.live g) s = .next t ∧ t.dev.lrn n.val = f (s.dev.lrn n.val) ∧ t.dev.seq n.val = s.dev.seq n.val ∧
      t.mem = s.mem := by
  refine ⟨_, doDev_live g s halive, ?_⟩
  rw [State.onDev_dev, hg]
  exact ⟨Dev.lrn_modLrn_same _ _ _ n.isLt, Dev.seq_modLrn .., rfl⟩

/-! Timers that have run out, and the stall of a learn run. -/

theorem tunlkExpiry_due (n : Nat) (d : Dev) (h : due d (d.seq n).tunlk = true) :
    tunlkExpiry n d = d.modSeq n fun q => { q with tunlkX := true } := if_pos h

theorem tlockExpiry_due (n : Nat) (d : Dev) (h : due d (d.seq n).tlock = true) :
    tlockExpiry n d = d.modSeq n fun q => { q with tlockX := true } := if_pos h

theorem twarnEnd_due (n : Nat) (d : Dev) (h : due d (d.seq n).warn = true) :
    twarnEnd n d = d.modSeq n fun q => { q with warn := none } := if_pos h

theorem treclExpiry_due (n : Nat) (d : Dev) (h : due d (d.seq n).trecl = true) :
    treclExpiry n d = d.modSeq n fun q => { q with treclX := true } := if_pos h

theorem referencePressEnd_due (n : Nat) (d : Dev) (h : due d (d.lrn n).press = true) :
    referencePressEnd n d = d.modLrn n fun r => { r with pressX := true } := if_pos h

theorem learnStall_counted (n : Nat) (d : Dev) (hst : (d.seq n).st = .learn)
    (hcount : d.get (pgLEAF n) LEAF.SEQ_LRN3.LSTALLN ≤ (d.lrn n).stallN) :
    learnStall n d = d.modLrn n fun r => { r with stallX := true } := if_pos (by simp [hst, hcount])

/-! Chatter (R237, R281). -/

/-- The times of the last transitions of a leaf's switch, numbered as its suspect marks. -/
def switchTimes (r : LearnX) (i : Nat) : List Nat := if i = 0 then r.histC else if i = 1 then r.histO else r.histL

section
variable (n i : Nat) (d : Dev) (hleaf : d.part.hasLeaf n = true)
  (hch : chatters d.tim.mot (switchTimes (d.lrn n) i) = true)
include hleaf hch

/-- In a learn run chatter is left to the run. -/
theorem leafChatter_learn (hst : (d.seq n).st = .learn) : leafChatter n i d = d.modLrn n fun r => { r with chat := true } :=
  (if_pos (Bool.and_eq_true_iff.mpr ⟨hleaf, hch⟩)).trans (if_pos (beq_iff_eq.mpr hst))

/-- Outside a learn run a switch that chatters is marked suspect and reported. -/
theorem leafChatter_marks (hst : (d.seq n).st ≠ .learn) (hclear : bit (d.seq n).susp i = false) :
    leafChatter n i d = (d.modSeq n fun q => { q with susp := setBit q.susp i true }).raise (pgLEAF n) Cz.LEAF.CHATTER 0xFF := by
  have hrun : ¬ ((d.seq n).st == .learn) = true := mt beq_iff_eq.mp hst
  exact (if_pos (Bool.and_eq_true_iff.mpr ⟨hleaf, hch⟩)).trans ((if_neg hrun).trans (if_neg (by simp [hclear])))

/-- The mark of a switch that chatters stands after its report, and the report after it where the queue has room. -/
theorem leafChatter_suspect (hn : n < 8) (hst : (d.seq n).st ≠ .learn) (hclear : bit (d.seq n).susp i = false) :
    bit ((leafChatter n i d).seq n).susp i = true ∧
      (d.queueRoom = true → (leafChatter n i d).entryOf (pgLEAF n) Cz.LEAF.CHATTER 0xFF = true) := by
  have keepsMark := keepsLeaf (fun l => bit l.seq.susp i) n true (fun _ _ => rfl) (fun _ _ _ => rfl) (fun _ _ => rfl)
  rw [leafChatter_marks n i d hleaf hch hst hclear]
  refine ⟨keepsMark.raise _ _ _ _ ?_, fun hroom => Dev.raise_standing _ _ _ _ (by decide) hroom⟩
  show bit ((d.modSeq n _).seq n).susp i = true
  rw [Dev.seq_modSeq_same _ _ _ hn, bit_setBit, if_pos rfl]

end

/-- A step's switch that chatters is marked suspect, and the mark stands after its report. -/
theorem stepChatter_suspect (k : Nat) (ext : Bool) (d : Dev) (hk : k < 4) (hstep : d.part.hasStepAxis k = true)
    (hch : chatters d.tim.mot (if ext then (d.stp k).histE else (d.stp k).histR) = true)
    (hclear : bit (d.stp k).susp (b2n ext) = false) : bit ((stepChatter k ext d).stp k).susp (b2n ext) = true := by
  have hmarks : stepChatter k ext d = (d.modStp k fun s => { s with susp := setBit s.susp (b2n ext) true }).raise (pgSTEP k)
      Cz.STEP.SCHAT 0xFF := if_pos (by rw [hstep, hch, hclear]; rfl)
  have keepsMark := keepsStep (fun x => bit x.stp.susp (b2n ext)) k true (fun _ _ => rfl)
  rw [hmarks]
  refine keepsMark.raise _ _ _ _ ?_
  show bit ((d.modStp k _).stp k).susp (b2n ext) = true
  rw [Dev.stp_modStp_same _ _ _ hk, bit_setBit, if_pos rfl]

/-! Orientation (R261). -/

/-- A wanted orientation that differs is applied with its event, once no side is released, every leaf rests and no earlier change
is under way. -/
theorem orientationApply_applied (d : Dev) (hdiff : wantedOri d ≠ d.sy.ori) (hcore : d.sx.dec % 4 = 0) (hright : qDec d 0 = false)
    (hleft : qDec d 1 = false) (hrest : d.leaves.all (leafRest d) = true) (hnew : d.sy.oriNew = false) (hback : d.sy.oriBack = false)
    (hsent : d.sy.oriSent = none) :
    (orientationApply d).sy.ori = wantedOri d ∧ (orientationApply d).raised pgSAFE Ev.SAFE.ORICHG = true := by
  have happly : orientationApply d =
      { d with sy := { d.sy with oriPrev := d.sy.ori, ori := wantedOri d, oriNew := true } }.ev pgSAFE Ev.SAFE.ORICHG :=
    if_pos (by simp [hdiff, hcore, hright, hleft, hrest, hnew, hback, hsent])
  rw [happly]
  exact ⟨rfl, Dev.raised_ev_same _ _ _ (by decide)⟩

/-! The obligation. -/

/-- Settles O18: each row is a change of the device of its own; a timer changes one part of its leaf, a mark stands through its
report. -/
theorem sequencerEvents : Obligations.SequencerEvents := by
  unfold Obligations.SequencerEvents
  refine ⟨fun s n halive =>
      ⟨fun h => seqRow_changes s n halive (tunlkExpiry_due n.val s.dev h),
        fun h => seqRow_changes s n halive (tlockExpiry_due n.val s.dev h),
        fun h => seqRow_changes s n halive (twarnEnd_due n.val s.dev h),
        fun h => seqRow_changes s n halive (treclExpiry_due n.val s.dev h),
        fun h => lrnRow_changes s n halive (referencePressEnd_due n.val s.dev h),
        fun hst hcount => lrnRow_changes s n halive (learnStall_counted n.val s.dev hst hcount)⟩,
    fun s n k halive => ⟨fun hleaf hch => ?_, fun hstep hch hclear => ?_,
      fun hdue hdiff hcore hright hleft hrest hnew hback hsent => ?_⟩⟩
  · have hrow : switchChatter n.val .closed s.dev = leafChatter n.val 0 s.dev := if_pos n.isLt
    refine ⟨fun hst hclear => ?_, fun hst => ?_⟩
    · obtain ⟨hmark, hent⟩ := leafChatter_suspect n.val 0 s.dev hleaf hch n.isLt hst hclear
      refine ⟨_, doDev_live (switchChatter n.val .closed) s halive, ?_⟩
      rw [State.onDev_dev, hrow]
      exact ⟨hmark, hent, rfl⟩
    · obtain ⟨t, ht, hlrn, hseq, -⟩ := lrnRow_changes (g := switchChatter n.val .closed) s n halive
        (hrow.trans (leafChatter_learn n.val 0 s.dev hleaf hch hst))
      exact ⟨t, ht, congrArg LearnX.chat hlrn, hseq⟩
  · have hrow : switchChatter (8 + k.val) .retracted s.dev = stepChatter k.val false s.dev :=
      (if_neg (by omega)).trans (by rw [Nat.add_sub_cancel_left])
    have hmark := stepChatter_suspect k.val false s.dev k.isLt hstep hch hclear
    refine ⟨_, doDev_live (switchChatter (8 + k.val) .retracted) s halive, ?_⟩
    rw [State.onDev_dev, hrow]
    exact ⟨hmark, rfl⟩
  · obtain ⟨hori, hev⟩ := orientationApply_applied s.dev hdiff hcore hright hleft hrest hnew hback hsent
    refine ⟨_, doDev_live (fun d => if d.tim.cycleDue then orientationApply d else d) s halive, ?_⟩
    rw [State.onDev_dev, if_pos hdue]
    exact ⟨hori, hev, rfl⟩

end Sys2Proof.Machine
end

section
/-! PROOFS. A step axis: its commands (R281, R284, R285), its STEP/DIR input (R276, R277), the hold delay (R271), open windings (R275) and
retract demands (R283). -/

namespace Sys2Proof.Machine

/-! The parts of a step that these rows change. -/

theorem Dev.win_modWin_same (k : Nat) (f : StpDrvX → StpDrvX) (d : Dev) (hk : k < 4) : (d.modWin k f).win k = f (d.win k) := by
  unfold Dev.win Dev.modWin
  rw [Dev.sp_modSp, if_pos ⟨rfl, hk⟩]

theorem Dev.stp_modWin (k m : Nat) (f : StpDrvX → StpDrvX) (d : Dev) : (d.modWin k f).stp m = d.stp m := by
  unfold Dev.stp Dev.modWin
  rw [Dev.sp_modSp]
  split <;> rfl

@[simp] theorem Dev.stp_ev (p n k : Nat) (d : Dev) : (d.ev p n).stp k = d.stp k := rfl

/-! Commands (R284, R285). -/

/-- The fields of `STP_CMD`. -/
def stpCmdFields : List Fld :=
  [STEP.STP_CMD.CLRSUSP, STEP.STP_CMD.HSTOP, STEP.STP_CMD.QSTOP, STEP.STP_CMD.STOP, STEP.STP_CMD.ACK, STEP.STP_CMD.HOME,
    STEP.STP_CMD.UNINH, STEP.STP_CMD.INHIBIT, STEP.STP_CMD.RETRACT, STEP.STP_CMD.EXTEND]

/-- A write of `STP_CMD` by the runtime. -/
theorem wr_stpCmd (k v : Nat) (s : State) (hk : k < 4) (hh : s.dev.part.hasStepAxis k = true) (hr : s.dev.runtimeActs = true) :
    wr .runtime (pgSTEP k) STEP.STP_CMD.EXTEND v s = s.onDev (stpCmd k (takenBits stpCmdFields (v % 2 ^ 32))) :=
  wr_step k STEP.STP_CMD.EXTEND v s stpCmdFields hk hh hr (by decide) (by decide) (by decide) (by rfl) (by decide) (by decide)

/-- The bit of `STP_CMD` that gives a command. -/
def StpCmd.mask : StpCmd → Nat
  | .extend => 1
  | .retract => 2
  | .inhibit => 4
  | .uninh => 8
  | .home => 16
  | .ack => 32
  | .stop => 64
  | .qstop => 128
  | .hstop => 256

/-- A command alone is latched for the next evaluation, or refused by a page out of service. -/
def latchStp (k : Nat) (c : StpCmd) (d : Dev) : Dev :=
  if d.pgState (pgSTEP k) = 0 ∨ d.pgState (pgSTEP k) = 3 then stepRefuse k d else d.modStp k fun s => { s with cmd := some c }

/-- A write of `STP_CMD` with the bit of one command. -/
theorem wr_stpCmd_mask (k : Nat) (c : StpCmd) (s : State) (hk : k < 4) (hh : s.dev.part.hasStepAxis k = true)
    (hr : s.dev.runtimeActs = true) : wr .runtime (pgSTEP k) STEP.STP_CMD.EXTEND c.mask s = s.onDev (latchStp k c) := by
  rw [wr_stpCmd k c.mask s hk hh hr]
  cases c <;> rfl

/-- A command to a page in service is latched and changes no register. -/
theorem latchStp_latched (k : Nat) (c : StpCmd) (d : Dev) (hk : k < 4) (hoff : d.pgState (pgSTEP k) ≠ 0)
    (hparked : d.pgState (pgSTEP k) ≠ 3) : ((latchStp k c d).stp k).cmd = some c ∧ (latchStp k c d).act = d.act := by
  rw [latchStp, if_neg (not_or.mpr ⟨hoff, hparked⟩)]
  exact ⟨congrArg StpX.cmd (Dev.stp_modStp_same k _ d hk), rfl⟩

/-- A command to a page out of service is refused with event REFUSE. -/
theorem latchStp_refused (k : Nat) (c : StpCmd) (d : Dev) (hk : k < 4) (hout : d.pgState (pgSTEP k) = 0 ∨ d.pgState (pgSTEP k) = 3) :
    (latchStp k c d).stp k = { d.stp k with refused := true } ∧ (latchStp k c d).raised (pgSTEP k) Ev.STEP.REFUSE = true := by
  rw [latchStp, if_pos hout, stepRefuse, Dev.stp_ev, Dev.stp_modStp_same _ _ _ hk]
  exact ⟨rfl, Dev.raised_ev_same _ _ _ (by decide)⟩

/-! CLRSUSP (R238, R281). -/

/-- A write of CLRSUSP alone acts at once. -/
theorem exec_stpCmdClrsusp (k : StepNo) (s : State) (hr : s.dev.runtimeActs = true) (hh : s.dev.part.hasStepAxis k.val = true) :
    exec (.stpCmdClrsusp .runtime k) s = .next (s.onDev (stepClrSusp k.val)) := by
  show Host.Outcome.next (wr .runtime (pgSTEP k.val) STEP.STP_CMD.EXTEND 512 s) = _
  rw [wr_stpCmd k.val 512 s k.isLt hh hr]
  rfl

/-- CLRSUSP clears bit by bit. -/
theorem stepClrSusp_eq (k : Nat) (d : Dev) : stepClrSusp k d = d.modStp k fun s =>
    let x := if switchQuiet d (d.stp k).histR then setBit (d.stp k).susp 0 false else (d.stp k).susp
    { s with susp := if switchQuiet d (d.stp k).histE then setBit x 1 false else x } := by
  unfold stepClrSusp switchQuiet
  simp only [← all_head?_eq_match] <;> rfl

/-- CLRSUSP clears the suspicion of each quiet switch and nothing else of the step. -/
theorem stepClrSusp_stp (k : Nat) (d : Dev) (hk : k < 4) : ∃ v, (stepClrSusp k d).stp k = { d.stp k with susp := v } ∧
    ∀ i, bit v i = (bit (d.stp k).susp i && !(switchQuiet d (d.stp k).histR && decide (0 = i)) &&
      !(switchQuiet d (d.stp k).histE && decide (1 = i))) := by
  rw [stepClrSusp_eq]
  exact ⟨_, Dev.stp_modStp_same k _ d hk, fun i => by rw [bit_clear_if, bit_clear_if]⟩

/-! The STEP/DIR input (R276, R277). -/

section
variable (k : Nat) (rise dir : Bool) (gapNs widthNs : Nat) (d : Dev)

/-- The edge that SDPOL does not select changes nothing. -/
theorem stepInputEdge_inactive (h : rise = d.on (pgSTEP k) STEP.STP_CFG.SDPOL) : stepInputEdge k rise dir gapNs widthNs d = d :=
  if_pos (by simp [h])

section
variable (hstep : d.part.hasStepAxis k = true) (hsrc : d.on (pgSTEP k) STEP.STP_CFG.SRC = true)
  (hedge : rise ≠ d.on (pgSTEP k) STEP.STP_CFG.SDPOL)
include hstep hsrc hedge

/-- A pulse of at most 500 ns is a glitch. -/
theorem stepInputEdge_glitch (hwidth : widthNs ≤ 500) :
    stepInputEdge k rise dir gapNs widthNs d = d.ev (pgSTEP k) Ev.STEP.SDGLT :=
  (if_neg (by simp [hstep, hsrc, hedge])).trans (if_pos hwidth)

/-- An active edge of normal width and spacing counts up toward a released side, up to EXTP. -/
theorem stepInputEdge_up (hk : k < 4) (hwidth : 1000 ≤ widthNs) (hgap : 4000 ≤ gapNs)
    (hdir : dir ≠ d.on (pgSTEP k) STEP.STP_CFG.DIRPOL)
    (hrel : sideReleased d (d.on (pgSTEP k) STEP.STP_CFG.CARSIDE != d.sy.ori) = true)
    (hrange : mPos d k ((d.win k).sdBase + ((d.win k).sdCnt + 1) * (d.get (pgSTEP k) STEP.SDIR.SDMUL : Nat)) ≤
      (d.get (pgSTEP k) STEP.EXTP.EXTP : Nat) * 65536) :
    ((stepInputEdge k rise dir gapNs widthNs d).win k).sdCnt = sgn 32 (uns 32 ((d.win k).sdCnt + 1)) ∧
      (stepInputEdge k rise dir gapNs widthNs d).act = d.act := by
  have hup : (dir != d.on (pgSTEP k) STEP.STP_CFG.DIRPOL) = true := bne_iff_ne.mpr hdir
  have hshort : decide (widthNs < 1000) = false := decide_eq_false (by omega)
  have hrate : decide (gapNs < 4000) = false := decide_eq_false (by omega)
  have hbad : decide (mPos d k ((d.win k).sdBase + ((d.win k).sdCnt + 1) * (d.get (pgSTEP k) STEP.SDIR.SDMUL : Nat)) >
      (d.get (pgSTEP k) STEP.EXTP.EXTP : Nat) * 65536) = false := decide_eq_false (by omega)
  have hcount : ∃ dir' gap, stepInputEdge k rise dir gapNs widthNs d =
      d.modWin k fun w => { w with sdCnt := sgn 32 (uns 32 (w.sdCnt + 1)), sdDir := dir', sdGap := gap } := by
    unfold stepInputEdge
    simp only [hstep, hsrc, bne_iff_ne.mpr hedge, Bool.and_self, Bool.not_true, Bool.false_eq_true, if_false, hshort, hrate,
      if_neg (show ¬ widthNs ≤ 500 by omega), Bool.or_self, Bool.false_and, Dev.evIf, hup, if_true, hrel, hbad]
    exact ⟨_, _, rfl⟩
  obtain ⟨dir', gap, heq⟩ := hcount
  rw [heq]
  exact ⟨congrArg StpDrvX.sdCnt (Dev.win_modWin_same k _ d hk), rfl⟩

end

/-! The hold delay (R271), and open windings (R275). -/

theorem holdDelayEnd_due (hstep : d.part.hasStepAxis k = true) (hdue : due d (d.win k).hold = true) (hramp : (d.win k).ramp = none) :
    holdDelayEnd k d = d.modWin k fun w => { w with holdEnd := true } := if_pos (by simp [hstep, hdue, hramp])

/-- A class C2 fault of a step leaves its fault event, and the condition on its page; an event that stands keeps standing. -/
theorem stepFault_spec (pg : Nat) (c : Cause) (inst : Nat) (hk : k < 4) (hc : c.cls = 2) : ((stepFault k pg c inst d).stp k).fault = true ∧
    (stepFault k pg c inst d).hasC2 pg = true ∧ ∀ q n, n < 32 → d.raised q n = true → (stepFault k pg c inst d).raised q n = true := by
  refine ⟨congrArg StpX.fault (Dev.stp_modStp_same k _ _ hk), ?_, fun q n hn h =>
    (keepsRaised q n hn).fault (fun _ _ h => h) pg c inst d h⟩
  obtain ⟨x, hx, heq⟩ := List.any_eq_true.mp (Dev.fault_c2 pg c inst d hc)
  exact List.any_eq_true.mpr ⟨x, hx, by rw [eq_of_beq heq]; exact beq_self_eq_true pg⟩

/-- A winding without current in 64 periods is a fault event with event OPENW. -/
theorem openWinding_faults (b : Bool) (hk : k < 4) (hstep : d.part.hasStepAxis k = true)
    (hn : 64 ≤ if b then (d.win k).openB else (d.win k).openA) : ((openWinding k b d).stp k).fault = true ∧
      (openWinding k b d).hasC2 (pgSTEP k) = true ∧ (openWinding k b d).raised (pgSTEP k) Ev.STEP.OPENW = true := by
  have hopen : openWinding k b d = stepFault k (pgSTEP k) Cz.STEP.OPENW 0xFF
      ((d.modWin k fun w => { w with openA := 0, openB := 0 }).ev (pgSTEP k) Ev.STEP.OPENW) := if_pos (by simp [hstep, hn])
  rw [hopen]
  obtain ⟨hfault, hc2, hraised⟩ := stepFault_spec k ((d.modWin k fun w => { w with openA := 0, openB := 0 }).ev (pgSTEP k) Ev.STEP.OPENW)
    (pgSTEP k) Cz.STEP.OPENW 0xFF hk rfl
  exact ⟨hfault, hc2, hraised _ _ (by decide) (Dev.raised_ev_same _ _ _ (by decide))⟩

end

/-! Retract demands (R283). -/

/-- A move leaves the state of its step. -/
theorem stepMove_st (k : Nat) (tgt : Int) (set : Nat) (d : Dev) (hk : k < 4) : ((stepMove k tgt set d).stp k).st = (d.stp k).st := by
  unfold stepMove
  rw [Dev.stp_modWin, Dev.stp_modStp_same _ _ _ hk]

/-- A step that enters another state stands in it, and keeps its demand where the state has a row for it. -/
theorem stepState_enters (k : Nat) (st : StepState) (d : Dev) (hk : k < 4) (hst : (d.stp k).st ≠ st) :
    ((stepState k st d).stp k).st = st ∧ ((stepState k st d).stp k).pend = ((d.stp k).pend && demandRow st) := by
  have henter : (stepState k st d).stp k =
      { d.stp k with st := st, pend := (d.stp k).pend && demandRow st, inhReq := (d.stp k).inhReq && demandRow st } := by
    rw [stepState, if_neg (mt eq_of_beq hst)]
    dsimp only
    rw [Dev.stp_ev, Dev.stp_modStp_same _ _ _ hk]
    rfl
  rw [henter]
  exact ⟨rfl, rfl⟩

/-- A demand that nothing holds is spent, and the step retracts. -/
theorem retractNow_retracts (k : Nat) (d : Dev) (hk : k < 4) (hpend : (d.stp k).pend = true) (hrow : demandRow (d.stp k).st = true)
    (hstop : (d.stp k).stopPlan = none) (hfree : stepBlocked d k = false) :
    ((retractNow k d).stp k).pend = false ∧ ((retractNow k d).stp k).st = .retracting := by
  have hst : (d.stp k).st ≠ .retracting := fun h => absurd hrow (by rw [h]; decide)
  unfold retractNow
  rw [if_pos (by simp [hpend, hrow, hstop, hfree])]
  dsimp only
  generalize hd : (d.modStp k fun s => { s with pend := false, inhReq := false, inhPend := (d.stp k).inhReq }) = t
  have ht : (t.stp k).st = (d.stp k).st := by rw [← hd, Dev.stp_modStp_same _ _ _ hk]
  obtain ⟨henter, hspent⟩ := stepState_enters k .retracting (stepMove k (t.geti (pgSTEP k) STEP.RETTGT.RETTGT) 1 t) hk
    (by rw [stepMove_st _ _ _ _ hk, ht]; exact hst)
  exact ⟨hspent.trans (Bool.and_false _), henter⟩

/-! The obligation. -/

/-- Settles O11: a write of `STP_CMD` latches or refuses one command or is CLRSUSP, and each row of the step is one change of its device. -/
theorem stepAxes : Obligations.StepAxes := by
  unfold Obligations.StepAxes
  refine ⟨fun s k hr hh => ⟨fun hoff hparked => ?_, fun hout => ?_, ?_⟩,
    fun s k rise b w halive hh => ⟨fun hedge => ?_, fun hsrc hedge => ⟨?_, fun hdir hrel hrange => ?_⟩, fun hdue hramp => ?_,
      fun hopen => ?_, fun hst hpend hrow hstop hfree => ?_⟩⟩
  · have latched (c : StpCmd) : ∃ t, Host.Outcome.next (wr .runtime (pgSTEP k.val) STEP.STP_CMD.EXTEND c.mask s) =
        (.next t : Host.Outcome State Fault Refusal) ∧ (t.dev.stp k.val).cmd = some c ∧ t.dev.act = s.dev.act ∧ t.mem = s.mem := by
      obtain ⟨hcmd, hact⟩ := latchStp_latched k.val c s.dev k.isLt hoff hparked
      exact ⟨_, congrArg _ (wr_stpCmd_mask k.val c s k.isLt hh hr), hcmd, hact, rfl⟩
    exact ⟨latched .extend, latched .retract, latched .inhibit, latched .uninh, latched .home, latched .ack, latched .stop,
      latched .qstop, latched .hstop⟩
  · obtain ⟨hstp, hev⟩ := latchStp_refused k.val .extend s.dev k.isLt hout
    exact ⟨_, congrArg Host.Outcome.next (wr_stpCmd_mask k.val .extend s k.isLt hh hr), hstp, rfl, hev⟩
  · obtain ⟨v, hstp, hbit⟩ := stepClrSusp_stp k.val s.dev k.isLt
    refine ⟨_, exec_stpCmdClrsusp k s hr hh, ?_⟩
    rw [State.onDev_dev, hstp]
    refine ⟨fun h => ?_, fun h => ?_, rfl, rfl⟩ <;> simp [hbit, switchQuiet_of_head _ _ h]
  · exact (doDev_live (stepInputEdge k.val rise b 5000 2000) s halive).trans
      (congrArg Host.Outcome.next (State.onDev_of_eq _ s (stepInputEdge_inactive k.val rise b 5000 2000 s.dev hedge)))
  · refine ⟨_, doDev_live (stepInputEdge k.val rise b 5000 w.val) s halive, ?_⟩
    rw [State.onDev_dev, stepInputEdge_glitch k.val rise b 5000 w.val s.dev hh hsrc hedge (by omega)]
    exact ⟨Dev.raised_ev_same _ _ _ (by decide), rfl, rfl⟩
  · obtain ⟨hcnt, hact⟩ := stepInputEdge_up k.val rise b 5000 2000 s.dev hh hsrc hedge k.isLt (by decide) (by decide) hdir hrel hrange
    exact ⟨_, doDev_live (stepInputEdge k.val rise b 5000 2000) s halive, hact, hcnt, rfl⟩
  · refine ⟨_, doDev_live (holdDelayEnd k.val) s halive, ?_⟩
    rw [State.onDev_dev, holdDelayEnd_due k.val s.dev hh hdue hramp]
    exact ⟨congrArg StpDrvX.holdEnd (Dev.win_modWin_same _ _ _ k.isLt), rfl, rfl⟩
  · obtain ⟨hfault, hc2, hev⟩ := openWinding_faults k.val s.dev b k.isLt hh hopen
    exact ⟨_, doDev_live (openWinding k.val b) s halive, hev, hfault, hc2, rfl⟩
  · have hrelease : retractRelease k.val s.dev = retractNow k.val s.dev := if_pos (by simp [hh, hst])
    obtain ⟨hspent, hret⟩ := retractNow_retracts k.val s.dev k.isLt hpend hrow hstop hfree
    refine ⟨_, doDev_live (retractRelease k.val) s halive, ?_⟩
    rw [State.onDev_dev, hrelease]
    exact ⟨hspent, hret, rfl⟩

end Sys2Proof.Machine
end

section
/-! PROOFS. Masks that are built bit by bit, masks with bits taken away, and one place of a list. -/

namespace Sys2Proof

/-- A mask that a run through the places below `k` sets anew. -/
theorem bit_foldl_setBit (f : Nat → Bool) (k v j : Nat) :
    bit ((List.range k).foldl (fun m i => setBit m i (f i)) v) j = if j < k then f j else bit v j := by
  induction k with
  | zero => rfl
  | succ k ih =>
    rw [List.range_succ, List.foldl_append, List.foldl_cons, List.foldl_nil, bit_setBit, ih]
    by_cases hj : k = j
    · simp [hj]
    · simp [hj, show (j < k + 1) = (j < k) by simp; omega]

theorem bit_zero_eq (v : Nat) : bit v 0 = decide (v % 2 = 1) := by
  rw [bit, Nat.pow_zero, Nat.div_one]
  rfl

theorem bit_succ (v i : Nat) : bit v (i + 1) = bit (v / 2) i := by
  rw [bit, bit, Nat.pow_succ', Nat.div_div_eq_div_mul]

/-- Taking away the bits that a second mask shares leaves none of them. -/
theorem bit_sub_and (x y i : Nat) : bit (x - (x &&& y)) i = (bit x i && !bit y i) := by
  induction i generalizing x y with
  | zero =>
    have hlow : (x &&& y) % 2 = 1 ↔ x % 2 = 1 ∧ y % 2 = 1 := Nat.and_mod_two_eq_one
    have hle : x &&& y ≤ x := Nat.and_le_left
    rw [Bool.eq_iff_iff]
    simp only [bit_zero_eq, decide_eq_true_eq, Bool.and_eq_true, Bool.not_eq_true', decide_eq_false_iff_not]
    generalize x &&& y = z at hlow hle
    omega
  | succ i ih =>
    have hlow : (x &&& y) % 2 = 1 → x % 2 = 1 := fun h => (Nat.and_mod_two_eq_one.mp h).1
    have hle : x &&& y ≤ x := Nat.and_le_left
    have hhalf : (x - (x &&& y)) / 2 = x / 2 - (x / 2 &&& y / 2) := by
      rw [← Nat.and_div_two]
      generalize x &&& y = z at hlow hle
      omega
    rw [bit_succ, bit_succ, bit_succ, hhalf, ih]

theorem nth_modNth_same {α : Type} (f : α → α) (l : List α) (i : Nat) (x : α) (h : i < l.length) :
    nth (modNth f l i) i x = f (nth l i x) := by
  induction l generalizing i with
  | nil => cases h
  | cons a l ih =>
    cases i with
    | zero => rfl
    | succ i => exact ih i (Nat.lt_of_succ_lt_succ h)

end Sys2Proof
end

section
/-! PROOFS. What a field die's outputs latch, report and clear (R305, R420, R426, R427). -/

namespace Sys2Proof.Machine

/-! A die's parts, and what it has to tell. -/

theorem Dev.each_singleton {α : Type} (a : α) (f : α → Dev → Dev) (d : Dev) : d.each [a] f = f a d := rfl

/-- Channel `c` of die `x`, of `n` on each, in the numbering of both dies. -/
theorem channel_place (n x c : Nat) (hc : c < n) : (n * x + c) / n = x ∧ (n * x + c) % n = c := by
  rw [Nat.mul_add_div (by omega), Nat.mul_add_mod, Nat.div_eq_of_lt hc, Nat.mod_eq_of_lt hc]
  exact ⟨rfl, rfl⟩

theorem Dev.di_modDi_same (x : Nat) (f : DieX → DieX) (d : Dev) (hx : x < 2) : (d.modDi x f).di x = f (d.di x) := by
  rw [Dev.di_modDi, if_pos ⟨rfl, hx⟩]

theorem Dev.dy_modDy_same (x : Nat) (f : DieY → DieY) (d : Dev) (hx : x < 2) : (d.modDy x f).dy x = f (d.dy x) := by
  rw [Dev.dy_modDy, if_pos ⟨rfl, hx⟩]

/-- The die has its link to a running core. -/
abbrev Dev.linked (d : Dev) (x : Nat) : Prop := d.alive = true ∧ d.on (pgFIO x) FIO.LINK.LOST = false

/-- A die with its link keeps a report for the next frame, and nothing else of it changes. -/
theorem dieTells_linked (x : Nat) (m : Tell) (d : Dev) (hx : x < 2) (hlink : d.linked x) :
    (dieTells x m d).di x = { d.di x with tells := (d.di x).tells ++ [m] } ∧ (dieTells x m d).dy x = d.dy x := by
  have hsend : dieTells x m d = d.modDi x fun y => { y with tells := y.tells ++ [m] } := if_pos (by simp [hlink])
  rw [hsend, Dev.di_modDi_same _ _ _ hx]
  exact ⟨rfl, rfl⟩

/-- A clear changes of the die only what it still has to tell. -/
theorem dieClears_keep {α : Type} (g : DieX → α) (x m pg : Nat) (c : Cause) (inst : Nat) (d : Dev)
    (hg : ∀ y l, g { y with tells := l } = g y) : g ((dieClears x pg c inst d).di m) = g (d.di m) :=
  Dev.di_modDi_keep g _ x m d fun y => hg y _

@[simp] theorem dieClears_dy (x m pg : Nat) (c : Cause) (inst : Nat) (d : Dev) : (dieClears x pg c inst d).dy m = d.dy m := rfl

section
variable {x c i : Nat} {d : Dev}

/-! High-side outputs (R426, R427). -/

/-- An output whose own latch is set is off. -/
theorem doOn_latched (y : DieX) (hc : c < 8) (hlatch : bit y.oc c = true ∨ bit y.th c = true) : doOn y x c = false := by
  have hany : ((doGroup y.cfg.doCfg c).any fun m => bit y.oc m || bit y.th m) = true :=
    List.any_eq_true.mpr ⟨c, List.mem_filter.mpr ⟨List.mem_range.mpr hc, by simp⟩, by simpa using hlatch⟩
  simp [doOn, hany]

theorem bit_on_doDrive (d : Dev) (hx : x < 2) (hc : c < 8) : bit ((doDrive x d).di x).on c = doOn (d.di x) x c := by
  rw [doDrive, Dev.di_modDi_same _ _ _ hx, bit_foldl_setBit, if_pos hc]

/-- An output that finds its limit or its junction too hot latches off, and the die has the fault to tell. -/
theorem doOverload_latches (thermal : Bool) (hx : x < 2) (hc : c < 8) (hrun : dieRuns d x = true) (hlink : d.linked x)
    (hon : bit (d.di x).on c = true) : bit ((doOverload (8 * x + c) thermal d).di x).on c = false ∧
      bit (if thermal then ((doOverload (8 * x + c) thermal d).di x).th else ((doOverload (8 * x + c) thermal d).di x).oc) c = true ∧
      ((doOverload (8 * x + c) thermal d).di x).tells = (d.di x).tells ++
        [tellFault (pgFIO x) (if thermal then Cz.FIO.DOTH else Cz.FIO.DOOC) (8 * x + c) [Ev.FIO.DOFLT]] := by
  obtain ⟨hdie, hch⟩ := channel_place 8 x c hc
  let t := d.modDi x fun y => if thermal then { y with th := setBit y.th c true } else { y with oc := setBit y.oc c true }
  have hdo : doOverload (8 * x + c) thermal d =
      dieTells x (tellFault (pgFIO x) (if thermal then Cz.FIO.DOTH else Cz.FIO.DOOC) (8 * x + c) [Ev.FIO.DOFLT]) (doDrive x t) := by
    unfold doOverload
    simp only [hdie, hch]
    exact if_pos (by simp [hrun, hon])
  obtain ⟨htold, -⟩ := dieTells_linked x (tellFault (pgFIO x) (if thermal then Cz.FIO.DOTH else Cz.FIO.DOOC) (8 * x + c)
    [Ev.FIO.DOFLT]) (doDrive x t) hx hlink
  have ht : t.di x = if thermal then { d.di x with th := setBit (d.di x).th c true } else { d.di x with oc := setBit (d.di x).oc c true } :=
    Dev.di_modDi_same _ _ _ hx
  have hlatch : bit (if thermal then (t.di x).th else (t.di x).oc) c = true := by
    rw [ht]
    cases thermal <;> simp [bit_setBit_true]
  rw [hdo, htold]
  refine ⟨(bit_on_doDrive t hx hc).trans (doOn_latched _ hc ?_), ?_, ?_⟩
  · cases thermal
    · exact .inl hlatch
    · exact .inr hlatch
  · dsimp only
    rw [doDrive, Dev.di_modDi_same _ _ _ hx]
    exact hlatch
  · dsimp only
    rw [doDrive, Dev.di_modDi_same _ _ _ hx]
    dsimp only
    rw [ht]
    cases thermal <;> rfl

theorem doReadback_tells (hx : x < 2) (hc : c < 8) (hrun : dieRuns d x = true) (hlink : d.linked x) (hrb : bit (d.di x).rb c = false) :
    bit ((doReadback (8 * x + c) d).di x).rb c = true ∧ ((doReadback (8 * x + c) d).di x).tells = (d.di x).tells ++
      [tellFault (pgFIO x) (if bit (d.di x).on c then Cz.FIO.DORB else Cz.FIO.DOEXT) (8 * x + c) [Ev.FIO.DOFLT]] := by
  obtain ⟨hdie, hch⟩ := channel_place 8 x c hc
  have hdo : doReadback (8 * x + c) d =
      dieTells x (tellFault (pgFIO x) (if bit (d.di x).on c then Cz.FIO.DORB else Cz.FIO.DOEXT) (8 * x + c) [Ev.FIO.DOFLT])
        (d.modDi x fun y => { y with rb := setBit y.rb c true }) := by
    unfold doReadback
    simp only [hdie, hch]
    exact if_pos (by simp [hrun, hrb])
  rw [hdo, (dieTells_linked x _ (d.modDi x fun y => { y with rb := setBit y.rb c true }) hx hlink).1, Dev.di_modDi_same _ _ _ hx]
  exact ⟨by simp [bit_setBit_true], rfl⟩

theorem doOpenLoad_tells (hx : x < 2) (hc : c < 8) (hrun : dieRuns d x = true) (hlink : d.linked x) (hon : bit (d.di x).on c = true)
    (hopen : bit (d.di x).openL c = false) : bit ((doOpenLoad (8 * x + c) d).di x).openL c = true ∧
      ((doOpenLoad (8 * x + c) d).di x).tells = (d.di x).tells ++ [tellFault (pgFIO x) Cz.FIO.DOOPEN (8 * x + c) []] := by
  obtain ⟨hdie, hch⟩ := channel_place 8 x c hc
  have hdo : doOpenLoad (8 * x + c) d = dieTells x (tellFault (pgFIO x) Cz.FIO.DOOPEN (8 * x + c) [])
      (d.modDi x fun y => { y with openL := setBit y.openL c true }) := by
    unfold doOpenLoad
    simp only [hdie, hch]
    exact if_pos (by simp [hrun, hon, hopen])
  rw [hdo, (dieTells_linked x _ (d.modDi x fun y => { y with openL := setBit y.openL c true }) hx hlink).1, Dev.di_modDi_same _ _ _ hx]
  exact ⟨by simp [bit_setBit_true], rfl⟩

/-- A clear of one output ends its latch below T_JC, and no other output's. -/
theorem doClr_oc (hx : x < 2) (hc : c < 8) (hrun : dieRuns d x = true) (k : Nat) :
    bit ((doClr x (2 ^ c) d).di x).oc k =
      (bit (d.di x).oc k && !(decide (c = k) && tjBelow (nth (d.di x).samp.doTj c 250))) := by
  have hone : ∀ c : Fin 8, (List.range 8).filter (bit (2 ^ c.val)) = [c.val] := by decide
  have hlist : ((List.range 8).filter fun k => bit (2 ^ c) k && tjBelow (nth (d.di x).samp.doTj k 250)) =
      if tjBelow (nth (d.di x).samp.doTj c 250) then [c] else [] := by
    rw [← List.filter_filter, List.filter_comm, hone ⟨c, hc⟩, List.filter_singleton, cond_eq_ite]
  unfold doClr
  rw [hlist]
  by_cases hcool : tjBelow (nth (d.di x).samp.doTj c 250) = true
  · rw [if_pos hcool, Dev.each_singleton, if_pos hrun]
    dsimp only
    rw [dieClears_keep DieX.oc _ _ _ _ _ _ (fun _ _ => rfl), dieClears_keep DieX.oc _ _ _ _ _ _ (fun _ _ => rfl),
      Dev.di_modDi_same _ _ _ hx, bit_setBit_false]
    simp [hcool, Bool.and_comm]
  · rw [if_neg hcool]
    simp [hcool, Dev.each]

/-! Test-pulse outputs (R305, R420). -/

theorem tpoOvercurrent_latches (hx : x < 2) (hi : i < 4) (hrun : dieRuns d x = true) (hlink : d.linked x)
    (hon : bit (d.dy x).tpoOn i = true) : bit ((tpoOvercurrent (4 * x + i) d).dy x).tpoSc i = true ∧
      bit ((tpoOvercurrent (4 * x + i) d).dy x).tpoOn i = false ∧
      ((tpoOvercurrent (4 * x + i) d).di x).tells = (d.di x).tells ++ [tellFault (pgFIO x) Cz.FIO.TPOSC (4 * x + i) [Ev.FIO.TPOFLT]] := by
  obtain ⟨hdie, hch⟩ := channel_place 4 x i hi
  have hdo : tpoOvercurrent (4 * x + i) d = dieTells x (tellFault (pgFIO x) Cz.FIO.TPOSC (4 * x + i) [Ev.FIO.TPOFLT])
      (d.modDy x fun y => { y with tpoSc := setBit y.tpoSc i true, tpoOn := setBit y.tpoOn i false }) := by
    unfold tpoOvercurrent
    simp only [hdie, hch]
    exact if_pos (by simp [hrun, hon])
  obtain ⟨hdi, hdy⟩ := dieTells_linked x (tellFault (pgFIO x) Cz.FIO.TPOSC (4 * x + i) [Ev.FIO.TPOFLT])
    (d.modDy x fun y => { y with tpoSc := setBit y.tpoSc i true, tpoOn := setBit y.tpoOn i false }) hx hlink
  rw [hdo, hdy, hdi, Dev.dy_modDy_same _ _ _ hx]
  exact ⟨by simp [bit_setBit_true], by simp [bit_setBit_false], rfl⟩

/-- A clear of one test-pulse output ends its latch and turns it on again. -/
theorem tpoClr_clears (hx : x < 2) (hi : i < 4) (hrun : dieRuns d x = true) : bit ((tpoClr x (2 ^ i) d).dy x).tpoSc i = false ∧
    (bit (d.dy x).tpoSc i = true → bit ((tpoClr x (2 ^ i) d).dy x).tpoOn i = true) := by
  have hone : ∀ i : Fin 4, (List.range 4).filter (bit (2 ^ i.val)) = [i.val] := by decide
  unfold tpoClr
  rw [hone ⟨i, hi⟩, Dev.each_singleton]
  simp only [hrun, Bool.true_and]
  split
  · rw [dieClears_dy, Dev.dy_modDy_same _ _ _ hx]
    exact ⟨by simp [bit_setBit_false], fun _ => by simp [bit_setBit_true]⟩
  · next hclear => exact ⟨Bool.eq_false_iff.mpr hclear, fun h => absurd h hclear⟩

/-- The end of a dark pulse judges an output that is not latched by the periods running in which it stayed high. -/
theorem darkPulseEnd_judges (high : Bool) (n : Nat) (hx : x < 2) (hi : i < 4) (hrun : dieRuns d x = true)
    (hdark : bit (d.dy x).tpoDark i = true) (hdue : darkUntil d (4 * x + i) ≤ d.tim.mot) (hsc : bit (d.dy x).tpoSc i = false)
    (hn : (if high then nth (d.dy x).tpoRbN i 0 + 1 else 0) = n) : (darkPulseEnd (4 * x + i) high d).dy x = { d.dy x with
      tpoDark := setBit (d.dy x).tpoDark i false
      tpoRbN := modNth (fun _ => min n 2) (d.dy x).tpoRbN i
      tpoRb := setBit (d.dy x).tpoRb i (decide (2 ≤ n)) } := by
  obtain ⟨hdie, hch⟩ := channel_place 4 x i hi
  have hdie' (m : Tell) (t : Dev) : (dieTells x m t).dy x = t.dy x := by unfold dieTells; split <;> rfl
  unfold darkPulseEnd
  simp only [hdie, hch, hsc, hrun, hdark, hdue, decide_true, Bool.and_self, if_true, Bool.false_eq_true, if_false, hn]
  rw [apply_ite (Dev.dy · x), hdie', ite_self, apply_ite (Dev.dy · x), dieClears_dy, ite_self, Dev.dy_modDy_same _ _ _ hx]

/-- A readback fault found in two periods running is told once. -/
theorem darkPulseEnd_tells (hi : i < 4) (hx : x < 2) (hrun : dieRuns d x = true) (hlink : d.linked x)
    (hdark : bit (d.dy x).tpoDark i = true) (hdue : darkUntil d (4 * x + i) ≤ d.tim.mot) (hsc : bit (d.dy x).tpoSc i = false)
    (hn : nth (d.dy x).tpoRbN i 0 = 1) (hrb : bit (d.dy x).tpoRb i = false) :
    ((darkPulseEnd (4 * x + i) true d).di x).tells = (d.di x).tells ++ [tellFault (pgFIO x) Cz.FIO.TPORB (4 * x + i) [Ev.FIO.TPOFLT]] := by
  obtain ⟨hdie, hch⟩ := channel_place 4 x i hi
  unfold darkPulseEnd
  simp only [hdie, hch, hsc, hrun, hdark, hdue, hn, hrb, decide_true, Bool.and_self, if_true, Bool.false_eq_true, if_false,
    Nat.reduceAdd, Nat.le_refl, Bool.not_false]
  exact congrArg DieX.tells (dieTells_linked x _ (d.modDy x _) hx hlink).1

end

/-! Clears by the runtime in safe context (R12, R28). -/

/-- A clear register of a field I/O page takes the runtime's write. -/
theorem wr_fioClear (x : Nat) (f : Fld) (v : Nat) (s : State) (hx : x < 2) (hrun : dieRuns s.dev x = true)
    (hr : s.dev.runtimeActs = true) (hf : f = FIO.DO_CLR.CLR ∨ f = FIO.TPO_CLR.CLR) :
    wr .runtimeSafe (pgFIO x) f v s = regEffect .runtimeSafe (pgFIO x) (.fio x) f.off (takenBits [f] (v % 2 ^ 32)) s := by
  have hh : s.dev.part.has (.fio x) = true := by
    have hdie : s.dev.dies.contains x = true := by simp [dieRuns] at hrun; simp [hrun]
    unfold Dev.dies at hdie
    unfold Part.has
    split at hdie <;> simp_all
  have hfields : ((hdrWo ++ unitFields (.fio 0)).filter fun g => g.off == f.off && g.acc != .ro) = [f] := by
    rcases hf with rfl | rfl <;> decide +kernel
  obtain ⟨ho, h4, h30, hwo⟩ : f.off < 4096 ∧ f.off % 4 = 0 ∧ f.off ≠ 0x030 ∧ f.acc = .wo := by
    rcases hf with rfl | rfl <;> decide
  have hgone : fieldGone s.dev (.fio x) f = false := by rcases hf with rfl | rfl <;> exact Bool.and_false _
  exact wr_wo .runtimeSafe (pgFIO x) f v s (.fio x) [f] (by unfold pgFIO; omega) ho h4 (unitOf_fio x hx) hh
    (srcMay_runtimeSafe _ _ _ hr) (by rfl) hfields (by simpa using hgone) h30 (by simpa using hwo) (by simp [fieldMay, srcMgmt])
    (by simp) (by rfl) (by rfl)

theorem exec_doClr (x : DieNo) (c : Fin 8) (s : State) (hrun : dieRuns s.dev x.val = true) (hr : s.dev.runtimeActs = true) :
    exec (.doClr .runtimeSafe x (BitVec.ofNat 8 (2 ^ c.val))) s = .next (s.onDev (doClr x.val (2 ^ c.val))) := by
  have hmask : ∀ c : Fin 8, takenBits [FIO.DO_CLR.CLR] ((BitVec.ofNat 8 (2 ^ c.val)).toNat % 2 ^ 32) = 2 ^ c.val := by decide
  show Host.Outcome.next (wr _ _ FIO.DO_CLR.CLR _ s) = _
  rw [wr_fioClear x.val _ _ s x.isLt hrun hr (.inl rfl), hmask]
  rfl

theorem exec_tpoClr (x : DieNo) (i : Fin 4) (s : State) (hrun : dieRuns s.dev x.val = true) (hr : s.dev.runtimeActs = true) :
    exec (.tpoClr .runtimeSafe x (BitVec.ofNat 4 (2 ^ i.val))) s = .next (s.onDev (tpoClr x.val (2 ^ i.val))) := by
  have hmask : ∀ i : Fin 4, takenBits [FIO.TPO_CLR.CLR] ((BitVec.ofNat 4 (2 ^ i.val)).toNat % 2 ^ 32) = 2 ^ i.val := by decide
  show Host.Outcome.next (wr _ _ FIO.TPO_CLR.CLR _ s) = _
  rw [wr_fioClear x.val _ _ s x.isLt hrun hr (.inr rfl), hmask]
  rfl

/-! The obligation. -/

/-- Settles O37: each event latches or marks its own output and leaves one report with the die, and the clears of the runtime end the
latches of the outputs that they name. -/
theorem fieldOutputs : Obligations.FieldOutputs := by
  unfold Obligations.FieldOutputs
  intro s x c i hhost hrun hlost
  have hlink : s.dev.linked x.val := by
    simp only [Dev.hostActs, Bool.and_eq_true] at hhost
    obtain ⟨⟨hup, hbk⟩, -⟩ := hhost
    exact ⟨by simp [Dev.alive, hup, hbk], hlost⟩
  have hx := x.isLt
  refine ⟨fun hon => ⟨?_, ?_, fun hopen => ?_⟩, fun hrb => ?_, fun himd hhold => ⟨?_, ?_⟩, fun hon => ?_, fun hdark hdue hsc =>
    ⟨?_, fun hi hn => ?_, fun hn hrb => ?_⟩⟩
  · obtain ⟨hoff, hlatch, htold⟩ := doOverload_latches false hx c.isLt hrun hlink hon
    exact ⟨_, rfl, hlatch, hoff, htold, rfl⟩
  · obtain ⟨hoff, hlatch, htold⟩ := doOverload_latches true hx c.isLt hrun hlink hon
    exact ⟨_, rfl, hlatch, hoff, htold, rfl⟩
  · obtain ⟨hmark, htold⟩ := doOpenLoad_tells hx c.isLt hrun hlink hon hopen
    exact ⟨_, rfl, hmark, htold, rfl⟩
  · obtain ⟨hmark, htold⟩ := doReadback_tells hx c.isLt hrun hlink hrb
    exact ⟨_, rfl, hmark, htold, rfl⟩
  · have hr : s.dev.runtimeActs = true := by
      simpa [Dev.runtimeActs, Dev.hostActs, himd, hhold] using hhost
    refine ⟨_, exec_doClr x c s hrun hr, ?_, fun k hk => ?_, rfl⟩
    · rw [State.onDev_dev, doClr_oc hx c.isLt hrun]
      simp
    · rw [State.onDev_dev, doClr_oc hx c.isLt hrun]
      simp [show c.val ≠ k.val from fun h => hk (Fin.ext h.symm)]
  · have hr : s.dev.runtimeActs = true := by
      simpa [Dev.runtimeActs, Dev.hostActs, himd, hhold] using hhost
    obtain ⟨hsc, hon⟩ := tpoClr_clears hx i.isLt hrun
    exact ⟨_, exec_tpoClr x i s hrun hr, hsc, hon, rfl⟩
  · obtain ⟨hsc, hoff, htold⟩ := tpoOvercurrent_latches hx i.isLt hrun hlink hon
    exact ⟨_, rfl, hsc, hoff, htold, rfl⟩
  · refine ⟨_, rfl, ?_⟩
    have hy := darkPulseEnd_judges false 0 hx i.isLt hrun hdark hdue hsc rfl
    rw [State.onDev_dev, hy]
    exact ⟨by simp [bit_setBit_false], by simp [bit_setBit_false], rfl⟩
  · refine ⟨_, rfl, ?_⟩
    have hy := darkPulseEnd_judges true 1 hx i.isLt hrun hdark hdue hsc (by rw [hn]; rfl)
    rw [State.onDev_dev, hy]
    exact ⟨by simp [bit_setBit_false], by simp [bit_setBit_false], nth_modNth_same _ _ _ _ hi, rfl⟩
  · refine ⟨_, rfl, ?_, darkPulseEnd_tells i.isLt hx hrun hlink hdark hdue hsc hn hrb, rfl⟩
    have hy := darkPulseEnd_judges true 2 hx i.isLt hrun hdark hdue hsc (by rw [hn]; rfl)
    rw [State.onDev_dev, hy]
    simp [bit_setBit_true]

end Sys2Proof.Machine
end

section
/-! PROOFS. What a report to the fault manager and a disable of a bridge leave of the two channels (R298, R316, R381): a device safe
halt, which a full queue orders too, sends the HALT frame and drops the coils A, and changes nothing else of them. -/

namespace Sys2Proof.Machine

/-- What `t` has of the two channels is what `d` has but for a device safe halt in between: the frame sent, the coils A and their times,
and the die's sequence number where the HALT frame aborted a frame on its way. -/
structure ChanKept (d t : Dev) : Prop where
  sx : t.sx = { d.sx with p := t.sx.p, sent := t.sx.sent, coil := t.sx.coil }
  coil : t.sx.coil = d.sx.coil ∨ t.sx.coil = 0
  sy : t.sy = { d.sy with coilAtL := t.sy.coilAtL, coilAtR := t.sy.coilAtR }
  px : t.px = d.px
  py : t.py = { d.py with pSeq := t.py.pSeq, pErr := t.py.pErr }
  halted : d.flt.halt = true → t.flt.halt = true ∧ t.py.pSeq = d.py.pSeq
  quiet : d.sx.sent = false → t.py.pSeq = d.py.pSeq ∧ (t.sx.sent = false ∨ t.flt.halt = true)

/-- The parts of the device that `ChanKept` speaks of. -/
def Dev.chan (d : Dev) : SafeX × SafeY × PlatenX × PlatenY × Bool := (d.sx, d.sy, d.px, d.py, d.flt.halt)

theorem ChanKept.of_eq {d t : Dev} (h : t.chan = d.chan) : ChanKept d t := by
  simp only [Dev.chan, Prod.mk.injEq] at h
  obtain ⟨hsx, hsy, hpx, hpy, hhalt⟩ := h
  exact ⟨by rw [hsx], .inl (by rw [hsx]), by rw [hsy], hpx, by rw [hpy], fun h => ⟨hhalt.trans h, by rw [hpy]⟩,
    fun h => ⟨by rw [hpy], .inl (by rw [hsx]; exact h)⟩⟩

theorem ChanKept.refl (d : Dev) : ChanKept d d := .of_eq rfl

theorem ChanKept.trans {d t u : Dev} (h : ChanKept d t) (k : ChanKept t u) : ChanKept d u where
  sx := by rw [k.sx, h.sx]
  coil := by
    rcases k.coil with hk | hk
    · rw [hk]; exact h.coil
    · exact .inr hk
  sy := by rw [k.sy, h.sy]
  px := k.px.trans h.px
  py := by rw [k.py, h.py]
  halted hd := by
    obtain ⟨ht, hseq⟩ := h.halted hd
    obtain ⟨hu, hseq'⟩ := k.halted ht
    exact ⟨hu, hseq'.trans hseq⟩
  quiet hd := by
    obtain ⟨hseq, ht | ht⟩ := h.quiet hd
    · obtain ⟨hseq', hu⟩ := k.quiet ht
      exact ⟨hseq'.trans hseq, hu⟩
    · obtain ⟨hu, hseq'⟩ := k.halted ht
      exact ⟨hseq'.trans hseq, .inr hu⟩

theorem ChanKept.each {α : Type} (l : List α) (f : α → Dev → Dev) (d : Dev) (hf : ∀ a d, ChanKept d (f a d)) : ChanKept d (d.each l f) :=
  Dev.each_ind (ChanKept d) l f d (fun a t h => h.trans (hf a t)) (.of_eq rfl)

theorem ChanKept.ite {c : Prop} [Decidable c] {d t u : Dev} (ht : ChanKept d t) (hu : ChanKept d u) : ChanKept d (if c then t else u) := by
  split <;> assumption

/-! What changes nothing of the two channels. -/

section
variable (n p k : Nat) (d : Dev)

@[simp] theorem Dev.chan_put (f : Fld) (v : Nat) : (d.put p f v).chan = d.chan := rfl
@[simp] theorem Dev.chan_ev : (d.ev p k).chan = d.chan := rfl
@[simp] theorem Dev.chan_modLf (f : LeafX → LeafX) : (d.modLf n f).chan = d.chan := rfl
@[simp] theorem Dev.chan_modSp (f : StepX → StepX) : (d.modSp n f).chan = d.chan := rfl
@[simp] theorem Dev.chan_modKn (f : KernX → KernX) : (d.modKn n f).chan = d.chan := rfl
@[simp] theorem Dev.chan_modDy (f : DieY → DieY) : (d.modDy n f).chan = d.chan := rfl
@[simp] theorem Dev.chan_c2off (c i : Nat) : (d.c2off p c i).chan = d.chan := rfl

@[simp] theorem Dev.chan_c2on (c i : Nat) : (d.c2on p c i).chan = d.chan := by unfold Dev.c2on; split <;> rfl
@[simp] theorem Dev.chan_modDrv (f : DrvX → DrvX) : (d.modDrv n f).chan = d.chan := by unfold Dev.modDrv; split <;> rfl
@[simp] theorem Dev.chan_evIf (c : Bool) : (d.evIf c p k).chan = d.chan := by unfold Dev.evIf; split <;> rfl

end

theorem Dev.chan_each {α : Type} (l : List α) (f : α → Dev → Dev) (d : Dev) (hf : ∀ a d, (f a d).chan = d.chan) :
    (d.each l f).chan = d.chan := Dev.each_ind (fun t => t.chan = d.chan) l f d (fun a t h => (hf a t).trans h) rfl

/-! Reports (R370 to R381). -/

theorem chan_placeEntry (e : FEnt) (d : Dev) : (placeEntry e d).chan = d.chan := by
  unfold placeEntry
  dsimp only
  split
  · rfl
  · split
    · rfl
    · split
      · rfl
      · split <;> rfl

theorem chan_trimQueue (d : Dev) : (trimQueue d).chan = d.chan := by
  unfold trimQueue
  dsimp only
  split <;> rfl

theorem chan_haltAxes (d : Dev) : (haltAxes d).chan = d.chan := by
  unfold haltAxes
  rw [Dev.chan_each _ _ _ (by intros; rfl), Dev.chan_each _ _ _ (by intros; rfl), Dev.chan_each _ _ _ (by intros; rfl),
    Dev.chan_each _ _ _ (by intros; simp [gatesOff])]

/-- The halt orders of a device that was not halted send the HALT frame and drop the coils A. -/
theorem chanKept_orderHalt (e : FEnt) (d : Dev) : ChanKept d (orderHalt e d) := by
  by_cases hhalt : d.flt.halt = true
  · rw [orderHalt_halted e d hhalt]
    exact .of_eq rfl
  · have hcoils (t : Dev) (ht : t.chan = (d.sx, d.sy, d.px, d.py, true)) : ChanKept d (haltForme (haltCoils t)) := by
      simp only [Dev.chan, Prod.mk.injEq] at ht
      obtain ⟨hsx, hsy, hpx, hpy, hhalted⟩ := ht
      have hseq : (haltForme (haltCoils t)).py = if d.sx.sent then { d.py with pSeq := none, pErr := d.py.pErr + 1 } else d.py := by
        rw [← hsx, ← hpy]
        rfl
      refine ⟨by rw [← hsx]; rfl, .inr rfl, by rw [← hsy]; rfl, hpx, ?_, fun h => absurd h hhalt, fun hsent => ⟨?_, .inr hhalted⟩⟩
      · rw [hseq]
        split <;> rfl
      · rw [hseq, hsent]
        rfl
    unfold orderHalt
    rw [if_neg hhalt]
    exact hcoils _ ((chan_haltAxes _).trans rfl)

theorem chanKept_arriveEntry (e : FEnt) (d : Dev) : ChanKept d (arriveEntry e d) := by
  have hplace (e : FEnt) (t : Dev) (h : ChanKept d t) : ChanKept d (placeEntry e t) := h.trans (.of_eq (chan_placeEntry e t))
  have hhalt (e : FEnt) (t : Dev) (h : ChanKept d t) : ChanKept d (orderHalt e t) := h.trans (chanKept_orderHalt e t)
  unfold arriveEntry
  simp only
  refine ChanKept.trans ?_ (.of_eq (chan_trimQueue _))
  have hplaced : ChanKept d (if e.cls = 3 then orderHalt e (placeEntry e d) else placeEntry e d) := by
    split
    · exact hhalt _ _ (hplace _ _ (.refl d))
    · exact hplace _ _ (.refl d)
  split
  · exact hhalt _ _ (hplace _ _ hplaced)
  · exact hplaced

theorem chan_markAnomaly (cls page : Nat) (d : Dev) : (markAnomaly cls page d).chan = d.chan := by
  unfold markAnomaly
  split
  · exact Dev.chan_modKn ..
  · rfl

theorem chanKept_info (v : Nat) (d : Dev) :
    ChanKept d (((d.put pgFLT FLT.INFO.ENTRY v).inc pgFLT FLT.INFO_CNT.COUNT).ev pgFLT Ev.FLT.INFO) :=
  .of_eq (by rw [Dev.chan_ev, Dev.inc_eq, Dev.chan_put, Dev.chan_put])

theorem chanKept_report (cls page inst cause : Nat) (d : Dev) : ChanKept d (d.report cls page inst cause) := by
  unfold Dev.report
  simp only
  split
  · exact chanKept_info ..
  · exact (ChanKept.of_eq (chan_markAnomaly ..)).trans (chanKept_arriveEntry ..)

theorem chanKept_raise (pg : Nat) (c : Cause) (inst : Nat) (d : Dev) : ChanKept d (d.raise pg c inst) := chanKept_report ..

theorem chanKept_fault (pg : Nat) (c : Cause) (inst : Nat) (d : Dev) : ChanKept d (d.fault pg c inst) := by
  unfold Dev.fault
  refine ChanKept.trans (.of_eq ?_) (chanKept_raise ..)
  split
  · exact Dev.chan_c2on ..
  · rfl

theorem chanKept_reportMany (l : List (Nat × Nat × Nat × Nat)) (d : Dev) : ChanKept d (d.reportMany l) :=
  .each _ _ _ fun _ _ => chanKept_report ..

/-! Bridges (R316). -/

theorem chanKept_calAbort (a : Nat) (d : Dev) : ChanKept d (calAbort a d) := by
  have hoff (t : Dev) : (calOff a t).chan = t.chan := by simp [calOff, setMode]
  have hrun (t : Dev) : (pageRun a t).chan = t.chan := by
    unfold pageRun
    dsimp only
    split <;> rfl
  unfold calAbort
  refine .ite (ChanKept.trans ?_ (.ite (.of_eq (hrun _)) (.of_eq rfl))) (.of_eq rfl)
  exact ChanKept.trans (.of_eq (by simp [hoff])) (chanKept_raise ..)

/-- The orders of a disable to the bridge itself. -/
def bridgeOff (n : Nat) (d : Dev) : Dev :=
  (((gatesOff n d).modDrv n fun x => { x with pltDis := true }).putB (pgLEAF n) LEAF.DRV_STAT.PLTDIS true).putB (pgLEAF n)
    LEAF.DRV_STAT.BEN false

theorem chanKept_bridgeDisable (n : Nat) (d : Dev) : ChanKept d (bridgeDisable n d) := by
  have htold (t : Dev) : ChanKept t (if t.pgState (pgLEAF n) = 3 then t else
      (t.ev (pgLEAF n) Ev.LEAF.PLTDIS).raise (pgLEAF n) Cz.LEAF.PLTDIS 0xFF) :=
    .ite (.refl t) (ChanKept.trans (.of_eq (Dev.chan_ev ..)) (chanKept_raise ..))
  have hasked (t : Dev) : ChanKept t (seqFault n Cz.LEAF.PLTDIS.code (reqStop n 3 false t)) := .of_eq (by simp [seqFault, reqStop])
  have hoff (t : Dev) : ChanKept t (bridgeOff n t) := .of_eq (by simp [bridgeOff, gatesOff])
  unfold bridgeDisable
  refine .ite ?_ (.refl d)
  exact ((chanKept_calAbort n d).trans ((hoff _).trans (htold _))).trans (.ite (hasked _) (.refl _))

theorem chanKept_bridgeRelease (n : Nat) (d : Dev) : ChanKept d (bridgeRelease n d) := .of_eq (by simp [bridgeRelease])

end Sys2Proof.Machine
end

section
/-! PROOFS. What the Platen die decides and drives (R299, R311, R313, R316 to R318): the outputs of its state, and what a decision leaves of
the two channels. -/

namespace Sys2Proof.Machine

/-! Driving the outputs. -/

/-- The outputs of the Platen die take new values; the bridges and locks that they lead to follow. -/
def pltOutputs (lken bdis coil : Nat) (d : Dev) : Dev :=
  { d with py := { d.py with lken := lken, bdis := bdis
                             coilAtL := if bit coil 1 == bit d.px.coil 1 then d.py.coilAtL else d.tim.mot
                             coilAtR := if bit coil 0 == bit d.px.coil 0 then d.py.coilAtR else d.tim.mot }
           px := { d.px with coil := coil } }

theorem chanKept_pltDrive (lken bdis coil : Nat) (d : Dev) : ChanKept (pltOutputs lken bdis coil d) (pltDrive lken bdis coil d) := by
  have hlocks (t : Dev) : ChanKept t (t.each [0, 1] fun x => Dev.modDy x fun y => { y with lkEn := bitsOf lken (4 * x) 4 }) :=
    .each _ _ _ fun _ _ => .of_eq (Dev.chan_modDy ..)
  have hbridges (t : Dev) : ChanKept t (t.each (List.range 8) fun n t =>
      if bit bdis n == bit d.py.bdis n then t else if bit bdis n then bridgeDisable n t else bridgeRelease n t) :=
    .each _ _ _ fun n t => .ite (.refl t) (.ite (chanKept_bridgeDisable n t) (chanKept_bridgeRelease n t))
  exact (hlocks _).trans (hbridges _)

/-! Deciding. -/

/-- The decisions of the Platen die, with the times and guard counts that go with them. -/
def pltDecided (dec : Nat) (condL condR : Option Nat) (gcnt : List Nat) (d : Dev) : Dev :=
  { d with px := { d.px with dec := dec }, py := { d.py with gcnt := gcnt, condL := condL, condR := condR } }

/-- The lock enable line of a guarded leaf is off (R318). -/
theorem bit_pltLken_guarded (d : Dev) (relR relL : Bool) (n : Nat) (h : bit d.py.guard n = true) :
    bit (pltLken d relR relL) n = false := by
  unfold pltLken
  split
  · rw [bit_foldl_setBit]
    split
    · simp [h]
    · exact bit_zero n
  · exact bit_zero n

/-- A decision of the Platen die in every state: its decisions, then its outputs. -/
theorem pltWeigh_eq (d : Dev) : ∃ lken bdis coil dec condL condR gcnt,
    pltWeigh d = pltDrive lken bdis coil (pltDecided dec condL condR gcnt d) ∧
      (d.px.st = 3 → bdis = d.py.guard ∧ ∃ t relR relL, t.py.guard = d.py.guard ∧ lken = pltLken t relR relL) ∧
      (d.px.st ≠ 3 → dec = 0) ∧ (d.px.st ≠ 3 → d.px.st ≠ 2 → lken = 0 ∧ bdis = 255 ∧ coil = 0) := by
  unfold pltWeigh
  split
  · next hrun =>
    exact ⟨_, _, _, _, _, _, _, rfl, fun _ => ⟨rfl, _, _, _, rfl, rfl⟩, fun h => absurd hrun h, fun h => absurd hrun h⟩
  · next hrun =>
    dsimp only
    split
    · next htest =>
      exact ⟨_, _, _, 0, none, none, d.py.gcnt, rfl, fun h => absurd h hrun, fun _ => rfl, fun _ h => absurd htest h⟩
    · exact ⟨0, 255, 0, 0, none, none, d.py.gcnt, rfl, fun h => absurd h hrun, fun _ => rfl, fun _ _ => ⟨rfl, rfl, rfl⟩⟩

section
variable (d : Dev)

theorem pltWeigh_px : (pltWeigh d).px = { d.px with dec := (pltWeigh d).px.dec, coil := (pltWeigh d).px.coil } := by
  obtain ⟨_, _, _, _, _, _, _, heq, -⟩ := pltWeigh_eq d
  rw [heq, (chanKept_pltDrive ..).px]
  rfl

theorem pltWeigh_py : (pltWeigh d).py = { d.py with
    lken := (pltWeigh d).py.lken, bdis := (pltWeigh d).py.bdis, gcnt := (pltWeigh d).py.gcnt, pSeq := (pltWeigh d).py.pSeq
    pErr := (pltWeigh d).py.pErr, coilAtR := (pltWeigh d).py.coilAtR, coilAtL := (pltWeigh d).py.coilAtL
    condR := (pltWeigh d).py.condR, condL := (pltWeigh d).py.condL } := by
  obtain ⟨_, _, _, _, _, _, _, heq, -⟩ := pltWeigh_eq d
  rw [heq, (chanKept_pltDrive ..).py]
  rfl

theorem pltWeigh_sx : (pltWeigh d).sx =
    { d.sx with p := (pltWeigh d).sx.p, sent := (pltWeigh d).sx.sent, coil := (pltWeigh d).sx.coil } := by
  obtain ⟨_, _, _, _, _, _, _, heq, -⟩ := pltWeigh_eq d
  rw [heq, (chanKept_pltDrive ..).sx]
  rfl

/-- A decision of the Platen die leaves the coils A, or drops them in a halt. -/
theorem pltWeigh_coilA : (pltWeigh d).sx.coil = d.sx.coil ∨ (pltWeigh d).sx.coil = 0 := by
  obtain ⟨lken, bdis, coil, dec, condL, condR, gcnt, heq, -⟩ := pltWeigh_eq d
  have hcoil : (pltOutputs lken bdis coil (pltDecided dec condL condR gcnt d)).sx.coil = d.sx.coil := rfl
  rw [heq, ← hcoil]
  exact (chanKept_pltDrive lken bdis coil (pltDecided dec condL condR gcnt d)).coil

/-- With no frame on its way a decision leaves the sequence number of the link. -/
theorem pltWeigh_pSeq (h : d.sx.sent = false) : (pltWeigh d).py.pSeq = d.py.pSeq := by
  obtain ⟨lken, bdis, coil, dec, condL, condR, gcnt, heq, -⟩ := pltWeigh_eq d
  have hseq : (pltOutputs lken bdis coil (pltDecided dec condL condR gcnt d)).py.pSeq = d.py.pSeq := rfl
  have hsent : (pltOutputs lken bdis coil (pltDecided dec condL condR gcnt d)).sx.sent = false := h
  rw [heq, ← hseq]
  exact ((chanKept_pltDrive lken bdis coil (pltDecided dec condL condR gcnt d)).quiet hsent).1

/-- Outside RUN the Platen die releases nothing and demands no loop (R299). -/
theorem pltWeigh_dec (h : d.px.st ≠ 3) : (pltWeigh d).px.dec = 0 := by
  obtain ⟨_, _, _, _, _, _, _, heq, -, hdec, -⟩ := pltWeigh_eq d
  rw [heq, (chanKept_pltDrive ..).px]
  exact hdec h

/-- Outside RUN and TEST all outputs of the Platen die are safe (R299). -/
theorem pltWeigh_platenSafe (hrun : d.px.st ≠ 3) (htest : d.px.st ≠ 2) : (pltWeigh d).platenSafe = true := by
  obtain ⟨_, _, _, _, _, _, _, heq, -, hdec, hsafe⟩ := pltWeigh_eq d
  obtain ⟨rfl, rfl, rfl⟩ := hsafe hrun htest
  obtain rfl := hdec hrun
  rw [heq, Dev.platenSafe, (chanKept_pltDrive ..).px, (chanKept_pltDrive ..).py]
  rfl

/-- In RUN the bridge-disable lines are the guards' latches, and a guarded lock is not enabled (R317, R318). -/
theorem pltWeigh_guard (hrun : d.px.st = 3) (n : Nat) (hg : bit d.py.guard n = true) :
    bit (pltWeigh d).py.bdis n = true ∧ bit (pltWeigh d).py.lken n = false := by
  obtain ⟨_, _, _, _, _, _, _, heq, hlines, -⟩ := pltWeigh_eq d
  obtain ⟨rfl, t, relR, relL, ht, rfl⟩ := hlines hrun
  rw [heq, (chanKept_pltDrive ..).py]
  exact ⟨hg, bit_pltLken_guarded t relR relL n (ht ▸ hg)⟩

end

end Sys2Proof.Machine
end

section
/-! PROOFS. The close delay of a loop that the Platen die demands (R313): `LOOPON` counts from when the loop's conditions began to hold. -/

namespace Sys2Proof.Machine

/-- In RUN a decision keeps the demand of a loop that is demanded while its conditions hold (R313). -/
theorem pltWeigh_demand (d : Dev) (left : Bool) (hrun : d.px.st = 3) (hok : pltLoopOk d left = true)
    (hdec : bit d.px.dec (if left then 3 else 2) = true) : bit (pltWeigh d).px.dec (if left then 3 else 2) = true := by
  have hbit (a b c e : Bool) : bit (b2n a + 2 * b2n b + 4 * b2n c + 8 * b2n e) 3 = e ∧
      bit (b2n a + 2 * b2n b + 4 * b2n c + 8 * b2n e) 2 = c := by
    revert a b c e
    decide
  rw [pltWeigh, if_pos hrun, (chanKept_pltDrive ..).px]
  cases left
  · exact (hbit _ _ _ _).2.trans (by rw [Bool.and_eq_true]; exact ⟨hdec, hok⟩)
  · exact (hbit _ _ _ _).1.trans (by rw [Bool.and_eq_true]; exact ⟨hdec, hok⟩)

/-- The conditions of a loop stand in RUN alone, and a standing demand takes nothing from them. -/
theorem pltLoopOk_demanded (d : Dev) (left : Bool) (hok : pltLoopOk d left = true) (m : Nat)
    (hm : bit m (if left then 3 else 2) = true) :
    d.px.st = 3 ∧ pltLoopOk { d with px := { d.px with dec := m } } left = true := by
  unfold pltLoopOk at hok ⊢
  simp only
  split at hok
  · next r hr =>
    simp only [hr, Bool.and_eq_true, beq_iff_eq] at hok ⊢
    obtain ⟨⟨⟨⟨hrun, hmis⟩, hfault⟩, hin⟩, -⟩ := hok
    exact ⟨hrun, ⟨⟨⟨hrun, hmis⟩, hfault⟩, hin⟩, by rw [hm, Bool.or_true]⟩
  · cases hok

/-- The loop is demanded where its conditions have held for `LOOPON`. -/
theorem loopCloseDelay_demands (d : Dev) (left : Bool) (hok : pltLoopOk d left = true)
    (hheld : lasted d (if left then d.py.condL else d.py.condR) (msMot (d.px.rec?.getD {}).loopOn) = true) :
    bit (loopCloseDelay left true d).px.dec (if left then 3 else 2) = true := by
  have hset : bit (setBit d.px.dec (if left then 3 else 2) true) (if left then 3 else 2) = true := by rw [bit_setBit, if_pos rfl]
  obtain ⟨hrun, hok'⟩ := pltLoopOk_demanded d left hok _ hset
  have heq : loopCloseDelay left true d = pltWeigh { d with px := { d.px with dec := setBit d.px.dec (if left then 3 else 2) true } } := by
    show pltLoopOn left d = _
    unfold pltLoopOn
    simp only [hok, hheld, Bool.and_self, if_true]
  rw [heq]
  exact pltWeigh_demand _ left hrun hok' hset

/-- A running core whose Platen die is in RUN with an empty record, all its mirrors closed and no decision standing: the conditions of the
left loop hold, and have not begun to be timed. -/
def loopUntimed : State := State.reset.onDev fun d =>
  { d with boot := { d.boot with up := true }, px := { d.px with st := 3, rec? := some {}, mir := 15 } }

/-- There the close delay demands nothing. -/
theorem loopCloseDelay_loopUntimed :
    pltLoopOk loopUntimed.dev true = true ∧ bit (loopCloseDelay true true loopUntimed.dev).px.dec 3 = false := by
  decide +kernel

/-- Refutes O21: the clause of the loop that the Platen die demands leaves out that its conditions have held for LOOPON, so it takes in
`loopUntimed`, where the die waits.
`loopCloseDelay_demands` is the clause for conditions that have held. -/
theorem not_loopsLocksAndSeal : ¬ Obligations.LoopsLocksAndSeal := by
  unfold Obligations.LoopsLocksAndSeal
  rintro ⟨h, -⟩
  obtain ⟨hok, hwaits⟩ := loopCloseDelay_loopUntimed
  obtain ⟨-, hplaten, -⟩ := h loopUntimed true 0 (by decide +kernel)
  obtain ⟨t, ht, hdemand, -⟩ := hplaten hok (by decide +kernel)
  have hx : exec (.loopCloseDelay true true) loopUntimed = .next (loopUntimed.onDev (loopCloseDelay true true)) := rfl
  have htt : loopUntimed.onDev (loopCloseDelay true true) = t := Host.Outcome.next.inj (hx.symm.trans ht)
  rw [← htt] at hdemand
  exact absurd (hwaits.symm.trans hdemand) (by decide)

end Sys2Proof.Machine
end

section
/-! PROOFS. The states of the Platen die (R297 to R300, R326): into SAFE and into CONFIG all its outputs are safe. -/

namespace Sys2Proof.Machine

section
variable (diag : Nat) (d : Dev)

/-- A powered die that enters SAFE notes why (R299). -/
theorem pltSafe_spec (h : d.px.st ≠ 0) :
    (pltSafe diag d).px.st = 4 ∧ (pltSafe diag d).platenSafe = true ∧ (pltSafe diag d).py.diag = d.py.diag ||| diag := by
  have heq : pltSafe diag d =
      pltWeigh { d with px := { d.px with st := 4 }, py := { d.py with diag := d.py.diag ||| diag, test := none, lst := 0 } } := if_neg h
  rw [heq]
  exact ⟨congrArg PlatenX.st (pltWeigh_px _), pltWeigh_platenSafe _ (by decide : ¬ 4 = 3) (by decide : ¬ 4 = 2),
    congrArg PlatenY.diag (pltWeigh_py _)⟩

/-- The bit of a reason that stands alone shows it. -/
theorem pltSafe_bit (i : Nat) (h : d.px.st ≠ 0) (hi : bit diag i = true) :
    (pltSafe diag d).px.st = 4 ∧ (pltSafe diag d).platenSafe = true ∧ bit (pltSafe diag d).py.diag i = true := by
  obtain ⟨hst, hsafe, hdiag⟩ := pltSafe_spec diag d h
  refine ⟨hst, hsafe, ?_⟩
  rw [hdiag, bit_eq_testBit, Nat.testBit_or, ← bit_eq_testBit, ← bit_eq_testBit, hi, Bool.or_true]

/-- A restart leaves CONFIG with no record and no latch; the readings stand (R294). -/
theorem pltRestart_px : (pltRestart d).px = {
    st := 1, si := d.px.si, tli := d.px.tli, mir := d.px.mir, coilOk := d.px.coilOk
    dec := (pltRestart d).px.dec, coil := (pltRestart d).px.coil } := pltWeigh_px _

theorem pltRestart_platenSafe : (pltRestart d).platenSafe = true :=
  pltWeigh_platenSafe _ (by decide : ¬ 1 = 3) (by decide : ¬ 1 = 2)

theorem pltRestart_vplt : (pltRestart d).py.vplt = d.py.vplt := by
  unfold pltRestart
  rw [pltWeigh_py]

/-- A frame received well whose number follows is taken by a powered die (R295). -/
theorem pltTake_good (seq : Nat) (h : d.px.st ≠ 0) (hseq : ∀ q ∈ d.py.pSeq, seq = (q + 1) % 16) :
    pltTake true seq d = ({ d with py := { d.py with pSeq := some seq } }, true) := by
  unfold pltTake
  cases hq : d.py.pSeq with
  | none => simp [h]
  | some q => simp [h, hseq q hq]

/-- A HALT frame on its way whose number follows takes a powered die to SAFE (R298). -/
theorem pFrameHalt_taken (h : d.px.st ≠ 0) (hsent : d.sx.sent = true) (htyp : d.sx.p.typ = 5)
    (hseq : d.py.pSeq = none ∨ d.py.pSeq = some ((d.sx.p.seq + 15) % 16)) (hlt : d.sx.p.seq < 16) :
    (pFrameHalt d).px.st = 4 ∧ (pFrameHalt d).platenSafe = true := by
  have htake := pltTake_good { d with sx := { d.sx with sent := false } } d.sx.p.seq h fun q hq => by
    rcases hseq with hnone | hsome
    · rw [hnone] at hq
      cases hq
    · rw [hsome] at hq
      cases hq
      omega
  have heq : pFrameHalt d = pltSafe 0 { d with sx := { d.sx with sent := false }, py := { d.py with pSeq := some d.sx.p.seq } } := by
    unfold pFrameHalt
    rw [if_pos (by simp [hsent, htyp])]
    simp only [htake, if_true]
  obtain ⟨hst, hsafe, -⟩ := pltSafe_spec 0 { d with sx := { d.sx with sent := false }, py := { d.py with pSeq := some d.sx.p.seq } } h
  rw [heq]
  exact ⟨hst, hsafe⟩

/-- Without a HALT frame on its way none is taken. -/
theorem pFrameHalt_idle (h : (d.sx.sent && d.sx.p.typ == 5) = false) : pFrameHalt d = d := if_neg (by rw [h]; decide)

end

end Sys2Proof.Machine
end

section
/-! PROOFS. `SAFE_CTRL` (R307, R309, R314, R317, R320): in safe context the runtime's write holds LMASK and makes its requests; outside it
the write is refused (R12). -/

namespace Sys2Proof.Machine

/-! The register. -/

/-- The fields of `SAFE_CTRL`. -/
def safeCtrlFields : List Fld :=
  [SAFE.SAFE_CTRL.LMASK, SAFE.SAFE_CTRL.TCLR, SAFE.SAFE_CTRL.HTREQ, SAFE.SAFE_CTRL.MCLR, SAFE.SAFE_CTRL.GCLR, SAFE.SAFE_CTRL.DCLR]

theorem writeFields_safeCtrl (d : Dev) : writeFields d .safe 0x080 = safeCtrlFields :=
  writeFields_eq d .safe 0x080 safeCtrlFields (by rfl) fun _ _ => rfl

/-- A write of the register by the runtime, through the fabric. -/
theorem wr_safeCtrl (src : Src) (v : Nat) (s : State) (h : srcMay s.dev src true (regAddr pgSAFE 0x080) = true) :
    wr src pgSAFE SAFE.SAFE_CTRL.LMASK v s = (regWrite src pgSAFE .safe 0x080 (v % 2 ^ 32) s).1 := by
  show (busWrite src (regAddr pgSAFE 0x080) 4 v s).1 = _
  unfold busWrite
  rw [h, regionOf_reg _ _ (by decide) (by decide)]
  simp only [pageCheck_ok pgSAFE 0x080 s.dev .safe (by decide) (by decide) (by decide) rfl rfl, regAddr_page pgSAFE 0x080 (by decide) (by decide),
    regAddr_off pgSAFE 0x080 (by decide)]
  rfl

theorem takeField_lmask (v : Nat) (d : Dev) :
    takeField .safe pgSAFE v SAFE.SAFE_CTRL.LMASK d = d.put pgSAFE SAFE.SAFE_CTRL.LMASK (bitsOf v 8 8) := by
  have hclamp : rangeVal .safe pgSAFE SAFE.SAFE_CTRL.LMASK (bitsOf v 8 8) d = bitsOf v 8 8 := (Nat.mod_mod _ _).trans (Nat.mod_mod _ _)
  have htell : clampTell .safe pgSAFE SAFE.SAFE_CTRL.LMASK (bitsOf v 8 8) (bitsOf v 8 8) = id := by
    funext d
    exact if_pos (Nat.mod_mod _ _).symm
  show clampTell .safe pgSAFE SAFE.SAFE_CTRL.LMASK (bitsOf v 8 8) (rangeVal .safe pgSAFE SAFE.SAFE_CTRL.LMASK (bitsOf v 8 8) d)
    (d.put pgSAFE SAFE.SAFE_CTRL.LMASK (rangeVal .safe pgSAFE SAFE.SAFE_CTRL.LMASK (bitsOf v 8 8) d)) = _
  rw [hclamp, htell]
  rfl

/-- In safe context the unit takes the mask and the requests. -/
theorem regWrite_safeCtrl (v : Nat) (s : State) : (regWrite .runtimeSafe pgSAFE .safe 0x080 v s).1 =
    s.onDev fun d => safeCtrl (takenBits safeCtrlFields v) (d.put pgSAFE SAFE.SAFE_CTRL.LMASK (bitsOf v 8 8)) := by
  have hlock : regLocked s.dev .safe .runtimeSafe 0x080 = false := by
    unfold regLocked
    rw [writeFields_safeCtrl]
    rfl
  unfold regWrite
  rw [hlock, regBusy, writeFields_safeCtrl]
  simp only [← takeField_lmask]
  rfl

/-- Outside safe context it takes nothing. -/
theorem regWrite_safeCtrl_locked (v : Nat) (s : State) : (regWrite .runtime pgSAFE .safe 0x080 v s).1 =
    s.onDev (refuse Ev.SYS.WLOCK false pgSAFE 0x20) := by
  have hlock : regLocked s.dev .safe .runtime 0x080 = true := by
    unfold regLocked
    rw [writeFields_safeCtrl]
    rfl
  unfold regWrite
  rw [hlock, regBusy, writeFields_safeCtrl]
  rfl

/-! A request with its mask. -/

/-- In the word of a request `c` with the mask `m`, the bits below 8 are those of the request. -/
theorem bit_request (m c i : Nat) (hi : i < 8) : bit (256 * m + c) i = bit c i := by
  have hdiv : (256 * m + c) / 2 ^ i = 2 ^ (8 - i) * m + c / 2 ^ i := by
    have hpow : 256 = 2 ^ i * 2 ^ (8 - i) := by rw [← Nat.pow_add, Nat.add_sub_of_le (by omega)]
    rw [hpow, Nat.mul_assoc, Nat.mul_add_div (Nat.two_pow_pos _)]
  have heven : 2 ^ (8 - i) = 2 * 2 ^ (7 - i) := by
    rw [← Nat.pow_succ']
    congr 1
    omega
  rw [bit, bit, hdiv, heven, Nat.mul_assoc, Nat.mul_add_mod]

theorem bitsOf_request (m c : Nat) (hc : c < 32) : bitsOf (256 * m + c) 8 8 = m % 256 := by
  unfold bitsOf
  omega

/-- The fields of the register take such a word, the mask's eight bits of it. -/
theorem takenBits_request (m c : Nat) (hc : c < 32) : takenBits safeCtrlFields (256 * m + c) = 256 * (m % 256) + c := by
  simp only [takenBits, safeCtrlFields, List.foldl_cons, List.foldl_nil, bitsOf, SAFE.SAFE_CTRL.LMASK, SAFE.SAFE_CTRL.TCLR,
    SAFE.SAFE_CTRL.HTREQ, SAFE.SAFE_CTRL.MCLR, SAFE.SAFE_CTRL.GCLR, SAFE.SAFE_CTRL.DCLR, fld]
  omega

/-- A request of the runtime in safe context. -/
theorem wr_request (m c : Nat) (hc : c < 32) (s : State) (hr : s.dev.runtimeActs = true) :
    wr .runtimeSafe pgSAFE SAFE.SAFE_CTRL.LMASK (256 * m + c) s =
      s.onDev fun d => safeCtrl (256 * (m % 256) + c) (d.put pgSAFE SAFE.SAFE_CTRL.LMASK (m % 256)) := by
  have hword : (256 * m + c) % 2 ^ 32 = 256 * (m % 2 ^ 24) + c := by omega
  have hmask : m % 2 ^ 24 % 256 = m % 256 := Nat.mod_mod_of_dvd m (by decide)
  rw [wr_safeCtrl _ _ _ (srcMay_runtimeSafe _ _ _ hr), regWrite_safeCtrl, hword, takenBits_request _ _ hc, bitsOf_request _ _ hc, hmask]

/-! What the unit does with each request. -/

/-- What the unit reads in the word of a request. -/
theorem request_bits (m c : Nat) (hc : c < 32) : bitsOf (256 * m + c) 8 8 = m % 256 ∧ bit (256 * m + c) 0 = bit c 0 ∧
    bit (256 * m + c) 1 = bit c 1 ∧ bit (256 * m + c) 2 = bit c 2 ∧ bit (256 * m + c) 3 = bit c 3 ∧ bit (256 * m + c) 4 = bit c 4 :=
  ⟨bitsOf_request m c hc, bit_request m c 0 (by decide), bit_request m c 1 (by decide), bit_request m c 2 (by decide),
    bit_request m c 3 (by decide), bit_request m c 4 (by decide)⟩

section
variable (m : Nat) (d : Dev)

/-- A holding test requested for each leaf of a mask (R320). -/
def holdRequested (m : Nat) (l : List HoldX) : List HoldX := l.zipIdx.map fun h => if bit m h.2 then { h.1 with req := true } else h.1

theorem safeCtrl_dclr : safeCtrl (256 * m + 1) d = { d.put pgSAFE SAFE.SAFE_CTRL.LMASK (m % 256) with
    sy := { d.sy with dclr := some (d.tim.mot + msMot 4), dclrOk := d.sx.latch } } := by
  unfold safeCtrl
  simp only [request_bits m 1 (by decide)]
  rfl

theorem safeCtrl_mclr : safeCtrl (256 * m + 4) d = { d.put pgSAFE SAFE.SAFE_CTRL.LMASK (m % 256) with
    sy := { d.sy with mclr := some (d.tim.mot + msMot 4), mclrOk := 15 } } := by
  unfold safeCtrl
  simp only [request_bits m 4 (by decide)]
  rfl

theorem safeCtrl_gclr : safeCtrl (256 * m + 2) d = { d.put pgSAFE SAFE.SAFE_CTRL.LMASK (m % 256) with
    sy := { d.sy with gclr := some (d.tim.mot + msMot 4), gmask := m % 256 } } := by
  unfold safeCtrl
  simp only [request_bits m 2 (by decide)]
  rfl

theorem safeCtrl_htreq : safeCtrl (256 * m + 8) d = { d.put pgSAFE SAFE.SAFE_CTRL.LMASK (m % 256) with
    sy := { d.sy with hold := holdRequested (m % 256) d.sy.hold } } := by
  unfold safeCtrl
  simp only [request_bits m 8 (by decide)]
  rfl

theorem safeCtrl_tclr : safeCtrl (256 * m + 16) d = tclr (d.put pgSAFE SAFE.SAFE_CTRL.LMASK (m % 256)) := by
  unfold safeCtrl
  simp only [request_bits m 16 (by decide)]
  rfl

/-- A leaf's holding test is requested where the mask has it. -/
theorem nth_holdRequested (l : List HoldX) (n : Nat) (h : n < l.length) :
    nth (holdRequested m l) n {} = if bit m n then { nth l n {} with req := true } else nth l n {} := by
  simp [nth, holdRequested, List.getElem?_zipIdx, List.getElem?_eq_getElem h]

/-- TCLR clears the masks of an input of which neither condition was found (R307). -/
theorem tclr_clears (i : Nat) (hi : i < 16) (h : (nth d.sx.tp i {}).found = 0) :
    bit (tclr d).sx.tpStuck i = false ∧ bit (tclr d).sx.tpShort i = false := by
  have hok : bit ((List.range 16).foldl (fun m i => setBit m i ((nth d.sx.tp i {}).found == 0)) 0) i = true := by
    rw [bit_foldl_setBit, if_pos hi, h]
    rfl
  have hkeep (l : List Nat) (t : Dev) : (t.each l fun i d =>
      (d.c2off pgSAFE Cz.SAFE.TPSTUCK.code i).c2off pgSAFE Cz.SAFE.TPXSHORT.code i).sx = t.sx :=
    Dev.each_ind (fun u => u.sx = t.sx) l _ t (fun _ _ hu => hu) rfl
  unfold tclr
  simp only
  rw [Dev.put_sx, hkeep, bit_sub_and, bit_sub_and, hok]
  simp

end

/-! The obligation. -/

/-- The Platen die into CONFIG and into SAFE, and the checks that pass. -/
theorem platenStates (s : State) :
    (s.dev.px.st = 0 → ∃ t, exec .vpltValid s = .next t ∧ t.dev.px.st = 1 ∧ t.dev.px.rec? = none ∧ t.dev.platenSafe = true ∧
      t.dev.py.vplt = true ∧ t.mem = s.mem) ∧
    (s.dev.px.st ≠ 0 →
      (∃ t, exec .vpltLow s = .next t ∧ t.dev.px.st = 4 ∧ t.dev.platenSafe = true ∧ bit t.dev.py.diag 0 = true ∧ t.mem = s.mem) ∧
      (∃ t, exec .stateEncodingCheck s = .next t ∧ t.dev.px.st = 4 ∧ t.dev.platenSafe = true ∧ bit t.dev.py.diag 2 = true ∧ t.mem = s.mem) ∧
      (∃ t, exec (.platenComparatorCheck false) s = .next t ∧ t.dev.px.st = 4 ∧ t.dev.platenSafe = true ∧ bit t.dev.py.diag 1 = true ∧
        t.mem = s.mem) ∧
      (s.dev.px.rec?.isSome = true → ∃ t, exec (.platenRecordCrcCheck true) s = .next t ∧ t.dev.px.st = 4 ∧ t.dev.platenSafe = true ∧
        bit t.dev.py.diag 4 = true ∧ t.mem = s.mem) ∧
      (∃ t, exec .pFrameLoss s = .next t ∧ t.dev.px.st = 4 ∧ t.dev.platenSafe = true ∧ t.dev.py.diag = s.dev.py.diag ∧ t.mem = s.mem) ∧
      (∃ t, exec .coreReferenceLoss s = .next t ∧ t.dev.px.st = 4 ∧ t.dev.platenSafe = true ∧ bit t.dev.py.diag 5 = true ∧ t.mem = s.mem) ∧
      (s.dev.boot.up = true → s.dev.sx.sent = true → s.dev.sx.p.typ = 5 →
        s.dev.py.pSeq = none ∨ s.dev.py.pSeq = some ((s.dev.sx.p.seq + 15) % 16) → s.dev.sx.p.seq < 16 →
        ∃ t, exec .pFrameHalt s = .next t ∧ t.dev.px.st = 4 ∧ t.dev.platenSafe = true ∧ t.mem = s.mem)) ∧
    (s.dev.sx.p.typ ≠ 5 → exec .pFrameHalt s = .next s) ∧ exec (.platenComparatorCheck true) s = .next s ∧
    exec (.platenRecordCrcCheck false) s = .next s := by
  refine ⟨fun hoff => ?_, fun hon => ⟨?_, ?_, ?_, fun hrec => ?_, ?_, ?_, fun hup hsent htyp hseq hlt => ?_⟩, fun htyp => ?_, rfl, rfl⟩
  · refine ⟨s.onDev vpltValid, rfl, ?_⟩
    have heq : vpltValid s.dev = pltRestart { s.dev with py := { s.dev.py with vplt := true } } := if_pos hoff
    rw [State.onDev_dev, heq]
    exact ⟨congrArg PlatenX.st (pltRestart_px _), congrArg PlatenX.rec? (pltRestart_px _), pltRestart_platenSafe _, pltRestart_vplt _, rfl⟩
  · obtain ⟨hst, hsafe, hbit⟩ := pltSafe_bit 1 { s.dev with py := { s.dev.py with vplt := false } } 0 hon (by decide)
    exact ⟨s.onDev vpltLow, rfl, hst, hsafe, hbit, rfl⟩
  · obtain ⟨hst, hsafe, hbit⟩ := pltSafe_bit 4 s.dev 2 hon (by decide)
    exact ⟨s.onDev stateEncodingCheck, rfl, hst, hsafe, hbit, rfl⟩
  · obtain ⟨hst, hsafe, hbit⟩ := pltSafe_bit 2 s.dev 1 hon (by decide)
    exact ⟨s.onDev (comparatorCheck false), rfl, hst, hsafe, hbit, rfl⟩
  · obtain ⟨hst, hsafe, hbit⟩ := pltSafe_bit 16 s.dev 4 hon (by decide)
    have heq : recordCrcCheck true s.dev = pltSafe 16 s.dev := if_pos (by rw [hrec]; rfl)
    refine ⟨s.onDev (recordCrcCheck true), rfl, ?_⟩
    rw [State.onDev_dev, heq]
    exact ⟨hst, hsafe, hbit, rfl⟩
  · obtain ⟨hst, hsafe, hdiag⟩ := pltSafe_spec 0 s.dev hon
    exact ⟨s.onDev pFrameLoss, rfl, hst, hsafe, hdiag.trans (Nat.or_zero _), rfl⟩
  · obtain ⟨hst, hsafe, hbit⟩ := pltSafe_bit 32 s.dev 5 hon (by decide)
    exact ⟨s.onDev coreReferenceLoss, rfl, hst, hsafe, hbit, rfl⟩
  · obtain ⟨hst, hsafe⟩ := pFrameHalt_taken s.dev hon hsent htyp hseq hlt
    refine ⟨s.onDev (Dev.when_ (·.boot.up) pFrameHalt), rfl, ?_⟩
    have heq : Dev.when_ (·.boot.up) pFrameHalt s.dev = pFrameHalt s.dev := if_pos hup
    rw [State.onDev_dev, heq]
    exact ⟨hst, hsafe, rfl⟩
  · have hidle : pFrameHalt s.dev = s.dev := pFrameHalt_idle _ (by simp [htyp])
    have heq : Dev.when_ (·.boot.up) pFrameHalt s.dev = s.dev := by
      unfold Dev.when_
      rw [hidle, ite_self]
    exact congrArg Host.Outcome.next (State.onDev_of_eq _ _ heq)

/-- The requests of `SAFE_CTRL` in safe context, and the write that is refused outside it. -/
theorem safeCtrlRequests (s : State) (lmask : BitVec 8) (hr : s.dev.runtimeActs = true) :
    (∃ t, exec (.safeCtrlDclr .runtimeSafe) s = .next t ∧ t.dev.sy.dclr = some (s.dev.tim.mot + msMot 4) ∧ t.dev.sy.dclrOk = s.dev.sx.latch ∧
      t.dev.sx = s.dev.sx ∧ t.mem = s.mem) ∧
    (∃ t, exec (.safeCtrlMclr .runtimeSafe) s = .next t ∧ t.dev.sy.mclr = some (s.dev.tim.mot + msMot 4) ∧ t.dev.sy.mclrOk = 15 ∧
      t.dev.sx = s.dev.sx ∧ t.mem = s.mem) ∧
    (∃ t, exec (.safeCtrlGclr .runtimeSafe lmask) s = .next t ∧ t.dev.sy.gclr = some (s.dev.tim.mot + msMot 4) ∧ t.dev.sy.gmask = lmask.toNat ∧
      t.dev.get pgSAFE SAFE.SAFE_CTRL.LMASK = lmask.toNat ∧ t.dev.sx = s.dev.sx ∧ t.mem = s.mem) ∧
    (s.dev.sy.hold.length = 8 → ∃ t, exec (.safeCtrlHtreq .runtimeSafe lmask) s = .next t ∧
      (∀ n : LeafNo, bit lmask.toNat n.val = true → (nth t.dev.sy.hold n.val {}).req = true) ∧
      (∀ n : LeafNo, bit lmask.toNat n.val = false → nth t.dev.sy.hold n.val {} = nth s.dev.sy.hold n.val {}) ∧ t.mem = s.mem) ∧
    (∃ t, exec (.safeCtrlTclr .runtimeSafe) s = .next t ∧ t.mem = s.mem ∧
      ∀ i : Fin 16, (nth s.dev.sx.tp i.val {}).found = 0 → bit t.dev.sx.tpStuck i.val = false ∧ bit t.dev.sx.tpShort i.val = false) ∧
    (∃ t, exec (.safeCtrlGclr .runtime lmask) s = .next t ∧ t.dev.sy = s.dev.sy ∧ t.dev.sx = s.dev.sx ∧
      t.dev.raised pgSYS Ev.SYS.WLOCK = true ∧ t.mem = s.mem) := by
  have hmask : lmask.toNat % 256 = lmask.toNat := Nat.mod_eq_of_lt lmask.isLt
  refine ⟨⟨_, congrArg Host.Outcome.next (wr_request _ 1 (by decide) s hr), ?_⟩,
    ⟨_, congrArg Host.Outcome.next (wr_request _ 4 (by decide) s hr), ?_⟩,
    ⟨_, congrArg Host.Outcome.next (wr_request _ 2 (by decide) s hr), ?_⟩,
    fun hlen => ⟨_, congrArg Host.Outcome.next (wr_request _ 8 (by decide) s hr), ?_⟩,
    ⟨_, congrArg Host.Outcome.next (wr_request _ 16 (by decide) s hr), rfl, fun i hi => ?_⟩, ?_⟩
  · rw [State.onDev_dev, safeCtrl_dclr]
    exact ⟨rfl, rfl, rfl, rfl⟩
  · rw [State.onDev_dev, safeCtrl_mclr]
    exact ⟨rfl, rfl, rfl, rfl⟩
  · rw [State.onDev_dev, safeCtrl_gclr, hmask, hmask]
    exact ⟨rfl, rfl, (Dev.get_put_same ..).trans hmask, rfl, rfl⟩
  · have hnth (n : LeafNo) := nth_holdRequested lmask.toNat s.dev.sy.hold n.val (by rw [hlen]; exact n.isLt)
    rw [State.onDev_dev, safeCtrl_htreq, hmask, hmask]
    refine ⟨fun n hn => ?_, fun n hn => ?_, rfl⟩
    · exact congrArg HoldX.req ((hnth n).trans (if_pos hn))
    · exact (hnth n).trans (if_neg (by rw [hn]; decide))
  · rw [State.onDev_dev, safeCtrl_tclr]
    exact tclr_clears _ i.val i.isLt hi
  · refine ⟨_, congrArg Host.Outcome.next ((wr_safeCtrl .runtime _ s (srcMay_runtime _ _ _ hr)).trans (regWrite_safeCtrl_locked _ s)), ?_⟩
    exact ⟨rfl, rfl, (refuse_refusedAs _ _ _ _ _ (by decide) (by decide) (by decide)).raised, rfl⟩

/-- Settles O19: the states by what entering SAFE and CONFIG leaves, `SAFE_CTRL` by what each request does. -/
theorem platenStatesAndRequests : Obligations.PlatenStatesAndRequests := ⟨platenStates, safeCtrlRequests⟩

end Sys2Proof.Machine
end

section
/-! PROOFS. Frames of the Platen link that the die takes (R294, R295, R324, R327), and its answers. -/

namespace Sys2Proof.Machine

/-! The processor channel's own frames. -/

/-- A frame of a type sent and taken: it is the latest of both ends. -/
def pSent (typ : Nat) (d : Dev) : Dev :=
  { d with sx := { d.sx with p := { d.sx.p with typ := typ, seq := (d.sx.p.seq + 1) % 16 }, sent := false }
           py := { d.py with pSeq := some ((d.sx.p.seq + 1) % 16) } }

section
variable (d : Dev)

theorem pFrameSend_taken (typ : Nat) (h : d.platenTakes = true) : pFrameSend typ d = (pSent typ d, true) := by
  unfold Dev.platenTakes at h
  rw [Bool.and_eq_true, Bool.and_eq_true, bne_iff_ne, Bool.not_eq_true'] at h
  obtain ⟨⟨hon, hhalt⟩, hseq⟩ := h
  unfold pFrameSend
  rw [pFrameHalt_idle d hhalt]
  refine pltTake_good _ _ hon fun q hq => ?_
  have hq' : d.py.pSeq = some q := hq
  rw [hq'] at hseq
  exact beq_iff_eq.mp hseq

/-- A frame's bytes are held while the record is not complete (R324). -/
theorem pFrameConfig_held (i : Nat) (bytes : List Nat) (h : d.platenTakes = true) (hst : d.px.st = 1)
    (hlen : (d.px.buf.filter fun e => e.1 != i).length < 7) : (pFrameConfig i bytes d).px =
      { d.px with buf := (i, ((bytes ++ List.replicate 8 0).take 8).map (· % 256)) :: d.px.buf.filter fun e => e.1 != i } := by
  have hpx : (if i = 7 then { pSent 1 d with sy := { (pSent 1 d).sy with cfg8 := some (pSent 1 d).tim.mot } } else pSent 1 d).px = d.px := by
    split <;> rfl
  unfold pFrameConfig
  rw [pFrameSend_taken d 1 h]
  simp only
  generalize (if i = 7 then { pSent 1 d with sy := { (pSent 1 d).sy with cfg8 := some (pSent 1 d).tim.mot } } else pSent 1 d) = t at hpx
  rw [if_neg (by rw [hpx, hst]; decide), if_pos (by rw [hpx, List.length_cons]; omega), hpx]

/-- A TEST frame commands the test outputs in TEST (R327). -/
theorem pFrameTest_taken (code arg : Nat) (h : d.platenTakes = true) (hst : d.px.st = 2) :
    pFrameTest code arg d = pltWeigh { pSent 2 d with py := { (pSent 2 d).py with test := some (code, arg) } } := by
  unfold pFrameTest
  rw [pFrameSend_taken d 2 h]
  exact if_pos (by rw [Bool.true_and]; exact beq_iff_eq.mpr hst)

/-- A RUN frame starts both channels from TEST (R294). -/
theorem pFrameRun_taken (h : d.platenTakes = true) (hst : d.px.st = 2) :
    pFrameRun d = pltWeigh { pSent 3 d with sx := { (pSent 3 d).sx with run := true }, px := { d.px with st := 3 }
                                            py := { (pSent 3 d).py with test := none } } := by
  unfold pFrameRun
  rw [pFrameSend_taken d 3 h]
  exact if_pos (by rw [Bool.true_and]; exact beq_iff_eq.mpr hst)

/-- The processor channel's functions stopped with a RESTART frame. -/
def linkRestarted (d : Dev) : Dev :=
  { d with sx := { d.sx with run := false, dec := 0, coil := 0 }
           sy := { d.sy with armed := true, qAt := d.tim.mot, xlink := false, condR := none, condL := none, cfg8 := none } }

theorem pFrameRestart_taken (h : d.platenTakes = true) : pFrameRestart d = pltRestart (linkRestarted (pSent 4 d)) := by
  unfold pFrameRestart
  rw [pFrameSend_taken d 4 h]
  rfl

/-- A restart of the Platen die leaves the processor channel stopped that was stopped. -/
theorem pltRestart_sx (hcoil : d.sx.coil = 0) :
    (pltRestart d).sx.run = d.sx.run ∧ (pltRestart d).sx.dec = d.sx.dec ∧ (pltRestart d).sx.coil = 0 := by
  refine ⟨?_, ?_, ?_⟩
  · unfold pltRestart
    rw [pltWeigh_sx]
  · unfold pltRestart
    rw [pltWeigh_sx]
  · unfold pltRestart
    rcases pltWeigh_coilA _ with hkept | hoff
    · exact hkept.trans hcoil
    · exact hoff

end

/-! A STATUS frame (R294). -/

/-- What the clear requests, the orientation and the times of a STATUS frame leave of the die and of the link: the state, the masks
and readings of the processor channel, and the link's sequence. -/
def Dev.statusView (d : Dev) : Nat × Nat × Nat × Nat × Option Nat × Bool :=
  (d.px.st, d.px.siMask, d.px.tliMask, d.px.procSi, d.py.pSeq, d.sx.sent)

section
variable (f : PFrame) (d : Dev)

theorem statusView_pltDclr : (pltDclr f d).statusView = d.statusView := by
  unfold pltDclr
  dsimp only
  split
  · split <;> rfl
  · split <;> rfl

theorem statusView_pltMclr : (pltMclr f d).statusView = d.statusView := by
  unfold pltMclr
  dsimp only
  split
  · split <;> rfl
  · split <;> rfl

theorem statusView_pltGclr : (pltGclr f d).statusView = d.statusView :=
  Dev.each_ind (fun t => t.statusView = d.statusView) _ _ d (fun n t h => by dsimp only; split <;> exact h) rfl

theorem statusView_pltOrient : (pltOrient f d).statusView = d.statusView := by
  unfold pltOrient
  split
  · split <;> rfl
  · split <;> rfl

theorem statusView_pltTimes : (pltTimes d).statusView = d.statusView := rfl

/-- The frame's masks and readings in the Platen die, with its sequence number. -/
def statusRead (f : PFrame) (d : Dev) : Dev :=
  { d with sx := { d.sx with sent := false }, py := { d.py with pSeq := some f.seq }
           px := { d.px with siMask := f.siMask, tliMask := f.tliMask, procSi := f.si, procTli := f.tli, procMir := f.mir, gotP := true } }

/-- What a STATUS frame leaves before the die decides. -/
def statusTaken (f : PFrame) (d : Dev) : Dev :=
  let t := pltTimes (pltOrient f (pltGclr f (pltMclr f (pltDclr f (statusRead f d)))))
  if f.oriNew then { t with sy := { t.sy with oriSent := some t.py.qSeq } } else t

theorem statusView_statusTaken : (statusTaken f d).statusView = (d.px.st, f.siMask, f.tliMask, f.si, some f.seq, false) := by
  have hkept : (pltTimes (pltOrient f (pltGclr f (pltMclr f (pltDclr f (statusRead f d)))))).statusView = (statusRead f d).statusView := by
    rw [statusView_pltTimes, statusView_pltOrient, statusView_pltGclr, statusView_pltMclr, statusView_pltDclr]
  unfold statusTaken
  dsimp only
  split
  · exact hkept
  · exact hkept

/-- A good STATUS frame that the die can take is taken. -/
theorem pFrameStatus_taken (hon : d.px.st ≠ 0) (hsent : d.sx.sent = true) (htyp : d.sx.p.typ = 0) (hseq : d.py.pSeq = none) :
    pFrameStatus true d = pltWeigh (statusTaken d.sx.p d) := by
  have htake := pltTake_good d d.sx.p.seq hon fun q hq => by
    rw [hseq] at hq
    cases hq
  unfold pFrameStatus
  simp only [hsent, htyp, htake, Bool.true_and, beq_self_eq_true]
  rfl

end

end Sys2Proof.Machine
end

section
/-! PROOFS. Answers and readings of the Platen die (R295, R304, R316, R317). -/

namespace Sys2Proof.Machine

section
variable (d : Dev)

/-- A powered die answers with its state under the next number (R295). -/
theorem qFrameSend_spec (h : d.px.st ≠ 0) : (qFrameSend d).py.qSeq = (d.py.qSeq + 1) % 16 ∧
    (qFrameSend d).py.q.map (fun f => (f.seq, f.st, f.si, f.dec, f.guard)) =
      some ((d.py.qSeq + 1) % 16, d.px.st, d.px.si, d.px.dec, d.py.guard) ∧ (qFrameSend d).sx = d.sx := by
  unfold qFrameSend
  rw [if_neg h]
  exact ⟨rfl, rfl, rfl⟩

/-- A level that the filter of a switch input accepts (R304). -/
theorem pltAccept_si (i : Fin 16) (level : Bool) (h : d.px.st ≠ 0) :
    bit (pltAccept (.si i) level d).px.si i.val = level ∧ (pltAccept (.si i) level d).px.tli = d.px.tli ∧
      (d.px.st ≠ 3 → (pltAccept (.si i) level d).px.dec = 0) := by
  have heq : pltAccept (.si i) level d =
      pltWeigh (pltTimes { d with px := { d.px with si := setBit d.px.si i.val level } }) := if_neg h
  have hbit : bit (setBit d.px.si i.val level) i.val = level := by rw [bit_setBit, if_pos rfl]
  rw [heq]
  refine ⟨?_, ?_, fun hrun => pltWeigh_dec _ hrun⟩
  · rw [pltWeigh_px]
    exact hbit
  · rw [pltWeigh_px]
    rfl

/-- The die reads a code of a leaf's Hall sensors: a valid one is held, the time of every change is (R316). -/
def hallRead (n code : Nat) (d : Dev) : Dev :=
  { d with py := { d.py with code := if code = 0 ∨ code = 7 then d.py.code else modNth (fun _ => code) d.py.code n
                             hallAt := modNth (fun _ => d.tim.mot) d.py.hallAt n } }

/-- The guard's count of a leaf (R317). -/
def hallCounted (n c : Nat) (d : Dev) : Dev := { d with py := { d.py with gcnt := modNth (fun _ => c) d.py.gcnt n } }

/-- The guard of a leaf latched (R317). -/
def hallGuarded (n : Nat) (d : Dev) : Dev := { d with py := { d.py with guard := setBit d.py.guard n true } }

/-- Whether the side of a leaf is released. -/
def hallReleased (r : PRec) (n : Nat) (d : Dev) : Bool := if (nth r.leaf n {}).carB != d.py.ori then bit d.px.dec 0 else bit d.px.dec 1

/-- The count after a step from the count that stands. -/
def hallCount (c : Nat) (dl : Int) : Nat := (maxI 0 (c + dl)).toNat

/-- What a change of a powered die's Hall code does. -/
theorem pltHall_eq (n code : Nat) (h : d.px.st ≠ 0) (hne : code ≠ nth d.py.code n 0) : pltHall n code d =
    match d.px.rec? with
    | none => hallRead n code d
    | some r =>
      if d.px.st = 3 ∧ leafUsed d r n ∧ guardStep (nth r.leaf n {}).openSeq (nth d.py.code n 0) code ≠ 0 ∧
          !hallReleased r n d then
        let c := hallCount (nth d.py.gcnt n 0) (guardStep (nth r.leaf n {}).openSeq (nth d.py.code n 0) code)
        if 4 ≤ c then pltWeigh (hallGuarded n (hallCounted n c (hallRead n code d))) else hallCounted n c (hallRead n code d)
      else hallRead n code d :=
  if_neg fun hstay => hstay.elim h hne

/-- What holds of the code read, of every count and of every latched guard holds after the change. -/
theorem pltHall_ind (P : Dev → Prop) (n code : Nat) (h : d.px.st ≠ 0) (hne : code ≠ nth d.py.code n 0) (hread : P (hallRead n code d))
    (hcounted : ∀ c, P (hallCounted n c (hallRead n code d)))
    (hguarded : ∀ c, P (pltWeigh (hallGuarded n (hallCounted n c (hallRead n code d))))) : P (pltHall n code d) := by
  rw [pltHall_eq d n code h hne]
  split
  · exact hread
  · dsimp only
    split
    · split
      · exact hguarded _
      · exact hcounted _
    · exact hread

/-- A valid code of a leaf's Hall sensors and the time of its change are held, whatever the guard makes of it (R316, R317). -/
theorem pltHall_stored (n code : Nat) (h : d.px.st ≠ 0) (h0 : code ≠ 0) (h7 : code ≠ 7) (hne : code ≠ nth d.py.code n 0) :
    (pltHall n code d).py.code = modNth (fun _ => code) d.py.code n ∧
      (pltHall n code d).py.hallAt = modNth (fun _ => d.tim.mot) d.py.hallAt n := by
  have hread : (hallRead n code d).py.code = modNth (fun _ => code) d.py.code n := if_neg fun hbad => hbad.elim h0 h7
  refine pltHall_ind d (fun t => t.py.code = modNth (fun _ => code) d.py.code n ∧ t.py.hallAt = modNth (fun _ => d.tim.mot) d.py.hallAt n)
    n code h hne ⟨hread, rfl⟩ (fun c => ⟨hread, rfl⟩) fun c => ?_
  rw [pltWeigh_py]
  exact ⟨hread, rfl⟩

/-- The fourth count toward opening of a leaf in use on a side that is not released latches its guard (R317). -/
theorem pltHall_guard (n code : Nat) (r : PRec) (hr : d.px.rec? = some r) (hrun : d.px.st = 3) (huse : leafUsed d r n = true)
    (hcnt : 3 ≤ nth d.py.gcnt n 0) (hstep : 0 < guardStep (nth r.leaf n {}).openSeq (nth d.py.code n 0) code) (hne : code ≠ nth d.py.code n 0)
    (hrel : bit d.px.dec (if (nth r.leaf n {}).carB != d.py.ori then 0 else 1) = false) :
    bit (pltHall n code d).py.guard n = true ∧ bit (pltHall n code d).py.bdis n = true ∧ bit (pltHall n code d).py.lken n = false := by
  have hc : 4 ≤ hallCount (nth d.py.gcnt n 0) (guardStep (nth r.leaf n {}).openSeq (nth d.py.code n 0) code) := by
    unfold hallCount maxI
    split <;> omega
  have hside : hallReleased r n d = false := by
    rw [← hrel, hallReleased]
    split <;> rfl
  rw [pltHall_eq d n code (by rw [hrun]; decide) hne, hr]
  dsimp only
  rw [if_pos ⟨hrun, huse, Int.ne_of_gt hstep, by rw [hside]; rfl⟩, if_pos hc]
  generalize hallCount _ _ = c
  have hguard : bit (hallGuarded n (hallCounted n c (hallRead n code d))).py.guard n = true := (bit_setBit ..).trans (if_pos rfl)
  obtain ⟨hbdis, hlken⟩ := pltWeigh_guard (hallGuarded n (hallCounted n c (hallRead n code d))) hrun n hguard
  exact ⟨(congrArg (fun y => bit y.guard n) (pltWeigh_py _)).trans hguard, hbdis, hlken⟩

end

end Sys2Proof.Machine
end

section
/-! PROOFS. The link as the processor channel sees it (R295, R296, R310, R324, R329). -/

namespace Sys2Proof.Machine

/-! What stands of the latest good report through the changes that it brings. -/

/-- The latest good Q-frame, its number and time, and whether the link is lost. -/
def Dev.linkView (d : Dev) : Option QFrame × Option Nat × Nat × Bool := (d.sx.q, d.sx.qSeq, d.sy.qAt, d.sy.xlink)

theorem ChanKept.linkView {d t : Dev} (h : ChanKept d t) : t.linkView = d.linkView := by
  unfold Dev.linkView
  rw [h.sx, h.sy]

theorem Dev.linkView_of_chan {d t : Dev} (h : t.chan = d.chan) : t.linkView = d.linkView := (ChanKept.of_eq h).linkView

theorem Dev.linkView_each {α : Type} (l : List α) (f : α → Dev → Dev) (d : Dev) (hf : ∀ a d, (f a d).linkView = d.linkView) :
    (d.each l f).linkView = d.linkView := Dev.each_ind (fun t => t.linkView = d.linkView) l f d (fun a t h => (hf a t).trans h) rfl

/-- Coils A follow the demands, with the times of their changes. -/
theorem coilsA_spec (dl dr : Bool) (d : Dev) : (coilsA dl dr d).sx = { d.sx with coil := b2n dr + 2 * b2n dl } ∧
    (coilsA dl dr d).sy = { d.sy with coilAtL := (coilsA dl dr d).sy.coilAtL, coilAtR := (coilsA dl dr d).sy.coilAtR } ∧
    (coilsA dl dr d).c2 = d.c2 := by
  unfold coilsA
  dsimp only
  split
  · split <;> exact ⟨rfl, rfl, rfl⟩
  · split <;> exact ⟨rfl, rfl, rfl⟩

/-- New decisions noted, with their events. -/
def decTold (dec : Nat) (d : Dev) : Dev :=
  (({ d with sx := { d.sx with dec := dec } }).evIf (d.sx.dec / 4 != dec / 4) pgSAFE Ev.SAFE.LOOPCHG).evIf
    (d.sx.dec % 4 != dec % 4) pgSAFE Ev.SAFE.RELCHG

theorem decTold_spec (dec : Nat) (d : Dev) :
    (decTold dec d).sx = { d.sx with dec := dec } ∧ (decTold dec d).sy = d.sy ∧ (decTold dec d).c2 = d.c2 := by
  unfold decTold Dev.evIf
  split
  · split <;> exact ⟨rfl, rfl, rfl⟩
  · split <;> exact ⟨rfl, rfl, rfl⟩

/-- New decisions change those, the coils A and the times of these. -/
theorem setDec_spec (dec : Nat) (d : Dev) : (setDec dec d).sx = { d.sx with dec := dec, coil := (setDec dec d).sx.coil } ∧
    (setDec dec d).sy = { d.sy with coilAtL := (setDec dec d).sy.coilAtL, coilAtR := (setDec dec d).sy.coilAtR } ∧
    (setDec dec d).c2 = d.c2 := by
  have heq : setDec dec d = coilsA (bit dec 3) (bit dec 2) (decTold dec d) := rfl
  obtain ⟨hsx, hsy, hc2⟩ := decTold_spec dec d
  obtain ⟨ksx, ksy, kc2⟩ := coilsA_spec (bit dec 3) (bit dec 2) (decTold dec d)
  refine ⟨?_, ?_, ?_⟩
  · rw [heq, ksx, hsx]
  · rw [heq, ksy, hsy]
  · rw [heq, kc2, hc2]

section
variable (d : Dev)

theorem linkView_setDec (dec : Nat) : (setDec dec d).linkView = d.linkView := by
  obtain ⟨hsx, hsy, -⟩ := setDec_spec dec d
  unfold Dev.linkView
  rw [hsx, hsy]

theorem linkView_relayFault (r : Nat) (mirror : Bool) : (relayFault r mirror d).linkView = d.linkView := by
  unfold relayFault
  split <;> rfl

theorem linkView_relayDropped (r : Nat) (mirror : Bool) : (dropLoop (decide (r < 2)) (relayFault r mirror d)).linkView = d.linkView := by
  unfold dropLoop
  rw [linkView_setDec, linkView_relayFault]

/-- The faults that a Q-frame brings leave it. -/
theorem linkView_qFaults (old f : QFrame) : (qFaults old f d).linkView = d.linkView := by
  unfold qFaults
  dsimp only
  rw [(chanKept_reportMany ..).linkView, Dev.linkView_each _ _ _ fun r t => ?_, Dev.linkView_each _ _ _ fun r t => ?_,
    Dev.linkView_each _ _ _ fun n t => ?_]
  · rw [Dev.linkView_of_chan (Dev.chan_c2on ..), Dev.linkView_of_chan (Dev.chan_ev ..)]
  · rw [Dev.linkView_of_chan (Dev.chan_c2on ..), linkView_relayDropped]
  · rw [Dev.linkView_of_chan (Dev.chan_c2on ..), linkView_relayDropped]

theorem linkView_qDisc (f : QFrame) : (qDisc f d).linkView = d.linkView := rfl

/-- The answer to a new orientation that was sent (R329). -/
def oriAnswered (f : QFrame) (d : Dev) : Dev := match d.sy.oriSent with
  | some q =>
    if f.seq = q then d
    else if f.oriRef then { d with sy := { d.sy with oriSent := none, oriBack := true } }
    else { d with sy := { d.sy with oriSent := none, oriRef := false } }
  | none => d

theorem linkView_oriAnswered (f : QFrame) : (oriAnswered f d).linkView = d.linkView := by
  unfold oriAnswered
  split
  · split
    · rfl
    · split <;> rfl
  · rfl

theorem linkView_qOrient (f : QFrame) : (qOrient f d).linkView = d.linkView := by
  have hanswered := linkView_oriAnswered d f
  have heq : qOrient f d = (let t := oriAnswered f d
      if t.sy.oriNew || t.sy.oriBack || t.sy.oriSent.isSome then t
      else if f.ori != t.sy.ori then { t with sy := { t.sy with oriN := t.sy.oriN + 1 } }
      else { t with sy := { t.sy with oriN := 0, oriMis := false } }.c2off pgSAFE Cz.SAFE.ORIMIS.code 0xFF) := rfl
  rw [heq]
  generalize oriAnswered f d = t at hanswered
  dsimp only
  split
  · exact hanswered
  · split <;> exact hanswered

theorem linkView_publishPlt (f : QFrame) : (publishPlt f d).linkView = d.linkView := by
  refine Dev.linkView_of_chan ?_
  unfold publishPlt
  simp only [Dev.putB_eq, Dev.chan_put]

/-- A Q-frame received well. -/
def qHeld (f : QFrame) (d : Dev) : Dev :=
  { d with sx := { d.sx with qSeq := some f.seq, q := some f }
           sy := { d.sy with qAt := d.tim.mot, xlink := false
                             crcHi := if f.seq % 2 = 0 then some f.crc else d.sy.crcHi
                             crcLo := if f.seq % 2 = 1 then some f.crc else d.sy.crcLo } }

/-- A Q-frame received well whose number follows becomes the latest report (R295). -/
theorem qFrameReceive_good (f : QFrame) (hq : d.py.q = some f) (hseq : d.sx.qSeq = none ∨ d.sx.qSeq = some ((f.seq + 15) % 16))
    (hlt : f.seq < 16) : (qFrameReceive true d).linkView = (some f, some f.seq, d.tim.mot, false) := by
  unfold qFrameReceive
  rw [hq]
  dsimp only
  rw [if_neg (by decide : ¬ (!true) = true), if_neg ?follows]
  case follows =>
    rcases hseq with hnone | hsome
    · rw [hnone]
      exact Bool.false_ne_true
    · rw [hsome]
      simp
      omega
  rw [linkView_publishPlt, linkView_qOrient, linkView_qDisc, linkView_qFaults, Dev.linkView_of_chan (Dev.chan_each _ _ _ fun n t => Dev.chan_c2off ..)]
  refine (Dev.linkView_of_chan (t := _) (d := qHeld f d) ?_).trans rfl
  simp only [Dev.putB_eq, Dev.inc_eq, Dev.chan_put, Dev.chan_evIf]
  rfl

/-- A Q-frame received badly counts and raises LINKERR; the latest report stands (R295). -/
theorem qFrameReceive_bad (h : d.py.q.isSome = true) : (qFrameReceive false d).raised pgPLT Ev.PLT.LINKERR = true ∧
    (qFrameReceive false d).sx.qSeq = none ∧ (qFrameReceive false d).sx.q = d.sx.q := by
  obtain ⟨f, hf⟩ := Option.isSome_iff_exists.mp h
  have heq : qFrameReceive false d =
      ({ d with sx := { d.sx with qSeq := none } }.incSat pgPLT PLT.LINK.CRCERR).ev pgPLT Ev.PLT.LINKERR := by
    unfold qFrameReceive
    rw [hf]
    rfl
  rw [heq]
  exact ⟨Dev.raised_ev_same _ _ _ (by decide), rfl, rfl⟩

/-- The orientations' difference, once it has lasted, drops every decision (R329). -/
theorem orimis_spec (hn : 4 < d.sy.oriN) (hmis : d.sy.oriMis = false) :
    (orimis d).sy.oriMis = true ∧ (orimis d).sx.dec = 0 ∧ (orimis d).hasC2 pgSAFE = true := by
  have heq : orimis d = setDec 0 (({ d with sy := { d.sy with oriMis := true } }).fault pgSAFE Cz.SAFE.ORIMIS 0xFF) :=
    if_pos (by simp [hn, hmis])
  obtain ⟨hsx, hsy, hc2⟩ := setDec_spec 0 (({ d with sy := { d.sy with oriMis := true } }).fault pgSAFE Cz.SAFE.ORIMIS 0xFF)
  rw [heq]
  refine ⟨?_, congrArg SafeX.dec hsx, ?_⟩
  · rw [hsy, (chanKept_fault ..).sy]
  · obtain ⟨x, hx, hcond⟩ := List.any_eq_true.mp (Dev.fault_c2 pgSAFE Cz.SAFE.ORIMIS 0xFF { d with sy := { d.sy with oriMis := true } } rfl)
    unfold Dev.hasC2
    rw [hc2]
    exact List.any_eq_true.mpr ⟨x, hx, by rw [eq_of_beq hcond]; rfl⟩

/-- A report leaves the rest of the processor channel's times as they are, and stands where the queue has room. -/
theorem raise_linkTimes (c : Cause) (hc : c.cls % 16 ≠ 0) : (d.raise pgSAFE c 0xFF).sy.xlink = d.sy.xlink ∧
    (d.raise pgSAFE c 0xFF).sy.xd = d.sy.xd ∧ (d.raise pgSAFE c 0xFF).sy.cfg8 = d.sy.cfg8 ∧
    (d.queueRoom = true → (d.raise pgSAFE c 0xFF).entryOf pgSAFE c 0xFF = true) := by
  have hsy := (chanKept_raise pgSAFE c 0xFF d).sy
  exact ⟨by rw [hsy], by rw [hsy], by rw [hsy], Dev.raise_standing pgSAFE c 0xFF d hc⟩

/-- The link's loss is reported once (R296). -/
theorem xlink_lost (harmed : d.sy.armed = true) (hx : d.sy.xlink = false) (hat : d.sy.qAt + msMot 1 ≤ d.tim.mot) :
    (xlink d).sy.xlink = true ∧ (d.queueRoom = true → (xlink d).entryOf pgSAFE Cz.SAFE.XLINK 0xFF = true) := by
  have heq : xlink d = ({ d with sy := { d.sy with xlink := true } }).raise pgSAFE Cz.SAFE.XLINK 0xFF := if_pos (by simp [harmed, hx, hat])
  obtain ⟨hlost, -, -, hentry⟩ := raise_linkTimes { d with sy := { d.sy with xlink := true } } Cz.SAFE.XLINK (by decide)
  rw [heq]
  exact ⟨hlost, hentry⟩

/-- Decisions that differ for 40 ms are reported (R310). -/
theorem xdec_lasted (h : (d.sy.xd.any fun t => lasted d t (msMot 40)) = true) :
    (xdec d).sy.xd = List.replicate 4 none ∧ (d.queueRoom = true → (xdec d).entryOf pgSAFE Cz.SAFE.XDEC 0xFF = true) := by
  have heq : xdec d = ({ d with sy := { d.sy with xd := List.replicate 4 none } }).raise pgSAFE Cz.SAFE.XDEC 0xFF := if_pos h
  obtain ⟨-, hxd, -, hentry⟩ := raise_linkTimes { d with sy := { d.sy with xd := List.replicate 4 none } } Cz.SAFE.XDEC (by decide)
  rw [heq]
  exact ⟨hxd, hentry⟩

/-- An echo that does not agree in time is reported (R324). -/
theorem pcrbad_late (hlast : lasted d d.sy.cfg8 (msMot 2) = true) (hecho : echoOk d = false) :
    (pcrbad d).sy.cfg8 = none ∧ (d.queueRoom = true → (pcrbad d).entryOf pgSAFE Cz.SAFE.PCRBAD 0xFF = true) := by
  have heq : pcrbad d = ({ d with sy := { d.sy with cfg8 := none } }).raise pgSAFE Cz.SAFE.PCRBAD 0xFF := if_pos (by rw [hlast, hecho]; rfl)
  obtain ⟨-, -, hcfg, hentry⟩ := raise_linkTimes { d with sy := { d.sy with cfg8 := none } } Cz.SAFE.PCRBAD (by decide)
  rw [heq]
  exact ⟨hcfg, hentry⟩

end

end Sys2Proof.Machine
end

section
/-! PROOFS. The processor channel and the Platen die: frames, readings and the link. -/

namespace Sys2Proof.Machine

/-- What the two frames that act in TEST and the RESTART leave, in a die that takes them. -/
theorem framesTaken (d : Dev) (h : d.platenTakes = true) :
    (d.px.st = 2 → (∀ code arg, (pFrameTest code arg d).px.st = 2 ∧ (pFrameTest code arg d).py.test = some (code, arg) ∧
        (pFrameTest code arg d).px.dec = 0) ∧
      (pFrameRun d).px.st = 3 ∧ (pFrameRun d).sx.run = true ∧ (pFrameRun d).py.test = none) ∧
    (pFrameRestart d).px = { st := 1, si := d.px.si, tli := d.px.tli, mir := d.px.mir, coilOk := d.px.coilOk
                             dec := (pFrameRestart d).px.dec, coil := (pFrameRestart d).px.coil } ∧
    (pFrameRestart d).platenSafe = true ∧ (pFrameRestart d).sx.run = false ∧ (pFrameRestart d).sx.dec = 0 ∧
    (pFrameRestart d).sx.coil = 0 := by
  refine ⟨fun hst => ⟨fun code arg => ?_, ?_⟩, ?_⟩
  · rw [pFrameTest_taken d code arg h hst]
    refine ⟨?_, ?_, pltWeigh_dec _ fun hrun => absurd (hst.symm.trans hrun) (by decide)⟩
    · rw [pltWeigh_px]
      exact hst
    · rw [pltWeigh_py]
  · rw [pFrameRun_taken d h hst]
    refine ⟨?_, ?_, ?_⟩
    · rw [pltWeigh_px]
    · rw [pltWeigh_sx]
    · rw [pltWeigh_py]
  · rw [pFrameRestart_taken d h]
    exact ⟨pltRestart_px _, pltRestart_platenSafe _, pltRestart_sx (linkRestarted (pSent 4 d)) rfl⟩

/-- What a good STATUS frame leaves of the die. -/
theorem statusFrame (d : Dev) (hon : d.px.st ≠ 0) (hsent : d.sx.sent = true) (htyp : d.sx.p.typ = 0) (hseq : d.py.pSeq = none) :
    (pFrameStatus true d).px.siMask = d.sx.p.siMask ∧ (pFrameStatus true d).px.tliMask = d.sx.p.tliMask ∧
      (pFrameStatus true d).px.procSi = d.sx.p.si ∧ (pFrameStatus true d).py.pSeq = some d.sx.p.seq ∧
      (pFrameStatus true d).px.st = d.px.st := by
  have hview := statusView_statusTaken d.sx.p d
  simp only [Dev.statusView, Prod.mk.injEq] at hview
  obtain ⟨hst, hsi, htli, hproc, hnum, hidle⟩ := hview
  rw [pFrameStatus_taken d hon hsent htyp hseq]
  refine ⟨?_, ?_, ?_, (pltWeigh_pSeq _ hidle).trans hnum, ?_⟩
  · rw [pltWeigh_px]
    exact hsi
  · rw [pltWeigh_px]
    exact htli
  · rw [pltWeigh_px]
    exact hproc
  · rw [pltWeigh_px]
    exact hst

/-- Settles O20: each frame that the die takes, each reading by what it stores, each finding of the link by what it reports. -/
theorem processorAndPlatenChannels : Obligations.ProcessorAndPlatenChannels := by
  unfold Obligations.ProcessorAndPlatenChannels
  refine ⟨fun s idx b code arg => ⟨fun halive htakes => ?_, fun hon hsent htyp hseq => ?_, fun hon => ?_⟩,
    fun s n i level code hon => ⟨?_, fun hcode hat h0 h7 hne => ?_, fun r hr hrun huse hcnt hstep hne hrel => ?_⟩,
    fun s halive => ⟨fun f hf hseq hlt => ?_, fun hq => ?_, fun harmed hx hat => ?_, fun hn hmis => ?_, fun hxd => ?_, fun hlast hecho => ?_⟩⟩
  · obtain ⟨htest, hrestart, hsafe, hrun, hdec, hcoil⟩ := framesTaken s.dev htakes
    refine ⟨fun hst hlen => ?_, fun hst => ?_, ?_⟩
    · have hpx := pFrameConfig_held s.dev idx.val ((List.replicate 8 b).map (·.toNat)) htakes hst hlen
      exact ⟨_, doDev_live _ s halive, (congrArg PlatenX.st hpx).trans hst, congrArg (fun x => x.buf.head?) hpx, rfl⟩
    · obtain ⟨hframe, hst', hrun', hnone⟩ := htest hst
      obtain ⟨kst, ktest, kdec⟩ := hframe code.val arg.val
      exact ⟨⟨_, doDev_live _ s halive, kst, ktest, kdec, rfl⟩, ⟨_, doDev_live _ s halive, hst', hrun', hnone, rfl⟩⟩
    · exact ⟨_, doDev_live _ s halive, congrArg PlatenX.st hrestart, congrArg PlatenX.rec? hrestart, congrArg PlatenX.dsc hrestart,
        congrArg PlatenX.mirF hrestart, congrArg PlatenX.coilF hrestart, hsafe, hrun, hdec, hcoil, rfl⟩
  · obtain ⟨hsi, htli, hproc, hnum, hst⟩ := statusFrame s.dev hon hsent htyp hseq
    exact ⟨s.onDev (pFrameStatus true), rfl, hsi, htli, hproc, hnum, hst, rfl⟩
  · obtain ⟨hnum, hframe, hsx⟩ := qFrameSend_spec s.dev hon
    exact ⟨s.onDev qFrameSend, rfl, hnum, hframe, hsx, rfl⟩
  · obtain ⟨hbit, htli, hdec⟩ := pltAccept_si s.dev i level hon
    exact ⟨s.onDev (pltAccept (.si i) level), rfl, hbit, htli, hdec, rfl⟩
  · obtain ⟨kcode, kat⟩ := pltHall_stored s.dev n.val code.toNat hon h0 h7 hne
    refine ⟨s.onDev (pltHall n.val code.toNat), rfl, ?_, ?_, rfl⟩
    · rw [State.onDev_dev, kcode, nth_modNth_same _ _ _ _ (by rw [hcode]; exact n.isLt)]
    · rw [State.onDev_dev, kat, nth_modNth_same _ _ _ _ (by rw [hat]; exact n.isLt)]
  · exact ⟨s.onDev (pltHall n.val code.toNat), rfl, pltHall_guard s.dev n.val code.toNat r hr hrun huse hcnt hstep hne hrel⟩
  · have hview := qFrameReceive_good s.dev f hf hseq hlt
    simp only [Dev.linkView, Prod.mk.injEq] at hview
    obtain ⟨hq, hnum, hat, hx⟩ := hview
    exact ⟨_, doDev_live _ s halive, hq, hnum, hat, hx, rfl⟩
  · obtain ⟨hev, hnum, hkept⟩ := qFrameReceive_bad s.dev hq
    exact ⟨_, doDev_live _ s halive, hev, hnum, hkept, rfl⟩
  · obtain ⟨hlost, hentry⟩ := xlink_lost s.dev harmed hx hat
    exact ⟨_, doDev_live _ s halive, hlost, hentry, rfl⟩
  · obtain ⟨hset, hdec, hc2⟩ := orimis_spec s.dev hn hmis
    exact ⟨_, doDev_live _ s halive, hset, hdec, hc2, rfl⟩
  · obtain ⟨hcleared, hentry⟩ := xdec_lasted s.dev hxd
    exact ⟨_, doDev_live _ s halive, hcleared, hentry, rfl⟩
  · obtain ⟨hcleared, hentry⟩ := pcrbad_late s.dev hlast hecho
    exact ⟨_, doDev_live _ s halive, hcleared, hentry, rfl⟩

end Sys2Proof.Machine
end

section
/-! PROOFS. The state of the lanes (R344, R348, R349): what a change of a lane's state, the record of a lane fault and a report leave of it. -/

namespace Sys2Proof.Machine

/-! Changes of the Imdel complex and of the Service pair beyond their registers. -/

/-- A change of the Imdel complex beyond its registers. -/
def Dev.modImd (f : ImdX → ImdX) (d : Dev) : Dev := { d with imd := f d.imd }

/-- A change of the Service pair beyond its registers. -/
def Dev.modSvc (f : SvcX → SvcX) (d : Dev) : Dev := { d with svc := f d.svc }

@[simp] theorem Dev.imd_modImd (f : ImdX → ImdX) (d : Dev) : (d.modImd f).imd = f d.imd := rfl
@[simp] theorem Dev.get_modImd (f : ImdX → ImdX) (d : Dev) (q : Nat) (g : Fld) : (d.modImd f).get q g = d.get q g := rfl
@[simp] theorem Dev.raised_modImd (f : ImdX → ImdX) (d : Dev) (q n : Nat) : (d.modImd f).raised q n = d.raised q n := rfl

@[simp] theorem Dev.svc_modSvc (f : SvcX → SvcX) (d : Dev) : (d.modSvc f).svc = f d.svc := rfl
@[simp] theorem Dev.c2_modSvc (f : SvcX → SvcX) (d : Dev) : (d.modSvc f).c2 = d.c2 := rfl
@[simp] theorem Dev.get_modSvc (f : SvcX → SvcX) (d : Dev) (q : Nat) (g : Fld) : (d.modSvc f).get q g = d.get q g := rfl
@[simp] theorem Dev.raised_modSvc (f : SvcX → SvcX) (d : Dev) (q n : Nat) : (d.modSvc f).raised q n = d.raised q n := rfl

@[simp] theorem Dev.imd_ev (p n : Nat) (d : Dev) : (d.ev p n).imd = d.imd := rfl
@[simp] theorem Dev.svc_ev (p n : Nat) (d : Dev) : (d.ev p n).svc = d.svc := rfl

/-! Lanes. -/

theorem laneSt_eq (d : Dev) (i : Nat) : laneSt d i = vget d.imd.lane i .out := rfl

/-- Devices with like lanes have the same lanes in RUN. -/
theorem runLanes_congr {d t : Dev} (h : t.imd.lane = d.imd.lane) : runLanes t = runLanes d := by
  unfold runLanes laneSt
  rw [h]

/-- With all three lanes in RUN each of them is. -/
theorem laneSt_run {d : Dev} (h : runLanes d = [0, 1, 2]) (k : Fin 3) : laneSt d k.val = .run := by
  have hk : k.val ∈ runLanes d := by
    rw [h]
    revert k
    decide
  unfold runLanes at hk
  simpa using (List.mem_filter.mp hk).2

/-- The registers in which the lanes' states are published. -/
def laneFlds : List Fld := [IMD.LANE_STAT.LANE0, IMD.LANE_STAT.LANE1, IMD.LANE_STAT.LANE2, IMD.LANE_STAT.MODE]

/-- Publishing the lanes' states writes the registers of that alone. -/
theorem get_publishLanes_ne (d : Dev) (q : Nat) (g : Fld) (h : ∀ f ∈ laneFlds, g.key q ≠ f.key pgIMD) :
    (publishLanes d).get q g = d.get q g := by
  unfold publishLanes
  simp only
  rw [Dev.get_put_ne _ _ _ _ _ _ (h _ (by decide)), Dev.get_put_ne _ _ _ _ _ _ (h _ (by decide)),
    Dev.get_put_ne _ _ _ _ _ _ (h _ (by decide)), Dev.get_put_ne _ _ _ _ _ _ (h _ (by decide))]

section
variable (i : Nat) (st : LaneState) (d : Dev)

theorem setLane_imd : (setLane i st d).imd = { d.imd with lane := vmod d.imd.lane i fun _ => st } := rfl

theorem laneSt_setLane_same (hi : i < 3) : laneSt (setLane i st d) i = st := vget_vmod_same _ _ _ _ hi

theorem get_setLane_ne (q : Nat) (g : Fld) (h : ∀ f ∈ laneFlds, g.key q ≠ f.key pgIMD) : (setLane i st d).get q g = d.get q g :=
  get_publishLanes_ne _ q g h

theorem raised_setLane (q n : Nat) : (setLane i st d).raised q n = d.raised q n := by
  unfold Dev.raised
  rw [get_setLane_ne]
  simp only [laneFlds, List.forall_mem_cons, List.not_mem_nil, false_imp_iff, implies_true, and_true]
  refine ⟨?_, ?_, ?_, ?_⟩ <;> exact Fld.key_ne_of_place _ _ _ _ (by decide)

/-- A lane that leaves RUN leaves the others there. -/
theorem runLanes_setLane (hst : st ≠ .run) (hi : i < 3) : runLanes (setLane i st d) = (runLanes d).filter (· != i) := by
  unfold runLanes
  rw [List.filter_filter]
  congr 1
  funext j
  rw [laneSt_eq, setLane_imd, laneSt_eq, vget_vmod]
  by_cases hj : i = j
  · subst hj
    simp [hi, hst]
  · simp [hj, Ne.symm hj]

end

/-! Lane faults and OUT (R344, R348, R349). -/

/-- A lane that becomes OUT is so and raises DUPLEX. -/
theorem laneOut_spec (i : Nat) (c : Cause) (d : Dev) (hi : i < 3) :
    laneSt (laneOut i c d) i = .out ∧ (laneOut i c d).raised pgIMD Ev.IMD.DUPLEX = true := by
  unfold laneOut
  constructor
  · rw [laneSt_eq, Dev.imd_raise]
    exact laneSt_setLane_same i .out d hi
  · exact (keepsRaised _ _ (by decide)).raise _ _ _ _ (Dev.raised_ev_same _ _ _ (by decide))

/-- The record of a lane fault: the fault joins those of the last hour, the event stands, `LAST_LF` names the lane. -/
theorem countLane_spec (i : Nat) (c : Cause) (d : Dev) (hi : i < 3) :
    (countLane i c d).imd = { d.imd with
      faults := (i, d.tim.mot) :: d.imd.faults.filter fun f => decide (d.tim.mot < f.2 + msMot 3600000) } ∧
    (countLane i c d).tim.mot = d.tim.mot ∧ (countLane i c d).raised pgIMD Ev.IMD.LANEFLT = true ∧
    (countLane i c d).get pgIMD IMD.LAST_LF.LANE = i := by
  refine ⟨rfl, rfl, Dev.raised_ev_same _ _ _ (by decide), ?_⟩
  unfold countLane
  simp only
  rw [Dev.get_ev_ne _ _ _ _ _ (by decide), Dev.get_put_ne _ _ _ _ _ _ (by decide), Dev.get_put_ne _ _ _ _ _ _ (by decide),
    Dev.get_put_ne _ _ _ _ _ _ (by decide), Dev.get_put_same]
  exact Nat.mod_eq_of_lt (by show i < 4; omega)

/-- A report leaves the time. -/
theorem Dev.mot_raise (pg : Nat) (c : Cause) (inst : Nat) (d : Dev) : (d.raise pg c inst).tim.mot = d.tim.mot :=
  (keepsPart (·.tim.mot) d.tim.mot (by intros; rfl) (by intros; rfl) (by intros; rfl) (by intros; rfl) (by intros; rfl)
    (by intros; rfl) (by intros; rfl) (by intros; rfl) (by intros; rfl) (by intros; rfl)).raise pg c inst d rfl

/-- A lane fault counts as one more of the last hour. -/
theorem laneCnt_countLane (i : Nat) (c : Cause) (pg inst : Nat) (d : Dev) (hi : i < 3) :
    laneCnt ((countLane i c d).raise pg c inst) i = laneCnt d i + 1 := by
  obtain ⟨himd, hmot, -, -⟩ := countLane_spec i c d hi
  unfold laneCnt
  rw [Dev.imd_raise, Dev.mot_raise, himd, hmot, List.filter_cons_of_pos (by simp [msMot]), List.length_cons, List.filter_filter]
  congr 2
  congr 1
  funext f
  rw [Bool.and_assoc, Bool.and_self]

/-- What the first lane fault within the hour leaves while all three lanes run: the lane in RESYNC, the other two in RUN, the event and the
record of the lane. -/
structure LaneExcluded (i : Nat) (t : Dev) : Prop where
  lane : laneSt t i = .resync
  two : (runLanes t).length = 2
  raised : t.raised pgIMD Ev.IMD.LANEFLT = true
  last : t.get pgIMD IMD.LAST_LF.LANE = i

theorem laneFault_excludes (k : Fin 3) (c : Cause) (d : Dev) (hrun : runLanes d = [0, 1, 2]) (hcnt : laneCnt d k.val = 0) :
    LaneExcluded k.val (laneFault k.val c d) := by
  obtain ⟨himd, -, hraised, hlast⟩ := countLane_spec k.val c d k.isLt
  have hfew : ¬ 3 ≤ laneCnt ((countLane k.val c d).raise pgIMD c k.val) k.val := by
    rw [laneCnt_countLane _ _ _ _ _ k.isLt, hcnt]
    decide
  have hset : laneFault k.val c d = setLane k.val .resync
      (((countLane k.val c d).raise pgIMD c k.val).modImd fun m => { m with crcRetry := false, afterProof := false }) := by
    unfold laneFault
    simp only [laneSt_run hrun k, hrun, hfew]
    rfl
  rw [hset]
  refine ⟨laneSt_setLane_same _ _ _ k.isLt, ?_, ?_, ?_⟩
  · rw [runLanes_setLane _ _ _ (by decide) k.isLt, runLanes_congr (d := d) (by simp [Dev.imd_raise, himd]), hrun]
    have two : ∀ k : Fin 3, ([0, 1, 2].filter (· != k.val)).length = 2 := by decide
    exact two k
  · rw [raised_setLane, Dev.raised_modImd]
    exact (keepsRaised _ _ (by decide)).raise _ _ _ _ hraised
  · rw [get_setLane_ne _ _ _ _ _ (by decide), Dev.get_modImd, Dev.get_raise_ne _ _ _ _ _ _ (by decide), hlast]

end Sys2Proof.Machine
end

section
/-! PROOFS. Voted transactions (R333 to R346). -/

namespace Sys2Proof.Machine

/-- A command that changes the state as a whole, while the core die runs. -/
theorem doState_live (f : State → State) (s : State) (h : s.dev.alive = true) : doState (State.live f) s = .next (f s) := by
  unfold doState
  rw [State.live_of f s h]

/-! What the voters find. -/

/-- No lane shows a fault by itself (R339 to R341). -/
structure NoOwnFault (v : VoteEnv) : Prop where
  dly : ∀ i, dlyBad v i = false
  own : ∀ i, laneOwn v i = none

/-- Presentations alone: no stage in error, no residue, no uncorrectable array error. -/
theorem noOwnFault_presented (p0 p1 p2 : Option LanePres) (c : Bool) : NoOwnFault { p0 := p0, p1 := p1, p2 := p2, vchk := c } := by
  have hdly : ∀ i, dlyBad { p0 := p0, p1 := p1, p2 := p2, vchk := c } i = false := by
    intro i
    unfold dlyBad
    split
    · rfl
    · split <;> rfl
  refine ⟨hdly, fun i => ?_⟩
  unfold laneOwn
  rw [hdly i, if_neg Bool.false_ne_true, if_neg (by simp), if_neg (by simp)]

section
variable {v : VoteEnv} {d : Dev} {p q r : LanePres}

theorem NoOwnFault.laneOwns (h : NoOwnFault v) (l : List Nat) : laneOwns v l = [] := by
  unfold Machine.laneOwns
  rw [List.filterMap_eq_nil_iff]
  intro i _
  rw [h.own i]
  rfl

theorem NoOwnFault.voted (h : NoOwnFault v) (l : List Nat) : voted v l = agreed v l := by
  unfold Machine.voted
  rw [List.filter_eq_self.mpr]
  intro i _
  rw [h.dly i]
  rfl

/-- The fault of a lane that presents other than what was agreed on. -/
def oddCause (p : LanePres) : Cause := if p.kind == .fold then Cz.IMD.LANEFOLD else Cz.IMD.LANEVOTE

theorem NoOwnFault.voteFaults (h : NoOwnFault v) (l : List Nat) :
    voteFaults v l p = (l.filter fun i => lanePres v i != some p).map fun i => (i, oddCause p) := by
  unfold Machine.voteFaults oddCause
  simp only [h.own]
  induction l with
  | nil => rfl
  | cons i l ih =>
    by_cases hi : lanePres v i = some p
    · rw [List.filterMap_cons_none (by simp [hi]), List.filter_cons_of_neg (by simp [hi]), ih]
    · rw [List.filterMap_cons_some (by rw [if_neg (by simp [hi])]), List.filter_cons_of_pos (by simp [hi]), ih, List.map_cons]

/-- The voters themselves differ (R336): the device takes the fault, and nothing is issued. -/
theorem vote_vchk (h : NoOwnFault v) (hc : v.vchk = true) : vote v d = (d.raise pgIMD Cz.IMD.VCHK 0xFF, none) := by
  unfold vote
  simp only [hc, if_true, h.laneOwns]
  rfl

/-- Three lanes of which two agree (R333): the agreed presentation is issued, each lane that differs takes a fault. -/
theorem vote_agreed (h : NoOwnFault v) (hc : v.vchk = false) (hrun : runLanes d = [0, 1, 2]) (hp : agreed v [0, 1, 2] = some p) :
    vote v d = (d.each (([0, 1, 2].filter fun i => lanePres v i != some p).map fun i => (i, oddCause p)) fun f => laneFault f.1 f.2,
      some p) := by
  unfold vote
  simp only [hc, Bool.false_eq_true, if_false, hrun, h.voted, hp, h.voteFaults]

/-- Three lanes of which no two agree (R333). -/
theorem vote_noMajority (h : NoOwnFault v) (hc : v.vchk = false) (hrun : runLanes d = [0, 1, 2]) (hp : agreed v [0, 1, 2] = none) :
    vote v d = (d.raise pgIMD Cz.IMD.NOMAJ 0xFF, none) := by
  unfold vote
  simp only [hc, Bool.false_eq_true, if_false, hrun, h.voted, hp, h.laneOwns]
  rfl

/-- Two remaining lanes that disagree (R346). -/
theorem vote_duplex (h : NoOwnFault v) (hc : v.vchk = false) (hrun : runLanes d = [0, 1]) (h0 : lanePres v 0 = some p)
    (h1 : lanePres v 1 = some q) (hne : p ≠ q) : vote v d = (dupMis 0xFF d, none) := by
  unfold vote duplexBad
  simp [hc, hrun, h.own, h0, h1, hne]

theorem agreed_same (h : ∀ i < 3, lanePres v i = some p) : agreed v [0, 1, 2] = some p := by
  simp [agreed, h 0, h 1]

/-- The other two lanes outvote the lane that differs. -/
theorem agreed_odd (k : Fin 3) (h : ∀ i < 3, lanePres v i = some (if i = k.val then q else p)) (hne : q ≠ p) :
    agreed v [0, 1, 2] = some p := by
  fin_cases k <;> simp [agreed, h 0, h 1, h 2, hne.symm]

theorem agreed_distinct (h0 : lanePres v 0 = some p) (h1 : lanePres v 1 = some q) (h2 : lanePres v 2 = some r)
    (hpq : p ≠ q) (hpr : p ≠ r) (hqr : q ≠ r) : agreed v [0, 1, 2] = none := by
  simp [agreed, h0, h1, h2, hpq.symm, hpr.symm, hqr.symm]

/-- Three lanes that present the same change nothing at the voters. -/
theorem vote_same (h : NoOwnFault v) (hc : v.vchk = false) (hrun : runLanes d = [0, 1, 2]) (hp : ∀ i < 3, lanePres v i = some p) :
    vote v d = (d, some p) := by
  have hodd : [0, 1, 2].filter (fun i => lanePres v i != some p) = [] := by simp [hp]
  rw [vote_agreed h hc hrun (agreed_same hp), hodd]
  rfl

/-- One lane that differs from the other two takes the fault alone. -/
theorem vote_odd (h : NoOwnFault v) (hc : v.vchk = false) (hrun : runLanes d = [0, 1, 2]) (k : Fin 3)
    (hp : ∀ i < 3, lanePres v i = some (if i = k.val then q else p)) (hne : q ≠ p) :
    vote v d = (laneFault k.val (oddCause p) d, some p) := by
  have hodd : [0, 1, 2].filter (fun i => lanePres v i != some p) = [k.val] := by
    fin_cases k <;> simp [hp, hne]
  rw [vote_agreed h hc hrun (agreed_odd k hp hne), hodd]
  rfl

end

/-! Folds (R342). -/

theorem foldDone_spec (crc : W32) (d : Dev) : (foldDone crc.toNat d).get pgIMD IMD.FOLD.CRC = crc.toNat ∧
    (foldDone crc.toNat d).get pgIMD IMD.FOLD_CNT.COUNT = (d.get pgIMD IMD.FOLD_CNT.COUNT + 1) % 2 ^ IMD.FOLD_CNT.COUNT.w ∧
    (foldDone crc.toNat d).imd.lane = d.imd.lane := by
  have hne : IMD.FOLD.CRC.key pgIMD ≠ IMD.FOLD_CNT.COUNT.key pgIMD := by decide
  refine ⟨?_, ?_, rfl⟩
  · exact (Dev.get_put_ne _ _ _ _ _ _ hne).trans ((Dev.get_put_same ..).trans (Nat.mod_eq_of_lt crc.isLt))
  · refine (Dev.get_put_same ..).trans ?_
    rw [Dev.get_put_ne _ _ _ _ _ _ hne.symm]

/-- A fold leaves the exclusion of a lane. -/
theorem LaneExcluded.foldDone {i : Nat} {d : Dev} (h : LaneExcluded i d) (crc : Nat) : LaneExcluded i (foldDone crc d) where
  lane := h.lane
  two := h.two
  raised := ((Dev.raised_put _ _ _ _ _ _ (by decide)).trans (Dev.raised_put _ _ _ _ _ _ (by decide))).trans h.raised
  last := ((Dev.get_put_ne _ _ _ _ _ _ (by decide)).trans (Dev.get_put_ne _ _ _ _ _ _ (by decide))).trans h.last

/-! The command. -/

theorem noOwnFault_votes (kind : PresKind) (addr a b c : W32) : NoOwnFault (votes kind addr a b c) := noOwnFault_presented ..

section
variable {s : State} {v : VoteEnv} {d : Dev}

theorem exec_tripletTransaction (v : VoteEnv) (s : State) (halive : s.dev.alive = true) :
    exec (.tripletTransaction v) s = .next (tripletTransaction v s) := doState_live _ s halive

/-- A halted triplet issues nothing. -/
theorem tripletTransaction_halted (h : s.dev.imd.halted = true) : tripletTransaction v s = s := by
  unfold tripletTransaction
  rw [h]
  rfl

/-- Where the voters let nothing through, what they do to the device is all. -/
theorem tripletTransaction_none (hgo : s.dev.imd.halted = false) (hheld : s.dev.imd.held = false) (hv : vote v s.dev = (d, none)) :
    tripletTransaction v s = { s with dev := d } := by
  unfold tripletTransaction
  rw [hgo, hheld, hv]
  rfl

/-- A fold that the voters let through. -/
theorem tripletTransaction_fold {p : LanePres} (hgo : s.dev.imd.halted = false) (hheld : s.dev.imd.held = false)
    (hv : vote v s.dev = (d, some p)) (hk : p.kind = .fold) :
    tripletTransaction v s = { s with dev := foldDone p.data.toNat d } := by
  unfold tripletTransaction
  rw [hgo, hheld, hv]
  simp only [hk]
  rfl

/-- A transaction for which the voters report a class C3 cause and let nothing through: the device is in safe halt, memory is as it was. -/
theorem tripletTransaction_halts {c : Cause} {inst : Nat} (halive : s.dev.alive = true) (hgo : s.dev.imd.halted = false)
    (hheld : s.dev.imd.held = false) (hc : c.cls = 3) (hv : vote v s.dev = (s.dev.raise pgIMD c inst, none)) :
    ∃ t, exec (.tripletTransaction v) s = .next t ∧ (s.dev.flt.halt = false → t.dev.safeHalted = true) ∧ t.mem = s.mem := by
  rw [exec_tripletTransaction v s halive, tripletTransaction_none hgo hheld hv]
  exact ⟨_, rfl, fun hno => (Dev.raise_halts _ _ _ _ hc hno).2, rfl⟩

end

/-- What a lane presents where one of the three lanes is given other data. -/
theorem lanePres_odd (kind : PresKind) (addr data : W32) (k : Fin 3) : ∀ i < 3,
    lanePres (votes kind addr (if k.val = 0 then data + 1 else data) (if k.val = 1 then data + 1 else data)
      (if k.val = 2 then data + 1 else data)) i =
      some (if i = k.val then ⟨kind, addr, 15, data + 1⟩ else ⟨kind, addr, 15, data⟩) := by
  intro i hi
  interval_cases i <;> fin_cases k <;> rfl

/-- Settles O22: what the voters find, and what of it reaches the device. -/
theorem votedTransactions : Obligations.VotedTransactions := by
  unfold Obligations.VotedTransactions
  intro s addr data k halive hheld
  refine ⟨fun hhalted => ?_, fun hgo hrun => ⟨?_, fun hcnt => ?_, ?_⟩, fun hgo hno => ⟨?_, fun hrun => ?_⟩⟩
  · rw [exec_tripletTransaction _ s halive, tripletTransaction_halted hhalted]
  · have hsame : ∀ i < 3, lanePres (votes .fold addr data data data) i = some ⟨.fold, addr, 15, data⟩ := by
      intro i hi
      interval_cases i <;> rfl
    have hvote := vote_same (noOwnFault_votes ..) rfl hrun hsame
    obtain ⟨hcrc, hcount, hlane⟩ := foldDone_spec data s.dev
    rw [exec_tripletTransaction _ s halive, tripletTransaction_fold hgo hheld hvote rfl]
    exact ⟨_, rfl, hcrc, hlane, hcount, rfl⟩
  · have hvote := vote_odd (noOwnFault_votes ..) rfl hrun k (lanePres_odd .fold addr data k) (by simp)
    obtain ⟨hcrc, -, -⟩ := foldDone_spec data (laneFault k.val Cz.IMD.LANEFOLD s.dev)
    obtain ⟨hlane, htwo, hraised, hlast⟩ := (laneFault_excludes k Cz.IMD.LANEFOLD s.dev hrun hcnt).foldDone data.toNat
    rw [exec_tripletTransaction _ s halive, tripletTransaction_fold hgo hheld hvote rfl]
    exact ⟨_, rfl, hlane, htwo, hraised, hcrc, hlast⟩
  · have hdistinct : agreed (votes .write addr data (data + 1) (data + 2)) [0, 1, 2] = none :=
      agreed_distinct rfl rfl rfl (by simp) (by simp) (by simp)
    exact tripletTransaction_halts halive hgo hheld rfl (vote_noMajority (noOwnFault_votes ..) rfl hrun hdistinct)
  · obtain ⟨t, ht, hsafe, hmem⟩ := tripletTransaction_halts halive hgo hheld rfl (vote_vchk (noOwnFault_presented none none none true) rfl)
    exact ⟨t, ht, hsafe hno, hmem⟩
  · have hvote := vote_duplex (p := ⟨.write, addr, 15, data⟩) (q := ⟨.write, addr, 15, data + 1⟩)
      (noOwnFault_presented (some _) (some _) none false) rfl hrun rfl rfl (by simp)
    obtain ⟨t, ht, hsafe, hmem⟩ := tripletTransaction_halts halive hgo hheld rfl hvote
    exact ⟨t, ht, hsafe hno, hmem⟩

end Sys2Proof.Machine
end

section
/-! PROOFS. Resync and the rotating proof (R344, R348, R350 to R354). -/

namespace Sys2Proof.Machine

/-! The end of a proof (R352, R354). -/

/-- The registers that the end of a proof can write: `PROOF_STAT.ACTIVE`, and what a halt request that waited for it writes. -/
def proofEndKeys : List Nat :=
  HDR.EV_STAT.key pgIMD :: IMD.PROOF_STAT.ACTIVE.key pgIMD :: IMD.DBG.HALTED.key pgIMD :: reportKeys

/-- What the end of a proof keeps: the lanes, the events that stand, every other register. -/
structure ProofEndKept (d t : Dev) : Prop where
  lane : t.imd.lane = d.imd.lane
  raised : ∀ q n, n < 32 → d.raised q n = true → t.raised q n = true
  get : ∀ q g, g.key q ∉ proofEndKeys → t.get q g = d.get q g

theorem ProofEndKept.refl (d : Dev) : ProofEndKept d d := ⟨rfl, fun _ _ _ h => h, fun _ _ _ => rfl⟩

theorem ProofEndKept.trans {d t u : Dev} (h : ProofEndKept d t) (k : ProofEndKept t u) : ProofEndKept d u where
  lane := k.lane.trans h.lane
  raised q n hn hr := k.raised q n hn (h.raised q n hn hr)
  get q g hg := (k.get q g hg).trans (h.get q g hg)

theorem ProofEndKept.ite {c : Prop} [Decidable c] {d t u : Dev} (ht : ProofEndKept d t) (hu : ProofEndKept d u) :
    ProofEndKept d (if c then t else u) := by
  split
  · exact ht
  · exact hu

theorem ProofEndKept.ev (n : Nat) (d : Dev) : ProofEndKept d (d.ev pgIMD n) where
  lane := rfl
  raised _ _ hm hr := Dev.raised_ev_keep _ _ _ _ _ hm hr
  get _ _ hg := Dev.get_ev_ne _ _ _ _ _ fun c => hg (by simp [proofEndKeys, c])

theorem ProofEndKept.put (f : Fld) (v : Nat) (d : Dev) (hf : f.key pgIMD ∈ proofEndKeys) (he : HDR.EV_STAT.place ≠ f.place) :
    ProofEndKept d (d.put pgIMD f v) where
  lane := rfl
  raised _ _ _ hr := (Dev.raised_put_place _ _ _ _ _ _ he).trans hr
  get q g hg := Dev.get_put_ne _ _ _ _ _ _ fun c => by rw [c] at hg; exact hg hf

theorem ProofEndKept.raise (pg : Nat) (c : Cause) (inst : Nat) (d : Dev) : ProofEndKept d (d.raise pg c inst) where
  lane := congrArg ImdX.lane (Dev.imd_raise ..)
  raised _ _ hn hr := (keepsRaised _ _ hn).raise _ _ _ _ hr
  get _ _ hg := Dev.get_raise_ne _ _ _ _ _ _ fun c => hg (by simp [proofEndKeys, c])

/-- A debug halt that takes effect (R354, R364). -/
theorem debugHaltNow_eq (d : Dev) : debugHaltNow d =
    (((d.modImd fun m => { m with halted := true, haltReq := false }).put pgIMD IMD.DBG.HALTED 1).ev pgIMD Ev.IMD.DBGHALT).raise
      pgIMD Cz.IMD.DBGHALT 0xFF := rfl

theorem proofEndKept_debugHaltNow (d : Dev) : ProofEndKept d (debugHaltNow d) := by
  rw [debugHaltNow_eq]
  have hhalt : ProofEndKept d (d.modImd fun m => { m with halted := true, haltReq := false }) :=
    ⟨rfl, fun _ _ _ h => h, fun _ _ _ => rfl⟩
  exact ((hhalt.trans (.put _ _ _ (by decide) (by decide))).trans (.ev _ _)).trans (.raise _ _ _ _)

theorem proofEndKept_proofEnded (d : Dev) : ProofEndKept d (proofEnded d) := by
  have hput : ProofEndKept d (d.putB pgIMD IMD.PROOF_STAT.ACTIVE false) := .put _ _ _ (by decide) (by decide)
  exact .ite (hput.trans (proofEndKept_debugHaltNow _)) hput

theorem proofEnded_active (d : Dev) : (proofEnded d).get pgIMD IMD.PROOF_STAT.ACTIVE = 0 := by
  have hput : (d.putB pgIMD IMD.PROOF_STAT.ACTIVE false).get pgIMD IMD.PROOF_STAT.ACTIVE = 0 := Dev.get_put_same ..
  unfold proofEnded
  simp only
  split
  · rw [debugHaltNow_eq, Dev.get_raise_ne _ _ _ _ _ _ (by decide), Dev.get_ev_ne _ _ _ _ _ (by decide),
      Dev.get_put_ne _ _ _ _ _ _ (by decide), Dev.get_modImd, hput]
  · exact hput

/-! RESYNC_TRANSFER (R344, R348). -/

/-- A lane that is found by its state is in that state. -/
theorem laneSt_of_find {d : Dev} {st : LaneState} {i : Nat} (h : (List.range 3).find? (fun i => laneSt d i == st) = some i) :
    laneSt d i = st := by simpa using List.find?_some h

/-- A lane back in RUN after a good transfer, its count, event and times. -/
def resynced (i t10 : Nat) (d : Dev) : Dev :=
  let d := d.modImd fun m => { m with core := vmod m.core i fun _ => vget m.core ((runLanes d).headD 0) {}, crcRetry := false, afterProof := false }
  let d := ((setLane i .run d).incSat pgIMD IMD.LANE_TOT.RSYNCS).ev pgIMD Ev.IMD.RESYNC
  (d.put pgIMD IMD.RSYNC_T.LASTT t10).put pgIMD IMD.RSYNC_T.MAXT (max t10 (d.get pgIMD IMD.RSYNC_T.MAXT))

theorem resynced_spec (i : Nat) (t10 : W16) (d : Dev) (hi : i < 3) : laneSt (resynced i t10.toNat d) i = .run ∧
    (resynced i t10.toNat d).raised pgIMD Ev.IMD.RESYNC = true ∧
    (resynced i t10.toNat d).get pgIMD IMD.RSYNC_T.LASTT = t10.toNat := by
  unfold resynced
  refine ⟨?_, ?_, ?_⟩
  · simp only [laneSt_eq, Dev.put_imd, Dev.imd_ev, Dev.incSat_eq]
    exact laneSt_setLane_same i .run _ hi
  · simp only
    rw [Dev.raised_put_place _ _ _ _ _ _ (by decide), Dev.raised_put_place _ _ _ _ _ _ (by decide)]
    exact Dev.raised_ev_same _ _ _ (by decide)
  · simp only
    rw [Dev.get_put_ne _ _ _ _ _ _ (by decide), Dev.get_put_same]
    exact Nat.mod_eq_of_lt t10.isLt

section
variable {d : Dev} {i : Nat}

/-- A good transfer, after which a proof that the lane underwent has ended. -/
theorem resyncTransfer_good (t10 : Nat) (h : resyncLane d = some i) : resyncTransfer true t10 d =
    if d.imd.afterProof then proofEnded ((resynced i t10 d).ev pgIMD Ev.IMD.PROOFEND) else resynced i t10 d := by
  unfold resyncTransfer
  rw [h]
  rfl

/-- The first bad CRC has the transfer repeated. -/
theorem resyncTransfer_retry (t10 : Nat) (h : resyncLane d = some i) (hr : d.imd.crcRetry = false) :
    resyncTransfer false t10 d = d.modImd fun m => { m with crcRetry := true } := by
  unfold resyncTransfer
  rw [h]
  simp only [hr]
  rfl

/-- The second bad CRC takes the lane OUT, and with that ends the proof that it underwent. -/
theorem resyncTransfer_out (t10 : Nat) (h : resyncLane d = some i) (hr : d.imd.crcRetry = true) :
    resyncTransfer false t10 d = Dev.iff_ d.imd.afterProof proofEnded
      (laneOut i Cz.IMD.RSYNCF (d.modImd fun m => { m with crcRetry := false, afterProof := false })) := by
  unfold resyncTransfer
  rw [h]
  simp only [hr, if_true]
  rfl

end

/-- What each end of a transfer leaves. -/
theorem resyncTransfer_spec (d : Dev) (k : Fin 3) (t10 : W16) (h : resyncLane d = some k.val) :
    (laneSt (resyncTransfer true t10.toNat d) k.val = .run ∧
      (resyncTransfer true t10.toNat d).raised pgIMD Ev.IMD.RESYNC = true ∧
      (resyncTransfer true t10.toNat d).get pgIMD IMD.RSYNC_T.LASTT = t10.toNat) ∧
    (d.imd.crcRetry = false → (resyncTransfer false t10.toNat d).imd.crcRetry = true ∧
      laneSt (resyncTransfer false t10.toNat d) k.val = .resync) ∧
    (d.imd.crcRetry = true → laneSt (resyncTransfer false t10.toNat d) k.val = .out ∧
      (resyncTransfer false t10.toNat d).raised pgIMD Ev.IMD.DUPLEX = true) := by
  refine ⟨?_, fun hr => ?_, fun hr => ?_⟩
  · obtain ⟨hlane, hraised, hlast⟩ := resynced_spec k.val t10 d k.isLt
    have kept : ProofEndKept (resynced k.val t10.toNat d) (resyncTransfer true t10.toNat d) := by
      rw [resyncTransfer_good _ h]
      exact .ite (.trans (.ev _ _) (proofEndKept_proofEnded _)) (.refl _)
    refine ⟨?_, kept.raised _ _ (by decide) hraised, (kept.get _ _ (by decide)).trans hlast⟩
    rw [laneSt_eq, kept.lane]
    exact hlane
  · rw [resyncTransfer_retry _ h hr]
    exact ⟨rfl, laneSt_of_find h⟩
  · rw [resyncTransfer_out _ h hr]
    generalize d.modImd _ = x
    obtain ⟨hlane, hraised⟩ := laneOut_spec k.val Cz.IMD.RSYNCF x k.isLt
    have kept : ProofEndKept (laneOut k.val Cz.IMD.RSYNCF x) (Dev.iff_ d.imd.afterProof proofEnded (laneOut k.val Cz.IMD.RSYNCF x)) :=
      .ite (proofEndKept_proofEnded _) (.refl _)
    refine ⟨?_, kept.raised _ _ (by decide) hraised⟩
    rw [laneSt_eq, kept.lane]
    exact hlane

/-! Due proofs (R350, R351). -/

/-- A due time that has come has one proof more wait. -/
theorem proofDue_spec (d : Dev) (hs : d.imd.started = true) (hdue : d.imd.startAt + (d.imd.dues + 1) * proofPeriod ≤ d.tim.mot)
    (hon : d.on pgIMD IMD.PROOF_CFG.PROOFEN = true) : (proofDue d).imd.waiting = d.imd.waiting + 1 ∧
    (proofDue d).imd.dues = d.imd.dues + 1 ∧
    (d.imd.waiting = 0 → (proofDue d).imd.dueAt = d.imd.startAt + (d.imd.dues + 1) * proofPeriod) ∧
    (proofDue d).get pgIMD IMD.PROOF_STAT.DEFER = 1 := by
  have hcond : (d.imd.started && decide (d.imd.startAt + (d.imd.dues + 1) * proofPeriod ≤ d.tim.mot)) = true := by simp [hs, hdue]
  unfold proofDue
  simp only [hcond, hon, if_true]
  exact ⟨rfl, rfl, fun hw => if_pos hw, Dev.get_put_same ..⟩

/-- What the start of a proof leaves: its lane excluded, one proof fewer waiting, the registers and the event. -/
structure ProofBegun (k : Nat) (d t : Dev) : Prop where
  lane : laneSt t k = .proof
  waiting : t.imd.waiting = d.imd.waiting - 1
  active : t.get pgIMD IMD.PROOF_STAT.ACTIVE = 1
  next : t.get pgIMD IMD.PROOF_STAT.NEXT = (k + 1) % 3
  raised : t.raised pgIMD Ev.IMD.PROOFST = true

theorem proofBegin_begun (d : Dev) (k : Fin 3) (hk : d.get pgIMD IMD.PROOF_STAT.NEXT = k.val) : ProofBegun k.val d (proofBegin d) := by
  unfold proofBegin
  simp only [hk]
  refine ⟨laneSt_setLane_same k.val .proof _ k.isLt, rfl, ?_, ?_, Dev.raised_ev_same _ _ _ (by decide)⟩
  · rw [Dev.get_ev_ne _ _ _ _ _ (by decide), get_setLane_ne _ _ _ _ _ (by decide), Dev.get_put_ne _ _ _ _ _ _ (by decide)]
    exact Dev.get_put_same ..
  · rw [Dev.get_ev_ne _ _ _ _ _ (by decide), get_setLane_ne _ _ _ _ _ (by decide), Dev.get_put_same]
    exact Nat.mod_eq_of_lt (by show _ < 4; omega)

/-- The start of a proof keeps the events that stand. -/
theorem raised_proofBegin_keep (d : Dev) (q n : Nat) (hn : n < 32) (h : d.raised q n = true) : (proofBegin d).raised q n = true := by
  unfold proofBegin
  simp only
  refine Dev.raised_ev_keep _ _ _ _ _ hn ?_
  rw [raised_setLane, Dev.raised_put_place _ _ _ _ _ _ (by decide), Dev.putB_eq, Dev.raised_put_place _ _ _ _ _ _ (by decide),
    Dev.putB_eq, Dev.raised_put_place _ _ _ _ _ _ (by decide)]
  exact h

section
variable {d : Dev} (hw : 0 < d.imd.waiting) (hlanes : proofLanes d = true)
include hw hlanes

theorem proofStart_quiet (hl : d.imd.late = false) (hq : proofQuiet d = true) : proofStart d = proofBegin d := by
  unfold proofStart
  simp [hw, hl, hlanes, hq]

theorem prooflate_due (hq : proofQuiet d = false)
    (hat : d.imd.dueAt + msMot (60000 * d.get pgIMD IMD.PROOF_CFG.DEFMAX) ≤ d.tim.mot) :
    prooflate d = (proofBegin (d.ev pgIMD Ev.IMD.PROOFLATE)).raise pgIMD Cz.IMD.PROOFLATE 0xFF := by
  unfold prooflate
  simp [hw, hlanes, hq, hat]

end

/-- A cause of class C0 goes to the information log (R370). -/
theorem Dev.raise_info (pg : Nat) (c : Cause) (inst : Nat) (d : Dev) (hc : c.cls = 0) :
    (d.raise pg c inst).get pgFLT FLT.INFO.ENTRY = entryVal 0 pg inst c.code := by
  unfold Dev.raise Dev.report
  rw [hc]
  simp only [Nat.zero_mod, if_true]
  rw [Dev.get_ev_ne _ _ _ _ _ (by decide), Dev.inc_eq, Dev.get_put_ne _ _ _ _ _ _ (by decide), Dev.get_put_same]
  refine Nat.mod_eq_of_lt (show _ < 2 ^ 32 from ?_)
  unfold entryVal
  omega

theorem prooflate_spec {d : Dev} (k : Fin 3) (hk : d.get pgIMD IMD.PROOF_STAT.NEXT = k.val) (hw : 0 < d.imd.waiting)
    (hlanes : proofLanes d = true) (hq : proofQuiet d = false)
    (hat : d.imd.dueAt + msMot (60000 * d.get pgIMD IMD.PROOF_CFG.DEFMAX) ≤ d.tim.mot) :
    laneSt (prooflate d) k.val = .proof ∧ (prooflate d).raised pgIMD Ev.IMD.PROOFLATE = true ∧
    (prooflate d).get pgFLT FLT.INFO.ENTRY = entryVal 0 pgIMD 0xFF Cz.IMD.PROOFLATE.code := by
  have hnext : (d.ev pgIMD Ev.IMD.PROOFLATE).get pgIMD IMD.PROOF_STAT.NEXT = k.val :=
    (Dev.get_ev_ne _ _ _ _ _ (by decide)).trans hk
  rw [prooflate_due hw hlanes hq hat]
  refine ⟨?_, (keepsRaised _ _ (by decide)).raise _ _ _ _ (raised_proofBegin_keep _ _ _ (by decide) ?_), Dev.raise_info _ _ _ _ rfl⟩
  · rw [laneSt_eq, Dev.imd_raise]
    exact (proofBegin_begun _ k hnext).lane
  · exact Dev.raised_ev_same _ _ _ (by decide)

/-! BIST_END (R352). -/

/-- The record of a lane's self-test: its time, its result, when it took place. -/
def bistTaken (pass : Bool) (us i : Nat) (d : Dev) : Dev :=
  ((d.put pgIMD IMD.PROOF_T.BISTT us).put pgIMD IMD.PROOF_STAT.PASS (setBit (d.get pgIMD IMD.PROOF_STAT.PASS) i pass)).modImd
    fun m => { m with provedAt := vmod m.provedAt i fun _ => d.tim.mot }

theorem bistTaken_spec (k : Fin 3) (pass : Bool) (us : W16) (d : Dev) :
    bit ((bistTaken pass us.toNat k.val d).get pgIMD IMD.PROOF_STAT.PASS) k.val = pass ∧
    (bistTaken pass us.toNat k.val d).get pgIMD IMD.PROOF_T.BISTT = us.toNat := by
  unfold bistTaken
  rw [Dev.get_modImd, Dev.get_modImd]
  constructor
  · rw [Dev.get_put_same, bit_mod _ _ _ (show k.val < IMD.PROOF_STAT.PASS.w from k.isLt), bit_setBit, if_pos rfl]
  · rw [Dev.get_put_ne _ _ _ _ _ _ (by decide), Dev.get_put_same]
    exact Nat.mod_eq_of_lt us.isLt

section
variable {d : Dev} {i : Nat} (us : Nat) (h : (List.range 3).find? (fun i => laneSt d i == .proof) = some i)
include h

theorem bistEnd_pass : bistEnd true us d =
    setLane i .resync ((bistTaken true us i d).modImd fun m => { m with afterProof := true, crcRetry := false }) := by
  unfold bistEnd
  rw [h]
  simp only [Dev.get_put_ne pgIMD pgIMD IMD.PROOF_T.BISTT IMD.PROOF_STAT.PASS us d (by decide)]
  rfl

theorem bistEnd_fail : bistEnd false us d = proofEnded (laneOut i Cz.IMD.PROOFFAIL (bistTaken false us i d)) := by
  unfold bistEnd
  rw [h]
  simp only [Dev.get_put_ne pgIMD pgIMD IMD.PROOF_T.BISTT IMD.PROOF_STAT.PASS us d (by decide)]
  rfl

end

/-- What the end of a lane's self-test leaves. -/
theorem bistEnd_spec (d : Dev) (k : Fin 3) (us : W16) (h : (List.range 3).find? (fun i => laneSt d i == .proof) = some k.val) :
    (laneSt (bistEnd true us.toNat d) k.val = .resync ∧ (bistEnd true us.toNat d).imd.afterProof = true ∧
      bit ((bistEnd true us.toNat d).get pgIMD IMD.PROOF_STAT.PASS) k.val = true ∧
      (bistEnd true us.toNat d).get pgIMD IMD.PROOF_T.BISTT = us.toNat) ∧
    (laneSt (bistEnd false us.toNat d) k.val = .out ∧ (bistEnd false us.toNat d).get pgIMD IMD.PROOF_STAT.ACTIVE = 0) := by
  constructor
  · obtain ⟨hpass, htime⟩ := bistTaken_spec k true us d
    rw [bistEnd_pass _ h, get_setLane_ne _ _ _ _ _ (by decide), get_setLane_ne _ _ _ _ _ (by decide), Dev.get_modImd, Dev.get_modImd]
    exact ⟨laneSt_setLane_same _ _ _ k.isLt, rfl, hpass, htime⟩
  · rw [bistEnd_fail _ h, laneSt_eq, (proofEndKept_proofEnded _).lane]
    exact ⟨(laneOut_spec _ _ _ k.isLt).1, proofEnded_active _⟩

/-! The commands. -/

/-- A command of a program-cycle boundary that is due. -/
theorem doDev_live_cycle (f : Dev → Dev) (s : State) (halive : s.dev.alive = true) (hdue : s.dev.tim.cycleDue = true) :
    doDev (Dev.live (Dev.when_ (·.tim.cycleDue) f)) s = .next (s.onDev f) := by
  rw [doDev_live _ s halive]
  unfold State.onDev Dev.when_
  rw [if_pos hdue]

/-- Settles O23: each end of a transfer, each due time, each start of a proof and each end of a self-test by what it leaves. -/
theorem resyncAndProof : Obligations.ResyncAndProof := by
  unfold Obligations.ResyncAndProof
  intro s k t10 halive
  refine ⟨fun h => ?_, fun hs hdue hon => ?_, fun hcyc hl hw hlanes hk => ⟨fun hq => ?_, fun hq hat => ?_⟩, fun h => ?_⟩
  · obtain ⟨⟨hrun, hresync, hlast⟩, hretry, hout⟩ := resyncTransfer_spec s.dev k t10 h
    refine ⟨⟨_, doDev_live _ s halive, hrun, hresync, hlast, rfl⟩, fun hr => ?_, fun hr => ?_⟩
    · obtain ⟨hagain, hlane⟩ := hretry hr
      exact ⟨_, doDev_live _ s halive, hagain, hlane, rfl⟩
    · obtain ⟨hlane, hduplex⟩ := hout hr
      exact ⟨_, doDev_live _ s halive, hlane, hduplex, rfl⟩
  · obtain ⟨hwaiting, hdues, hat, hdefer⟩ := proofDue_spec s.dev hs hdue hon
    exact ⟨_, doDev_live _ s halive, hwaiting, hdues, hat, hdefer, rfl⟩
  · have hbegun := proofBegin_begun s.dev k hk
    rw [← proofStart_quiet hw hlanes hl hq] at hbegun
    exact ⟨_, doDev_live_cycle _ s halive hcyc, hbegun.lane, hbegun.waiting, hbegun.active, hbegun.next, hbegun.raised, rfl⟩
  · obtain ⟨hlane, hraised, hentry⟩ := prooflate_spec k hk hw hlanes hq hat
    exact ⟨_, doDev_live_cycle _ s halive hcyc, hlane, hraised, hentry, rfl⟩
  · obtain ⟨⟨hlane, hafter, hpass, htime⟩, hout, hactive⟩ := bistEnd_spec s.dev k t10 h
    exact ⟨⟨_, doDev_live _ s halive, hlane, hafter, hpass, htime, rfl⟩, ⟨_, doDev_live _ s halive, hout, hactive, rfl⟩⟩

end Sys2Proof.Machine
end

section
/-! PROOFS. The Service pair (R357 to R362): its faults, its watchdog, its restart, and the writes of its registers. -/

namespace Sys2Proof.Machine

/-! What a fault leaves of the registers and of a page's conditions. -/

/-- A register that no report writes reads the same after a fault. -/
theorem Dev.get_fault_ne (pg : Nat) (c : Cause) (inst q : Nat) (g : Fld) (d : Dev) (h : g.key q ∉ reportKeys) :
    (d.fault pg c inst).get q g = d.get q g :=
  (keepsReg q g _ h).fault (fun _ _ k => k) pg c inst d rfl

/-- The condition of a class C2 fault of a page stands on it. -/
theorem Dev.hasC2_fault (pg : Nat) (c : Cause) (inst : Nat) (d : Dev) (hc : c.cls = 2) : (d.fault pg c inst).hasC2 pg = true := by
  have h := Dev.fault_c2 pg c inst d hc
  unfold Dev.hasC2
  rw [List.any_eq_true] at h ⊢
  obtain ⟨x, hx, heq⟩ := h
  rw [beq_iff_eq] at heq
  exact ⟨x, hx, by rw [heq]; exact beq_self_eq_true pg⟩

theorem splitMode_of_get {d t : Dev} (h : t.get pgSVC SVC.SVC_MODE.SPLIT = d.get pgSVC SVC.SVC_MODE.SPLIT) :
    splitMode t = splitMode d := by
  unfold splitMode Dev.on
  rw [h]

/-! The restart of the pair in lockstep (R358, R359). -/

@[simp] theorem Dev.c2_ev (p n : Nat) (d : Dev) : (d.ev p n).c2 = d.c2 := rfl
@[simp] theorem svc_endSessions (d : Dev) : (endSessions d).svc = d.svc := rfl
@[simp] theorem sess_endSessions (d : Dev) : (endSessions d).net.nel.sess = [] := rfl
@[simp] theorem c2_endSessions (d : Dev) : (endSessions d).c2 = d.c2 := rfl
@[simp] theorem get_endSessions (d : Dev) (q : Nat) (g : Fld) : (endSessions d).get q g = d.get q g := rfl
@[simp] theorem raised_endSessions (d : Dev) (q n : Nat) : (endSessions d).raised q n = d.raised q n := rfl

/-- What a restart of the pair in lockstep leaves: both cores stopped, no Neltan session, the event and its cause. -/
structure PairStopped (code : Nat) (t : Dev) : Prop where
  up0 : t.svc.up0 = false
  up1 : t.svc.up1 = false
  sess : t.net.nel.sess = []
  raised : t.raised pgSVC Ev.SVC.RESTART = true
  cause : t.get pgSVC SVC.SVC_STAT.LASTCAUSE = code

/-- The pair's state after a restart of both cores. -/
def SvcX.stopped (x : SvcX) : SvcX :=
  { x with up0 := false, up1 := false, halted := false, replay := [], core := vmod (vmod x.core 0 fun _ => {}) 1 fun _ => {} }

theorem svcRestart_lockstep (code core : Nat) (d : Dev) (h : splitMode d = false) : svcRestart code core d =
    endSessions ((((((d.put pgSVC SVC.SVC_STAT.RST0 (satInc SVC.SVC_STAT.RST0.w (d.get pgSVC SVC.SVC_STAT.RST0))).put
      pgSVC SVC.SVC_STAT.LASTCAUSE code).modSvc SvcX.stopped).put pgSVC SVC.SVC_DBG.HALTED 0).put pgSVC SVC.SVC_DBG.FULL 0).put
        pgSVC SVC.SVC_DBG.REPLAY 0 |>.ev pgSVC Ev.SVC.RESTART) := by
  unfold svcRestart
  simp only [h, Bool.false_and, Bool.not_false, Bool.true_or, Bool.and_false, Bool.not_true]
  rfl

/-- A restart of the pair stops both cores and keeps the events and the conditions that stand. -/
theorem svcRestart_spec (code core : Nat) (d : Dev) (h : splitMode d = false) (hcode : code < 256) :
    PairStopped code (svcRestart code core d) ∧ (svcRestart code core d).c2 = d.c2 ∧
    ∀ q n, n < 32 → d.raised q n = true → (svcRestart code core d).raised q n = true := by
  rw [svcRestart_lockstep code core d h]
  refine ⟨⟨by simp [SvcX.stopped], by simp [SvcX.stopped], sess_endSessions _, ?_, ?_⟩, by simp, fun q n hn hr => ?_⟩
  · rw [raised_endSessions]
    exact Dev.raised_ev_same _ _ _ (by decide)
  · rw [get_endSessions, Dev.get_ev_ne _ _ _ _ _ (by decide), Dev.get_put_ne _ _ _ _ _ _ (by decide),
      Dev.get_put_ne _ _ _ _ _ _ (by decide), Dev.get_put_ne _ _ _ _ _ _ (by decide), Dev.get_modSvc, Dev.get_put_same]
    exact Nat.mod_eq_of_lt hcode
  · rw [raised_endSessions]
    refine Dev.raised_ev_keep _ _ _ _ _ hn ?_
    rw [Dev.raised_put_place _ _ _ _ _ _ (by decide), Dev.raised_put_place _ _ _ _ _ _ (by decide),
      Dev.raised_put_place _ _ _ _ _ _ (by decide), Dev.raised_modSvc, Dev.raised_put_place _ _ _ _ _ _ (by decide),
      Dev.raised_put_place _ _ _ _ _ _ (by decide)]
    exact hr

/-- A fault of the pair in lockstep (R358). -/
theorem svcFault_spec (c : Cause) (core : Nat) (d : Dev) (h : splitMode d = false) (hcls : c.cls = 2) (hcode : c.code < 256) :
    PairStopped c.code (svcFault c core d) ∧ (svcFault c core d).hasC2 pgSVC = true ∧
    ∀ q n, n < 32 → d.raised q n = true → (svcFault c core d).raised q n = true := by
  unfold svcFault
  rw [h, if_neg Bool.false_ne_true]
  have hsplit : splitMode (d.fault pgSVC c 0xFF) = false :=
    (splitMode_of_get (Dev.get_fault_ne _ _ _ _ _ _ (by decide))).trans h
  obtain ⟨hstop, hc2, hkeep⟩ := svcRestart_spec c.code core _ hsplit hcode
  refine ⟨hstop, ?_, fun q n hn hr => hkeep q n hn ?_⟩
  · unfold Dev.hasC2
    rw [hc2]
    exact Dev.hasC2_fault pgSVC c 0xFF d hcls
  · exact (keepsRaised q n hn).fault (fun _ _ k => k) _ _ _ _ hr

/-- Transactions of the two cores that differ at the comparator (R357). -/
theorem servicePairFault_mismatch (p0 p1 : LanePres) (core : Nat) (d : Dev) (hs : splitMode d = false) (hup : d.svc.up0 = true)
    (hne : p0 ≠ p1) : servicePairFault (.mismatch p0 p1) core d = svcFault Cz.SVC.SPMIS core d := by
  unfold servicePairFault svcUp svcDetects
  simp [hs, hup, hne, svcCauseOf]

/-- The watchdog's time has passed without a kick (R361). -/
theorem serviceWatchdog_late (d : Dev) (hup : d.svc.up0 = true) (hon : d.on pgSVC SVC.SVC_WDOG.EN0 = true) (hrun : d.svc.halted = false)
    (hat : d.svc.kick0 + msMot (d.get pgSVC SVC.SVC_WDOG.TIMEOUT) ≤ d.tim.mot) :
    serviceWatchdog 0 d = svcFault Cz.SVC.SVCWDOG 0 (d.ev pgSVC Ev.SVC.WDOG) := by
  unfold serviceWatchdog svcUp
  simp [hup, hon, hrun, hat]

theorem serviceWatchdog_spec (d : Dev) (hs : splitMode d = false) (hup : d.svc.up0 = true) (hon : d.on pgSVC SVC.SVC_WDOG.EN0 = true)
    (hrun : d.svc.halted = false) (hat : d.svc.kick0 + msMot (d.get pgSVC SVC.SVC_WDOG.TIMEOUT) ≤ d.tim.mot) :
    PairStopped Cz.SVC.SVCWDOG.code (serviceWatchdog 0 d) ∧ (serviceWatchdog 0 d).raised pgSVC Ev.SVC.WDOG = true := by
  rw [serviceWatchdog_late d hup hon hrun hat]
  have hsplit : splitMode (d.ev pgSVC Ev.SVC.WDOG) = false := (splitMode_of_get (Dev.get_ev_ne _ _ _ _ _ (by decide))).trans hs
  obtain ⟨hstop, -, hkeep⟩ := svcFault_spec Cz.SVC.SVCWDOG 0 _ hsplit rfl (by decide)
  exact ⟨hstop, hkeep _ _ (by decide) (Dev.raised_ev_same _ _ _ (by decide))⟩

/-- Clearing the conditions of a page leaves none. -/
theorem Dev.hasC2_c2clr (pg : Nat) (d : Dev) : (d.c2clr pg).hasC2 pg = false := by
  unfold Dev.hasC2 Dev.c2clr
  rw [List.any_eq_false]
  intro x hx
  simpa using (List.mem_filter.mp hx).2

/-- The firmware of a pair that was stopped runs again (R358). -/
theorem servicePairRestartDone_spec (d : Dev) (hup : d.svc.up0 = false) (hheld : d.imd.held = false) :
    (servicePairRestartDone d).svc.up0 = true ∧ (servicePairRestartDone d).svc.up1 = true ∧
    (servicePairRestartDone d).hasC2 pgSVC = false ∧ (servicePairRestartDone d).svc.kick0 = d.tim.mot := by
  unfold servicePairRestartDone
  simp only [hup, hheld, Bool.false_and, Bool.or_self, Bool.false_eq_true, if_false]
  exact ⟨rfl, rfl, Dev.hasC2_c2clr _ _, rfl⟩

/-! `SVC_KICK` and `DTSET_CTRL` (R361, R362). -/

/-- A register of the SVC page of write-only fields, taken from a source of the management plane that may write. -/
theorem wr_svc (src : Src) (f : Fld) (v : Nat) (s : State) (l : List Fld) (hsrc : srcMgmt src = true) (hlc : s.dev.otp.lc ≠ 3)
    (hs : srcMay s.dev src true (regAddr pgSVC f.off) = true) (hf : f.off = SVC.SVC_KICK.KICK0.off ∨ f.off = SVC.DTSET_CTRL.SET.off)
    (hnet : f.off = SVC.DTSET_CTRL.SET.off → s.dev.part.hasNet = false)
    (h1 : ((hdrWo ++ unitFields .svc).filter fun g => g.off == f.off && g.acc != .ro) = l)
    (hw : ∀ g ∈ l, g.acc = .wo ∧ g.off = f.off) (hne : l ≠ []) :
    wr src pgSVC f v s = regEffect src pgSVC .svc f.off (takenBits l (v % 2 ^ 32)) s := by
  have hoff : f.off = 0x04C ∨ f.off = 0x058 := hf
  have hlock : pageLocked s.dev .svc src f.off = false := by
    rcases hf with h | h
    · simp [pageLocked, Unit_.safety, Unit_.plane, hostReads, srcRt, hsrc, hlc, h, SVC.SVC_KICK.KICK0, fld]
    · simp [pageLocked, Unit_.safety, Unit_.plane, hostReads, srcRt, hsrc, hlc, hnet h]
  refine wr_wo src pgSVC f v s .svc l (by decide) (by omega) (by omega) rfl rfl hs hlock h1 (fun g hg => ?_) (by omega)
    (fun g hg => (hw g hg).1) (fun g hg => ?_) hne ?_ ?_
  · rcases hoff with h | h <;> simp [fieldGone, (hw g hg).2, h, SVC.SVC_WDOG.EN1, SVC.IRQROUTE.DEV, SVC.DTRATE.PPB, Fld.rngS, fld]
  · simp [fieldMay, (hw g hg).1, Unit_.plane]
  · simp [roRefused, Unit_.plane]
  · rcases hoff with h | h <;> simp [h, SVC.SVC_WDOG.EN0, fld]

/-- A write that the page bars to its source is refused: WLOCK (R58). -/
theorem wr_pageLocked (src : Src) (pg : Nat) (f : Fld) (v : Nat) (s : State) (u : Unit_) (hp : pg < 256) (ho : f.off < 4096)
    (h4 : f.off % 4 = 0) (hu : unitOf pg = some u) (hh : s.dev.part.has u = true)
    (hs : srcMay s.dev src true (regAddr pg f.off) = true) (hlock : pageLocked s.dev u src f.off = true) :
    wr src pg f v s = s.onDev (refuse Ev.SYS.WLOCK false pg (f.off / 4)) := by
  unfold wr busWrite
  rw [hs, regionOf_reg _ _ hp ho]
  simp only [pageCheck_ok pg f.off s.dev u hp ho h4 hu hh, regAddr_page pg f.off hp ho, regAddr_off pg f.off ho]
  unfold regWrite
  simp only [hlock, if_true]
  rfl

theorem exec_svcKick (src : Src) (m : BitVec 2) (s : State) :
    exec (.svcKick src m) s = .next (wr src pgSVC SVC.SVC_KICK.KICK0 m.toNat s) := rfl

theorem exec_dtsetCtrlSet (src : Src) (s : State) :
    exec (.dtsetCtrlSet src) s = .next (wr src pgSVC SVC.DTSET_CTRL.SET 1 s) := rfl

/-- KICK0 written by a source of the management plane that may write (R361). -/
theorem wr_svcKick0 (src : Src) (s : State) (hsrc : srcMgmt src = true) (hlc : s.dev.otp.lc ≠ 3)
    (hs : srcMay s.dev src true (regAddr pgSVC SVC.SVC_KICK.KICK0.off) = true) :
    wr src pgSVC SVC.SVC_KICK.KICK0 1 s = s.onDev (svcKickWrite src 1) :=
  wr_svc src SVC.SVC_KICK.KICK0 1 s [SVC.SVC_KICK.KICK1, SVC.SVC_KICK.KICK0] hsrc hlc hs (.inl rfl) (fun h => absurd h (by decide)) rfl
    (by decide) (by decide)

/-- A core's own kick restarts the time of its watchdog, no other source's does. -/
theorem svcKickWrite_kick0 (src : Src) (d : Dev) : svcKickWrite src 1 d =
    d.modSvc fun x => { x with kick0 := if src == .svc0 then d.tim.mot else x.kick0 } := by
  have h0 : bit 1 0 = true := by decide
  have h1 : bit 1 1 = false := by decide
  unfold svcKickWrite
  simp only [h0, h1, Bool.true_and, Bool.and_false, Bool.false_and]
  rfl

theorem srcMay_svc0 (d : Dev) (a : Nat) (halive : d.alive = true) (hup : d.svc.up0 = true) (hrun : d.svc.halted = false)
    (hhold : d.boot.hold = false) (hlc : d.otp.lc ≠ 3) : srcMay d .svc0 true a = true := by
  unfold Dev.alive at halive
  simp only [Bool.and_eq_true, Bool.not_eq_true'] at halive
  obtain ⟨hboot, hbk⟩ := halive
  unfold srcMay
  simp [hboot, hbk, hup, hrun, hhold, hlc]

/-- A kick by the core (R361). -/
theorem svcKick_core (s : State) (halive : s.dev.alive = true) (hup : s.dev.svc.up0 = true) (hrun : s.dev.svc.halted = false)
    (hhold : s.dev.boot.hold = false) (hlc : s.dev.otp.lc ≠ 3) :
    ∃ t, exec (.svcKick .svc0 1) s = .next t ∧ t.dev.svc.kick0 = s.dev.tim.mot ∧ t.dev.svc.kick1 = s.dev.svc.kick1 ∧
      t.dev.act = s.dev.act ∧ t.mem = s.mem := by
  rw [exec_svcKick, show (1 : BitVec 2).toNat = 1 from rfl,
    wr_svcKick0 .svc0 s rfl hlc (srcMay_svc0 _ _ halive hup hrun hhold hlc)]
  refine ⟨_, rfl, ?_⟩
  rw [State.onDev_dev, svcKickWrite_kick0]
  exact ⟨rfl, rfl, rfl, rfl⟩

section
variable {s : State} (hhost : s.dev.hostActs = true)
include hhost

theorem lc_ne_of_hostActs : s.dev.otp.lc ≠ 3 := by
  simp only [Dev.hostActs, Bool.and_eq_true, bne_iff_ne] at hhost
  exact hhost.2

/-- A kick by the host does nothing to the pair (R361). -/
theorem svcKick_host : ∃ t, exec (.svcKick .host 1) s = .next t ∧ t.dev.svc = s.dev.svc ∧ t.mem = s.mem := by
  rw [exec_svcKick, show (1 : BitVec 2).toNat = 1 from rfl,
    wr_svcKick0 .host s rfl (lc_ne_of_hostActs hhost) (srcMay_host _ _ _ hhost)]
  refine ⟨_, rfl, ?_⟩
  rw [State.onDev_dev, svcKickWrite_kick0]
  exact ⟨rfl, rfl⟩

/-- Without the network `DTSET_CTRL.SET` arms the value of DTSET (R362). -/
theorem dtsetCtrlSet_arms (hnet : s.dev.part.hasNet = false) : ∃ t, exec (.dtsetCtrlSet .host) s = .next t ∧
    t.dev.svc.dtArm = some (s.dev.get pgSVC SVC.DTSET_LO.DT_LO + 4294967296 * s.dev.get pgSVC SVC.DTSET_HI.DT_HI) ∧ t.mem = s.mem := by
  rw [exec_dtsetCtrlSet, wr_svc .host SVC.DTSET_CTRL.SET 1 s [SVC.DTSET_CTRL.SET] rfl (lc_ne_of_hostActs hhost)
    (srcMay_host _ _ _ hhost) (.inr rfl) (fun _ => hnet) rfl (by decide) (by decide)]
  refine ⟨s.onDev (dtsetArm 1), rfl, ?_⟩
  rw [State.onDev_dev, dtsetArm, hnet]
  exact ⟨rfl, rfl⟩

/-- With the network the register is barred (R362). -/
theorem dtsetCtrlSet_barred (hnet : s.dev.part.hasNet = true) : ∃ t, exec (.dtsetCtrlSet .host) s = .next t ∧
    t.dev.svc = s.dev.svc ∧ t.dev.raised pgSYS Ev.SYS.WLOCK = true ∧ t.mem = s.mem := by
  have hlock : pageLocked s.dev .svc .host SVC.DTSET_CTRL.SET.off = true := by
    simp [pageLocked, hnet, SVC.DTSET_CTRL.SET, fld]
  rw [exec_dtsetCtrlSet, wr_pageLocked .host pgSVC SVC.DTSET_CTRL.SET 1 s .svc (by decide) (by decide) (by decide) rfl rfl
    (srcMay_host _ _ _ hhost) hlock]
  exact ⟨_, rfl, rfl, (refuse_refusedAs _ _ _ _ _ (by decide) (by decide) (by decide)).raised, rfl⟩

end

end Sys2Proof.Machine
end

section
/-! PROOFS. Debug and replay (R354, R363 to R366): the halts, a debugger's write to a general register of C0, the resume. -/

namespace Sys2Proof.Machine

/-! Halts (R354, R364, R366). -/

section
variable {d : Dev} (hopen : openLife d = true)
include hopen

/-- Outside a proof a halt of the triplet takes effect. -/
theorem tripletDebugHalt_now (hrun : d.imd.halted = false) (hproof : proofRuns d = false) : tripletDebugHalt d = debugHaltNow d := by
  unfold tripletDebugHalt
  simp [hopen, hrun, hproof]

/-- During a proof it waits for the proof's end. -/
theorem tripletDebugHalt_waits (hrun : d.imd.halted = false) (hproof : proofRuns d = true) :
    tripletDebugHalt d = d.modImd fun m => { m with haltReq := true } := by
  unfold tripletDebugHalt
  rw [if_pos (by simp [hopen, hrun]), if_pos hproof]
  rfl

theorem serviceDebugHalt_open (hrun : d.svc.halted = false) (hup : d.svc.up0 = true) : serviceDebugHalt d =
    ((d.modSvc fun x => { x with halted := true, haltAt := d.tim.mot }).put pgSVC SVC.SVC_DBG.HALTED 1).ev pgSVC Ev.SVC.DBGHALT := by
  unfold serviceDebugHalt
  rw [if_pos (by simp [hopen, hrun, hup])]
  rfl

end

theorem debugHaltNow_spec (d : Dev) : (debugHaltNow d).imd.halted = true ∧ (debugHaltNow d).get pgIMD IMD.DBG.HALTED = 1 ∧
    (debugHaltNow d).raised pgIMD Ev.IMD.DBGHALT = true := by
  rw [debugHaltNow_eq]
  refine ⟨congrArg ImdX.halted (Dev.imd_raise ..), ?_, ?_⟩
  · rw [Dev.get_raise_ne _ _ _ _ _ _ (by decide), Dev.get_ev_ne _ _ _ _ _ (by decide)]
    exact Dev.get_put_same ..
  · exact (keepsRaised _ _ (by decide)).raise _ _ _ _ (Dev.raised_ev_same _ _ _ (by decide))

theorem serviceDebugHalt_spec (d : Dev) (hopen : openLife d = true) (hrun : d.svc.halted = false) (hup : d.svc.up0 = true) :
    (serviceDebugHalt d).svc.halted = true ∧ (serviceDebugHalt d).get pgSVC SVC.SVC_DBG.HALTED = 1 ∧
    (serviceDebugHalt d).raised pgSVC Ev.SVC.DBGHALT = true := by
  rw [serviceDebugHalt_open hopen hrun hup, Dev.get_ev_ne _ _ _ _ _ (by decide)]
  exact ⟨rfl, Dev.get_put_same .., Dev.raised_ev_same _ _ _ (by decide)⟩

/-! The replay log of the triplet (R365). -/

/-- The entry that a debugger's write to general register `r` of C0 makes. -/
def generalEnt (d : Dev) (r v : Nat) : ReplayEnt := { at_ := (vget d.imd.core 0 {}).retire, kind := 0, idx := r, val := v }

section
variable {d : Dev} (r v : Nat)

/-- A log with room takes the write, which C0 applies. -/
theorem debugLocal_general (h : d.imd.replay.length < 256) : ∃ n full, debugLocal false 0 r v d =
    ((d.modImd fun m => { m with core := vmod m.core 0 (CoreX.apply (generalEnt d r v)), replay := m.replay ++ [generalEnt d r v] }).put
      pgIMD IMD.DBG.REPLAY n).put pgIMD IMD.DBG.FULL full := by
  unfold debugLocal
  rw [if_neg Bool.false_ne_true]
  simp only [if_neg (Nat.not_le.mpr h)]
  exact ⟨_, _, rfl⟩

/-- A full log refuses it. -/
theorem debugLocal_full (h : 256 ≤ d.imd.replay.length) : debugLocal false 0 r v d = d.put pgIMD IMD.DBG.FULL 1 := by
  unfold debugLocal
  rw [if_neg Bool.false_ne_true]
  simp only [if_pos h]
  rfl

/-- A write to a general register stands in it. -/
theorem CoreX.apply_general (at_ : Nat) (c : CoreX) (hr : r < 32) :
    vget (c.apply { at_ := at_, kind := 0, idx := r, val := v }).g r 0 = v := vget_vmod_same _ _ _ _ hr

/-- What a logged write to a general register leaves: C0 holds it, the log is longer by one, C1 is as it was. -/
theorem debugLocal_general_spec (hr : r < 32) (h : d.imd.replay.length < 256) :
    vget (vget (debugLocal false 0 r v d).imd.core 0 {}).g r 0 = v ∧
    (debugLocal false 0 r v d).imd.replay.length = d.imd.replay.length + 1 ∧
    vget (debugLocal false 0 r v d).imd.core 1 {} = vget d.imd.core 1 {} := by
  obtain ⟨n, full, heq⟩ := debugLocal_general r v h
  simp only [heq, Dev.put_imd, Dev.imd_modImd, List.length_append, List.length_singleton, true_and]
  refine ⟨?_, vget_vmod_ne _ _ _ _ _ (by decide)⟩
  rw [vget_vmod_same _ _ _ _ (by decide)]
  exact CoreX.apply_general r v _ _ hr

end

/-! The resume (R364, R365). -/

/-- A debugger's value retires no instruction. -/
theorem CoreX.retire_apply (e : ReplayEnt) (c : CoreX) : (c.apply e).retire = c.retire := by
  unfold CoreX.apply
  simp only
  split
  · rfl
  · split <;> rfl

theorem retire_replayAll (l : List ReplayEnt) (c : CoreX) : (replayAll l c).retire = c.retire := by
  unfold replayAll
  induction l generalizing c with
  | nil => rfl
  | cons e l ih => rw [List.foldl_cons, ih, CoreX.retire_apply]

theorem vget_map {α β : Type} {n : Nat} (v : Vector α n) (f : α → β) (i : Nat) (x : α) (y : β) (h : i < n) :
    vget (v.map f) i y = f (vget v i x) := by
  simp [vget, h]

/-- What a lane's core does with the log at a resume: a lane in RUN applies it. -/
def takesLog (d : Dev) (i : Nat) (c : CoreX) : CoreX := if laneSt d i == .run then replayAll d.imd.replay c else c

theorem retire_takesLog (d : Dev) (i : Nat) (c : CoreX) : (takesLog d i c).retire = c.retire := by
  unfold takesLog
  split
  · exact retire_replayAll _ c
  · rfl

/-- A resume of the halted triplet, or a step after which it is halted again. -/
theorem debugResume_triplet (n : Nat) (step : Bool) (d : Dev) (h : d.imd.halted = true) : debugResume false n step d =
    (((d.modImd fun m => { m with
        core := (vmod (vmod m.core 1 (takesLog d 1)) 2 (takesLog d 2)).map (CoreX.retires n), replay := [], halted := step }).put
      pgIMD IMD.DBG.REPLAY 0).put pgIMD IMD.DBG.FULL 0).put pgIMD IMD.DBG.HALTED (b2n step) := by
  unfold debugResume
  rw [if_neg Bool.false_ne_true, if_pos h]
  rfl

theorem debugResume_spec (n : Nat) (step : Bool) (d : Dev) (h : d.imd.halted = true) :
    (debugResume false n step d).imd.halted = step ∧ (debugResume false n step d).imd.replay = [] ∧
    (vget (debugResume false n step d).imd.core 2 {}).retire = (vget d.imd.core 2 {}).retire + n ∧
    (debugResume false n step d).get pgIMD IMD.DBG.REPLAY = 0 := by
  rw [debugResume_triplet n step d h]
  refine ⟨rfl, rfl, ?_, ?_⟩
  · simp only [Dev.put_imd, Dev.imd_modImd]
    rw [vget_map _ _ _ {} _ (by decide), CoreX.retires, vget_vmod_same _ _ _ _ (by decide), retire_takesLog,
      vget_vmod_ne _ _ _ _ _ (by decide)]
  · rw [Dev.get_put_ne _ _ _ _ _ _ (by decide), Dev.get_put_ne _ _ _ _ _ _ (by decide)]
    exact Dev.get_put_same ..

/-! The commands. -/

/-- A debugger's write to a general register of C0, which acts on a halted triplet alone. -/
theorem exec_debuggerWrite_general (r : Fin 32) (v : W32) (s : State) (halive : s.dev.alive = true) :
    exec (.debuggerWrite false (.general r) v) s =
      .next (if s.dev.imd.halted then s.onDev (debugLocal false 0 r.val v.toNat) else s) := by
  refine (doState_live _ s halive).trans ?_
  unfold debuggerWrite
  cases s.dev.imd.halted <;> rfl

/-- Settles O24: the faults, the restart and the writes of the Service pair; the halts, the logged writes and the resume of debug. -/
theorem servicePairAndDebug : Obligations.ServicePairAndDebug := by
  unfold Obligations.ServicePairAndDebug
  refine ⟨fun s core p0 p1 halive => ⟨fun hs hup => ⟨fun hne => ?_, fun hon hrun hat => ?_⟩, fun hup hheld => ?_,
      svcKick_core s halive,
      fun hhost => ⟨svcKick_host hhost, dtsetCtrlSet_arms hhost, dtsetCtrlSet_barred hhost⟩⟩,
    fun s r v n step halive => ⟨fun hopen hrun => ⟨fun hproof => ?_, fun hproof => ?_⟩, fun hopen hrun hup => ?_,
      fun hhalted => ⟨fun hroom => ?_, fun hfull => ?_, ?_⟩, fun hrun => ?_⟩⟩
  · obtain ⟨hstop, hc2, -⟩ := svcFault_spec Cz.SVC.SPMIS core.val s.dev hs rfl (by decide)
    rw [← servicePairFault_mismatch p0 p1 core.val s.dev hs hup hne] at hstop hc2
    exact ⟨_, doDev_live _ s halive, hstop.up0, hstop.up1, hstop.sess, hstop.raised, hstop.cause, hc2, rfl⟩
  · obtain ⟨hstop, hwdog⟩ := serviceWatchdog_spec s.dev hs hup hon hrun hat
    exact ⟨_, doDev_live _ s halive, hstop.up0, hwdog, hstop.cause, rfl⟩
  · obtain ⟨hup0, hup1, hc2, hkick⟩ := servicePairRestartDone_spec s.dev hup hheld
    exact ⟨_, doDev_live _ s halive, hup0, hup1, hc2, hkick, rfl⟩
  · obtain ⟨hhalted, hreg, hraised⟩ := debugHaltNow_spec s.dev
    rw [← tripletDebugHalt_now hopen hrun hproof] at hhalted hreg hraised
    exact ⟨_, doDev_live _ s halive, hhalted, hreg, hraised, rfl⟩
  · refine ⟨_, doDev_live _ s halive, ?_⟩
    rw [State.onDev_dev, tripletDebugHalt_waits hopen hrun hproof]
    exact ⟨hrun, rfl, rfl⟩
  · obtain ⟨hhalted, hreg, hraised⟩ := serviceDebugHalt_spec s.dev hopen hrun hup
    exact ⟨_, doDev_live _ s halive, hhalted, hreg, hraised, rfl⟩
  · obtain ⟨hreg, hlog, hother⟩ := debugLocal_general_spec r.val v.toNat r.isLt hroom
    rw [exec_debuggerWrite_general r v s halive, if_pos hhalted]
    exact ⟨_, rfl, hreg, hlog, hother, rfl⟩
  · rw [exec_debuggerWrite_general r v s halive, if_pos hhalted]
    refine ⟨_, rfl, ?_⟩
    rw [State.onDev_dev, debugLocal_full _ _ hfull]
    exact ⟨rfl, Dev.get_put_same ..⟩
  · obtain ⟨hstep, hlog, hretire, hreg⟩ := debugResume_spec n.toNat step s.dev hhalted
    exact ⟨_, doDev_live _ s halive, hstep, hlog, hretire, hreg, rfl⟩
  · rw [exec_debuggerWrite_general r v s halive, if_neg (by simp [hrun])]

end Sys2Proof.Machine
end

section
/-! PROOFS. Resets of the core (R382, R551, R558, R570, R571). -/

namespace Sys2Proof.Machine

/-! What a reset of the core leaves. -/

/-- The core die in reset before the cause of the reset is noted: everything at its reset value but what a reset leaves alone. -/
def inReset (o : Dev) : Dev :=
  { part := o.part, keep := o.keep, act := resetCells, stg := resetCells, otp := o.otp, px := o.px, py := o.py, die := o.die.map dieUnheld,
    diey := o.diey.map fun y => { y with lkCmd := 0 }, tap := o.tap, free := o.free, boot := { up := false }, tim := { mot := o.tim.mot } }

/-- `SYS.RSTCAUSE` after a reset: the bit of the cause, where it has one, and HALT after a halt. -/
def causeNoted (cause : Option Fld) (halted : Bool) (d : Dev) : Dev :=
  let d := match cause with
    | some c => (d.putB pgSYS SYS.RSTCAUSE.POR false).putB pgSYS c true
    | none => d.putB pgSYS SYS.RSTCAUSE.POR false
  if halted then d.putB pgSYS SYS.RSTCAUSE.HALT true else d

/-- The parts of the device beyond its registers that the statements on resets speak of. -/
def Dev.resetView (d : Dev) : Part × Keep × Otp × PlatenX × PlatenY × BootX × FltX × FormeX × TimeX :=
  (d.part, d.keep, d.otp, d.px, d.py, d.boot, d.flt, d.forme, d.tim)

@[simp] theorem Dev.resetView_put (p : Nat) (f : Fld) (v : Nat) (d : Dev) : (d.put p f v).resetView = d.resetView := rfl

@[simp] theorem Dev.resetView_publishSec (d : Dev) : (publishSec d).resetView = d.resetView := by simp [publishSec]

@[simp] theorem Dev.resetView_causeNoted (cause : Option Fld) (halted : Bool) (d : Dev) :
    (causeNoted cause halted d).resetView = d.resetView := by
  unfold causeNoted
  cases cause <;> cases halted <;> rfl

section
variable (cause : Option Fld) (s : State)

theorem coreReset_dev : (coreReset cause s).dev = publishSec (causeNoted cause s.dev.flt.halt (inReset s.dev)) := by
  cases cause <;> rfl

/-- A reset of the core from any cause. -/
theorem coreReset_resets : (coreReset cause s).afterReset = true ∧ KeptOverReset s (coreReset cause s) ∧
    (coreReset cause s).dev.keep = s.dev.keep ∧ (coreReset cause s).dev.boot.up = false := by
  have hview : (coreReset cause s).dev.resetView = (inReset s.dev).resetView := by simp [coreReset_dev]
  simp only [Dev.resetView, Prod.mk.injEq] at hview
  obtain ⟨hpart, hkeep, hotp, hpx, hpy, hboot, hflt, hforme, htim⟩ := hview
  refine ⟨?_, ⟨hpart, hotp, hpx, hpy, rfl, rfl⟩, hkeep, by rw [hboot]; rfl⟩
  unfold State.afterReset
  rw [hboot, hflt, hforme, htim]
  rfl

/-- The land READY is low while the core is down (R587). -/
theorem readyLand_of_down (d : Dev) (h : d.boot.up = false) : d.readyLand = false := by
  unfold Dev.readyLand
  rw [h]
  rfl

/-- The security and service pages that a reset publishes leave the page SYS. -/
theorem publishSec_get_sys (f : Fld) (hoff : f.off / 4 < 1024) (hlo : f.lo < 32) (d : Dev) :
    (publishSec d).get pgSYS f = d.get pgSYS f := by
  have hne : ∀ q g, (q = pgSEC ∨ q = pgSVC) → g.off / 4 < 1024 → g.lo < 32 → f.key pgSYS ≠ Fld.key g q := by
    intro q g hq hg hl
    have hpages : pgSYS = 0 ∧ pgSEC = 8 ∧ pgSVC = 4 := ⟨rfl, rfl, rfl⟩
    unfold Fld.key
    omega
  unfold publishSec
  simp (disch := apply hne <;> decide) [Dev.putB, Dev.get_put_ne]

/-- A field of `SYS.RSTCAUSE` after a reset. -/
theorem coreReset_get_sys (f : Fld) (hoff : f.off / 4 < 1024) (hlo : f.lo < 32) :
    (coreReset cause s).dev.get pgSYS f = (causeNoted cause s.dev.flt.halt (inReset s.dev)).get pgSYS f := by
  rw [coreReset_dev, publishSec_get_sys f hoff hlo]

end

/-- A power-on reset: POR, with HALT after a halt. -/
theorem coreReset_por (s : State) : (coreReset (some SYS.RSTCAUSE.POR) s).dev.get pgSYS SYS.RSTCAUSE.POR = 1 ∧
    (coreReset (some SYS.RSTCAUSE.POR) s).dev.get pgSYS SYS.RSTCAUSE.HALT = b2n s.dev.flt.halt := by
  rw [coreReset_get_sys _ _ _ (by decide) (by decide), coreReset_get_sys _ _ _ (by decide) (by decide)]
  cases s.dev.flt.halt <;> exact ⟨rfl, rfl⟩

/-- A quiet reset: HOST where the host asked for it, never POR. -/
theorem coreReset_quiet (host : Bool) (s : State) :
    (coreReset (if host then some SYS.RSTCAUSE.HOST else none) s).dev.get pgSYS SYS.RSTCAUSE.HOST = b2n host ∧
    (coreReset (if host then some SYS.RSTCAUSE.HOST else none) s).dev.get pgSYS SYS.RSTCAUSE.POR = 0 := by
  rw [coreReset_get_sys _ _ _ (by decide) (by decide), coreReset_get_sys _ _ _ (by decide) (by decide)]
  cases host <;> cases s.dev.flt.halt <;> exact ⟨rfl, rfl⟩

/-- A reset with a bit of its own sets it. -/
theorem coreReset_halt (s : State) : (coreReset (some SYS.RSTCAUSE.HALT) s).dev.get pgSYS SYS.RSTCAUSE.HALT = 1 := by
  rw [coreReset_get_sys _ _ _ (by decide) (by decide)]
  cases s.dev.flt.halt <;> rfl

theorem coreReset_wdog (s : State) : (coreReset (some SYS.RSTCAUSE.WDOG) s).dev.get pgSYS SYS.RSTCAUSE.WDOG = 1 := by
  rw [coreReset_get_sys _ _ _ (by decide) (by decide)]
  cases s.dev.flt.halt <;> rfl

/-! The quiet reset (R558). -/

theorem exec_quietReset_due (s : State) (halive : s.dev.alive = true) (hdue : s.dev.tim.cycleDue = true) (hpend : s.dev.boot.rstPend = true)
    (hgrid : s.dev.tim.grid = true) (hquiet : quiet s.dev = true) :
    exec .quietReset s = .next (coreReset (if s.dev.boot.rstHost then some SYS.RSTCAUSE.HOST else none) s) := by
  refine (doState_live _ s halive).trans ?_
  rw [if_pos hdue, quietReset, hpend, hgrid, hquiet]
  rfl

theorem exec_quietReset_unasked (s : State) (hpend : s.dev.boot.rstPend = false) : exec .quietReset s = .next s := by
  have hsame : quietReset s = s := by
    unfold quietReset
    rw [hpend]
    rfl
  show Host.Outcome.next (if s.dev.alive then if s.dev.tim.cycleDue then quietReset s else s else s) = _
  rw [hsame, ite_self, ite_self]

/-! The histories of the keep-alive domain (R382, R551). -/

/-- A history joined by the present second. -/
def historyNow (d : Dev) (l : List Nat) : List Nat := (d.keep.secs :: d.within l).take 3

theorem historyNow_few (d : Dev) (l : List Nat) (h : (d.within l).length < 3) : historyNow d l = d.keep.secs :: d.within l :=
  List.take_of_length_le (by rw [List.length_cons]; omega)

/-! The automatic reset (R382). -/

/-- The state that an automatic reset leaves to the reset: it is counted. -/
def autoCounted (s : State) : State := s.onDev fun d => { d with keep := { d.keep with autos := historyNow d d.keep.autos } }

/-- The automatic reset is withheld. -/
def autoWithheld (s : State) : State := s.onDev fun d => { d with flt := { d.flt with withheld := true } }

theorem exec_automaticReset (s : State) : exec .automaticReset s = .next (if s.dev.autoDue = true then
    if noAutoReset s.dev.flt.haltCause = true ∨ 3 ≤ (s.dev.within s.dev.keep.autos).length then autoWithheld s
    else coreReset (some SYS.RSTCAUSE.HALT) (autoCounted s) else s) := by
  have hdue : s.dev.autoDue = true ↔ s.dev.boot.up = true ∧ s.dev.flt.halt = true ∧ (!s.dev.flt.withheld) = true ∧
      s.dev.get pgFLT FLT.FLT_CFG.HALTDLY ≠ 0 ∧
      s.dev.flt.haltMot + msMot (1000 * s.dev.get pgFLT FLT.FLT_CFG.HALTDLY) ≤ s.dev.tim.mot := by
    unfold Dev.autoDue
    simp only [Bool.and_eq_true, bne_iff_ne, decide_eq_true_eq, and_assoc]
  simp only [hdue]
  rfl

/-! The supervisor of start-up (R551). -/

/-- The state that the supervisor leaves to its reset: it is counted. -/
def supCounted (s : State) : State := s.onDev fun d => { d with keep := { d.keep with sups := historyNow d d.keep.sups } }

theorem exec_startUpSupervisor (s : State) : exec .startUpSupervisor s = .next (if s.dev.bootLate = true then
    if 3 ≤ (s.dev.within s.dev.keep.sups).length then (bootHold pgSEC Cz.SEC.BOOTTO 0xFF s).1
    else coreReset (some SYS.RSTCAUSE.WDOG) (supCounted s) else s) := by
  have hlate : ¬ (s.dev.bootLate = true) ↔ s.dev.boot.phase = 0 ∨ s.dev.boot.ready = true ∨ s.dev.boot.hold = true ∨
      s.dev.tim.mot < s.dev.boot.pgMot + msMot 10000 := by
    unfold Dev.bootLate
    simp only [Bool.and_eq_true, bne_iff_ne, Bool.not_eq_true', decide_eq_true_eq]
    rw [not_and_or, not_and_or, not_and_or, Nat.not_le, not_not, Bool.not_eq_false, Bool.not_eq_false]
    simp only [or_assoc]
  rw [← ite_not]
  simp only [hlate]
  rfl

/-- A report leaves the keep-alive domain. -/
theorem Dev.keep_raise (pg : Nat) (c : Cause) (inst : Nat) (d : Dev) : (d.raise pg c inst).keep = d.keep :=
  (keepsPart Dev.keep d.keep (by intros; rfl) (by intros; rfl) (by intros; rfl) (by intros; rfl) (by intros; rfl)
    (by intros; rfl) (by intros; rfl) (by intros; rfl) (by intros; rfl) (by intros; rfl)).raise pg c inst d rfl

/-- Boot hold: the fault of class C3 halts the device, where it was not halted, and the keep-alive domain and the memories stay. -/
theorem bootHold_spec (pg : Nat) (c : Cause) (inst : Nat) (s : State) (hc : c.cls = 3) :
    (bootHold pg c inst s).1.dev.boot.hold = true ∧ (bootHold pg c inst s).1.dev.keep = s.dev.keep ∧
    (bootHold pg c inst s).1.mem = s.mem ∧
    (s.dev.flt.halt = false → HaltedFor (entryVal 3 pg inst c.code) (bootHold pg c inst s).1.dev) :=
  ⟨rfl, Dev.keep_raise pg c inst s.dev, rfl, fun h => Dev.raise_halts pg c inst s.dev hc h⟩

/-- Settles O26: every reset of the core is `coreReset` with a cause of its own; the two that are counted come while their history holds
fewer than three of the last hour. -/
theorem coreResets : Obligations.CoreResets := by
  unfold Obligations.CoreResets
  intro s which
  refine ⟨?_, ?_, fun halive hdue hpend hgrid hquiet => ?_, exec_quietReset_unasked s, fun hdue => ⟨fun hfew hmay => ?_, fun hbar => ?_⟩,
    fun hdue => ?_, fun hlate => ⟨fun hfew => ?_, fun hmany => ?_⟩, fun hlate => ?_⟩
  · obtain ⟨hafter, hkept, hkeep, -⟩ := coreReset_resets (some SYS.RSTCAUSE.POR) s
    obtain ⟨hpor, hhalt⟩ := coreReset_por s
    exact ⟨porstN s, rfl, hafter, hkept, hkeep, hpor, hhalt, rfl⟩
  · obtain ⟨hafter, hkept, hkeep, hdown⟩ := coreReset_resets (some SYS.RSTCAUSE.POR) s
    exact ⟨supplyLoss which.val s, rfl, hafter, hkept, hkeep, (coreReset_por s).1, readyLand_of_down _ hdown⟩
  · obtain ⟨hafter, hkept, hkeep, -⟩ := coreReset_resets (if s.dev.boot.rstHost then some SYS.RSTCAUSE.HOST else none) s
    obtain ⟨hhost, hpor⟩ := coreReset_quiet s.dev.boot.rstHost s
    exact ⟨_, exec_quietReset_due s halive hdue hpend hgrid hquiet, hafter, hkept, hkeep, hhost, hpor⟩
  · obtain ⟨hafter, hkept, hkeep, -⟩ := coreReset_resets (some SYS.RSTCAUSE.HALT) (autoCounted s)
    refine ⟨_, ?_, hafter, hkept, ?_, coreReset_halt _⟩
    · rw [exec_automaticReset, if_pos hdue, if_neg (by rw [hmay]; simpa using hfew)]
    · rw [hkeep, ← historyNow_few _ _ hfew]
      rfl
  · refine ⟨autoWithheld s, ?_, rfl⟩
    rw [exec_automaticReset, if_pos hdue, if_pos hbar.symm]
  · rw [exec_automaticReset, if_neg (by rw [hdue]; exact Bool.false_ne_true)]
  · obtain ⟨hafter, hkept, hkeep, -⟩ := coreReset_resets (some SYS.RSTCAUSE.WDOG) (supCounted s)
    refine ⟨_, ?_, hafter, hkept, ?_, coreReset_wdog _⟩
    · rw [exec_startUpSupervisor, if_pos hlate, if_neg (by omega)]
    · rw [hkeep, ← historyNow_few _ _ hfew]
      rfl
  · obtain ⟨hhold, hkeep, hmem, hhalts⟩ := bootHold_spec pgSEC Cz.SEC.BOOTTO 0xFF s rfl
    exact ⟨_, by rw [exec_startUpSupervisor, if_pos hlate, if_pos hmany], hhold, hkeep, hmem, hhalts⟩
  · rw [exec_startUpSupervisor, if_neg (by rw [hlate]; exact Bool.false_ne_true)]

end Sys2Proof.Machine
end

section
/-! PROOFS. What keeps a C2 condition (R373, R380): the reactions to a report of class C2 leave every condition that stands. -/

namespace Sys2Proof.Machine

section
variable (p n : Nat) (d : Dev)

@[simp] theorem Dev.c2_modDrv (f : DrvX → DrvX) : (d.modDrv n f).c2 = d.c2 := by unfold Dev.modDrv; split <;> rfl
@[simp] theorem Dev.c2_report (cls inst cause : Nat) : (d.report cls p inst cause).c2 = d.c2 := (keepsC2 d.c2).report cls p inst cause d rfl
@[simp] theorem Dev.c2_raise (c : Cause) (inst : Nat) : (d.raise p c inst).c2 = d.c2 := d.c2_report p c.cls inst c.code

end

@[simp] theorem Dev.c2_ite (c : Prop) [Decidable c] (a b : Dev) : (if c then a else b).c2 = if c then a.c2 else b.c2 := apply_ite Dev.c2 c a b

theorem Dev.c2_iff (c : Bool) (f : Dev → Dev) (d : Dev) (h : (f d).c2 = d.c2) : (d.iff_ c f).c2 = d.c2 := by
  unfold Dev.iff_
  split
  · exact h
  · rfl

theorem Dev.c2_each {α : Type} (l : List α) (f : α → Dev → Dev) (d : Dev) (hf : ∀ a d, (f a d).c2 = d.c2) :
    (d.each l f).c2 = d.c2 := Dev.each_ind (fun t => t.c2 = d.c2) l f d (fun a t h => (hf a t).trans h) rfl

/-- A page on which a condition stands still has one after a change that leaves the conditions. -/
theorem Dev.hasC2_of_c2on {t d : Dev} {pg c i : Nat} (h : t.c2 = (d.c2on pg c i).c2) : t.hasC2 pg = true := by
  obtain ⟨x, hx, heq⟩ := List.any_eq_true.mp (Dev.c2on_has pg c i d)
  rw [beq_iff_eq] at heq
  unfold Dev.hasC2
  rw [h, List.any_eq_true]
  exact ⟨x, hx, by rw [heq]; exact beq_self_eq_true pg⟩

/-! The axes (R68, R241). -/

section
variable (n : Nat) (d : Dev)

@[simp] theorem c2_seqFault (code : Nat) : (seqFault n code d).c2 = d.c2 := rfl

@[simp] theorem c2_reqStop (kind : Nat) (own : Bool) : (reqStop n kind own d).c2 = d.c2 := by simp [reqStop]

@[simp] theorem c2_gatesOff : (gatesOff n d).c2 = d.c2 := Dev.c2_modDrv ..

@[simp] theorem c2_setMode (m : Nat) : (setMode n m d).c2 = d.c2 := Dev.c2_modDrv ..

theorem c2_pageRun : (pageRun n d).c2 = d.c2 := by
  unfold pageRun
  dsimp only
  split <;> rfl

@[simp] theorem c2_calAbort : (calAbort n d).c2 = d.c2 := by
  unfold calAbort
  split
  · rw [Dev.c2_iff _ _ _ (c2_pageRun ..)]
    simp [calOff]
  · rfl

@[simp] theorem c2_bridgeDisable : (bridgeDisable n d).c2 = d.c2 := by
  have htold (t : Dev) : (if t.pgState (pgLEAF n) = 3 then t else
      (t.ev (pgLEAF n) Ev.LEAF.PLTDIS).raise (pgLEAF n) Cz.LEAF.PLTDIS 0xFF).c2 = t.c2 := by split <;> simp
  have hasked (c : Bool) (t : Dev) : (if c then seqFault n Cz.LEAF.PLTDIS.code (reqStop n 3 false t) else t).c2 = t.c2 := by split <;> simp
  have hoff : (bridgeOff n (calAbort n d)).c2 = d.c2 := by simp [bridgeOff]
  unfold bridgeDisable
  split
  · exact ((hasked _ _).trans (htold _)).trans hoff
  · rfl

@[simp] theorem c2_bridgeRelease : (bridgeRelease n d).c2 = d.c2 := Dev.c2_modDrv ..

end

/-! The two-channel functions (R299, R314, R315). -/

@[simp] theorem c2_pltDrive (lken bdis coil : Nat) (d : Dev) : (pltDrive lken bdis coil d).c2 = d.c2 := by
  unfold pltDrive
  dsimp only
  rw [Dev.c2_each _ _ _ fun n t => ?_, Dev.c2_each]
  · intros
    rfl
  · simp

@[simp] theorem c2_pltWeigh (d : Dev) : (pltWeigh d).c2 = d.c2 := by
  obtain ⟨_, _, _, _, _, _, _, heq, -⟩ := pltWeigh_eq d
  rw [heq, c2_pltDrive]
  rfl

@[simp] theorem c2_setDec (dec : Nat) (d : Dev) : (setDec dec d).c2 = d.c2 := (setDec_spec dec d).2.2

@[simp] theorem c2_relayFault (r : Nat) (mirror : Bool) (d : Dev) : (relayFault r mirror d).c2 = d.c2 := by simp [relayFault]

@[simp] theorem c2_relayAsks (r : Nat) (mirror : Bool) (d : Dev) : (relayAsks r mirror d).c2 = d.c2 := by simp [relayAsks, dropLoop]

@[simp] theorem c2_leafFails (c n : Nat) (d : Dev) : (leafFails c n d).c2 = d.c2 := by simp [leafFails]

@[simp] theorem c2_safeAsks (c inst : Nat) (d : Dev) : (safeAsks c inst d).c2 = d.c2 := by simp [safeAsks]

/-! The Service pair (R358). -/

@[simp] theorem c2_svcRestart (code core : Nat) (d : Dev) : (svcRestart code core d).c2 = d.c2 := by
  unfold svcRestart
  dsimp only
  rw [c2_endSessions, Dev.c2_ev, Dev.c2_iff _ _ _ rfl]
  rfl

/-! CAN and the leaf bus (R450, R462). -/

@[simp] theorem c2_canFinish (c v : Nat) (s : State) : (canFinish c v s).dev.c2 = s.dev.c2 := by
  unfold canFinish
  dsimp only
  split
  · split
    · split <;> simp [Dev.modCn]
    · simp [Dev.modCn]
  · rfl
  · rfl

@[simp] theorem c2_canMissAll (c : Nat) (s : State) : (canMissAll c s).dev.c2 = s.dev.c2 := by
  have hsof : (if (s.dev.cn c).sof.isSome then canFinish c 6 s else s).dev.c2 = s.dev.c2 := by
    split
    · exact c2_canFinish c 6 s
    · rfl
  have hpending (t : State) : (t.onDev fun d => d.each (canPending d c) fun j => canDone c j 6).dev.c2 = t.dev.c2 :=
    Dev.c2_each _ _ _ fun _ _ => rfl
  unfold canMissAll
  generalize (if (s.dev.cn c).sof.isSome then canFinish c 6 s else s) = s' at hsof
  dsimp only
  rw [hpending, ← hsof]
  split
  · split
    · split <;> simp
    · rfl
  · rfl

@[simp] theorem c2_canAsks (c code : Nat) (s : State) : (canAsks c code s).dev.c2 = s.dev.c2 := by
  unfold canAsks
  split
  · exact c2_canMissAll c s
  · rfl

@[simp] theorem stnSubstitute_dev (k : Nat) (s : State) : (stnSubstitute k s).dev = s.dev := by
  unfold stnSubstitute
  split <;> rfl

@[simp] theorem c2_impoAsks (code inst : Nat) (s : State) : (impoAsks code inst s).dev.c2 = s.dev.c2 := by
  unfold impoAsks
  split
  · rw [State.onDev_dev, stnSubstitute_dev]
    rfl
  · split <;> rfl

end Sys2Proof.Machine
end

section
/-! PROOFS. Reports (R370 to R381): what each class leaves, and the acknowledgement (R378). -/

namespace Sys2Proof.Machine

/-! A report on its own. -/

theorem exec_faultReport_one (r : Report) (s : State) : exec (.faultReport [r]) s =
    .next ((reportAsks r s).onDev (Dev.report r.cls.val r.page.toNat r.inst.toNat r.cause.toNat)) := rfl

/-- Only a report of class C2 acts on the function of its page. -/
theorem reportAsks_other (r : Report) (s : State) (h : r.cls.val ≠ 2) : reportAsks r s = s := if_pos h

theorem entryVal_cls (cls page inst cause dt : Nat) : FEnt.cls { val := entryVal cls page inst cause, dt := dt } = cls % 16 := by
  unfold FEnt.cls entryVal
  simp only
  omega

/-- Placing an entry changes the manager, its events and when they arose. -/
theorem placeEntry_eq (e : FEnt) (d : Dev) : ∃ f a t, placeEntry e d = { d with flt := f, act := a, tim := t } := by
  unfold placeEntry
  dsimp only
  split
  · exact ⟨_, _, _, rfl⟩
  · split
    · exact ⟨_, _, _, rfl⟩
    · split
      · exact ⟨_, _, _, rfl⟩
      · split <;> exact ⟨_, _, _, rfl⟩

theorem trimQueue_eq (d : Dev) : ∃ f a t, trimQueue d = { d with flt := f, act := a, tim := t } := by
  unfold trimQueue
  dsimp only
  split <;> exact ⟨_, _, _, rfl⟩

/-- A report that finds room and orders no halt is placed, and that is all. -/
theorem Dev.report_placed (cls page inst cause : Nat) (d : Dev) (hinfo : cls % 16 ≠ 0) (hhalt : cls % 16 ≠ 3) (hroom : d.queueRoom = true) :
    d.report cls page inst cause =
      trimQueue (placeEntry { val := entryVal cls page inst cause, dt := d.dt } (markAnomaly cls page d)) := by
  have hlen : decide (32 ≤ (markAnomaly cls page d).flt.queue.length) = false := by
    have : (markAnomaly cls page d).flt = d.flt := by unfold markAnomaly; split <;> rfl
    rw [this]
    simpa [Dev.queueRoom] using hroom
  unfold Dev.report arriveEntry
  simp only [hlen, entryVal_cls, hinfo, hhalt, Bool.and_false, Bool.false_and, if_false, Bool.false_eq_true]

/-- Such a report leaves the leaves. -/
theorem Dev.leaf_report_placed (cls page inst cause : Nat) (d : Dev) (hinfo : cls % 16 ≠ 0) (hhalt : cls % 16 ≠ 3)
    (hroom : d.queueRoom = true) : (d.report cls page inst cause).leaf = d.leaf := by
  rw [Dev.report_placed cls page inst cause d hinfo hhalt hroom]
  obtain ⟨_, _, _, htrim⟩ := trimQueue_eq (placeEntry { val := entryVal cls page inst cause, dt := d.dt } (markAnomaly cls page d))
  obtain ⟨_, _, _, hplace⟩ := placeEntry_eq { val := entryVal cls page inst cause, dt := d.dt } (markAnomaly cls page d)
  rw [htrim, hplace]
  unfold markAnomaly
  split <;> rfl

/-- A report of class C0 (R374). -/
theorem Dev.report_info (page inst cause : Nat) (d : Dev) : d.report 0 page inst cause =
    ((d.put pgFLT FLT.INFO.ENTRY (entryVal 0 page inst cause)).inc pgFLT FLT.INFO_CNT.COUNT).ev pgFLT Ev.FLT.INFO := by
  unfold Dev.report
  simp only [Nat.zero_mod, if_true]

/-- It goes to the information log alone. -/
theorem Dev.report_info_spec (page inst cause : Nat) (d : Dev) :
    (d.report 0 page inst cause).get pgFLT FLT.INFO.ENTRY = entryVal 0 page inst cause ∧
    (d.report 0 page inst cause).flt = d.flt ∧ (d.report 0 page inst cause).raised pgFLT Ev.FLT.INFO = true := by
  refine ⟨Dev.raise_info page ⟨cause, 0⟩ inst d rfl, ?_, ?_⟩
  · rw [Dev.report_info, Dev.ev_flt, Dev.inc_eq, Dev.put_flt, Dev.put_flt]
  · rw [Dev.report_info]
    exact Dev.raised_ev_same _ _ _ (by decide)

/-- The first class C3 report since reset raises HALT. -/
theorem Dev.report_raises_halt (page inst cause : Nat) (d : Dev) (h : d.flt.halt = false) :
    (d.report 3 page inst cause).raised pgFLT Ev.FLT.HALT = true := by
  have k := keepsRaised pgFLT Ev.FLT.HALT (by decide)
  have hordered (e : FEnt) (t : Dev) (ht : t.flt.halt = false) : (orderHalt e t).raised pgFLT Ev.FLT.HALT = true := by
    unfold orderHalt
    rw [if_neg (by simp [ht])]
    exact k.orders _ (Dev.raised_ev_same _ _ _ (by decide))
  have hmark : (markAnomaly 3 page d).flt.halt = false := by
    unfold markAnomaly
    split <;> exact h
  unfold Dev.report arriveEntry
  simp only [entryVal_cls, if_neg (show ¬ (3 % 16 = 0) by decide)]
  have hentry := hordered { val := entryVal 3 page inst cause, dt := d.dt } _
    ((placeEntry_halt { val := entryVal 3 page inst cause, dt := d.dt } (markAnomaly 3 page d)).1.trans hmark)
  refine k.trim _ ?_
  split
  · exact k.halt _ _ (k.place _ _ hentry)
  · exact hentry

/-- The pages of the device and of the leaf bus on which a C2 condition stands at its report. -/
theorem reportAsks_hasC2 (r : Report) (s : State) (hc : r.cls.val = 2)
    (hpg : r.page.toNat ∈ [pgSAFE, pgPLT, pgSVC, pgIMPO, pgCAN 0, pgCAN 1, pgCAN 2]) :
    (reportAsks r s).dev.hasC2 r.page.toNat = true := by
  refine Dev.hasC2_of_c2on (d := s.dev) (c := r.cause.toNat) (i := r.inst.toNat) ?_
  unfold reportAsks
  rw [if_neg (by rw [hc]; decide)]
  simp only [List.mem_cons, List.not_mem_nil, or_false] at hpg
  rcases hpg with h | h | h | h | h | h | h <;> rw [h]
  · exact c2_safeAsks ..
  · show (if r.cause.toNat = Cz.PLT.COILB.code then relayAsks r.inst.toNat false _ else _ : Dev).c2 = _
    split
    · exact c2_relayAsks ..
    · rfl
  · exact c2_svcRestart ..
  · exact c2_impoAsks ..
  · exact c2_canAsks ..
  · exact c2_canAsks ..
  · exact c2_canAsks ..

/-! The acknowledgement (R378). -/

/-- `FLT.ACK` written by the host. -/
theorem exec_fltAck_host (v : W32) (s : State) (hhost : s.dev.hostActs = true) :
    exec (.fltAck .host v) s = .next (s.onDev (fltAckWrite v.toNat)) := by
  have hlock : pageLocked s.dev .flt .host FLT.ACK.ENTRY.off = false := by
    simp [pageLocked, Unit_.safety, Unit_.plane, hostReads, srcRt, srcMgmt, lc_ne_of_hostActs hhost]
  have htaken : takenBits [FLT.ACK.ENTRY] (v.toNat % 2 ^ 32) = v.toNat := by
    have := v.isLt
    simp only [takenBits, List.foldl_cons, List.foldl_nil, bitsOf, FLT.ACK.ENTRY, fld]
    omega
  have hwrite := wr_host pgFLT FLT.ACK.ENTRY v.toNat s .flt [FLT.ACK.ENTRY] (by decide) (by decide) (by decide) rfl rfl hhost hlock
    (by decide) rfl (fun _ _ => rfl) (by decide) (by decide) (by decide) rfl
  rw [htaken] at hwrite
  exact congrArg Host.Outcome.next hwrite

/-- The head's value completes its handling: QUEUE0 becomes the head. -/
theorem fltAckWrite_head (v : Nat) (d : Dev) (h : FEnt) (hhead : h ∈ d.flt.head) (hval : h.val = v) :
    (fltAckWrite v d).flt.head = d.flt.queue.head? ∧ (fltAckWrite v d).flt.queue = d.flt.queue.tail ∧ (fltAckWrite v d).act = d.act := by
  unfold fltAckWrite
  rw [Option.mem_def.mp hhead]
  dsimp only
  rw [if_pos hval]
  unfold completeHead
  split
  · next hqueue =>
    rw [hqueue]
    exact ⟨rfl, rfl, rfl⟩
  · next hqueue =>
    rw [hqueue]
    exact ⟨rfl, rfl, rfl⟩

/-- Any other value raises ACKMIS and changes no entry. -/
theorem fltAckWrite_other (v : Nat) (d : Dev) (hother : ∀ h ∈ d.flt.head, h.val ≠ v) : fltAckWrite v d = d.ev pgFLT Ev.FLT.ACKMIS := by
  unfold fltAckWrite
  split
  · next h hhead => exact if_neg (hother h hhead)
  · rfl

end Sys2Proof.Machine
end

section
/-! PROOFS. The scrubber (R41 to R43, R193, R340, R341, R358, R510): what each finding leaves. -/

namespace Sys2Proof.Machine

/-! A pass (R42). -/

/-- Where no upset waits, a pass meets its own findings alone. -/
theorem exec_scrub (hits : List EccHit) (s : State) (halive : s.dev.alive = true) (hclean : s.clean) :
    exec (.scrub hits) s = .next (hits.foldl (fun s h => eccMeet h s) s) := by
  have hnone : (s.onDev fun d => { d with tim := { d.tim with upsets := [] } }) = s := by
    unfold State.onDev
    rw [← hclean]
  refine (doState_live _ s halive).trans ?_
  unfold scrub
  dsimp only
  rw [hnone, hclean]
  rfl

/-! Single-bit errors (R43, R341). -/

/-- The count of corrected errors of a lane's array. -/
def coreEcc (k : Nat) : Fld := if k = 0 then IMD.CORE_ECC.ECC0 else if k = 1 then IMD.CORE_ECC.ECC1 else IMD.CORE_ECC.ECC2

/-- A corrected error of a lane's array is reported, counted and raises ECCCOR. -/
def laneCorrected (k : Nat) (d : Dev) : Dev := ((eccEntry 0 d).incSat pgIMD (coreEcc k)).ev pgIMD Ev.IMD.ECCCOR

/-- A report leaves the history of corrected errors. -/
theorem Dev.eccHist_report (cls page inst cause : Nat) (d : Dev) : (d.report cls page inst cause).tim.eccHist = d.tim.eccHist :=
  (keepsPart (·.tim.eccHist) d.tim.eccHist (by intros; rfl) (by intros; rfl) (by intros; rfl) (by intros; rfl) (by intros; rfl)
    (by intros; rfl) (by intros; rfl) (by intros; rfl) (by intros; rfl) (by intros; rfl)).report cls page inst cause d rfl

@[simp] theorem Dev.eccHist_ev (p n : Nat) (d : Dev) : (d.ev p n).tim.eccHist = d.tim.eccHist := rfl

theorem laneCorrected_eccHist (k : Nat) (d : Dev) : (laneCorrected k d).tim.eccHist = d.tim.eccHist := by
  unfold laneCorrected eccEntry
  rw [Dev.eccHist_ev, Dev.incSat_eq, Dev.put_tim, Dev.drew_tim, Dev.eccHist_report]

theorem laneCorrected_spec (k : Nat) (d : Dev) : (laneCorrected k d).flt = d.flt ∧
    (laneCorrected k d).raised pgFLT Ev.FLT.INFO = true ∧ (laneCorrected k d).raised pgIMD Ev.IMD.ECCCOR = true := by
  have hplace : HDR.EV_STAT.place ≠ (coreEcc k).place := by
    unfold coreEcc
    split
    · decide
    · split <;> decide
  obtain ⟨-, hflt, hraised⟩ := Dev.report_info_spec (d.fresh 105 % 256) (d.fresh 106 % 256) (d.fresh 107 % 4096) d
  unfold laneCorrected eccEntry
  refine ⟨?_, Dev.raised_ev_keep _ _ _ _ _ (by decide) ?_, Dev.raised_ev_same _ _ _ (by decide)⟩
  · rw [Dev.ev_flt, Dev.incSat_eq, Dev.put_flt, Dev.drew_flt, hflt]
  · rw [Dev.incSat_eq, Dev.raised_put_place _ _ _ _ _ _ hplace]
    exact hraised

/-- The history of corrected errors becomes `l`. -/
def Dev.eccNoted (l : List (Nat × Nat)) (d : Dev) : Dev := { d with tim := { d.tim with eccHist := l } }

section
variable (l : List (Nat × Nat)) (d : Dev)

@[simp] theorem Dev.eccHist_eccNoted : (d.eccNoted l).tim.eccHist = l := rfl
@[simp] theorem Dev.flt_eccNoted : (d.eccNoted l).flt = d.flt := rfl
@[simp] theorem Dev.raised_eccNoted (p n : Nat) : (d.eccNoted l).raised p n = d.raised p n := rfl

end

/-- The first corrected error of the hour joins the history. -/
theorem eccSingle_lane (k : Fin 3) (w : W32) (d : Dev) (hnone : d.tim.eccHist = []) : eccSingle ⟨.lane k, w, false⟩ d =
    (laneCorrected k.val d).eccNoted [(eccKey ⟨.lane k, w, false⟩, (laneCorrected k.val d).tim.mot)] := by
  have hhist := (laneCorrected_eccHist k.val d).trans hnone
  unfold laneCorrected coreEcc at hhist ⊢
  unfold eccSingle Dev.eccNoted
  simp only [hhist, List.filter_nil, List.length_nil, if_neg (show ¬ 3 ≤ 0 + 1 by decide)]

/-! Double-bit errors (R41). -/

/-- An uncorrectable error of a memory whose loss halts the device. -/
theorem eccEntry_halts (d : Dev) (h : d.flt.halt = false) : (eccEntry 3 d).safeHalted = true := (Dev.report_halts _ _ _ d h).2

/-- The halt orders leave the record engine. -/
theorem haltOrders_rec (d : Dev) : (haltOrders d).rec_ = d.rec_ := by
  have heach {α : Type} (l : List α) (f : α → Dev → Dev) (t : Dev) (hf : ∀ a t, (f a t).rec_ = t.rec_) : (t.each l f).rec_ = t.rec_ :=
    Dev.each_ind (fun x => x.rec_ = t.rec_) l f t (fun a x h => (hf a x).trans h) rfl
  have haxes : (haltAxes d).rec_ = d.rec_ := by
    unfold haltAxes
    rw [heach _ _ _ (by intros; rfl), heach _ _ _ (by intros; rfl), heach _ _ _ (by intros; rfl), heach]
    intro a t
    unfold gatesOff Dev.modDrv
    split <;> rfl
  have hforme (t : Dev) : (haltForme t).rec_ = t.rec_ := by
    unfold haltForme
    rw [Dev.put_rec_]
  rw [haltOrders, hforme]
  exact haxes

/-- A halt counts in the folio and leaves the record queue. -/
theorem orderHalt_recQueue (e : FEnt) (d : Dev) : (orderHalt e d).rec_.queue = d.rec_.queue := by
  unfold orderHalt
  split
  · rfl
  · rw [haltOrders_rec]
    rfl

theorem placeEntry_rec (e : FEnt) (d : Dev) : (placeEntry e d).rec_ = d.rec_ := by
  obtain ⟨_, _, _, h⟩ := placeEntry_eq e d
  rw [h]

theorem arriveEntry_recQueue (e : FEnt) (d : Dev) : (arriveEntry e d).rec_.queue = d.rec_.queue := by
  have hplaced (e : FEnt) (t : Dev) : (orderHalt e (placeEntry e t)).rec_.queue = t.rec_.queue := by
    rw [orderHalt_recQueue, placeEntry_rec]
  have htaken : (if e.cls = 3 then orderHalt e (placeEntry e d) else placeEntry e d).rec_.queue = d.rec_.queue := by
    split
    · exact hplaced e d
    · rw [placeEntry_rec]
  have htrim (t : Dev) : (trimQueue t).rec_.queue = t.rec_.queue := by
    obtain ⟨_, _, _, h⟩ := trimQueue_eq t
    rw [h]
  unfold arriveEntry
  dsimp only
  rw [htrim]
  split
  · rw [hplaced, htaken]
  · exact htaken

theorem Dev.rec_ev (p n : Nat) (d : Dev) : (d.ev p n).rec_ = d.rec_ := rfl

/-- A report leaves the record queue. -/
theorem Dev.recQueue_report (cls page inst cause : Nat) (d : Dev) : (d.report cls page inst cause).rec_.queue = d.rec_.queue := by
  unfold Dev.report
  dsimp only
  split
  · rw [Dev.rec_ev, Dev.inc_eq, Dev.put_rec_, Dev.put_rec_]
  · rw [arriveEntry_recQueue]
    unfold markAnomaly
    split <;> rfl

/-- The records of the queue that hold no byte at an address of the record buffer. -/
def recordsOff (w : Nat) (d : Dev) : List SlugQ :=
  d.rec_.queue.filter fun q => !(decide (slugPlace q.slot ≤ w) && decide (w < slugPlace q.slot + 64))

/-- The record that holds the error is discarded, with a fault of its own (R510). -/
def recordLost (w : Nat) (d : Dev) : Dev :=
  recPublish ((d.modRec fun r => { r with queue := recordsOff w d }).raise pgREC Cz.REC.RBECC 0xFF)

theorem Dev.entryOf_congr {d t : Dev} (h : t.flt = d.flt) (pg : Nat) (c : Cause) (inst : Nat) : t.entryOf pg c inst = d.entryOf pg c inst := by
  unfold Dev.entryOf Dev.standing
  rw [h]

theorem recPublish_parts (d : Dev) : (recPublish d).rec_ = d.rec_ ∧ (recPublish d).flt = d.flt := by
  unfold recPublish
  simp

theorem recordLost_spec (w : Nat) (d : Dev) : (recordLost w d).rec_.queue = recordsOff w d ∧
    (d.queueRoom = true → (recordLost w d).entryOf pgREC Cz.REC.RBECC 0xFF = true) := by
  unfold recordLost
  refine ⟨?_, fun hroom => ?_⟩
  · rw [(recPublish_parts _).1]
    exact Dev.recQueue_report ..
  · rw [Dev.entryOf_congr (recPublish_parts _).2]
    exact Dev.raise_standing _ _ _ _ (by decide) hroom

/-- A kerning table with an uncorrectable error is given up: every bin is unlearned (R193). -/
def kernGivenUp (n : Nat) (d : Dev) : Dev := d.each (List.range 256) fun b d =>
  (d.put (pgOBS n) (OBS.KTO.FRIC.at b) 0xFFFF).put (pgOBS n) (OBS.KTC.FRIC.at b) 0xFFFF

theorem kernGivenUp_bin (n : Nat) (d : Dev) : ∀ b ∈ List.range 256, (kernGivenUp n d).get (pgOBS n) (OBS.KTO.FRIC.at b) = 0xFFFF := by
  have hkey (b : Nat) : (OBS.KTO.FRIC.at b).key (pgOBS n) = (pgOBS n * 1024 + 256 + b) * 32 := by
    simp only [Fld.key, Fld.at, OBS.KTO.FRIC, Fld.arr, fld]
    omega
  have hclosing (a b : Nat) (t : Dev) (hb : b < 256) : (t.put (pgOBS n) (OBS.KTC.FRIC.at a) 0xFFFF).get (pgOBS n) (OBS.KTO.FRIC.at b) =
      t.get (pgOBS n) (OBS.KTO.FRIC.at b) := by
    refine Dev.get_put_ne _ _ _ _ _ _ ?_
    rw [hkey]
    simp only [Fld.key, Fld.at, OBS.KTC.FRIC, Fld.arr, fld]
    omega
  have hgiven := Dev.each_sets (fun b t => b < 256 → t.get (pgOBS n) (OBS.KTO.FRIC.at b) = 0xFFFF) (List.range 256)
    (fun b t => (t.put (pgOBS n) (OBS.KTO.FRIC.at b) 0xFFFF).put (pgOBS n) (OBS.KTC.FRIC.at b) 0xFFFF) d
    (fun b _ t hb => by rw [hclosing b b _ hb, Dev.get_put_same]; rfl)
    (fun b a t h hb => by
      rw [hclosing a b _ hb]
      by_cases hab : b = a
      · rw [hab, Dev.get_put_same]
        rfl
      · rw [Dev.get_put_ne _ _ _ _ _ _ (by rw [hkey, hkey]; omega)]
        exact h hb)
  exact fun b hb => hgiven b hb (List.mem_range.mp hb)

theorem ktEcc_eq (n : Nat) (d : Dev) (h : d.part.hasLeaf n = true) :
    ktEcc n d = leafFault n (pgOBS n) Cz.OBS.KTECC 0xFF 2 (ktVer n (kernGivenUp n d)) := if_pos h

theorem ktEcc_spec (n : Fin 8) (d : Dev) (h : d.part.hasLeaf n.val = true) :
    (ktEcc n.val d).get (pgOBS n.val) (OBS.KTO.FRIC.at 255) = 0xFFFF ∧ ((ktEcc n.val d).seq n.val).fault.isSome = true := by
  rw [ktEcc_eq _ _ h]
  constructor
  · refine leafFault_keeps (keepsReg _ _ _ (obsFld_notMem_reportKeys _ _ n.isLt (by decide) (by decide))) (fun _ _ h => h) (fun _ _ _ h => h)
      _ _ _ _ _ _ ?_
    unfold ktVer
    rw [Dev.inc_eq, Dev.inc_eq, Dev.get_put_place _ _ _ _ _ _ (by decide), Dev.get_put_place _ _ _ _ _ _ (by decide)]
    exact kernGivenUp_bin n.val d 255 (by decide)
  · have hevent := leafFault_faultEvent n.val (pgOBS n.val) Cz.OBS.KTECC 0xFF 2 (ktVer n.val (kernGivenUp n.val d)) n.isLt
    unfold Dev.faultEvent at hevent
    rwa [if_pos n.isLt] at hevent

theorem flt_setLane (i : Nat) (st : LaneState) (d : Dev) : (setLane i st d).flt = d.flt := by
  unfold setLane publishLanes
  simp

/-- The first fault of a lane within the hour, while all three run, is reported as the lane's. -/
theorem laneFault_reports (k : Fin 3) (c : Cause) (d : Dev) (hrun : runLanes d = [0, 1, 2]) (hcnt : laneCnt d k.val = 0)
    (hcls : c.cls % 16 ≠ 0) (hroom : d.queueRoom = true) : (laneFault k.val c d).entryOf pgIMD c k.val = true := by
  have hfew : ¬ 3 ≤ laneCnt ((countLane k.val c d).raise pgIMD c k.val) k.val := by
    rw [laneCnt_countLane _ _ _ _ _ k.isLt, hcnt]
    decide
  have hflt : (laneFault k.val c d).flt = ((countLane k.val c d).raise pgIMD c k.val).flt := by
    unfold laneFault
    simp only [laneSt_run hrun k, hrun, hfew, flt_setLane, bne_self_eq_false, List.length_cons, List.length_nil, if_false,
      Bool.false_eq_true, Nat.zero_add, Nat.reduceAdd, Nat.lt_irrefl]
  rw [Dev.entryOf_congr hflt]
  exact Dev.raise_standing pgIMD c k.val (countLane k.val c d) hcls hroom

/-- An uncorrectable error of the Service pair's memory in lockstep is a fault of the pair (R358). -/
theorem servicePairFault_memory (core : Nat) (d : Dev) (hs : splitMode d = false) (hup : d.svc.up0 = true) :
    servicePairFault .memory core d = svcFault Cz.SVC.SVCMEM core d := by
  unfold servicePairFault svcUp svcDetects
  simp [hs, hup, svcCauseOf]

/-- What a pass does with one corrected error. -/
theorem exec_scrub_single (site : EccSite) (w : W32) (s : State) (halive : s.dev.alive = true) (hclean : s.clean) :
    exec (.scrub [⟨site, w, false⟩]) s = .next (s.onDev (eccSingle ⟨site, w, false⟩)) := exec_scrub [⟨site, w, false⟩] s halive hclean

/-- What a pass does with one uncorrectable error. -/
theorem exec_scrub_double (site : EccSite) (w : W32) (s : State) (halive : s.dev.alive = true) (hclean : s.clean) :
    exec (.scrub [⟨site, w, true⟩]) s = .next (eccDouble ⟨site, w, true⟩ s) := exec_scrub [⟨site, w, true⟩] s halive hclean

section
variable (w : W32) (s : State)

theorem eccDouble_forme : eccDouble ⟨.forme, w, true⟩ s = s.onDev (eccEntry 3) := rfl
theorem eccDouble_galley : eccDouble ⟨.galley, w, true⟩ s = s.onDev (eccEntry 3) := rfl
theorem eccDouble_record : eccDouble ⟨.record, w, true⟩ s = s.onDev (recordLost w.toNat) := rfl
theorem eccDouble_kerning (n : LeafNo) : eccDouble ⟨.kerning n, w, true⟩ s = s.onDev (ktEcc n.val) := rfl
theorem eccDouble_lane (k : Fin 3) : eccDouble ⟨.lane k, w, true⟩ s = s.onDev (laneFault k.val Cz.IMD.LANEECC) := rfl

theorem eccDouble_service (hs : splitMode s.dev = false) (hup : s.dev.svc.up0 = true) :
    eccDouble ⟨.service, w, true⟩ s = s.onDev (svcFault Cz.SVC.SVCMEM 0) := by
  show s.onDev (fun d => servicePairFault .memory (if splitMode d && decide (0x30200000 ≤ w.toNat) then 1 else 0) d) = _
  unfold State.onDev
  dsimp only
  rw [servicePairFault_memory _ s.dev hs hup, hs]
  rfl

end

/-- Settles O25: the reports by class, the acknowledgement, and each finding of the scrubber. -/
theorem faultsAndScrubbing : Obligations.FaultsAndScrubbing := by
  unfold Obligations.FaultsAndScrubbing
  refine ⟨fun s pg inst c v halive => ⟨fun hroom => ?_, ?_, fun hrun => ?_, fun hpg => ?_,
      fun hhost => ⟨fun h hhead hval => ?_, fun hother => ?_⟩⟩,
    fun s w n k halive hclean => ⟨exec_scrub [] s halive hclean, fun hnone => ?_, fun hrun => ?_, fun hrun => ?_, ?_, fun hleaf => ?_,
      fun hrun hcnt hroom => ?_, fun hs hup => ?_⟩⟩
  · rw [exec_faultReport_one, reportAsks_other _ _ (show (1 : Fin 4).val ≠ 2 by decide)]
    exact ⟨_, rfl, Dev.report_standing 1 _ _ _ _ (by decide) hroom, Dev.c2_report ..,
      Dev.leaf_report_placed 1 _ _ _ _ (by decide) (by decide) hroom, State.onDev_mem ..⟩
  · rw [exec_faultReport_one, reportAsks_other _ _ (show (0 : Fin 4).val ≠ 2 by decide)]
    obtain ⟨hentry, hflt, hraised⟩ := Dev.report_info_spec pg.toNat inst.toNat c.toNat s.dev
    exact ⟨_, rfl, hentry, hflt, hraised, State.onDev_mem ..⟩
  · rw [exec_faultReport_one, reportAsks_other _ _ (show (3 : Fin 4).val ≠ 2 by decide)]
    obtain ⟨hcause, hsafe⟩ := Dev.report_halts pg.toNat inst.toNat c.toNat s.dev hrun
    exact ⟨_, rfl, hsafe, hcause, Dev.report_raises_halt _ _ _ _ hrun, State.onDev_mem ..⟩
  · rw [exec_faultReport_one]
    refine ⟨_, rfl, ?_⟩
    unfold Dev.hasC2
    rw [State.onDev_dev, Dev.c2_report]
    exact reportAsks_hasC2 ⟨pg, c, 2, inst⟩ s rfl hpg
  · obtain ⟨hnext, hqueue, hact⟩ := fltAckWrite_head v.toNat s.dev h hhead hval
    exact ⟨_, exec_fltAck_host v s hhost, hnext, hqueue, hact, rfl⟩
  · refine ⟨_, exec_fltAck_host v s hhost, ?_⟩
    rw [State.onDev_dev, fltAckWrite_other v.toNat s.dev hother]
    exact ⟨rfl, Dev.raised_ev_same _ _ _ (by decide), rfl⟩
  · obtain ⟨hflt, hinfo, hcor⟩ := laneCorrected_spec k.val s.dev
    refine ⟨_, exec_scrub_single _ w s halive hclean, ?_⟩
    rw [State.onDev_dev, State.onDev_mem, eccSingle_lane k w s.dev hnone, Dev.flt_eccNoted, Dev.raised_eccNoted, Dev.raised_eccNoted,
      Dev.eccHist_eccNoted]
    exact ⟨hflt, hinfo, hcor, rfl, rfl⟩
  · rw [exec_scrub_double _ _ s halive hclean, eccDouble_forme]
    exact ⟨_, rfl, eccEntry_halts s.dev hrun, State.onDev_mem ..⟩
  · rw [exec_scrub_double _ _ s halive hclean, eccDouble_galley]
    exact ⟨_, rfl, eccEntry_halts s.dev hrun, State.onDev_mem ..⟩
  · obtain ⟨hqueue, hentry⟩ := recordLost_spec w.toNat s.dev
    rw [exec_scrub_double _ _ s halive hclean, eccDouble_record]
    refine ⟨_, rfl, fun q hq => ?_, hentry, State.onDev_mem ..⟩
    rw [State.onDev_dev, hqueue] at hq
    simpa [recordsOff, imp_iff_not_or] using hq
  · obtain ⟨hbin, hfault⟩ := ktEcc_spec n s.dev hleaf
    rw [exec_scrub_double _ _ s halive hclean, eccDouble_kerning]
    exact ⟨_, rfl, hbin, hfault, State.onDev_mem ..⟩
  · rw [exec_scrub_double _ _ s halive hclean, eccDouble_lane]
    exact ⟨_, rfl, (laneFault_excludes k _ s.dev hrun hcnt).lane, laneFault_reports k _ s.dev hrun hcnt (by decide) hroom,
      State.onDev_mem ..⟩
  · obtain ⟨hstop, -, -⟩ := svcFault_spec Cz.SVC.SVCMEM 0 s.dev hs rfl (by decide)
    rw [exec_scrub_double _ _ s halive hclean, eccDouble_service w s hs hup]
    exact ⟨_, rfl, hstop.up0, hstop.raised, State.onDev_mem ..⟩

end Sys2Proof.Machine
end

section
/-! PROOFS. What every command keeps: the queue of waiting commands, and the canonical form of the three memories. -/

namespace Sys2Proof.Machine

/-- From `s` to `t` the queue of waiting commands stands, and each memory that was canonical is so still. -/
structure Kept (s t : State) : Prop where
  pending : t.pending = s.pending
  mem : Memory.wf sramEmpty s.mem = true → Memory.wf sramEmpty t.mem = true
  xs0 : Memory.wf flashEmpty s.xs0 = true → Memory.wf flashEmpty t.xs0 = true
  xs1 : Memory.wf flashEmpty s.xs1 = true → Memory.wf flashEmpty t.xs1 = true

theorem Kept.refl (s : State) : Kept s s := ⟨rfl, id, id, id⟩

theorem Kept.wf {s t : State} (h : Kept s t) (hs : s.wf = true) : t.wf = true := by
  unfold State.wf at hs ⊢
  simp only [Bool.and_eq_true] at hs ⊢
  exact ⟨⟨h.mem hs.1.1, h.xs0 hs.1.2⟩, h.xs1 hs.2⟩

section
variable {s t : State} (h : Kept s t)
include h

/-! The ways in which a command is put together. -/

theorem Kept.onDev {f : Dev → Dev} : Kept s (t.onDev f) := ⟨h.pending, h.mem, h.xs0, h.xs1⟩

theorem Kept.setDev {d : Dev} : Kept s { t with dev := d } := ⟨h.pending, h.mem, h.xs0, h.xs1⟩

theorem Kept.setMem {m : Memory} (hm : Memory.wf sramEmpty t.mem = true → Memory.wf sramEmpty m = true) : Kept s { t with mem := m } :=
  ⟨h.pending, fun hs => hm (h.mem hs), h.xs0, h.xs1⟩

theorem Kept.setXs0 {m : Memory} (hm : Memory.wf flashEmpty t.xs0 = true → Memory.wf flashEmpty m = true) : Kept s { t with xs0 := m } :=
  ⟨h.pending, h.mem, fun hs => hm (h.xs0 hs), h.xs1⟩

theorem Kept.setXs1 {m : Memory} (hm : Memory.wf flashEmpty t.xs1 = true → Memory.wf flashEmpty m = true) : Kept s { t with xs1 := m } :=
  ⟨h.pending, h.mem, h.xs0, fun hs => hm (h.xs1 hs)⟩

omit h in
theorem Kept.ite {c : Prop} [Decidable c] {a b : State} (ha : Kept s a) (hb : Kept s b) : Kept s (if c then a else b) := by
  split
  · exact ha
  · exact hb

theorem Kept.foldl {α : Type} {l : List α} {f : State → α → State} (hf : ∀ a t, Kept s t → Kept s (f t a)) : Kept s (l.foldl f t) := by
  induction l generalizing t with
  | nil => exact h
  | cons a l ih => exact ih (hf a t h)

theorem Kept.live {f : State → State} (hf : Kept s (f t)) : Kept s (t.live f) := .ite hf h

/-! Bytes and words of the memories. -/

theorem Kept.putL {a : Nat} {l : List Nat} : Kept s { t with mem := Memory.putL sramEmpty t.mem a l } := h.setMem (Memory.wf_putL _ _ _ _)

theorem Kept.poke {a n v : Nat} : Kept s (t.poke a n v) := h.setMem (Memory.wf_putW _ _ _ _ _)

theorem Kept.copy {src dst n : Nat} : Kept s { t with mem := Memory.copy sramEmpty src dst n t.mem } := h.setMem (Memory.wf_copy _ _ _ _ _)

theorem Kept.programXs0 {a : Nat} {l : List Nat} : Kept s { t with xs0 := Memory.program t.xs0 a l } := h.setXs0 (Memory.wf_program _ _ _)

theorem Kept.eraseXs0 {a n : Nat} : Kept s { t with xs0 := Memory.erase a n t.xs0 } := h.setXs0 (Memory.wf_erase _ _ _ _)

theorem Kept.programXs1 {a : Nat} {l : List Nat} : Kept s { t with xs1 := Memory.program t.xs1 a l } := h.setXs1 (Memory.wf_program _ _ _)

theorem Kept.eraseXs1 {a n : Nat} : Kept s { t with xs1 := Memory.erase a n t.xs1 } := h.setXs1 (Memory.wf_erase _ _ _ _)

/-! The forme. -/

theorem Kept.forcesTo {half region kind : Nat} : Kept s (forcesTo half region kind t) := h.foldl fun e t h => by
  split
  · exact h
  · split
    · exact h
    · exact .ite h h.poke

theorem Kept.applyForces {kind : Nat} : Kept s (applyForces kind t) := h.forcesTo

theorem Kept.resolveForces {lost : Nat → Bool} : Kept s (resolveForces lost t) := by
  unfold Machine.resolveForces
  exact h.onDev

theorem Kept.formeServo : Kept s (formeServo t) := h.onDev.resolveForces.applyForces

theorem Kept.startTask {k : TaskId} {blk : Nat} : Kept s (startTask k blk t) := h.forcesTo.onDev

theorem Kept.startMain : Kept s (startMain t) := h.startTask

theorem Kept.mainEnded : Kept s (mainEnded t) := by
  unfold Machine.mainEnded
  exact h.applyForces.applyForces.onDev

theorem Kept.endTask {k : TaskId} : Kept s (endTask k t) := by
  unfold Machine.endTask
  cases k
  case main => exact h.onDev.mainEnded
  case msync => exact h.onDev.onDev
  case error => exact h.onDev.startMain
  case init => exact h.onDev.onDev

theorem Kept.trapTask {k : TaskId} {code : Nat} : Kept s (trapTask k code t) := by
  unfold Machine.trapTask
  cases k
  case main => exact h.onDev.onDev
  case msync => exact h.onDev.onDev
  case error => exact h.onDev.startMain
  case init => exact h.onDev.onDev

theorem Kept.motionSyncStart : Kept s (motionSyncStart t) := .ite h.onDev.startTask h

theorem Kept.msovr : Kept s (msovr t) := .ite h.onDev h

theorem Kept.mainTaskStart : Kept s (mainTaskStart t) :=
  .ite (.ite (.ite h.onDev.onDev.startMain h.onDev.onDev.onDev.startTask) h.onDev.startMain) h

theorem Kept.outputCommit : Kept s (outputCommit t) := .ite h.onDev.copy (.ite h.copy h)

theorem Kept.freezeBanks : Kept s (freezeBanks t) := h.onDev.copy.applyForces

theorem Kept.fillRegion {half r : Nat} : Kept s (fillRegion half r t) :=
  h.setMem fun hm => Memory.wf_copy _ _ _ _ _ (Memory.wf_erase _ _ _ _ hm)

theorem Kept.olcPrep {half : Nat} : Kept s (olcPrep half t) :=
  .ite h.onDev (.ite h.onDev (.ite h.onDev (.ite h.onDev (.ite h.fillRegion.onDev h.fillRegion.onDev.startTask))))

theorem Kept.olcReady : Kept s (olcReady t) := .ite h.onDev h

theorem Kept.switchCheck {ended : Bool} : Kept s (switchCheck ended t).1 := by
  unfold Machine.switchCheck
  dsimp only
  split_ifs
  · exact h
  · exact h.onDev
  · exact h.onDev
  · exact h.onDev
  · exact h

theorem Kept.publishHdr : Kept s (publishHdr t) := by
  unfold Machine.publishHdr
  exact h.onDev

omit h in
/-- Copies within the SRAM, one after the other, keep it canonical. -/
theorem wf_copies (src dst len : Nat × Nat × Nat × Nat → Nat) (l : List (Nat × Nat × Nat × Nat)) (m : Memory)
    (hm : Memory.wf sramEmpty m = true) :
    Memory.wf sramEmpty (l.foldl (fun m c => Memory.copy sramEmpty (src c) (dst c) (len c) m) m) = true := by
  induction l generalizing m with
  | nil => exact hm
  | cons c l ih => exact ih _ (Memory.wf_copy _ _ _ _ _ hm)

theorem Kept.formeSwitch : Kept s (formeSwitch t) :=
  (h.setMem fun hm => wf_copies _ _ _ _ _ hm).onDev.publishHdr.resolveForces.applyForces

/-- An op keeps what its own work on the stack keeps. -/
theorem Kept.runOp {words : Nat} {f : State → TaskId → List Nat → StackRes × State} (hf : ∀ k l, Kept s (f t k l).2) : Kept s (runOp words f t) := by
  unfold Machine.runOp
  split
  · exact h
  next k _ =>
    have hk := hf k (t.dev.task k).stack
    split
    next heq =>
      rw [heq] at hk
      exact hk.trapTask
    next heq =>
      rw [heq] at hk
      exact .ite hk.trapTask hk.onDev

theorem Kept.pureOp {words : Nat} {f : List Nat → StackRes} : Kept s (pureOp words f t) := h.runOp fun _ _ => h

theorem Kept.op1 {ty : Nat} {f : Nat → Nat} : Kept s (op1 ty f t) := h.pureOp

theorem Kept.op2 {ty : Nat} {f : Nat → Nat → StackRes} : Kept s (op2 ty f t) := h.pureOp

theorem Kept.ldv {ty arg : Nat} : Kept s (ldv ty arg t) := h.runOp fun k l => by
  split
  · exact h
  · split <;> exact h

theorem Kept.stv {ty arg : Nat} : Kept s (stv ty arg t) := h.runOp fun k l => by
  split
  · exact h
  · split
    · exact h.poke
    · exact h
    · exact h

theorem Kept.ldin {ty arg : Nat} : Kept s (ldin ty arg t) := h.runOp fun k l => by split <;> exact h

theorem Kept.stout {ty arg : Nat} : Kept s (stout ty arg t) := h.runOp fun k l => by
  split
  · split
    · exact h.poke
    · exact h
  · exact h

theorem Kept.ldx {ty arg n : Nat} : Kept s (ldx ty arg n t) := h.runOp fun k l => by
  split
  · exact h
  · split
    · split <;> exact h
    · exact h
    · exact h

theorem Kept.stx {ty arg n : Nat} : Kept s (stx ty arg n t) := h.runOp fun k l => by
  split
  · exact h
  · split
    · split
      · exact h
      · exact h.poke
    · exact h
    · exact h

theorem Kept.jumpBy {k : TaskId} {arg : Nat} : Kept s (jumpBy k arg t) := .ite h.onDev h.trapTask

theorem Kept.jmp {arg : Nat} : Kept s (jmp arg t) := by
  unfold Machine.jmp
  split
  · exact h.jumpBy
  · exact h

theorem Kept.jcond {want arg : Nat} : Kept s (jcond want arg t) := by
  unfold Machine.jcond
  split
  · exact h
  · split
    · exact h.trapTask
    · exact .ite h.onDev.jumpBy h.onDev.onDev

theorem Kept.retOp : Kept s (retOp t) := by
  unfold Machine.retOp
  split
  · exact h
  · split
    · exact h.endTask
    · exact h.onDev

theorem Kept.trapOp : Kept s (trapOp t) := by
  unfold Machine.trapOp
  split
  · exact h.trapTask
  · exact h

/-! Rings and items. -/

theorem Kept.ringPut {k status : Nat} {item : List Nat} : Kept s (ringPut k status item t).1 := by
  unfold Machine.ringPut
  split
  · exact h.poke
  · exact h.poke.putL.poke

theorem Kept.ringTake {k : Nat} : Kept s (ringTake k t) := .ite h h.poke

theorem Kept.ringAdvance {k : Nat} {producer : Bool} {item : List Nat} : Kept s (ringAdvance k producer item t) := .ite (.ite h.ringPut h.ringTake) h

theorem Kept.ringCommit {changed : Nat} {again : Bool} : Kept s (ringCommit changed again t) :=
  h.foldl fun _ _ h => .ite h (.ite h.setDev.poke.poke h.setDev)

theorem Kept.inItemPut {ofs : Nat} {bytes : List Nat} : Kept s (inItemPut ofs bytes t) := h.putL

/-! CAN. -/

theorem Kept.recordStatus {a v : Nat} : Kept s (recordStatus a v t) := h.poke

theorem Kept.ringSkip {k n : Nat} : Kept s (ringSkip k n t) := by
  induction n generalizing t with
  | zero => exact h
  | succ n ih =>
    unfold Machine.ringSkip
    split
    · exact .ite (ih h.recordStatus.ringTake) h
    · exact h

theorem Kept.canStartObj {c kind : Nat} {o : CanObj} : Kept s (canStartObj c kind o t) := h.onDev

theorem Kept.canStartRing {c a : Nat} : Kept s (canStartRing c a t) := h.recordStatus.onDev

theorem Kept.canStart {c : Nat} : Kept s (canStart c t) := by
  unfold Machine.canStart
  split
  · exact h
  · split
    · split
      · exact h
      · split
        · dsimp only
          split
          · exact .ite h.ringSkip.canStartRing h.ringSkip
          · exact h.ringSkip
        · exact h
    · exact h.canStartObj.onDev

theorem Kept.canKick {c : Nat} : Kept s (canKick c t) := .ite h.onDev.canStart h.onDev

theorem Kept.canCommitOut {c : Nat} : Kept s (canCommitOut c t) := by
  unfold Machine.canCommitOut
  split
  · exact h.onDev.canKick
  · exact h

theorem Kept.recordCancel {c a : Nat} : Kept s (recordCancel c a t) := by
  unfold Machine.recordCancel
  dsimp only
  split_ifs
  · exact h
  · exact h.poke.onDev
  · split
    · exact h.poke.recordStatus.ringSkip
    · exact h.poke.recordStatus
  · exact h.poke

theorem Kept.canFinish {c v : Nat} : Kept s (canFinish c v t) := by
  refine Kept.onDev ?_
  split
  · dsimp only
    split
    · exact .ite h.recordStatus.ringTake h.recordStatus
    · exact h.recordStatus
  · exact h.onDev
  · exact h

theorem Kept.canTxComplete {c : Nat} {e : CanEnd} : Kept s (canTxComplete c e t) := by
  refine .ite h.canStart (.ite (Kept.canKick ?_) (Kept.onDev (Kept.canKick ?_)))
  all_goals
    cases e
    case sent => exact h.canStart.onDev.canFinish.onDev
    case lost => exact .ite h.canStart.onDev.canFinish.onDev (.ite h.canStart.onDev.canFinish h.canStart.onDev.onDev)
    case error => exact .ite h.canStart.onDev.canFinish.onDev (.ite h.canStart.onDev.canFinish h.canStart.onDev.onDev)

theorem Kept.canAccept {c : Nat} {o : CanObj} {f : CanFrame} : Kept s (canAccept c o f t) := .ite h.onDev h.onDev.inItemPut

theorem Kept.canReceive {c : Nat} {f : CanFrame} : Kept s (canReceive c f t) := by
  refine .ite h (.ite h.onDev.onDev (.ite (.ite h.onDev.onDev h.onDev.onDev) (Kept.onDev (Kept.canKick (.ite h.onDev.onDev.onDev.onDev ?_)))))
  split
  · exact .ite h.onDev.onDev.onDev.canAccept h.onDev.onDev.onDev.onDev
  · exact .ite h.onDev.onDev.onDev.ringPut h.onDev.onDev.onDev.onDev

theorem Kept.canMissAll {c : Nat} : Kept s (canMissAll c t) := by
  have h1 : Kept s (if (t.dev.cn c).sof.isSome then Machine.canFinish c 6 t else t) := .ite h.canFinish h
  unfold Machine.canMissAll
  dsimp only
  refine Kept.onDev ?_
  split
  · split
    · exact .ite h1.recordStatus.ringTake h1
    · exact h1
  · exact h1

theorem Kept.busOff {c : Nat} : Kept s (busOff c t) := .ite h.canMissAll.onDev h

theorem Kept.busOffEnd {c : Nat} : Kept s (busOffEnd c t) := .ite h.onDev.canKick.onDev h

theorem Kept.canIntegrated {c : Nat} : Kept s (canIntegrated c t) := .ite h.onDev.canKick.onDev h

theorem Kept.canReinit {c : Nat} : Kept s (canReinit c t) := h.canMissAll.onDev

theorem Kept.canCommit {c : Nat} {old : Dev} : Kept s (canCommit c old t) := .ite h.onDev.canReinit h.onDev

theorem Kept.canFreeze {c : Nat} : Kept s (canFreeze c t) := by
  refine Kept.onDev ?_
  split
  · exact h.inItemPut
  · exact h

/-! The leaf bus. -/

theorem Kept.stnSubstitute {k : Nat} : Kept s (stnSubstitute k t) := by
  unfold Machine.stnSubstitute
  split
  · exact h.inItemPut
  · exact h

theorem Kept.stnDrop {k : Nat} : Kept s (stnDrop k t) := h.stnSubstitute.onDev

theorem Kept.stnCheck {k : Nat} {met : Bool} : Kept s (stnCheck k met t) := by
  refine Kept.onDev ?_
  split
  · exact h.onDev
  · exact h.onDev
  · exact .ite h.onDev.stnDrop h.onDev
  · exact h.onDev
  · exact h.onDev
  · exact h.onDev
  · exact h

theorem Kept.stnDiscard {k j : Nat} : Kept s (stnDiscard k j t) := by
  unfold Machine.stnDiscard
  exact h.onDev

theorem Kept.stnWait {k : Nat} : Kept s (stnWait k t) := .ite h.stnDrop h

theorem Kept.slotStart {j : Nat} : Kept s (slotStart j t) := by
  refine .ite (.ite h.onDev ?_) h
  dsimp only
  split
  · exact .ite h.onDev.onDev.canStartObj h.onDev.onDev
  · exact h.onDev.onDev.canKick
  · exact h.onDev.canKick
  · exact h.onDev

theorem Kept.slotSettle {j : Nat} : Kept s (slotSettle j t) := by
  unfold Machine.slotSettle
  dsimp only
  split
  · exact h.stnCheck
  · refine h.foldl fun o t h => ?_
    split
    · exact .ite h h.stnDiscard
    · exact h
  · split
    · split
      · exact h.stnDiscard
      · exact .ite h.onDev h
    · exact h

theorem Kept.slotEnd {j : Nat} : Kept s (slotEnd j t) := .ite (.onDev (.ite h.onDev h.slotSettle)) h

theorem Kept.lbFreeze : Kept s (lbFreeze t) := by
  unfold Machine.lbFreeze
  refine Kept.onDev ?_
  split
  · exact h.inItemPut
  · exact h

theorem Kept.lbBoundary : Kept s (lbBoundary t) := by
  have h1 : Kept s (if t.dev.net.lb.tt then t.onDev lbCycleEnd else t) := .ite h.onDev h
  exact .ite h1.onDev (.ite (.onDev (h1.onDev.onDev.foldl fun _ _ h => h.stnSubstitute)) (.ite h1.onDev h1))

end

end Sys2Proof.Machine
end

section
/-! PROOFS. What the network, the record engine, the pages, start-up and the memory checks keep: the queue and the canonical memories. -/

namespace Sys2Proof.Machine

section
variable {s t : State} (h : Kept s t)
include h

/-! The network. -/

theorem Kept.teleReceive {r : Telegram} : Kept s (teleReceive r t) := by
  refine .ite h (.ite h.onDev ?_)
  dsimp only
  split
  · exact h.inItemPut.onDev
  · exact h.onDev

theorem Kept.teleSend {i : Nat} : Kept s (teleSend i t) := by
  unfold Machine.teleSend
  split
  · exact h
  · split
    · exact h
    · exact h.onDev

theorem Kept.teleRun {l : List Nat} : Kept s (teleRun l t) := by
  induction l generalizing t with
  | nil => exact h
  | cons i l ih =>
    unfold Machine.teleRun
    split
    · exact .ite h (ih h.teleSend)
    · exact h

theorem Kept.teleGo : Kept s (teleGo t) := .ite h.teleRun h

theorem Kept.telePublish : Kept s (telePublish t) := .ite h.onDev.teleGo h

theorem Kept.subTimeout {i : Nat} : Kept s (subTimeout i t) := by
  unfold Machine.subTimeout
  split
  · exact h
  · exact .ite (.onDev (.ite h.inItemPut h)) h

theorem Kept.trdpFreeze : Kept s (trdpFreeze t) := by
  refine .ite h.onDev (.onDev ?_)
  have h1 := h.foldl (l := List.range t.dev.net.trdp.subs.length) fun i _ h => h.subTimeout (i := i)
  split
  · exact h1.inItemPut.onDev
  · exact h1.onDev

theorem Kept.p0Take {port : Nat} {f : EthFrame} : Kept s (p0Take port f t) := by
  refine .ite h.onDev ?_
  split
  · exact h.teleReceive
  · dsimp only
    split_ifs
    · exact h.ringPut
    · exact h.ringPut.onDev
    · exact h
    · exact h.onDev

theorem Kept.ethForward {k ingress vid pcp : Nat} {f : EthFrame} : Kept s (ethForward k ingress vid pcp f t) := by
  unfold Machine.ethForward
  exact .onDev (.ite h.p0Take h)

theorem Kept.ethReceive {p : Nat} {f : EthFrame} {err : Bool} : Kept s (ethReceive p f err t) := by
  refine .ite h (.ite h.onDev ?_)
  dsimp only
  split
  · exact h.onDev.onDev
  · exact h.onDev.onDev.ethForward

theorem Kept.ethTxRing {n : Nat} : Kept s (ethTxRing n t) := by
  induction n generalizing t with
  | zero => exact h
  | succ n ih =>
    refine .ite h ?_
    split
    · exact h
    · refine ih ?_
      split
      · exact h.ringTake.onDev
      · exact h.ringTake.ethForward

theorem Kept.ringService : Kept s (ringService t) := h.ethTxRing.foldl fun _ _ h => h.canKick

/-! The records. -/

theorem Kept.traceSample {n : Nat} : Kept s (traceSample n t) := .ite (.ite h.onDev h.poke.onDev) h

theorem Kept.slugArrive {b : List Nat} : Kept s (slugArrive b t) := .ite h (.ite h.onDev.putL.onDev.ringPut h.onDev.putL.onDev)

theorem Kept.slugHandoff {a : Nat} : Kept s (slugHandoff a t) := by
  unfold Machine.slugHandoff
  split
  · exact h.onDev.slugArrive
  · exact h

theorem Kept.startErase {i : Nat} : Kept s (startErase i t) := h.eraseXs1.onDev

theorem Kept.startPage {i : Nat} {o : MemOp} {bytes : List Nat} : Kept s (startPage i o bytes t) := h.programXs1.onDev

theorem Kept.nandFormat : Kept s (nandFormat t) := by
  unfold Machine.nandFormat
  exact (h.setXs1 fun _ => Memory.wf_program _ _ _ (Memory.wf_program _ _ _ rfl)).onDev

theorem Kept.startOp {o : MemOp} : Kept s (startOp o t) := by
  unfold Machine.startOp
  cases o
  case erase => exact h.startErase
  case slugPage => exact h.startPage
  case tracePage => exact h.startPage.onDev
  case anomPage => exact h.startPage.onDev
  case header k prog =>
    refine Kept.onDev (h.setXs1 fun hm => ?_)
    split
    · exact Memory.wf_program _ _ _ hm
    · exact Memory.wf_erase _ _ _ _ hm
  case format => exact h.nandFormat
  case folio => exact h.programXs0.onDev.onDev
  case kern => exact h.programXs0.onDev.onDev
  case xsErase => exact h.eraseXs0.onDev

theorem Kept.tryOp {o : MemOp} {vhold : Nat} : Kept s (tryOp o vhold t) := .ite h (.ite h.onDev.startOp.onDev h.onDev.onDev)

theorem Kept.holdRetry {vhold : Nat} : Kept s (holdRetry vhold t) := by
  unfold Machine.holdRetry
  split
  · exact .ite h (.ite h.onDev.onDev.startOp.onDev h.onDev.onDev)
  · exact h

theorem Kept.slugPageWrite {vhold : Nat} : Kept s (slugPageWrite vhold t) := by
  unfold Machine.slugPageWrite
  split
  · exact h.tryOp.onDev
  · exact h

theorem Kept.retire {blk : Nat} : Kept s (retire blk t) := .ite h.onDev (h.setXs1 (Memory.wf_copy _ _ _ _ _)).onDev

theorem Kept.fcNext {vhold : Nat} : Kept s (fcNext vhold t) := by
  refine .ite h ?_
  split
  · exact .ite h.onDev.onDev.startOp.onDev h.onDev.onDev
  · exact .ite h.onDev.startOp.onDev h.onDev

theorem Kept.nandDone {ok answers : Bool} {vhold : Nat} : Kept s (nandDone ok answers vhold t) := by
  unfold Machine.nandDone
  split
  next o blk _ =>
    have h1 : Kept s (if !answers then (t.onDev fun d => d.modRec fun r => { r with op := none }).onDev memFail
        else if ok then t.onDev fun d => d.modRec fun r => { r with op := none }
        else Machine.retire blk (t.onDev fun d => d.modRec fun r => { r with op := none })) := .ite h.onDev.onDev (.ite h.onDev h.onDev.retire)
    dsimp only at h1 ⊢
    refine .onDev (.ite (Kept.fcNext ?_) (Kept.slugPageWrite ?_))
    · exact .ite h1.onDev h1
    · exact .ite h1.onDev h1
  · exact h

theorem Kept.recStart : Kept s (recStart t) := by
  unfold Machine.recStart
  exact h.onDev

theorem Kept.recRun {vhold : Nat} : Kept s (recRun vhold t) := by
  refine .ite h ?_
  split
  · exact h.onDev.onDev
  · exact h.tryOp

theorem Kept.recFormat {vhold : Nat} : Kept s (recFormat vhold t) := .ite h.tryOp h

theorem Kept.recRead {uncorr : Bool} : Kept s (recRead uncorr t) := by
  refine .ite ?_ h
  split
  · exact h.ringTake.ringPut
  · exact h

theorem Kept.folioWrite {vhold : Nat} : Kept s (folioWrite vhold t) := by
  unfold Machine.folioWrite
  dsimp only
  split
  · exact h.tryOp.onDev
  · exact .ite h.tryOp h

theorem Kept.kernSave {n vhold : Nat} : Kept s (kernSave n vhold t) := .ite h.tryOp h

theorem Kept.settingsDone {ok : Bool} {vhold : Nat} : Kept s (settingsDone ok vhold t) := by
  unfold Machine.settingsDone
  split
  · exact h
  · refine .ite h.onDev.fcNext ?_
    split
    · exact h.onDev.tryOp.onDev
    · exact h.onDev

theorem Kept.recFreeze : Kept s (recFreeze t) := by
  unfold Machine.recFreeze
  split
  · exact h.inItemPut
  · exact h

theorem Kept.handAll {a n : Nat} : Kept s (handAll a n t) := by
  induction n generalizing t with
  | zero => exact h
  | succ n ih => exact .ite h (ih h.slugHandoff)

theorem Kept.finalCommit {vhold : Nat} : Kept s (finalCommit vhold t) :=
  .ite h (.onDev (.fcNext (h.onDev.onDev.foldl fun _ _ h => h.handAll)))

theorem Kept.pfSet {vhold : Nat} : Kept s (pfSet vhold t) := .ite h h.onDev.finalCommit

/-! The pages' staged values. -/

theorem Kept.olcRequest {f : Fld} {act : State → State} (hact : ∀ t, Kept s t → Kept s (act t)) : Kept s (olcRequest f act t) := .ite (hact _ h.onDev) h

theorem Kept.frmCommit {old : Dev} : Kept s (frmCommit old t) :=
  .resolveForces (.olcRequest (.olcRequest (.olcRequest h.onDev fun _ h => h.onDev) fun _ h => h.olcPrep) fun _ h => h.onDev)

theorem Kept.unitCommit {u : Unit_} {pg : Nat} {old : Dev} : Kept s (unitCommit u pg old t) := by
  unfold Machine.unitCommit
  split
  · exact h.frmCommit
  · exact h.onDev
  · exact h.onDev
  · exact h.onDev
  · exact h.onDev
  · exact h.onDev
  · exact h.onDev
  · exact h.onDev
  · exact h.onDev
  · exact h.onDev.canCommit
  · exact h.onDev
  · exact h.onDev
  · exact h.onDev
  · exact h.onDev.ringCommit
  · exact h.onDev
  · exact h.onDev

theorem Kept.commitPage {pg : Nat} : Kept s (commitPage pg t) := by
  unfold Machine.commitPage
  split
  · exact h
  · exact .ite h.onDev.unitCommit h

theorem Kept.restCommit {n : Nat} : Kept s (restCommit n t) := .ite (h.foldl fun _ _ h => .ite h.commitPage h) h

theorem Kept.boundaryCommit : Kept s (boundaryCommit t) := h.foldl fun _ _ h => .ite h.commitPage h

/-! The headers on XS0. -/

theorem Kept.selAppendTo {c : Nat} {x : Select} : Kept s (selAppendTo c x t) := by
  unfold Machine.selAppendTo
  split
  · exact h.programXs0
  · exact h.setXs0 fun hm => Memory.wf_program _ _ _ (Memory.wf_program _ _ _ (Memory.wf_erase _ _ _ _ hm))

theorem Kept.selAppend {f : Select → Select} : Kept s (selAppend f t) := by
  unfold Machine.selAppend
  exact h.selAppendTo.selAppendTo.onDev

theorem Kept.hdrRewrite {c : Nat} {p : Policy} : Kept s (hdrRewrite c p t) := by
  have herased {m : Memory} (hm : Memory.wf flashEmpty m = true) := Memory.wf_program p.bytes _ (hdrBase c) (Memory.wf_erase _ (hdrBase c) 0x10000 m hm)
  unfold Machine.hdrRewrite
  refine h.setXs0 fun hm => ?_
  split
  · exact herased hm
  · exact Memory.wf_program _ _ _ (herased hm)

/-! Start-up. -/

theorem Kept.fst {b : Bool} : Kept s (t, b).1 := h

theorem Kept.coreReset {cause : Option Fld} : Kept s (coreReset cause t) := ⟨h.pending, fun _ => rfl, h.xs0, h.xs1⟩

theorem Kept.bootHold {pg : Nat} {c : Cause} {inst : Nat} : Kept s (bootHold pg c inst t).1 := by
  unfold Machine.bootHold
  exact h.onDev.fst

omit h in
theorem Kept.bootThen {phase : Nat} {f : State → State × Bool} {r : State × Bool} (h : Kept s r.1) (hf : ∀ t, Kept s t → Kept s (f t).1) :
    Kept s (bootThen phase f r).1 := by
  unfold Machine.bootThen
  split
  · exact (hf _ h.onDev.onDev).onDev
  · exact h

theorem Kept.bootPll {e : PowerGoodEnv} : Kept s (bootPll e t).1 := by
  unfold Machine.bootPll
  dsimp only
  split
  · exact h.onDev.onDev.fst
  · exact h.onDev.onDev.onDev.fst

theorem Kept.bootProof {e : PowerGoodEnv} : Kept s (bootProof e t).1 := by
  unfold Machine.bootProof
  dsimp only
  split
  · exact h.onDev.onDev.bootHold
  · exact h.onDev.onDev.fst

theorem Kept.bootHeader : Kept s (bootHeader t).1 := by
  unfold Machine.bootHeader
  split
  · exact h.onDev.fst
  · split
    · exact h.onDev.fst
    · dsimp only
      split
      · exact h.onDev.onDev.fst
      · exact h.onDev.bootHold

theorem Kept.bootKeys : Kept s (bootKeys t).1 := by
  unfold Machine.bootKeys
  split
  · exact h.fst
  · split
    · exact h.onDev.bootHold
    · dsimp only
      split
      · split
        · exact h.onDev.onDev.bootHold
        · exact h.onDev.fst
      · exact h.onDev.fst

theorem Kept.bootTrial : Kept s (bootTrial t) := .ite h (.ite h.selAppend.onDev h.selAppend)

theorem Kept.bootFirmware : Kept s (bootFirmware t).1 := by
  unfold Machine.bootFirmware
  split
  · exact h.fst
  · dsimp only
    split
    · exact h.bootTrial.onDev.fst
    · split
      · exact h.bootTrial.selAppend.onDev.onDev.fst
      · exact h.bootTrial.bootHold

theorem Kept.bootImpression : Kept s (bootImpression t).1 := by
  unfold Machine.bootImpression
  split
  · exact h.fst
  · dsimp only
    split
    · exact h.onDev.fst
    · split
      · exact h.selAppend.onDev.onDev.fst
      · exact h.bootHold

theorem Kept.bootSeal {e : PowerGoodEnv} : Kept s (bootSeal e t).1 := by
  unfold Machine.bootSeal
  dsimp only
  split
  · exact h.onDev.bootHold
  · split_ifs
    · exact h.onDev.onDev.fst
    · exact h.onDev.onDev.bootHold
    · exact h.onDev.onDev.bootHold
    · exact h.onDev.onDev.bootHold
    · exact h.onDev.onDev.fst

theorem Kept.formeCopy {bytes : List Nat} {half : Nat} {slot : Option Nat} : Kept s (formeCopy bytes half slot t) := by
  unfold Machine.formeCopy
  exact (h.setMem fun hm => Memory.wf_putL _ _ _ _ (Memory.wf_erase _ _ _ _ hm)).onDev

theorem Kept.bootForme : Kept s (bootForme t).1 := by
  unfold Machine.bootForme
  split
  · exact h.formeCopy.fst
  · dsimp only
    split
    · exact h.formeCopy.onDev.fst
    · exact h.onDev.formeCopy.onDev.fst
    · exact h.bootHold

theorem Kept.bootService : Kept s (bootService t).1 := by
  unfold Machine.bootService
  exact h.onDev.fst

theorem Kept.kernLoad : Kept s (kernLoad t) := h.onDev

theorem Kept.bootLoad : Kept s (bootLoad t).1 := by
  unfold Machine.bootLoad
  exact h.onDev.onDev.kernLoad.recStart.fst

theorem Kept.bootSafety {e : PowerGoodEnv} : Kept s (bootSafety e t).1 := by
  unfold Machine.bootSafety
  dsimp only
  split
  · exact h.onDev.bootHold
  · split
    · exact h.onDev.onDev.bootHold
    · exact h.onDev.onDev.onDev.fst

theorem Kept.pagesStart : Kept s (pagesStart t) := h.foldl fun pg t h => by
  split
  · exact h
  · exact .ite h (.ite h.onDev h.unitCommit)

theorem Kept.bootStart : Kept s (bootStart t).1 := by
  unfold Machine.bootStart
  extract_lets s1 f s2 s3
  have h1 : Kept s s1 := h.pagesStart
  have h3 : Kept s s3 := h1.fillRegion.onDev.publishHdr
  clear_value s1 s3
  split
  · exact h1.bootHold
  · refine Kept.fst ?_
    split
    · exact h3.onDev
    · exact h3.startTask

theorem Kept.powerGood {e : PowerGoodEnv} : Kept s (powerGood e t) := by
  refine .ite h ?_
  refine .bootThen (.bootThen (.bootThen (.bootThen (.bootThen (.bootThen (.bootThen (.bootThen (.bootThen (.bootThen (.bootThen (.bootThen ?_
    ?_) ?_) ?_) ?_) ?_) ?_) ?_) ?_) ?_) ?_) ?_) ?_
  · exact h.onDev.fst
  · exact fun _ h => h.bootPll
  · exact fun _ h => h.bootProof
  · exact fun _ h => h.bootHeader
  · exact fun _ h => h.bootKeys
  · exact fun _ h => h.bootFirmware
  · exact fun _ h => h.bootImpression
  · exact fun _ h => h.bootSeal
  · exact fun _ h => h.bootForme
  · exact fun _ h => h.bootService
  · exact fun _ h => h.bootLoad
  · exact fun _ h => h.bootSafety
  · exact fun _ h => h.bootStart

theorem Kept.supervisor : Kept s (supervisor t) := .ite h (.ite h.bootHold h.onDev.coreReset)

theorem Kept.automaticReset : Kept s (automaticReset t) := .ite (.ite h.onDev h.onDev.coreReset) h

/-! Change in service. -/

theorem Kept.switchPage {pg : Nat} : Kept s (switchPage pg t) := by
  have h1 : Kept s (if profilePages.contains pg then t.onDev (loadProfile pg) else t) := .ite h.onDev h
  exact .ite h1.commitPage h1

theorem Kept.switchDone : Kept s (switchDone t) := .ite (.onDev (.ite h.selAppend h)) h

theorem Kept.impressionSwitch : Kept s (impressionSwitch t) := by
  refine .ite h (.switchDone (.onDev (h.onDev.foldl fun pg t h => ?_)))
  split
  · exact .ite h.onDev h.switchPage
  · exact h.switchPage

theorem Kept.deferredApply {n : Nat} : Kept s (deferredApply n t) :=
  .ite (.switchDone (.onDev (h.foldl fun _ _ h => h.switchPage))) h

theorem Kept.formeSelect : Kept s (formeSelect t) := by
  unfold Machine.formeSelect
  split
  · exact .ite h h.selAppend.onDev
  · exact h

theorem Kept.cfgConfirm : Kept s (cfgConfirm t) := .ite h.selAppend.onDev h

theorem Kept.quietReset : Kept s (quietReset t) := .ite h.coreReset h

theorem Kept.verificationDone : Kept s (verificationDone t) := by
  unfold Machine.verificationDone
  split
  · exact h
  · refine Kept.onDev ?_
    split
    · exact h.onDev.formeCopy
    · exact .ite h.onDev.selAppend h.onDev
    · exact .ite h.onDev.onDev h.onDev
    · exact h.onDev

theorem Kept.policyInstall : Kept s (policyInstall t) := by
  unfold Machine.policyInstall
  dsimp only
  split
  · exact h.onDev
  · exact .ite h.onDev (.ite h.onDev h.hdrRewrite.hdrRewrite.onDev)

theorem Kept.debugUnlock : Kept s (debugUnlock t) := by
  unfold Machine.debugUnlock
  split
  · exact .ite h.onDev h
  · exact h

theorem Kept.settingsWrite {src : Src} {a : Nat} {erase : Bool} {data : List Nat} : Kept s (settingsWrite src a erase data t) := by
  refine .ite h (.ite h.onDev (h.setXs0 fun hm => ?_))
  split
  · exact Memory.wf_erase _ _ _ _ hm
  · exact Memory.wf_program _ _ _ hm

theorem Kept.codeFetch {page : Nat} : Kept s (codeFetch page t) := .ite h (.ite h h.onDev)

theorem Kept.porstN : Kept s (porstN t) := h.coreReset.onDev

theorem Kept.supplyLoss {which : Nat} : Kept s (supplyLoss which t) := h.coreReset.onDev

/-! Upsets, and the reads that meet them. -/

theorem Kept.ringDiscard {k j : Nat} : Kept s (ringDiscard k j t) := by
  refine .ite h (Kept.poke (h.setMem fun hm => ?_))
  generalize (List.range _) = l
  generalize t.mem = m at hm
  induction l generalizing m with
  | nil => exact hm
  | cons i l ih => exact ih _ (Memory.wf_copy _ _ _ _ _ hm)

theorem Kept.packetDiscard {a : Nat} : Kept s (packetDiscard a t) := h.foldl fun k t h => by
  refine .ite h ?_
  dsimp only
  split
  · exact h.ringDiscard
  · exact h

theorem Kept.eccDouble {x : EccHit} : Kept s (eccDouble x t) := by
  unfold Machine.eccDouble
  dsimp only
  split
  · exact h.onDev
  · exact h.onDev
  · exact h.onDev
  · exact h.onDev
  · exact h.packetDiscard.onDev
  · exact h.onDev
  · exact h.onDev
  · exact h.onDev
  · exact h.onDev
  · exact h.onDev

theorem Kept.eccMeet {x : EccHit} : Kept s (eccMeet x t) := .ite h.eccDouble h.onDev

theorem Kept.scrub {hits : List EccHit} : Kept s (scrub hits t) := h.onDev.foldl fun _ _ h => h.eccMeet

theorem Kept.eccAccess {a n : Nat} : Kept s (eccAccess a n t) := h.onDev.foldl fun _ _ h => h.eccMeet

theorem Kept.reading {at_ : State → List (Nat × Nat)} {f : State → State} (hf : ∀ t, Kept s t → Kept s (f t)) : Kept s (reading at_ f t) :=
  hf _ (h.foldl fun _ _ h => h.eccAccess)

theorem Kept.teleWork : Kept s (teleWork t) := .ite (h.reading fun _ h => h.teleGo) h

theorem Kept.servoUpsets : Kept s (servoUpsets t) := h.onDev.foldl fun _ _ h => h.eccMeet

end

end Sys2Proof.Machine
end

section
/-! PROOFS. What accesses over the fabric, the windows, the device blocks and the boundaries keep, and with them every command. -/

namespace Sys2Proof.Machine

section
variable {s t : State} (h : Kept s t)
include h

/-! The bus. -/

theorem Kept.secWrite {off v : Nat} : Kept s (secWrite off v t) := by
  refine .ite (.ite h.onDev h) (.ite ?_ (.ite h.onDev (.ite (.ite h.onDev h) h)))
  have h1 : Kept s (if bit v 0 then Machine.policyInstall t else t) := .ite h.policyInstall h
  have h2 : Kept s (if bit v 1 then (if bit v 0 then Machine.policyInstall t else t).onDev rollForward
    else if bit v 0 then Machine.policyInstall t else t) := .ite h1.onDev h1
  exact .ite h2.debugUnlock h2

theorem Kept.iteOnDev {c : Prop} [Decidable c] {f : Dev → Dev} : Kept s (if c then t.onDev f else t) := .ite h.onDev h

theorem Kept.cfgWrite {src : Src} {v : Nat} : Kept s (cfgWrite src v t) := by
  have h1 := ((h.iteOnDev (c := bit v 0) (f := cfgSwitch)).iteOnDev (c := bit v 1) (f := cfgRstreq (src == .host))).iteOnDev
    (c := bit v 2) (f := cfgCancel)
  exact .ite h1.cfgConfirm h1

theorem Kept.regEffect {src : Src} {pg : Nat} {u : Unit_} {off v : Nat} : Kept s (regEffect src pg u off v t) := by
  refine .ite h.iteOnDev ?_
  split
  · exact h.iteOnDev
  · exact .ite h.onDev (.ite h.onDev h.iteOnDev)
  · exact h.iteOnDev
  · exact .ite h.cfgWrite h
  · exact h.secWrite
  · exact h.onDev
  · exact .ite h.onDev h.iteOnDev
  · exact h.iteOnDev
  · exact h.iteOnDev
  · exact .ite h.onDev h.iteOnDev
  · exact h.iteOnDev
  · exact .ite h.onDev (.ite h.onDev (.ite h.onDev h.iteOnDev))
  · exact h.iteOnDev
  · exact h

theorem Kept.regWrite {src : Src} {pg : Nat} {u : Unit_} {off v : Nat} : Kept s (regWrite src pg u off v t).1 := by
  unfold Machine.regWrite
  dsimp only
  split
  · exact h.onDev.fst
  · split
    · split
      · exact h.setDev.onDev.fst
      · exact h.setDev.fst
    · exact Kept.fst (.onDev (.ite h.onDev.iteOnDev (Kept.regEffect h.onDev.iteOnDev)))

theorem Kept.memStore {a n v : Nat} : Kept s (memStore a n v t) := h.putL

theorem Kept.packetWrite {a n v : Nat} : Kept s (packetWrite a n v t) := .ringService (h.memStore.foldl fun _ _ h => h.recordCancel)

theorem Kept.memWrite {src : Src} {r : Region} {a n v : Nat} : Kept s (memWrite src r a n v t).1 := by
  unfold Machine.memWrite
  split
  · dsimp only
    split
    · exact h.memStore.onDev.fst
    · exact h.fst
  · split
    · exact h.memStore.fst
    · exact h.fst
  · split
    · exact h.packetWrite.fst
    · exact h.fst
  · dsimp only
    split_ifs
    · exact h.fst
    · exact h.onDev.fst
    · exact h.memStore.fst
  · exact h.fst

theorem Kept.fstOf {α : Type} {x : α} : Kept s (t, x).1 := h

theorem Kept.memRead {src : Src} {r : Region} {a n : Nat} : Kept s (memRead src r a n t).1 := by
  unfold Machine.memRead
  dsimp only
  split
  · exact h.eccAccess.fstOf
  · split
    · exact h.eccAccess.onDev.fstOf
    · exact h.eccAccess.fstOf
  · exact h.eccAccess.fstOf

theorem Kept.busWrite {src : Src} {addr size v : Nat} : Kept s (busWrite src addr size v t).1 := by
  unfold Machine.busWrite
  split
  · exact h.fst
  · split
    · dsimp only
      split
      · exact h.setDev.fst
      · exact h.setDev.regWrite
    · exact h.onDev.fst
    · split
      · exact h.fst
      · exact h.memWrite

theorem Kept.busRead {src : Src} {addr size : Nat} : Kept s (busRead src addr size t).1 := by
  unfold Machine.busRead
  split
  · exact h.fstOf
  · split
    · dsimp only
      split
      · exact h.setDev.fstOf
      · exact h.setDev.onDev.fstOf
    · exact h.onDev.fstOf
    · split
      · exact h.fstOf
      · exact h.memRead.fstOf

omit h in
theorem Kept.tellRead {r : State × Nat × Bool} (h : Kept s r.1) : Kept s (tellRead r) := h.onDev

theorem Kept.wr {src : Src} {pg : Nat} {f : Fld} {v : Nat} : Kept s (wr src pg f v t) := h.busWrite

theorem Kept.readWords {src : Src} {n a : Nat} : Kept s (readWords src n a t).1 := by
  induction n generalizing t a with
  | zero => exact h.fstOf
  | succ n ih => exact ih h.busRead

theorem Kept.writeWords {src : Src} {l : List Nat} {i a : Nat} : Kept s (writeWords src l i a t).1 := by
  induction l generalizing t i a with
  | nil => exact h.fstOf
  | cons v l ih => exact ih h.busWrite

/-! The windows. -/

theorem Kept.nelSend {key : Nat} {msg : List Nat} : Kept s (nelSend key msg t) := h.onDev

theorem Kept.nelOpen {r : NelReq} : Kept s (nelOpen r t) := by
  unfold Machine.nelOpen
  dsimp only
  split
  · exact .ite h h.onDev
  · exact .ite h (.ite h.onDev (.ite h.nelSend h.onDev.nelSend))

theorem Kept.nelRequest {op : Nat} {run : NelSess → State → State × Nat × List Nat} {r : NelReq} (hrun : ∀ x, Kept s (run x t).1) :
    Kept s (nelRequest op run r t) := by
  unfold Machine.nelRequest
  split
  · exact h
  next x _ => exact .ite h.onDev (.ite h.onDev (.ite h.onDev (hrun x).nelSend.onDev))

theorem Kept.nelRead {r : NelReq} {x : NelSess} : Kept s (nelRead r x t).1 := by
  unfold Machine.nelRead
  split
  · exact h.fstOf
  · exact h.readWords.fstOf

theorem Kept.nelWrite {r : NelReq} {x : NelSess} : Kept s (nelWrite r x t).1 := by
  unfold Machine.nelWrite
  split
  · exact h.fstOf
  · dsimp only
    split
    · exact h.writeWords.fstOf
    · exact h.writeWords.fstOf

theorem Kept.nelStatus {x : NelSess} : Kept s (nelStatus x t).1 := h

theorem Kept.nelClose {x : NelSess} : Kept s (nelClose x t).1 := by
  unfold Machine.nelClose
  exact h.onDev.fstOf

theorem Kept.nelServed {f : State → State} (hf : Kept s (f t)) : Kept s (nelServed f t) := .ite hf h

theorem Kept.hpiRead {addr n : Nat} : Kept s (hpiRead addr n t) := .ite h.onDev h.readWords.onDev

theorem Kept.hpiWrite {addr n : Nat} {data : List Nat} {crc : Nat} : Kept s (hpiWrite addr n data crc t) :=
  .ite h.onDev (.ite h.onDev h.writeWords.onDev)

theorem Kept.debuggerWrite {service : Bool} {x : DbgTarget} {v : Nat} : Kept s (debuggerWrite service x v t) := by
  refine .ite h ?_
  split
  · exact h.onDev
  · exact h.onDev
  · exact h.onDev
  · exact h.busWrite

theorem Kept.issue {safe : Bool} {p : LanePres} : Kept s (issue safe p t) :=
  .ite (h.foldl fun _ _ h => h.busWrite) (h.foldl fun _ _ h => h.busRead.tellRead)

theorem Kept.tripletTransaction {v : VoteEnv} : Kept s (tripletTransaction v t) := by
  refine .ite h ?_
  dsimp only
  split
  · exact h.setDev
  · split
    · exact h.setDev.onDev
    · exact h.setDev
    · exact h.setDev.issue

/-! The device blocks. -/

section
variable {b : BlkCall}

theorem Kept.blkPut {p v : Nat} : Kept s (b.put p v t) := by
  unfold BlkCall.put
  split
  · exact h.poke
  · exact h

theorem Kept.blkOuts {l : List Nat} : Kept s (b.outs l t) := h.foldl fun _ _ h => h.blkPut

theorem Kept.blkKeep {l : List Nat} : Kept s (b.keep l t) := h.foldl fun _ _ h => h.blkPut

theorem Kept.blkRd {pg off : Nat} : Kept s (b.rd pg off t).1 := by
  unfold BlkCall.rd
  exact h.busRead.fstOf

theorem Kept.blkWrIf {c : Bool} {pg off v : Nat} : Kept s (b.wrIf c pg off v t) := .ite h.busWrite h

theorem Kept.freeOut {site : Nat} : Kept s (freeOut site t).1 := h.onDev.fstOf

theorem Kept.blkNoUnit {n : Nat} : Kept s (b.noUnit n t) := h.foldl fun _ _ h => h.freeOut.blkPut

theorem Kept.fnLeaf : Kept s (fnLeaf b t) := .ite h.blkKeep.blkNoUnit h.blkKeep.blkWrIf.blkRd.blkRd.blkOuts

theorem Kept.fnDoorway : Kept s (fnDoorway b t) := .ite h.blkKeep.blkNoUnit h.blkKeep.blkWrIf.blkRd.blkRd.blkOuts

theorem Kept.fnMove : Kept s (fnMove b t) := .ite h.blkKeep.blkNoUnit (h.blkKeep.blkWrIf.blkWrIf.blkRd.freeOut (site := 121)).blkOuts

theorem Kept.fnSpq : Kept s (fnSpq b t) := .ite h.blkKeep.blkNoUnit h.blkKeep.blkWrIf.blkWrIf.blkWrIf.blkRd.blkOuts

theorem Kept.fnStep : Kept s (fnStep b t) := .ite h.blkKeep.blkNoUnit h.blkKeep.blkWrIf.blkRd.blkOuts

theorem Kept.fnDi : Kept s (fnDi b t) := h.blkRd.blkRd.blkOuts

theorem Kept.fnDo : Kept s (fnDo b t) := .ite h.blkNoUnit (h.blkRd.blkWrIf.freeOut (site := 122)).blkOuts

theorem Kept.fnLsw : Kept s (fnLsw b t) := .ite h.blkKeep.blkNoUnit h.blkKeep.blkRd.blkWrIf.blkWrIf.blkRd.blkRd.blkOuts

theorem Kept.fnStation : Kept s (fnStation b t) := by
  refine .ite h.blkNoUnit (Kept.blkOuts ?_)
  split
  · exact h.poke
  · exact h

theorem Kept.fnTrdpPub : Kept s (fnTrdpPub b t) := by
  unfold Machine.fnTrdpPub
  split
  · exact h.putL
  · exact h

theorem Kept.fnTrdpSub : Kept s (fnTrdpSub b t) := by
  unfold Machine.fnTrdpSub
  dsimp only
  split
  · exact h.blkNoUnit
  · split
    · split
      · exact h.putL.blkPut.blkPut
      · exact h.blkPut.blkPut
    · split
      · exact (h.putL.freeOut (site := 120)).freeOut (site := 120) |>.blkPut.blkPut
      · exact (h.freeOut (site := 120)).freeOut (site := 120) |>.blkPut.blkPut

theorem Kept.fnRecstat : Kept s (fnRecstat b t) := by
  unfold Machine.fnRecstat
  split
  · exact h.blkOuts
  · exact h.blkNoUnit

theorem Kept.fnRegrd : Kept s (fnRegrd b t) := .ite h.blkKeep (.ite h.blkKeep.blkPut.blkPut h.blkKeep.busRead.blkOuts)

theorem Kept.fnRegwr : Kept s (fnRegwr b t) := .ite h.blkKeep (.ite h.blkKeep.blkOuts h.blkKeep.busWrite.blkOuts)

theorem Kept.fnFault : Kept s (fnFault b t) := h.blkKeep.blkRd.blkWrIf.blkRd.blkRd.blkOuts

theorem Kept.fnCycle : Kept s (fnCycle b t) := h.blkRd.blkRd.blkRd.blkRd.blkRd.blkOuts

end

omit h in
theorem Kept.iteSome {c : Prop} [Decidable c] {b : BlkCall} {g : BlkCall → State → State} {o : Option (BlkCall → State → State)}
    (hg : Kept s (g b t)) (ho : ∀ f ∈ o, Kept s (f b t)) : ∀ f ∈ if c then some g else o, Kept s (f b t) := by
  split
  · rintro f ⟨⟩
    exact hg
  · exact ho

theorem Kept.devBlock {type : Nat} {b : BlkCall} : ∀ f ∈ devBlock type, Kept s (f b t) :=
  .iteSome h.fnLeaf <| .iteSome h.fnDoorway <| .iteSome h.fnMove <| .iteSome h.fnSpq <| .iteSome h.fnStep <| .iteSome h.fnDi <|
  .iteSome h.fnDo <| .iteSome h.fnLsw <| .iteSome h.fnStation <| .iteSome h.fnTrdpPub <| .iteSome h.fnTrdpSub <| .iteSome h.fnRecstat <|
  .iteSome h.fnRegrd <| .iteSome h.fnRegwr <| .iteSome h.fnFault <| .iteSome h.fnCycle fun _ hf => nomatch hf

theorem Kept.callOp {i : Nat} : Kept s (callOp i t) := by
  unfold Machine.callOp
  split
  · exact h
  · refine .ite h.trapTask (.ite h.trapTask (.ite h.onDev ?_))
    split
    · exact h.trapTask
    next f hf => exact (h.devBlock f hf).onDev

/-! The boundaries. -/

theorem Kept.inputFreeze : Kept s (inputFreeze t) := by
  unfold Machine.inputFreeze
  extract_lets s1 s2
  have h1 : Kept s s1 := .recFreeze (.trdpFreeze (.lbFreeze (h.foldl fun _ _ h => h.canFreeze)))
  exact h1.onDev.freezeBanks.onDev

theorem Kept.programBoundary : Kept s (programBoundary t) := by
  unfold Machine.programBoundary
  split
  · exact h
  · extract_lets s1 ended s2 s3 s4 s5
    have h2 : Kept s s2 := h.onDev.outputCommit.onDev
    clear_value s2
    have h3 : Kept s s3 := .ite (h2.foldl fun _ _ h => h.canCommitOut) h2
    clear_value s3
    have h5 : Kept s s5 := h3.onDev.boundaryCommit.impressionSwitch.onDev
    clear_value s5
    have h6 := h5.switchCheck (ended := ended)
    split
    next s6 go hcheck =>
      rw [hcheck] at h6
      exact .quietReset (.lbBoundary (.onDev (.ite h6.inputFreeze.formeSwitch.formeSelect h6.inputFreeze)))

theorem Kept.restPagesApply : Kept s (restPagesApply t) := h.foldl fun _ _ h => h.restCommit.deferredApply

theorem Kept.servoStages : Kept s (servoStages t) := by
  unfold Machine.servoStages
  extract_lets s1
  have h1 : Kept s s1 := h.onDev
  exact h1.formeServo

theorem Kept.servoBoundary : Kept s (servoBoundary t) := by
  have h1 : Kept s (Machine.servoUpsets (if t.dev.tim.cycleDue then Machine.programBoundary t else t)) := .servoUpsets (.ite h.programBoundary h)
  exact .ite h (.ite h1.restPagesApply.onDev.servoStages h1)

theorem Kept.idle : Kept s (idle t) := by
  unfold Machine.idle
  exact h.onDev.teleWork

/-! What a report of a class C2 condition asks for. -/

theorem Kept.canAsks {c code : Nat} : Kept s (canAsks c code t) := .ite h.canMissAll.onDev h

theorem Kept.impoAsks {code inst : Nat} : Kept s (impoAsks code inst t) := .ite h.stnSubstitute.onDev h.iteOnDev

theorem Kept.reportAsks {r : Report} : Kept s (reportAsks r t) := by
  refine .ite h ?_
  split
  · exact h.onDev
  · exact h.onDev
  · exact h.onDev
  · exact h.onDev
  · exact h.onDev
  · exact h.onDev.onDev
  · exact h.onDev.onDev
  · exact h.onDev.onDev
  · exact .ite h.onDev.onDev h
  · exact .ite h.onDev.onDev h
  · exact h.onDev.canAsks
  · exact h.onDev.impoAsks
  · exact h

end

end Sys2Proof.Machine
end

section
/-! PROOFS. What every command keeps: it completes, leaves the queue of those that wait, and keeps the memories in canonical form. -/

namespace Sys2Proof.Machine

/-- A command that completes, leaves the queue alone and keeps each memory's canonical form. -/
def Completes (s : State) (o : Host.Outcome State Fault Refusal) : Prop := ∃ t, o = .next t ∧ Kept s t

theorem Completes.state {s : State} {f : State → State} (h : Kept s (f s)) : Completes s (doState f s) := ⟨_, rfl, h⟩

theorem Completes.dev {s : State} {f : Dev → Dev} : Completes s (doDev f s) := ⟨_, rfl, (Kept.refl s).onDev⟩

theorem Completes.live {s : State} {f : State → State} (hf : ∀ t, Kept s t → Kept s (f t)) : Completes s (doState (State.live f) s) :=
  .state ((Kept.refl s).live (hf s (Kept.refl s)))

theorem Completes.reads {s : State} {at_ : State → List (Nat × Nat)} {f : State → State} (hf : ∀ t, Kept s t → Kept s (f t)) :
    Completes s (doState (State.live (reading at_ f)) s) :=
  .live fun _ h => h.reading hf

theorem exec_completes (c : Instr) (s : State) : Completes s (exec c s) := by
  cases c
  case powerGood => exact .state (Kept.refl s).powerGood
  case supplyLoss => exact .state (Kept.refl s).supplyLoss
  case fieldDieReset | fieldDiePowerUp | pltclkOutOfWindow | pwmPeriodStart | fieldLinkFrame |
    fieldLinkLossDie | fieldLinkLossCore | bridgeDisableAssert | bootstrapUv | vgdUv | vdsTrip |
    overcurrentTrip | oclatch | vbruv | vbrov | isum | vph | shadow | oshadow | pageStartWaitEnd |
    startingTimeout | bootstrapPrechargeEnd | calibrationEnd | spqUnderrun | ligatureForm | syncerr | keover |
    standstill | stopto | limitSwitch | tstale | ktUpdate | forceDetection | stallDetection |
    stiffnessDetection | edgeDetection | encoderEdge | hallEdge | hallInvalid | indexEdge | ssiTransferEnd |
    ssiFault | xchk | slip | posStartingDone | tunlkExpiry | tlockExpiry | twarnEnd | treclExpiry |
    referencePressEnd | learnStall | switchChatter | stepInputEdge | holdDelayEnd | openw |
    retractDemandRelease | qFrameReceive | pFrameStatus | pFrameConfig | pFrameTest | platenInputAccept |
    platenHallChange | platenRecordCrcCheck | platenComparatorCheck | darkPulse | discrepancy | loopCloseDelay
    | mirrorCheck | coilReadback | lockSwitchTest | lockTestPulseEnd | holdingTestStart | holdingTestEnd |
    sealScan | resyncTransfer | bistEnd | servicePairFault | serviceWatchdog | fieldInputChange |
    tpoOvercurrent | doOverload | doReadback | doOpenLoad | switchTick | lsInrushEnd | lsHardShort |
    lsOvercurrentTrip | lsPauseEnd | lsRetry | lsTryReset | lsFuseUpdate | lsThermalLatch | lockPullInEnd |
    lkoc | limpInput | busOffRecoveryStart | referenceMessage | ethLinkChange | addressAging | ptpSync |
    neltanSessionTimeout | neltanOpenBlockEnd | tapSamplePreload | debugResume | darkPulseEnd | gridStart |
    ready | vio1Loss | keepAliveLoss | keepAliveSecond | pllLoss | coreReferenceLoss | orientationApply |
    qFrameSend | orimis | pFrameRun | pFrameRestart | pFrameHalt | xlink | pFrameLoss | vpltValid | vpltLow |
    xdec | pcrbad | proofDue | proofStart | prooflate | servicePairRestartDone | tripletDebugHalt |
    serviceDebugHalt | vfldWarnSet | vfldWarnClear | vfldLowSet | vfldLowClear | vfldPfClear | shedStep |
    reffail | ptpSyncTimeout | ptplost | traceCopy | slugPageFlush | holddef | tapBypass | tapIdcode |
    tapExtest | tapClamp | tapHighz | delayReq | stateEncodingCheck | operatingTimeMinute =>
    exact .dev
  case scrub => exact .live fun _ h => h.scrub
  case registerWrite | evSetWrite | shCtrlCommit | shCtrlAbort => exact ⟨_, rfl, (Kept.refl s).busWrite⟩
  case sysDtLoRead | registerRead => exact ⟨_, rfl, (Kept.refl s).busRead.tellRead⟩
  case leafRestCommit => exact .live fun _ h => h.restCommit
  case drvCtrlCal | stepDrvCtrlCal | drvCtrlClrlatch | drvCtrlClrcnt | moveCmdGo | moveCmdStop | moveCmdQstop
    | moveCmdHstop | spqAPush | obsCtrlRebase | obsCtrlClrdet | posCtrlSetref | posCtrlClrflt | posCtrlClrcnt
    | seqCmdOpen | seqCmdClose | seqCmdLearn | seqCmdRefrun | seqCmdAck | seqCmdClrsusp | stpCmdExtend |
    stpCmdRetract | stpCmdInhibit | stpCmdUninh | stpCmdHome | stpCmdAck | stpCmdStop | stpCmdQstop |
    stpCmdHstop | stpCmdClrsusp | safeCtrlTclr | safeCtrlDclr | safeCtrlMclr | safeCtrlGclr | safeCtrlHtreq |
    svcKick | dtsetCtrlSet | fltAck | taskCtrlClrcnt | tpoClr | doClr | lsClrClr | lsClrClrth | lkClr |
    fioCtrlRelease | cfgCtrlSwitch | cfgCtrlCancel | cfgCtrlRstreq | cfgCtrlConfirm | verCtrlGo |
    secCtrlPolinst | secCtrlRollfwd | secCtrlUnlock | nkeyctrlWr =>
    exact ⟨_, rfl, (Kept.refl s).wr⟩
  case tripletTransaction => exact .live fun _ h => h.tripletTransaction
  case debuggerWrite => exact .live fun _ h => h.debuggerWrite
  case faultReport => exact ⟨_, rfl, Kept.onDev ((Kept.refl s).foldl fun _ _ h => h.reportAsks)⟩
  case opLdi | opLdk | opNop | opDup | opDrop | opSwap =>
    exact .reads fun _ h => h.pureOp
  case opLdv => exact .reads fun _ h => h.ldv
  case opStv => exact .reads fun _ h => h.stv
  case opLdin => exact .reads fun _ h => h.ldin
  case opStout => exact .reads fun _ h => h.stout
  case opLdx => exact .reads fun _ h => h.ldx
  case opStx => exact .reads fun _ h => h.stx
  case opAdd | opSub | opMul | opDiv | opMod | opAnd | opOr | opXor | opShl | opShr | opEq | opNe | opLt |
    opLe | opGt | opGe =>
    exact .reads fun _ h => h.op2
  case opNeg | opAbs | opNot | opCvt => exact .reads fun _ h => h.op1
  case opJmp => exact .reads fun _ h => h.jmp
  case opJz | opJnz => exact .reads fun _ h => h.jcond
  case opCall => exact .reads fun _ h => h.callOp
  case opTrap => exact .reads fun _ h => h.trapOp
  case olcPrep => exact .live fun _ h => h.olcPrep
  case vfldPfSet => exact .live fun _ h => h.pfSet
  case canFrameReceived => exact .live fun _ h => h.canReceive
  case canTxComplete => exact .reads fun _ h => h.canTxComplete
  case frameRecordCancel => exact .live fun _ h => h.recordCancel
  case busOff => exact .live fun _ h => h.busOff
  case busOffRecoveryEnd => exact .live fun _ h => h.busOffEnd
  case canIntegrationEnd => exact .live fun _ h => h.canIntegrated
  case slotStart => exact .reads fun _ h => h.slotStart
  case slotEnd => exact .live fun _ h => h.slotEnd
  case stnwait => exact .live fun _ h => h.stnWait
  case ethFrameReceived => exact .live fun _ h => h.ethReceive
  case telegramReceived => exact .live fun _ h => h.teleReceive
  case ringIndexAdvance => exact .reads fun _ h => h.ringAdvance.ringService
  case neltanOpen => exact .state ((Kept.refl s).nelServed (Kept.refl s).nelOpen)
  case neltanRead => exact .state ((Kept.refl s).nelServed ((Kept.refl s).nelRequest fun _ => (Kept.refl s).nelRead))
  case neltanWrite => exact .state ((Kept.refl s).nelServed ((Kept.refl s).nelRequest fun _ => (Kept.refl s).nelWrite))
  case neltanStatus => exact .state ((Kept.refl s).nelServed ((Kept.refl s).nelRequest fun _ => (Kept.refl s).nelStatus))
  case neltanClose => exact .state ((Kept.refl s).nelServed ((Kept.refl s).nelRequest fun _ => (Kept.refl s).nelClose))
  case hpiRead => exact .state (.ite (Kept.refl s).hpiRead (Kept.refl s))
  case hpiWrite => exact .state (.ite (Kept.refl s).hpiWrite (Kept.refl s))
  case slugHandoff => exact .live fun _ h => h.slugHandoff
  case traceSample => exact .live fun _ h => h.traceSample
  case slugPageWrite => exact .reads fun _ h => h.slugPageWrite
  case nandOperationComplete => exact .live fun _ h => h.nandDone
  case recordMemoryRun => exact .live fun _ h => h.recRun
  case recCtrlFormat => exact .live fun _ h => h.recFormat
  case recordReadRequest => exact .live fun _ h => h.recRead
  case folioWrite => exact .live fun _ h => h.folioWrite
  case holdupRetry => exact .live fun _ h => h.holdRetry
  case kerningRecordSave => exact .live fun _ h => h.kernSave
  case fwCodePageFetch => exact .live fun _ h => h.codeFetch
  case settingsWrite => exact .live fun _ h => h.settingsWrite
  case deferredPageApply => exact .live fun _ h => .ite h.deferredApply h
  case settingsOperationComplete => exact .live fun _ h => h.settingsDone
  case startUpSupervisor => exact .state (Kept.refl s).supervisor
  case porstN => exact .state (Kept.refl s).porstN
  case servoPeriodBoundary => exact .live fun _ h => h.servoBoundary
  case programCycleBoundary => exact .live fun _ h => h.programBoundary
  case automaticReset => exact .state (Kept.refl s).automaticReset
  case motionSyncTaskStart => exact .live fun _ h => h.motionSyncStart
  case msovr => exact .live fun _ h => h.msovr
  case mainTaskStart => exact .live fun _ h => h.mainTaskStart
  case overrun | olcSwitch | olcCancel => exact .live fun _ h => h.onDev
  case opRet => exact .reads fun _ h => h.retOp
  case olcReady => exact .live fun _ h => h.olcReady
  case telegramPublish => exact .reads fun _ h => h.telePublish
  case quietReset => exact .live fun _ h => .ite h.quietReset h
  case verificationDone => exact .live fun _ h => h.verificationDone

end Sys2Proof.Machine

open Sys2Proof Sys2Proof.Machine

/-- Settles O2: each arm of the dispatch completes with a state that keeps the queue. -/
theorem commandsComplete : Obligations.CommandsComplete := by
  unfold Obligations.CommandsComplete
  intro s c
  obtain ⟨t, he, ht⟩ := exec_completes c s
  exact ⟨t, he, ht.pending⟩

/-- Settles O5: the command at the front, or the cycle that passes on an empty queue, keeps each memory's canonical form. -/
theorem stepKeepsMemories : Obligations.StepKeepsMemories := by
  unfold Obligations.StepKeepsMemories
  intro s t hs hstep
  unfold step at hstep
  split at hstep
  next c rest _ =>
    obtain ⟨u, he, hu⟩ := exec_completes c { s with pending := rest }
    obtain rfl : u = t := by simpa [he] using hstep
    exact hu.wf hs
  next =>
    obtain rfl : idle s = t := by simpa using hstep
    exact (Kept.refl s).idle.wf hs
end

section
/-! PROOFS. The record memory outside the record engine's own commands. -/

namespace Sys2Proof.Machine

/-- A device in its final commit (R526): the folio record is under way on XS0 and one slug waits for a page of the slug ring, whose
head block is erased. -/
def committing : State :=
  let d := ((State.reset.dev.putB pgREC REC.REC_STAT.FC true).putB pgREC REC.REC_STAT.RUN true).put pgREC REC.HOLD.HOLDC 2000 |>.put pgREC REC.HOLD.VMIN 0
  { State.reset with
    dev := { d with
      boot := { d.boot with up := true }
      rec_ := { d.rec_ with xop := some .folio, fcFolio := true, queue := [{ seq := 0, slot := 0, at_ := 0 }],
                            nand := { slug := { first := 2, blks := 1, erased := 1 } } } } }

theorem committing_alive : committing.dev.alive = true := by decide +kernel

/-- The end of the folio record starts the slug page of the final commit, whose first byte is programmed at once. -/
theorem committing_settingsDone : Memory.get flashEmpty (settingsDone true 10000 committing).xs1 (2 * 131072) = 0 ∧ committing.xs1 = [] := by
  decide +kernel

end Sys2Proof.Machine

open Sys2Proof Sys2Proof.Machine

/-- Refutes O4: `settingsOperationComplete` is not among `writesRecords`, but within a final commit it starts the commit's next
write (`fcNext`), and after the folio record that is a slug page on XS1. -/
theorem not_recordMemoryKept : ¬ Obligations.RecordMemoryKept := by
  unfold Obligations.RecordMemoryKept
  intro h
  have hx : exec (.settingsOperationComplete true 10000) committing = .next (settingsDone true 10000 committing) :=
    congrArg Host.Outcome.next (State.live_of _ committing committing_alive)
  have hkept := h committing _ (.settingsOperationComplete true 10000) rfl hx
  obtain ⟨hbyte, hblank⟩ := committing_settingsDone
  rw [hkept, hblank] at hbyte
  exact absurd hbyte (by decide)
end

section
/-! PROOFS. A core die that is down. -/

namespace Sys2Proof.Machine

section
variable {s : State}

/-- A core die that is down does not run. -/
theorem alive_down (hdown : s.dev.boot.up = false) : s.dev.alive = false := by simp [Dev.alive, hdown]

/-- What is done only while the core die is up is not done. -/
theorem down_if {α : Type} {a b : α} (hdown : s.dev.boot.up = false) : (if s.dev.boot.up then a else b) = b := if_neg (by simp [hdown])

/-- A command that leaves the device as it is leaves the whole state. -/
theorem down_dev {f : Dev → Dev} (hf : f s.dev = s.dev) : doDev f s = .next s :=
  congrArg Host.Outcome.next (show { s with dev := f s.dev } = s by rw [hf])

/-- No source acts on a core die that is down. -/
theorem srcMay_down (src : Src) (w : Bool) (a : Nat) (hdown : s.dev.boot.up = false) : srcMay s.dev src w a = false := by
  simp [srcMay, hdown]

theorem busWrite_down {src : Src} {addr size v : Nat} (hdown : s.dev.boot.up = false) : (busWrite src addr size v s).1 = s := by
  simp [busWrite, srcMay_down src true addr hdown]

theorem nelServed_down (f : State → State) (hdead : s.dev.alive = false) : nelServed f s = s := if_neg (by simp [hdead])

theorem automaticReset_down (hdown : s.dev.boot.up = false) : automaticReset s = s := if_neg (by simp [hdown])

end

theorem exec_down (c : Instr) (s : State) (hdown : s.dev.boot.up = false) (hout : actsOutside c = false) : exec c s = .next s := by
  have hdead := alive_down hdown
  cases c
  case powerGood | supplyLoss | fieldDieReset | fieldDiePowerUp | fieldLinkFrame | fieldLinkLossDie |
    sysDtLoRead | pFrameStatus | platenInputAccept | platenHallChange | platenRecordCrcCheck |
    platenComparatorCheck | darkPulse | discrepancy | loopCloseDelay | mirrorCheck | coilReadback |
    faultReport | fieldInputChange | tpoOvercurrent | doOverload | doReadback | doOpenLoad | switchTick |
    lsInrushEnd | lsHardShort | lsOvercurrentTrip | lsPauseEnd | lsRetry | lsTryReset | lsFuseUpdate |
    lsThermalLatch | lockPullInEnd | lkoc | limpInput | tapSamplePreload | registerRead | darkPulseEnd |
    startUpSupervisor | porstN | vio1Loss | keepAliveLoss | keepAliveSecond | coreReferenceLoss | qFrameSend |
    pFrameLoss | vpltValid | vpltLow | tapBypass | tapIdcode | tapExtest | tapClamp | tapHighz |
    stateEncodingCheck =>
    exact nomatch hout
  case pltclkOutOfWindow | pFrameHalt => exact down_dev (down_if hdown)
  case pwmPeriodStart | fieldLinkLossCore | bridgeDisableAssert | bootstrapUv | vgdUv | vdsTrip |
    overcurrentTrip | oclatch | vbruv | vbrov | isum | vph | shadow | oshadow | pageStartWaitEnd |
    startingTimeout | bootstrapPrechargeEnd | calibrationEnd | spqUnderrun | ligatureForm | syncerr | keover |
    standstill | stopto | limitSwitch | tstale | ktUpdate | forceDetection | stallDetection |
    stiffnessDetection | edgeDetection | encoderEdge | hallEdge | hallInvalid | indexEdge | ssiTransferEnd |
    ssiFault | xchk | slip | posStartingDone | tunlkExpiry | tlockExpiry | twarnEnd | treclExpiry |
    referencePressEnd | learnStall | switchChatter | stepInputEdge | holdDelayEnd | openw |
    retractDemandRelease | qFrameReceive | pFrameConfig | pFrameTest | lockSwitchTest | lockTestPulseEnd |
    holdingTestStart | holdingTestEnd | sealScan | resyncTransfer | bistEnd | servicePairFault |
    serviceWatchdog | busOffRecoveryStart | referenceMessage | ethLinkChange | addressAging | ptpSync |
    neltanSessionTimeout | neltanOpenBlockEnd | debugResume | gridStart | ready | pllLoss | orientationApply |
    orimis | pFrameRun | pFrameRestart | xlink | xdec | pcrbad | proofDue | proofStart | prooflate |
    servicePairRestartDone | tripletDebugHalt | serviceDebugHalt | vfldWarnSet | vfldWarnClear | vfldLowSet |
    vfldLowClear | vfldPfClear | shedStep | reffail | ptpSyncTimeout | ptplost | traceCopy | slugPageFlush |
    holddef | delayReq | operatingTimeMinute =>
    exact down_dev (Dev.live_not _ _ hdead)
  case scrub | leafRestCommit | tripletTransaction | debuggerWrite | opLdi | opLdk | opLdv | opStv | opLdin |
    opStout | opLdx | opStx | opAdd | opSub | opMul | opDiv | opMod | opNeg | opAbs | opAnd | opOr | opXor |
    opNot | opShl | opShr | opEq | opNe | opLt | opLe | opGt | opGe | opCvt | opJmp | opJz | opJnz | opCall |
    opTrap | olcPrep | vfldPfSet | canFrameReceived | canTxComplete | frameRecordCancel | busOff |
    busOffRecoveryEnd | canIntegrationEnd | slotStart | slotEnd | stnwait | ethFrameReceived |
    telegramReceived | ringIndexAdvance | slugHandoff | traceSample | slugPageWrite | nandOperationComplete |
    recordMemoryRun | recCtrlFormat | recordReadRequest | folioWrite | holdupRetry | kerningRecordSave |
    fwCodePageFetch | settingsWrite | deferredPageApply | settingsOperationComplete | servoPeriodBoundary |
    programCycleBoundary | motionSyncTaskStart | msovr | mainTaskStart | overrun | opNop | opDup | opDrop |
    opSwap | opRet | olcReady | olcSwitch | olcCancel | telegramPublish | quietReset | verificationDone =>
    exact congrArg Host.Outcome.next (State.live_not _ s hdead)
  case registerWrite | evSetWrite | shCtrlCommit | shCtrlAbort | drvCtrlCal | stepDrvCtrlCal | drvCtrlClrlatch
    | drvCtrlClrcnt | moveCmdGo | moveCmdStop | moveCmdQstop | moveCmdHstop | spqAPush | obsCtrlRebase |
    obsCtrlClrdet | posCtrlSetref | posCtrlClrflt | posCtrlClrcnt | seqCmdOpen | seqCmdClose | seqCmdLearn |
    seqCmdRefrun | seqCmdAck | seqCmdClrsusp | stpCmdExtend | stpCmdRetract | stpCmdInhibit | stpCmdUninh |
    stpCmdHome | stpCmdAck | stpCmdStop | stpCmdQstop | stpCmdHstop | stpCmdClrsusp | safeCtrlTclr |
    safeCtrlDclr | safeCtrlMclr | safeCtrlGclr | safeCtrlHtreq | svcKick | dtsetCtrlSet | fltAck |
    taskCtrlClrcnt | tpoClr | doClr | lsClrClr | lsClrClrth | lkClr | fioCtrlRelease | cfgCtrlSwitch |
    cfgCtrlCancel | cfgCtrlRstreq | cfgCtrlConfirm | verCtrlGo | secCtrlPolinst | secCtrlRollfwd |
    secCtrlUnlock | nkeyctrlWr =>
    exact congrArg Host.Outcome.next (busWrite_down hdown)
  case neltanOpen | neltanRead | neltanWrite | neltanStatus | neltanClose =>
    exact congrArg Host.Outcome.next (nelServed_down _ hdead)
  case hpiRead | hpiWrite => exact congrArg Host.Outcome.next (down_if hdown)
  case automaticReset => exact congrArg Host.Outcome.next (automaticReset_down hdown)

end Sys2Proof.Machine

open Sys2Proof Sys2Proof.Machine

/-- Settles O3: every arm but those of `actsOutside` asks first whether the core die runs. -/
theorem coreDown : Obligations.CoreDown := by
  unfold Obligations.CoreDown
  exact fun s c hdown hout => exec_down c s hdown hout
end

section
/-! PROOFS. What a cycle that passes with no command waiting leaves alone: the staged values, the count of MOTCLK after its one
cycle, and both flash memories. -/

namespace Sys2Proof.Machine

/-- A change that stages nothing and takes no time, and that brings no upset where none stands. -/
structure Still (c d : Dev) : Prop where
  stg : d.stg = c.stg
  mot : d.tim.mot = c.tim.mot
  upsets : c.tim.upsets = [] → d.tim.upsets = []

theorem Still.refl (d : Dev) : Still d d := ⟨rfl, rfl, id⟩

theorem Still.ite {c : Dev} {p : Prop} [Decidable p] {a b : Dev} (ha : Still c a) (hb : Still c b) : Still c (if p then a else b) := by
  split
  · exact ha
  · exact hb

section
variable {c d : Dev} (h : Still c d)
include h

/-- A change of other parts of the device. -/
theorem Still.of {e : Dev} (hs : e.stg = d.stg) (hm : e.tim.mot = d.tim.mot) (hu : e.tim.upsets = d.tim.upsets) : Still c e :=
  ⟨hs.trans h.stg, hm.trans h.mot, fun hc => hu.trans (h.upsets hc)⟩

theorem Still.each {α : Type} {l : List α} {f : α → Dev → Dev} (hf : ∀ a e, Still c e → Still c (f a e)) : Still c (d.each l f) := by
  unfold Dev.each
  induction l generalizing d with
  | nil => exact h
  | cons a l ih => exact ih (hf a d h)

theorem Still.put {pg : Nat} {f : Fld} {v : Nat} : Still c (d.put pg f v) := h.of rfl rfl rfl
theorem Still.putB {pg : Nat} {f : Fld} {b : Bool} : Still c (d.putB pg f b) := h.put
theorem Still.puti {pg : Nat} {f : Fld} {v : Int} : Still c (d.puti pg f v) := h.put
theorem Still.inc {pg : Nat} {f : Fld} : Still c (d.inc pg f) := h.put
theorem Still.incSat {pg : Nat} {f : Fld} : Still c (d.incSat pg f) := h.put
theorem Still.ev {pg n : Nat} : Still c (d.ev pg n) := h.of rfl rfl rfl
theorem Still.evIf {b : Bool} {pg n : Nat} : Still c (d.evIf b pg n) := .ite h.ev h
theorem Still.channel {x : SafeX} : Still c { d with sx := x } := h.of rfl rfl rfl
theorem Still.platen {x : PlatenX} {y : PlatenY} : Still c { d with px := x, py := y } := h.of rfl rfl rfl
theorem Still.drew : Still c d.drew := h.of rfl rfl rfl

theorem Still.modDrv {a : Nat} {f : DrvX → DrvX} : Still c (d.modDrv a f) := .ite (h.of rfl rfl rfl) (h.of rfl rfl rfl)
theorem Still.modMvx {a : Nat} {f : RecX → RecX} : Still c (d.modMvx a f) := .ite (h.of rfl rfl rfl) (h.of rfl rfl rfl)
theorem Still.modTask {t : TaskId} {f : TaskX → TaskX} : Still c (d.modTask t f) := by
  cases t <;> exact h.of rfl rfl rfl
theorem Still.modPrf {n : Nat} {f : PrfX → PrfX} : Still c (d.modPrf n f) := h.of rfl rfl rfl
theorem Still.modLig {n : Nat} {f : LigX → LigX} : Still c (d.modLig n f) := h.of rfl rfl rfl
theorem Still.modDy {n : Nat} {f : DieY → DieY} : Still c (d.modDy n f) := h.of rfl rfl rfl
theorem Still.modOb {n : Nat} {f : ObsX → ObsX} : Still c (d.modOb n f) := h.of rfl rfl rfl
theorem Still.modEm {n : Nat} {f : EmuX → EmuX} : Still c (d.modEm n f) := h.of rfl rfl rfl
theorem Still.modDi {n : Nat} {f : DieX → DieX} : Still c (d.modDi n f) := h.of rfl rfl rfl
theorem Still.modSeq {n : Nat} {f : SeqX → SeqX} : Still c (d.modSeq n f) := h.of rfl rfl rfl
theorem Still.modStp {k : Nat} {f : _} : Still c (d.modStp k f) := h.of rfl rfl rfl
theorem Still.modWin {k : Nat} {f : _} : Still c (d.modWin k f) := h.of rfl rfl rfl

end

/-- What a report does to the device stages nothing and takes no time. -/
theorem reportKeeps_still (c : Dev) : ReportKeeps (Still c) where
  flt _ _ h := h.of rfl rfl rfl
  ev _ _ h := h.ev
  info _ _ h := h.put
  cnt _ _ h := h.put
  gates _ _ _ h := h.modDrv.put
  stop _ _ h := h.modPrf
  hard _ _ h := h.modSeq
  lock _ _ h := h.of rfl rfl rfl
  chan _ _ _ _ h := h.of rfl rfl rfl
  forme _ _ h := h.of rfl rfl rfl
  frm _ _ h := h.put
  rec_ _ _ _ h := h.of rfl rfl rfl
  anom _ _ _ h := h.of rfl rfl rfl

section
variable {c d : Dev} (h : Still c d)
include h

theorem Still.report {cls page inst cause : Nat} : Still c (d.report cls page inst cause) := (reportKeeps_still c).report _ _ _ _ d h
theorem Still.raise {pg : Nat} {x : Cause} {inst : Nat} : Still c (d.raise pg x inst) := (reportKeeps_still c).raise _ _ _ d h
theorem Still.fault {pg : Nat} {x : Cause} {inst : Nat} : Still c (d.fault pg x inst) :=
  (reportKeeps_still c).fault (fun _ _ h => h.of rfl rfl rfl) _ _ _ d h

theorem Still.setMode {a m : Nat} : Still c (setMode a m d) := h.modDrv.put.putB
theorem Still.gatesOff {a : Nat} : Still c (gatesOff a d) := h.modDrv.put
theorem Still.diagInc {a : Nat} {f : Fld} {up : _} : Still c (diagInc a f up d) := .ite h.modDrv h.incSat
theorem Still.pageRun {a : Nat} : Still c (pageRun a d) := .ite h.put.modStp h.put
theorem Still.calOff {a : Nat} : Still c (calOff a d) := by
  unfold Machine.calOff
  exact h.setMode.modDrv

theorem Still.calAbort {a : Nat} : Still c (calAbort a d) := by
  have ended := h.modDrv (a := a) (f := fun x => { x with cal := {}, step := .none })
  exact .ite (.ite ended.calOff.put.ev.raise.pageRun ended.calOff.put.ev.raise) h

theorem Still.reqStop {n kind : Nat} {own : Bool} : Still c (reqStop n kind own d) := .ite h.modPrf.modSeq h.modPrf
theorem Still.seqFault {n code : Nat} : Still c (seqFault n code d) := h.modSeq

/-! The Platen die's decisions, when a HALT frame reaches it (R298). -/

theorem Still.bridgeDisable {n : Nat} : Still c (bridgeDisable n d) := by
  have off := h.calAbort (a := n)
  refine .ite ?_ h
  exact (fun (told : Still c _) => .ite told.reqStop.seqFault told) (.ite off.gatesOff.modDrv.putB.putB off.gatesOff.modDrv.putB.putB.ev.raise)

theorem Still.pltDrive {lken bdis coil : Nat} : Still c (pltDrive lken bdis coil d) := by
  refine Still.each (Still.each h.platen fun _ _ h => h.modDy) fun n e h => ?_
  exact .ite h (.ite h.bridgeDisable h.modDrv.putB)

theorem Still.pltWeigh : Still c (pltWeigh d) := .ite h.platen.pltDrive (.ite h.platen.pltDrive h.platen.pltDrive)

theorem Still.pltSafe {diag : Nat} : Still c (pltSafe diag d) := .ite h h.platen.pltWeigh

theorem Still.pltTake {good : Bool} {seq : Nat} : Still c (pltTake good seq d).1 := by
  unfold Machine.pltTake
  extract_lets bad
  clear_value bad
  split
  · exact h
  · split
    · exact h.platen
    · exact h.platen

theorem Still.pFrameHalt : Still c (pFrameHalt d) := by
  exact .ite (.ite h.channel.pltTake.pltSafe h.channel.pltTake) h

theorem Still.initTimeout : Still c (initTimeout d) := .ite h.modTask.raise h

/-! The axis valleys (R63). -/

theorem Still.ligDissolve {e : Nat} : Still c (ligDissolve e d) := .ite h.modLig.ev.ev h

theorem Still.takeHard {n : Nat} : Still c (takeHard n d) :=
  .ite ((Still.ite h.ligDissolve.reqStop.modSeq h).modPrf.put.calAbort.gatesOff.setMode.modSeq).modDy.ev h.modPrf

theorem Still.posPwm {a : Nat} : Still c (posPwm a d) := .ite (h.of rfl rfl rfl) (h.of rfl rfl rfl)
theorem Still.prechargeStep {a : Nat} : Still c (prechargeStep a d) := .ite h.modDrv h
theorem Still.calStep {a : Nat} : Still c (calStep a d) := .ite h.modDrv h
theorem Still.valleyDrive {a : Nat} {x : Tri} : Still c (valleyDrive a x d) := by
  unfold Machine.valleyDrive
  exact (Still.ite h.modDrv.gatesOff h.modDrv).modDrv

theorem Still.publishDrive {n : Nat} {i : Ph3} {idq : Int × Int} {vd vq : Int} {vbr : Nat} {vph : Tri} :
    Still c (publishDrive n i idq vd vq vbr vph d) := h.puti.puti.puti.put.puti.puti.puti.puti.put.put.put

theorem Still.regenEpisode {n : Nat} {act : Bool} : Still c (regenEpisode n act d) := .ite h.modDrv.ev.raise h.modDrv
theorem Still.freshPeriod {n : Nat} : Still c (freshPeriod n d) := by
  unfold Machine.freshPeriod
  exact h.modDrv.publishDrive.regenEpisode

theorem Still.stalePeriod {n : Nat} : Still c (stalePeriod n d) := h.diagInc.ev

theorem Still.takeMode {n : Nat} : Still c (takeMode n d) := by
  unfold Machine.takeMode
  simp only
  split
  · exact h
  · exact .ite h (.ite h.setMode (.ite h.modDrv (.ite h.setMode.modDrv h.setMode)))

theorem Still.publishSlow {n : Nat} : Still c (publishSlow n d) := h.put.put.put.puti.puti.puti.puti.puti

theorem Still.takeAges {a : Nat} : Still c (takeAges a d) := by
  unfold Machine.takeAges
  exact h.modDrv

theorem Still.pwmLeaf {n : Nat} : Still c (pwmLeaf n d) :=
  .ite h.takeAges.valleyDrive.calStep.publishSlow
    (Still.ite h.takeAges.freshPeriod h.takeAges.stalePeriod).valleyDrive.calStep.takeMode.publishSlow

theorem Still.vlimCount {n : Nat} : Still c (vlimCount n d) := .ite h.modDrv.diagInc h

theorem Still.leafValley {n : Nat} : Still c (leafValley n d) := by
  have hard : Still c (Machine.takeHard n (if d.get pgCLK CLK.GRID.PWM = 1 then takeIq n d else d)) := (Still.ite h.modDrv h).takeHard
  unfold Machine.leafValley
  exact (fun (ready : Still c _) => (Still.ite ready.vlimCount ready).pwmLeaf.modOb) (Still.ite hard.posPwm hard).prechargeStep

theorem Still.stepSwitchPwm {k : Nat} : Still c (stepSwitchPwm k d) := by
  unfold Machine.stepSwitchPwm
  exact h.modStp

theorem Still.externalStep {k : Nat} : Still c (externalStep k d) := by
  unfold Machine.externalStep
  exact (Still.ite h.modWin.putB h).modStp.evIf.modWin

theorem Still.advanceM {k : Nat} : Still c (advanceM k d) := .ite h.modStp (.ite h.externalStep h.modStp)

theorem Still.boldFace {k ra rb ea eb : Nat} : Still c (boldFace k ra rb ea eb d) := by
  unfold Machine.boldFace
  exact h.modWin.modDrv

theorem Still.lightFace {k : Nat} {okA okB : Bool} : Still c (lightFace k okA okB d) := by
  unfold Machine.lightFace
  exact h.modWin.modDrv

theorem Still.publishWind {k : Nat} : Still c (publishWind k d) := by
  unfold Machine.publishWind
  exact (Still.ite h.puti.puti h).puti.puti

theorem Still.pwmStep {chop k : Nat} : Still c (pwmStep chop k d) := by
  unfold Machine.pwmStep
  extract_lets a aged st fresh sampled tested okA okB endA endB gated
  have haged : Still c aged := h.stepSwitchPwm.takeAges
  have hsampled : Still c sampled := .ite haged.incSat.ev haged
  have htested : Still c tested := .ite (.ite hsampled.modWin hsampled.modWin.modDrv) hsampled
  have hgated : Still c gated := htested.modWin.valleyDrive
  clear_value aged sampled tested gated
  exact .ite haged.valleyDrive.calStep (Still.ite (.ite hgated.advanceM.boldFace hgated.advanceM.lightFace) hgated).calStep.publishWind

theorem Still.stepValley {k : Nat} : Still c (stepValley k d) := by
  unfold Machine.stepValley
  exact (Still.ite h.posPwm h).prechargeStep.pwmStep

theorem Still.valleyTail : Still c (valleyTail d) := by
  unfold Machine.valleyTail Machine.recPwm
  refine .each (.each (.each (.each h fun k e h => ?_) fun _ _ h => h.modDi) fun _ _ h => h.modMvx) fun _ _ h => h.modMvx
  exact h.modEm.put.putB.putB.putB

end

end Sys2Proof.Machine
end

section
/-! PROOFS. A cycle of FABCLK with no command waiting (assumption log 33). -/

namespace Sys2Proof.Machine

section
variable {c d : Dev} (h : Still c d)
include h

theorem Still.net {x : NetX} : Still c { d with net := x } := h.of rfl rfl rfl

theorem Still.imd {x : ImdX} : Still c { d with imd := x } := h.of rfl rfl rfl
theorem Still.svc {x : SvcX} : Still c { d with svc := x } := h.of rfl rfl rfl
theorem Still.axv {n : Nat} : Still c { d with tim := { d.tim with axv := n } } := h.of rfl rfl rfl
theorem Still.eccHist {l : List (Nat × Nat)} : Still c { d with tim := { d.tim with eccHist := l } } := h.of rfl rfl rfl
theorem Still.modRec {f : RecSt → RecSt} : Still c (d.modRec f) := h.of rfl rfl rfl
theorem Still.modEth {f : EthX → EthX} : Still c (d.modEth f) := h.net

/-- An axis valley that has come takes no time: time has passed up to it. -/
theorem Still.passTo {t : Nat} (ht : t ≤ d.tim.mot) : Still c (passTo t d) := by
  have hn : t - d.tim.mot = 0 := by omega
  refine h.of rfl ?_ rfl
  show d.tim.mot + (t - d.tim.mot) = d.tim.mot
  omega

theorem Still.runAxes {n : Nat} : Still c (runAxes false n d) := by
  induction n generalizing d with
  | zero => exact h
  | succ n ih =>
    unfold Machine.runAxes
    split
    · exact h
    next a _ =>
    split
    · exact h
    next hcome =>
      have done := (h.passTo (t := axisValley d a) (by simpa using hcome)).axv (n := setBit (Machine.passTo (axisValley d a) d).tim.axv a false)
      refine ih ((fun (x : Still c _) => .ite x.valleyTail x) ?_)
      exact .ite done.leafValley done.stepValley

/-! The external Ethernet ports and the telegram engine (R477, R484). -/

theorem Still.ethQueue {p pcp : Nat} {f : EthFrame} {tc : Option Nat} : Still c (ethQueue p pcp f tc d) := .ite h.incSat.ev h.modEth

theorem Still.peerFollow {p : Nat} {f : EthFrame} : Still c (peerFollow p f d) := .ite h.ethQueue h

theorem Still.ethDrainPort {p : Nat} : Still c (ethDrainPort p d) := by
  unfold Machine.ethDrainPort
  extract_lets busy
  refine .ite h ?_
  split
  · split
    · exact h.modEth.inc.net.peerFollow
    · exact h
  · exact h

theorem Still.ethDrain : Still c (ethDrain d) := h.ethDrainPort.ethDrainPort

theorem Still.ethEgress {k p vid pcp : Nat} {f : EthFrame} {tc : Option Nat} : Still c (ethEgress k p vid pcp f tc d) := .ite h.ethQueue h

/-! An upset that an access meets (R42, R43). -/

theorem Still.publishLanes : Still c (publishLanes d) := h.put.put.put.put

theorem Still.setLane {i : Nat} {st : LaneState} : Still c (setLane i st d) := h.imd.publishLanes

theorem Still.countLane {i : Nat} {x : Cause} : Still c (countLane i x d) := h.imd.put.incSat.put.put.put.put.ev

theorem Still.laneFault {i : Nat} {x : Cause} : Still c (laneFault i x d) := by
  refine .ite h (.ite h.raise ?_)
  exact (fun (y : Still c _) => .ite y.setLane.ev.raise y.imd.setLane) h.countLane.raise

theorem Still.leafFault {n pg inst path : Nat} {x : Cause} : Still c (leafFault n pg x inst path d) := h.fault.reqStop.seqFault

theorem Still.axisFault {a inst path : Nat} {x : Cause} : Still c (axisFault a x inst path d) :=
  .ite h.leafFault (.ite h.fault.modStp h.fault.modStp)

theorem Still.ktEcc {n : Nat} : Still c (ktEcc n d) := .ite (Still.each h fun _ _ h => h.put.put).inc.inc.leafFault h

theorem Still.coefEcc {a : Nat} : Still c (coefEcc a d) := .ite h.modDrv.putB.calAbort.gatesOff.putB.axisFault h

theorem Still.recPublish : Still c (recPublish d) := h.put.put.putB.putB

theorem Still.svcRestart {code core : Nat} : Still c (svcRestart code core d) := by
  unfold Machine.svcRestart
  extract_lets sp one counted stop0 stop1 src stopped told
  have hstopped : Still c stopped := h.incSat.put.svc
  have htold : Still c told := .ite hstopped.putB.putB.put hstopped
  exact htold.ev.net

theorem Still.servicePairFault {f : SvcFault} {core : Nat} : Still c (servicePairFault f core d) := .ite h.fault.svcRestart h

theorem Still.eccEntry {cls : Nat} : Still c (eccEntry cls d) := h.report.drew

theorem Still.eccSingle {x : EccHit} : Still c (eccSingle x d) := by
  unfold Machine.eccSingle
  extract_lets k entered told recent n
  have htold : Still c told := by
    unfold told
    split
    · exact h.eccEntry.incSat.ev
    · exact h.eccEntry
  clear_value told
  exact .ite htold.eccHist.eccEntry htold.eccHist

end

/-- The state with a device on which nothing was staged and no time passed. -/
def StillDev (s t : State) : Prop := ∃ d, Still s.dev d ∧ t = { s with dev := d }

theorem StillDev.refl (s : State) : StillDev s s := ⟨s.dev, .refl _, rfl⟩

theorem stillDev_teleSend {s t : State} (i : Nat) (h : StillDev s t) : StillDev s (teleSend i t) := by
  obtain ⟨d, hd, rfl⟩ := h
  unfold teleSend
  split
  · exact ⟨d, hd, rfl⟩
  next x _ =>
  split
  · exact ⟨d, hd, rfl⟩
  · refine ⟨_, ?_, rfl⟩
    simp only
    split
    · exact .each hd.net.drew.net.inc fun _ _ h => h.ethEgress
    · exact hd.net.drew.net.inc.incSat

theorem stillDev_teleRun {s t : State} (l : List Nat) (h : StillDev s t) : StillDev s (teleRun l t) := by
  induction l generalizing t with
  | nil => exact h
  | cons i l ih =>
    unfold teleRun
    split
    · split
      · exact h
      · exact ih (stillDev_teleSend i h)
    · exact h

theorem stillDev_teleGo {s t : State} (h : StillDev s t) : StillDev s (teleGo t) := by
  unfold teleGo
  split
  · exact stillDev_teleRun _ h
  · exact h

/-- A change of the SRAM and of a device on which nothing was staged and no time passed. -/
structure StillFlash (s t : State) : Prop where
  pending : t.pending = s.pending
  xs0 : t.xs0 = s.xs0
  xs1 : t.xs1 = s.xs1
  dev : Still s.dev t.dev

theorem StillFlash.onDev {s t : State} {f : Dev → Dev} (h : StillFlash s t) (hf : Still t.dev (f t.dev)) : StillFlash s (t.onDev f) :=
  ⟨h.pending, h.xs0, h.xs1, hf.stg.trans h.dev.stg, hf.mot.trans h.dev.mot, fun hc => hf.upsets (h.dev.upsets hc)⟩

theorem StillFlash.foldl {α : Type} {s t : State} {l : List α} {f : State → α → State} (h : StillFlash s t)
    (hf : ∀ a u, StillFlash s u → StillFlash s (f u a)) : StillFlash s (l.foldl f t) := by
  induction l generalizing t with
  | nil => exact h
  | cons a l ih => exact ih (hf a t h)

theorem StillFlash.ringDiscard {s t : State} (k j : Nat) (h : StillFlash s t) : StillFlash s (ringDiscard k j t) := by
  unfold Machine.ringDiscard
  simp only
  split
  · exact h
  · exact ⟨h.pending, h.xs0, h.xs1, h.dev⟩

theorem StillFlash.packetDiscard {s t : State} (a : Nat) (h : StillFlash s t) : StillFlash s (packetDiscard a t) :=
  h.foldl fun k u hu => by
    split
    · exact hu
    · simp only
      split
      · exact hu.ringDiscard _ _
      · exact hu

theorem StillFlash.eccMeet {s t : State} (x : EccHit) (h : StillFlash s t) : StillFlash s (eccMeet x t) := by
  unfold Machine.eccMeet
  split
  · unfold eccDouble
    simp only
    split
    · exact h.onDev (Still.refl _).eccEntry
    · exact h.onDev (Still.refl _).eccEntry
    · exact h.onDev (Still.refl _).eccEntry
    · exact h.onDev (Still.refl _).modRec.raise.recPublish
    · exact (h.packetDiscard _).onDev (Still.refl _).eccEntry
    · exact h.onDev (Still.refl _).servicePairFault
    · exact h.onDev (Still.refl _).ktEcc
    · exact h.onDev (Still.refl _).coefEcc
    · exact h.onDev (Still.refl _).laneFault
    · exact h.onDev (Still.refl _).servicePairFault
  · exact h.onDev (Still.refl _).eccSingle

theorem StillFlash.eccAccess {s t : State} (a n : Nat) (h : StillFlash s t) : StillFlash s (eccAccess a n t) :=
  (h.onDev ⟨rfl, rfl, fun hc => by simp [hc]⟩).foldl fun x _ hu => hu.eccMeet x

/-- Reading words none of which is wrong changes nothing. -/
theorem eccAccess_clean (a n : Nat) (s : State) (h : s.clean) : eccAccess a n s = s := by
  have hnone : s.dev.tim.upsets = [] := h
  have htim : { s.dev.tim with upsets := [] } = s.dev.tim := by rw [← hnone]
  simp only [eccAccess, hnone, List.filter_nil, List.foldl_nil, State.onDev, htim]

theorem reading_clean (at_ : State → List (Nat × Nat)) (f : State → State) (s : State) (h : s.clean) : reading at_ f s = f s := by
  have hl : ∀ l : List (Nat × Nat), l.foldl (fun s x => eccAccess x.1 x.2 s) s = s := by
    intro l
    induction l with
    | nil => rfl
    | cons x l ih => rw [List.foldl_cons, eccAccess_clean _ _ _ h, ih]
  exact congrArg f (hl _)

/-- What the telegram engine does in a cycle stages nothing and takes no time, and changes memory only where an upset stands. -/
theorem stillFlash_teleWork (s : State) : StillFlash s (teleWork s) ∧ (s.clean → (teleWork s).mem = s.mem) := by
  unfold teleWork
  split
  · have access : StillFlash s ((teleReads s).foldl (fun s x => eccAccess x.1 x.2 s) s) :=
      StillFlash.foldl ⟨rfl, rfl, rfl, .refl _⟩ fun x _ h => h.eccAccess x.1 x.2
    constructor
    · obtain ⟨d, hd, hgo⟩ := stillDev_teleGo (.refl ((teleReads s).foldl (fun s x => eccAccess x.1 x.2 s) s))
      have hr : reading teleReads teleGo s = { (teleReads s).foldl (fun s x => eccAccess x.1 x.2 s) s with dev := d } := hgo
      rw [hr]
      exact access.onDev (f := fun _ => d) hd
    · intro hc
      obtain ⟨d, -, hgo⟩ := stillDev_teleGo (.refl s)
      rw [reading_clean _ _ _ hc, hgo]
  · exact ⟨⟨rfl, rfl, rfl, .refl _⟩, fun _ => rfl⟩

/-- What a cycle does to the device once its time has passed. -/
def cycleWork (t : TimeX) (d : Dev) : Dev :=
  let d := initTimeout d
  let d := if t.grid && t.started && !t.bk then d else pFrameHalt d
  if d.alive then ethDrain (runAxes false 12 d) else d

theorem still_cycleWork (t : TimeX) (d : Dev) : Still d (cycleWork t d) := by
  have timed : Still d (initTimeout d) := (Still.refl d).initTimeout
  have told : Still d (if t.grid && t.started && !t.bk then initTimeout d else pFrameHalt (initTimeout d)) := .ite timed timed.pFrameHalt
  exact .ite told.runAxes.ethDrain told

/-- A cycle that passes: time goes on by at most one count, the device works, and the telegram engine sends. -/
theorem idle_eq (s : State) : ∃ t : TimeX, t.upsets = s.dev.tim.upsets ∧ s.dev.tim.mot ≤ t.mot ∧ t.mot ≤ s.dev.tim.mot + 1 ∧
    idle s = teleWork { s with dev := cycleWork s.dev.tim { s.dev with tim := t } } := by
  by_cases held : (s.dev.tim.grid && s.dev.tim.started && !s.dev.tim.bk && decide (s.dev.tim.valley + pwmMot ≤ s.dev.tim.mot + 1)) = true
  · refine ⟨s.dev.tim, rfl, Nat.le_refl _, Nat.le_succ _, ?_⟩
    simp only [idle, State.onDev, held, if_true, cycleWork]
  · refine ⟨s.dev.tim.pass 1, rfl, Nat.le_succ _, Nat.le_refl _, ?_⟩
    simp only [idle, State.onDev, held, cycleWork]
    rfl

end Sys2Proof.Machine

open Sys2Proof Sys2Proof.Machine

/-- Settles O1: the front of the queue by definition, the cycle by what each of its stages leaves alone. -/
theorem stepRunsFront : Obligations.StepRunsFront := by
  unfold Obligations.StepRunsFront
  refine ⟨fun _ _ _ => rfl, fun s hpend => ?_⟩
  obtain ⟨t, hups, hge, hle, hidle⟩ := idle_eq s
  have work := still_cycleWork s.dev.tim { s.dev with tim := t }
  obtain ⟨tele, hmem⟩ := stillFlash_teleWork { s with dev := cycleWork s.dev.tim { s.dev with tim := t } }
  have hmot : (idle s).dev.tim.mot = t.mot := by rw [hidle]; exact tele.dev.mot.trans work.mot
  refine ⟨idle s, ?_, ?_, ?_, ?_, fun hc => ⟨?_, ?_⟩, ?_, ?_⟩
  · unfold step; rw [hpend]
  · rw [hidle]; exact tele.pending.trans hpend
  · rw [hidle]; exact tele.xs0
  · rw [hidle]; exact tele.xs1
  · rw [hidle]; exact hmem (work.upsets (hups.trans hc))
  · rw [hidle]; exact tele.dev.stg.trans work.stg
  · omega
  · omega
end

section
/-! PROOFS. Ops of the forme: what an op that succeeds leaves and what a trap leaves (R395, R405). -/

namespace Sys2Proof.Machine

/-! A command of a core die that runs, with memories that hold no upset. -/

theorem next_of_live {f : State → State} {s : State} {P : State → Prop} (halive : s.dev.alive = true) (h : P (f s)) :
    ∃ t, doState (State.live f) s = .next t ∧ P t := ⟨f s, congrArg Host.Outcome.next (State.live_of f s halive), h⟩

theorem next_of_reading {at_ : State → List (Nat × Nat)} {f : State → State} {s : State} {P : State → Prop}
    (halive : s.dev.alive = true) (hclean : s.clean) (h : P (f s)) : ∃ t, doState (State.live (reading at_ f)) s = .next t ∧ P t :=
  next_of_live halive (by rw [reading_clean _ _ _ hclean]; exact h)

/-! Tasks. -/

@[simp] theorem Dev.task_modTask_same (k : TaskId) (f : TaskX → TaskX) (d : Dev) : (d.modTask k f).task k = f (d.task k) := by
  cases k <;> rfl

theorem Dev.task_modTask_ne (k j : TaskId) (f : TaskX → TaskX) (d : Dev) (h : j ≠ k) : (d.modTask k f).task j = d.task j := by
  cases k <;> cases j <;> simp [Dev.modTask, Dev.task] at h ⊢

@[simp] theorem Dev.act_modTask (k : TaskId) (f : TaskX → TaskX) (d : Dev) : (d.modTask k f).act = d.act := by cases k <;> rfl

@[simp] theorem Dev.get_modTask (k : TaskId) (f : TaskX → TaskX) (d : Dev) (pg : Nat) (g : Fld) : (d.modTask k f).get pg g = d.get pg g := by
  cases k <;> rfl

/-! A report leaves the tasks (R395: what aborts a task is a trap of its own). -/

theorem forme_haltAxes (d : Dev) : (haltAxes d).forme = d.forme := by
  have gates : (d.each (List.range 12) gatesOff).forme = d.forme :=
    Dev.each_ind (fun e => e.forme = d.forme) _ _ _ (fun a e h => by
      unfold gatesOff Dev.modDrv
      split <;> exact h) rfl
  exact Dev.each_ind (fun e => e.forme = d.forme) _ _ _ (fun _ _ h => h)
    (Dev.each_ind (fun e => e.forme = d.forme) _ _ _ (fun _ _ h => h)
      (Dev.each_ind (fun e => e.forme = d.forme) _ _ _ (fun _ _ h => h) gates))

/-- A halt stops the forme but leaves its tasks and what waits for the error task. -/
structure TasksKept (d e : Dev) : Prop where
  task : ∀ k, e.task k = d.task k
  reasons : e.forme.reasons = d.forme.reasons
  closeMot : e.forme.closeMot = d.forme.closeMot

theorem TasksKept.of_forme {c d e : Dev} (h : TasksKept c d) (he : e.forme = d.forme) : TasksKept c e :=
  ⟨fun k => by rw [← h.task k]; cases k <;> simp only [Dev.task, he], by rw [he]; exact h.reasons, by rw [he]; exact h.closeMot⟩

theorem TasksKept.placeEntry {c d : Dev} (h : TasksKept c d) (e : FEnt) : TasksKept c (placeEntry e d) := by
  obtain ⟨_, _, _, he⟩ := placeEntry_eq e d
  exact h.of_forme (by rw [he])

theorem TasksKept.trimQueue {c d : Dev} (h : TasksKept c d) : TasksKept c (trimQueue d) := by
  obtain ⟨_, _, _, he⟩ := trimQueue_eq d
  exact h.of_forme (by rw [he])

theorem TasksKept.haltForme {c d : Dev} (h : TasksKept c d) : TasksKept c (haltForme d) :=
  ⟨fun k => by rw [← h.task k]; cases k <;> rfl, h.reasons, h.closeMot⟩

theorem forme_haltCoils (d : Dev) : (haltCoils d).forme = d.forme := rfl

theorem TasksKept.haltOrders {c d : Dev} (h : TasksKept c d) : TasksKept c (haltOrders d) :=
  ((h.of_forme (forme_haltAxes d)).of_forme (forme_haltCoils _)).haltForme

theorem TasksKept.orderHalt {c d : Dev} (h : TasksKept c d) (e : FEnt) : TasksKept c (orderHalt e d) := by
  unfold Machine.orderHalt
  split
  · exact h
  · refine TasksKept.haltOrders (d := Dev.ev pgFLT Ev.FLT.HALT _) ?_
    exact h.of_forme rfl

theorem TasksKept.arriveEntry {c d : Dev} (h : TasksKept c d) (e : FEnt) : TasksKept c (arriveEntry e d) := by
  have placed : TasksKept c (if e.cls = 3 then Machine.orderHalt e (Machine.placeEntry e d) else Machine.placeEntry e d) := by
    split
    · exact (h.placeEntry e).orderHalt e
    · exact h.placeEntry e
  unfold Machine.arriveEntry
  extract_lets above q newOvf
  refine TasksKept.trimQueue (d := if newOvf then _ else _) ?_
  split
  · exact (placed.placeEntry q).orderHalt q
  · exact placed

theorem TasksKept.info {c d : Dev} (h : TasksKept c d) (v : Nat) :
    TasksKept c (((d.put pgFLT FLT.INFO.ENTRY v).inc pgFLT FLT.INFO_CNT.COUNT).ev pgFLT Ev.FLT.INFO) := by
  refine h.of_forme ?_
  unfold Dev.ev Dev.inc
  simp only [Dev.put_forme]

theorem TasksKept.report {c d : Dev} (h : TasksKept c d) (cls pg inst cause : Nat) : TasksKept c (d.report cls pg inst cause) := by
  unfold Dev.report
  extract_lets e
  split
  · exact h.info _
  · refine TasksKept.arriveEntry (h.of_forme ?_) e
    unfold markAnomaly
    split
    · exact Dev.modKn_forme ..
    · rfl

theorem TasksKept.raise {c d : Dev} (h : TasksKept c d) (pg : Nat) (x : Cause) (inst : Nat) : TasksKept c (d.raise pg x inst) := h.report ..

/-! What a trap shows (R395). -/

/-- The places of the fields that show a trap. -/
def trapPlaces : List Nat := [FRM.TRAPINFO.CODE.place, FRM.TRAPINFO.TASK.place, FRM.TRAPINFO.WORD.place, HDR.EV_STAT.place]

/-- Task `k` has been aborted with a code at a code word: what `TRAPINFO` and the events of FRM show, and what stays of it. -/
structure TrapShown (k : TaskId) (code word : Nat) (d : Dev) : Prop where
  aborted : k ≠ .error → (d.task k).st = .aborted
  code_eq : d.get pgFRM FRM.TRAPINFO.CODE = code
  task_eq : d.get pgFRM FRM.TRAPINFO.TASK = k.code
  word_eq : d.get pgFRM FRM.TRAPINFO.WORD = word
  raised : d.raised pgFRM Ev.FRM.TRAP = true

section
variable {k : TaskId} {code word : Nat} {d : Dev} (h : TrapShown k code word d)
include h

theorem TrapShown.of {e : Dev} (htask : k ≠ .error → e.task k = d.task k) (hact : e.act = d.act) : TrapShown k code word e := by
  obtain ⟨ha, hc, ht, hw, hr⟩ := h
  refine ⟨fun hk => by rw [htask hk]; exact ha hk, ?_, ?_, ?_, ?_⟩ <;> simpa only [Dev.raised, Dev.get, hact]

theorem TrapShown.put {pg : Nat} {f : Fld} {v : Nat} (hpl : f.place ∉ trapPlaces) : TrapShown k code word (d.put pg f v) := by
  obtain ⟨ha, hc, ht, hw, hr⟩ := h
  simp only [trapPlaces, List.mem_cons, List.not_mem_nil, or_false, not_or] at hpl
  obtain ⟨h1, h2, h3, h4⟩ := hpl
  exact ⟨ha, (Dev.get_put_place _ _ _ _ _ _ (Ne.symm h1)).trans hc, (Dev.get_put_place _ _ _ _ _ _ (Ne.symm h2)).trans ht,
    (Dev.get_put_place _ _ _ _ _ _ (Ne.symm h3)).trans hw, (Dev.raised_put_place _ _ _ _ _ _ (Ne.symm h4)).trans hr⟩

theorem TrapShown.inc {pg : Nat} {f : Fld} (hpl : f.place ∉ trapPlaces) : TrapShown k code word (d.inc pg f) := h.put hpl

theorem TrapShown.incSat {pg : Nat} {f : Fld} (hpl : f.place ∉ trapPlaces) : TrapShown k code word (d.incSat pg f) := h.put hpl

theorem TrapShown.ev {pg n : Nat} : TrapShown k code word (d.ev pg n) := by
  obtain ⟨ha, hc, ht, hw, hr⟩ := h
  exact ⟨fun hk => by rw [← ha hk]; cases k <;> rfl, (Dev.get_ev_place _ _ _ _ _ (by decide)).trans hc, (Dev.get_ev_place _ _ _ _ _ (by decide)).trans ht,
    (Dev.get_ev_place _ _ _ _ _ (by decide)).trans hw, Dev.raised_ev_keep _ _ _ _ _ (by decide) hr⟩

theorem TrapShown.raise {pg : Nat} {x : Cause} {inst : Nat} : TrapShown k code word (d.raise pg x inst) := by
  obtain ⟨ha, hc, ht, hw, hr⟩ := h
  have tasks := (⟨fun _ => rfl, rfl, rfl⟩ : TasksKept d d).raise pg x inst
  exact ⟨fun hk => by rw [tasks.task]; exact ha hk, (Dev.get_raise_ne _ _ _ _ _ _ (by decide)).trans hc,
    (Dev.get_raise_ne _ _ _ _ _ _ (by decide)).trans ht, (Dev.get_raise_ne _ _ _ _ _ _ (by decide)).trans hw,
    (keepsRaised _ _ (by decide)).raise pg x inst d hr⟩

theorem TrapShown.imd {x : ImdX} : TrapShown k code word { d with imd := x } := h.of (fun _ => by cases k <;> rfl) rfl

theorem TrapShown.drew : TrapShown k code word d.drew := h.of (fun _ => by cases k <;> rfl) rfl

/-! The fold point that closes a motion-sync task (R336). -/

theorem TrapShown.setLane {i : Nat} {st : LaneState} : TrapShown k code word (setLane i st d) :=
  (((h.imd.put (by decide)).put (by decide)).put (by decide)).put (by decide)

theorem TrapShown.countLane {i : Nat} {x : Cause} : TrapShown k code word (countLane i x d) :=
  ((((((h.imd.put (by decide)).incSat (by decide)).put (by decide)).put (by decide)).put (by decide)).put (by decide)).ev

theorem TrapShown.laneFault {i : Nat} {x : Cause} : TrapShown k code word (laneFault i x d) := by
  unfold Machine.laneFault
  split
  · exact h
  · split
    · exact h.raise
    · have counted := h.countLane (i := i) (x := x) |>.raise (pg := pgIMD) (x := x) (inst := i)
      simp only
      split
      · exact counted.setLane.ev.raise
      · exact counted.imd.setLane

theorem TrapShown.laneFaults {l : List (Nat × Cause)} : TrapShown k code word (d.each l fun f => Machine.laneFault f.1 f.2) :=
  Dev.each_ind _ _ _ _ (fun _ _ h => h.laneFault) h

theorem TrapShown.vote {v : VoteEnv} : TrapShown k code word (vote v d).1 := by
  unfold Machine.vote
  extract_lets run faults
  clear_value run
  split
  · exact h.raise.laneFaults
  · split
    · split
      · exact h.raise (pg := pgIMD) (x := Cz.IMD.DUPMIS)
      · exact h
    · split
      · exact h.raise.laneFaults
      · exact h.laneFaults
    · exact h

theorem TrapShown.foldPoint : TrapShown k code word (foldPoint d) := by
  unfold Machine.foldPoint
  extract_lets p r
  have voted : TrapShown k code word r.1 := h.vote
  split
  · exact ((voted.put (by decide)).inc (by decide)).imd.drew
  · exact voted.drew

theorem TrapShown.msyncTime : TrapShown k code word (msyncTime d) := (h.put (by decide)).put (by decide)

end

/-! A trap (R395). -/

/-- What a trap does to the device, whichever task it is. -/
def trapDev (s : State) (k : TaskId) (code : Nat) (d : Dev) : Dev :=
  let d := (trapInfo s k code (d.modTask k fun x => { x with st := .aborted, stack := [], frames := [] })).incSat pgFRM FRM.TASK_CNT.TRAPS
  let d := (d.ev pgFRM Ev.FRM.TRAP).raise pgFRM (if k == .error then Cz.FRM.ERRTRAP else Cz.FRM.TRAP) k.code
  if k == .error then { d with forme := { d.forme with errTrap := true } } else addReason 1 d

theorem trapTask_main (s : State) (code : Nat) : trapTask .main code s =
    (s.onDev (trapDev s .main code)).onDev fun d => { d with forme := { d.forme with mainDue := false, closeMot := none } } := rfl
theorem trapTask_msync (s : State) (code : Nat) : trapTask .msync code s =
    (s.onDev (trapDev s .msync code)).onDev fun d => foldPoint (msyncTime d) := rfl
theorem trapTask_error (s : State) (code : Nat) : trapTask .error code s = startMain (s.onDev (trapDev s .error code)) := rfl
theorem trapTask_init (s : State) (code : Nat) : trapTask .init code s =
    (s.onDev (trapDev s .init code)).onDev fun d => if d.olc.st = 1 then olcFail 4 d else badForme d := rfl

theorem trapShown_abort (s : State) (k : TaskId) (code : Nat) (hcode : code < 16) : TrapShown k code ((s.dev.task k).pc % 2 ^ FRM.TRAPINFO.WORD.w)
    (((trapInfo s k code (s.dev.modTask k fun x => { x with st := .aborted, stack := [], frames := [] })).incSat pgFRM FRM.TASK_CNT.TRAPS).ev
      pgFRM Ev.FRM.TRAP) := by
  refine ⟨fun _ => ?_, ?_, ?_, ?_, Dev.raised_ev_same _ _ _ (by decide)⟩
  · cases k <;> rfl
  · rw [Dev.get_ev_place _ _ _ _ _ (by decide), Dev.incSat, Dev.get_put_place _ _ _ _ _ _ (by decide), trapInfo, Dev.get_put_place _ _ _ _ _ _ (by decide),
      Dev.get_put_same]
    exact Nat.mod_eq_of_lt hcode
  · rw [Dev.get_ev_place _ _ _ _ _ (by decide), Dev.incSat, Dev.get_put_place _ _ _ _ _ _ (by decide), trapInfo, Dev.get_put_place _ _ _ _ _ _ (by decide),
      Dev.get_put_place _ _ _ _ _ _ (by decide), Dev.get_put_same]
    cases k <;> rfl
  · rw [Dev.get_ev_place _ _ _ _ _ (by decide), Dev.incSat, Dev.get_put_place _ _ _ _ _ _ (by decide), trapInfo, Dev.get_put_same]

theorem trapShown_trapDev (s : State) (k : TaskId) (code : Nat) (hcode : code < 16) :
    TrapShown k code ((s.dev.task k).pc % 2 ^ FRM.TRAPINFO.WORD.w) (trapDev s k code s.dev) := by
  unfold trapDev
  extract_lets stopped told
  have htold : TrapShown k code ((s.dev.task k).pc % 2 ^ FRM.TRAPINFO.WORD.w) told := (trapShown_abort s k code hcode).raise
  clear_value told
  split
  · exact htold.of (fun _ => by cases k <;> rfl) rfl
  · exact htold.of (fun _ => by cases k <;> rfl) rfl

theorem TrapShown.startMain {code word : Nat} {t : State} (h : TrapShown .error code word t.dev) :
    TrapShown .error code word (startMain t).dev := by
  unfold Machine.startMain startTask
  exact h.of (fun hk => absurd rfl hk) (by simp only [State.onDev, Dev.act_modTask, forcesTo_dev])

theorem TrapShown.olcFail {k : TaskId} {code word c : Nat} {d : Dev} (h : TrapShown k code word d) : TrapShown k code word (olcFail c d) := by
  have failed : TrapShown k code word { d with olc := { d.olc with st := 3, switchReq := false, carried := [] } } := h.of (fun _ => by cases k <;> rfl) rfl
  exact (((failed.put (by decide)).put (by decide)).put (by decide)).ev.raise

theorem TrapShown.initFail {k : TaskId} {code word : Nat} {d : Dev} (h : TrapShown k code word d) :
    TrapShown k code word (if d.olc.st = 1 then Machine.olcFail 4 d else badForme d) := by
  split
  · exact h.olcFail
  · exact h.raise

theorem trapShown_trapTask (s : State) (k : TaskId) (code : Nat) (hcode : code < 16) :
    TrapShown k code ((s.dev.task k).pc % 2 ^ FRM.TRAPINFO.WORD.w) (trapTask k code s).dev := by
  have shown := trapShown_trapDev s k code hcode
  cases k with
  | main => rw [trapTask_main]; exact shown.of (fun _ => rfl) rfl
  | msync => rw [trapTask_msync]; exact shown.msyncTime.foldPoint
  | error => rw [trapTask_error]; exact TrapShown.startMain (t := s.onDev _) shown
  | init =>
    rw [trapTask_init]
    exact shown.initFail

theorem opTrapped_trapTask (s : State) (k : TaskId) (code : Nat) (hcode : code < 16) : OpTrapped s (trapTask k code s) k code := by
  obtain ⟨ha, hc, ht, hw, hr⟩ := trapShown_trapTask s k code hcode
  exact ⟨ha, hc, ht, hw, hr⟩

/-! The current task runs an op (heading "Forme code"). -/

section
variable {s : State} {k : TaskId} {words : Nat} (hcur : s.dev.current = some k)
include hcur

/-- An op that succeeds: the stack it leaves, the words it takes, and what it stored. -/
theorem runOp_ok {f : State → TaskId → List Nat → StackRes × State} {l : List Nat} {t : State}
    (hf : f s k (s.dev.task k).stack = (.ok l, t)) (hlen : l.length ≤ 64) :
    runOp words f s = t.onDev (Dev.modTask k fun x => { x with stack := l, pc := x.pc + words }) := by
  simp only [runOp, hcur, hf]
  exact if_neg (by omega)

theorem runOp_trap {f : State → TaskId → List Nat → StackRes × State} {c : Nat} {t : State}
    (hf : f s k (s.dev.task k).stack = (.trap c, t)) : runOp words f s = trapTask k c t := by
  simp only [runOp, hcur, hf]

theorem opDone_pureOp {f : List Nat → StackRes} {l : List Nat} (hf : f (s.dev.task k).stack = .ok l) (hlen : l.length ≤ 64) :
    OpDone s (pureOp words f s) k words l := by
  unfold pureOp
  rw [runOp_ok (t := s) (l := l) hcur (by rw [hf]) hlen]
  exact ⟨Dev.task_modTask_same .., Dev.act_modTask .., rfl⟩

theorem opTrapped_pureOp {f : List Nat → StackRes} {c : Nat} (hf : f (s.dev.task k).stack = .trap c) (hc : c < 16) :
    OpTrapped s (pureOp words f s) k c := by
  unfold pureOp
  rw [runOp_trap (t := s) (c := c) hcur (by rw [hf])]
  exact opTrapped_trapTask s k c hc

variable {ty a b : Nat} {l : List Nat} (hok : tyOk ty = true)
include hok

theorem opDone_op1 {f : Nat → Nat} (hst : (s.dev.task k).stack = a :: l) (hlen : l.length < 64) : OpDone s (op1 ty f s) k 1 (f a :: l) :=
  opDone_pureOp hcur (by simp [hok, hst]) (by simpa using hlen)

theorem opDone_op2 {f : Nat → Nat → StackRes} {v : Nat} (hst : (s.dev.task k).stack = b :: a :: l) (hlen : l.length < 64) (hf : f a b = .ok [v]) :
    OpDone s (op2 ty f s) k 1 (v :: l) :=
  opDone_pureOp hcur (by simp [hok, hst, hf]) (by simpa using hlen)

theorem opTrapped_op2 {f : Nat → Nat → StackRes} {c : Nat} (hst : (s.dev.task k).stack = b :: a :: l) (hf : f a b = .trap c) (hc : c < 16) :
    OpTrapped s (op2 ty f s) k c :=
  opTrapped_pureOp hcur (by simp [hok, hst, hf]) hc

end

end Sys2Proof.Machine
end

section
/-! PROOFS. The integer ops of the forme (R405). -/

namespace Sys2Proof.Machine

/-! The order of two integers as a comparison reports it. -/

theorem intCompare_beq_lt (x y : Int) : (compare x y == .lt) = decide (x < y) := by
  rcases lt_trichotomy x y with h | h | h
  · simp [compare_lt_iff_lt.mpr h, h]
  · simp [h]
  · simp [compare_gt_iff_gt.mpr h, h.le]

theorem intCompare_beq_gt (x y : Int) : (compare x y == .gt) = decide (y < x) := by
  rcases lt_trichotomy x y with h | h | h
  · simp [compare_lt_iff_lt.mpr h, h.le]
  · simp [h]
  · simp [compare_gt_iff_gt.mpr h, h]

theorem intCompare_bne_lt (x y : Int) : (compare x y != .lt) = decide (y ≤ x) := by
  rw [bne, intCompare_beq_lt, ← decide_not, decide_eq_decide, not_lt]

theorem intCompare_bne_gt (x y : Int) : (compare x y != .gt) = decide (x ≤ y) := by
  rw [bne, intCompare_beq_gt, ← decide_not, decide_eq_decide, not_lt]

section
variable {s : State} {k : TaskId} {ty : Fin 16} {a b : Nat} {l : List Nat}

/-- A comparison of two integers pushes what the order of their values says. -/
theorem cmpOp_int (want : Ordering → Bool) (nan : Bool) (hint : tyFloat ty.val = false) :
    cmpOp ty.val want nan a b = .ok [b2n (want (compare (tyInt ty.val a) (tyInt ty.val b)))] := by
  simp [cmpOp, tyCmp, hint]

end

end Sys2Proof.Machine

open Sys2Proof Sys2Proof.Machine

/-- Settles O40: each op is `op1` or `op2` on the executing task's stack, with the type's arithmetic. -/
theorem formeIntegerOps : Obligations.FormeIntegerOps := by
  unfold Obligations.FormeIntegerOps
  intro s ty a b l k halive hclean hcur hst hlen hok hint
  have two {f : Nat → Nat → StackRes} {v : Nat} (hf : f a b = .ok [v]) :
      ∃ t, doState (State.live (opReads 1 (op2 ty.val f))) s = .next t ∧ OpDone s t k 1 (v :: l) :=
    next_of_reading halive hclean (opDone_op2 hcur hok hst (by omega) hf)
  have one {f : Nat → Nat} {v : Nat} (hf : f b = v) :
      ∃ t, doState (State.live (opReads 1 (op1 ty.val f))) s = .next t ∧ OpDone s t k 1 (v :: a :: l) := by
    subst hf
    exact next_of_reading halive hclean (opDone_op1 hcur hok hst (by simpa using by omega))
  have cmp {want : Ordering → Bool} {nan v : Bool} (hv : want (compare (tyInt ty.val a) (tyInt ty.val b)) = v) :
      ∃ t, doState (State.live (opReads 1 (op2 ty.val (cmpOp ty.val want nan)))) s = .next t ∧ OpDone s t k 1 (b2n v :: l) :=
    two (by rw [cmpOp_int want nan hint, hv])
  refine ⟨⟨two ?_, two ?_, two ?_, two rfl, two rfl, two rfl, cmp ?_, cmp ?_, cmp ?_, cmp ?_, cmp ?_, cmp ?_⟩, fun hb => ⟨two ?_, fun hlo hhi => two ?_⟩,
    fun hb => ⟨?_, ?_⟩, fun hty hsh => ⟨two ?_, two ?_⟩, one ?_, fun habs => one ?_, fun hty => one ?_, fun hty => one ?_⟩
  · simp [tyAdd, hint]
  · simp [tySub, hint]
  · simp [tyMul, hint]
  · simp [Bool.beq_eq_decide_eq]
  · simp [bne, Bool.beq_eq_decide_eq]
  · exact intCompare_beq_lt _ _
  · exact intCompare_bne_gt _ _
  · exact intCompare_beq_gt _ _
  · exact intCompare_bne_lt _ _
  · simp [divOp, hint, hb, tyMod]
  · simp [divOp, hint, hb, tyDiv, hlo, hhi]
  · exact next_of_reading halive hclean (opTrapped_op2 hcur hok hst (by simp [divOp, hint, hb]) (by omega))
  · exact next_of_reading halive hclean (opTrapped_op2 hcur hok hst (by simp [divOp, hint, hb]) (by omega))
  · simp [tyShl, hsh, hty]
  · simp [tyShr, hsh, hty]
  · simp [tyNeg, hint]
  · rw [tyAbs, hint]
    exact if_pos habs
  · simp [tyNot, hty]
  · simp [tyNot, hty]
end

section
/-! PROOFS. REAL, LREAL and conversion of the forme (R405). -/

namespace Sys2Proof.Machine

theorem testBit_bitsOf (v lo w i : Nat) : (bitsOf v lo w).testBit i = (decide (i < w) && bit v (lo + i)) := by
  rw [bitsOf, Nat.testBit_mod_two_pow, Nat.testBit_div_two_pow, bit_eq_testBit, Nat.add_comm]

/-- A slice reads only its own bits. -/
theorem bitsOf_congr {a b lo w : Nat} (h : ∀ i < w, bit a (lo + i) = bit b (lo + i)) : bitsOf a lo w = bitsOf b lo w := by
  refine Nat.eq_of_testBit_eq fun i => ?_
  rw [testBit_bitsOf, testBit_bitsOf]
  by_cases hi : i < w
  · rw [h i hi]
  · simp [hi]

/-- NEG of a float turns its sign bit and keeps the others of its type. -/
theorem bit_fltNeg (ty b j : Nat) (hj : j < tyBits ty) : bit (fltNeg ty b) j = if tyBits ty - 1 = j then !bit b j else bit b j := by
  unfold fltNeg
  rw [bit_setBit, bit_mod _ _ _ hj]
  by_cases h : tyBits ty - 1 = j
  · rw [if_pos h, if_pos h, h]
  · rw [if_neg h, if_neg h]

/-- The sign bit of a float is the top bit of its type. -/
theorem tyBits_float {ty : Nat} (h : tyFloat ty = true) : tyBits ty = (fltFmt ty).1 + (fltFmt ty).2 + 1 := by
  have : ty = 10 ∨ ty = 11 := by simpa [tyFloat] using h
  rcases this with rfl | rfl <;> rfl

theorem fltOf_fltNeg {ty b q : Nat} {n : Bool} {f : Int} (hfl : tyFloat ty = true) (hb : fltOf ty b = .fin n q f) :
    fltOf ty (fltNeg ty b) = .fin (!n) q f := by
  have hbits := tyBits_float hfl
  have sign : bit (fltNeg ty b) ((fltFmt ty).1 + (fltFmt ty).2) = !bit b ((fltFmt ty).1 + (fltFmt ty).2) := by
    rw [bit_fltNeg _ _ _ (by omega), if_pos (by omega)]
  have rest : ∀ j < (fltFmt ty).1 + (fltFmt ty).2, bit (fltNeg ty b) j = bit b j := fun j hj => by
    rw [bit_fltNeg _ _ _ (by omega), if_neg (by omega)]
  have frac : bitsOf (fltNeg ty b) 0 (fltFmt ty).2 = bitsOf b 0 (fltFmt ty).2 := bitsOf_congr fun i hi => rest _ (by omega)
  have expo : bitsOf (fltNeg ty b) (fltFmt ty).2 (fltFmt ty).1 = bitsOf b (fltFmt ty).2 (fltFmt ty).1 := bitsOf_congr fun i hi => rest _ (by omega)
  unfold fltOf at hb ⊢
  simp only [sign, frac, expo] at hb ⊢
  split at hb
  · split at hb <;> cases hb
  next hinf =>
  rw [if_neg hinf]
  split at hb
  next hsub => cases hb; rw [if_pos hsub]
  next hnorm => cases hb; rw [if_neg hnorm]

theorem clampI_eq (lo hi x : Int) (h : lo ≤ hi) : clampI lo hi x = max lo (min hi x) := by
  unfold clampI
  split
  · omega
  · split <;> omega

theorem tyLo_le_tyHi (ty : Fin 16) : tyLo ty.val ≤ tyHi ty.val := by
  revert ty
  decide

theorem fltNum_not (n : Bool) (q : Nat) (f : Int) : fltNum (!n) q f = (-(fltNum n q f).1, (fltNum n q f).2) := by
  cases n <;> simp [fltNum]

end Sys2Proof.Machine

open Sys2Proof Sys2Proof.Machine

/-- Settles O41: on finite values each op is its exact value rounded; SUB is ADD of the negated operand. -/
theorem formeFloatOps : Obligations.FormeFloatOps := by
  unfold Obligations.FormeFloatOps
  intro s ty a b l k halive hclean hcur hst hlen
  have two {f : Nat → Nat → StackRes} {v : Nat} (hok : tyOk ty.val = true) (hf : f a b = .ok [v]) :
      ∃ t, doState (State.live (opReads 1 (op2 ty.val f))) s = .next t ∧ OpDone s t k 1 (v :: l) :=
    next_of_reading halive hclean (opDone_op2 hcur hok hst (by omega) hf)
  have one {td : Nat} {f : Nat → Nat} {v : Nat} (hok : tyOk td = true) (hf : f b = v) :
      ∃ t, doState (State.live (opReads 1 (op1 td f))) s = .next t ∧ OpDone s t k 1 (v :: a :: l) := by
    subst hf
    exact next_of_reading halive hclean (opDone_op1 hcur hok hst (by simpa using by omega))
  have cvt {td : Fin 16} {v : Nat} (hsrc : tyOk ty.val = true) (hdst : tyOk td.val = true) (hv : tyCvt td.val ty.val b = v) :
      ∃ t, exec (.opCvt td ty) s = .next t ∧ OpDone s t k 1 (v :: a :: l) := by
    refine one (td := if tyOk ty.val then td.val else 0) ?_ hv
    rwa [if_pos hsrc]
  have floatOk {t : Fin 16} (h : tyFloat t.val = true) : tyOk t.val = true := by revert t; decide
  refine ⟨fun hfl => ⟨fun m n p q e f ha hb => ?_, one (floatOk hfl) ?_, one (floatOk hfl) ?_, fun td htd hint => ⟨fun n q f hb => ?_, fun hnan => ?_⟩⟩,
    fun hok hint td => ⟨fun hfl => ?_, fun htd htdint hlo hhi => ?_⟩⟩
  · have hok := floatOk hfl
    refine ⟨two hok ?_, fun hq => two hok ?_, fun hq hp => two hok ?_, two hok ?_, two hok ?_, two hok ?_⟩
    · simp [tyAdd, hfl, fltAdd, ha, hb]
    · simp [divOp, tyDiv, hfl, fltDiv, ha, hb, hq]
    · simp [divOp, tyDiv, hfl, fltDiv, ha, hb, hq, hp]
    · simp [tySub, hfl, fltAdd, ha, fltOf_fltNeg hfl hb, fltNum_not, Int.sub_eq_add_neg]
    · simp [tyMul, hfl, fltMul, ha, hb]
    · simp [cmpOp, tyCmp, hfl, fltCmp, ha, hb, intCompare_beq_lt]
  · simp [tyNeg, hfl, fltNeg]
  · simp [tyAbs, hfl]
  · refine cvt (floatOk hfl) htd ?_
    simp [tyCvt, hfl, hb, hint, clampI_eq _ _ _ (tyLo_le_tyHi td)]
  · exact cvt (floatOk hfl) htd (by simp [tyCvt, hfl, hnan, hint])
  · exact cvt hok (floatOk hfl) (by simp [tyCvt, hint, hfl])
  · exact cvt hok htd (by simp [tyCvt, hint, htdint, hlo, hhi])
end

section
/-! PROOFS. The stack and memory ops of the forme (R389, R404, R413). -/

namespace Sys2Proof.Machine

/-- The immediate of LDI, read as a signed number. -/
theorem sgn_toNat {w : Nat} (v : BitVec w) (hw : 0 < w) : sgn w v.toNat = v.toInt := by
  have hlt := v.isLt
  have hpow : 2 ^ w = 2 * 2 ^ (w - 1) := by rw [← Nat.pow_succ']; congr 1; omega
  unfold sgn BitVec.toInt
  rw [Nat.mod_eq_of_lt hlt, hpow]
  by_cases h : v.toNat < 2 ^ (w - 1)
  · rw [if_pos h, if_pos (by omega)]
  · rw [if_neg h, if_neg (by omega)]

section
variable {s : State} {k : TaskId} (hcur : s.dev.current = some k) {ty arg n : Nat} (hok : tyOk ty = true) {v x : Nat} {l : List Nat}
include hcur hok

/-! Each op by what it finds: an address that R404 allows, and a stack that holds its operands. -/

theorem opDone_ldv (ha : instAddr s k arg (tySize ty) = some x) (hlen : (s.dev.task k).stack.length < 64) :
    OpDone s (ldv ty arg s) k 1 (s.peek x (tySize ty) :: (s.dev.task k).stack) := by
  unfold ldv
  rw [runOp_ok (t := s) (l := s.peek x (tySize ty) :: (s.dev.task k).stack) hcur (by simp [hok, ha, push]) (by simpa using hlen)]
  exact ⟨Dev.task_modTask_same .., Dev.act_modTask .., rfl⟩

theorem stv_eq (ha : instAddr s k arg (tySize ty) = some x) (hst : (s.dev.task k).stack = v :: l) (hlen : l.length ≤ 64) :
    stv ty arg s = (s.poke x (tySize ty) v).onDev (Dev.modTask k fun y => { y with stack := l, pc := y.pc + 1 }) :=
  runOp_ok hcur (by simp [hok, ha, hst]) hlen

theorem opDone_ldin (hin : inItem s.dev.forme.map false arg (tySize ty) = true) (hlen : (s.dev.task k).stack.length < 64) :
    OpDone s (ldin ty arg s) k 1 (s.peek (frozenBank s.dev + arg) (tySize ty) :: (s.dev.task k).stack) := by
  unfold ldin
  rw [runOp_ok (t := s) (l := s.peek (frozenBank s.dev + arg) (tySize ty) :: (s.dev.task k).stack) hcur (by simp [hok, hin, push])
    (by simpa using hlen)]
  exact ⟨Dev.task_modTask_same .., Dev.act_modTask .., rfl⟩

theorem stout_eq (hin : inItem s.dev.forme.map true arg (tySize ty) = true) (hk : k ≠ .msync) (hst : (s.dev.task k).stack = v :: l)
    (hlen : l.length ≤ 64) :
    stout ty arg s = (s.poke (workBank s.dev + arg) (tySize ty) v).onDev (Dev.modTask k fun y => { y with stack := l, pc := y.pc + 1 }) :=
  runOp_ok hcur (by simp [hok, hin, hst, hk]) hlen

omit hok in
/-- STOUT is refused under the motion-sync entry. -/
theorem stout_msync (hk : k = .msync) : stout ty arg s = trapTask k 4 s :=
  runOp_trap hcur (by simp [hk])

theorem opDone_ldx (ha : instAddr s k arg (n * tySize ty) = some x) (hst : (s.dev.task k).stack = v :: l) (hv : v < n) (hlen : l.length < 64) :
    OpDone s (ldx ty arg n s) k 2 (s.peek (x + v * tySize ty) (tySize ty) :: l) := by
  unfold ldx
  rw [runOp_ok (t := s) (l := s.peek (x + v * tySize ty) (tySize ty) :: l) hcur
    (by simp [hok, ha, hst, push, Nat.not_le.mpr hv]) (by simpa using hlen)]
  exact ⟨Dev.task_modTask_same .., Dev.act_modTask .., rfl⟩

theorem ldx_index (ha : instAddr s k arg (n * tySize ty) = some x) (hst : (s.dev.task k).stack = v :: l) (hv : n ≤ v) :
    ldx ty arg n s = trapTask k 2 s :=
  runOp_trap hcur (by simp [hok, ha, hst, hv])

theorem stx_eq {j : Nat} (ha : instAddr s k arg (n * tySize ty) = some x) (hst : (s.dev.task k).stack = v :: j :: l) (hj : j < n)
    (hlen : l.length ≤ 64) :
    stx ty arg n s = (s.poke (x + j * tySize ty) (tySize ty) v).onDev (Dev.modTask k fun y => { y with stack := l, pc := y.pc + 2 }) :=
  runOp_ok hcur (by simp [hok, ha, hst, Nat.not_le.mpr hj]) hlen

theorem stx_under (ha : instAddr s k arg (n * tySize ty) = some x) (hst : (s.dev.task k).stack = [v]) : stx ty arg n s = trapTask k 3 s :=
  runOp_trap hcur (by simp [hok, ha, hst])

end

end Sys2Proof.Machine

open Sys2Proof Sys2Proof.Machine

/-- Settles O42: each op by what it finds on the stack and at its address. -/
theorem formeDataOps : Obligations.FormeDataOps := by
  unfold Obligations.FormeDataOps
  intro s ty arg lo hi n v l k halive hclean hcur hst hlen hok
  have pure {w : Nat} {f : List Nat → StackRes} {r : List Nat} (hf : f (v :: l) = .ok r) (hr : r.length ≤ 64) :
      ∃ t, doState (State.live (opReads w (pureOp w f))) s = .next t ∧ OpDone s t k w r :=
    next_of_reading halive hclean (opDone_pureOp hcur (by rw [hst, hf]) hr)
  have stored {a m : Nat} {at_ : State → List (Nat × Nat)} {f : State → State} {r : List Nat} {w : Nat}
      (hf : f s = (s.poke a m v).onDev (Dev.modTask k fun y => { y with stack := r, pc := y.pc + w })) :
      ∃ t, doState (State.live (reading at_ f)) s = .next t ∧ (t.dev.task k).stack = r ∧ t.mem = Memory.putW sramEmpty s.mem a m v ∧
        t.dev.act = s.dev.act :=
    next_of_reading halive hclean (by rw [hf]; exact ⟨by simp [State.onDev, State.poke], rfl, Dev.act_modTask ..⟩)
  have trapped {c : Nat} {at_ : State → List (Nat × Nat)} {f : State → State} (hc : c < 16) (hf : f s = trapTask k c s) :
      ∃ t, doState (State.live (reading at_ f)) s = .next t ∧ OpTrapped s t k c :=
    next_of_reading halive hclean (by rw [hf]; exact opTrapped_trapTask s k c hc)
  have room : (s.dev.task k).stack.length < 64 := by rw [hst]; simpa using by omega
  refine ⟨pure rfl (by simpa using by omega), pure rfl (by simpa using by omega), pure rfl (by omega), fun w hw => ?_, fun hint => ?_, ?_,
    fun x hx => ⟨?_, stored (stv_eq hcur hok hx hst (by omega))⟩, fun hin => ?_,
    fun hin => ⟨fun hk => stored (stout_eq hcur hok hin hk hst (by omega)), fun hk => trapped (by omega) (stout_msync hcur hk)⟩,
    fun x hx => ⟨fun hv => ?_, fun hv => trapped (by omega) (ldx_index hcur hok hx hst hv), fun j hj hlt => ?_, fun hnil => ?_⟩⟩
  · obtain ⟨l, rfl⟩ : ∃ r, l = w :: r := by cases l with
      | nil => cases hw
      | cons y r => exact ⟨r, by simpa using hw⟩
    exact pure rfl (by simp only [List.length_cons, List.tail_cons] at hlen ⊢; omega)
  · exact pure (by simp [hok, push, ldiVal, hint, sgn_toNat]) (by simpa using by omega)
  · have hw : (if tySize ty.val = 8 then 3 else 2) = 1 + opExt 2 ty.val := by
      unfold opExt
      split <;> simp_all
    rw [hw]
    exact pure (by simp [hok, push]) (by simpa using by omega)
  · rw [← hst]
    exact next_of_reading halive hclean (opDone_ldv hcur hok hx room)
  · rw [← hst]
    exact next_of_reading halive hclean (opDone_ldin hcur hok hin room)
  · exact next_of_reading halive hclean (opDone_ldx hcur hok hx hst hv (by omega))
  · obtain ⟨l, rfl⟩ : ∃ r, l = j :: r := by cases l with
      | nil => cases hj
      | cons y r => exact ⟨r, by simpa using hj⟩
    exact stored (stx_eq hcur hok hx hst hlt (by simp only [List.length_cons, List.tail_cons] at hlen ⊢; omega))
  · subst hnil
    exact trapped (by omega) (stx_under hcur hok hx hst)
end

section
/-! PROOFS. The control ops of the forme (R389, R395). -/

namespace Sys2Proof.Machine

section
variable {s : State} {k : TaskId}

/-- A task's own half and region do not depend on the tasks' states. -/
theorem taskHalf_modTask (j k : TaskId) (f : TaskX → TaskX) (d : Dev) : taskHalf (d.modTask j f) k = taskHalf d k := by
  cases j <;> rfl

theorem blkWord_onDev (f : Dev → Dev) (h i : Nat) : blkWord (s.onDev f) h i = blkWord s h i := rfl

theorem formeBlk_onDev (f : Dev → Dev) (h i : Nat) : formeBlk (s.onDev f) h i = formeBlk s h i := rfl

theorem task_onDev_modTask (f : TaskX → TaskX) : (s.onDev (Dev.modTask k f)).dev.task k = f (s.dev.task k) := Dev.task_modTask_same ..

theorem taskHalf_onDev_modTask (f : TaskX → TaskX) : taskHalf (s.onDev (Dev.modTask k f)).dev k = taskHalf s.dev k := taskHalf_modTask ..

/-- A jump within the block. -/
theorem jumpBy_in (arg : BitVec 20)
    (hlo : (blkWord s (taskHalf s.dev k) (s.dev.task k).blk : Int) ≤ (s.dev.task k).pc + 1 + arg.toInt)
    (hhi : ((s.dev.task k).pc : Int) + 1 + arg.toInt <
      (blkWord s (taskHalf s.dev k) (s.dev.task k).blk + (formeBlk s (taskHalf s.dev k) (s.dev.task k).blk).codeLen / 4 : Nat)) :
    jumpBy k arg.toNat s = s.onDev (Dev.modTask k fun x => { x with pc := (((s.dev.task k).pc : Int) + 1 + arg.toInt).toNat }) := by
  unfold jumpBy
  simp only [sgn_toNat arg (by omega)]
  exact if_pos ⟨hlo, hhi⟩

/-- A jump before the block traps BOUNDS of R404. -/
theorem jumpBy_before (arg : BitVec 20)
    (hlo : ((s.dev.task k).pc : Int) + 1 + arg.toInt < blkWord s (taskHalf s.dev k) (s.dev.task k).blk) : jumpBy k arg.toNat s = trapTask k 4 s := by
  unfold jumpBy
  simp only [sgn_toNat arg (by omega)]
  exact if_neg fun h => absurd h.1 (by omega)

variable (hcur : s.dev.current = some k)
include hcur

theorem jmp_eq (arg : Nat) : jmp arg s = jumpBy k arg s := by simp only [jmp, hcur]

theorem jcond_under (want arg : Nat) (hst : (s.dev.task k).stack = []) : jcond want arg s = trapTask k 3 s := by
  simp only [jcond, hcur, hst]

theorem jcond_eq (want arg v : Nat) (l : List Nat) (hst : (s.dev.task k).stack = v :: l) :
    jcond want arg s = if v % 2 = want then jumpBy k arg (s.onDev (Dev.modTask k fun x => { x with stack := l }))
      else (s.onDev (Dev.modTask k fun x => { x with stack := l })).onDev (Dev.modTask k fun x => { x with pc := x.pc + 1 }) := by
  simp only [jcond, hcur, hst]

/-- A conditional jump whose target lies in the block takes the entry off and goes where the entry says. -/
theorem jcond_task (want v : Nat) (l : List Nat) (arg : BitVec 20) (hst : (s.dev.task k).stack = v :: l)
    (hlo : (blkWord s (taskHalf s.dev k) (s.dev.task k).blk : Int) ≤ (s.dev.task k).pc + 1 + arg.toInt)
    (hhi : ((s.dev.task k).pc : Int) + 1 + arg.toInt <
      (blkWord s (taskHalf s.dev k) (s.dev.task k).blk + (formeBlk s (taskHalf s.dev k) (s.dev.task k).blk).codeLen / 4 : Nat)) :
    ((jcond want arg.toNat s).dev.task k = { s.dev.task k with
      stack := l, pc := if v % 2 = want then (((s.dev.task k).pc : Int) + 1 + arg.toInt).toNat else (s.dev.task k).pc + 1 }) ∧
    (jcond want arg.toNat s).dev.act = s.dev.act ∧ (jcond want arg.toNat s).mem = s.mem := by
  rw [jcond_eq hcur _ _ _ _ hst]
  split
  next h =>
    have popped : jumpBy k arg.toNat (s.onDev (Dev.modTask k fun x => { x with stack := l })) =
        (s.onDev (Dev.modTask k fun x => { x with stack := l })).onDev
          (Dev.modTask k fun x => { x with pc := (((s.dev.task k).pc : Int) + 1 + arg.toInt).toNat }) := by
      rw [jumpBy_in (s := s.onDev (Dev.modTask k fun x => { x with stack := l }))]
      · rw [task_onDev_modTask]
      · rw [blkWord_onDev, taskHalf_onDev_modTask, task_onDev_modTask]; exact hlo
      · rw [blkWord_onDev, formeBlk_onDev, taskHalf_onDev_modTask, task_onDev_modTask]; exact hhi
    rw [popped]
    simp [State.onDev]
  next h => simp [State.onDev]

theorem callOp_deep {i : Nat} (hi : i < (formeHdr s (taskHalf s.dev k)).nblk) (hfr : (s.dev.task k).frames.length = 32) :
    callOp i s = trapTask k 3 s := by
  simp only [callOp, hcur, if_neg (Nat.not_le.mpr hi), hfr, Nat.le_refl, if_true]

theorem callOp_code {i : Nat} (hi : i < (formeHdr s (taskHalf s.dev k)).nblk) (hty : (formeBlk s (taskHalf s.dev k) i).type < 0x8000)
    (hfr : (s.dev.task k).frames.length < 32) : callOp i s = s.onDev (Dev.modTask k fun x =>
      { x with frames := { blk := x.blk, ret := x.pc + 1 } :: x.frames, blk := i
               pc := blkWord s (taskHalf s.dev k) i }) := by
  simp only [callOp, hcur, if_neg (Nat.not_le.mpr hi), if_neg (Nat.not_le.mpr hfr), hty, if_true]

theorem retOp_frame {f : CallFrame} {fs : List CallFrame} (hfr : (s.dev.task k).frames = f :: fs) :
    retOp s = s.onDev (Dev.modTask k fun x => { x with frames := fs, blk := f.blk, pc := f.ret }) := by
  simp only [retOp, hcur, hfr]

theorem retOp_end (hfr : (s.dev.task k).frames = []) : retOp s = endTask k s := by
  simp only [retOp, hcur, hfr]

omit hcur in
/-- The main task's final RET ends it (R389). -/
theorem endTask_main (s : State) : ((endTask .main s).dev.task .main).st = .ended ∧ (endTask .main s).dev.forme.mainEnd = some s.dev.tim.mot := by
  simp only [endTask, mainEnded, State.onDev, applyForces, forcesTo_dev]
  exact ⟨rfl, rfl⟩

theorem trapOp_eq : trapOp s = trapTask k 5 s := by simp only [trapOp, hcur]

end

end Sys2Proof.Machine

open Sys2Proof Sys2Proof.Machine

/-- Settles O43: each op by what it does to the executing task's place, frames and stack. -/
theorem formeControlOps : Obligations.FormeControlOps := by
  unfold Obligations.FormeControlOps
  intro s arg blk v l k halive hclean hcur
  have placed {at_ : State → List (Nat × Nat)} {f : State → State} {y : TaskX → TaskX} (hf : f s = s.onDev (Dev.modTask k y)) :
      ∃ t, doState (State.live (reading at_ f)) s = .next t ∧ t.dev.task k = y (s.dev.task k) ∧ t.dev.act = s.dev.act ∧ t.mem = s.mem :=
    next_of_reading halive hclean (by rw [hf]; exact ⟨task_onDev_modTask _, Dev.act_modTask .., rfl⟩)
  have trapped {c : Nat} {at_ : State → List (Nat × Nat)} {f : State → State} (hc : c < 16) (hf : f s = trapTask k c s) :
      ∃ t, doState (State.live (reading at_ f)) s = .next t ∧ OpTrapped s t k c :=
    next_of_reading halive hclean (by rw [hf]; exact opTrapped_trapTask s k c hc)
  refine ⟨fun hlo hhi => ⟨placed ((jmp_eq hcur _).trans (jumpBy_in arg hlo hhi)), fun hst => ⟨?_, ?_⟩⟩,
    fun hlo => trapped (by omega) ((jmp_eq hcur _).trans (jumpBy_before arg hlo)), fun hst => trapped (by omega) (jcond_under hcur _ _ hst),
    fun hblk hty => ⟨fun hfr => ?_, fun hfr => trapped (by omega) (callOp_deep hcur hblk hfr)⟩, fun f hf => ?_, fun hfr hk => ?_,
    trapped (by omega) (trapOp_eq hcur)⟩
  · exact next_of_reading halive hclean (jcond_task hcur 0 v l arg hst hlo hhi)
  · exact next_of_reading halive hclean (jcond_task hcur 1 v l arg hst hlo hhi)
  · refine next_of_reading halive hclean ?_
    rw [callOp_code hcur hblk hty hfr]
    simp only [task_onDev_modTask]
    exact ⟨trivial, trivial, trivial, trivial, Dev.act_modTask .., rfl⟩
  · obtain ⟨fs, hfr⟩ : ∃ fs, (s.dev.task k).frames = f :: fs := by
      cases h : (s.dev.task k).frames with
      | nil => rw [h] at hf; cases hf
      | cons y r => rw [h] at hf; exact ⟨r, by simpa using hf⟩
    rw [hfr]
    exact placed (retOp_frame hcur hfr)
  · subst hk
    refine next_of_reading halive hclean ?_
    rw [retOp_end hcur hfr]
    exact endTask_main s
end

section
/-! PROOFS. Tasks of the forme: the servo boundary's first 15 µs. -/

namespace Sys2Proof.Machine

/-- At a servo boundary: the motion-sync task is due and enabled, and no time has passed since the boundary. -/
def atServoBoundary : State :=
  let d := State.reset.dev.putB pgFRM FRM.TASK_CFG.MSEN true
  { State.reset with dev := { d with boot := { d.boot with up := true }, forme := { d.forme with st := 2, msDue := true } } }

/-- The task does not start in the first 15 µs, 3,750 counts of MOTCLK, after its boundary. -/
theorem motionSyncStart_early (s : State) (h : s.dev.tim.mot < servoMot s.dev + 3750) : motionSyncStart s = s := by
  have hlate : decide (servoMot s.dev + 3750 ≤ s.dev.tim.mot) = false := by simpa using h
  unfold motionSyncStart
  simp [hlate]

end Sys2Proof.Machine

open Sys2Proof Sys2Proof.Machine

/-- Refutes O44: a motion-sync task that is due and enabled starts 15 µs after its servo boundary (`motionSyncStart`), and the
statement takes it to start at any time. -/
theorem not_formeTasks : ¬ Obligations.FormeTasks := by
  unfold Obligations.FormeTasks
  intro h
  obtain ⟨start, -⟩ := h atServoBoundary (by decide +kernel) rfl
  obtain ⟨t, ht, hrun, -⟩ := start rfl (by decide +kernel) (by decide +kernel) (by decide +kernel)
  have hx : exec .motionSyncTaskStart atServoBoundary = .next (motionSyncStart atServoBoundary) :=
    congrArg Host.Outcome.next (State.live_of _ _ (by decide +kernel))
  rw [motionSyncStart_early atServoBoundary (by decide +kernel)] at hx
  cases Host.Outcome.next.inj (hx.symm.trans ht)
  exact absurd hrun (by decide +kernel)
end

section
/-! PROOFS. An online change that is prepared while a force stands. -/

namespace Sys2Proof.Machine

/-- The bytes, other than zeros, of a small forme image by their offsets: its header with CRC, an init entry, four blocks without code,
and one tag on the first byte of the instances' data. -/
def smallForme : List (Nat × List Nat) :=
  [(0x00, [70, 79, 82, 77, 0, 1, 128, 0, 0, 4]), (0x0C, [7, 0, 0, 0, 9, 0, 0, 0, 4, 0, 4, 0, 128, 0, 0, 0, 1, 0, 0, 0, 208]),
    (0x25, [1, 0, 0, 64]), (0x2C, [128, 1, 0, 0, 16]), (0x38, [1, 0, 2, 0, 5, 0, 0, 0, 16]), (0x7C, [212, 0, 116, 89]),
    (0x92, [2]), (0xA6, [2]), (0xBA, [2]), (0xD8, [1])]

/-- The image stands in half 1, half 0 executes, and a force of the value 5 on the tag stands. -/
def forcedPrep : State :=
  let d := State.reset.dev.put pgFRM (FRM.FORCE_VAL_LO.VAL.at 0) 5
  { State.reset with
    dev := { d with boot := { d.boot with up := true, mark := 3 }, forme := { d.forme with force := [{ st := 1, tag := 0 }] } }
    mem := smallForme.foldl (fun m p => Memory.putL sramEmpty m (halfBase 1 + p.1) p.2) [] }

theorem forcedPrep_formeOk : formeOk forcedPrep 1 false = true := by decide +kernel

/-- The init task of the new forme starts with the force applied to its region. -/
theorem forcedPrep_olcPrep : Memory.get sramEmpty (olcPrep 1 forcedPrep).mem (regionBase 1) = 5 ∧
    Memory.get sramEmpty (fillRegion 1 1 forcedPrep).mem (regionBase 1) = 0 := by decide +kernel

end Sys2Proof.Machine

open Sys2Proof Sys2Proof.Machine

/-- Refutes O45: where the new forme has an init task and a force stands on one of its tags, PREP applies the force to the filled
region as it starts the task, so the memory is not that of `fillRegion` alone. -/
theorem not_onlineChange : ¬ Obligations.OnlineChange := by
  unfold Obligations.OnlineChange
  intro h
  obtain ⟨prep, -⟩ := h forcedPrep 1 (by decide +kernel)
  obtain ⟨-, -, fits⟩ := prep (by decide +kernel) (by decide +kernel)
  obtain ⟨t, ht, -, -, hmem, -⟩ := fits (by decide +kernel) forcedPrep_formeOk (by decide +kernel)
  have hx : exec (.olcPrep 1) forcedPrep = .next (olcPrep 1 forcedPrep) := congrArg Host.Outcome.next (State.live_of _ _ (by decide +kernel))
  cases Host.Outcome.next.inj (hx.symm.trans ht)
  obtain ⟨hforced, hfilled⟩ := forcedPrep_olcPrep
  have hfill : (olcPrep 1 forcedPrep).mem = (fillRegion 1 1 forcedPrep).mem := hmem
  rw [hfill, hfilled] at hforced
  exact absurd hforced (by decide)
end

section
/-! PROOFS. A protocol exception on CAN that comes after a dominant bit behind the own error flag. -/

namespace Sys2Proof.Machine

/-- CAN0 is error-active, takes FD frames and has protocol exceptions off. -/
def onBusWithoutPex : State :=
  let d := ((State.reset.dev.putB (pgCAN 0) CAN.CTRL.FDEN true).putB (pgCAN 0) CAN.CTRL.PEX false).modCn 0 fun x => { x with st := 2 }
  { State.reset with dev := { d with boot := { d.boot with up := true } } }

/-- An FD frame whose reserved bit is recessive, with a dominant bit first behind the error flag. -/
def exceptionFrame : CanFrame := { fdf := true, res := true, errDom := true }

/-- The form error counts 1, and the dominant bit behind the flag 8 more. -/
theorem canReceive_exceptionFrame : ((canReceive 0 exceptionFrame onBusWithoutPex).dev.cn 0).rec_ = 9 := by decide +kernel

end Sys2Proof.Machine

open Sys2Proof Sys2Proof.Machine

/-- Refutes O46: a form error with a dominant bit behind the error flag raises the receive error counter by 9, not by 1. -/
theorem not_canReception : ¬ Obligations.CanReception := by
  unfold Obligations.CanReception
  intro h
  obtain ⟨-, onBus⟩ := h onBusWithoutPex 0 exceptionFrame (by decide +kernel)
  obtain ⟨-, -, exception⟩ := onBus (by decide +kernel)
  obtain ⟨-, formError⟩ := exception (by decide +kernel) rfl rfl (by decide +kernel)
  obtain ⟨t, ht, -, hrec, -⟩ := formError (by decide +kernel)
  have hx : exec (.canFrameReceived 0 exceptionFrame) onBusWithoutPex = .next (canReceive 0 exceptionFrame onBusWithoutPex) :=
    congrArg Host.Outcome.next (State.live_of _ _ (by decide +kernel))
  cases Host.Outcome.next.inj (hx.symm.trans ht)
  have hnine : ((canReceive 0 exceptionFrame onBusWithoutPex).dev.cn (0 : Fin 3).val).rec_ = 9 := canReceive_exceptionFrame
  rw [hnine] at hrec
  exact absurd hrec (by decide +kernel)
end

section
/-! PROOFS. What a controller's next start, its counters and its ring leave of the rest (R449, R452, R454). -/

namespace Sys2Proof.Machine

theorem Dev.cn_modCn_same {c : Nat} (hc : c < 3) (f : CanX → CanX) (d : Dev) : (d.modCn c f).cn c = f (d.cn c) :=
  vget_vmod_same _ _ _ _ hc

@[simp] theorem Dev.cn_put (p : Nat) (f : Fld) (v : Nat) (d : Dev) (c : Nat) : (d.put p f v).cn c = d.cn c := rfl

@[simp] theorem Dev.cn_ev (p n : Nat) (d : Dev) (c : Nat) : (d.ev p n).cn c = d.cn c := by
  unfold Dev.ev
  rw [Dev.cn_put]
  rfl

@[simp] theorem Dev.cn_drew (d : Dev) (c : Nat) : d.drew.cn c = d.cn c := rfl

/-- A controller stands as before but for the frame under way. -/
structure SameButFrame (x y : CanX) : Prop where
  st : y.st = x.st
  tec : y.tec = x.tec
  rec_ : y.rec_ = x.rec_
  status : y.status = x.status
  pend : ∀ j, bit y.pend j = bit x.pend j

theorem SameButFrame.rfl {x : CanX} : SameButFrame x x := ⟨Eq.refl _, Eq.refl _, Eq.refl _, Eq.refl _, fun _ => Eq.refl _⟩

/-- Of the device, the registers, the leaf bus and what the ports have sent stand, and of the controller all but its frame under way. -/
structure Started (c : Nat) (d e : Dev) : Prop where
  act : e.act = d.act
  out : e.net.out = d.net.out
  lb : e.net.lb = d.net.lb
  can : SameButFrame (d.cn c) (e.cn c)

theorem Started.get {c : Nat} {d e : Dev} (h : Started c d e) (p : Nat) (f : Fld) : e.get p f = d.get p f := by
  unfold Dev.get
  rw [h.act]

theorem Started.raised {c : Nat} {d e : Dev} (h : Started c d e) (p n : Nat) : e.raised p n = d.raised p n := by
  unfold Dev.raised
  rw [h.get]

theorem Started.rfl {c : Nat} {d : Dev} : Started c d d := ⟨Eq.refl _, Eq.refl _, Eq.refl _, .rfl⟩

theorem Started.of_drew {c : Nat} {d e : Dev} (h : Started c d.drew e) : Started c d e := by
  obtain ⟨hact, hout, hlb, hcan⟩ := h
  exact ⟨hact, hout, hlb, hcan⟩

@[simp] theorem ringSkip_dev (k n : Nat) (s : State) : (ringSkip k n s).dev = s.dev := by
  induction n generalizing s with
  | zero => rfl
  | succ n ih =>
    unfold ringSkip
    split
    · split
      · rw [ih, ringTake_dev, recordStatus_dev]
      · rfl
    · rfl

theorem canObj_num {d : Dev} {c j : Nat} {o : CanObj} (h : canObj d c j = some o) : o.num = j :=
  beq_iff_eq.mp (List.find?_some (p := fun o : CanObj => o.num == j) h)

/-- An object that could start is pending. -/
theorem canReady_pending {s : State} {c : Nat} {o : CanObj} (h : o ∈ canReady s c) : bit (s.dev.cn c).pend o.num = true := by
  obtain ⟨j, hj, ho⟩ := List.mem_filterMap.mp h
  have hpend : bit (s.dev.cn c).pend j = true := (List.mem_filter.mp hj).2
  split at ho
  next o' hobj =>
    have hoo : o' = o := (Option.ite_none_right_eq_some.mp ho).2 |> Option.some.inj
    rw [← hoo, canObj_num hobj]
    exact hpend
  · cases ho

theorem started_canStartObj {c : Nat} (hc : c < 3) (kind : Nat) (o : CanObj) (s : State) (ho : bit (s.dev.cn c).pend o.num = true) :
    Started c s.dev (canStartObj c kind o s).dev := by
  refine ⟨rfl, rfl, rfl, ?_⟩
  unfold canStartObj
  rw [State.onDev_dev, Dev.cn_modCn_same hc]
  refine ⟨rfl, rfl, rfl, rfl, fun j => ?_⟩
  rw [bit_setBit]
  by_cases hj : o.num = j
  · rw [if_pos hj, ← hj, ho]
  · rw [if_neg hj]

theorem started_canStartRing {c : Nat} (hc : c < 3) (a : Nat) (s : State) : Started c s.dev (canStartRing c a s).dev := by
  refine ⟨rfl, rfl, rfl, ?_⟩
  unfold canStartRing
  rw [State.onDev_dev, Dev.cn_modCn_same hc]
  exact ⟨rfl, rfl, rfl, rfl, fun _ => rfl⟩

theorem nth_mem {α : Type} {l : List α} {i : Nat} (dflt : α) (h : i < l.length) : nth l i dflt ∈ l := by
  unfold nth
  rw [List.getElem?_eq_getElem h]
  exact List.getElem_mem h

theorem started_canStart {c : Nat} (hc : c < 3) (s : State) : Started c s.dev (canStart c s).dev := by
  unfold canStart
  split
  · exact .rfl
  · split
    next =>
      split
      · exact .rfl
      · split
        next k hk =>
          dsimp only
          split
          next a ha =>
            split
            · have h := started_canStartRing hc a (ringSkip k 256 s)
              rwa [ringSkip_dev] at h
            · rw [ringSkip_dev]; exact .rfl
          · rw [ringSkip_dev]; exact .rfl
        · exact .rfl
    next hne =>
      have hlen : 0 < (canReady s c).length := List.length_pos_of_ne_nil hne
      obtain ⟨hact, hout, hlb, hcan⟩ := started_canStartObj hc
        (if canTT s.dev c && canScheduled s.dev (nth (canReady s c) (s.dev.fresh 100 % (canReady s c).length) default).num then 2 else 0)
        (nth (canReady s c) (s.dev.fresh 100 % (canReady s c).length) default) s (canReady_pending (nth_mem _ (Nat.mod_lt _ hlen)))
      exact ⟨hact, hout, hlb, hcan⟩

theorem started_canKick {c : Nat} (hc : c < 3) (s : State) : Started c s.dev (canKick c s).dev := by
  unfold canKick
  dsimp only
  split
  · exact (started_canStart hc (s.onDev Dev.drew)).of_drew
  · exact Started.rfl.of_drew

/-! The error state and the published registers. -/

theorem canErrState_cn {c : Nat} (hc : c < 3) (d : Dev) : ∃ st, (canErrState c d).cn c = { d.cn c with st := st } := by
  unfold canErrState
  dsimp only
  split
  · exact ⟨3, by rw [Dev.cn_ev, Dev.cn_modCn_same hc]⟩
  · split
    · exact ⟨2, by rw [Dev.cn_modCn_same hc]⟩
    · exact ⟨_, rfl⟩

theorem get_canErrState (c p : Nat) (f : Fld) (d : Dev) (h : f.place ≠ HDR.EV_STAT.place) : (canErrState c d).get p f = d.get p f := by
  unfold canErrState
  dsimp only
  split
  · exact Dev.get_ev_place _ _ _ _ _ h
  · split <;> rfl

theorem canErrState_quiet {c : Nat} (d : Dev) (htec : (d.cn c).tec = 0) (hrec : (d.cn c).rec_ = 0) (hst : (d.cn c).st ≠ 3) :
    canErrState c d = d := by
  unfold canErrState
  simp [htec, hrec, hst]

theorem canErrState_out (c : Nat) (d : Dev) : (canErrState c d).net.out = d.net.out := by
  unfold canErrState
  dsimp only
  split
  · rfl
  · split <;> rfl

@[simp] theorem cn_canPublish (c act : Nat) (d : Dev) (b : Nat) : (canPublish c act d).cn b = d.cn b := rfl

@[simp] theorem canPublish_out (c act : Nat) (d : Dev) : (canPublish c act d).net.out = d.net.out := rfl

/-- The places of the fields that are published at a frame's end. -/
def publishPlaces : List Nat := [CAN.PSR.STATE.place, CAN.PSR.BOLATCH.place, CAN.PSR.ACT.place, CAN.ECS.TEC.place, CAN.ECS.REC.place]

theorem get_canPublish (c act p : Nat) (f : Fld) (d : Dev) (h : f.place ∉ publishPlaces) : (canPublish c act d).get p f = d.get p f := by
  simp only [publishPlaces, List.mem_cons, List.not_mem_nil, or_false, not_or] at h
  obtain ⟨h1, h2, h3, h4, h5⟩ := h
  unfold canPublish
  dsimp only
  rw [Dev.get_put_place _ _ _ _ _ _ h5, Dev.get_put_place _ _ _ _ _ _ h4, Dev.get_put_place _ _ _ _ _ _ h3, Dev.putB_eq,
    Dev.get_put_place _ _ _ _ _ _ h2, Dev.get_put_place _ _ _ _ _ _ h1]

theorem raised_canPublish (c act p n : Nat) (d : Dev) : (canPublish c act d).raised p n = d.raised p n := by
  unfold Dev.raised
  rw [get_canPublish _ _ _ _ _ (by decide)]

theorem canPublish_state (c act : Nat) (d : Dev) : (canPublish c act d).get (pgCAN c) CAN.PSR.STATE = (d.cn c).st % 2 ^ CAN.PSR.STATE.w := by
  unfold canPublish
  dsimp only
  rw [Dev.get_put_place _ _ _ _ _ _ (by decide), Dev.get_put_place _ _ _ _ _ _ (by decide), Dev.get_put_place _ _ _ _ _ _ (by decide), Dev.putB_eq,
    Dev.get_put_place _ _ _ _ _ _ (by decide), Dev.get_put_same]

theorem canPublish_tec (c act : Nat) (d : Dev) : (canPublish c act d).get (pgCAN c) CAN.ECS.TEC = min 255 (d.cn c).tec % 2 ^ CAN.ECS.TEC.w := by
  unfold canPublish
  dsimp only
  rw [Dev.get_put_place _ _ _ _ _ _ (by decide), Dev.get_put_same]

end Sys2Proof.Machine
end

section
/-! PROOFS. The end of a transmission and the cancel of a frame record (R449, R454, R456, R457). -/

namespace Sys2Proof.Machine

/-! How an attempt's end counts. -/

theorem canDelay_cn (c b : Nat) (d : Dev) : (canDelay c d).cn b = d.cn b := by
  unfold canDelay
  split <;> rfl

theorem canDelay_out (c : Nat) (d : Dev) : (canDelay c d).net.out = d.net.out := by
  unfold canDelay
  split <;> rfl

theorem get_canDelay (c p : Nat) (f : Fld) (d : Dev) (h : f.place ≠ CAN.PSR.TDCV.place) : (canDelay c d).get p f = d.get p f := by
  unfold canDelay
  split
  · exact Dev.get_put_place _ _ _ _ _ _ h
  · rfl

/-- The error of an attempt that falls outside the data phase and the data field. -/
def bitError : CanEnd := .error 1 false false {}

/-- What an attempt's end counts: the device as the outcome is then told. -/
def txCounted (c : Nat) (e : CanEnd) (d : Dev) : Dev := canErrState c (canTxError c e (canTxCount c e (canDelay c d)))

/-- The transmit error counter behind an attempt's end. -/
def tecAfter (e : CanEnd) (tec : Nat) : Nat :=
  match e with
  | .sent => tec - 1
  | .lost => tec
  | .error _ _ _ _ => tec + 8

theorem txCounted_cn {c : Nat} (hc : c < 3) {e : CanEnd} (he : e = .sent ∨ e = .lost ∨ e = bitError) (d : Dev) :
    ∃ st, (txCounted c e d).cn c = { d.cn c with st := st, tec := tecAfter e (d.cn c).tec } := by
  have hcount : (canTxError c e (canTxCount c e (canDelay c d))).cn c = { d.cn c with tec := tecAfter e (d.cn c).tec } := by
    have hcn : (canTxCount c e (canDelay c d)).cn c = { d.cn c with tec := tecAfter e (d.cn c).tec } := by
      unfold canTxCount
      rw [Dev.cn_modCn_same hc, canDelay_cn]
      rcases he with rfl | rfl | rfl <;> rfl
    rcases he with rfl | rfl | rfl
    · exact hcn
    · exact hcn
    · unfold canTxError bitError
      simp only [Bool.false_and, Bool.false_eq_true, if_false]
      split <;> exact hcn
  obtain ⟨st, hst⟩ := canErrState_cn hc (canTxError c e (canTxCount c e (canDelay c d)))
  exact ⟨st, by rw [txCounted, hst, hcount]⟩

theorem txCounted_out (c : Nat) {e : CanEnd} (he : e = .sent ∨ e = .lost ∨ e = bitError) (d : Dev) :
    (txCounted c e d).net.out = d.net.out := by
  rw [txCounted, canErrState_out]
  rcases he with rfl | rfl | rfl
  · exact canDelay_out c d
  · exact canDelay_out c d
  · unfold canTxError bitError
    simp only [Bool.false_and, Bool.false_eq_true, if_false]
    split <;> exact canDelay_out c d

theorem txCounted_txok (c : Nat) (d : Dev) : (txCounted c .sent d).get (pgCAN c) CAN.CNT0.TXOK = d.get (pgCAN c) CAN.CNT0.TXOK := by
  rw [txCounted, get_canErrState _ _ _ _ (by decide)]
  exact get_canDelay _ _ _ _ (by decide)

theorem txCounted_lec (c : Nat) (d : Dev) : (txCounted c bitError d).get (pgCAN c) CAN.PSR.LEC = 1 := by
  rw [txCounted, get_canErrState _ _ _ _ (by decide)]
  unfold canTxError bitError
  simp only [Bool.false_and, Bool.false_eq_true, if_false]
  split <;> exact Dev.get_put_same _ _ _ _

/-! An object's frame ends. -/

/-- A controller whose object ends with an outcome. -/
def objectEnded (j v : Nat) (x : CanX) : CanX :=
  { x with pend := setBit x.pend j false, status := modNth (fun _ => v) x.status j, sof := none, noRetry := false, txKind := 0 }

theorem canFinish_object {c j : Nat} (v : Nat) {s : State} (hj : j < 64) (hsof : (s.dev.cn c).sof = some j) :
    canFinish c v s = s.onDev fun d => (canDone c j v d).modCn c fun x => { x with sof := none, noRetry := false, txKind := 0 } := by
  unfold canFinish
  dsimp only
  split
  next h =>
    rw [hsof] at h
    cases h
    exact absurd hj (by decide)
  next i _ h =>
    rw [hsof] at h
    cases h
    rfl
  next h =>
    rw [hsof] at h
    cases h

theorem canFinish_object_cn {c j : Nat} (hc : c < 3) (v : Nat) {s : State} (hj : j < 64) (hsof : (s.dev.cn c).sof = some j) :
    (canFinish c v s).dev.cn c = objectEnded j v (s.dev.cn c) := by
  rw [canFinish_object v hj hsof]
  unfold canDone canStatus
  rw [State.onDev_dev, Dev.cn_modCn_same hc, Dev.cn_modCn_same hc, Dev.cn_modCn_same hc]
  rfl

theorem canFinish_object_act {c j : Nat} (v : Nat) {s : State} (hj : j < 64) (hsof : (s.dev.cn c).sof = some j) :
    (canFinish c v s).dev.act = s.dev.act ∧ (canFinish c v s).dev.net.out = s.dev.net.out := by
  rw [canFinish_object v hj hsof]
  exact ⟨rfl, rfl⟩

theorem objectEnded_status {j v : Nat} {x : CanX} (h : j < x.status.length) : nth (objectEnded j v x).status j 0 = v :=
  nth_modNth_same _ _ _ _ h

theorem objectEnded_pend (j v : Nat) (x : CanX) : bit (objectEnded j v x).pend j = false := by
  unfold objectEnded
  rw [bit_setBit, if_pos rfl]

/-! The commands' outcomes by cases. -/

theorem canStart_busy {c j : Nat} {s : State} (hsof : (s.dev.cn c).sof = some j) : canStart c s = s := by
  unfold canStart
  rw [hsof]
  rfl

/-- A frame sent: counted and the bus's latest. -/
def frameSent (c : Nat) (f : CanFrame) (d : Dev) : Dev :=
  let d := d.inc (pgCAN c) CAN.CNT0.TXOK
  { d with net := { d.net with out := { d.net.out with can := modNth (fun _ => f) d.net.out.can c } } }

/-- An attempt given up for the time being. -/
def attemptOver (c : Nat) (d : Dev) : Dev := d.modCn c fun x => { x with sof := none, tried := x.tried || x.txKind == 2 }

section
variable {s : State} {c j : Nat} (hc : c < 3) (hj : j < 64) (hsof : (s.dev.cn c).sof = some j)

include hsof in
theorem canTxComplete_sent : canTxComplete c .sent s =
    (canKick c ((canFinish c 2 (s.onDev (txCounted c .sent))).onDev (frameSent c (s.dev.cn c).frame))).onDev (canPublish c 2) := by
  unfold canTxComplete
  dsimp only
  rw [canStart_busy hsof, hsof]
  rfl

include hsof in
theorem canTxComplete_lost_refused (hno : (s.dev.cn c).noRetry = true) : canTxComplete c .lost s =
    canKick c ((canFinish c 4 (s.onDev (txCounted c .lost))).onDev (Dev.incSat (pgCAN c) CAN.CNT1.LOST)) := by
  unfold canTxComplete
  dsimp only
  rw [canStart_busy hsof, hsof]
  rw [if_pos hno]
  rfl

include hsof in
theorem canTxComplete_lost_retried (hno : (s.dev.cn c).noRetry = false) (hkind : (s.dev.cn c).txKind = 0) :
    canTxComplete c .lost s = canKick c ((s.onDev (txCounted c .lost)).onDev (attemptOver c)) := by
  unfold canTxComplete
  dsimp only
  rw [canStart_busy hsof, hsof]
  rw [hno, hkind]
  rfl

include hsof in
theorem canTxComplete_error_retried (hno : (s.dev.cn c).noRetry = false) (hkind : (s.dev.cn c).txKind = 0) :
    canTxComplete c bitError s = (canKick c ((s.onDev (txCounted c bitError)).onDev (attemptOver c))).onDev (canPublish c 2) := by
  unfold canTxComplete
  dsimp only
  rw [canStart_busy hsof, hsof]
  rw [hno, hkind]
  rfl

include hc hj hsof

theorem canTxComplete_sent_spec (hlen : j < (s.dev.cn c).status.length) (hout : c < s.dev.net.out.can.length) :
    (canTxComplete c .sent s).dev.get (pgCAN c) CAN.CNT0.TXOK = (s.dev.get (pgCAN c) CAN.CNT0.TXOK + 1) % 2 ^ CAN.CNT0.TXOK.w ∧
    nth ((canTxComplete c .sent s).dev.cn c).status j 0 = 2 ∧ bit ((canTxComplete c .sent s).dev.cn c).pend j = false ∧
    ((canTxComplete c .sent s).dev.cn c).tec = (s.dev.cn c).tec - 1 ∧
    nth (canTxComplete c .sent s).dev.net.out.can c {} = (s.dev.cn c).frame := by
  obtain ⟨st, hcn⟩ := txCounted_cn hc (e := .sent) (.inl rfl) s.dev
  have hsof1 : ((s.onDev (txCounted c .sent)).dev.cn c).sof = some j := by rw [State.onDev_dev, hcn]; exact hsof
  have hlen1 : j < ((s.onDev (txCounted c .sent)).dev.cn c).status.length := by rw [State.onDev_dev, hcn]; exact hlen
  obtain ⟨hact, hcan⟩ := canFinish_object_act 2 hj hsof1
  have hfin := canFinish_object_cn hc 2 hj hsof1
  rw [canTxComplete_sent hsof]
  generalize hu : canFinish c 2 (s.onDev (txCounted c .sent)) = u at hact hcan hfin ⊢
  have hk := started_canKick hc (u.onDev (frameSent c (s.dev.cn c).frame))
  generalize canKick c (u.onDev (frameSent c (s.dev.cn c).frame)) = t at hk ⊢
  have htxok : u.dev.get (pgCAN c) CAN.CNT0.TXOK = s.dev.get (pgCAN c) CAN.CNT0.TXOK := by
    rw [← txCounted_txok c s.dev]
    unfold Dev.get
    rw [hact]
    rfl
  have hcnu : (u.onDev (frameSent c (s.dev.cn c).frame)).dev.cn c = u.dev.cn c := rfl
  refine ⟨?_, ?_, ?_, ?_, ?_⟩
  · rw [State.onDev_dev, get_canPublish _ _ _ _ _ (by decide), hk.get]
    show (u.dev.inc (pgCAN c) CAN.CNT0.TXOK).get _ _ = _
    rw [Dev.inc_eq, Dev.get_put_same, htxok]
  · rw [State.onDev_dev, cn_canPublish, hk.can.status, hcnu, hfin]
    exact objectEnded_status hlen1
  · rw [State.onDev_dev, cn_canPublish, hk.can.pend, hcnu, hfin]
    exact objectEnded_pend ..
  · rw [State.onDev_dev, cn_canPublish, hk.can.tec, hcnu, hfin, State.onDev_dev, hcn]
    rfl
  · rw [State.onDev_dev, canPublish_out, hk.out]
    show nth (modNth (fun _ => (s.dev.cn c).frame) u.dev.net.out.can c) c {} = _
    rw [hcan, State.onDev_dev, txCounted_out c (.inl rfl)]
    exact nth_modNth_same _ _ _ _ hout

theorem canTxComplete_lost_refused_spec (hlen : j < (s.dev.cn c).status.length) (hno : (s.dev.cn c).noRetry = true) :
    nth ((canTxComplete c .lost s).dev.cn c).status j 0 = 4 ∧ bit ((canTxComplete c .lost s).dev.cn c).pend j = false ∧
    ((canTxComplete c .lost s).dev.cn c).tec = (s.dev.cn c).tec := by
  obtain ⟨st, hcn⟩ := txCounted_cn hc (e := .lost) (.inr (.inl rfl)) s.dev
  have hsof1 : ((s.onDev (txCounted c .lost)).dev.cn c).sof = some j := by rw [State.onDev_dev, hcn]; exact hsof
  have hlen1 : j < ((s.onDev (txCounted c .lost)).dev.cn c).status.length := by rw [State.onDev_dev, hcn]; exact hlen
  have hfin := canFinish_object_cn hc 4 hj hsof1
  rw [canTxComplete_lost_refused hsof hno]
  generalize canFinish c 4 (s.onDev (txCounted c .lost)) = u at hfin ⊢
  have hk := started_canKick hc (u.onDev (Dev.incSat (pgCAN c) CAN.CNT1.LOST))
  have hcnu : (u.onDev (Dev.incSat (pgCAN c) CAN.CNT1.LOST)).dev.cn c = u.dev.cn c := rfl
  refine ⟨?_, ?_, ?_⟩
  · rw [hk.can.status, hcnu, hfin]
    exact objectEnded_status hlen1
  · rw [hk.can.pend, hcnu, hfin]
    exact objectEnded_pend ..
  · rw [hk.can.tec, hcnu, hfin, State.onDev_dev, hcn]
    rfl

omit hj hsof in
/-- An attempt given up leaves the request as it stood. -/
theorem attemptOver_txCounted {e : CanEnd} (he : e = .sent ∨ e = .lost ∨ e = bitError) :
    ∃ st tried, ((s.onDev (txCounted c e)).onDev (attemptOver c)).dev.cn c =
      { s.dev.cn c with st := st, tec := tecAfter e (s.dev.cn c).tec, sof := none, tried := tried } := by
  obtain ⟨st, hcn⟩ := txCounted_cn hc he s.dev
  refine ⟨st, (s.dev.cn c).tried || (s.dev.cn c).txKind == 2, ?_⟩
  unfold attemptOver
  rw [State.onDev_dev, Dev.cn_modCn_same hc, State.onDev_dev, hcn]

omit hj in
theorem canTxComplete_lost_retried_spec (hno : (s.dev.cn c).noRetry = false) (hkind : (s.dev.cn c).txKind = 0) (i : Nat) :
    ((canTxComplete c .lost s).dev.cn c).status = (s.dev.cn c).status ∧ bit ((canTxComplete c .lost s).dev.cn c).pend i = bit (s.dev.cn c).pend i := by
  obtain ⟨st, tried, hcn⟩ := attemptOver_txCounted (s := s) hc (e := .lost) (.inr (.inl rfl))
  have hk := started_canKick hc ((s.onDev (txCounted c .lost)).onDev (attemptOver c))
  rw [canTxComplete_lost_retried hsof hno hkind]
  exact ⟨by rw [hk.can.status, hcn], by rw [hk.can.pend, hcn]⟩

omit hj in
theorem canTxComplete_error_retried_spec (hno : (s.dev.cn c).noRetry = false) (hkind : (s.dev.cn c).txKind = 0) :
    ((canTxComplete c bitError s).dev.cn c).tec = (s.dev.cn c).tec + 8 ∧
    (canTxComplete c bitError s).dev.get (pgCAN c) CAN.PSR.LEC = 1 ∧
    ((canTxComplete c bitError s).dev.cn c).status = (s.dev.cn c).status := by
  obtain ⟨st, tried, hcn⟩ := attemptOver_txCounted (s := s) hc (e := bitError) (.inr (.inr rfl))
  have hk := started_canKick hc ((s.onDev (txCounted c bitError)).onDev (attemptOver c))
  rw [canTxComplete_error_retried hsof hno hkind]
  refine ⟨?_, ?_, ?_⟩
  · rw [State.onDev_dev, cn_canPublish, hk.can.tec, hcn]
    rfl
  · rw [State.onDev_dev, get_canPublish _ _ _ _ _ (by decide), hk.get]
    exact txCounted_lec c s.dev
  · rw [State.onDev_dev, cn_canPublish, hk.can.status, hcn]

end

end Sys2Proof.Machine
end

section
/-! PROOFS. Frame records that are cancelled, bus-off and integration (R449, R450, R456, R457, R473). -/

namespace Sys2Proof.Machine

/-! The first byte of a word in memory. -/

/-- A byte stored reads back in any memory where it is one that is listed. -/
theorem Memory.get_put_listed {e v : Byte} (hv : v ≠ e) (m : Memory) (a : Nat) : (m.put e a v).get e a = v := by
  induction m with
  | nil => simp [Memory.put, Memory.get, hv]
  | cons c m ih =>
    obtain ⟨b, w⟩ := c
    unfold Memory.put
    split
    · simp [Memory.get]
    · split
      · simp [Memory.get]
      next hne =>
        rw [Memory.get, if_neg (Ne.symm hne)]
        exact ih

theorem peek_word_byte (s : State) (a : Nat) : s.peek a 4 % 256 = (Memory.get sramEmpty s.mem a).toNat := by
  have hlt : (Memory.get sramEmpty s.mem a).toNat < 256 := (Memory.get sramEmpty s.mem a).isLt
  unfold State.peek Memory.getW Memory.getL ofLe
  omega

/-- The first byte of a word stored, where it is not 0. -/
theorem peek_poke_byte (s : State) (a v : Nat) (hv : v % 256 ≠ 0) : (s.poke a 4 v).peek a 4 % 256 = v % 256 := by
  have hb : BitVec.ofNat 8 (v % 256) ≠ sramEmpty := fun h => hv (by
    have := congrArg BitVec.toNat h
    simpa using this)
  have hget : Memory.get sramEmpty (s.poke a 4 v).mem a = BitVec.ofNat 8 (v % 256) := by
    show Memory.get sramEmpty (Memory.putL sramEmpty s.mem a (leBytes 4 v)) a = _
    rw [leBytes, Memory.putL, Memory.get_putL_ne _ _ _ _ _ (.inl (Nat.lt_succ_self a)), Memory.get_put_listed hb]
  rw [peek_word_byte, hget, BitVec.toNat_ofNat]
  omega

theorem bit_zero_of_byte {v w : Nat} (h : v % 256 = w % 256) : bit v 0 = bit w 0 := by
  unfold bit
  rw [Nat.pow_zero, Nat.div_one, Nat.div_one]
  congr 1
  omega

theorem setBit_zero_true (v : Nat) : setBit v 0 true = v + (1 - v % 2) := by
  unfold setBit bit
  rw [Nat.pow_zero, Nat.div_one]
  rcases Nat.mod_two_eq_zero_or_one v with h | h <;> simp [h]

/-- What CANCEL makes of a record's word: the bit stands, the status is as it was. -/
theorem cancel_byte (s : State) (a : Nat) : (s.poke a 4 (setBit (s.peek a 4) 0 true)).peek a 4 % 256 = (s.peek a 4 + (1 - s.peek a 4 % 2)) % 256 := by
  rw [peek_poke_byte _ _ _ (by rw [setBit_zero_true]; omega), setBit_zero_true]

theorem cancel_bit (s : State) (a : Nat) : bit ((s.poke a 4 (setBit (s.peek a 4) 0 true)).peek a 4) 0 = true := by
  rw [bit_zero_of_byte (cancel_byte s a), bit_zero_eq]
  exact decide_eq_true (by omega)

theorem cancel_status (s : State) (a : Nat) :
    bitsOf ((s.poke a 4 (setBit (s.peek a 4) 0 true)).peek a 4) 4 4 = bitsOf (s.peek a 4) 4 4 := by
  have h := cancel_byte s a
  unfold bitsOf
  omega

/-- The status 3 in a word whose first bit stands. -/
theorem recordStatus_byte (s : State) (a : Nat) (hbit : s.peek a 4 % 2 = 1) :
    (recordStatus a 3 s).peek a 4 % 256 = 48 + s.peek a 4 % 16 := by
  have hv : setBits (s.peek a 4) 4 4 3 % 256 = 48 + s.peek a 4 % 16 := by unfold setBits bitsOf; omega
  rw [recordStatus, peek_poke_byte _ _ _ (by omega), hv]

section
variable {s : State} {c a : Nat}

/-- CANCEL on the record whose frame is under way. -/
theorem recordCancel_underWay (hin : ¬(a < packetBase ∨ packetBase + packetSize < a + 84)) (hsof : (s.dev.cn c).sof = some 64)
    (hat : (s.dev.cn c).ringAt = a) : recordCancel c a s = (s.poke a 4 (setBit (s.peek a 4) 0 true)).onDev fun d =>
      (d.modCn c fun x => { x with noRetry := true }).ev (pgCAN c) Ev.CAN.TXCANREF := by
  unfold recordCancel
  rw [if_neg hin]
  exact if_pos ⟨hsof, hat⟩

/-- CANCEL on a record that waits, without a ring to serve. -/
theorem recordCancel_waiting (hin : ¬(a < packetBase ∨ packetBase + packetSize < a + 84)) (hsof : (s.dev.cn c).sof = none)
    (hst : bitsOf (s.peek a 4) 4 4 = 0) (hring : canTxRing s.dev c = none) :
    recordCancel c a s = recordStatus a 3 (s.poke a 4 (setBit (s.peek a 4) 0 true)) := by
  have hno : ¬((s.dev.cn c).sof = some 64 ∧ (s.dev.cn c).ringAt = a) := fun h => by rw [hsof] at h; cases h.1
  have hst' := cancel_status s a
  unfold recordCancel
  rw [if_neg hin]
  dsimp only
  rw [hst', hst]
  refine (if_neg hno).trans ((if_pos (.inl rfl)).trans ?_)
  rw [recordStatus_dev]
  change (match canTxRing s.dev c with | some k => _ | none => _) = _
  rw [hring]

theorem recordCancel_outside (h : a < packetBase) : recordCancel c a s = s := if_pos (.inl h)

end

/-! Bus-off and integration. -/

/-- Of a controller with its page and events: what a bus-off, a frame's end and the requests missed keep. -/
structure MissKept (c : Nat) (d e : Dev) : Prop where
  act : e.act = d.act
  sof : (e.cn c).sof = none
  tim : e.tim = d.tim

theorem canFinish_missKept {c : Nat} (hc : c < 3) (v : Nat) (s : State) : MissKept c s.dev (canFinish c v s).dev := by
  unfold canFinish
  dsimp only
  split
  · have hdev : (match canTxRing (recordStatus (s.dev.cn c).ringAt v s).dev c with
        | some k => if ringNext (recordStatus (s.dev.cn c).ringAt v s) k = some (s.dev.cn c).ringAt then
            ringTake k (recordStatus (s.dev.cn c).ringAt v s) else recordStatus (s.dev.cn c).ringAt v s
        | none => recordStatus (s.dev.cn c).ringAt v s).dev = s.dev := by
      split
      · split <;> simp
      · rfl
    rw [State.onDev_dev]
    refine ⟨?_, by rw [Dev.cn_modCn_same hc], ?_⟩
    · rw [Dev.modCn_act]; exact congrArg Dev.act hdev
    · rw [Dev.modCn_tim]; exact congrArg Dev.tim hdev
  · rw [State.onDev_dev]
    exact ⟨rfl, by rw [Dev.cn_modCn_same hc], rfl⟩
  · rw [State.onDev_dev]
    exact ⟨rfl, by rw [Dev.cn_modCn_same hc], rfl⟩

theorem canDone_cn {c : Nat} (hc : c < 3) (j v : Nat) (d : Dev) : (canDone c j v d).cn c =
    { d.cn c with pend := setBit (d.cn c).pend j false, status := modNth (fun _ => v) (d.cn c).status j } := by
  unfold canDone canStatus
  rw [Dev.cn_modCn_same hc, Dev.cn_modCn_same hc]

/-- Ending a list of requests leaves the frame under way, and none of them stands. -/
theorem each_canDone {c : Nat} (hc : c < 3) (v : Nat) (l : List Nat) (d : Dev) :
    (d.each l fun j => canDone c j v).act = d.act ∧ (d.each l fun j => canDone c j v).tim = d.tim ∧
    ((d.each l fun j => canDone c j v).cn c).sof = (d.cn c).sof ∧
    ∀ i, bit ((d.each l fun j => canDone c j v).cn c).pend i = (bit (d.cn c).pend i && !decide (i ∈ l)) := by
  induction l generalizing d with
  | nil => exact ⟨rfl, rfl, rfl, fun i => by simp [Dev.each]⟩
  | cons j l ih =>
    obtain ⟨hact, htim, hsof, hpend⟩ := ih (canDone c j v d)
    refine ⟨hact, htim, hsof.trans (by rw [canDone_cn hc]), fun i => ?_⟩
    refine (hpend i).trans ?_
    rw [canDone_cn hc, bit_setBit]
    by_cases hji : j = i
    · simp [hji]
    · simp [hji, Ne.symm hji]

theorem canMissAll_spec {c : Nat} (hc : c < 3) (s : State) : MissKept c s.dev (canMissAll c s).dev ∧
    ∀ j < 64, bit ((canMissAll c s).dev.cn c).pend j = false := by
  have hsof : MissKept c s.dev (if (s.dev.cn c).sof.isSome then canFinish c 6 s else s).dev := by
    split
    · exact canFinish_missKept hc 6 s
    next h => exact ⟨rfl, by simpa using h, rfl⟩
  have hpending (t : State) (ht : MissKept c s.dev t.dev) :
      MissKept c s.dev (t.onDev fun d => d.each (canPending d c) fun j => canDone c j 6).dev ∧
      ∀ j < 64, bit ((t.onDev fun d => d.each (canPending d c) fun j => canDone c j 6).dev.cn c).pend j = false := by
    obtain ⟨hact, htim, hnone, hpend⟩ := each_canDone hc 6 (canPending t.dev c) t.dev
    refine ⟨⟨hact.trans ht.act, hnone.trans ht.sof, htim.trans ht.tim⟩, fun j hj => (hpend j).trans ?_⟩
    cases hb : bit (t.dev.cn c).pend j
    · rfl
    · have hmem : j ∈ canPending t.dev c := List.mem_filter.mpr ⟨List.mem_range.mpr hj, hb⟩
      simp [hmem]
  unfold canMissAll
  generalize (if (s.dev.cn c).sof.isSome then canFinish c 6 s else s) = s' at hsof
  refine hpending _ ?_
  split
  · split
    · split
      · rw [ringTake_dev, recordStatus_dev]; exact hsof
      · exact hsof
    · exact hsof
  · exact hsof

/-- A report leaves the data plane alone. -/
theorem keepsNet (x : NetX) : ReportKeeps fun d => d.net = x :=
  keepsPart (fun d => d.net) x (fun _ _ => rfl) (fun _ _ => rfl) (fun _ _ => rfl) (fun _ _ => rfl) (fun _ _ => rfl) (fun _ _ => rfl)
    (fun _ _ _ _ => rfl) (fun _ _ => rfl) (fun _ _ _ => rfl) (fun _ _ => rfl)

theorem Dev.net_fault (pg : Nat) (x : Cause) (inst : Nat) (d : Dev) : (d.fault pg x inst).net = d.net :=
  (keepsNet d.net).fault (fun _ _ h => h) pg x inst d rfl

theorem Dev.raised_raise {p n : Nat} (hn : n < 32) (pg : Nat) (x : Cause) (inst : Nat) {d : Dev} (h : d.raised p n = true) :
    (d.raise pg x inst).raised p n = true := (keepsRaised p n hn).raise pg x inst d h

theorem Dev.raised_fault {p n : Nat} (hn : n < 32) (pg : Nat) (x : Cause) (inst : Nat) {d : Dev} (h : d.raised p n = true) :
    (d.fault pg x inst).raised p n = true := (keepsRaised p n hn).fault (fun _ _ h => h) pg x inst d h

/-- A controller off the bus. -/
def offBus (times : List Nat) (latch : Bool) (at_ : Nat) (x : CanX) : CanX :=
  { x with st := 4, boTimes := times, boLatched := latch, boAt := at_, boReset := false, boRec := false }

/-- The report of a bus-off, with the fault of a latched one and the leaf bus stopped. -/
def busOffTold (c : Nat) (latch : Bool) (d : Dev) : Dev :=
  let pg := pgCAN c
  let d := ((d.incSat pg CAN.CNT1.BOCNT).ev pg Ev.CAN.BUSOFF).raise pg Cz.CAN.BUSOFF 0xFF
  let d := if latch then d.fault pg Cz.CAN.BOLATCH 0xFF else d
  if c = 0 then { d with net := { d.net with lb := { d.net.lb with tt := false, slot := none } } }.put pgIMPO IMPO.REF_STAT.TTRUN 0 else d

theorem busOffTold_cn (c : Nat) (latch : Bool) (d : Dev) (b : Nat) : (busOffTold c latch d).cn b = d.cn b := by
  have hraise : (((d.incSat (pgCAN c) CAN.CNT1.BOCNT).ev (pgCAN c) Ev.CAN.BUSOFF).raise (pgCAN c) Cz.CAN.BUSOFF 0xFF).net = d.net := by
    rw [Dev.net_raise]
    rfl
  have hfault : (if latch then (((d.incSat (pgCAN c) CAN.CNT1.BOCNT).ev (pgCAN c) Ev.CAN.BUSOFF).raise (pgCAN c) Cz.CAN.BUSOFF 0xFF).fault
      (pgCAN c) Cz.CAN.BOLATCH 0xFF else ((d.incSat (pgCAN c) CAN.CNT1.BOCNT).ev (pgCAN c) Ev.CAN.BUSOFF).raise (pgCAN c) Cz.CAN.BUSOFF 0xFF).net = d.net := by
    split
    · rw [Dev.net_fault, hraise]
    · exact hraise
  unfold busOffTold Dev.cn
  dsimp only
  split
  · rw [Dev.put_net, hfault]
  · rw [hfault]

theorem busOffTold_raised (c : Nat) (latch : Bool) (d : Dev) : (busOffTold c latch d).raised (pgCAN c) Ev.CAN.BUSOFF = true := by
  have hraise : (((d.incSat (pgCAN c) CAN.CNT1.BOCNT).ev (pgCAN c) Ev.CAN.BUSOFF).raise (pgCAN c) Cz.CAN.BUSOFF 0xFF).raised
      (pgCAN c) Ev.CAN.BUSOFF = true := Dev.raised_raise (by decide) _ _ _ (Dev.raised_ev_same _ _ _ (by decide))
  have hfault : (if latch then (((d.incSat (pgCAN c) CAN.CNT1.BOCNT).ev (pgCAN c) Ev.CAN.BUSOFF).raise (pgCAN c) Cz.CAN.BUSOFF 0xFF).fault
      (pgCAN c) Cz.CAN.BOLATCH 0xFF else ((d.incSat (pgCAN c) CAN.CNT1.BOCNT).ev (pgCAN c) Ev.CAN.BUSOFF).raise (pgCAN c) Cz.CAN.BUSOFF 0xFF).raised
      (pgCAN c) Ev.CAN.BUSOFF = true := by
    split
    · exact Dev.raised_fault (by decide) _ _ _ hraise
    · exact hraise
  unfold busOffTold
  dsimp only
  split
  · rw [Dev.raised_put_place _ _ _ _ _ _ (by decide)]
    exact hfault
  · exact hfault

/-- A transmit error counter past 255 takes the controller off the bus. -/
theorem busOff_eq {s : State} {c : Nat} (hst : (s.dev.cn c).st = 2 ∨ (s.dev.cn c).st = 3) (htec : 256 ≤ (s.dev.cn c).tec) :
    ∃ times latch at_, (s.dev.on (pgCAN c) CAN.CTRL.BOAUTO = false → (canMissAll c s).dev.act = s.dev.act → latch = true) ∧
      (busOff c s).dev = canPublish c 0 (busOffTold c latch ((canMissAll c s).dev.modCn c (offBus times latch at_))) := by
  unfold busOff
  rw [if_pos ⟨hst, htec⟩]
  refine ⟨_, _, _, fun hauto hact => ?_, rfl⟩
  have hoff : (canMissAll c s).dev.on (pgCAN c) CAN.CTRL.BOAUTO = false := by
    rw [← hauto]
    unfold Dev.on Dev.get
    rw [hact]
  rw [hoff]
  simp

theorem busOff_spec {c : Nat} (hc : c < 3) {s : State} (hst : (s.dev.cn c).st = 2 ∨ (s.dev.cn c).st = 3) (htec : 256 ≤ (s.dev.cn c).tec)
    {j : Nat} (hj : j < 64) : ((busOff c s).dev.cn c).st = 4 ∧ (busOff c s).dev.raised (pgCAN c) Ev.CAN.BUSOFF = true ∧
      (busOff c s).dev.get (pgCAN c) CAN.PSR.STATE = 4 ∧ bit ((busOff c s).dev.cn c).pend j = false ∧ ((busOff c s).dev.cn c).sof = none ∧
      (s.dev.on (pgCAN c) CAN.CTRL.BOAUTO = false → ((busOff c s).dev.cn c).boLatched = true) := by
  obtain ⟨times, latch, at_, hlatch, hdev⟩ := busOff_eq hst htec
  obtain ⟨hmiss, hpend⟩ := canMissAll_spec hc s
  have hcn : ((busOff c s).dev.cn c) = offBus times latch at_ ((canMissAll c s).dev.cn c) := by
    rw [hdev, cn_canPublish, busOffTold_cn, Dev.cn_modCn_same hc]
  have hstate : (busOff c s).dev.get (pgCAN c) CAN.PSR.STATE = 4 := by
    rw [hdev, canPublish_state, busOffTold_cn, Dev.cn_modCn_same hc]
    rfl
  rw [hcn, hstate]
  refine ⟨rfl, ?_, rfl, hpend j hj, hmiss.sof, fun hauto => hlatch hauto hmiss.act⟩
  rw [hdev, raised_canPublish]
  exact busOffTold_raised ..

theorem canActive_canActive (d : Dev) (c : Nat) : canActive d c ≠ 3 ∧ canActive d c % 2 ^ CAN.PSR.STATE.w = canActive d c := by
  unfold canActive
  split
  · decide
  · split <;> decide

/-- A controller that comes back to the bus with its counters at 0. -/
structure BackOnBus (c : Nat) (d e : Dev) : Prop where
  st : (e.cn c).st = canActive d c
  tec : (e.cn c).tec = 0
  rec_ : (e.cn c).rec_ = 0

theorem BackOnBus.of_canKick {c : Nat} (hc : c < 3) {d : Dev} {t : State} (h : BackOnBus c d t.dev) :
    BackOnBus c d ((canKick c t).onDev (canPublish c 0)).dev := by
  obtain ⟨hst, htec, hrec⟩ := h
  obtain ⟨-, -, -, hcan⟩ := started_canKick hc t
  rw [State.onDev_dev]
  exact ⟨hcan.st.trans hst, hcan.tec.trans htec, hcan.rec_.trans hrec⟩

/-- A recovery that ends. -/
def recovered (c : Nat) (d : Dev) : Dev :=
  (d.modCn c fun x => { x with st := canActive d c, tec := 0, rec_ := 0, boRec := false }).ev (pgCAN c) Ev.CAN.BOREC

theorem busOffEnd_spec {c : Nat} (hc : c < 3) {s : State} (hst : (s.dev.cn c).st = 4) (hrec : (s.dev.cn c).boRec = true) :
    BackOnBus c s.dev (busOffEnd c s).dev ∧ (busOffEnd c s).dev.raised (pgCAN c) Ev.CAN.BOREC = true ∧
    (busOffEnd c s).dev.get (pgCAN c) CAN.ECS.TEC = 0 := by
  have hend : busOffEnd c s = (canKick c (s.onDev (recovered c))).onDev (canPublish c 0) := if_pos ⟨hst, hrec⟩
  have hcn : BackOnBus c s.dev (s.onDev (recovered c)).dev := by
    constructor <;> rw [State.onDev_dev, recovered, Dev.cn_ev, Dev.cn_modCn_same hc]
  have hback := hcn.of_canKick hc
  rw [hend]
  refine ⟨hback, ?_, ?_⟩
  · rw [State.onDev_dev, raised_canPublish, (started_canKick hc _).raised]
    exact Dev.raised_ev_same _ _ _ (by decide)
  · rw [State.onDev_dev, canPublish_tec, (started_canKick hc _).can.tec, hcn.tec]
    rfl

/-- An integration that ends. -/
def integrated (c : Nat) (d : Dev) : Dev :=
  d.modCn c fun x => { x with st := canActive d c, pxInt := false, tec := if x.pxInt then x.tec else 0, rec_ := if x.pxInt then x.rec_ else 0 }

theorem canIntegrated_spec {c : Nat} (hc : c < 3) {s : State} (hst : (s.dev.cn c).st = 1) (hpx : (s.dev.cn c).pxInt = false) :
    BackOnBus c s.dev (canIntegrated c s).dev ∧ (canIntegrated c s).dev.get (pgCAN c) CAN.PSR.STATE = canActive s.dev c := by
  have hend : canIntegrated c s = (canKick c (s.onDev fun d => canErrState c (integrated c d))).onDev (canPublish c 0) := if_pos hst
  have hcn : BackOnBus c s.dev (integrated c s.dev) := by
    constructor <;> rw [integrated, Dev.cn_modCn_same hc] <;> simp [hpx]
  obtain ⟨hne, hw⟩ := canActive_canActive s.dev c
  have hquiet : canErrState c (integrated c s.dev) = integrated c s.dev := canErrState_quiet _ hcn.tec hcn.rec_ (by rw [hcn.st]; exact hne)
  have hdev : BackOnBus c s.dev (s.onDev fun d => canErrState c (integrated c d)).dev := by rw [State.onDev_dev, hquiet]; exact hcn
  rw [hend]
  refine ⟨hdev.of_canKick hc, ?_⟩
  rw [State.onDev_dev, canPublish_state, (started_canKick hc _).can.st, hdev.st, hw]

section
variable {c : Nat} {d : Dev}

theorem busOffStart_due (hc : c < 3) (hst : (d.cn c).st = 4) (hrec : (d.cn c).boRec = false) (hlatch : (d.cn c).boLatched = false)
    (hauto : d.on (pgCAN c) CAN.CTRL.BOAUTO = true) (hdue : (d.cn c).boAt + msMot (d.get (pgCAN c) CAN.BOCFG.BOHOLD) ≤ d.tim.mot) :
    ((busOffStart c d).cn c).boRec = true ∧ ((busOffStart c d).cn c).st = 4 ∧ (busOffStart c d).act = d.act := by
  have hstart : busOffStart c d = d.modCn c fun x => { x with boRec := true, boReset := false } :=
    if_pos ⟨hst, by simp [hrec], .inr ⟨by simp [hlatch], hauto, hdue⟩⟩
  rw [hstart, Dev.cn_modCn_same hc]
  exact ⟨rfl, hst, rfl⟩

theorem busOffStart_early (hreset : (d.cn c).boReset = false)
    (hearly : d.tim.mot < (d.cn c).boAt + msMot (d.get (pgCAN c) CAN.BOCFG.BOHOLD)) : busOffStart c d = d := by
  refine if_neg fun ⟨_, _, h⟩ => ?_
  rcases h with h | ⟨_, _, h⟩
  · rw [hreset] at h
    cases h
  · omega

end

end Sys2Proof.Machine

open Sys2Proof Sys2Proof.Machine

/-- Settles O47, from what each end of an attempt, each cancel and each change of a controller's state does (`canTxComplete_sent_spec`,
`recordCancel_waiting`, `busOff_spec` and their neighbours) and from what the next start leaves alone (`started_canKick`). -/
theorem canSendingAndBusOff : Obligations.CanSendingAndBusOff := by
  unfold Obligations.CanSendingAndBusOff
  refine ⟨fun s c j a halive hclean => ⟨fun hsof hlen hout => ⟨?_, fun hno => ?_, fun hno hkind => ⟨?_, ?_⟩⟩, fun hlo hhi => ⟨fun hsof hat => ?_, fun hsof hst hring => ?_⟩, fun hlo => ?_⟩,
    fun s c j halive => ⟨fun hst htec => ?_, fun htec => ?_, fun hst hrec hlatch hreset hauto => ⟨fun hdue => ?_, fun hearly => ?_⟩, fun hst hrec => ?_, fun hst hpx => ?_, fun hst => ?_⟩⟩
  · exact next_of_reading halive hclean (canTxComplete_sent_spec c.isLt j.isLt hsof hlen hout)
  · exact next_of_reading halive hclean (canTxComplete_lost_refused_spec c.isLt j.isLt hsof hlen hno)
  · obtain ⟨hstatus, hpend⟩ := canTxComplete_lost_retried_spec c.isLt hsof hno hkind j.val
    exact next_of_reading halive hclean ⟨by rw [hstatus], fun h => hpend.trans h⟩
  · obtain ⟨htec, hlec, hstatus⟩ := canTxComplete_error_retried_spec c.isLt hsof hno hkind
    exact next_of_reading (f := canTxComplete c.val bitError) halive hclean ⟨htec, hlec, by rw [hstatus]⟩
  · refine next_of_live halive ?_
    rw [recordCancel_underWay (by omega) hsof hat]
    refine ⟨?_, Dev.raised_ev_same _ _ _ (by decide), cancel_bit s a.toNat⟩
    rw [State.onDev_dev, Dev.cn_ev, Dev.cn_modCn_same c.isLt]
  · refine next_of_live halive ?_
    rw [recordCancel_waiting (by omega) hsof hst hring]
    have hbit := cancel_bit s a.toNat
    rw [bit_zero_eq, decide_eq_true_eq] at hbit
    have hbyte := recordStatus_byte _ _ hbit
    refine ⟨?_, by unfold bitsOf; omega, rfl⟩
    rw [bit_zero_eq, decide_eq_true_eq]
    omega
  · exact (doState_live _ _ halive).trans (congrArg _ (recordCancel_outside hlo))
  · exact next_of_live halive (busOff_spec c.isLt hst htec j.isLt)
  · exact (doState_live _ _ halive).trans (congrArg _ (if_neg (by omega)))
  · obtain ⟨hboRec, hboSt, hact⟩ := busOffStart_due c.isLt hst hrec hlatch hauto hdue
    exact ⟨s.onDev (busOffStart c.val), doDev_live _ _ halive, hboRec, hboSt, hact, rfl⟩
  · exact (doDev_live _ _ halive).trans (congrArg (fun d => Host.Outcome.next { s with dev := d }) (busOffStart_early hreset hearly))
  · obtain ⟨⟨hst', htec, hrec'⟩, hev, hecs⟩ := busOffEnd_spec c.isLt hst hrec
    exact next_of_live halive ⟨hst', htec, hrec', hev, hecs⟩
  · obtain ⟨⟨hst', htec, hrec'⟩, hpsr⟩ := canIntegrated_spec c.isLt hst hpx
    exact next_of_live halive ⟨hst', htec, hrec', hpsr⟩
  · exact (doState_live _ _ halive).trans (congrArg _ (if_neg hst))
end

section
/-! PROOFS. A reference message in a format that CAN0 does not send. -/

namespace Sys2Proof.Machine

/-- Slot 0 of a basic cycle, REFDLY over: the reference is an FD frame, and CAN0 has FD frames off. -/
def fdReference : State :=
  let d := (State.reset.dev.putB pgIMPO IMPO.REF_CFG.FD true).putB (pgCAN 0) CAN.CTRL.FDEN false
  let d := (d.put pgIMPO IMPO.REF_T.REFDLY 0).modCn 0 fun x => { x with st := 2 }
  let d := d.modLb fun l => { l with tt := true, slot := some 0 }
  { State.reset with dev := { d with boot := { d.boot with up := true } } }

theorem refMessage_fdReference : refMessage .sent fdReference.dev = fdReference.dev := by
  have hform : canForm fdReference.dev 0 (fdReference.dev.on pgIMPO IMPO.REF_CFG.FD) = false := by decide +kernel
  unfold refMessage
  dsimp only
  rw [hform]
  simp

end Sys2Proof.Machine

open Sys2Proof Sys2Proof.Machine

/-- Refutes O48: with `REF_CFG.FD` set and `CTRL.FDEN` of CAN0 clear, the controller does not send the reference's format (R447), so no
reference goes out. -/
theorem not_leafBus : ¬ Obligations.LeafBus := by
  unfold Obligations.LeafBus
  intro h
  obtain ⟨reference, -⟩ := h fdReference 0 0 (by decide +kernel) (by decide +kernel)
  obtain ⟨⟨t, ht, hsent, -⟩, -⟩ := reference rfl rfl rfl (by decide +kernel) (by decide +kernel) (by decide +kernel) (by decide +kernel)
  have hx : exec (.referenceMessage .sent) fdReference = .next fdReference :=
    (doDev_live _ _ (by decide +kernel)).trans (congrArg (fun d => Host.Outcome.next { fdReference with dev := d }) refMessage_fdReference)
  cases Host.Outcome.next.inj (hx.symm.trans ht)
  exact absurd hsent (by decide +kernel)
end

section
/-! PROOFS. A due telegram whose port's queue is full. -/

namespace Sys2Proof.Machine

/-- P1 passes frames and its queue 0 is full, a telegram for it is due, and TXDLY is over. -/
def fullEgress : State :=
  let d := ((State.reset.dev.putB pgETH HDR.EN true).putB pgETH ETH.PORTSTAT.P1LINK true).putB pgETH ETH.PORTCFG.P1EN true
  let d := ((d.putB pgETH HDR.PARK false).putB pgTRDP HDR.EN true).put pgTRDP TRDP.TRDP_CFG.TXDLY 0
  let d := (d.putB pgTRDP HDR.PARK false).put pgETH ETH.QMAP.QMAP 0
  let d := d.modEth fun e => { e with q := List.replicate 64 { port := 1, queue := 0, frame := {} } }
  let d := d.modTrdp fun t => { t with pubs := [{ d := { comid := 1, ports := 1 }, due := true }] }
  { State.reset with dev := { d with boot := { d.boot with up := true } } }

theorem telePublish_fullEgress : (telePublish fullEgress).dev.net.trdp.pubs.map (·.due) = [true] := by decide +kernel

end Sys2Proof.Machine

open Sys2Proof Sys2Proof.Machine

/-- Refutes O51: a due telegram whose port's queue holds 64 frames cannot start (R477, R483) and stays due. -/
theorem not_telegramsAndRings : ¬ Obligations.TelegramsAndRings := by
  unfold Obligations.TelegramsAndRings
  rintro ⟨telegrams, -⟩
  have hclean : fullEgress.clean := by decide +kernel
  obtain ⟨-, on⟩ := telegrams fullEgress {} 0 (by decide +kernel) hclean
  obtain ⟨-, -, publish, -⟩ := on (by decide +kernel)
  obtain ⟨t, ht, -, hpubs, -⟩ := publish (by decide +kernel)
  have hx : exec .telegramPublish fullEgress = .next (telePublish fullEgress) :=
    (doState_live _ _ (by decide +kernel)).trans (congrArg Host.Outcome.next (reading_clean _ _ _ hclean))
  cases Host.Outcome.next.inj (hx.symm.trans ht)
  have hdue := telePublish_fullEgress
  rw [hpubs] at hdue
  exact absurd hdue (by decide +kernel)
end

section
/-! PROOFS. A slug queue and a fault queue that are both full. -/

namespace Sys2Proof.Machine

/-- What arrives at a full slug queue is counted into the folio as the displaced slug's fault leaves it. -/
theorem folio_slugArrive_full (b : List Nat) (s : State) (hen : s.dev.enabled pgREC = true) (hfull : 4096 ≤ s.dev.rec_.queue.length) :
    (slugArrive b s).dev.rec_.folio = folioCount b (slugDisplace s.dev).rec_.folio := by
  have hput (k : Nat) (t : State) : (ringPut k 0 b t).1.dev = t.dev := by
    unfold ringPut
    split <;> rfl
  unfold slugArrive
  rw [hen]
  dsimp only [State.onDev]
  rw [if_pos hfull]
  split
  · rename_i h; cases h
  · split
    · rw [hput]; rfl
    · rfl

/-- Leaf 0 hands over a slug while the slug queue holds 4,096 and the fault queue its 32 entries behind a head. -/
def bothQueuesFull : State :=
  let d := (State.reset.dev.putB pgREC HDR.EN true).putB pgREC HDR.PARK false
  let d := d.modMov 0 fun r => { r with ended := [[]] }
  { State.reset with
    dev := { d with boot := { d.boot with up := true }
                    flt := { d.flt with head := some { val := 1, dt := 0 }, queue := List.replicate 32 { val := 2, dt := 0 } }
                    rec_ := { d.rec_ with queue := List.replicate 4096 { seq := 0, slot := 0, at_ := 0 } } } }

/-- Leaf 0's slug is on its way. -/
def bothQueuesFullHanded : State := bothQueuesFull.onDev fun d => d.modMvx 0 fun r => { r with ended := [] }

theorem slugHandoff_bothQueuesFull : slugHandoff 0 bothQueuesFull = slugArrive [] bothQueuesFullHanded := by
  have hended : (bothQueuesFull.dev.mvx 0).ended = [[]] := by decide +kernel
  unfold slugHandoff
  rw [hended]
  rfl

/-- The fault of the displaced slug overflows the fault queue, which halts the device (R379, R381) and counts the halt. -/
theorem halts_slugDisplace_bothQueuesFull : (slugDisplace bothQueuesFullHanded.dev).rec_.folio.halts = 1 := by decide +kernel

/-- The slug is counted behind the halt. -/
theorem halts_slugHandoff_bothQueuesFull : (slugHandoff 0 bothQueuesFull).dev.rec_.folio.halts = 1 := by
  rw [slugHandoff_bothQueuesFull, folio_slugArrive_full [] _ (by decide +kernel)]
  · exact halts_slugDisplace_bothQueuesFull
  · exact (List.length_replicate (n := 4096)).ge

end Sys2Proof.Machine

open Sys2Proof Sys2Proof.Machine

/-- Refutes O52: where the fault queue is full too, the fault of the slug lost is a halt, which the folio counts besides the slug. -/
theorem not_slugsAndTraces : ¬ Obligations.SlugsAndTraces := by
  unfold Obligations.SlugsAndTraces
  intro h
  obtain ⟨-, handoff, -⟩ := h bothQueuesFull 0 0 (by decide +kernel)
  obtain ⟨-, arrives⟩ := handoff [] (by decide +kernel) (.inl (by decide))
  obtain ⟨t, ht, -, -, hfolio, -⟩ := arrives (by decide +kernel) (by decide +kernel)
  have hx : exec (.slugHandoff 0) bothQueuesFull = .next (slugHandoff 0 bothQueuesFull) := doState_live _ _ (by decide +kernel)
  cases Host.Outcome.next.inj (hx.symm.trans ht)
  have hhalts := halts_slugHandoff_bothQueuesFull
  rw [hfolio] at hhalts
  exact absurd hhalts (by decide +kernel)
end

section
/-! PROOFS. A page of slugs that ends after storage has stopped. -/

namespace Sys2Proof.Machine

/-- A slug page is under way, a slug waits and storage has stopped. -/
def pageUnderMemfail : State :=
  let d := State.reset.dev.putB pgREC REC.REC_STAT.MEMFAIL true
  { State.reset with
    dev := { d with boot := { d.boot with up := true }
                    rec_ := { d.rec_ with op := some (.slugPage 32, 0), queue := [{ seq := 0, slot := 0, at_ := 0 }] } } }

theorem queue_nandDone_pageUnderMemfail : (nandDone true true 0 pageUnderMemfail).dev.rec_.queue.length = 1 := by decide +kernel

end Sys2Proof.Machine

open Sys2Proof Sys2Proof.Machine

/-- Refutes O53: once storage has stopped (`MEMFAIL`), a page that ends is not taken for stored, and its slugs stay in the queue. -/
theorem not_recordMemory : ¬ Obligations.RecordMemory := by
  unfold Obligations.RecordMemory
  intro h
  obtain ⟨-, -, -, complete, -⟩ := h pageUnderMemfail 0 (by decide +kernel)
  obtain ⟨page, -⟩ := complete (.slugPage 32, 0) rfl
  obtain ⟨t, ht, hqueue, -⟩ := page rfl
  have hx : exec (.nandOperationComplete true true 0) pageUnderMemfail = .next (nandDone true true 0 pageUnderMemfail) :=
    doState_live _ _ (by decide +kernel)
  cases Host.Outcome.next.inj (hx.symm.trans ht)
  have hlen := queue_nandDone_pageUnderMemfail
  rw [hqueue] at hlen
  exact absurd hlen (by decide +kernel)
end

section
/-! PROOFS. A formatting that was deferred and then passes the hold-up check. -/

namespace Sys2Proof.Machine

/-- A formatting waits for its retry; 10 V over 20 µF hold the energy of its first erase, which is given as 0. -/
def deferredFormat : State :=
  let d := ((State.reset.dev.put pgREC REC.HOLD.HOLDC 2).put pgREC REC.HOLD.VMIN 0).put pgREC REC.HOLDE.EERASE 0
  { State.reset with
    dev := { d with boot := { d.boot with up := true }
                    tim := { d.tim with mot := msMot 1 }
                    rec_ := { d.rec_ with defer := some (.format, 0, 0) } } }

theorem op_holdRetry_deferredFormat : (holdRetry 1000 deferredFormat).dev.rec_.op = none := by decide +kernel

end Sys2Proof.Machine

open Sys2Proof Sys2Proof.Machine

/-- Refutes O54: a formatting that starts at its retry is complete at once (assumption log 78), so no operation on XS1 is under way
after it. -/
theorem not_holdUpAndOwnWrites : ¬ Obligations.HoldUpAndOwnWrites := by
  unfold Obligations.HoldUpAndOwnWrites
  intro h
  obtain ⟨-, deferred, -⟩ := h deferredFormat 1000 0 false (by decide +kernel)
  obtain ⟨-, -, passes, -⟩ := deferred (.format, 0, 0) rfl
  obtain ⟨t, ht, -, -, -, hstarts⟩ := passes (by decide +kernel) (by decide +kernel)
  obtain ⟨hop, -⟩ := hstarts rfl
  have hx : exec (.holdupRetry 1000) deferredFormat = .next (holdRetry 1000 deferredFormat) := doState_live _ _ (by decide +kernel)
  cases Host.Outcome.next.inj (hx.symm.trans ht)
  rw [op_holdRetry_deferredFormat] at hop
  cases hop
end

section
/-! PROOFS. A shedding level above its table. -/

namespace Sys2Proof.Machine

/-- VFLD has stood below VPF for long, and the shedding level, which nothing in the state bounds, is 6. -/
def overShed : State :=
  let d := State.reset.dev
  { State.reset with
    dev := { d with boot := { d.boot with up := true }
                    tim := { d.tim with mot := 25000 }
                    vfld := { d.vfld with since := List.replicate 5 (some 0), lvl := 6 } } }

/-- The level falls by one toward 4, which the power failure asks for. -/
theorem lvl_pfSet_overShed : (pfSet 0 overShed).dev.vfld.lvl = 5 := by decide +kernel

end Sys2Proof.Machine

open Sys2Proof Sys2Proof.Machine

/-- Refutes O39: a level above 4 is no state of the device, yet the statement ranges over it; there a power failure steps the level down
and does not set it. -/
theorem not_locksAndSupply : ¬ Obligations.LocksAndSupply := by
  unfold Obligations.LocksAndSupply
  rintro ⟨-, supply⟩
  obtain ⟨-, -, -, -, powerFailure, -⟩ := supply overShed 0 0 (by decide +kernel)
  obtain ⟨t, ht, -, hlvl, -⟩ := powerFailure rfl (by decide +kernel)
  have hx : exec (.vfldPfSet 0) overShed = .next (pfSet 0 overShed) := doState_live _ _ (by decide +kernel)
  cases Host.Outcome.next.inj (hx.symm.trans ht)
  rw [lvl_pfSet_overShed] at hlvl
  exact absurd hlvl (by decide)
end

section
/-! PROOFS. The host port (R498, R499, R585). -/

namespace Sys2Proof.Machine

section
variable {s : State}

theorem exec_hpiRead (a : W32) (n : Fin 64) (hup : s.dev.boot.up = true) :
    exec (.hpiRead a n) s = .next (hpiRead a.toNat (n.val + 1) s) := congrArg Host.Outcome.next (if_pos hup)

theorem exec_hpiWrite (a : W32) (n : Fin 64) (data : List W32) (crc : W16) (hup : s.dev.boot.up = true) :
    exec (.hpiWrite a n data crc) s = .next (hpiWrite a.toNat (n.val + 1) (data.map BitVec.toNat) crc.toNat s) :=
  congrArg Host.Outcome.next (if_pos hup)

/-- A write frame that executes nothing: rejected, with its end noted. -/
def hpiWriteRefused (d : Dev) : Dev :=
  (hpiReject 0 d).modHpi fun h => { h with lastEnd := some d.tim.mot, exec := false, ref := false }

theorem hpiRead_soon (addr n : Nat) (hsoon : hpiSoon s.dev = true) : hpiRead addr n s = s.onDev (hpiReject (4 * n + 3)) := if_pos hsoon

theorem hpiWrite_soon (addr n : Nat) (data : List Nat) (crc : Nat) (hsoon : hpiSoon s.dev = true) :
    hpiWrite addr n data crc s = s.onDev hpiWriteRefused := if_pos hsoon

theorem hpiRead_served (addr n : Nat) (hsoon : hpiSoon s.dev = false) :
    hpiRead addr n s = (readWords .host n addr s).1.onDev (Dev.modHpi fun h =>
      let body := hpiStatus s.dev :: (readWords .host n addr s).2.flatMap (leBytes 4)
      { h with rej := false, resp := body ++ [crc16 body / 256, crc16 body % 256] }) := if_neg (by simp [hsoon])

theorem hpiWrite_bad {addr n : Nat} {data : List Nat} {crc : Nat} (hsoon : hpiSoon s.dev = false) (hcrc : crc16 (hpiFrame addr n data) ≠ crc) :
    hpiWrite addr n data crc s = s.onDev hpiWriteRefused := (if_neg (by simp [hsoon])).trans (if_pos (.inr hcrc))

theorem hpiWrite_served {addr n : Nat} {data : List Nat} {crc : Nat} (hsoon : hpiSoon s.dev = false) (hlen : data.length = n)
    (hcrc : crc16 (hpiFrame addr n data) = crc) :
    hpiWrite addr n data crc s = (writeWords .host data 0 addr s).1.onDev (Dev.modHpi fun h =>
      { h with lastEnd := some s.dev.tim.mot, exec := true, rej := false, ref := (writeWords .host data 0 addr s).2.isSome }) :=
  (if_neg (by simp [hsoon])).trans (if_neg (by simp [hlen, hcrc]))

end

end Sys2Proof.Machine

open Sys2Proof Sys2Proof.Machine

/-- Settles O35, from what the port does with a frame too soon, with a good one and with one whose CRC does not fit. -/
theorem hostPort : Obligations.HostPort := by
  unfold Obligations.HostPort
  refine fun s a n data crc hup => ⟨fun hsoon => ⟨?_, ?_⟩, fun hsoon => ⟨?_, fun hlen hcrc => ?_, fun hcrc => ?_⟩⟩
  · refine ⟨_, exec_hpiRead a n hup, ?_⟩
    rw [hpiRead_soon _ _ hsoon]
    exact ⟨rfl, fun b hb => List.eq_of_mem_replicate hb, rfl, rfl⟩
  · refine ⟨_, exec_hpiWrite a n data crc hup, ?_⟩
    rw [hpiWrite_soon _ _ _ _ hsoon]
    exact ⟨rfl, rfl, rfl, rfl⟩
  · refine ⟨_, exec_hpiRead a n hup, ?_⟩
    rw [hpiRead_served _ _ hsoon]
    exact ⟨rfl, rfl, rfl⟩
  · refine ⟨_, exec_hpiWrite a n data crc hup, ?_⟩
    rw [hpiWrite_served hsoon (by rw [List.length_map, hlen]) hcrc]
    exact ⟨rfl, rfl, rfl, rfl, rfl, rfl⟩
  · refine ⟨_, exec_hpiWrite a n data crc hup, ?_⟩
    rw [hpiWrite_bad hsoon hcrc]
    exact ⟨rfl, rfl, rfl, rfl, rfl⟩
end

section
/-! PROOFS. Four Neltan sessions that have ended unnoticed. -/

namespace Sys2Proof.Machine

/-- Only sessions within 60 s of their latest request count against the four. -/
theorem length_sess_nelOpen {r : NelReq} {s : State} {key : Nat} (hkey : nth s.dev.otp.keys ((r.data.map BitVec.toNat).headD 4) none = some key)
    (hblock : nelBlocked s.dev r.trans.val = false) (hcount : r.count = 5) (hlen : (r.data.map BitVec.toNat).length = 5)
    (htag : Config.aesCmac key (nelReqMsg 1 r) % 2 ^ 128 = r.tag.toNat)
    (hfree : (s.dev.net.nel.sess.filter fun x => decide (s.dev.tim.mot < x.lastAt + nelMinute)).length < 4) :
    (nelOpen r s).dev.net.nel.sess.length = s.dev.net.nel.sess.length + 1 := by
  have hgood : ¬(r.count ≠ 5 ∨ (r.data.map BitVec.toNat).length ≠ 5 ∨ Config.aesCmac key (nelReqMsg 1 r) % 2 ^ 128 ≠ r.tag.toNat) := by
    rintro (h | h | h)
    · exact h hcount
    · exact h hlen
    · exact h htag
  unfold nelOpen
  dsimp only
  rw [hkey]
  dsimp only
  rw [hblock, if_neg (by simp), if_neg hgood, if_neg (by omega)]
  exact List.length_append

/-- The Service pair serves the window, slot 0 has a key, and four sessions stand whose 60 s are over. -/
def staleSessions : State :=
  let d := State.reset.dev
  let l : List NelSess := [{ num := 1, trans := 0, slot := 0, key := 0 }, { num := 2, trans := 0, slot := 0, key := 0 },
    { num := 3, trans := 0, slot := 0, key := 0 }, { num := 4, trans := 0, slot := 0, key := 0 }]
  { State.reset with
    dev := { d with boot := { d.boot with up := true }
                    svc := { d.svc with up0 := true }
                    otp := { d.otp with keys := [some 0, none, none, none] }
                    tim := { d.tim with mot := nelMinute }
                    net := { d.net with nel := { d.net.nel with sess := l } } } }

/-- OPEN for slot 0. -/
def openSlot0 (tag : BitVec 128) : NelReq := { trans := 0, data := [0, 0, 0, 0, 0], count := 5, tag := tag }

/-- The tag that verifies under slot 0's key. -/
def goodTag : BitVec 128 := BitVec.ofNat 128 (Config.aesCmac 0 (nelReqMsg 1 (openSlot0 0)))

theorem goodTag_verifies : Config.aesCmac 0 (nelReqMsg 1 (openSlot0 goodTag)) % 2 ^ 128 = (openSlot0 goodTag).tag.toNat :=
  (BitVec.toNat_ofNat _ _).symm

end Sys2Proof.Machine

open Sys2Proof Sys2Proof.Machine

/-- Refutes O34: sessions whose 60 s are over count no more, so with four of them standing OPEN opens a fifth. -/
theorem not_neltanWindow : ¬ Obligations.NeltanWindow := by
  unfold Obligations.NeltanWindow
  rintro ⟨opens, -⟩
  obtain ⟨slotKey, -⟩ := opens staleSessions (openSlot0 goodTag) (by decide +kernel)
  obtain ⟨verifies, -⟩ := slotKey 0 rfl
  obtain ⟨-, full⟩ := verifies (by decide +kernel) rfl rfl goodTag_verifies
  obtain ⟨t, ht, hsess, -⟩ := full (by decide +kernel)
  have hx : exec (.neltanOpen (openSlot0 goodTag)) staleSessions = .next (nelOpen (openSlot0 goodTag) staleSessions) :=
    congrArg Host.Outcome.next (if_pos (by decide +kernel))
  cases Host.Outcome.next.inj (hx.symm.trans ht)
  have hlen := length_sess_nelOpen (r := openSlot0 goodTag) (s := staleSessions) rfl (by decide +kernel) rfl rfl goodTag_verifies (by decide +kernel)
  rw [hsess] at hlen
  omega
end

section
/-! PROOFS. A folio write that fails while the next one waits. -/

namespace Sys2Proof.Machine

/-- A folio write is under way and another waits; 10 V over 20 µF hold the energy of a folio record, which is given as 0. -/
def folioWaits : State :=
  let d := ((State.reset.dev.put pgREC REC.HOLD.HOLDC 2).put pgREC REC.HOLD.VMIN 0).put pgREC REC.HOLDE2.EFOLIO 0
  { State.reset with
    dev := { d with boot := { d.boot with up := true }
                    rec_ := { d.rec_ with xop := some .folio, todo := [.folio] } } }

/-- The write that waited starts at once and takes the changed counters with it. -/
theorem dirty_settingsDone_folioWaits : (settingsDone false 1000 folioWaits).dev.rec_.folio.dirty = false := by decide +kernel

end Sys2Proof.Machine

open Sys2Proof Sys2Proof.Machine

/-- Refutes O33: where a folio write waits as one fails, it starts in the same command, and the folio is then no more marked as changed. -/
theorem not_securityAndSettings : ¬ Obligations.SecurityAndSettings := by
  unfold Obligations.SecurityAndSettings
  rintro ⟨-, settings⟩
  obtain ⟨-, -, -, -, -, folioFails⟩ := settings folioWaits 0 0 [] 0 1000 (by decide +kernel)
  obtain ⟨t, ht, hdirty, -⟩ := folioFails rfl (by decide +kernel)
  have hx : exec (.settingsOperationComplete false 1000) folioWaits = .next (settingsDone false 1000 folioWaits) :=
    doState_live _ _ (by decide +kernel)
  cases Host.Outcome.next.inj (hx.symm.trans ht)
  rw [dirty_settingsDone_folioWaits] at hdirty
  cases hdirty
end

section
/-! PROOFS. CFG_CTRL and verification (R553, R555 to R558). -/

namespace Sys2Proof.Machine

section
variable {s : State}

theorem alive_of_hostActs {d : Dev} (h : d.hostActs = true) : d.alive = true := by
  unfold Dev.hostActs at h
  unfold Dev.alive
  simp only [Bool.and_eq_true] at h ⊢
  exact h.1

/-! `CFG_CTRL`. -/

/-- A request through `CFG_CTRL` written by the host. -/
theorem wr_cfgCtrl (v : Nat) (hhost : s.dev.hostActs = true) :
    wr .host pgCFG CFG.CFG_CTRL.SWITCH v s =
      cfgWrite .host (takenBits [CFG.CFG_CTRL.CONFIRM, CFG.CFG_CTRL.CANCEL, CFG.CFG_CTRL.RSTREQ, CFG.CFG_CTRL.SWITCH] (v % 2 ^ 32)) s := by
  have hlock : pageLocked s.dev .cfg .host CFG.CFG_CTRL.SWITCH.off = false := by
    simp [pageLocked, Unit_.safety, Unit_.plane, hostReads, srcRt, srcMgmt, lc_ne_of_hostActs hhost]
  exact wr_host pgCFG CFG.CFG_CTRL.SWITCH v s .cfg _ (by decide) (by decide) (by decide) rfl rfl hhost hlock (by decide) rfl
    (fun _ _ => rfl) (by decide) (by decide) (by decide) rfl

theorem exec_cfgSwitch (hhost : s.dev.hostActs = true) : exec (.cfgCtrlSwitch .host) s = .next (s.onDev cfgSwitch) :=
  congrArg Host.Outcome.next (wr_cfgCtrl 1 hhost)

theorem exec_cfgRstreq (hhost : s.dev.hostActs = true) : exec (.cfgCtrlRstreq .host) s = .next (s.onDev (cfgRstreq true)) :=
  congrArg Host.Outcome.next (wr_cfgCtrl 2 hhost)

theorem exec_cfgCancel (hhost : s.dev.hostActs = true) : exec (.cfgCtrlCancel .host) s = .next (s.onDev cfgCancel) :=
  congrArg Host.Outcome.next (wr_cfgCtrl 4 hhost)

theorem exec_cfgConfirm (hhost : s.dev.hostActs = true) : exec (.cfgCtrlConfirm .host) s = .next (cfgConfirm s) :=
  congrArg Host.Outcome.next (wr_cfgCtrl 8 hhost)

end

/-- A refusal of SWITCH with its code (R553). -/
def switchRefused (code : Nat) (d : Dev) : Dev := ((d.put pgCFG CFG.ISTAT.REFC code).ev pgCFG Ev.CFG.SWREF).raise pgCFG Cz.CFG.SWREF 0xFF

/-- What a refusal of SWITCH leaves and shows. -/
theorem switchRefused_shows (code : Nat) (d : Dev) (hcode : code < 16) : (switchRefused code d).boot = d.boot ∧
    (switchRefused code d).get pgCFG CFG.ISTAT.REFC = code ∧ (switchRefused code d).raised pgCFG Ev.CFG.SWREF = true ∧
    (switchRefused code d).get pgFLT FLT.INFO.ENTRY = entryVal 0 pgCFG 0xFF Cz.CFG.SWREF.code := by
  refine ⟨by simp [switchRefused], ?_, Dev.raised_raise (by decide) _ _ _ (Dev.raised_ev_same _ _ _ (by decide)), ?_⟩
  · rw [switchRefused, Dev.get_raise_ne _ _ _ _ _ _ (by decide), Dev.get_ev_place _ _ _ _ _ (by decide), Dev.get_put_same]
    exact Nat.mod_eq_of_lt hcode
  · unfold switchRefused
    generalize (d.put pgCFG CFG.ISTAT.REFC code).ev pgCFG Ev.CFG.SWREF = e
    refine (Dev.get_ev_place _ _ _ _ _ (by decide)).trans ((Dev.get_put_place _ _ _ _ _ _ (by decide)).trans ((Dev.get_put_same ..).trans ?_))
    exact (by decide : entryVal 0 pgCFG 0xFF Cz.CFG.SWREF.code % 2 ^ 32 = entryVal 0 pgCFG 0xFF Cz.CFG.SWREF.code)

theorem cfgSwitch_busy {d : Dev} (h : d.boot.armed = true) : cfgSwitch d = switchRefused 1 d := by
  unfold cfgSwitch
  simp [h, switchRefused]

section
variable {d : Dev} (harmed : d.boot.armed = false) (hidle : d.boot.applying = false)
  (hnum : d.get pgCFG CFG.IMP_NEXT.IMPNUM ≠ d.get pgCFG CFG.IMPRESSION.IMPNUM) (hdecl : declared d = none)
include harmed hidle hnum hdecl

theorem cfgSwitch_notReady (hready : d.boot.ready = false) : cfgSwitch d = switchRefused 4 d := by
  unfold cfgSwitch
  simp [harmed, hidle, hnum, hdecl, hready, switchRefused]

theorem cfgSwitch_arms (hready : d.boot.ready = true) : cfgSwitch d = publishIstat (d.modBoot fun b => { b with armed := true }) := by
  unfold cfgSwitch
  simp [harmed, hidle, hnum, hdecl, hready]

end

/-- A field outside `ISTAT` keeps its value where the switch in progress is published. -/
theorem publishIstat_get (d : Dev) (pg : Nat) (g : Fld) (hstate : g.place ≠ CFG.ISTAT.STATE.place) (hdefer : g.place ≠ CFG.ISTAT.DEFER.place) :
    (publishIstat d).get pg g = d.get pg g := by
  unfold publishIstat
  rw [Dev.get_put_place _ _ _ _ _ _ hdefer, Dev.get_put_place _ _ _ _ _ _ hstate]

/-- `ISTAT.STATE` shows ARMED where a switch is armed and none is under way. -/
theorem publishIstat_armed {d : Dev} (harmed : d.boot.armed = true) (hidle : d.boot.applying = false) :
    (publishIstat d).get pgCFG CFG.ISTAT.STATE = 1 := by
  unfold publishIstat
  rw [Dev.get_put_place _ _ _ _ _ _ (by decide), Dev.get_put_same, harmed, hidle]
  rfl

/-! The selector. -/

theorem selAppendTo_mem (c : Nat) (x : Select) (s : State) : (selAppendTo c x s).mem = s.mem := by
  unfold selAppendTo
  split <;> rfl

theorem selAppendTo_dev (c : Nat) (x : Select) (s : State) : (selAppendTo c x s).dev = s.dev := by
  unfold selAppendTo
  split <;> rfl

/-- The selection of the next record. -/
def nextSel (f : Select → Select) (x : Select) : Select := { f x with sseq := x.sseq + 1 }

theorem selAppend_eq (f : Select → Select) (s : State) :
    selAppend f s = (selAppendTo 1 (nextSel f s.dev.boot.sel) (selAppendTo 0 (nextSel f s.dev.boot.sel) s)).onDev
      (Dev.modBoot fun b => { b with sel := nextSel f s.dev.boot.sel }) := by
  unfold selAppend
  rfl

theorem selAppend_mem (f : Select → Select) (s : State) : (selAppend f s).mem = s.mem := by
  simp only [selAppend_eq, State.onDev, selAppendTo_mem]

/-- A record appended to the selector changes the selection alone. -/
theorem selAppend_dev (f : Select → Select) (s : State) :
    (selAppend f s).dev = s.dev.modBoot fun b => { b with sel := nextSel f s.dev.boot.sel } := by
  simp only [selAppend_eq, State.onDev, selAppendTo_dev]

theorem cfgConfirm_ready {s : State} (hready : s.dev.boot.ready = true) (hfact : s.dev.boot.factory = false) :
    cfgConfirm s = (selAppend (fun x => { x with trial := 0, tries := 0 }) s).onDev (Dev.putB pgCFG CFG.BOOT_STAT.TRIAL false) := by
  unfold cfgConfirm
  simp [hready, hfact]

theorem cfgConfirm_early {s : State} (hready : s.dev.boot.ready = false) : cfgConfirm s = s := by
  unfold cfgConfirm
  simp [hready]

/-! A register that holds fields outside the shadow. -/

/-- The fields of a write take their bits, the highest first. -/
def takeAll (u : Unit_) (pg v : Nat) (l : List Fld) (d : Dev) : Dev := d.each l.reverse fun f d => takeField u pg v f d

/-- A permitted write of a register with no shadowed field: its fields take their bits, then the register acts. -/
theorem regWrite_unshadowed (src : Src) (pg : Nat) (u : Unit_) (off v : Nat) (s : State) (l : List Fld)
    (hl : writeFields s.dev u off = l) (hlock : pageLocked s.dev u src off = false) (hoff : off ≠ 0x030)
    (hw : ∀ f ∈ l, f.acc ≠ .rwp) (hm : ∀ f ∈ l, fieldMay u src f = true) (hne : l ≠ [])
    (hro : roRefused s.dev u src off = false) (hsvc : u ≠ .svc) :
    (regWrite src pg u off v s).1 = regEffect src pg u off (takenBits l v) (s.onDev (takeAll u pg v l)) := by
  have hmay : l.filter (fun f => fieldMay u src f) = l := List.filter_eq_self.mpr hm
  have hheld : ∀ f ∈ l, heldOff s.dev pg f = false := fun f hf => by simp [heldOff, hw f hf]
  have htake : l.filter (fun f => !heldOff s.dev pg f) = l := List.filter_eq_self.mpr fun f hf => by simp [hheld f hf]
  have hopen : regLocked s.dev u src off = false := by
    have : l.any (fun f => !fieldMay u src f) = false := List.any_eq_false.mpr fun f hf => by simp [hm f hf]
    rw [regLocked, hlock, hl, this, hro]
    rfl
  have hbusy : regBusy s.dev u src pg off v = false := by
    rw [regBusy, hl, hmay]
    exact List.any_eq_false.mpr fun f hf => by simp [hheld f hf]
  have hemp : l.isEmpty = false := by simpa using hne
  have hwd : (u == .svc) = false := by simpa using hsvc
  unfold regWrite
  simp only [hlock, hl, hmay, htake, hopen, hbusy, hemp, hwd, if_neg hoff, Bool.false_eq_true, if_false, Bool.false_and]
  rfl

/-- The fields of `VER_CTRL`. -/
def verCtrlFields : List Fld := [SEC.VER_CTRL.GO, SEC.VER_CTRL.KIND, SEC.VER_CTRL.SLOT, SEC.VER_CTRL.COPY, SEC.VER_CTRL.HALF]

/-- `VER_CTRL` written by the host. -/
theorem wr_verCtrl {s : State} (v : Nat) (hhost : s.dev.hostActs = true) :
    wr .host pgSEC SEC.VER_CTRL.GO v s =
      secWrite 0x054 (takenBits verCtrlFields (v % 2 ^ 32)) (s.onDev (takeAll .sec pgSEC (v % 2 ^ 32) verCtrlFields)) := by
  have hlock : pageLocked s.dev .sec .host 0x054 = false := by
    simp [pageLocked, Unit_.safety, Unit_.plane, hostReads, srcRt, srcMgmt, lc_ne_of_hostActs hhost]
  have hfields : writeFields s.dev .sec 0x054 = verCtrlFields := writeFields_eq _ _ _ _ rfl fun _ _ => rfl
  unfold wr busWrite
  rw [srcMay_host _ _ _ hhost, regionOf_reg _ _ (by decide) (by decide)]
  simp only [pageCheck_ok pgSEC SEC.VER_CTRL.GO.off s.dev .sec (by decide) (by decide) (by decide) rfl rfl,
    regAddr_page pgSEC SEC.VER_CTRL.GO.off (by decide) (by decide), regAddr_off pgSEC SEC.VER_CTRL.GO.off (by decide)]
  exact regWrite_unshadowed .host pgSEC .sec 0x054 _ s verCtrlFields hfields hlock (by decide) (by decide) (by decide) (by decide) rfl (by decide)

/-- A field of SEC that is read and written takes its clamped bits; the clamp may raise the page's event. -/
theorem takeField_sec (f : Fld) (v : Nat) (d : Dev) (hacc : f.acc = .rw) (hoff : f.off ≠ 0x010) :
    takeField .sec pgSEC v f d = d.put pgSEC f (f.clamp (bitsOf v f.lo f.w % 2 ^ f.w)) ∨
    takeField .sec pgSEC v f d = (d.put pgSEC f (f.clamp (bitsOf v f.lo f.w % 2 ^ f.w))).ev pgSEC Ev.SEC.CFGCLAMP := by
  have hfix : fixedField pgSEC f = false := by simp [fixedField, hoff]
  have hheld : notHeld .sec f = false := rfl
  simp only [takeField, hacc, hfix, hheld, clampTell, clampEv, rangeVal, Bool.or_self, Bool.false_eq_true, if_false, reduceCtorEq]
  split
  · exact .inl rfl
  · exact .inr rfl

section
variable (f : Fld) (v : Nat) (d : Dev) (hacc : f.acc = .rw) (hoff : f.off ≠ 0x010)
include hacc hoff

theorem takeField_sec_boot : (takeField .sec pgSEC v f d).boot = d.boot := by
  rcases takeField_sec f v d hacc hoff with h | h <;> rw [h] <;> rfl

theorem takeField_sec_get (hev : f.place ≠ HDR.EV_STAT.place) :
    (takeField .sec pgSEC v f d).get pgSEC f = f.clamp (bitsOf v f.lo f.w % 2 ^ f.w) % 2 ^ f.w := by
  rcases takeField_sec f v d hacc hoff with h | h <;> rw [h]
  · exact Dev.get_put_same ..
  · exact (Dev.get_ev_place _ _ _ _ _ hev).trans (Dev.get_put_same ..)

theorem takeField_sec_get_place (g : Fld) (hne : g.place ≠ f.place) (hev : g.place ≠ HDR.EV_STAT.place) :
    (takeField .sec pgSEC v f d).get pgSEC g = d.get pgSEC g := by
  rcases takeField_sec f v d hacc hoff with h | h <;> rw [h]
  · exact Dev.get_put_place _ _ _ _ _ _ hne
  · exact (Dev.get_ev_place _ _ _ _ _ hev).trans (Dev.get_put_place _ _ _ _ _ _ hne)

end

/-- A clamped field's bits of a write. -/
def clampedBits (f : Fld) (v : Nat) : Nat := f.clamp (bitsOf v f.lo f.w % 2 ^ f.w) % 2 ^ f.w

/-- `VER_CTRL` holds what the write brings, KIND within its range. -/
theorem takeAll_verCtrl (v : Nat) (d : Dev) : (takeAll .sec pgSEC v verCtrlFields d).boot = d.boot ∧
    ∀ f ∈ [SEC.VER_CTRL.KIND, SEC.VER_CTRL.SLOT, SEC.VER_CTRL.COPY, SEC.VER_CTRL.HALF],
      (takeAll .sec pgSEC v verCtrlFields d).get pgSEC f = clampedBits f v := by
  have hall : takeAll .sec pgSEC v verCtrlFields d = takeField .sec pgSEC v SEC.VER_CTRL.KIND (takeField .sec pgSEC v SEC.VER_CTRL.SLOT
      (takeField .sec pgSEC v SEC.VER_CTRL.COPY (takeField .sec pgSEC v SEC.VER_CTRL.HALF d))) := rfl
  rw [hall]
  constructor
  · rw [takeField_sec_boot _ _ _ rfl (by decide), takeField_sec_boot _ _ _ rfl (by decide), takeField_sec_boot _ _ _ rfl (by decide),
      takeField_sec_boot _ _ _ rfl (by decide)]
  · simp only [List.forall_mem_cons, List.not_mem_nil, false_implies, implies_true, and_true]
    refine ⟨takeField_sec_get _ _ _ rfl (by decide) (by decide), ?_, ?_, ?_⟩
    · rw [takeField_sec_get_place _ _ _ rfl (by decide) _ (by decide) (by decide)]
      exact takeField_sec_get _ _ _ rfl (by decide) (by decide)
    · rw [takeField_sec_get_place _ _ _ rfl (by decide) _ (by decide) (by decide),
        takeField_sec_get_place _ _ _ rfl (by decide) _ (by decide) (by decide)]
      exact takeField_sec_get _ _ _ rfl (by decide) (by decide)
    · rw [takeField_sec_get_place _ _ _ rfl (by decide) _ (by decide) (by decide),
        takeField_sec_get_place _ _ _ rfl (by decide) _ (by decide) (by decide),
        takeField_sec_get_place _ _ _ rfl (by decide) _ (by decide) (by decide)]
      exact takeField_sec_get _ _ _ rfl (by decide) (by decide)

/-- The bits of a GO (R556). -/
def verGoBits (kind : Fin 8) (slot copy half : Bool) : Nat := 128 + 16 * kind.val + 8 * b2n slot + 4 * b2n copy + 2 * b2n half

theorem verGoBits_fields (kind : Fin 8) (slot copy half : Bool) : let v := verGoBits kind slot copy half % 2 ^ 32
    bit (takenBits verCtrlFields v) 7 = true ∧ clampedBits SEC.VER_CTRL.KIND v = max 1 (min 6 kind.val) ∧
      clampedBits SEC.VER_CTRL.SLOT v = b2n slot ∧ clampedBits SEC.VER_CTRL.COPY v = b2n copy ∧ clampedBits SEC.VER_CTRL.HALF v = b2n half := by
  revert kind slot copy half
  decide

/-- GO with no verification under way begins the one that `VER_CTRL` names and shows BUSY (R556). -/
theorem verGo_begins (d : Dev) (hver : d.boot.ver = none) :
    (verGo d).boot.ver = some ⟨d.get pgSEC SEC.VER_CTRL.KIND, d.get pgSEC SEC.VER_CTRL.SLOT,
      if d.on pgSEC SEC.VER_CTRL.COPY then some (d.get pgSEC SEC.VER_CTRL.HALF) else none⟩ ∧
    (verGo d).get pgSEC SEC.VER_STAT.BUSY = 1 ∧ (verGo d).get pgSEC SEC.VER_STAT.DONE = 0 := by
  unfold verGo
  rw [hver]
  exact ⟨rfl, (Dev.get_put_place _ _ _ _ _ _ (by decide)).trans (Dev.get_put_same ..), Dev.get_put_same ..⟩

theorem exec_verGo {s : State} (kind : Fin 8) (slot copy half : Bool) (hhost : s.dev.hostActs = true) :
    exec (.verCtrlGo .host kind slot copy half) s =
      .next (s.onDev fun d => verGo (takeAll .sec pgSEC (verGoBits kind slot copy half % 2 ^ 32) verCtrlFields d)) := by
  have hgo : secWrite 0x054 (takenBits verCtrlFields (verGoBits kind slot copy half % 2 ^ 32))
      (s.onDev (takeAll .sec pgSEC (verGoBits kind slot copy half % 2 ^ 32) verCtrlFields)) =
      (s.onDev (takeAll .sec pgSEC (verGoBits kind slot copy half % 2 ^ 32) verCtrlFields)).onDev verGo :=
    if_pos (verGoBits_fields kind slot copy half).1
  exact congrArg Host.Outcome.next ((wr_verCtrl _ hhost).trans hgo)

/-! The end of a verification. -/

/-- The state in which a verification reports: none is under way. -/
def verEnded (s : State) : State := s.onDev (Dev.modBoot fun b => { b with ver := none })

/-- Whether a verification asks to copy a forme into a half in execution. -/
def copyBusy (s : State) (j : VerJob) : Bool :=
  match j.copy with
  | some h => j.kind == 3 && halfRuns s.dev h
  | none => false

/-- The result of a verification (R556). -/
def verResult (s : State) (j : VerJob) : Nat :=
  if (slotCheck s j.kind j.slot).1 == 0 && copyBusy s j then 7 else (slotCheck s j.kind j.slot).1

/-- What a verification does with what it verified. -/
def verEffect (j : VerJob) (r : Nat) (c : Option Colo) (s : State) : State :=
  match r, j.kind, j.copy, c with
  | 0, 3, some h, some k => formeCopy (xs0L s (frmBase j.slot) k.len) h (some j.slot) s
  | 0, 2, _, _ =>
    if j.slot ≠ s.dev.get pgCFG CFG.BOOT_STAT.FWSLOT ∧ !s.dev.boot.factory then
      selAppend (fun x => { x with fw := j.slot, trial := setBit x.trial 0 true, tries := 0 }) s
    else s
  | 0, 4, _, _ =>
    if j.slot ≠ s.dev.get pgCFG CFG.BOOT_STAT.IMPSLOT then s.onDev (Dev.modBoot fun b => { b with decl := some (impAt s j.slot) }) else s
  | _, _, _, _ => s

theorem slotCheck_verEnded (s : State) (kind slot : Nat) : slotCheck (verEnded s) kind slot = slotCheck s kind slot := rfl

theorem impAt_verEnded (s : State) (slot : Nat) : impAt (verEnded s) slot = impAt s slot := rfl

theorem verificationDone_eq {s : State} {j : VerJob} (hver : s.dev.boot.ver = some j) :
    verificationDone s = (verEffect j (verResult s j) (slotCheck s j.kind j.slot).2 (verEnded s)).onDev
      (verReport (verResult s j) ((slotCheck s j.kind j.slot).2.map (·.ver))) := by
  unfold verificationDone
  rw [hver]
  rfl

theorem verificationDone_none {s : State} (hver : s.dev.boot.ver = none) : verificationDone s = s := by
  unfold verificationDone
  rw [hver]

/-- What is refused has no effect. -/
theorem verEffect_refused {j : VerJob} {r : Nat} (c : Option Colo) (s : State) (hr : r ≠ 0) : verEffect j r c s = s := by
  unfold verEffect
  split
  · exact absurd rfl hr
  · exact absurd rfl hr
  · exact absurd rfl hr
  · rfl

/-- A verified impression of the inactive slot is declared (R553). -/
theorem verEffect_impression {j : VerJob} (c : Option Colo) (s : State) (hkind : j.kind = 4)
    (hslot : j.slot ≠ s.dev.get pgCFG CFG.BOOT_STAT.IMPSLOT) :
    verEffect j 0 c s = s.onDev (Dev.modBoot fun b => { b with decl := some (impAt s j.slot) }) := by
  unfold verEffect
  rw [hkind]
  exact if_pos hslot

/-- No effect of a verification begins another. -/
theorem verEffect_ver (j : VerJob) (r : Nat) (c : Option Colo) (s : State) : (verEffect j r c s).dev.boot.ver = s.dev.boot.ver := by
  unfold verEffect
  split
  · rfl
  · split
    · rw [selAppend_dev]
      rfl
    · rfl
  · split <;> rfl
  · rfl

/-- What the report of a verification shows where none is under way. -/
theorem verReport_shows (r : Nat) (v : Option Nat) (d : Dev) (hver : d.boot.ver = none) :
    (verReport r v d).boot = d.boot ∧ (verReport r v d).get pgSEC SEC.VER_STAT.RESULT = r % 2 ^ SEC.VER_STAT.RESULT.w ∧
    (verReport r v d).get pgSEC SEC.VER_STAT.DONE = 1 ∧ (verReport r v d).get pgSEC SEC.VER_STAT.BUSY = 0 ∧
    (verReport r v d).raised pgSEC Ev.SEC.VERDONE = true := by
  unfold verReport
  cases v with
  | none =>
    refine ⟨rfl, ?_, ?_, ?_, Dev.raised_ev_same _ _ _ (by decide)⟩ <;>
      simp (disch := decide) [Dev.putB, Dev.get_ev_place, Dev.get_put_place, hver, b2n, SEC.VER_STAT.DONE, fld]
  | some n =>
    refine ⟨rfl, ?_, ?_, ?_, Dev.raised_ev_same _ _ _ (by decide)⟩ <;>
      simp (disch := decide) [Dev.putB, Dev.get_ev_place, Dev.get_put_place, hver, b2n]

end Sys2Proof.Machine

open Sys2Proof Sys2Proof.Machine

/-- Settles O32, from what each request of `CFG_CTRL`, a GO and the end of a verification do. -/
theorem configurationAndVerification : Obligations.ConfigurationAndVerification := by
  unfold Obligations.ConfigurationAndVerification
  refine ⟨fun s hhost => ⟨fun harmed hidle hnum hdecl => ⟨fun hready => ?_, fun hready => ?_⟩, fun harmed => ?_, ?_, ?_, fun hready hfact => ?_,
    fun hready => ?_⟩, fun s kind slot copy half hhost => ⟨fun hver => ?_, fun hver => ?_, fun j hver => ?_⟩⟩
  · refine ⟨_, exec_cfgSwitch hhost, ?_⟩
    rw [show s.onDev cfgSwitch = s.onDev fun d => publishIstat (d.modBoot fun b => { b with armed := true }) from
      congrArg (fun d => { s with dev := d }) (cfgSwitch_arms harmed hidle hnum hdecl hready)]
    exact ⟨rfl, publishIstat_armed rfl hidle, publishIstat_get _ _ _ (by decide) (by decide), rfl⟩
  · obtain ⟨hboot, hcode, hev, -⟩ := switchRefused_shows 4 s.dev (by decide)
    refine ⟨_, exec_cfgSwitch hhost, ?_⟩
    rw [show s.onDev cfgSwitch = s.onDev (switchRefused 4) from
      congrArg (fun d => { s with dev := d }) (cfgSwitch_notReady harmed hidle hnum hdecl hready)]
    exact ⟨(congrArg BootX.armed hboot).trans harmed, hcode, hev, rfl⟩
  · obtain ⟨hboot, hcode, hev, hinfo⟩ := switchRefused_shows 1 s.dev (by decide)
    refine ⟨_, exec_cfgSwitch hhost, ?_⟩
    rw [show s.onDev cfgSwitch = s.onDev (switchRefused 1) from congrArg (fun d => { s with dev := d }) (cfgSwitch_busy harmed)]
    exact ⟨(congrArg BootX.armed hboot).trans harmed, hcode, hev, hinfo⟩
  · exact ⟨_, exec_cfgRstreq hhost, rfl, Bool.or_true _, Dev.get_put_same .., rfl⟩
  · exact ⟨_, exec_cfgCancel hhost, rfl, rfl, (publishIstat_get _ _ _ (by decide) (by decide)).trans (Dev.get_put_same ..), rfl, rfl⟩
  · refine ⟨_, exec_cfgConfirm hhost, ?_⟩
    rw [cfgConfirm_ready hready hfact]
    have hsel := congrArg (fun d : Dev => d.boot.sel) (selAppend_dev (fun x => { x with trial := 0, tries := 0 }) s)
    have hmem := selAppend_mem (fun x => { x with trial := 0, tries := 0 }) s
    exact ⟨congrArg Select.trial hsel, congrArg Select.tries hsel, congrArg Select.sseq hsel, Dev.get_put_same ..,
      (State.onDev_mem ..).trans hmem⟩
  · exact ⟨_, (exec_cfgConfirm hhost).trans (congrArg _ (cfgConfirm_early hready)), rfl, rfl⟩
  · refine ⟨_, exec_verGo kind slot copy half hhost, ?_⟩
    obtain ⟨hboot, hfields⟩ := takeAll_verCtrl (verGoBits kind slot copy half % 2 ^ 32) s.dev
    obtain ⟨-, hkind, hslot, hcopy, hhalf⟩ := verGoBits_fields kind slot copy half
    obtain ⟨hjob, hbusy, hdone⟩ := verGo_begins _ ((congrArg BootX.ver hboot).trans hver)
    refine ⟨hjob.trans ?_, hbusy, hdone, rfl⟩
    rw [Dev.on, hfields _ (by simp), hfields _ (by simp), hfields _ (by simp), hfields _ (by simp), hkind, hslot, hcopy, hhalf]
    cases copy <;> rfl
  · exact (doState_live verificationDone _ (alive_of_hostActs hhost)).trans (congrArg _ (verificationDone_none hver))
  · have hx : exec .verificationDone s = .next (verificationDone s) := doState_live _ _ (alive_of_hostActs hhost)
    rw [verificationDone_eq hver] at hx
    obtain ⟨hboot, hres, hdone, hbusy, hev⟩ := verReport_shows (verResult s j) ((slotCheck s j.kind j.slot).2.map (·.ver))
      (verEffect j (verResult s j) (slotCheck s j.kind j.slot).2 (verEnded s)).dev (verEffect_ver ..)
    refine ⟨⟨_, hx, (congrArg BootX.ver hboot).trans (verEffect_ver ..), hdone, hbusy, hev⟩, fun hbad => ?_, fun hgood hkind hruns => ?_,
      fun hgood hkind hslot => ?_⟩
    · have hr : verResult s j = (slotCheck s j.kind j.slot).1 := by simp [verResult, hbad]
      rw [verEffect_refused _ _ (hr ▸ hbad)] at hx
      exact ⟨_, hx, (verReport_shows _ _ _ rfl).2.1.trans (congrArg (· % 2 ^ SEC.VER_STAT.RESULT.w) hr), rfl, rfl⟩
    · have hr : verResult s j = 7 := by
        obtain ⟨h, hcopy, hruns⟩ := hruns
        have hbusy : copyBusy s j = true := by simp [copyBusy, hkind, Option.mem_def.mp hcopy, hruns]
        simp [verResult, hgood, hbusy]
      rw [verEffect_refused _ _ (by rw [hr]; decide)] at hx
      obtain ⟨hboot, hres, -⟩ := verReport_shows (verResult s j) ((slotCheck s j.kind j.slot).2.map (·.ver)) (verEnded s).dev rfl
      exact ⟨_, hx, hres.trans (by rw [hr]; rfl), rfl, (congrArg BootX.mark hboot :)⟩
    · have hr : verResult s j = 0 := by
        have : copyBusy s j = false := by
          unfold copyBusy
          split <;> simp [hkind]
        simp [verResult, hgood, this]
      rw [hr, verEffect_impression _ (verEnded s) hkind hslot] at hx
      obtain ⟨hboot, -⟩ := verReport_shows 0 ((slotCheck s j.kind j.slot).2.map (·.ver))
        ((verEnded s).onDev (Dev.modBoot fun b => { b with decl := some (impAt s j.slot) })).dev rfl
      exact ⟨_, hx, congrArg BootX.decl hboot, rfl, rfl⟩
end

section
/-! PROOFS. Ethernet frames, links and addresses (R475 to R478). -/

namespace Sys2Proof.Machine

/-! Frames at a port. -/

theorem satInc_mod (w v : Nat) : satInc w v % 2 ^ w = satInc w v := by
  have hp := Nat.two_pow_pos w
  refine Nat.mod_eq_of_lt ?_
  unfold satInc
  split <;> omega

theorem Dev.get_incSat (pg : Nat) (f : Fld) (d : Dev) : (d.incSat pg f).get pg f = satInc f.w (d.get pg f) :=
  (Dev.get_put_same ..).trans (satInc_mod ..)

/-- The port's VID for an untagged frame. -/
def portVid (d : Dev) (p : Nat) : Nat := d.get pgETH (if p = 1 then ETH.PVID.P1PVID else ETH.PVID.P2PVID)

/-- The counter of the frames that a port received. -/
def rxOk (p : Nat) : Fld := if p = 1 then ETH.CNT_P1.RXOK else ETH.CNT_P2.RXOK

/-- A frame received is counted at its port. -/
def ethCounted (p : Nat) (d : Dev) : Dev := d.inc pgETH (rxOk p)

/-- What the count leaves: every field that is no count of a port. -/
theorem ethCounted_get (p pg : Nat) (g : Fld) (d : Dev) (h1 : g.place ≠ ETH.CNT_P1.RXOK.place) (h2 : g.place ≠ ETH.CNT_P2.RXOK.place) :
    (ethCounted p d).get pg g = d.get pg g := by
  refine Dev.get_put_place _ _ _ _ _ _ ?_
  unfold rxOk
  split
  · exact h1
  · exact h2

/-- The fields of the VLAN table are no counts. -/
theorem vlan_place (k : Nat) (hk : k < 16) : ∀ f ∈ [ETH.VLAN.EN, ETH.VLAN.VID, ETH.VLAN.MEMBER, ETH.VLAN.UNTAG],
    (f.at k).place ≠ ETH.CNT_P1.RXOK.place ∧ (f.at k).place ≠ ETH.CNT_P2.RXOK.place := by
  have : ∀ k : Fin 16, ∀ f ∈ [ETH.VLAN.EN, ETH.VLAN.VID, ETH.VLAN.MEMBER, ETH.VLAN.UNTAG],
      (f.at k.val).place ≠ ETH.CNT_P1.RXOK.place ∧ (f.at k.val).place ≠ ETH.CNT_P2.RXOK.place := by decide
  exact this ⟨k, hk⟩

theorem ethCounted_vlan (p k : Nat) (f : Fld) (d : Dev) (hk : k < 16) (hf : f ∈ [ETH.VLAN.EN, ETH.VLAN.VID, ETH.VLAN.MEMBER, ETH.VLAN.UNTAG]) :
    (ethCounted p d).get pgETH (f.at k) = d.get pgETH (f.at k) :=
  ethCounted_get _ _ _ _ (vlan_place k hk f hf).1 (vlan_place k hk f hf).2

/-- The fields that name a group are no counts. -/
theorem ethCounted_group (p k : Nat) (d : Dev) (hk : k < 32) :
    (ethCounted p d).get pgETH (ETH.MCAST.GROUP.at k) = d.get pgETH (ETH.MCAST.GROUP.at k) := by
  have : ∀ k : Fin 32, (ETH.MCAST.GROUP.at k.val).place ≠ ETH.CNT_P1.RXOK.place ∧ (ETH.MCAST.GROUP.at k.val).place ≠ ETH.CNT_P2.RXOK.place := by decide
  exact ethCounted_get _ _ _ _ (this ⟨k, hk⟩).1 (this ⟨k, hk⟩).2

theorem vlanEntry_counted (p q vid : Nat) (d : Dev) : vlanEntry (ethCounted p d) vid q = vlanEntry d vid q := by
  refine List.find?_congr fun k hk => ?_
  have hk := List.mem_range.mp hk
  rw [Dev.on, Dev.on, ethCounted_vlan _ _ _ _ hk (by simp), ethCounted_vlan _ _ _ _ hk (by simp), ethCounted_vlan _ _ _ _ hk (by simp)]

theorem vlanEntry_lt {d : Dev} {vid p k : Nat} (h : vlanEntry d vid p = some k) : k < 16 := List.mem_range.mp (List.mem_of_find?_eq_some h)

theorem portVid_counted (p q : Nat) (d : Dev) : portVid (ethCounted p d) q = portVid d q := by
  unfold portVid
  refine ethCounted_get _ _ _ _ ?_ ?_ <;> split <;> decide

theorem p0Accepts_counted (p : Nat) (f : EthFrame) (d : Dev) : p0Accepts (ethCounted p d) f = p0Accepts d f := by
  have hgroup : ∀ g : Nat, ((List.range 32).any fun k => g != 0 && (ethCounted p d).get pgETH (ETH.MCAST.GROUP.at k) == g) =
      (List.range 32).any fun k => g != 0 && d.get pgETH (ETH.MCAST.GROUP.at k) == g := by
    intro g
    rw [Bool.eq_iff_iff, List.any_eq_true, List.any_eq_true]
    refine exists_congr fun k => and_congr_right fun hk => ?_
    rw [ethCounted_group _ _ _ (List.mem_range.mp hk)]
  unfold p0Accepts
  rw [ethCounted_get _ _ ETH.MAC_LO.MAC _ (by decide) (by decide), ethCounted_get _ _ ETH.MAC_HI.MAC _ (by decide) (by decide)]
  simp only [hgroup]

theorem ethUp_counted (p q : Nat) (d : Dev) : ethUp (ethCounted p d) q = ethUp d q := by
  have hlink : ∀ g ∈ [HDR.EN, HDR.PARK, ETH.PORTSTAT.P1LINK, ETH.PORTSTAT.P2LINK, ETH.PORTCFG.P1EN, ETH.PORTCFG.P2EN, ETH.PORTSTAT.P1MIS,
      ETH.PORTSTAT.P2MIS], (ethCounted p d).get pgETH g = d.get pgETH g := fun g hg => by
    have : ∀ g ∈ [HDR.EN, HDR.PARK, ETH.PORTSTAT.P1LINK, ETH.PORTSTAT.P2LINK, ETH.PORTCFG.P1EN, ETH.PORTCFG.P2EN, ETH.PORTSTAT.P1MIS,
      ETH.PORTSTAT.P2MIS], g.place ≠ ETH.CNT_P1.RXOK.place ∧ g.place ≠ ETH.CNT_P2.RXOK.place := by decide
    exact ethCounted_get _ _ _ _ (this g hg).1 (this g hg).2
  have hpart : (ethCounted p d).part = d.part := rfl
  have hnet : (ethCounted p d).net = d.net := rfl
  unfold ethUp ethLink Dev.enabled Dev.on
  by_cases hq : q = 1 <;> simp [hq, hlink, hpart, hnet]

/-! Addresses learned. -/

/-- The learned addresses after a frame's source address came in at a port (R476). -/
def macTable (a p : Nat) (d : Dev) : List MacEnt :=
  if macGroup a = false ∧ (d.net.eth.mac.filter fun x => x.mac != a && decide (d.tim.mot < x.at_ + msMot 300000)).length < 1024 then
    ⟨a, p, d.tim.mot⟩ :: d.net.eth.mac.filter fun x => x.mac != a && decide (d.tim.mot < x.at_ + msMot 300000)
  else d.net.eth.mac

theorem macLearn_eq (a p : Nat) (d : Dev) : macLearn a p d = d.modEth fun e => { e with mac := macTable a p d } := by
  unfold macLearn macTable
  by_cases hg : macGroup a = true
  · rw [if_pos hg, if_neg (by simp [hg])]
    rfl
  · rw [if_neg hg]
    unfold Dev.modEth
    dsimp only
    by_cases hroom : (d.net.eth.mac.filter fun x => x.mac != a && decide (d.tim.mot < x.at_ + msMot 300000)).length < 1024
    · rw [if_pos hroom, if_pos ⟨by simpa using hg, hroom⟩]
    · rw [if_neg hroom, if_neg (fun h => hroom h.2)]

theorem macTable_learns {a p : Nat} {d : Dev} (hg : macGroup a = false) (hroom : d.net.eth.mac.length < 1024) :
    ⟨a, p, d.tim.mot⟩ ∈ macTable a p d := by
  unfold macTable
  rw [if_pos ⟨hg, (List.length_filter_le _ _).trans_lt hroom⟩]
  exact List.mem_cons_self

theorem mem_macTable {a p : Nat} {d : Dev} {x : MacEnt} (h : x ∈ macTable a p d) : x.mac = a ∨ x ∈ d.net.eth.mac := by
  unfold macTable at h
  split at h
  · rcases List.mem_cons.mp h with rfl | h
    · exact .inl rfl
    · exact .inr (List.mem_filter.mp h).1
  · exact .inr h

/-! A frame received. -/

section
variable {s : State} {p : Nat} {f : EthFrame} (hup : ethUp s.dev p = true)

theorem ethReceive_down {e : Bool} (hdown : ethUp s.dev p = false) : ethReceive p f e s = s := if_pos (by rw [hdown]; rfl)

include hup

theorem ethReceive_error : ethReceive p f true s = s.onDev fun d => (d.incSat pgETH ETH.DROPS.RXERR).ev pgETH Ev.ETH.RXERR :=
  (if_neg (by simp [hup])).trans (if_pos rfl)

variable (hlen : f.data.length ≤ 1500) (htag : f.tag = none)
include hlen htag

/-- A good untagged frame is counted; its VLAN is that of its port. -/
theorem ethReceive_untagged : ethReceive p f false s =
    match vlanEntry s.dev (portVid s.dev p) p with
    | none => s.onDev fun d => (ethCounted p d).incSat pgETH ETH.DROPS.FILT
    | some k => ethForward k p (portVid s.dev p) 0 f (s.onDev fun d => macLearn f.src p (ethCounted p d)) := by
  have hshort : (false || decide (1500 < f.data.length)) = false := by simp [hlen]
  have hvid : portVid (ethCounted p s.dev) p = portVid s.dev p := portVid_counted ..
  have hvlan : vlanEntry (ethCounted p s.dev) (portVid s.dev p) p = vlanEntry s.dev (portVid s.dev p) p := vlanEntry_counted ..
  refine (if_neg (by simp [hup])).trans ((if_neg (by simp [hlen])).trans ?_)
  rw [htag]
  show (match vlanEntry (ethCounted p s.dev) (portVid (ethCounted p s.dev) p) p with
    | none => s.onDev fun d => (ethCounted p d).incSat pgETH ETH.DROPS.FILT
    | some k => ethForward k p (portVid (ethCounted p s.dev) p) 0 f (s.onDev fun d => macLearn f.src p (ethCounted p d))) = _
  rw [hvid, hvlan]

end

/-! Where a frame goes. -/

/-- The ports by which a frame from an external port leaves (R476, R478). -/
def ethOuts (p : Nat) (f : EthFrame) (d : Dev) : List Nat :=
  [1, 2].filter fun q => q != p && (p == 0 || d.on pgETH ETH.PORTCFG.FWD) &&
    f.dst != d.get pgETH ETH.MAC_LO.MAC + 2 ^ 32 * d.get pgETH ETH.MAC_HI.MAC &&
    (match if macGroup f.dst then none
      else (d.net.eth.mac.find? fun x => x.mac == f.dst && decide (d.tim.mot < x.at_ + msMot 300000)).map fun x => x.port with
      | some r => q == r
      | none => true)

theorem not_ptp_of_p0Accepts {d : Dev} {f : EthFrame} (h : p0Accepts d f = false) :
    f.etype ≠ 0x88F7 ∧ f.dst ≠ d.get pgETH ETH.MAC_LO.MAC + 2 ^ 32 * d.get pgETH ETH.MAC_HI.MAC := by
  unfold p0Accepts at h
  simp only [Bool.or_eq_false_iff, beq_eq_false_iff_ne] at h
  exact ⟨h.1.2, h.1.1.1⟩

theorem ptpEvent_of_etype {f : EthFrame} (h : f.etype ≠ 0x88F7) : ptpEvent f = false := by simp [ptpEvent, h]

/-- A frame that P0 does not take only leaves by the other ports. -/
theorem ethForward_past {s : State} {f : EthFrame} (k p vid pcp : Nat) (hp0 : p0Accepts s.dev f = false) :
    ethForward k p vid pcp f s = s.onDev fun d => d.each (ethOuts p f s.dev) fun q => ethEgress k q vid pcp f none := by
  have hskip : (p != 0 && p0Accepts s.dev f && bit (s.dev.get pgETH (ETH.VLAN.MEMBER.at k)) 0) = false := by simp [hp0]
  have hplain : (p != 0 && s.dev.on pgPTP PTP.PTP_CFG.TC && ptpEvent f) = false := by
    simp [ptpEvent_of_etype (not_ptp_of_p0Accepts hp0).1]
  unfold ethForward
  simp only [hskip, hplain, Bool.false_eq_true, if_false]
  rfl

/-- Without forwarding no frame leaves by another port. -/
theorem ethOuts_kept {p : Nat} {f : EthFrame} {d : Dev} (hp : p ≠ 0) (hfwd : d.on pgETH ETH.PORTCFG.FWD = false) : ethOuts p f d = [] := by
  unfold ethOuts
  simp [hp, hfwd]

/-- A frame to an address that was not learned leaves by the other external port. -/
theorem ethOuts_other {p : Nat} {f : EthFrame} {d : Dev} (hp : p < 2) (hfwd : d.on pgETH ETH.PORTCFG.FWD = true)
    (hown : f.dst ≠ d.get pgETH ETH.MAC_LO.MAC + 2 ^ 32 * d.get pgETH ETH.MAC_HI.MAC) (hnew : ∀ x ∈ d.net.eth.mac, x.mac ≠ f.dst) :
    ethOuts (p + 1) f d = [2 - p] := by
  have hfind : (d.net.eth.mac.find? fun x => x.mac == f.dst && decide (d.tim.mot < x.at_ + msMot 300000)) = none :=
    List.find?_eq_none.mpr fun x hx => by simp [hnew x hx]
  have hown' : (f.dst != d.get pgETH ETH.MAC_LO.MAC + 2 ^ 32 * d.get pgETH ETH.MAC_HI.MAC) = true := by simpa using hown
  unfold ethOuts
  simp only [hfind, Option.map_none, ite_self, hfwd, hown', Bool.or_true, Bool.and_true]
  obtain rfl | rfl : p = 0 ∨ p = 1 := by omega
  · rfl
  · rfl

theorem ethQueue_mac (q pcp : Nat) (f : EthFrame) (tc : Option Nat) (d : Dev) : (ethQueue q pcp f tc d).net.eth.mac = d.net.eth.mac := by
  unfold ethQueue
  dsimp only
  split <;> rfl

/-- A frame that leaves learns no address. -/
theorem ethEgress_mac (k q vid pcp : Nat) (f : EthFrame) (tc : Option Nat) (d : Dev) :
    (ethEgress k q vid pcp f tc d).net.eth.mac = d.net.eth.mac := by
  unfold ethEgress
  split
  · exact ethQueue_mac ..
  · rfl

/-- A frame waits at a port that has room (R477). -/
theorem ethQueue_waits {q : Nat} {f : EthFrame} {d : Dev} (hplain : f.etype ≠ 0x88F7) (hroom : d.net.eth.q.length < 64) :
    (ethQueue q 0 f none d).net.eth.q = d.net.eth.q ++ [EgressEnt.mk q (bitsOf (d.get pgETH ETH.QMAP.QMAP) 0 2) f d.tim.mot false] := by
  have hqueue : ethQueueOf d 0 f = bitsOf (d.get pgETH ETH.QMAP.QMAP) 0 2 := by
    rw [ethQueueOf, ptpEvent_of_etype hplain]
    rfl
  have hfree : ethFull d q (bitsOf (d.get pgETH ETH.QMAP.QMAP) 0 2) = false := by
    have := (List.length_filter_le (fun x : EgressEnt => x.port == q && x.queue == bitsOf (d.get pgETH ETH.QMAP.QMAP) 0 2)
      d.net.eth.q).trans_lt hroom
    simp [ethFull, Nat.not_le.mpr this]
  unfold ethQueue
  dsimp only
  rw [hqueue, hfree, if_neg (by decide)]
  rfl

/-- A frame leaves by a port of its VLAN that is up. -/
theorem ethEgress_member {k q vid : Nat} {f : EthFrame} {d : Dev} (hup : ethUp d q = true)
    (hmember : bit (d.get pgETH (ETH.VLAN.MEMBER.at k)) q = true) : ethEgress k q vid 0 f none d =
      ethQueue q 0 { f with tag := if bit (d.get pgETH (ETH.VLAN.UNTAG.at k)) q then none else some (vid, 0) } none d :=
  if_pos (by rw [hup, hmember]; rfl)

/-! A frame taken at its port. -/

/-- A frame counted at its port, its source address learned. -/
def ethTaken (p : Nat) (f : EthFrame) (d : Dev) : Dev := macLearn f.src p (ethCounted p d)

theorem ethTaken_eq (p : Nat) (f : EthFrame) (d : Dev) :
    ethTaken p f d = (ethCounted p d).modEth fun e => { e with mac := macTable f.src p (ethCounted p d) } := macLearn_eq ..

theorem ethTaken_get (p pg : Nat) (f : EthFrame) (g : Fld) (d : Dev) : (ethTaken p f d).get pg g = (ethCounted p d).get pg g := by
  rw [ethTaken_eq]
  rfl

theorem ethTaken_q (p : Nat) (f : EthFrame) (d : Dev) : (ethTaken p f d).net.eth.q = d.net.eth.q := by
  rw [ethTaken_eq]
  rfl

theorem ethTaken_mac (p : Nat) (f : EthFrame) (d : Dev) : (ethTaken p f d).net.eth.mac = macTable f.src p (ethCounted p d) := by
  rw [ethTaken_eq]
  rfl

theorem ethTaken_tim (p : Nat) (f : EthFrame) (d : Dev) : (ethTaken p f d).tim = d.tim := by
  rw [ethTaken_eq]
  rfl

theorem ethTaken_up (p q : Nat) (f : EthFrame) (d : Dev) : ethUp (ethTaken p f d) q = ethUp d q := by
  rw [ethTaken_eq]
  exact ethUp_counted p q d

theorem ethTaken_p0 (p : Nat) (f g : EthFrame) (d : Dev) : p0Accepts (ethTaken p f d) g = p0Accepts d g := by
  rw [ethTaken_eq]
  exact p0Accepts_counted p g d

theorem ethTaken_fwd (p : Nat) (f : EthFrame) (d : Dev) : (ethTaken p f d).on pgETH ETH.PORTCFG.FWD = d.on pgETH ETH.PORTCFG.FWD := by
  rw [Dev.on, ethTaken_get, ethCounted_get _ _ _ _ (by decide) (by decide)]
  rfl

/-- The state after a frame that P0 does not take (R476, R477). -/
def ethPassed (k p vid : Nat) (f : EthFrame) (d : Dev) : Dev :=
  (ethTaken p f d).each (ethOuts p f (ethTaken p f d)) fun q => ethEgress k q vid 0 f none

section
variable {k p vid : Nat} {f : EthFrame} {d : Dev}

theorem ethPassed_mac : (ethPassed k p vid f d).net.eth.mac = macTable f.src p (ethCounted p d) :=
  (Dev.each_ind (fun x => x.net.eth.mac = (ethTaken p f d).net.eth.mac) _ _ _ (fun _ _ h => (ethEgress_mac ..).trans h) rfl).trans (ethTaken_mac ..)

theorem ethPassed_kept (hp : p ≠ 0) (hfwd : d.on pgETH ETH.PORTCFG.FWD = false) : (ethPassed k p vid f d).net.eth.q = d.net.eth.q := by
  rw [ethPassed, ethOuts_kept hp ((ethTaken_fwd ..).trans hfwd)]
  exact ethTaken_q ..

/-- A frame to an unlearned address waits at the other port. -/
theorem ethPassed_waits (hp : p < 2) (hk : k < 16) (hp0 : p0Accepts d f = false) (hfwd : d.on pgETH ETH.PORTCFG.FWD = true)
    (hup : ethUp d (2 - p) = true) (hmember : bit (d.get pgETH (ETH.VLAN.MEMBER.at k)) (2 - p) = true) (hself : f.dst ≠ f.src)
    (hnew : ∀ x ∈ d.net.eth.mac, x.mac ≠ f.dst) (hroom : d.net.eth.q.length < 64) :
    (ethPassed k (p + 1) vid f d).net.eth.q = d.net.eth.q ++ [EgressEnt.mk (2 - p) (bitsOf (d.get pgETH ETH.QMAP.QMAP) 0 2)
      { f with tag := if bit (d.get pgETH (ETH.VLAN.UNTAG.at k)) (2 - p) then none else some (vid, 0) } d.tim.mot false] := by
  have hp0' := (ethTaken_p0 (p + 1) f f d).trans hp0
  obtain ⟨hplain, hown⟩ := not_ptp_of_p0Accepts hp0'
  have hunknown : ∀ x ∈ (ethTaken (p + 1) f d).net.eth.mac, x.mac ≠ f.dst := fun x hx => by
    rw [ethTaken_mac] at hx
    rcases mem_macTable hx with h | h
    · exact fun c => hself (c.symm.trans h)
    · exact hnew x h
  rw [ethPassed, ethOuts_other hp ((ethTaken_fwd ..).trans hfwd) hown hunknown, Dev.each_singleton,
    ethEgress_member ((ethTaken_up ..).trans hup) (by rw [ethTaken_get, ethCounted_vlan _ _ _ _ hk (by simp)]; exact hmember)]
  rw [ethQueue_waits (by exact hplain) (by rw [ethTaken_q]; exact hroom), ethTaken_q, ethTaken_tim, ethTaken_get, ethTaken_get,
    ethCounted_vlan _ _ _ _ hk (by simp),
    ethCounted_get _ _ _ _ (by decide) (by decide)]

end

theorem exec_ethFrame {s : State} (p : Fin 2) (f : EthFrame) (err : Bool) (halive : s.dev.alive = true) :
    exec (.ethFrameReceived p f err) s = .next (ethReceive (p.val + 1) f err s) := doState_live _ _ halive

section
variable {s : State} {p : Fin 2} {f : EthFrame} (halive : s.dev.alive = true) (hup : ethUp s.dev (p.val + 1) = true)
  (hlen : f.data.length ≤ 1500) (htag : f.tag = none)
include halive hup hlen htag

/-- A frame whose VLAN has no entry with its port is counted and filtered. -/
theorem exec_ethFrame_filtered (hvlan : vlanEntry s.dev (portVid s.dev (p.val + 1)) (p.val + 1) = none) :
    exec (.ethFrameReceived p f false) s = .next (s.onDev fun d => (ethCounted (p.val + 1) d).incSat pgETH ETH.DROPS.FILT) := by
  rw [exec_ethFrame _ _ _ halive, ethReceive_untagged hup hlen htag, hvlan]

/-- A frame of a VLAN of its port that P0 does not take. -/
theorem exec_ethFrame_passed {k : Nat} (hvlan : vlanEntry s.dev (portVid s.dev (p.val + 1)) (p.val + 1) = some k)
    (hp0 : p0Accepts s.dev f = false) :
    exec (.ethFrameReceived p f false) s = .next (s.onDev (ethPassed k (p.val + 1) (portVid s.dev (p.val + 1)) f)) := by
  rw [exec_ethFrame _ _ _ halive, ethReceive_untagged hup hlen htag, hvlan]
  exact congrArg Host.Outcome.next (ethForward_past (s := s.onDev (ethTaken (p.val + 1) f)) _ _ _ _ ((ethTaken_p0 ..).trans hp0))

end

/-- A filtered frame is counted at its port and among the filtered. -/
theorem filtered_counts (p : Nat) (d : Dev) :
    ((ethCounted p d).incSat pgETH ETH.DROPS.FILT).get pgETH ETH.DROPS.FILT = satInc ETH.DROPS.FILT.w (d.get pgETH ETH.DROPS.FILT) ∧
    ((ethCounted p d).incSat pgETH ETH.DROPS.FILT).get pgETH (rxOk p) = (d.get pgETH (rxOk p) + 1) % 2 ^ (rxOk p).w := by
  have hplace : (rxOk p).place ≠ ETH.DROPS.FILT.place := by
    unfold rxOk
    split <;> decide
  refine ⟨?_, (Dev.get_put_place _ _ _ _ _ _ hplace).trans (Dev.get_put_same ..)⟩
  rw [Dev.get_incSat, ethCounted_get _ _ _ _ (by decide) (by decide)]

/-! Links. -/

/-- A port's speed and link fields. -/
def spdField (p : Nat) : Fld := if p = 1 then ETH.PORTSTAT.P1SPD else ETH.PORTSTAT.P2SPD
def linkField (p : Nat) : Fld := if p = 1 then ETH.PORTSTAT.P1LINK else ETH.PORTSTAT.P2LINK
def misField (p : Nat) : Fld := if p = 1 then ETH.PORTSTAT.P1MIS else ETH.PORTSTAT.P2MIS

/-- The port's status of a link at a speed. -/
def linkShown (p v : Nat) (d : Dev) : Dev :=
  ((d.put pgETH (spdField p) v).putB pgETH (linkField p) (v != 0)).putB pgETH (misField p) (v != 0 && v != ethSpd d p)

/-- Whether a link change is one. -/
def linkMoved (p v : Nat) (d : Dev) : Bool := d.get pgETH (spdField p) != v || d.on pgETH (linkField p) != (v != 0)

/-- The status with its event. -/
def linkNoted (p v : Nat) (d : Dev) : Dev := (linkShown p v d).evIf (linkMoved p v d) pgETH Ev.ETH.LINK

/-- A link that is lost is reported. -/
def linkReported (p v : Nat) (d : Dev) : Dev :=
  if d.on pgETH (linkField p) && v == 0 then (linkNoted p v d).raise pgETH Cz.ETH.LINKDN p else linkNoted p v d

theorem ethLinkSet_eq (p v : Nat) (d : Dev) : ethLinkSet p v d =
    if v = 0 then (linkReported p v d).modEth fun e => { e with q := e.q.filter fun x => x.port != p } else linkReported p v d := rfl

theorem linkShown_get (p v : Nat) (d : Dev) (hv : v < 3) :
    (linkShown p v d).get pgETH (spdField p) = v ∧ (linkShown p v d).on pgETH (linkField p) = (v != 0) := by
  have hspd : (spdField p).place ≠ (linkField p).place ∧ (spdField p).place ≠ (misField p).place ∧ (linkField p).place ≠ (misField p).place ∧
      (spdField p).w = 2 ∧ (linkField p).w = 1 := by
    unfold spdField linkField misField
    by_cases hp : p = 1 <;> simp only [hp, if_true, if_false] <;> decide
  obtain ⟨h1, h2, h3, hw, hw1⟩ := hspd
  unfold linkShown Dev.putB Dev.on
  rw [Dev.get_put_place _ _ _ _ _ _ h2, Dev.get_put_place _ _ _ _ _ _ h1, Dev.get_put_same, Dev.get_put_place _ _ _ _ _ _ h3, Dev.get_put_same, hw, hw1]
  refine ⟨by omega, ?_⟩
  cases h : (v != 0) <;> rfl

/-- A report and an event leave a port's status. -/
theorem linkReported_get (p v : Nat) (g : Fld) (d : Dev) (hev : g.place ≠ HDR.EV_STAT.place) (hrep : g.key pgETH ∉ reportKeys) :
    (linkReported p v d).get pgETH g = (linkShown p v d).get pgETH g := by
  have hnote : (linkNoted p v d).get pgETH g = (linkShown p v d).get pgETH g := by
    unfold linkNoted Dev.evIf
    split
    · exact Dev.get_ev_place _ _ _ _ _ hev
    · rfl
  unfold linkReported
  split
  · exact (Dev.get_raise_ne _ _ _ _ _ _ hrep).trans hnote
  · exact hnote

theorem linkReported_raised {p v : Nat} {d : Dev} (hmoved : d.get pgETH (spdField p) ≠ v) :
    (linkReported p v d).raised pgETH Ev.ETH.LINK = true := by
  have hm : linkMoved p v d = true := by simp [linkMoved, hmoved]
  have hnote : (linkNoted p v d).raised pgETH Ev.ETH.LINK = true := by
    unfold linkNoted Dev.evIf
    rw [if_pos hm]
    exact Dev.raised_ev_same _ _ _ (by decide)
  unfold linkReported
  split
  · exact Dev.raised_raise (by decide) _ _ _ hnote
  · exact hnote

theorem linkReported_entry {p : Nat} {d : Dev} (hup : d.on pgETH (linkField p) = true) (hroom : d.queueRoom = true) :
    (linkReported p 0 d).entryOf pgETH Cz.ETH.LINKDN p = true := by
  have hnote : (linkNoted p 0 d).queueRoom = true := by
    unfold linkNoted Dev.evIf
    split <;> exact hroom
  unfold linkReported
  rw [if_pos (by rw [hup]; rfl)]
  exact Dev.raise_standing _ _ _ _ (by decide) hnote

/-- What the model says of VIO1 as a link comes up (R570). -/
def vio1Seen (v : Nat) (d : Dev) : Dev := { d with net := { d.net with eth := { d.net.eth with vio1 := d.net.eth.vio1 || v != 0 } } }

theorem ethLinkChange_eq {p v : Nat} {d : Dev} (hnet : d.part.hasNet = true) (hv : v < 3) :
    ethLinkChange p v d = ethLinkSet p v (vio1Seen v d) := if_pos ⟨hnet, by omega⟩

theorem exec_ethLinkChange {s : State} (p : Fin 2) (v : Fin 3) (halive : s.dev.alive = true) (hnet : s.dev.part.hasNet = true) :
    exec (.ethLinkChange p v) s = .next (s.onDev fun d => ethLinkSet (p.val + 1) v.val (vio1Seen v.val d)) := by
  have hx : exec (.ethLinkChange p v) s = .next (s.onDev (ethLinkChange (p.val + 1) v.val)) := doDev_live _ _ halive
  rw [hx, State.onDev, ethLinkChange_eq hnet v.isLt]
  rfl

theorem exec_addressAging {s : State} (m : BitVec 48) (halive : s.dev.alive = true) :
    exec (.addressAging m) s = .next (s.onDev (macAge m.toNat)) := doDev_live _ _ halive

/-- What a link change shows (R475). -/
theorem ethLinkSet_shows (p v : Nat) (d : Dev) (hv : v < 3) : (ethLinkSet p v d).get pgETH (spdField p) = v ∧
    (ethLinkSet p v d).on pgETH (linkField p) = (v != 0) ∧
    (d.get pgETH (spdField p) ≠ v → (ethLinkSet p v d).raised pgETH Ev.ETH.LINK = true) ∧
    (v = 0 → (∀ x ∈ (ethLinkSet p v d).net.eth.q, x.port ≠ p) ∧
      (d.on pgETH (linkField p) = true → d.queueRoom = true → (ethLinkSet p v d).entryOf pgETH Cz.ETH.LINKDN p = true)) := by
  have hfields : (spdField p).place ≠ HDR.EV_STAT.place ∧ (spdField p).key pgETH ∉ reportKeys ∧ (linkField p).place ≠ HDR.EV_STAT.place ∧
      (linkField p).key pgETH ∉ reportKeys := by
    unfold spdField linkField
    by_cases hp : p = 1 <;> simp only [hp, if_true, if_false] <;> decide
  obtain ⟨hse, hsr, hle, hlr⟩ := hfields
  obtain ⟨hspd, hlink⟩ := linkShown_get p v d hv
  have hspd' := (linkReported_get p v _ d hse hsr).trans hspd
  have hlink' : (linkReported p v d).on pgETH (linkField p) = (v != 0) :=
    (congrArg (· != 0) (linkReported_get p v _ d hle hlr)).trans hlink
  rw [ethLinkSet_eq]
  by_cases h0 : v = 0
  · rw [if_pos h0]
    refine ⟨hspd', hlink', linkReported_raised, fun _ => ⟨fun x hx => ?_, fun hup hroom => ?_⟩⟩
    · simpa using (List.mem_filter.mp hx).2
    · subst h0
      exact linkReported_entry hup hroom
  · rw [if_neg h0]
    exact ⟨hspd', hlink', linkReported_raised, fun h => absurd h h0⟩

/-- ADDRESS_AGING drops the named address where its time has passed, and nothing else (R476). -/
theorem mem_macAge (a : Nat) (d : Dev) (x : MacEnt) :
    x ∈ (macAge a d).net.eth.mac ↔ x ∈ d.net.eth.mac ∧ (x.mac ≠ a ∨ d.tim.mot < x.at_ + msMot 300000) := by
  show x ∈ d.net.eth.mac.filter _ ↔ _
  rw [List.mem_filter]
  simp

end Sys2Proof.Machine

open Sys2Proof Sys2Proof.Machine

/-- Settles O49, from what a frame at a port, a change of a link and the aging of an address do. -/
theorem ethernetFrames : Obligations.EthernetFrames := by
  unfold Obligations.EthernetFrames
  intro s p f v m halive
  have hpvid : s.dev.get pgETH (if p.val = 0 then ETH.PVID.P1PVID else ETH.PVID.P2PVID) = portVid s.dev (p.val + 1) := by simp [portVid]
  have hspd : (if p.val = 0 then ETH.PORTSTAT.P1SPD else ETH.PORTSTAT.P2SPD) = spdField (p.val + 1) := by simp [spdField]
  have hlink : (if p.val = 0 then ETH.PORTSTAT.P1LINK else ETH.PORTSTAT.P2LINK) = linkField (p.val + 1) := by simp [linkField]
  rw [hpvid, hspd, hlink]
  refine ⟨fun hdown e => ?_, fun hup => ⟨?_, fun hlen htag => ⟨fun hvlan => ?_, fun k hvlan hp0 => ?_⟩⟩, fun hnet => ?_, ?_⟩
  · rw [exec_ethFrame _ _ _ halive, ethReceive_down hdown]
  · refine ⟨_, exec_ethFrame p f true halive, ?_⟩
    rw [ethReceive_error hup]
    exact ⟨(Dev.get_ev_place _ _ _ _ _ (by decide)).trans (Dev.get_incSat ..), Dev.raised_ev_same _ _ _ (by decide), rfl, rfl⟩
  · obtain ⟨hfilt, hcount⟩ := filtered_counts (p.val + 1) s.dev
    refine ⟨_, exec_ethFrame_filtered halive hup hlen htag hvlan, hfilt, rfl, rfl, fun h0 => ?_, fun h1 => ?_⟩
    · rwa [show rxOk (p.val + 1) = ETH.CNT_P1.RXOK by rw [h0]; rfl] at hcount
    · rwa [show rxOk (p.val + 1) = ETH.CNT_P2.RXOK by rw [h1]; rfl] at hcount
  · refine ⟨_, exec_ethFrame_passed halive hup hlen htag hvlan hp0, rfl, fun hgroup hroom => ?_, ethPassed_kept (by omega),
      fun hfwd hother hmember hself hnew hfree => ethPassed_waits p.isLt (vlanEntry_lt hvlan) hp0 hfwd hother hmember hself hnew hfree⟩
    exact ⟨_, ethPassed_mac ▸ macTable_learns hgroup hroom, rfl, rfl, rfl⟩
  · exact ⟨_, exec_ethLinkChange p v halive hnet, rfl, ethLinkSet_shows (p.val + 1) v.val (vio1Seen v.val s.dev) v.isLt⟩
  · exact ⟨_, exec_addressAging m halive, fun x hx hm => ((mem_macAge _ _ _).mp hx).2.resolve_left (fun h => h hm),
      fun x hx h => (mem_macAge _ _ _).mpr ⟨hx, h⟩, rfl, rfl, rfl⟩
end

section
/-! PROOFS. Load switches (R428 to R434): one channel of a die at a switch tick, and what is found of it between ticks. -/

namespace Sys2Proof.Machine

theorem nth_modNth_ne {α : Type} (f : α → α) (l : List α) (i j : Nat) (x : α) (h : i ≠ j) : nth (modNth f l j) i x = nth l i x := by
  induction l generalizing i j with
  | nil => rfl
  | cons a l ih =>
    cases j with
    | zero =>
      cases i with
      | zero => exact absurd rfl h
      | succ i => rfl
    | succ j =>
      cases i with
      | zero => rfl
      | succ i => exact ih i j fun c => h (congrArg Nat.succ c)

theorem length_modNth {α : Type} (f : α → α) (l : List α) (i : Nat) : (modNth f l i).length = l.length := by
  induction l generalizing i with
  | nil => rfl
  | cons a l ih =>
    cases i with
    | zero => rfl
    | succ i => exact congrArg (· + 1) (ih i)

theorem nth_map_zipIdx {α : Type} (f : α × Nat → α) (l : List α) (i : Nat) (x : α) (h : i < l.length) :
    nth (l.zipIdx.map f) i x = f (nth l i x, i) := by
  unfold nth
  rw [List.getElem?_map, List.getElem?_zipIdx, List.getElem?_eq_getElem h]
  simp

/-! What acts on one channel at a tick. -/

/-- LS_CLR.CLR (R429, R431). -/
def LsX.clearedOc (l : LsX) : LsX :=
  { l with oc := false, fuse := l.fuse && !decide (l.theta ≤ 8388608), tries := if l.th then l.tries else 0 }

/-- Whether channel `c` lies below T_JC, and with it the other of its ligature. -/
def lsCool (y : DieX) (c : Nat) : Bool :=
  tjBelow (nth y.samp.lsTj c 250) && (!lsLig y c || tjBelow (nth y.samp.lsTj (c + 1) 250))

/-- LS_CLR.CLRTH (R432). -/
def LsX.clearedTh (y : DieX) (c now : Nat) (l : LsX) : LsX :=
  if l.th && lsCool y c then
    { l with th := false, thPause := false, pauseEnd := if l.thPause then some (now + lsPause l.tries) else l.pauseEnd }
  else l

/-- A thermal latch (R432). -/
def LsX.heatLatched (l : LsX) : LsX := { l with run := .off, th := true, thPause := l.pauseEnd.isSome }

/-- A fuse trip (R431). -/
def LsX.fuseLatched (l : LsX) : LsX := { l with run := .off, fuse := true, pauseEnd := none, dueAt := none }

/-- A trip: it latches at the try count, else a pause begins (R429). -/
def LsX.tripped (y : DieX) (c now : Nat) (l : LsX) : LsX :=
  if bitsOf (lsCfg y c) 8 4 ≤ l.tries + 1 then { l with run := .off, tries := l.tries + 1, oc := true, pauseEnd := none, dueAt := none }
  else { l with run := .off, tries := l.tries + 1, pauseEnd := some (now + lsPause (l.tries + 1)), dueAt := none }

/-- The clears among what waits. -/
def LsX.clears (y : DieX) (c now p : Nat) (l : LsX) : LsX :=
  let l := { l with pend := p &&& 32 }
  let l := if bit p 3 then l.clearedOc else l
  if bit p 4 then l.clearedTh y c now else l

/-- The first of the latches and trips that wait. -/
def LsX.trips (y : DieX) (c now p : Nat) (l : LsX) : LsX :=
  if bit p 0 && !l.th then l.heatLatched
  else if bit p 1 && !l.latched then l.fuseLatched
  else if bit p 2 && l.run != .off then l.tripped y c now
  else l

/-- What waited for a tick acts (R428, R433). -/
def LsX.resolved (y : DieX) (c now : Nat) (l : LsX) : LsX :=
  if l.pend = 0 then l else (l.clears y c now l.pend).trips y c now l.pend

/-! One channel, and what the others of its die leave of it. -/

/-- In `e` channel `c` of die `x` stands as `l`, and of the die no more than its channels and its reports differ from `d`. -/
structure LsSet (x c : Nat) (d : Dev) (l : LsX) (e : Dev) : Prop where
  die : ∃ ls tells, e.di x = { d.di x with ls := ls, tells := tells }
  len : (e.di x).ls.length = (d.di x).ls.length
  own : lsOf e x c = l
  tim : e.tim = d.tim

namespace LsSet
variable {x c : Nat} {d e : Dev} {l : LsX}

theorem refl : LsSet x c d (lsOf d x c) d := ⟨⟨_, _, rfl⟩, rfl, rfl, rfl⟩

section
variable (h : LsSet x c d l e)
include h

theorem cfg (m : Nat) : lsCfg (e.di x) m = lsCfg (d.di x) m := by
  obtain ⟨_, _, hd⟩ := h.die
  rw [hd]
  rfl

theorem lig (m : Nat) : lsLig (e.di x) m = lsLig (d.di x) m := by
  obtain ⟨_, _, hd⟩ := h.die
  rw [hd]
  rfl

theorem lead (m : Nat) : lsLead (e.di x) m = lsLead (d.di x) m := by
  obtain ⟨_, _, hd⟩ := h.die
  rw [hd]
  rfl

theorem samp : (e.di x).samp = (d.di x).samp := by
  obtain ⟨_, _, hd⟩ := h.die
  rw [hd]

theorem tick (now : Nat) : lsTick (e.di x) x c now = lsTick (d.di x) x c now := by
  obtain ⟨_, _, hd⟩ := h.die
  rw [hd]
  rfl

/-- What the die has to tell changes no channel. -/
theorem modTells (hx : x < 2) (f : List Tell → List Tell) : LsSet x c d l (e.modDi x fun y => { y with tells := f y.tells }) := by
  obtain ⟨⟨ls, tells, hd⟩, hlen, hown, htim⟩ := h
  refine ⟨⟨ls, f tells, ?_⟩, ?_, ?_, htim⟩
  · rw [Dev.di_modDi_same _ _ _ hx, hd]
  · rw [Dev.di_modDi_same _ _ _ hx]
    exact hlen
  · rw [lsOf, Dev.di_modDi_same _ _ _ hx]
    exact hown

theorem told (hx : x < 2) (m : Tell) : LsSet x c d l (dieTells x m e) := by
  unfold dieTells
  split
  · exact h.modTells hx (· ++ [m])
  · exact h

theorem cleared (hx : x < 2) (pg : Nat) (k : Cause) (inst : Nat) : LsSet x c d l (dieClears x pg k inst e) := by
  obtain ⟨hdie, hlen, hown, htim⟩ := h.modTells hx (List.map fun m =>
    if m.page == pg && m.code == k.code && m.inst == inst then { m with c2 := false } else m)
  exact ⟨hdie, hlen, hown, htim⟩

theorem clearedIf (hx : x < 2) (b : Bool) (pg : Nat) (k : Cause) (inst : Nat) : LsSet x c d l (Dev.iff_ b (dieClears x pg k inst) e) := by
  unfold Dev.iff_
  split
  · exact h.cleared hx pg k inst
  · exact h

theorem modLs_ne {m : Nat} (hx : x < 2) (hm : c ≠ m) (f : LsX → LsX) : LsSet x c d l (modLs x m f e) := by
  obtain ⟨⟨ls, tells, hd⟩, hlen, hown, htim⟩ := h
  refine ⟨⟨modNth f ls m, tells, ?_⟩, ?_, ?_, htim⟩
  · rw [modLs, Dev.di_modDi_same _ _ _ hx, hd]
  · rw [modLs, Dev.di_modDi_same _ _ _ hx]
    exact (length_modNth ..).trans hlen
  · rw [lsOf, modLs, Dev.di_modDi_same _ _ _ hx]
    exact (nth_modNth_ne _ _ _ _ _ hm).trans hown

theorem modLs_same (hx : x < 2) (hc : c < (d.di x).ls.length) (f : LsX → LsX) : LsSet x c d (f l) (modLs x c f e) := by
  obtain ⟨⟨ls, tells, hd⟩, hlen, hown, htim⟩ := h
  refine ⟨⟨modNth f ls c, tells, ?_⟩, ?_, ?_, htim⟩
  · rw [modLs, Dev.di_modDi_same _ _ _ hx, hd]
  · rw [modLs, Dev.di_modDi_same _ _ _ hx]
    exact (length_modNth ..).trans hlen
  · rw [lsOf, modLs, Dev.di_modDi_same _ _ _ hx]
    exact (nth_modNth_same _ _ _ _ (hlen ▸ hc)).trans (congrArg f hown)

end

theorem ite {p : Prop} [Decidable p] {e₁ e₂ : Dev} (h₁ : LsSet x c d l e₁) (h₂ : LsSet x c d l e₂) :
    LsSet x c d l (if p then e₁ else e₂) := by
  split
  · exact h₁
  · exact h₂

/-! The other channels. -/

section
variable {m : Nat} (h : LsSet x c d l e) (hx : x < 2) (hm : c ≠ m)
include h hx hm

theorem trip : LsSet x c d l (lsTrip x m e) := .ite ((h.modLs_ne hx hm _).told hx _) ((h.modLs_ne hx hm _).told hx _)

theorem clearOc : LsSet x c d l (lsClearOc x m e) := ((h.modLs_ne hx hm _).cleared hx _ _ _).clearedIf hx _ _ _ _

theorem clearTh : LsSet x c d l (lsClearTh x m e) := .ite ((h.modLs_ne hx hm _).cleared hx _ _ _) h

/-- What waited for another channel leaves this one. -/
theorem resolve : LsSet x c d l (lsResolve x m e) := by
  have hpend := h.modLs_ne hx hm fun l => { l with pend := (lsOf e x m).pend &&& 32 }
  have hoc : LsSet x c d l (Dev.iff_ (bit (lsOf e x m).pend 3) (lsClearOc x m) _) := .ite (hpend.clearOc hx hm) hpend
  have hth : LsSet x c d l (Dev.iff_ (bit (lsOf e x m).pend 4) (lsClearTh x m) _) := .ite (hoc.clearTh hx hm) hoc
  exact .ite h (.ite ((hth.modLs_ne hx hm _).told hx _) (.ite ((hth.modLs_ne hx hm _).told hx _) (.ite (hth.trip hx hm) hth)))

end

/-! The channel itself. -/

theorem cast {l' : LsX} (h : LsSet x c d l e) (hl : l = l') : LsSet x c d l' e := hl ▸ h

theorem cool (h : LsSet x c d l e) : lsCool (e.di x) c = lsCool (d.di x) c := by
  obtain ⟨_, _, hd⟩ := h.die
  rw [hd]
  rfl

theorem mot (h : LsSet x c d l e) : e.tim.mot = d.tim.mot := congrArg TimeX.mot h.tim

section
variable (h : LsSet x c d l e) (hx : x < 2) (hc : c < (d.di x).ls.length)
include h hx hc

theorem ownClearOc : LsSet x c d l.clearedOc (lsClearOc x c e) := by
  obtain rfl := h.own
  exact cast (((h.modLs_same hx hc _).cleared hx _ _ _).clearedIf hx _ _ _ _) rfl

theorem ownClearTh : LsSet x c d (l.clearedTh (d.di x) c d.tim.mot) (lsClearTh x c e) := by
  obtain rfl := h.own
  have hcond : ((lsOf e x c).th && tjBelow (nth (e.di x).samp.lsTj c 250) && (!lsLig (e.di x) c || tjBelow (nth (e.di x).samp.lsTj (c + 1) 250))) =
      ((lsOf e x c).th && lsCool (d.di x) c) := by
    rw [Bool.and_assoc, ← h.cool]
    rfl
  unfold lsClearTh LsX.clearedTh
  dsimp only
  rw [hcond]
  by_cases hcool : ((lsOf e x c).th && lsCool (d.di x) c) = true
  · rw [if_pos hcool, if_pos hcool, ← h.mot]
    exact cast ((h.modLs_same hx hc _).cleared hx _ _ _) rfl
  · rw [if_neg hcool, if_neg hcool]
    exact h

theorem ownTrip : LsSet x c d (l.tripped (d.di x) c d.tim.mot) (lsTrip x c e) := by
  obtain rfl := h.own
  unfold lsTrip LsX.tripped
  dsimp only
  rw [h.cfg, h.mot]
  by_cases hlast : bitsOf (lsCfg (d.di x) c) 8 4 ≤ (lsOf e x c).tries + 1
  · rw [if_pos hlast, if_pos hlast]
    exact cast ((h.modLs_same hx hc _).told hx _) rfl
  · rw [if_neg hlast, if_neg hlast]
    exact cast ((h.modLs_same hx hc _).told hx _) rfl

theorem ownHeat : LsSet x c d l.heatLatched (lsHeatLatch x c e) := cast ((h.modLs_same hx hc _).told hx _) rfl

theorem ownFuse : LsSet x c d l.fuseLatched (lsFuseLatch x c e) := cast ((h.modLs_same hx hc _).told hx _) rfl

end

/-- Both sides of a choice. -/
theorem ite₂ {p : Prop} [Decidable p] {l₁ l₂ : LsX} {e₁ e₂ : Dev} (h₁ : LsSet x c d l₁ e₁) (h₂ : LsSet x c d l₂ e₂) :
    LsSet x c d (if p then l₁ else l₂) (if p then e₁ else e₂) := by
  split
  · exact h₁
  · exact h₂

/-- What waited for the channel acts on it. -/
theorem ownResolve (h : LsSet x c d l e) (hx : x < 2) (hc : c < (d.di x).ls.length) (hlead : lsLead (d.di x) c = c) :
    LsSet x c d (l.resolved (d.di x) c d.tim.mot) (lsResolve x c e) := by
  obtain rfl := h.own
  unfold lsResolve LsX.resolved
  dsimp only
  rw [h.lead, hlead]
  by_cases hp : (lsOf e x c).pend = 0
  · rw [if_pos hp, if_pos (.inl hp)]
    exact h
  · rw [if_neg hp, if_neg (by simp [hp])]
    have hpend := h.modLs_same hx hc fun l => { l with pend := (lsOf e x c).pend &&& 32 }
    have hoc : LsSet x c d _ (Dev.iff_ (bit (lsOf e x c).pend 3) (lsClearOc x c) _) := .ite₂ (hpend.ownClearOc hx hc) hpend
    have hth : LsSet x c d _ (Dev.iff_ (bit (lsOf e x c).pend 4) (lsClearTh x c) _) := .ite₂ (hoc.ownClearTh hx hc) hoc
    rw [hth.own]
    exact .ite₂ (hth.ownHeat hx hc) (.ite₂ (hth.ownFuse hx hc) (.ite₂ (hth.ownTrip hx hc) hth))

end LsSet

/-! A switch tick (R428). -/

section
variable {x c : Nat} {d : Dev} (hx : x < 2) (hlen : (d.di x).ls.length = 6) (hc : c < 6) (hlead : lsLead (d.di x) c = c)
include hx hlen hc hlead

/-- Before the channels take their values, what waited has acted on each. -/
theorem lsResolve_all : LsSet x c d ((lsOf d x c).resolved (d.di x) c d.tim.mot) (d.each (List.range 6) (lsResolve x)) := by
  obtain ⟨l₁, l₂, hl⟩ := List.append_of_mem (List.mem_range.mpr hc)
  have hnodup := List.nodup_range (n := 6)
  rw [hl, List.nodup_append] at hnodup
  obtain ⟨-, hn₂, hn₁⟩ := hnodup
  rw [hl]
  unfold Dev.each
  rw [List.foldl_append, List.foldl_cons]
  have hbefore : LsSet x c d (lsOf d x c) (d.each l₁ (lsResolve x)) :=
    Dev.each_mem (LsSet x c d (lsOf d x c)) l₁ _ _ (fun m e hm h => h.resolve hx (Ne.symm (hn₁ m hm c (by simp)))) .refl
  exact Dev.each_mem (LsSet x c d _) l₂ (lsResolve x) _ (fun m e hm h => h.resolve hx (fun he => (List.nodup_cons.mp hn₂).1 (he ▸ hm)))
    (hbefore.ownResolve hx (hlen ▸ hc) hlead)

/-- A channel after a switch tick. -/
theorem switchTick_own (hrun : dieRuns d x = true) :
    lsOf (switchTick x d) x c = lsTick (d.di x) x c d.tim.mot ((lsOf d x c).resolved (d.di x) c d.tim.mot) := by
  have hall := lsResolve_all hx hlen hc hlead
  unfold switchTick
  rw [if_pos hrun]
  dsimp only
  generalize d.each (List.range 6) (lsResolve x) = e at hall
  have hset : ∀ m, lsOf (e.modDi x fun y => { y with ls := y.ls.zipIdx.map (fun l => lsTick y x l.2 d.tim.mot l.1), lsShed := m }) x c =
      lsTick (d.di x) x c d.tim.mot ((lsOf d x c).resolved (d.di x) c d.tim.mot) := fun m => by
    rw [lsOf, Dev.di_modDi_same _ _ _ hx]
    refine (nth_map_zipIdx _ _ _ _ (by rw [hall.len, hlen]; exact hc)).trans ?_
    rw [hall.tick, show nth (e.di x).ls c {} = _ from hall.own]
  have htold : ∀ (m : Tell) (t : Dev), lsOf (dieTells x m t) x c = lsOf t x c := fun m t => (LsSet.refl.told hx m).own
  split
  · rw [htold, hset]
  · exact hset _

end

/-! What a tick makes of a channel that leads. -/

section
variable {y : DieX} {x c now : Nat} (hlead : lsLead y c = c)
include hlead

/-- A tick changes no latch, no try count and no pause by itself. -/
theorem lsTick_keeps (l : LsX) : (lsTick y x c now l).oc = l.oc ∧ (lsTick y x c now l).fuse = l.fuse ∧ (lsTick y x c now l).th = l.th ∧
    (lsTick y x c now l).tries = l.tries ∧ (lsTick y x c now l).pauseEnd = l.pauseEnd := by
  unfold lsTick
  rw [if_neg (by simp [hlead])]
  split
  · exact ⟨rfl, rfl, rfl, rfl, rfl⟩
  · split
    · split <;> exact ⟨rfl, rfl, rfl, rfl, rfl⟩
    · exact ⟨rfl, rfl, rfl, rfl, rfl⟩

/-- A channel is off after a tick where it is not wanted, latched, or off with a pause. -/
theorem lsTick_off {l : LsX} (h : lsWant y x c = false ∨ l.latched = true ∨ l.run = .off ∧ l.pauseEnd.isSome = true) :
    (lsTick y x c now l).run = .off := by
  unfold lsTick
  rw [if_neg (by simp [hlead])]
  split
  · rfl
  · split
    · next hon =>
      simp only [Bool.and_eq_true, Bool.not_eq_true'] at hon
      obtain ⟨hrun, hpause⟩ := (h.resolve_left (by simp [hon.1])).resolve_left (by simp [hon.2])
      rw [if_neg (by simp [Option.isNone_eq_false_iff.mpr hpause])]
      exact hrun
    · rfl

/-- A tick turns a wanted channel on that is off, without a latch, a pause, a retry and anything that waits (R428). -/
theorem lsTick_on {l : LsX} (hwant : lsWant y x c = true) (hlatch : l.latched = false) (hrun : l.run = .off) (hpause : l.pauseEnd = none)
    (hdue : l.dueAt = none) (hpend : l.pend = 0) : lsTick y x c now l = lsTurnOn y c now l := by
  unfold lsTick
  simp [hlead, hwant, hlatch, hrun, hpause, hdue, hpend]

end

section
variable {y : DieX} {c now : Nat} {l : LsX}

theorem LsX.resolved_none (h : l.pend = 0) : l.resolved y c now = l := if_pos h

theorem LsX.resolved_some (h : l.pend ≠ 0) : l.resolved y c now = (l.clears y c now l.pend).trips y c now l.pend := if_neg h

theorem LsX.clears_none {p : Nat} (h3 : bit p 3 = false) (h4 : bit p 4 = false) : l.clears y c now p = { l with pend := p &&& 32 } := by
  unfold LsX.clears
  rw [h3, h4]
  rfl

theorem LsX.trips_none {p : Nat} (h0 : bit p 0 = false) (h1 : bit p 1 = false) (h2 : bit p 2 = false) : l.trips y c now p = l := by
  unfold LsX.trips
  rw [h0, h1, h2]
  rfl

theorem pend_ne_of_bit {p i : Nat} (h : bit p i = true) : p ≠ 0 := by
  rintro rfl
  simp [bit] at h

/-- A trip alone waits. -/
theorem LsX.resolved_trip (hpend : l.pend = 4) (hrun : l.run ≠ .off) : l.resolved y c now = LsX.tripped y c now { l with pend := 0 } := by
  have hon : (l.run != .off) = true := by simpa using hrun
  rw [LsX.resolved_some (by simp [hpend]), hpend, LsX.clears_none (by decide) (by decide)]
  unfold LsX.trips
  rw [show bit 4 0 = false from rfl, show bit 4 1 = false from rfl, show bit 4 2 = true from rfl, hon]
  rfl

/-- A thermal latch waits, without a clear. -/
theorem LsX.resolved_heat (h3 : bit l.pend 3 = false) (h4 : bit l.pend 4 = false) (h0 : bit l.pend 0 = true) (hth : l.th = false) :
    l.resolved y c now = LsX.heatLatched { l with pend := l.pend &&& 32 } := by
  rw [LsX.resolved_some (pend_ne_of_bit h0), LsX.clears_none h3 h4]
  exact if_pos (by rw [h0, hth]; rfl)

/-- A fuse trip waits, without a clear and a thermal latch. -/
theorem LsX.resolved_fuse (h3 : bit l.pend 3 = false) (h4 : bit l.pend 4 = false) (h0 : bit l.pend 0 = false) (h1 : bit l.pend 1 = true)
    (hlatch : l.latched = false) : l.resolved y c now = LsX.fuseLatched { l with pend := l.pend &&& 32 } := by
  rw [LsX.resolved_some (pend_ne_of_bit h1), LsX.clears_none h3 h4]
  refine (if_neg (by simp [h0])).trans (if_pos ?_)
  rw [h1]
  exact congrArg not hlatch

/-- A clear alone waits. -/
theorem LsX.resolved_clear (hpend : l.pend = 8) : l.resolved y c now = LsX.clearedOc { l with pend := 0 } := by
  rw [LsX.resolved_some (by simp [hpend]), hpend, LsX.trips_none (by decide) (by decide) (by decide)]
  rfl

/-- A thermal clear alone waits. -/
theorem LsX.resolved_clearTh (hpend : l.pend = 16) : l.resolved y c now = LsX.clearedTh y c now { l with pend := 0 } := by
  rw [LsX.resolved_some (by simp [hpend]), hpend, LsX.trips_none (by decide) (by decide) (by decide)]
  rfl

theorem LsX.clearedTh_oc : (l.clearedTh y c now).oc = l.oc := by
  unfold LsX.clearedTh
  split <;> rfl

/-- Below T_JC a thermal clear ends the latch. -/
theorem LsX.clearedTh_cool (hcool : tjBelow (nth y.samp.lsTj c 250) = true) (hlig : lsLig y c = false) : (l.clearedTh y c now).th = false := by
  have hc : lsCool y c = true := by simp [lsCool, hcool, hlig]
  unfold LsX.clearedTh
  split
  · rfl
  · next h =>
    rw [hc, Bool.and_true] at h
    simpa using h

/-- A hot channel keeps it. -/
theorem LsX.clearedTh_hot (hhot : tjBelow (nth y.samp.lsTj c 250) = false) : (l.clearedTh y c now).th = l.th := by
  have hc : lsCool y c = false := by simp [lsCool, hhot]
  exact congrArg LsX.th (if_neg (by simp [hc]))

end

/-! What is found of a channel between ticks. -/

section
variable {x c : Nat} {d : Dev} (hx : x < 2) (hc : c < (d.di x).ls.length)
include hx hc

theorem lsOf_modLs (f : LsX → LsX) : lsOf (modLs x c f d) x c = f (lsOf d x c) := (LsSet.refl.modLs_same hx hc f).own

theorem lsOf_lsPend (b : Nat) : lsOf (lsPend x c b d) x c = { lsOf d x c with pend := setBit (lsOf d x c).pend b true } :=
  lsOf_modLs hx hc _

end

section
variable {x c : Nat} {d : Dev} (hrun : dieRuns d x = true)
include hrun

/-- A limit that acts in ON, a short at its time and a hot chip wait for the tick (R428, R429, R432). -/
theorem lsOvercurrentTrip_found (hlead : lsLead (d.di x) c = c) (hon : (lsOf d x c).run = .on) :
    lsOvercurrentTrip x c d = lsPend x c 2 d := by
  unfold lsOvercurrentTrip
  simp [hlead, hrun, hon]

theorem lsHardShort_found (hlead : lsLead (d.di x) c = c) (hon : (lsOf d x c).run ≠ .off) (hfrom : (lsOf d x c).onAt + 50000 ≤ d.tim.mot)
    (hto : d.tim.mot < (lsOf d x c).onAt + 75000) : lsHardShort x c d = lsPend x c 2 d := by
  unfold lsHardShort
  simp [hlead, hrun, hon, hfrom, hto]

theorem lsThermalLatch_found (hlead : lsLead (d.di x) c = c) (hth : (lsOf d x c).th = false) : lsThermalLatch x c d = lsPend x c 0 d := by
  unfold lsThermalLatch
  simp [hlead, hrun, hth]

/-- The end of a pause: a retry falls due where the channel is wanted and not latched (R429, R430). -/
def LsX.pauseEnded (want : Bool) (now : Nat) (l : LsX) : LsX :=
  { l with pauseEnd := none, dueAt := if want && !l.latched then some now else none }

end

/-- A retry that cannot start yet changes nothing (R434). -/
theorem lsRetry_waits {u : Nat} (hdue : (lsOf d x c).dueAt = some u) (hbusy : retryFree d x c u = false) : lsRetry x c d = d := by
  unfold lsRetry
  dsimp only
  rw [hdue]
  exact if_neg (by simp [hbusy])

section
variable {x c : Nat} {d : Dev} (hx : x < 2) (hc : c < (d.di x).ls.length)
include hx hc

theorem lsPauseEnd_ends {p : Nat} (hrun : dieRuns d x = true) (hp : (lsOf d x c).pauseEnd = some p) (hend : p ≤ d.tim.mot)
    (hth : (lsOf d x c).th = false) :
    lsOf (lsPauseEnd x c d) x c = (lsOf d x c).pauseEnded (lsWant (d.di x) x c) d.tim.mot ∧ (lsPauseEnd x c d).act = d.act := by
  unfold lsPauseEnd
  dsimp only
  rw [hp]
  dsimp only
  rw [if_pos (by simp [hrun, hend, hth])]
  exact ⟨lsOf_modLs hx hc _, rfl⟩

/-- A retry turns the channel on and notes its time (R434). -/
theorem lsRetry_starts {u : Nat} (hrun : dieRuns d x = true) (hdue : (lsOf d x c).dueAt = some u) (hlatch : (lsOf d x c).latched = false)
    (hwant : lsWant (d.di x) x c = true) (hfree : retryFree d x c u = true) :
    (lsOf (lsRetry x c d) x c).run = .inrush ∧ ((lsRetry x c d).di x).lastRetry = some d.tim.mot := by
  have h : lsRetry x c d = (modLs x c (lsTurnOn (d.di x) c d.tim.mot) d).modDi x fun y => { y with lastRetry := some d.tim.mot } := by
    unfold lsRetry
    dsimp only
    rw [hdue]
    exact if_pos (by rw [hrun, hlatch, hwant, hfree]; rfl)
  rw [h]
  refine ⟨?_, by rw [Dev.di_modDi_same _ _ _ hx]⟩
  have hown : (lsOf (modLs x c (lsTurnOn (d.di x) c d.tim.mot) d) x c).run = .inrush := by rw [lsOf_modLs hx hc]; rfl
  rw [lsOf, Dev.di_modDi_same _ _ _ hx]
  exact hown

/-- A millisecond of current changes the wire's heat; at 1.21 a fuse trip waits (R431). -/
theorem lsFuseUpdate_heats (ma : Nat) (hrun : dieRuns d x = true) (hlead : lsLead (d.di x) c = c) (hen : bit (lsCfg (d.di x) c) 20 = true) :
    (lsOf (lsFuseUpdate x c ma d) x c).theta = fuseHeat (d.di x) c ma (lsOf d x c).theta ∧
    (121 * 16777216 ≤ 100 * fuseHeat (d.di x) c ma (lsOf d x c).theta → (lsOf d x c).latched = false →
      bit (lsOf (lsFuseUpdate x c ma d) x c).pend 1 = true) := by
  have hheat := LsSet.modLs_same .refl hx hc fun l => { l with theta := fuseHeat (d.di x) c ma (lsOf d x c).theta }
  have hpend := hheat.modLs_same hx hc fun l => { l with pend := setBit l.pend 1 true }
  unfold lsFuseUpdate
  dsimp only
  rw [if_pos (by rw [hrun, hlead, hen]; simp), hheat.own]
  split
  · rw [show lsOf (lsPend x c 1 _) x c = _ from hpend.own]
    exact ⟨rfl, fun _ _ => by simp [bit_setBit_true]⟩
  · next hcold =>
    rw [hheat.own]
    refine ⟨rfl, fun hhot hlatch => absurd ?_ hcold⟩
    rw [decide_eq_true hhot]
    exact congrArg not hlatch

end

/-! The clears of the runtime in safe context (R429, R432). -/

/-- `LS_CLR` of a load-switch page takes the runtime's write. -/
theorem wr_lsClr {x v : Nat} {s : State} (hx : x < 2) (hrun : dieRuns s.dev x = true) (hr : s.dev.runtimeActs = true) :
    wr .runtimeSafe (pgLSW x) LSW.LS_CLR.CLR v s =
      s.onDev fun d => lsClrTh x (bitsOf (takenBits [LSW.LS_CLR.CLRTH, LSW.LS_CLR.CLR] (v % 2 ^ 32)) 8 6)
        (lsClr x (takenBits [LSW.LS_CLR.CLRTH, LSW.LS_CLR.CLR] (v % 2 ^ 32) % 64) d) := by
  have hh : s.dev.part.has (.lsw x) = true := by
    have hdie : s.dev.dies.contains x = true := by simp [dieRuns] at hrun; simp [hrun]
    unfold Dev.dies at hdie
    unfold Part.has
    split at hdie <;> simp_all
  rw [wr_wo .runtimeSafe (pgLSW x) LSW.LS_CLR.CLR v s (.lsw x) [LSW.LS_CLR.CLRTH, LSW.LS_CLR.CLR] (by unfold pgLSW; omega) (by decide)
    (by decide) (unitOf_lsw x hx) hh (srcMay_runtimeSafe _ _ _ hr) (by rfl) (by rfl) (by intro g hg; simp at hg; rcases hg with rfl | rfl <;> rfl) (by decide) (by decide)
    (by intro g hg; simp at hg; rcases hg with rfl | rfl <;> rfl)
    (by simp) (by rfl) (by rfl)]
  rfl

section
variable {x c b : Nat} {d : Dev}

/-- A mask of one channel has it wait for the tick. -/
theorem lsPendAll_one (hc : c < 6) (hrun : dieRuns d x = true) (hlead : lsLead (d.di x) c = c) : lsPendAll x b (2 ^ c) d = lsPend x c b d := by
  have hone : ∀ c : Fin 6, (List.range 6).filter (bit (2 ^ c.val)) = [c.val] := by decide
  rw [lsPendAll, hone ⟨c, hc⟩]
  exact if_pos (by rw [hrun, hlead]; simp)

theorem lsPendAll_none : lsPendAll x b 0 d = d := rfl

end

section
variable {s : State} (x : DieNo) (c : Fin 6) (hrun : dieRuns s.dev x.val = true) (hlead : lsLead (s.dev.di x.val) c.val = c.val)
  (hr : s.dev.runtimeActs = true)
include hrun hlead hr

theorem exec_lsClr : exec (.lsClrClr .runtimeSafe x (BitVec.ofNat 6 (2 ^ c.val))) s = .next (s.onDev (lsPend x.val c.val 3)) := by
  have hmask : ∀ c : Fin 6, bitsOf (takenBits [LSW.LS_CLR.CLRTH, LSW.LS_CLR.CLR] ((BitVec.ofNat 6 (2 ^ c.val)).toNat % 2 ^ 32)) 8 6 = 0 ∧
      takenBits [LSW.LS_CLR.CLRTH, LSW.LS_CLR.CLR] ((BitVec.ofNat 6 (2 ^ c.val)).toNat % 2 ^ 32) % 64 = 2 ^ c.val := by decide
  show Host.Outcome.next (wr _ _ LSW.LS_CLR.CLR _ s) = _
  rw [wr_lsClr x.isLt hrun hr, (hmask c).1, (hmask c).2]
  exact congrArg (fun d => Host.Outcome.next { s with dev := d }) (lsPendAll_one c.isLt hrun hlead)

theorem exec_lsClrTh : exec (.lsClrClrth .runtimeSafe x (BitVec.ofNat 6 (2 ^ c.val))) s = .next (s.onDev (lsPend x.val c.val 4)) := by
  have hmask : ∀ c : Fin 6, bitsOf (takenBits [LSW.LS_CLR.CLRTH, LSW.LS_CLR.CLR] (256 * (BitVec.ofNat 6 (2 ^ c.val)).toNat % 2 ^ 32)) 8 6 = 2 ^ c.val ∧
      takenBits [LSW.LS_CLR.CLRTH, LSW.LS_CLR.CLR] (256 * (BitVec.ofNat 6 (2 ^ c.val)).toNat % 2 ^ 32) % 64 = 0 := by decide
  show Host.Outcome.next (wr _ _ LSW.LS_CLR.CLR _ s) = _
  rw [wr_lsClr x.isLt hrun hr, (hmask c).1, (hmask c).2]
  exact congrArg (fun d => Host.Outcome.next { s with dev := d }) (lsPendAll_one c.isLt hrun hlead)

end

/-- A command that takes the device to `e`. -/
theorem next_of_dev {s : State} {i : Instr} {f : Dev → Dev} {e : Dev} (hx : exec i s = .next (s.onDev f)) (h : f s.dev = e) :
    exec i s = .next { s with dev := e } := by
  rw [hx, State.onDev, h]

end Sys2Proof.Machine

open Sys2Proof Sys2Proof.Machine

/-- Settles O38: one channel at a tick, as a function of its own state and of what waits for it, and what is found of it between ticks. -/
theorem loadSwitches : Obligations.LoadSwitches := by
  unfold Obligations.LoadSwitches
  intro s x c ma hrun hlen hlead
  have hx := x.isLt
  have hc : c.val < (s.dev.di x.val).ls.length := by rw [hlen]; exact c.isLt
  have htick := switchTick_own hx hlen c.isLt hlead hrun
  have hkeep := fun l => lsTick_keeps (x := x.val) (now := s.dev.tim.mot) hlead l
  have hruns : s.dev.hostActs = true → s.dev.imd.halted = false → s.dev.boot.hold = false → s.dev.runtimeActs = true :=
    fun hhost himd hhold => by simpa [Dev.runtimeActs, Dev.hostActs, himd, hhold] using hhost
  dsimp only
  refine ⟨fun hwant hlatch hoff hpause hdue hpend => ?_, fun hwant => ?_, fun hin hend => ?_, fun hon => ?_, fun hon hfrom hto => ?_,
    fun hon hpend => ⟨fun htry => ?_, fun hlast => ?_⟩, fun h3 h4 => ⟨fun h0 hth => ?_, fun h0 h1 hlatch => ?_⟩, fun hpend => ?_, fun hpend => ?_,
    fun hth p hp hend => ?_, fun u hdue hlatch hwant => ⟨fun hfree => ?_, fun hbusy => ?_⟩, fun hon hth hten => ?_, fun hen => ?_, fun hth => ?_,
    fun hhost himd hhold => ⟨?_, ?_⟩⟩
  · refine ⟨_, rfl, ?_⟩
    rw [State.onDev_dev, htick, LsX.resolved_none hpend, lsTick_on hlead hwant hlatch hoff hpause hdue hpend]
    exact ⟨rfl, rfl, rfl⟩
  · refine ⟨_, rfl, ?_, rfl⟩
    rw [State.onDev_dev, htick]
    exact lsTick_off hlead (.inl hwant)
  · have hown := lsOf_modLs hx hc fun l => { l with run := .on, sinceOn := s.dev.tim.mot }
    exact ⟨_, next_of_dev rfl (if_pos (by simp [hrun, hin, hend])), congrArg LsX.run hown, congrArg LsX.sinceOn hown, rfl, rfl⟩
  · exact ⟨_, next_of_dev rfl (lsOvercurrentTrip_found hrun hlead hon), lsOf_lsPend hx hc 2, rfl, rfl⟩
  · exact ⟨_, next_of_dev rfl (lsHardShort_found hrun hlead hon hfrom hto), lsOf_lsPend hx hc 2, rfl, rfl⟩
  · refine ⟨_, rfl, ?_⟩
    rw [State.onDev_dev, htick, LsX.resolved_trip hpend hon, LsX.tripped, if_neg (Nat.not_le.mpr htry)]
    obtain ⟨hoc, -, -, htries, hpause⟩ := hkeep _
    exact ⟨lsTick_off hlead (.inr (.inr ⟨rfl, rfl⟩)), htries, hpause, hoc, rfl⟩
  · refine ⟨_, rfl, ?_⟩
    rw [State.onDev_dev, htick, LsX.resolved_trip hpend hon, LsX.tripped, if_pos hlast]
    obtain ⟨hoc, -, -, -, hpause⟩ := hkeep _
    exact ⟨lsTick_off hlead (.inr (.inl rfl)), hoc, hpause, rfl⟩
  · refine ⟨_, rfl, ?_⟩
    rw [State.onDev_dev, htick, LsX.resolved_heat h3 h4 h0 hth]
    obtain ⟨-, hfuse, hheat, htries, -⟩ := hkeep _
    exact ⟨hheat, lsTick_off hlead (.inr (.inl (Bool.or_true _))), htries, hfuse, rfl⟩
  · refine ⟨_, rfl, ?_⟩
    rw [State.onDev_dev, htick, LsX.resolved_fuse h3 h4 h0 h1 hlatch]
    obtain ⟨-, hfuse, -, htries, -⟩ := hkeep _
    exact ⟨hfuse, lsTick_off hlead (.inr (.inl (by simp [LsX.latched, LsX.fuseLatched]))), htries, rfl⟩
  · refine ⟨_, rfl, ?_⟩
    rw [State.onDev_dev, htick, LsX.resolved_clear hpend]
    obtain ⟨hoc, hfuse, hheat, -, -⟩ := hkeep _
    exact ⟨hoc, hfuse.trans (by simp only [LsX.clearedOc, ← Nat.not_le, decide_not]), hheat, rfl⟩
  · refine ⟨_, rfl, ?_⟩
    rw [State.onDev_dev, htick, LsX.resolved_clearTh hpend]
    obtain ⟨hoc, -, hheat, -, -⟩ := hkeep _
    exact ⟨hoc.trans LsX.clearedTh_oc, fun hcool hlig => hheat.trans (LsX.clearedTh_cool hcool hlig),
      fun hhot => hheat.trans (LsX.clearedTh_hot hhot), rfl⟩
  · obtain ⟨hown, hact⟩ := lsPauseEnd_ends hx hc hrun (Option.mem_def.mp hp) hend hth
    exact ⟨_, rfl, congrArg LsX.pauseEnd hown, congrArg LsX.dueAt hown, hact, rfl⟩
  · obtain ⟨hstart, hnoted⟩ := lsRetry_starts hx hc hrun (Option.mem_def.mp hdue) hlatch hwant hfree
    exact ⟨_, rfl, hstart, hnoted, rfl⟩
  · exact next_of_dev rfl (lsRetry_waits (Option.mem_def.mp hdue) hbusy)
  · have hreset : lsTryReset x.val c.val s.dev = modLs x.val c.val (fun l => { l with tries := 0 }) s.dev :=
      if_pos (by simp [hrun, hon, hth, hten])
    have hown := lsOf_modLs hx hc fun l => { l with tries := 0 }
    exact ⟨_, next_of_dev rfl hreset, congrArg LsX.tries hown, (congrArg LsX.run hown).trans hon, rfl, rfl⟩
  · obtain ⟨hheat, htrip⟩ := lsFuseUpdate_heats hx hc ma.toNat hrun hlead hen
    refine ⟨_, rfl, hheat, htrip, rfl⟩
  · exact ⟨_, next_of_dev rfl (lsThermalLatch_found hrun hlead hth), lsOf_lsPend hx hc 0, rfl, rfl⟩
  · exact ⟨_, exec_lsClr x c hrun hlead (hruns hhost himd hhold), lsOf_lsPend hx hc 3, rfl⟩
  · exact ⟨_, exec_lsClrTh x c hrun hlead (hruns hhost himd hhold), lsOf_lsPend hx hc 4, rfl⟩
end
